-- ==== Sys2Proof/Word.lean ====
section
/-! DEFINITION. The word types of the model and nothing else: octets, 32-bit registers and the 56-bit times of a
TIMESTAMP's bits [63:8]. What a test could show wrong (conversions, byte orders, CRCs) stands under Machine/. -/

namespace Sys2Proof

/-- One octet (R8, R368). -/
abbrev Byte := BitVec 8

/-- A sequence of octets, first sent or first stored at the head (R5). -/
abbrev Bytes := List Byte

/-- A 32-bit register or nanosecond field (R17, R47). -/
abbrev Word32 := BitVec 32

/-- TIMESTAMP[63:8]: nanoseconds in [55:24], fraction in units of 2^-24 ns in [23:0] (R17, R78). -/
abbrev Time56 := BitVec 56

/-- The 104-bit body [119:16] of a control block, bit 0 of the vector being bit 16 of the block (R58). -/
abbrev Body := BitVec 104

end Sys2Proof
end

