-- ==== Sys2Proof/Syntax.lean ====
section
/-! DEFINITION. The commands of the SZN-4850 as syntax: one constructor of `Instr` per row of spec/opcode_table.json.
The table gives no operands and no bits; an operand here is what the world outside the part supplies with the event:
which lane, port or instance it concerns, the block, message or value that arrives, or the physical quantity measured
(log entry 2). Effects stand under Machine/. -/

namespace Sys2Proof

/-- The path on which a management request reached the part (R387). -/
inductive Path where
  | port (p : Fin 49)   -- ports 0 to 47, and 48 the house port
  | chain
  | hbus
  deriving DecidableEq, Repr

/-- The header fields of a Falri request that the requester chooses (R368), and the source address and the outer VLAN tag of
the Ethernet frame that carried it, without meaning on the other carriages (R381). -/
structure FalriHdr where
  seq  : BitVec 16
  dst  : BitVec 16
  src  : BitVec 16
  hops : BitVec 8
  sa   : BitVec 48
  tag  : Option (BitVec 32)
  deriving DecidableEq, Repr

/-- An item of READ, WRITE, READ_MULTI and WRITE_MULTI (R370). A read carries no value. -/
structure FalriItem where
  index : BitVec 16
  sub   : BitVec 8
  value : Bytes
  deriving DecidableEq, Repr

/-- A BLOCK_READ item (R375). -/
structure BlockReadItem where
  index  : BitVec 16
  sub    : BitVec 8
  offset : BitVec 32
  dlen   : BitVec 16
  deriving DecidableEq, Repr

/-- A BLOCK_WRITE item (R376). DLEN is the length of `data`. -/
structure BlockWriteItem where
  index  : BitVec 16
  sub    : BitVec 8
  flags  : BitVec 8
  offset : BitVec 32
  total  : BitVec 32
  data   : Bytes
  deriving DecidableEq, Repr

/-- A run of receive words of 65 UI in which the receiver sampled one code of its CDR interpolator (R123, R147). -/
structure PhaseRun where
  code  : BitVec 6
  words : Nat
  deriving DecidableEq, Repr

/-- The raw time of a block at a lane's receiver (R79, R147): the Hearth time of the local word edge that latched its bit 129, and the
interpolator codes sampled on the lane since the last time that was taken there, oldest first, the last with that word. -/
structure LineTime where
  tw    : Time56
  codes : List PhaseRun
  deriving DecidableEq, Repr

/-- A `LineTime` on the lane that received the block: the port's own lane, counted from its lowest. -/
structure Arrival extends LineTime where
  lane : Fin 4
  deriving DecidableEq, Repr

/-- One exchange of R96 on a lane: the TS of its REQ, the TS and TURN of the RESP, and the arrival of the RESP. -/
structure SkewEx where
  t1   : Time56
  t3   : Time56
  turn : BitVec 40
  back : LineTime
  deriving DecidableEq, Repr

/-- How a received frame ended (R101, R278, R279). -/
inductive FrameEnd where
  | good
  | fcsError
  | stomped
  | linkError
  | portDown
  deriving DecidableEq, Repr

/-- A best-effort frame as it is received (R66, R256, R260). On an Ethernet port and the house port: its octets from the destination
address to the last before the FCS, and how it ended. On a native port: the descrambled blocks from the one behind START up to END, or
up to the error that ended it, round by round, each with the position that carried it (R77). Then the raw
time of its timestamp point at the ingress (R285), and the time at which that point of a copy that is started by cut-through is in the
selector of its egress (R276). -/
structure Frame where
  octets : Bytes
  rounds : List (List (Fin 4 × BitVec 130))
  fin    : FrameEnd
  tIn    : Arrival
  ctOut  : Time56
  deriving DecidableEq, Repr

/-- The four data blocks behind a CARAVAN block (R71), first to last; none where a block was erased (R97). -/
structure CellBlocks where
  b0 : Option (BitVec 128)
  b1 : Option (BitVec 128)
  b2 : Option (BitVec 128)
  b3 : Option (BitVec 128)
  deriving DecidableEq, Repr

/-- The PTP message types that the part's PTP function acts on (R183, R184). -/
inductive PtpKind where
  | sync | followUp | delayReq | delayResp | announce | management | signalling
  deriving DecidableEq, Repr

/-- A PTP message that reached the part (R182 to R184): its kind, its domainNumber, the transport that carried it in the encoding of
PTP_TRANSPORT, its sourcePortIdentity, the twoStep flag, the originTimestamp (or receiveTimestamp, preciseOriginTimestamp) in ns, the
correctionField in units of 2^-16 ns, its sequenceId, and, of an Announce, whether the default BMCA of IEEE 1588-2019 with that data set
recommends the slave state for the port with the sender as its master. -/
structure PtpMsg where
  kind       : PtpKind
  domain     : BitVec 8
  transport  : BitVec 2
  source     : BitVec 80
  twoStep    : Bool
  origin     : Nat
  correction : Int
  seq        : BitVec 16
  slave      : Bool
  deriving DecidableEq, Repr

/-- What the receiver of a lane in training finds of its own signal at a TRAIN block (R85, R86): the tap requests it
wishes to make, whether its adaptation has converged, and the codes at which it stands: CTLE, VGA, h1 to h12 (R123). -/
structure RxFinding where
  reqCm1    : BitVec 2
  reqC0     : BitVec 2
  reqCp1    : BitVec 2
  converged : Bool
  eq        : List Int
  deriving DecidableEq, Repr

/-- Rising edges that a clock output has shown since the last such command (R213). -/
structure ClkEdges where
  output : Fin 8
  edges  : Nat
  deriving DecidableEq, Repr

/-- Windows of 130 bits of a lane's received stream, bit 129 first, each with the number of times it repeats (R126). -/
structure Windows where
  lane : Fin 48
  runs : List (BitVec 130 × Nat)
  deriving DecidableEq, Repr

/-- What the FIFO of FAR_RETIMED has taken in and given out since the last such command, in bits (R138). -/
structure FifoMove where
  lane    : Fin 48
  written : Nat
  read    : Nat
  deriving DecidableEq, Repr

/-- One row of points of an eye (R130): at which of them the data slicer stands, and at each the bits over which the monitor slicer agreed
with it before the first mismatch. -/
structure EyeRow where
  home  : Nat
  agree : List Nat
  deriving DecidableEq, Repr

/-- A rail that the part watches for itself (R509). -/
inductive WatchedRail where
  | vddCore | vddSram | vddio
  deriving DecidableEq, Repr

/-- Why the crystal-derived tree fails (R201). -/
inductive XoFailure where
  | spllLost | xoAbsent
  deriving DecidableEq, Repr

/-- Why a lane loses block lock (R88). -/
inductive LockLoss where
  | headers | supers | cdr
  deriving DecidableEq, Repr

/-- Which condition of R199 lost a PLL outside a window. -/
inductive PllLossCause where
  | cycleSlip | missingEdge
  deriving DecidableEq, Repr

/-- A clock island with a glitch-free multiplexer (R197, R202). -/
inductive Island where
  | fabric            -- FABRIC and LOOKUP, on the CPLL
  | engine            -- TIMEDIO, ENGINE, DICT and LANTERN, on the EPLL
  | transmit (g : Fin 8)
  deriving DecidableEq, Repr

/-- One calibration of one element (R462). -/
structure CalInst where
  kind : BitVec 8
  inst : BitVec 8
  deriving DecidableEq, Repr

/-- An element that a calibration run finds failed (R469, R472): a slicer of a lane by its bit in the mask of R475, or
a cell of a TDC channel. -/
inductive FailedElement where
  | slicer (bit : Fin 10)
  | cell (c : Fin 80)
  deriving DecidableEq, Repr

/-- What a run measured (R468): its figure, whether an offset lay outside the trim range, the failed element it
identified, the analogue transmit and receive latency (LANE_LAT, 0.01 ps), and the correction of an output's delay in steps of 0.5 ps
(CLKOUT_DELAY, signed). -/
structure CalResult where
  figure     : BitVec 16
  outOfRange : Bool
  failed     : Option FailedElement
  txLat      : BitVec 16
  rxLat      : BitVec 16
  delay      : BitVec 16
  deriving DecidableEq, Repr

/-- What the scrubber finds at one place (R358, R449); or an uncorrectable error strikes it between two visits (log entry 61). -/
inductive ScrubFinding where
  | clean | corrected | uncorrectable | struck
  deriving DecidableEq, Repr

/-- A place that the engine-memory scrubber visits (R449). -/
inductive EngMem where
  | itcm (e : Fin 12)
  | dtcm (e : Fin 12)
  | pantry
  deriving DecidableEq, Repr

/-- The sample that the precise sampler takes of one instruction (R494, R495), but for its PC, NS and engine, which
the part knows. -/
structure Sample where
  pc      : Word32
  lat     : BitVec 16
  cat     : BitVec 8
  mispred : Bool
  trap    : Bool
  irq     : Bool
  addr    : Word32
  deriving DecidableEq, Repr

/-- The path on which a HB came: in-band on TWIN_PORT, or the pins (R415). -/
inductive HbPath where
  | inBand | pins
  deriving DecidableEq, Repr

/-- What an engine's instruction attempts that may trap (R436 to R438, R449): an encoding that is not implemented, a CSR access,
a fetch, a load or a store of a width in octets, and an uncorrectable error found by a fetch or a load. -/
inductive EngEvent where
  | illegal
  | csr (number : BitVec 12) (isWrite : Bool)
  | fetch (address : Word32)
  | load (address : Word32) (width : Fin 5)
  | store (address : Word32) (width : Fin 5)
  | eccFetch (address : Word32)
  | eccLoad (address : Word32)
  deriving DecidableEq, Repr

/-- One command of the block: one constructor per row of spec/opcode_table.json, those without operands last. -/
inductive Instr where
  -- power and reset
  | powerOnReset (straps : BitVec 5)
  | warmReset (straps : BitVec 5)
  | sysReset (path : Path) (value : Byte)
  | railUndervoltage (rail : WatchedRail)
  | bootLoaderStart (ms : Nat)
  -- Hearth
  | abortAcq (coincident : Bool)
  -- Efrov link
  | superframeStart (g : Fin 8)
  | superReceive (lane : Fin 48) (body : Body) (arrival : LineTime)
  | lanemapReceive (lane : Fin 48) (body : Body)
  | trainReceive (lane : Fin 48) (body : Body) (rx : RxFinding)
  | creditReceive (port : Fin 48) (type : Byte) (body : Body)
  | blockError (lane : Fin 48) (block : BitVec 130)
  | timeReqSend (port : Fin 48)
  | timeReqReceive (port : Fin 48) (body : Body) (arrival : Arrival)
  | timeRespSend (port : Fin 48)
  | timeReqDrop (port : Fin 48)
  | timeRespReceive (port : Fin 48) (body : Body) (arrival : Arrival)
  | setSend (port : Fin 48)
  | bitslipDecision (lane : Fin 48) (headers : List (List (BitVec 2)))
  | blockLockConfirm (lane : Fin 48) (headers : List (BitVec 2))
  | superSearchTimeout (lane : Fin 48)
  | trainTimeout (lane : Fin 48)
  | trainingRetry (lane : Fin 48)
  | trainingComplete (lane : Fin 48)
  | skewMeasureDone (port : Fin 48) (lane0 lane1 lane2 lane3 : List SkewEx)
  | blockLockLoss (lane : Fin 48) (cause : LockLoss)
  | laneReadmit (lane : Fin 48)
  | readmitForceExpire (port : Fin 48)
  | retrain (lane : Fin 48)
  | linkAbort (lane : Fin 48) (coincident : Bool)
  -- lanes
  | groupModeWrite (g : Fin 8) (mode : Byte) (n : BitVec 16)
  | autoProbePhase (g : Fin 8)
  | portLock (port : Fin 48) (aligns : List (BitVec 16)) (deskew : BitVec 16) (eq : List (List Int))
  | adaptUpdate (lane : Fin 48) (moves : List Int)
  | divFreeze (windows : Windows)
  | divResume (windows : Windows)
  | eyeSweepDone (lane : Fin 48) (phases thresholds : List EyeRow)
  | rxEqWrite (lane : Fin 48) (value : Bytes)
  | autoPolarity (lane : Fin 48)
  | laneLoopWrite (lane : Fin 48) (value : Byte)
  | lanePrbsWrite (lane : Fin 48) (value : Byte)
  | loopSlip (move : FifoMove)
  -- locking and delay
  | dgdAverage (port : Fin 48) (rounds : List (LineTime × LineTime))
  | routeHoldExpire (port : Fin 48)
  | applySplit (port : Fin 48)
  | applyForward (port : Fin 48)
  | resume (port : Fin 48)
  | routeAbort (port : Fin 48) (coincident : Bool)
  | ppsInEdge (t : Time56)
  | refinWindow (deviationPpb : Int)
  | portAsymCalWrite (port : Fin 48) (value : BitVec 32)
  | portAsymRouteWrite (port : Fin 48) (value : BitVec 64)
  | portRangeModeWrite (port : Fin 48) (value : Byte)
  | ptpSyncSend (port : Fin 48)
  | ptpAnnounceSend (port : Fin 48)
  | ptpMessageReceive (port : Fin 48) (msg : PtpMsg) (arrival : Time56)
  -- clock synthesis
  | lockWindowEnd (pll : Fin 15) (count : Nat)
  | pllLoss (pll : Fin 15) (cause : PllLossCause)
  | acqFail (pll : Fin 15)
  | bandLimitCheck (pll : Fin 15) (count : Nat)
  | clockSwitch (island : Island)
  | opllMultWrite (k : Fin 4) (value : BitVec 16)
  | clkoutEnWrite (n : Fin 8) (value : Byte)
  | clkoutDivWrite (n : Fin 8) (div : BitVec 16) (std : Byte)
  | clkoutPhaseWrite (n : Fin 8) (value : BitVec 32)
  | clkoutStepEveryWrite (n : Fin 8) (value : BitVec 16)
  | clkoutGateClose (n : Fin 8)
  | clkoutOpen (n : Fin 8)
  | clkoutPhaseStep (step : ClkEdges)
  | xoLoss (cause : XoFailure)
  | xoRestore (straps : BitVec 5)
  -- timed I/O
  | tioModeWrite (t : Fin 16) (value : Byte)
  | tioLevelWrite (t : Fin 16) (value : Byte)
  | tioArm (t : Fin 16)
  | disarm (t : Fin 16) (coincident : Bool)
  | capFlush (t : Fin 16)
  | tioRisingEdge (t : Fin 16)
  | tioFallingEdge (t : Fin 16)
  | tioCapture (c : Fin 18) (t : Time56) (rising : Bool)
  | tioCapRead (c : Fin 18)
  | markInEdge (t : Time56)
  -- fast commands
  | cmdReceive (port : Fin 48) (body : Body)
  | slot0Cmd (port : Fin 48)
  | cmdIssue (value : Bytes)
  | lastSeqLapse (iss : Bool)
  | resync (body : Body)
  | pulse (body : Body)
  | levelSet (body : Body)
  | fastArm (body : Body)
  | fastStop (body : Body)
  | snapshot (body : Body)
  | user (body : Body)
  | reservedOpcode (body : Body)
  -- Cellar
  | frameReceive (port : Fin 49) (frame : Frame)
  | egressStart (port : Fin 49) (tOut : Time56)
  | egressEnd (port : Fin 49)
  | ctUnderrun (port : Fin 48)
  | frameStartDeadline (port : Fin 49) (cls : Fin 7)
  | frameEndDeadline (port : Fin 49)
  | pfcRefresh (port : Fin 48) (cls : Fin 7)
  | pfcReceive (port : Fin 48) (enable : BitVec 8) (quanta : BitVec 128)
  | drainFenceWrite (value : BitVec 32)
  -- Caravan
  | caravanSlot (port : Fin 48) (slot : BitVec 12) (lag : Fin 3)
  | caravanReadPoint (port : Fin 48) (slot : BitVec 12)
  | caravanCellReceive (port : Fin 48) (body : Body) (payload : CellBlocks) (arrival : Arrival)
  | bayEntryFree (srcPort : Fin 48) (srcSlot : BitVec 12)
  | caravanCancel (coincident : Bool)
  | lmboxValidWrite (m : Fin 64) (payload : BitVec 512) (userByte : Byte)
  | smboxRelease (m : Fin 64)
  -- tables
  | lookup (r : Fin 4)
  | insert (r : Fin 4)
  | update (r : Fin 4)
  | delete (r : Fin 4)
  | delIfClear (r : Fin 4)
  | readBucket (r : Fin 4)
  | lock (r : Fin 4)
  | unlock (r : Fin 4)
  | fence (r : Fin 4)
  | tcamWrite (r : Fin 4)
  | tcamRead (r : Fin 4)
  | tcamClear (r : Fin 4)
  | unknownOp (r : Fin 4)
  | tdmaHeadWrite (r : Fin 4) (value : BitVec 16)
  | tdmaStart (r : Fin 4)
  | tdmaStop (r : Fin 4)
  | tdmaAbort (r : Fin 4) (coincident : Bool)
  | tdmaReset (r : Fin 4)
  | lockExpire (r : Fin 4) (sub1 : Bool) (bucket : BitVec 15)
  | emAbort (coincident : Bool)
  | emScrub (area : BitVec 2) (index : BitVec 15) (slot : BitVec 2) (finding : ScrubFinding)
  | tcamScrub (row : BitVec 14) (badParity : BitVec 4)
  | tableBlobWrite (index : BitVec 16) (value : Bytes)
  -- dictionary
  | read (path : Path) (hdr : FalriHdr) (item : FalriItem)
  | write (path : Path) (hdr : FalriHdr) (item : FalriItem)
  | readMulti (path : Path) (hdr : FalriHdr) (items : List FalriItem)
  | writeMulti (path : Path) (hdr : FalriHdr) (items : List FalriItem)
  | blockRead (path : Path) (hdr : FalriHdr) (item : BlockReadItem)
  | blockWrite (path : Path) (hdr : FalriHdr) (item : BlockWriteItem)
  | commit (path : Path) (hdr : FalriHdr)
  | discover (path : Path) (hdr : FalriHdr)
  | assignId (path : Path) (hdr : FalriHdr) (serial : BitVec 64) (device : BitVec 16)
  | falriResponse (path : Path) (message : Bytes)
  | notifySend (index : BitVec 16) (sub : BitVec 8)
  | expertSessionWrite (value : Byte)
  | readBufferLapse (slot : Fin 4)
  | mailboxGo (request : Bytes) (notifyEn : Bool)
  | mailboxRelease (clearErr : Bool)
  | chainEnumFrame (value : Byte)
  | gateWrite (path : Path) (ports : BitVec 64) (chain : Byte)
  | commitComplete (verified : Bool)
  | installComplete (verified : Bool)
  | cfgCmdOther (code : Byte)
  | objectWrite (path : Path) (index : BitVec 16) (sub : BitVec 8) (value : Bytes)
  -- hierarchy and twins
  | neighbourPoll (answered : BitVec 48) (adverts : List Bytes)
  | registryFetchDone (registry : Bytes)
  | discoverAnswer (hdr : FalriHdr)
  | discoverResponse (serial : BitVec 64) (device : BitVec 16)
  | devPortExpire (device : BitVec 10)
  | epRegistryWrite (path : Path) (value : Bytes)
  | hbReceive (path : HbPath) (body : Body) (twinFirst : Option Bool)
  | pathDegraded (path : HbPath)
  | abortCopy (coincident : Bool)
  | journalReceive (value : Bytes)
  -- engines and interrupts
  | ecall (e : Fin 12)
  | ebreak (e : Fin 12)
  | wfi (e : Fin 12)
  | trap (e : Fin 12) (event : EngEvent)
  | machineExternalInterrupt (e : Fin 12)
  | htimeNsRead (e : Fin 12)
  | f0cntLoRead (e : Fin 12)
  | userPop (e : Fin 2)
  | irqClaim (e : Fin 12)
  | irqComplete (e : Fin 12) (source : Word32)
  | hostComplete (source : Word32)
  | hostEnWrite (word : Fin 8) (value : Word32)
  | modIntervalEnd (source : Fin 640)
  | hcmpWrite (e : Fin 12) (ns : Option Word32) (en : Option Bool)
  | hcmpTimer (e : Fin 12)
  | wdogKick (e : Fin 12)
  | wdogWarn (e : Fin 12)
  | wdogBite (e : Fin 12)
  | engineRestart (e : Fin 12)
  | engScrub (place : EngMem) (word : Nat) (finding : ScrubFinding)
  | parityError (e : Fin 12)
  | dictWindowLoad (e : Fin 12) (address : Word32)
  | dictWindowStore (e : Fin 12) (address : Word32) (value : Word32)
  | doorbell (value : Word32)
  | swiSet (value : Word32)
  | semRead (requester : Fin 13) (s : Fin 64)
  | semWrite (requester : Fin 13) (s : Fin 64) (value : Word32)
  | userLoad (u : Fin 2)
  | userStart (u : Fin 2)
  | userStop (u : Fin 2)
  | userImageWrite (u : Fin 2) (value : Bytes)
  | preciseSample (e : Fin 12) (sample : Sample)
  | sampleBufRead (e : Fin 12)
  -- calibration
  | calPeriodExpire (i : CalInst)
  | slicerMismatch (lane : Fin 48)
  | calRunStart (i : CalInst) (quiet : Bool)
  | calBoundary (i : CalInst) (result : CalResult)
  | calRetry (i : CalInst) (quiet : Bool)
  | calRun (i : CalInst) (quiet : Bool)
  | calAbort (i : CalInst) (coincident : Bool)
  | clearDefer (i : CalInst)
  -- observation
  | snapCancel (coincident : Bool)
  -- JTAG
  | samplePreload (preload : List Bool)
  | extest (rstLow : Bool)
  | extestPulse (rstLow : Bool)
  | extestTrain (rstLow : Bool)
  | clamp (rstLow : Bool)
  | highz (rstLow : Bool)
  -- thermal and power
  | tempSample (readings : List Int)
  | govTick (rails : List Nat)
  | thermtrip (sensor : Fin 9)
  | curgovTick (milliamps : Nat) (idleCycles : Nat)
  -- more commands of the chapters above
  | cdrLock (lane : Fin 48)
  | railRestore (straps : BitVec 5)
  | extirqEdge (i : Fin 4) (level : Bool)
  | pfcPauseExpiry (port : Fin 48) (priorities : BitVec 8)
  | ptpDelayReqSend (port : Fin 48)
  | autoProbeResume (g : Fin 8)
  | falriErr (path : Path) (message : Bytes)
  | notifyReceive (path : Path) (hdr : FalriHdr) (index : BitVec 16) (sub : BitVec 8) (bits : BitVec 32)
      (time : BitVec 64)
  -- commands without operands
  | nsWrap
  | conditionerUpdate
  | stepCommit
  | acquireComplete
  | servoUpdate
  | sourceLost
  | qualShortExpire
  | qualLongExpire
  | reepoch
  | accept
  | hbusTimeRead
  | sourceRevert
  | refinEdgeMissing
  | refinQualified
  | markRealign
  | ppsOutRise
  | ppsOutFall
  | safeTimeout
  | scheduleCycleStart
  | caravanLoad
  | caravanCheckDone
  | caravanSwap
  | rearm
  | learn
  | migrateToA
  | migrateToB
  | migrationStep
  | autoRehash
  | proxyExpire
  | expertSessionExpire
  | stagingLapse
  | chainEnumerate
  | chainBreak
  | cfgCommit
  | install
  | eraseBoth
  | eraseComplete
  | provRoot
  | discoverSend
  | hbSend
  | leaseExpire
  | takeover
  | startingWaitExpire
  | claim
  | handover
  | handoverTimeout
  | epochSend
  | epochCommit
  | hostClaim
  | snapArm
  | localSnapshot
  | snapComplete
  | lanternSend
  | bypass
  | idcode
  | govRelease
  | thermtripLatchClear
  deriving DecidableEq, Repr

end Sys2Proof
end

