-- ==== Sys2Proof/Config.lean ====
section
/-! DEFINITION. What the spec leaves open: values that nothing in the model constrains. Each is an opaque constant applied
to the counter `free` of the state, which every use advances, or to the operands it depends on (log entry 3). -/

namespace Sys2Proof

/-- The rate that a servo loop writes, in units of 2^-48: the loops are specified by their figures alone (R561). Its operands: whether
the loop of ACQUIRE runs, the bandwidth selected in mHz (R159, R160), and its input in units of 2^-24 ns; then the free counter, for the
internal state that is not specified. -/
opaque Config.servoRate : Bool → Nat → Int → Nat → BitVec 64

/-- The phase of REFIN against the conditioned reference at a servo update, in units of 2^-24 ns (R167): a physical quantity. -/
opaque Config.refPhase : Nat → BitVec 64

/-- The bits of the PTP message header that IEEE 1588-2019 and no rule of the spec fixes (R184). -/
opaque Config.ptpField : Nat → BitVec 64

/-- A loop slip's lost or repeated 64 bits (R138) and other line contents that the spec leaves open. -/
opaque Config.lineBits : Nat → BitVec 64

/-- The SECDED code that stands in bits [7:0] of an exact-match entry's image: its code is not given (R327). -/
opaque Config.secded : Nat → BitVec 8

/-- A number that an effect leaves and the spec does not state: mtval of an illegal instruction, REASON where two are offered
(R437, R445). -/
opaque Config.openValue : Nat → BitVec 32

end Sys2Proof
end

