-- ==== Sys2Proof/Machine/Num.lean ====
section
/-! DEFINITION. Numbers, bit fields, byte orders and check sums: modular time (scope, "Modular-time helpers"), two's
complement, rounding, big-endian and little-endian octets (R5), CRC-16 (R58), CRC-32 (IEEE 802.3) and CRC-8 (R497). -/

namespace Sys2Proof.Machine

/-- Bits [hi:lo] of `v` (R4). -/
def bits (v hi lo : Nat) : Nat := v / 2 ^ lo % 2 ^ (hi - lo + 1)

/-- Bit `b` of `v`. -/
def bit (v b : Nat) : Bool := v.testBit b

/-- A Bool as a bit. -/
def b2n (b : Bool) : Nat := if b then 1 else 0

/-- `v` with bit `b` set or cleared. -/
def setBit (v b : Nat) (x : Bool) : Nat := if x then v ||| 2 ^ b else v - (v &&& 2 ^ b)

/-- `v` without the bits of `m` (R9, W1C). -/
def clearBits (v m : Nat) : Nat := v - (v &&& m)

/-- The signed value of the `w`-bit two's complement number `v` (R8). -/
def toSigned (w v : Nat) : Int := if v % 2 ^ w < 2 ^ (w - 1) then (v % 2 ^ w : Nat) else (v % 2 ^ w : Nat) - (2 ^ w : Int)

/-- The `w`-bit two's complement encoding of `z` (R8). -/
def ofSigned (w : Nat) (z : Int) : Nat := (z % (2 ^ w : Int)).toNat

/-- `a / b` rounded to the nearest integer, halves upward; `b` positive (log entry 5). -/
def roundDiv (a b : Int) : Int := (2 * a + b) / (2 * b)

/-- Signed a − b of nanosecond fields, in −2^31 to 2^31 − 1 (tdiff, "Modular-time helpers"). -/
def tdiff (a b : Nat) : Int := toSigned 32 (((a : Int) - b) % (2 ^ 32 : Int)).toNat

/-- `target` has been reached at `now` (tdue; R12). -/
def tdue (target now : Nat) : Bool := decide (tdiff target now ≤ 0)

/-- Difference of two 56-bit times in units of 2^-24 ns: tdiff on the nanoseconds with the fractions added (R143). -/
def tdiff56 (a b : Time56) : Int := toSigned 56 ((((a.toNat : Int) - b.toNat) % (2 ^ 56 : Int)).toNat)

/-- Picoseconds in units of 2^-24 ns, rounded to nearest (log entry 5). -/
def psToU (ps : Int) : Int := roundDiv (ps * 16777216) 1000

/-- Units of 2^-24 ns in picoseconds, rounded to nearest. -/
def uToPs (u : Int) : Int := roundDiv (u * 1000) 16777216

/-- |z| as a natural number. -/
def mag (z : Int) : Nat := z.natAbs

/-- The least of a nonempty list, 0 of an empty one. -/
def minI : List Int → Int
  | [] => 0
  | x :: xs => xs.foldl min x

/-- The greatest of a nonempty list, 0 of an empty one. -/
def maxI : List Int → Int
  | [] => 0
  | x :: xs => xs.foldl max x

/-- The sum of a list. -/
def sumI (l : List Int) : Int := l.foldl (· + ·) 0

/-- The mean of a list, rounded to nearest, 0 of an empty one. -/
def meanI (l : List Int) : Int := if l.length = 0 then 0 else roundDiv (sumI l) l.length

/-- The least natural r with r * r ≥ n. -/
def sqrtUp (n : Nat) : Nat := let r := Nat.sqrt n; if r * r = n then r else r + 1

/-- Insertion into a rising list. -/
def insertInt (x : Int) : List Int → List Int
  | [] => [x]
  | y :: ys => if x ≤ y then x :: y :: ys else y :: insertInt x ys

/-- A list in rising order. -/
def sortInt : List Int → List Int
  | [] => []
  | x :: xs => insertInt x (sortInt xs)

/-- The middle element of a list, 0 of an empty one. -/
def medianI (l : List Int) : Int := (sortInt l).getD (l.length / 2) 0

/-- `v` as `n` octets, most significant first (R5). -/
def beBytes : Nat → Nat → Bytes
  | 0, _ => []
  | n + 1, v => BitVec.ofNat 8 (v / 256 ^ n) :: beBytes n v

/-- The number that octets spell, most significant first (R5). -/
def ofBe (l : Bytes) : Nat := l.foldl (fun a b => a * 256 + b.toNat) 0

/-- `v` as `n` octets, least significant first (R5, engine memory and HBUS). -/
def leBytes : Nat → Nat → Bytes
  | 0, _ => []
  | n + 1, v => BitVec.ofNat 8 v :: leBytes n (v / 256)

/-- The number that octets spell, least significant first. -/
def ofLe : Bytes → Nat
  | [] => 0
  | b :: r => b.toNat + 256 * ofLe r

/-- The 13 octets of a control block's body, bits [119:112] first (R58, R5). -/
def bodyBytes (b : Body) : Bytes := beBytes 13 b.toNat

/-- Bits [hi:lo] of a control block, numbered as in the block: the body is [119:16] (R58). -/
def blk (b : Body) (hi lo : Nat) : Nat := bits b.toNat (hi - 16) (lo - 16)

/-- A field placed at bit `lo` of a control block. -/
def fld (lo w v : Nat) : Nat := v % 2 ^ w * 2 ^ (lo - 16)

/-- One step of a CRC of width `w`, most significant bit first, over one data bit. -/
def crcBit (w poly c : Nat) (d : Bool) : Nat :=
  let top := Bool.xor (c.testBit (w - 1)) d
  let c' := c * 2 % 2 ^ w
  if top then c' ^^^ poly else c'

/-- A CRC of width `w` over the bits of one octet, most significant first. -/
def crcByte (w poly : Nat) (c : Nat) (b : Byte) : Nat :=
  [7, 6, 5, 4, 3, 2, 1, 0].foldl (fun c i => crcBit w poly c (b.toNat.testBit i)) c

/-- A CRC over octets, not reflected, from `init`. -/
def crcBytes (w poly init : Nat) (l : Bytes) : Nat := l.foldl (crcByte w poly) init

/-- CRC-16 of R58: polynomial 0x1021, initial value 0xFFFF, not reflected, not complemented. -/
def crc16 (l : Bytes) : Nat := crcBytes 16 0x1021 0xFFFF l

/-- CRC-8 of R497: x^8 + x^2 + x + 1, initial value 0. -/
def crc8 (l : Bytes) : Nat := crcBytes 8 0x07 0 l

/-- One octet of the reflected CRC-32 of IEEE 802.3. -/
def crc32Byte (c : Nat) (b : Byte) : Nat :=
  [0, 1, 2, 3, 4, 5, 6, 7].foldl
    (fun c _ => if c % 2 = 1 then c / 2 ^^^ 0xEDB88320 else c / 2) (c ^^^ b.toNat)

/-- CRC-32 with the IEEE 802.3 polynomial, in its usual form (R390, R444; log entry 6). -/
def crc32 (l : Bytes) : Nat := l.foldl crc32Byte 0xFFFFFFFF ^^^ 0xFFFFFFFF

/-- A configuration record (R390): INDEX, SUB, TYPE, VLEN and the value, padded with zeros to a multiple of 4. -/
def recordBytes (index sub type : Nat) (v : Bytes) : Bytes :=
  beBytes 2 index ++ beBytes 1 sub ++ beBytes 1 type ++ beBytes 4 v.length ++ v ++ List.replicate ((4 - v.length % 4) % 4) 0

end Sys2Proof.Machine
end

