-- ==== Sys2Proof/Machine/Objects.lean ====
section
/-! DEFINITION. The objects of the dictionary: index, subindices, type, access code, default and stated range of each,
as the object tables of the spec give them (R7 to R9, R363, R364). A default of the tables that reads "—" stands here
as 0 (log entry 4). Ranges that depend on another object, and the objects' own rules, stand in Dictionary.lean. -/

namespace Sys2Proof.Machine

/-- The types of R8, in its order. -/
inductive Ty where
  | bool | u8 | u16 | u32 | u64 | i32 | i64 | timestamp | rate | string | blob
  deriving DecidableEq, Repr

/-- The access codes of R9. -/
inductive Acc where
  | ro | rw | rws | wo | w1c | rc | rol | const
  deriving DecidableEq, Repr

/-- One row of an object table: the first and the last index, the lowest and the highest subindex that hold a value,
type, access, EXP, default, the stated range as a union of intervals (empty: the whole type) and, of a BLOB or STRING,
the greatest length. -/
structure Obj where
  index  : Nat
  last   : Nat
  lo     : Nat
  hi     : Nat
  ty     : Ty
  acc    : Acc
  exp    : Bool
  dflt   : Nat
  range  : List (Int × Int)
  maxLen : Nat
  deriving DecidableEq, Repr

/-- Width of a type in octets (R8); 0 of STRING and BLOB. -/
def Ty.bytes : Ty → Nat
  | .bool | .u8 => 1
  | .u16 => 2
  | .u32 | .i32 => 4
  | .u64 | .i64 | .timestamp | .rate => 8
  | .string | .blob => 0

/-- The types whose values are signed (R8). -/
def Ty.signed : Ty → Bool
  | .i32 | .i64 | .rate => true
  | _ => false

/-- The number of the type in a configuration record (R390). -/
def Ty.code : Ty → Nat
  | .bool => 0 | .u8 => 1 | .u16 => 2 | .u32 => 3 | .u64 => 4 | .i32 => 5 | .i64 => 6 | .timestamp => 7 | .rate => 8
  | .string => 9 | .blob => 10

/-- Where the value of subindex `sub` of an object is kept. -/
def Obj.key (o : Obj) (sub : Nat) : Nat := o.index * 256 + sub

namespace O

/-- 0x2010 HEARTH_TIME (R50). -/
def HEARTH_TIME : Obj := ⟨0x2010, 0x2010, 1, 1, .timestamp, .ro, false, 0, [], 0⟩

/-- 0x2010 HEARTH_WRAP (R50). -/
def HEARTH_WRAP : Obj := ⟨0x2010, 0x2010, 2, 2, .u32, .ro, false, 0, [], 0⟩

/-- 0x2010 HEARTH_RATE (R50). -/
def HEARTH_RATE : Obj := ⟨0x2010, 0x2010, 3, 3, .rate, .rw, false, 0, [(-56294995342, 56294995342)], 0⟩

/-- 0x2010 HEARTH_STATE (R50). -/
def HEARTH_STATE : Obj := ⟨0x2010, 0x2010, 4, 4, .u8, .ro, false, 7, [], 0⟩

/-- 0x2010 HEARTH_FLAGS (R50). -/
def HEARTH_FLAGS : Obj := ⟨0x2010, 0x2010, 5, 5, .u32, .w1c, false, 0, [], 0⟩

/-- 0x2010 HEARTH_OFFSET (R50). -/
def HEARTH_OFFSET : Obj := ⟨0x2010, 0x2010, 6, 6, .i64, .ro, false, 0, [], 0⟩

/-- 0x2010 HEARTH_SLEW (R50). -/
def HEARTH_SLEW : Obj := ⟨0x2010, 0x2010, 7, 7, .rate, .ro, false, 0, [], 0⟩

/-- 0x2010 HEARTH_INC (R50). -/
def HEARTH_INC : Obj := ⟨0x2010, 0x2010, 8, 8, .u64, .ro, false, 0, [], 0⟩

/-- 0x2010 HEARTH_STEP (R50). -/
def HEARTH_STEP : Obj := ⟨0x2010, 0x2010, 9, 9, .i64, .ro, false, 0, [], 0⟩

/-- 0x2020 JUMP_LIMIT (R50). -/
def JUMP_LIMIT : Obj := ⟨0x2020, 0x2020, 1, 1, .u32, .rws, false, 0x7d0, [(50, 1000000000)], 0⟩

/-- 0x2020 SLEW_MAX (R50). -/
def SLEW_MAX : Obj := ⟨0x2020, 0x2020, 2, 2, .u32, .rws, false, 0xc8, [(1, 10000)], 0⟩

/-- 0x2020 REF_RETURN_POLICY (R50). -/
def REF_RETURN_POLICY : Obj := ⟨0x2020, 0x2020, 3, 3, .u8, .rws, false, 0, [(0, 2)], 0⟩

/-- 0x2020 QUAL_SHORT (R50). -/
def QUAL_SHORT : Obj := ⟨0x2020, 0x2020, 4, 4, .u32, .rws, false, 0x3e8, [(100, 60000)], 0⟩

/-- 0x2020 QUAL_LONG (R50). -/
def QUAL_LONG : Obj := ⟨0x2020, 0x2020, 5, 5, .u32, .rws, false, 0xea60, [(1000, 3600000)], 0⟩

/-- 0x2020 QUAL_BAND (R50). -/
def QUAL_BAND : Obj := ⟨0x2020, 0x2020, 6, 6, .u32, .rws, false, 0xc8, [(10, 1000000)], 0⟩

/-- 0x2020 FREE_RATE (R50). -/
def FREE_RATE : Obj := ⟨0x2020, 0x2020, 7, 7, .rate, .rws, false, 0, [(-56294995342, 56294995342)], 0⟩

/-- 0x2020 REEPOCH_ALLOW_BACK (R50). -/
def REEPOCH_ALLOW_BACK : Obj := ⟨0x2020, 0x2020, 8, 8, .bool, .rw, true, 0, [], 0⟩

/-- 0x2030 HEARTH_CMD (R50). -/
def HEARTH_CMD : Obj := ⟨0x2030, 0x2030, 0, 0, .u8, .wo, false, 0, [], 0⟩

/-- 0x2031 HEARTH_CMD_STATUS (R50). -/
def HEARTH_CMD_STATUS : Obj := ⟨0x2031, 0x2031, 0, 0, .u16, .ro, false, 0, [], 0⟩

/-- 0x3400 LINK_STATE (R102). -/
def LINK_STATE : Obj := ⟨0x3400, 0x3400, 1, 48, .u8, .ro, false, 0, [], 0⟩

/-- 0x3401 LINK_SLIP (R102). -/
def LINK_SLIP : Obj := ⟨0x3401, 0x3401, 1, 48, .u8, .ro, false, 0, [], 0⟩

/-- 0x3402 LINK_DESKEW (R102). -/
def LINK_DESKEW : Obj := ⟨0x3402, 0x3402, 1, 48, .u8, .ro, false, 0, [], 0⟩

/-- 0x3403 LINK_TX_LAT (R102). -/
def LINK_TX_LAT : Obj := ⟨0x3403, 0x3403, 1, 48, .u64, .ro, false, 0, [], 0⟩

/-- 0x3404 LINK_RX_LAT (R102). -/
def LINK_RX_LAT : Obj := ⟨0x3404, 0x3404, 1, 48, .u64, .ro, false, 0, [], 0⟩

/-- 0x3405 LINK_LANE_SKEW (R102). -/
def LINK_LANE_SKEW : Obj := ⟨0x3405, 0x3405, 1, 48, .i64, .ro, false, 0, [], 0⟩

/-- 0x3406 LINK_CMD (R102). -/
def LINK_CMD : Obj := ⟨0x3406, 0x3406, 1, 48, .u8, .wo, false, 0, [], 0⟩

/-- 0x3407 LINK_CMD_STATUS (R102). -/
def LINK_CMD_STATUS : Obj := ⟨0x3407, 0x3407, 1, 48, .u16, .ro, false, 0, [], 0⟩

/-- 0x3408 LINK_FLAGS (R102). -/
def LINK_FLAGS : Obj := ⟨0x3408, 0x3408, 1, 48, .u32, .w1c, false, 0, [], 0⟩

/-- 0x3410 PORT_WIDTH (R102). -/
def PORT_WIDTH : Obj := ⟨0x3410, 0x3410, 1, 48, .u8, .rws, false, 1, [(1, 2), (4, 4)], 0⟩

/-- 0x3411 PORT_ACTIVE (R102). -/
def PORT_ACTIVE : Obj := ⟨0x3411, 0x3411, 1, 48, .u8, .ro, false, 0, [], 0⟩

/-- 0x3412 PORT_TIMING_POS (R102). -/
def PORT_TIMING_POS : Obj := ⟨0x3412, 0x3412, 1, 48, .u8, .ro, false, 0, [], 0⟩

/-- 0x3413 PORT_PEER (R102). -/
def PORT_PEER : Obj := ⟨0x3413, 0x3413, 1, 48, .u32, .ro, false, 0, [], 0⟩

/-- 0x3414 PORT_TIME_INTERVAL (R102). -/
def PORT_TIME_INTERVAL : Obj := ⟨0x3414, 0x3414, 1, 48, .u16, .rws, false, 1, [(1, 256)], 0⟩

/-- 0x3420 TRAIN_TIMEOUT (R102). -/
def TRAIN_TIMEOUT : Obj := ⟨0x3420, 0x3420, 0, 0, .u32, .rws, false, 0x1f4, [(50, 10000)], 0⟩

/-- 0x3421 READMIT_FORCE (R102). -/
def READMIT_FORCE : Obj := ⟨0x3421, 0x3421, 0, 0, .u32, .rws, false, 0x64, [(1, 10000)], 0⟩

/-- 0x3422 DESKEW_MAX (R102). -/
def DESKEW_MAX : Obj := ⟨0x3422, 0x3422, 0, 0, .u8, .const, false, 0x18, [], 0⟩

/-- 0x3000 GROUP_MODE (R140). -/
def GROUP_MODE : Obj := ⟨0x3000, 0x3000, 1, 8, .u8, .rws, false, 0xfe, [(0, 3), (254, 255)], 0⟩

/-- 0x3001 GROUP_N (R140). -/
def GROUP_N : Obj := ⟨0x3001, 0x3001, 1, 8, .u16, .rws, false, 0, [(0, 4095)], 0⟩

/-- 0x3002 GROUP_RATE_ACT (R140). -/
def GROUP_RATE_ACT : Obj := ⟨0x3002, 0x3002, 1, 8, .u32, .ro, false, 0, [], 0⟩

/-- 0x3003 NATIVE_TARGET (R140). -/
def NATIVE_TARGET : Obj := ⟨0x3003, 0x3003, 0, 0, .u32, .rws, false, 0x64c8, [(9800, 28200)], 0⟩

/-- 0x3010 PORT_FEC (R140). -/
def PORT_FEC : Obj := ⟨0x3010, 0x3010, 1, 48, .u8, .rws, false, 0xff, [(0, 3), (255, 255)], 0⟩

/-- 0x3011 PORT_IFACE (R140). -/
def PORT_IFACE : Obj := ⟨0x3011, 0x3011, 1, 48, .u8, .rws, false, 0, [(0, 1)], 0⟩

/-- 0x3020 TX_TAPS (R140). -/
def TX_TAPS : Obj := ⟨0x3020, 0x3020, 1, 48, .u32, .ro, false, 0xfc2ff4, [], 0⟩

/-- 0x3021 TX_TAP_INIT (R140). -/
def TX_TAP_INIT : Obj := ⟨0x3021, 0x3021, 1, 48, .u32, .rws, false, 0xfc2ff4, [], 0⟩

/-- 0x3022 TX_SWING (R140). -/
def TX_SWING : Obj := ⟨0x3022, 0x3022, 1, 48, .u8, .rws, false, 4, [(0, 8)], 0⟩

/-- 0x3023 LANE_POLARITY (R140). -/
def LANE_POLARITY : Obj := ⟨0x3023, 0x3023, 1, 48, .u8, .rws, false, 4, [(0, 7)], 0⟩

/-- 0x3030 RX_EQ (R140). -/
def RX_EQ : Obj := ⟨0x3030, 0x3030, 1, 48, .blob, .rw, true, 0, [], 16⟩

/-- 0x3031 RX_EQ_TRAINED (R140). -/
def RX_EQ_TRAINED : Obj := ⟨0x3031, 0x3031, 1, 48, .blob, .ro, false, 0, [], 16⟩

/-- 0x3032 ADAPT_MODE (R140). -/
def ADAPT_MODE : Obj := ⟨0x3032, 0x3032, 1, 48, .u8, .rws, false, 0, [(0, 1)], 0⟩

/-- 0x3033 LANE_FLAGS (R140). -/
def LANE_FLAGS : Obj := ⟨0x3033, 0x3033, 1, 48, .u32, .w1c, false, 0, [], 0⟩

/-- 0x3040 LANE_EYE_W (R140). -/
def LANE_EYE_W : Obj := ⟨0x3040, 0x3040, 1, 48, .u8, .ro, false, 0, [], 0⟩

/-- 0x3041 LANE_EYE_H (R140). -/
def LANE_EYE_H : Obj := ⟨0x3041, 0x3041, 1, 48, .u16, .ro, false, 0, [], 0⟩

/-- 0x3042 LANE_QUALITY (R140). -/
def LANE_QUALITY : Obj := ⟨0x3042, 0x3042, 1, 48, .u8, .ro, false, 0, [], 0⟩

/-- 0x3043 LANE_RX_ALIGN (R140). -/
def LANE_RX_ALIGN : Obj := ⟨0x3043, 0x3043, 1, 48, .u16, .ro, false, 0, [], 0⟩

/-- 0x3050 LANE_LOOP (R140). -/
def LANE_LOOP : Obj := ⟨0x3050, 0x3050, 1, 48, .u8, .rw, false, 0, [(0, 3)], 0⟩

/-- 0x3051 LANE_PRBS (R140). -/
def LANE_PRBS : Obj := ⟨0x3051, 0x3051, 1, 48, .u8, .rw, false, 0, [], 0⟩

/-- 0x3052 LANE_PRBS_ERR (R140). -/
def LANE_PRBS_ERR : Obj := ⟨0x3052, 0x3052, 1, 48, .u32, .rc, false, 0, [], 0⟩

/-- 0x3060 EYE_DEPTH (R140). -/
def EYE_DEPTH : Obj := ⟨0x3060, 0x3060, 0, 0, .u8, .rws, false, 0x10, [(16, 30)], 0⟩

/-- 0x3061 LANE_Q_FLOOR (R140). -/
def LANE_Q_FLOOR : Obj := ⟨0x3061, 0x3061, 0, 0, .u8, .rws, false, 0x40, [(1, 255)], 0⟩

/-- 0x3062 ADAPT_GUARD (R140). -/
def ADAPT_GUARD : Obj := ⟨0x3062, 0x3062, 0, 0, .u8, .const, false, 8, [], 0⟩

/-- 0x3063 DIV_FREEZE (R140). -/
def DIV_FREEZE : Obj := ⟨0x3063, 0x3063, 0, 0, .u32, .const, false, 0x10000, [], 0⟩

/-- 0x2040 SERVO_BW (R186). -/
def SERVO_BW : Obj := ⟨0x2040, 0x2040, 0, 0, .u8, .rws, false, 2, [(0, 4)], 0⟩

/-- 0x2041 UPSTREAM_PORT (R186). -/
def UPSTREAM_PORT : Obj := ⟨0x2041, 0x2041, 0, 0, .u8, .ro, false, 0xff, [], 0⟩

/-- 0x2042 UPSTREAM_ALT (R186). -/
def UPSTREAM_ALT : Obj := ⟨0x2042, 0x2042, 0, 0, .u8, .ro, false, 0xff, [], 0⟩

/-- 0x2043 SEL_REVERT (R186). -/
def SEL_REVERT : Obj := ⟨0x2043, 0x2043, 0, 0, .bool, .rws, false, 0, [], 0⟩

/-- 0x2044 EXTREF_MODE (R186). -/
def EXTREF_MODE : Obj := ⟨0x2044, 0x2044, 0, 0, .u8, .rws, false, 0, [(0, 2)], 0⟩

/-- 0x2045 HOLD_AVG (R186). -/
def HOLD_AVG : Obj := ⟨0x2045, 0x2045, 0, 0, .u16, .rws, false, 0x3c, [(10, 3600)], 0⟩

/-- 0x2046 HOLD_RATE (R186). -/
def HOLD_RATE : Obj := ⟨0x2046, 0x2046, 0, 0, .rate, .ro, false, 0, [], 0⟩

/-- 0x2047 HOLD_FREQ_ERR (R186). -/
def HOLD_FREQ_ERR : Obj := ⟨0x2047, 0x2047, 0, 0, .u32, .rws, false, 0x3e8, [(0, 1000000000)], 0⟩

/-- 0x2048 HOLD_AGING (R186). -/
def HOLD_AGING : Obj := ⟨0x2048, 0x2048, 0, 0, .u32, .rws, false, 0xa, [(0, 1000000000)], 0⟩

/-- 0x2049 STEP_MIN (R186). -/
def STEP_MIN : Obj := ⟨0x2049, 0x2049, 0, 0, .u32, .rws, false, 0x64, [(20, 1000000)], 0⟩

/-- 0x204A PTP_EPOCH (R186). -/
def PTP_EPOCH : Obj := ⟨0x204A, 0x204A, 0, 0, .i64, .rw, false, 0, [], 0⟩

/-- 0x204B ACC_BOUND (R186). -/
def ACC_BOUND : Obj := ⟨0x204B, 0x204B, 0, 0, .u32, .ro, false, 0xffffffff, [], 0⟩

/-- 0x204C ACC_BASE (R186). -/
def ACC_BASE : Obj := ⟨0x204C, 0x204C, 0, 0, .u32, .rws, false, 0x19, [(1, 1000000)], 0⟩

/-- 0x204D ACC_HOP (R186). -/
def ACC_HOP : Obj := ⟨0x204D, 0x204D, 0, 0, .u32, .rws, false, 0xa, [(1, 1000000)], 0⟩

/-- 0x204E ACC_PTP (R186). -/
def ACC_PTP : Obj := ⟨0x204E, 0x204E, 0, 0, .u32, .rws, false, 0x3e8, [(1, 1000000000)], 0⟩

/-- 0x204F EXTREF_DELAY (R186). -/
def EXTREF_DELAY : Obj := ⟨0x204F, 0x204F, 0, 0, .i32, .rws, false, 0, [(-1000000000, 1000000000)], 0⟩

/-- 0x2050 PHASE_AVG (R186). -/
def PHASE_AVG : Obj := ⟨0x2050, 0x2050, 0, 0, .u8, .rws, false, 0x10, [(10, 20)], 0⟩

/-- 0x2051 UPSTREAM_SWITCH (R186). -/
def UPSTREAM_SWITCH : Obj := ⟨0x2051, 0x2051, 0, 0, .u32, .rc, false, 0, [], 0⟩

/-- 0x2100 PORT_TIME_ROLE (R186). -/
def PORT_TIME_ROLE : Obj := ⟨0x2100, 0x2100, 1, 48, .u8, .rws, false, 0, [(0, 2)], 0⟩

/-- 0x2101 UPSTREAM_PRIO (R186). -/
def UPSTREAM_PRIO : Obj := ⟨0x2101, 0x2101, 1, 48, .u8, .rws, false, 0x80, [], 0⟩

/-- 0x2102 PORT_DELTA (R186). -/
def PORT_DELTA : Obj := ⟨0x2102, 0x2102, 1, 48, .i64, .ro, false, 0, [], 0⟩

/-- 0x2103 PORT_OFFSET (R186). -/
def PORT_OFFSET : Obj := ⟨0x2103, 0x2103, 1, 48, .i64, .ro, false, 0, [], 0⟩

/-- 0x2104 PORT_ASYM (R186). -/
def PORT_ASYM : Obj := ⟨0x2104, 0x2104, 1, 48, .i64, .ro, false, 0, [], 0⟩

/-- 0x2105 PORT_ALPHA_MODE (R186). -/
def PORT_ALPHA_MODE : Obj := ⟨0x2105, 0x2105, 1, 48, .u8, .rws, false, 0, [(0, 1)], 0⟩

/-- 0x2106 PORT_ALPHA_FIXED (R186). -/
def PORT_ALPHA_FIXED : Obj := ⟨0x2106, 0x2106, 1, 48, .i64, .rws, false, 0, [(-2814749767106, 2814749767106)], 0⟩

/-- 0x2107 PORT_ALPHA (R186). -/
def PORT_ALPHA : Obj := ⟨0x2107, 0x2107, 1, 48, .i64, .ro, false, 0, [], 0⟩

/-- 0x2108 PORT_ASYM_CAL (R186). -/
def PORT_ASYM_CAL : Obj := ⟨0x2108, 0x2108, 1, 48, .i32, .rws, false, 0, [(-1000000, 1000000)], 0⟩

/-- 0x2109 PORT_ASYM_ROUTE (R186). -/
def PORT_ASYM_ROUTE : Obj := ⟨0x2109, 0x2109, 1, 48, .i64, .rws, false, 0, [], 0⟩

/-- 0x210A PORT_EXT_TX (R186). -/
def PORT_EXT_TX : Obj := ⟨0x210A, 0x210A, 1, 48, .u32, .rws, false, 0, [(0, 1000000)], 0⟩

/-- 0x210B PORT_EXT_RX (R186). -/
def PORT_EXT_RX : Obj := ⟨0x210B, 0x210B, 1, 48, .u32, .rws, false, 0, [(0, 1000000)], 0⟩

/-- 0x210C PORT_PEER_EXT_TX (R186). -/
def PORT_PEER_EXT_TX : Obj := ⟨0x210C, 0x210C, 1, 48, .u32, .rws, false, 0, [(0, 1000000)], 0⟩

/-- 0x210D PORT_PEER_EXT_RX (R186). -/
def PORT_PEER_EXT_RX : Obj := ⟨0x210D, 0x210D, 1, 48, .u32, .rws, false, 0, [(0, 1000000)], 0⟩

/-- 0x210E PORT_ETH_DESKEW (R186). -/
def PORT_ETH_DESKEW : Obj := ⟨0x210E, 0x210E, 1, 48, .u16, .ro, false, 0, [], 0⟩

/-- 0x210F DELAY_OUTLIER (R186). -/
def DELAY_OUTLIER : Obj := ⟨0x210F, 0x210F, 1, 48, .u32, .rc, false, 0, [], 0⟩

/-- 0x2110 LANE_LAMBDA_TX (R186). -/
def LANE_LAMBDA_TX : Obj := ⟨0x2110, 0x2110, 1, 48, .u32, .rws, false, 0, [(0, 0), (1200000, 1700000)], 0⟩

/-- 0x2111 LANE_LAMBDA_RX (R186). -/
def LANE_LAMBDA_RX : Obj := ⟨0x2111, 0x2111, 1, 48, .u32, .rws, false, 0, [(0, 0), (1200000, 1700000)], 0⟩

/-- 0x2120 FIBRE_GROUP_INDEX (R186). -/
def FIBRE_GROUP_INDEX : Obj := ⟨0x2120, 0x2120, 1, 48, .u32, .rws, false, 0x166534, [(1400000, 1500000)], 0⟩

/-- 0x2121 FIBRE_LAMBDA0 (R186). -/
def FIBRE_LAMBDA0 : Obj := ⟨0x2121, 0x2121, 1, 48, .u32, .rws, false, 0x1408e8, [(1250000, 1650000)], 0⟩

/-- 0x2122 FIBRE_S0 (R186). -/
def FIBRE_S0 : Obj := ⟨0x2122, 0x2122, 1, 48, .u32, .rws, false, 0x5c, [(1, 1000)], 0⟩

/-- 0x2130 ROUTE_LIMIT (R186). -/
def ROUTE_LIMIT : Obj := ⟨0x2130, 0x2130, 0, 0, .u32, .rws, false, 0x28, [(10, 1000000)], 0⟩

/-- 0x2131 ROUTE_HOLD (R186). -/
def ROUTE_HOLD : Obj := ⟨0x2131, 0x2131, 0, 0, .u32, .rws, false, 0x2710, [(1000, 600000)], 0⟩

/-- 0x2132 ROUTE_POLICY (R186). -/
def ROUTE_POLICY : Obj := ⟨0x2132, 0x2132, 0, 0, .u8, .rws, false, 0, [(0, 2)], 0⟩

/-- 0x2133 ROUTE_DRIFT (R186). -/
def ROUTE_DRIFT : Obj := ⟨0x2133, 0x2133, 0, 0, .u32, .rws, false, 2, [(0, 1000)], 0⟩

/-- 0x2134 PORT_ROUTE_STATE (R186). -/
def PORT_ROUTE_STATE : Obj := ⟨0x2134, 0x2134, 1, 48, .u8, .ro, false, 0, [], 0⟩

/-- 0x2135 PORT_ROUTE_STEP (R186). -/
def PORT_ROUTE_STEP : Obj := ⟨0x2135, 0x2135, 1, 48, .i64, .ro, false, 0, [], 0⟩

/-- 0x2136 PORT_ROUTE_CMD (R186). -/
def PORT_ROUTE_CMD : Obj := ⟨0x2136, 0x2136, 1, 48, .u8, .wo, false, 0, [], 0⟩

/-- 0x2137 PORT_ROUTE_STATUS (R186). -/
def PORT_ROUTE_STATUS : Obj := ⟨0x2137, 0x2137, 1, 48, .u16, .ro, false, 0, [], 0⟩

/-- 0x2138 PORT_RANGE_MODE (R186). -/
def PORT_RANGE_MODE : Obj := ⟨0x2138, 0x2138, 1, 48, .u8, .rws, false, 0, [(0, 1)], 0⟩

/-- 0x2139 PORT_DGD (R186). -/
def PORT_DGD : Obj := ⟨0x2139, 0x2139, 1, 48, .i64, .ro, false, 0, [], 0⟩

/-- 0x213A PORT_TIME_FLAGS (R186). -/
def PORT_TIME_FLAGS : Obj := ⟨0x213A, 0x213A, 1, 48, .u32, .w1c, false, 0, [], 0⟩

/-- 0x2150 PORT_PTP_MODE (R186). -/
def PORT_PTP_MODE : Obj := ⟨0x2150, 0x2150, 1, 48, .u8, .rws, false, 0xff, [(0, 2), (255, 255)], 0⟩

/-- 0x2151 PTP_TRANSPORT (R186). -/
def PTP_TRANSPORT : Obj := ⟨0x2151, 0x2151, 1, 48, .u8, .rws, false, 0, [(0, 2)], 0⟩

/-- 0x2152 PTP_DOMAIN (R186). -/
def PTP_DOMAIN : Obj := ⟨0x2152, 0x2152, 0, 0, .u8, .rws, false, 0, [(0, 127)], 0⟩

/-- 0x2153 PTP_LOG_SYNC (R186). -/
def PTP_LOG_SYNC : Obj := ⟨0x2153, 0x2153, 0, 0, .i32, .rws, false, 0xfffffffc, [(-7, 1)], 0⟩

/-- 0x2154 PTP_PRIORITY1 (R186). -/
def PTP_PRIORITY1 : Obj := ⟨0x2154, 0x2154, 0, 0, .u8, .rws, false, 0x80, [], 0⟩

/-- 0x2155 PTP_PRIORITY2 (R186). -/
def PTP_PRIORITY2 : Obj := ⟨0x2155, 0x2155, 0, 0, .u8, .rws, false, 0x80, [], 0⟩

/-- 0x5800 CLK_F0 (R219). -/
def CLK_F0 : Obj := ⟨0x5800, 0x5800, 0, 0, .u64, .rws, false, 0x174876e800, [(10000000000, 300000000000), (400000000000, 500000000000)], 0⟩

/-- 0x5801 CLK_M (R219). -/
def CLK_M : Obj := ⟨0x5801, 0x5801, 0, 0, .u8, .ro, false, 0, [], 0⟩

/-- 0x5802 XO_FREQ (R219). -/
def XO_FREQ : Obj := ⟨0x5802, 0x5802, 0, 0, .u8, .ro, false, 0, [], 0⟩

/-- 0x5803 SPLL_VCO (R219). -/
def SPLL_VCO : Obj := ⟨0x5803, 0x5803, 0, 0, .u32, .ro, false, 0, [], 0⟩

/-- 0x5804 CLK_FALLBACK (R219). -/
def CLK_FALLBACK : Obj := ⟨0x5804, 0x5804, 0, 0, .u16, .ro, false, 0, [], 0⟩

/-- 0x5810 PLL_STATE (R219). -/
def PLL_STATE : Obj := ⟨0x5810, 0x5810, 1, 15, .u8, .ro, false, 0, [], 0⟩

/-- 0x5811 PLL_VCO_KHZ (R219). -/
def PLL_VCO_KHZ : Obj := ⟨0x5811, 0x5811, 1, 15, .u32, .ro, false, 0, [], 0⟩

/-- 0x5812 PLL_DIV (R219). -/
def PLL_DIV : Obj := ⟨0x5812, 0x5812, 1, 15, .u32, .ro, false, 0, [], 0⟩

/-- 0x5813 PLL_FLAGS (R219). -/
def PLL_FLAGS : Obj := ⟨0x5813, 0x5813, 1, 15, .u32, .w1c, false, 0, [], 0⟩

/-- 0x5814 PLL_UNLOCKS (R219). -/
def PLL_UNLOCKS : Obj := ⟨0x5814, 0x5814, 1, 15, .u32, .rc, false, 0, [], 0⟩

/-- 0x5820 OPLL_MULT (R219). -/
def OPLL_MULT : Obj := ⟨0x5820, 0x5820, 1, 4, .u16, .rws, false, 0, [], 0⟩

/-- 0x5821 OPLL_STATUS (R219). -/
def OPLL_STATUS : Obj := ⟨0x5821, 0x5821, 1, 4, .u16, .ro, false, 0, [], 0⟩

/-- 0x5830 CLKOUT_EN (R219). -/
def CLKOUT_EN : Obj := ⟨0x5830, 0x5830, 1, 8, .bool, .rws, false, 0, [], 0⟩

/-- 0x5831 CLKOUT_DIV (R219). -/
def CLKOUT_DIV : Obj := ⟨0x5831, 0x5831, 1, 8, .u16, .rws, false, 0, [(0, 4096)], 0⟩

/-- 0x5832 CLKOUT_STD (R219). -/
def CLKOUT_STD : Obj := ⟨0x5832, 0x5832, 1, 8, .u8, .rws, false, 0, [(0, 2)], 0⟩

/-- 0x5833 CLKOUT_PHASE (R219). -/
def CLKOUT_PHASE : Obj := ⟨0x5833, 0x5833, 1, 8, .u32, .rws, false, 0, [], 0⟩

/-- 0x5834 CLKOUT_STEP_EVERY (R219). -/
def CLKOUT_STEP_EVERY : Obj := ⟨0x5834, 0x5834, 1, 8, .u16, .rws, false, 1, [(1, 65535)], 0⟩

/-- 0x5835 CLKOUT_SYNC (R219). -/
def CLKOUT_SYNC : Obj := ⟨0x5835, 0x5835, 1, 8, .u8, .rws, false, 0, [(0, 2)], 0⟩

/-- 0x5836 CLKOUT_FREQ_ACT (R219). -/
def CLKOUT_FREQ_ACT : Obj := ⟨0x5836, 0x5836, 1, 8, .u32, .ro, false, 0, [], 0⟩

/-- 0x5837 CLKOUT_PHASE_ACT (R219). -/
def CLKOUT_PHASE_ACT : Obj := ⟨0x5837, 0x5837, 1, 8, .u32, .ro, false, 0, [], 0⟩

/-- 0x5838 CLKOUT_GATE (R219). -/
def CLKOUT_GATE : Obj := ⟨0x5838, 0x5838, 1, 8, .u8, .ro, false, 0, [], 0⟩

/-- 0x5840 REFIN_FREQ (R219). -/
def REFIN_FREQ : Obj := ⟨0x5840, 0x5840, 0, 0, .u8, .rws, false, 0, [(0, 1)], 0⟩

/-- 0x5841 REFIN_TOL (R219). -/
def REFIN_TOL : Obj := ⟨0x5841, 0x5841, 0, 0, .u16, .rws, false, 0x64, [(1, 1000)], 0⟩

/-- 0x5842 REFIN_QUAL (R219). -/
def REFIN_QUAL : Obj := ⟨0x5842, 0x5842, 0, 0, .u32, .rws, false, 0x7d0, [(200, 60000)], 0⟩

/-- 0x5843 REFIN_STATE (R219). -/
def REFIN_STATE : Obj := ⟨0x5843, 0x5843, 0, 0, .u8, .ro, false, 0, [], 0⟩

/-- 0x5000 TIO_MODE (R250). -/
def TIO_MODE : Obj := ⟨0x5000, 0x5000, 1, 16, .u8, .rws, false, 0, [(0, 5)], 0⟩

/-- 0x5001 TIO_POL (R250). -/
def TIO_POL : Obj := ⟨0x5001, 0x5001, 1, 16, .bool, .rws, false, 0, [], 0⟩

/-- 0x5002 TIO_TIMEBASE (R250). -/
def TIO_TIMEBASE : Obj := ⟨0x5002, 0x5002, 1, 16, .u8, .rws, false, 0, [(0, 1)], 0⟩

/-- 0x5003 TIO_T0 (R250). -/
def TIO_T0 : Obj := ⟨0x5003, 0x5003, 1, 16, .timestamp, .rw, false, 0, [], 0⟩

/-- 0x5004 TIO_PERIOD (R250). -/
def TIO_PERIOD : Obj := ⟨0x5004, 0x5004, 1, 16, .u64, .rws, false, 0, [], 0⟩

/-- 0x5005 TIO_F0_PHASE (R250). -/
def TIO_F0_PHASE : Obj := ⟨0x5005, 0x5005, 1, 16, .u32, .rws, false, 0, [], 0⟩

/-- 0x5006 TIO_OFFSET (R250). -/
def TIO_OFFSET : Obj := ⟨0x5006, 0x5006, 1, 16, .u32, .rws, false, 0, [], 0⟩

/-- 0x5007 TIO_WIDTH (R250). -/
def TIO_WIDTH : Obj := ⟨0x5007, 0x5007, 1, 16, .u64, .rws, false, 0x186a0, [(2000, 1000000000000)], 0⟩

/-- 0x5008 TIO_COUNT (R250). -/
def TIO_COUNT : Obj := ⟨0x5008, 0x5008, 1, 16, .u32, .rws, false, 0, [], 0⟩

/-- 0x5009 TIO_CMD (R250). -/
def TIO_CMD : Obj := ⟨0x5009, 0x5009, 1, 16, .u8, .wo, false, 0, [], 0⟩

/-- 0x500A TIO_STATUS (R250). -/
def TIO_STATUS : Obj := ⟨0x500A, 0x500A, 1, 16, .u16, .ro, false, 0, [], 0⟩

/-- 0x500B TIO_LEVEL (R250). -/
def TIO_LEVEL : Obj := ⟨0x500B, 0x500B, 1, 16, .u8, .rw, false, 0, [(0, 1)], 0⟩

/-- 0x500C TIO_SAFE_LEVEL (R250). -/
def TIO_SAFE_LEVEL : Obj := ⟨0x500C, 0x500C, 1, 16, .u8, .rws, false, 2, [(0, 2)], 0⟩

/-- 0x500D TIO_EDGE (R250). -/
def TIO_EDGE : Obj := ⟨0x500D, 0x500D, 1, 18, .u8, .rws, false, 1, [(1, 3)], 0⟩

/-- 0x500E TIO_CAP (R250). -/
def TIO_CAP : Obj := ⟨0x500E, 0x500E, 1, 18, .blob, .rc, false, 0, [], 16⟩

/-- 0x500F TIO_CAP_FILL (R250). -/
def TIO_CAP_FILL : Obj := ⟨0x500F, 0x500F, 1, 18, .u8, .ro, false, 0, [], 0⟩

/-- 0x5010 TIO_DELAY (R250). -/
def TIO_DELAY : Obj := ⟨0x5010, 0x5010, 1, 18, .i32, .rws, false, 0, [(-1000000, 1000000)], 0⟩

/-- 0x5011 TIO_FLAGS (R250). -/
def TIO_FLAGS : Obj := ⟨0x5011, 0x5011, 1, 18, .u32, .w1c, false, 0, [], 0⟩

/-- 0x5012 TIO_MISSED (R250). -/
def TIO_MISSED : Obj := ⟨0x5012, 0x5012, 1, 18, .u32, .rc, false, 0, [], 0⟩

/-- 0x5013 TIO_TDC_MODE (R250). -/
def TIO_TDC_MODE : Obj := ⟨0x5013, 0x5013, 1, 18, .u8, .ro, false, 0, [], 0⟩

/-- 0x5100 F0_CNT (R250). -/
def F0_CNT : Obj := ⟨0x5100, 0x5100, 0, 0, .u64, .ro, false, 0, [], 0⟩

/-- 0x5101 MC_LEN (R250). -/
def MC_LEN : Obj := ⟨0x5101, 0x5101, 0, 0, .u32, .rws, false, 1, [(1, 16777216)], 0⟩

/-- 0x5102 MC_LEN_ACT (R250). -/
def MC_LEN_ACT : Obj := ⟨0x5102, 0x5102, 0, 0, .u32, .ro, false, 1, [], 0⟩

/-- 0x5103 MC_PHASE (R250). -/
def MC_PHASE : Obj := ⟨0x5103, 0x5103, 0, 0, .u32, .ro, false, 0, [], 0⟩

/-- 0x5104 MC_COUNT (R250). -/
def MC_COUNT : Obj := ⟨0x5104, 0x5104, 0, 0, .u32, .ro, false, 0, [], 0⟩

/-- 0x5105 F0_SKEW (R250). -/
def F0_SKEW : Obj := ⟨0x5105, 0x5105, 0, 0, .i64, .ro, false, 0, [], 0⟩

/-- 0x5106 TIO_SYS_FLAGS (R250). -/
def TIO_SYS_FLAGS : Obj := ⟨0x5106, 0x5106, 0, 0, .u32, .w1c, false, 0, [], 0⟩

/-- 0x5107 TIO_SAFE_TIMEOUT (R250). -/
def TIO_SAFE_TIMEOUT : Obj := ⟨0x5107, 0x5107, 0, 0, .u32, .rws, false, 0, [(0, 0), (100, 60000)], 0⟩

/-- 0x5110 MARK_MODE (R250). -/
def MARK_MODE : Obj := ⟨0x5110, 0x5110, 0, 0, .u8, .rws, false, 0, [(0, 2)], 0⟩

/-- 0x5111 MARK_DELAY (R250). -/
def MARK_DELAY : Obj := ⟨0x5111, 0x5111, 0, 0, .i32, .rws, false, 0, [(-1000000, 1000000)], 0⟩

/-- 0x5112 MARK_CMD (R250). -/
def MARK_CMD : Obj := ⟨0x5112, 0x5112, 0, 0, .u8, .wo, false, 0, [], 0⟩

/-- 0x5113 MARK_LAST (R250). -/
def MARK_LAST : Obj := ⟨0x5113, 0x5113, 0, 0, .timestamp, .rol, false, 0, [], 0⟩

/-- 0x5114 MARK_SLIPS (R250). -/
def MARK_SLIPS : Obj := ⟨0x5114, 0x5114, 0, 0, .u32, .rc, false, 0, [], 0⟩

/-- 0x5120 PPS_OUT_EN (R250). -/
def PPS_OUT_EN : Obj := ⟨0x5120, 0x5120, 0, 0, .bool, .rws, false, 0, [], 0⟩

/-- 0x5121 PPS_OUT_WIDTH (R250). -/
def PPS_OUT_WIDTH : Obj := ⟨0x5121, 0x5121, 0, 0, .u32, .rws, false, 0x5f5e100, [(1000, 500000000)], 0⟩

/-- 0x5122 PPS_OUT_DELAY (R250). -/
def PPS_OUT_DELAY : Obj := ⟨0x5122, 0x5122, 0, 0, .i32, .rws, false, 0, [(-1000000, 1000000)], 0⟩

/-- 0x5123 PPS_IN_LAST (R250). -/
def PPS_IN_LAST : Obj := ⟨0x5123, 0x5123, 0, 0, .timestamp, .rol, false, 0, [], 0⟩

/-- 0x5200 CMD_ISSUE (R250). -/
def CMD_ISSUE : Obj := ⟨0x5200, 0x5200, 0, 0, .blob, .wo, false, 0, [], 16⟩

/-- 0x5201 CMD_ISSUE_STATUS (R250). -/
def CMD_ISSUE_STATUS : Obj := ⟨0x5201, 0x5201, 0, 0, .u16, .ro, false, 0, [], 0⟩

/-- 0x5202 CMD_LEAD (R250). -/
def CMD_LEAD : Obj := ⟨0x5202, 0x5202, 0, 0, .u32, .rws, false, 0xf4240, [(10000, 1000000000)], 0⟩

/-- 0x5203 CMD_NEXT_SEQ (R250). -/
def CMD_NEXT_SEQ : Obj := ⟨0x5203, 0x5203, 0, 0, .u8, .ro, false, 0, [], 0⟩

/-- 0x5204 CMD_LAST_TARGET (R250). -/
def CMD_LAST_TARGET : Obj := ⟨0x5204, 0x5204, 0, 0, .timestamp, .ro, false, 0, [], 0⟩

/-- 0x5205 CMD_LAST (R250). -/
def CMD_LAST : Obj := ⟨0x5205, 0x5205, 0, 0, .blob, .ro, false, 0, [], 13⟩

/-- 0x5206 CMD_EXEC (R250). -/
def CMD_EXEC : Obj := ⟨0x5206, 0x5206, 0, 0, .u32, .rc, false, 0, [], 0⟩

/-- 0x5207 CMD_LATE (R250). -/
def CMD_LATE : Obj := ⟨0x5207, 0x5207, 0, 0, .u32, .rc, false, 0, [], 0⟩

/-- 0x5208 CMD_DUP (R250). -/
def CMD_DUP : Obj := ⟨0x5208, 0x5208, 0, 0, .u32, .rc, false, 0, [], 0⟩

/-- 0x5209 CMD_UNKNOWN (R250). -/
def CMD_UNKNOWN : Obj := ⟨0x5209, 0x5209, 0, 0, .u32, .rc, false, 0, [], 0⟩

/-- 0x3800 PORT_PVID (R293). -/
def PORT_PVID : Obj := ⟨0x3800, 0x3800, 1, 49, .u16, .rws, false, 1, [(1, 4094)], 0⟩

/-- 0x3801 PORT_VLAN_FILTER (R293). -/
def PORT_VLAN_FILTER : Obj := ⟨0x3801, 0x3801, 1, 49, .bool, .rws, false, 1, [], 0⟩

/-- 0x3802 PORT_PCP_MAP (R293). -/
def PORT_PCP_MAP : Obj := ⟨0x3802, 0x3802, 1, 49, .u32, .rws, false, 0xdac688, [], 0⟩

/-- 0x3803 PORT_DEFAULT_CLASS (R293). -/
def PORT_DEFAULT_CLASS : Obj := ⟨0x3803, 0x3803, 1, 49, .u8, .rws, false, 0, [(0, 6)], 0⟩

/-- 0x3804 PORT_PCP_OUT (R293). -/
def PORT_PCP_OUT : Obj := ⟨0x3804, 0x3804, 1, 49, .u32, .rws, false, 0x1ac688, [], 0⟩

/-- 0x3805 PORT_MTU (R293). -/
def PORT_MTU : Obj := ⟨0x3805, 0x3805, 1, 49, .u16, .rws, false, 0x2400, [(1518, 9216)], 0⟩

/-- 0x3806 PORT_VRF (R293). -/
def PORT_VRF : Obj := ⟨0x3806, 0x3806, 1, 48, .u8, .rws, false, 0, [], 0⟩

/-- 0x3807 VLAN_MEMBERS (R293). -/
def VLAN_MEMBERS : Obj := ⟨0x3807, 0x3807, 0, 0, .blob, .rws, false, 0, [], 65536⟩

/-- 0x3808 MC_GROUP (R293). -/
def MC_GROUP : Obj := ⟨0x3808, 0x3808, 0, 0, .blob, .rws, false, 0, [], 32768⟩

/-- 0x3809 NEXTHOP (R293). -/
def NEXTHOP : Obj := ⟨0x3809, 0x3809, 0, 0, .blob, .rws, false, 0, [], 65536⟩

/-- 0x3810 ROUTER_MAC (R293). -/
def ROUTER_MAC : Obj := ⟨0x3810, 0x3810, 0, 0, .u64, .rws, false, 0, [(0, 281474976710655)], 0⟩

/-- 0x3811 EP_MISS_ACTION (R293). -/
def EP_MISS_ACTION : Obj := ⟨0x3811, 0x3811, 0, 0, .u8, .rws, false, 0, [(0, 1)], 0⟩

/-- 0x3812 ROUTE_MISS_ACTION (R293). -/
def ROUTE_MISS_ACTION : Obj := ⟨0x3812, 0x3812, 0, 0, .u8, .rws, false, 0, [(0, 1)], 0⟩

/-- 0x3813 MGMT_CLASS (R293). -/
def MGMT_CLASS : Obj := ⟨0x3813, 0x3813, 0, 0, .u8, .rws, false, 6, [(0, 6)], 0⟩

/-- 0x3814 HOUSE_RATE_ACT (R293). -/
def HOUSE_RATE_ACT : Obj := ⟨0x3814, 0x3814, 0, 0, .u8, .ro, false, 0, [], 0⟩

/-- 0x3815 HOUSE_HOST_MAC (R293). -/
def HOUSE_HOST_MAC : Obj := ⟨0x3815, 0x3815, 0, 0, .u64, .rws, false, 0xffffffffffff, [(0, 281474976710655)], 0⟩

/-- 0x3820 CLASS_K (R293). -/
def CLASS_K : Obj := ⟨0x3820, 0x3820, 1, 7, .i32, .rws, false, 0, [(-6, 3)], 0⟩

/-- 0x3821 PORT_GUARANTEE (R293). -/
def PORT_GUARANTEE : Obj := ⟨0x3821, 0x3821, 0, 0, .u16, .const, false, 0x10, [], 0⟩

/-- 0x3822 MGMT_RESERVE (R293). -/
def MGMT_RESERVE : Obj := ⟨0x3822, 0x3822, 0, 0, .u16, .const, false, 0x400, [], 0⟩

/-- 0x3823 CELLS_FREE (R293). -/
def CELLS_FREE : Obj := ⟨0x3823, 0x3823, 0, 0, .u32, .ro, false, 0, [], 0⟩

/-- 0x3824 CELLS_RETIRED (R293). -/
def CELLS_RETIRED : Obj := ⟨0x3824, 0x3824, 0, 0, .u32, .ro, false, 0, [], 0⟩

/-- 0x3825 LOSSLESS_ALLOC (R293). -/
def LOSSLESS_ALLOC : Obj := ⟨0x3825, 0x3825, 0, 0, .u32, .ro, false, 0, [], 0⟩

/-- 0x3826 NATIVE_CREDIT (R293). -/
def NATIVE_CREDIT : Obj := ⟨0x3826, 0x3826, 1, 48, .u16, .rws, false, 0x20, [(8, 4095)], 0⟩

/-- 0x3827 NATIVE_LOSSLESS (R293). -/
def NATIVE_LOSSLESS : Obj := ⟨0x3827, 0x3827, 1, 48, .u8, .rws, false, 0x7f, [(0, 127)], 0⟩

/-- 0x3828 PFC_ENABLE (R293). -/
def PFC_ENABLE : Obj := ⟨0x3828, 0x3828, 1, 48, .u8, .rws, false, 0, [(0, 127)], 0⟩

/-- 0x3829 PFC_XOFF (R293). -/
def PFC_XOFF : Obj := ⟨0x3829, 0x3829, 1, 48, .u16, .rws, false, 0x40, [(8, 4095)], 0⟩

/-- 0x382A PFC_XON (R293). -/
def PFC_XON : Obj := ⟨0x382A, 0x382A, 1, 48, .u16, .rws, false, 0x20, [(0, 4094)], 0⟩

/-- 0x382B PFC_HEADROOM (R293). -/
def PFC_HEADROOM : Obj := ⟨0x382B, 0x382B, 1, 48, .u16, .rws, false, 0x80, [(8, 4095)], 0⟩

/-- 0x3830 SCHED_STRICT (R293). -/
def SCHED_STRICT : Obj := ⟨0x3830, 0x3830, 1, 49, .u8, .rws, false, 0x40, [(0, 127)], 0⟩

/-- 0x3831 SCHED_WEIGHT (R293). -/
def SCHED_WEIGHT : Obj := ⟨0x3831, 0x3831, 1, 49, .u64, .rws, false, 0xa0a0a0a0a0a0a, [], 0⟩

/-- 0x3832 CT_ENABLE (R293). -/
def CT_ENABLE : Obj := ⟨0x3832, 0x3832, 1, 48, .u8, .rws, false, 0, [(0, 127)], 0⟩

/-- 0x3833 FRAME_TIMEOUT (R293). -/
def FRAME_TIMEOUT : Obj := ⟨0x3833, 0x3833, 0, 0, .u32, .rws, false, 0x7d0, [(100, 1000000)], 0⟩

/-- 0x3834 DRAIN_FENCE (R293). -/
def DRAIN_FENCE : Obj := ⟨0x3834, 0x3834, 0, 0, .u32, .wo, false, 0, [], 0⟩

/-- 0x3835 DRAIN_STATE (R293). -/
def DRAIN_STATE : Obj := ⟨0x3835, 0x3835, 0, 0, .u8, .ro, false, 0, [], 0⟩

/-- 0x3836 DRAIN_OLDEST (R293). -/
def DRAIN_OLDEST : Obj := ⟨0x3836, 0x3836, 0, 0, .u32, .ro, false, 0, [], 0⟩

/-- 0x3837 CELLAR_FLAGS (R293). -/
def CELLAR_FLAGS : Obj := ⟨0x3837, 0x3837, 0, 0, .u32, .w1c, false, 0, [], 0⟩

/-- 0x3840 QUEUE_CELLS (R293). -/
def QUEUE_CELLS : Obj := ⟨0x3840, 0x3840, 1, 49, .blob, .ro, false, 0, [], 28⟩

/-- 0x3841 QUEUE_PEAK (R293). -/
def QUEUE_PEAK : Obj := ⟨0x3841, 0x3841, 1, 49, .blob, .rc, false, 0, [], 28⟩

/-- 0x3900 RX_FRAMES (R295). -/
def RX_FRAMES : Obj := ⟨0x3900, 0x3900, 1, 49, .u64, .rc, false, 0, [], 0⟩

/-- 0x3901 RX_BYTES (R295). -/
def RX_BYTES : Obj := ⟨0x3901, 0x3901, 1, 49, .u64, .rc, false, 0, [], 0⟩

/-- 0x3902 TX_FRAMES (R295). -/
def TX_FRAMES : Obj := ⟨0x3902, 0x3902, 1, 49, .u64, .rc, false, 0, [], 0⟩

/-- 0x3903 TX_BYTES (R295). -/
def TX_BYTES : Obj := ⟨0x3903, 0x3903, 1, 49, .u64, .rc, false, 0, [], 0⟩

/-- 0x3904 DROP_ADMIT (R295). -/
def DROP_ADMIT : Obj := ⟨0x3904, 0x3904, 1, 49, .u32, .rc, false, 0, [], 0⟩

/-- 0x3905 DROP_TIMEOUT (R295). -/
def DROP_TIMEOUT : Obj := ⟨0x3905, 0x3905, 1, 49, .u32, .rc, false, 0, [], 0⟩

/-- 0x3906 DROP_DOWN (R295). -/
def DROP_DOWN : Obj := ⟨0x3906, 0x3906, 1, 49, .u32, .rc, false, 0, [], 0⟩

/-- 0x3907 DROP_VLAN (R295). -/
def DROP_VLAN : Obj := ⟨0x3907, 0x3907, 1, 49, .u32, .rc, false, 0, [], 0⟩

/-- 0x3908 DROP_FORMAT (R295). -/
def DROP_FORMAT : Obj := ⟨0x3908, 0x3908, 1, 49, .u32, .rc, false, 0, [], 0⟩

/-- 0x3909 DROP_MISS (R295). -/
def DROP_MISS : Obj := ⟨0x3909, 0x3909, 1, 49, .u32, .rc, false, 0, [], 0⟩

/-- 0x390A DROP_FILTER (R295). -/
def DROP_FILTER : Obj := ⟨0x390A, 0x390A, 1, 49, .u32, .rc, false, 0, [], 0⟩

/-- 0x390B DROP_EDIT (R295). -/
def DROP_EDIT : Obj := ⟨0x390B, 0x390B, 1, 49, .u32, .rc, false, 0, [], 0⟩

/-- 0x390C DROP_OVERRUN (R295). -/
def DROP_OVERRUN : Obj := ⟨0x390C, 0x390C, 1, 49, .u32, .rc, false, 0, [], 0⟩

/-- 0x390D DROP_HEADROOM (R295). -/
def DROP_HEADROOM : Obj := ⟨0x390D, 0x390D, 1, 49, .u32, .rc, false, 0, [], 0⟩

/-- 0x390E DROP_GOV (R295). -/
def DROP_GOV : Obj := ⟨0x390E, 0x390E, 1, 49, .u32, .rc, false, 0, [], 0⟩

/-- 0x390F TRUNC_DROP (R295). -/
def TRUNC_DROP : Obj := ⟨0x390F, 0x390F, 1, 49, .u32, .rc, false, 0, [], 0⟩

/-- 0x3910 CT_FRAMES (R295). -/
def CT_FRAMES : Obj := ⟨0x3910, 0x3910, 1, 48, .u32, .rc, false, 0, [], 0⟩

/-- 0x3911 CT_STOMP (R295). -/
def CT_STOMP : Obj := ⟨0x3911, 0x3911, 1, 48, .u32, .rc, false, 0, [], 0⟩

/-- 0x3912 CT_UNDERRUN (R295). -/
def CT_UNDERRUN : Obj := ⟨0x3912, 0x3912, 1, 48, .u32, .rc, false, 0, [], 0⟩

/-- 0x3913 RES_INSERTED (R295). -/
def RES_INSERTED : Obj := ⟨0x3913, 0x3913, 1, 48, .u32, .rc, false, 0, [], 0⟩

/-- 0x3914 RES_SKIPPED (R295). -/
def RES_SKIPPED : Obj := ⟨0x3914, 0x3914, 1, 48, .u32, .rc, false, 0, [], 0⟩

/-- 0x3915 CELL_ECC_CORR (R295). -/
def CELL_ECC_CORR : Obj := ⟨0x3915, 0x3915, 0, 0, .u32, .rc, false, 0, [], 0⟩

/-- 0x4000 CARAVAN_CYCLE (R323). -/
def CARAVAN_CYCLE : Obj := ⟨0x4000, 0x4000, 0, 0, .u32, .rws, false, 0x820, [(1, 1048576)], 0⟩

/-- 0x4001 CARAVAN_CYCLE_ACT (R323). -/
def CARAVAN_CYCLE_ACT : Obj := ⟨0x4001, 0x4001, 0, 0, .u32, .ro, false, 0x820, [], 0⟩

/-- 0x4002 CARAVAN_CYCLE_NUM (R323). -/
def CARAVAN_CYCLE_NUM : Obj := ⟨0x4002, 0x4002, 0, 0, .u32, .ro, false, 0, [], 0⟩

/-- 0x4003 CARAVAN_LOAD_AT (R323). -/
def CARAVAN_LOAD_AT : Obj := ⟨0x4003, 0x4003, 0, 0, .u32, .rw, false, 0, [(0, 16777215)], 0⟩

/-- 0x4004 CARAVAN_CMD (R323). -/
def CARAVAN_CMD : Obj := ⟨0x4004, 0x4004, 0, 0, .u8, .wo, false, 0, [], 0⟩

/-- 0x4005 CARAVAN_STATUS (R323). -/
def CARAVAN_STATUS : Obj := ⟨0x4005, 0x4005, 0, 0, .u16, .ro, false, 0, [], 0⟩

/-- 0x4006 CARAVAN_FLAGS (R323). -/
def CARAVAN_FLAGS : Obj := ⟨0x4006, 0x4006, 0, 0, .u32, .w1c, false, 0, [], 0⟩

/-- 0x4007 CARAVAN_GUARD (R323). -/
def CARAVAN_GUARD : Obj := ⟨0x4007, 0x4007, 0, 0, .u32, .rws, false, 0x64, [(0, 1000000)], 0⟩

/-- 0x4008 CARAVAN_BAY_SIZE (R323). -/
def CARAVAN_BAY_SIZE : Obj := ⟨0x4008, 0x4008, 0, 0, .u16, .const, false, 0x4000, [], 0⟩

/-- 0x4009 CARAVAN_BAY_USE (R323). -/
def CARAVAN_BAY_USE : Obj := ⟨0x4009, 0x4009, 0, 0, .u16, .ro, false, 0, [], 0⟩

/-- 0x400A CARAVAN_READ_LEAD (R323). -/
def CARAVAN_READ_LEAD : Obj := ⟨0x400A, 0x400A, 0, 0, .u8, .const, false, 4, [], 0⟩

/-- 0x4010 CARAVAN_SHADOW (R323). -/
def CARAVAN_SHADOW : Obj := ⟨0x4010, 0x4010, 1, 48, .blob, .rws, false, 0, [], 32760⟩

/-- 0x4011 CARAVAN_ACTIVE (R323). -/
def CARAVAN_ACTIVE : Obj := ⟨0x4011, 0x4011, 1, 48, .blob, .ro, false, 0, [], 32760⟩

/-- 0x4012 CARAVAN_BLOCKS (R323). -/
def CARAVAN_BLOCKS : Obj := ⟨0x4012, 0x4012, 1, 48, .u32, .ro, false, 1, [], 0⟩

/-- 0x4013 CARAVAN_LAT (R323). -/
def CARAVAN_LAT : Obj := ⟨0x4013, 0x4013, 1, 48, .blob, .ro, false, 0, [], 12288⟩

/-- 0x4014 CARAVAN_SINK_SHADOW (R323). -/
def CARAVAN_SINK_SHADOW : Obj := ⟨0x4014, 0x4014, 0, 0, .blob, .rws, false, 0, [], 256⟩

/-- 0x4015 CARAVAN_SINK (R323). -/
def CARAVAN_SINK : Obj := ⟨0x4015, 0x4015, 0, 0, .blob, .ro, false, 0, [], 256⟩

/-- 0x4020 CARAVAN_TX_CELLS (R323). -/
def CARAVAN_TX_CELLS : Obj := ⟨0x4020, 0x4020, 1, 48, .u64, .rc, false, 0, [], 0⟩

/-- 0x4021 CARAVAN_RX_CELLS (R323). -/
def CARAVAN_RX_CELLS : Obj := ⟨0x4021, 0x4021, 1, 48, .u64, .rc, false, 0, [], 0⟩

/-- 0x4022 CARAVAN_EMPTY (R323). -/
def CARAVAN_EMPTY : Obj := ⟨0x4022, 0x4022, 1, 48, .u32, .rc, false, 0, [], 0⟩

/-- 0x4023 CARAVAN_LATE (R323). -/
def CARAVAN_LATE : Obj := ⟨0x4023, 0x4023, 1, 48, .u32, .rc, false, 0, [], 0⟩

/-- 0x4024 CARAVAN_UNMAPPED (R323). -/
def CARAVAN_UNMAPPED : Obj := ⟨0x4024, 0x4024, 1, 48, .u32, .rc, false, 0, [], 0⟩

/-- 0x4025 CARAVAN_DISCARD (R323). -/
def CARAVAN_DISCARD : Obj := ⟨0x4025, 0x4025, 1, 48, .u32, .rc, false, 0, [], 0⟩

/-- 0x4026 CARAVAN_WIDTH_DROP (R323). -/
def CARAVAN_WIDTH_DROP : Obj := ⟨0x4026, 0x4026, 1, 48, .u32, .rc, false, 0, [], 0⟩

/-- 0x4027 CARAVAN_DROP_CLK (R323). -/
def CARAVAN_DROP_CLK : Obj := ⟨0x4027, 0x4027, 1, 48, .u32, .rc, false, 0, [], 0⟩

/-- 0x4800 EM_STATE (R359). -/
def EM_STATE : Obj := ⟨0x4800, 0x4800, 0, 0, .u8, .ro, false, 0, [], 0⟩

/-- 0x4801 EM_SEED_A (R359). -/
def EM_SEED_A : Obj := ⟨0x4801, 0x4801, 0, 0, .u64, .rws, false, 0x6c3b91e42f87d05a, [], 0⟩

/-- 0x4802 EM_SEED_B (R359). -/
def EM_SEED_B : Obj := ⟨0x4802, 0x4802, 0, 0, .u64, .rws, false, 0x93d14a2758e2b6c9, [], 0⟩

/-- 0x4803 EM_CMD (R359). -/
def EM_CMD : Obj := ⟨0x4803, 0x4803, 0, 0, .u8, .wo, false, 0, [], 0⟩

/-- 0x4804 EM_STATUS (R359). -/
def EM_STATUS : Obj := ⟨0x4804, 0x4804, 0, 0, .u16, .ro, false, 0, [], 0⟩

/-- 0x4805 EM_USED (R359). -/
def EM_USED : Obj := ⟨0x4805, 0x4805, 0, 0, .u32, .ro, false, 0, [], 0⟩

/-- 0x4806 EM_LEARNED (R359). -/
def EM_LEARNED : Obj := ⟨0x4806, 0x4806, 0, 0, .u32, .ro, false, 0, [], 0⟩

/-- 0x4807 STASH_USED (R359). -/
def STASH_USED : Obj := ⟨0x4807, 0x4807, 0, 0, .u8, .ro, false, 0, [], 0⟩

/-- 0x4808 STASH_HIGH (R359). -/
def STASH_HIGH : Obj := ⟨0x4808, 0x4808, 0, 0, .u8, .rws, false, 0x30, [(1, 64)], 0⟩

/-- 0x4809 EM_AUTO_REHASH (R359). -/
def EM_AUTO_REHASH : Obj := ⟨0x4809, 0x4809, 0, 0, .bool, .rws, false, 1, [], 0⟩

/-- 0x480A MIGRATE_PACE (R359). -/
def MIGRATE_PACE : Obj := ⟨0x480A, 0x480A, 0, 0, .u16, .rws, false, 0x40, [(16, 4096)], 0⟩

/-- 0x480B MIGRATE_LEFT (R359). -/
def MIGRATE_LEFT : Obj := ⟨0x480B, 0x480B, 0, 0, .u32, .ro, false, 0, [], 0⟩

/-- 0x480C TABLE_COMMIT (R359). -/
def TABLE_COMMIT : Obj := ⟨0x480C, 0x480C, 0, 0, .u32, .ro, false, 0, [], 0⟩

/-- 0x480D TABLE_FLAGS (R359). -/
def TABLE_FLAGS : Obj := ⟨0x480D, 0x480D, 0, 0, .u32, .w1c, false, 0, [], 0⟩

/-- 0x480E EM_ECC_LAST (R359). -/
def EM_ECC_LAST : Obj := ⟨0x480E, 0x480E, 0, 0, .u32, .rol, false, 0, [], 0⟩

/-- 0x480F EM_ECC_CORR (R359). -/
def EM_ECC_CORR : Obj := ⟨0x480F, 0x480F, 0, 0, .u32, .rc, false, 0, [], 0⟩

/-- 0x4810 EM_ECC_LOSS (R359). -/
def EM_ECC_LOSS : Obj := ⟨0x4810, 0x4810, 0, 0, .u32, .rc, false, 0, [], 0⟩

/-- 0x4811 LEARN_MAX (R359). -/
def LEARN_MAX : Obj := ⟨0x4811, 0x4811, 0, 0, .u32, .rws, false, 0x20000, [(0, 262144)], 0⟩

/-- 0x4812 PORT_LEARN (R359). -/
def PORT_LEARN : Obj := ⟨0x4812, 0x4812, 1, 49, .bool, .rws, false, 1, [], 0⟩

/-- 0x4813 LEARN_NEW (R359). -/
def LEARN_NEW : Obj := ⟨0x4813, 0x4813, 0, 0, .u32, .rc, false, 0, [], 0⟩

/-- 0x4814 LEARN_MOVE (R359). -/
def LEARN_MOVE : Obj := ⟨0x4814, 0x4814, 0, 0, .u32, .rc, false, 0, [], 0⟩

/-- 0x4815 LEARN_FULL (R359). -/
def LEARN_FULL : Obj := ⟨0x4815, 0x4815, 0, 0, .u32, .rc, false, 0, [], 0⟩

/-- 0x4816 LEARN_BLOCKED (R359). -/
def LEARN_BLOCKED : Obj := ⟨0x4816, 0x4816, 0, 0, .u32, .rc, false, 0, [], 0⟩

/-- 0x4817 LEARN_OVERFLOW (R359). -/
def LEARN_OVERFLOW : Obj := ⟨0x4817, 0x4817, 0, 0, .u32, .rc, false, 0, [], 0⟩

/-- 0x4820 TCAM_ZONE (R359). -/
def TCAM_ZONE : Obj := ⟨0x4820, 0x4820, 0, 0, .blob, .rws, false, 0, [], 66⟩

/-- 0x4821 TCAM_USED (R359). -/
def TCAM_USED : Obj := ⟨0x4821, 0x4821, 0, 0, .u16, .ro, false, 0, [], 0⟩

/-- 0x4822 TCAM_REPAIR (R359). -/
def TCAM_REPAIR : Obj := ⟨0x4822, 0x4822, 0, 0, .u32, .rc, false, 0, [], 0⟩

/-- 0x4830 TDMA_BASE (R359). -/
def TDMA_BASE : Obj := ⟨0x4830, 0x4830, 1, 4, .u32, .rw, false, 0, [], 0⟩

/-- 0x4831 TDMA_SIZE (R359). -/
def TDMA_SIZE : Obj := ⟨0x4831, 0x4831, 1, 4, .u8, .rw, false, 4, [(4, 12)], 0⟩

/-- 0x4832 TDMA_HEAD (R359). -/
def TDMA_HEAD : Obj := ⟨0x4832, 0x4832, 1, 4, .u16, .rw, false, 0, [], 0⟩

/-- 0x4833 TDMA_TAIL (R359). -/
def TDMA_TAIL : Obj := ⟨0x4833, 0x4833, 1, 4, .u16, .ro, false, 0, [], 0⟩

/-- 0x4834 TDMA_CMD (R359). -/
def TDMA_CMD : Obj := ⟨0x4834, 0x4834, 1, 4, .u8, .wo, false, 0, [], 0⟩

/-- 0x4835 TDMA_STATUS (R359). -/
def TDMA_STATUS : Obj := ⟨0x4835, 0x4835, 1, 4, .u16, .ro, false, 0, [], 0⟩

/-- 0x4836 TDMA_LOCKS (R359). -/
def TDMA_LOCKS : Obj := ⟨0x4836, 0x4836, 1, 4, .u8, .ro, false, 0, [], 0⟩

/-- 0x4837 LOCK_TIMEOUT (R359). -/
def LOCK_TIMEOUT : Obj := ⟨0x4837, 0x4837, 0, 0, .u16, .const, false, 0xa, [], 0⟩

/-- 0x1000 PART_ID (R396). -/
def PART_ID : Obj := ⟨0x1000, 0x1000, 0, 0, .u32, .const, false, 0x485000a2, [], 0⟩

/-- 0x1001 SERIAL (R396). -/
def SERIAL : Obj := ⟨0x1001, 0x1001, 0, 0, .u64, .const, false, 0, [], 0⟩

/-- 0x1002 PART_MAC (R396). -/
def PART_MAC : Obj := ⟨0x1002, 0x1002, 0, 0, .u64, .rws, false, 0, [(0, 281474976710655)], 0⟩

/-- 0x1003 FACTORY_MAC (R396). -/
def FACTORY_MAC : Obj := ⟨0x1003, 0x1003, 0, 0, .u64, .const, false, 0, [], 0⟩

/-- 0x1004 MAC_ACT (R396). -/
def MAC_ACT : Obj := ⟨0x1004, 0x1004, 0, 0, .u64, .ro, false, 0, [], 0⟩

/-- 0x1005 DEVICE_ID (R396). -/
def DEVICE_ID : Obj := ⟨0x1005, 0x1005, 0, 0, .u16, .ro, false, 0, [], 0⟩

/-- 0x1006 NODE_NAME (R396). -/
def NODE_NAME : Obj := ⟨0x1006, 0x1006, 0, 0, .string, .rws, false, 0, [], 252⟩

/-- 0x1007 FW_VERSION (R396). -/
def FW_VERSION : Obj := ⟨0x1007, 0x1007, 0, 0, .u32, .ro, false, 0, [], 0⟩

/-- 0x1010 EXPERT_SESSION (R396). -/
def EXPERT_SESSION : Obj := ⟨0x1010, 0x1010, 0, 0, .u8, .rw, false, 0, [(0, 0), (231, 231)], 0⟩

/-- 0x1020 GATE_PORTS (R396). -/
def GATE_PORTS : Obj := ⟨0x1020, 0x1020, 0, 0, .u64, .rws, false, 0x1ffffffffffff, [], 0⟩

/-- 0x1021 GATE_CHAIN (R396). -/
def GATE_CHAIN : Obj := ⟨0x1021, 0x1021, 0, 0, .bool, .rws, false, 1, [], 0⟩

/-- 0x1022 GATE_DENIED (R396). -/
def GATE_DENIED : Obj := ⟨0x1022, 0x1022, 0, 0, .u32, .rc, false, 0, [], 0⟩

/-- 0x1023 GATE_LAST_DENIED (R396). -/
def GATE_LAST_DENIED : Obj := ⟨0x1023, 0x1023, 0, 0, .u8, .rol, false, 0, [], 0⟩

/-- 0x1030 FALRI_GROUP (R396). -/
def FALRI_GROUP : Obj := ⟨0x1030, 0x1030, 0, 0, .u64, .const, false, 0x35d52000000, [], 0⟩

/-- 0x1031 NOTIFY_PATH (R396). -/
def NOTIFY_PATH : Obj := ⟨0x1031, 0x1031, 0, 0, .u8, .rws, false, 0, [(0, 3)], 0⟩

/-- 0x1032 NOTIFY_RATE (R396). -/
def NOTIFY_RATE : Obj := ⟨0x1032, 0x1032, 0, 0, .u16, .rws, false, 0x64, [(1, 10000)], 0⟩

/-- 0x1033 FALRI_RX (R396). -/
def FALRI_RX : Obj := ⟨0x1033, 0x1033, 0, 0, .u32, .rc, false, 0, [], 0⟩

/-- 0x1034 FALRI_ERR (R396). -/
def FALRI_ERR : Obj := ⟨0x1034, 0x1034, 0, 0, .u32, .rc, false, 0, [], 0⟩

/-- 0x1035 FALRI_DUP (R396). -/
def FALRI_DUP : Obj := ⟨0x1035, 0x1035, 0, 0, .u32, .rc, false, 0, [], 0⟩

/-- 0x1036 DICT_FLAGS (R396). -/
def DICT_FLAGS : Obj := ⟨0x1036, 0x1036, 0, 0, .u32, .w1c, false, 0, [], 0⟩

/-- 0x1040 CHAIN_ADDR (R396). -/
def CHAIN_ADDR : Obj := ⟨0x1040, 0x1040, 0, 0, .u8, .rws, false, 0, [(0, 63)], 0⟩

/-- 0x1041 CHAIN_ADDR_ACT (R396). -/
def CHAIN_ADDR_ACT : Obj := ⟨0x1041, 0x1041, 0, 0, .u8, .ro, false, 0, [], 0⟩

/-- 0x1042 CHAIN_LEN (R396). -/
def CHAIN_LEN : Obj := ⟨0x1042, 0x1042, 0, 0, .u8, .ro, false, 0, [], 0⟩

/-- 0x1043 CHAIN_HEAD (R396). -/
def CHAIN_HEAD : Obj := ⟨0x1043, 0x1043, 0, 0, .bool, .ro, false, 0, [], 0⟩

/-- 0x9000 CFG_CMD (R396). -/
def CFG_CMD : Obj := ⟨0x9000, 0x9000, 0, 0, .u8, .wo, false, 0, [], 0⟩

/-- 0x9001 CFG_STATUS (R396). -/
def CFG_STATUS : Obj := ⟨0x9001, 0x9001, 0, 0, .u16, .ro, false, 0, [], 0⟩

/-- 0x9002 CFG_LOADED (R396). -/
def CFG_LOADED : Obj := ⟨0x9002, 0x9002, 0, 0, .u8, .ro, false, 0xff, [], 0⟩

/-- 0x9003 CFG_SEQ (R396). -/
def CFG_SEQ : Obj := ⟨0x9003, 0x9003, 0, 0, .u32, .ro, false, 0, [], 0⟩

/-- 0x9004 CFG_SKIPPED (R396). -/
def CFG_SKIPPED : Obj := ⟨0x9004, 0x9004, 0, 0, .u32, .ro, false, 0, [], 0⟩

/-- 0x9005 CFG_SKIP_FIRST (R396). -/
def CFG_SKIP_FIRST : Obj := ⟨0x9005, 0x9005, 0, 0, .u32, .rol, false, 0, [], 0⟩

/-- 0x9006 CFG_UPLOAD (R396). -/
def CFG_UPLOAD : Obj := ⟨0x9006, 0x9006, 0, 0, .blob, .wo, false, 0, [], 1048576⟩

/-- 0x9007 CFG_HEADERS (R396). -/
def CFG_HEADERS : Obj := ⟨0x9007, 0x9007, 0, 0, .blob, .ro, false, 0, [], 64⟩

/-- 0x6000 HIER_ROLE (R431). -/
def HIER_ROLE : Obj := ⟨0x6000, 0x6000, 0, 0, .u8, .ro, false, 0, [], 0⟩

/-- 0x6001 HIER_RANK (R431). -/
def HIER_RANK : Obj := ⟨0x6001, 0x6001, 0, 0, .u8, .ro, false, 0xff, [], 0⟩

/-- 0x6002 HIER_ADVERT (R431). -/
def HIER_ADVERT : Obj := ⟨0x6002, 0x6002, 0, 0, .blob, .ro, false, 0, [], 32⟩

/-- 0x6003 HIER_NEIGH (R431). -/
def HIER_NEIGH : Obj := ⟨0x6003, 0x6003, 0, 0, .blob, .ro, false, 0, [], 1536⟩

/-- 0x6004 HIER_FLAGS (R431). -/
def HIER_FLAGS : Obj := ⟨0x6004, 0x6004, 0, 0, .u32, .w1c, false, 0, [], 0⟩

/-- 0x6010 PAIR_ID (R431). -/
def PAIR_ID : Obj := ⟨0x6010, 0x6010, 0, 0, .u16, .rws, false, 0, [], 0⟩

/-- 0x6011 TWIN_SLOT (R431). -/
def TWIN_SLOT : Obj := ⟨0x6011, 0x6011, 0, 0, .u8, .rws, false, 0, [(0, 1)], 0⟩

/-- 0x6012 TWIN_PORT (R431). -/
def TWIN_PORT : Obj := ⟨0x6012, 0x6012, 0, 0, .u8, .rws, false, 0xff, [(0, 47), (255, 255)], 0⟩

/-- 0x6013 TWIN_STATE (R431). -/
def TWIN_STATE : Obj := ⟨0x6013, 0x6013, 0, 0, .u8, .ro, false, 0, [], 0⟩

/-- 0x6014 TWIN_CMD (R431). -/
def TWIN_CMD : Obj := ⟨0x6014, 0x6014, 0, 0, .u8, .wo, false, 0, [], 0⟩

/-- 0x6015 TWIN_STATUS (R431). -/
def TWIN_STATUS : Obj := ⟨0x6015, 0x6015, 0, 0, .u16, .ro, false, 0, [], 0⟩

/-- 0x6016 TWIN_FLAGS (R431). -/
def TWIN_FLAGS : Obj := ⟨0x6016, 0x6016, 0, 0, .u32, .w1c, false, 0, [], 0⟩

/-- 0x6017 TWIN_PATH_STATE (R431). -/
def TWIN_PATH_STATE : Obj := ⟨0x6017, 0x6017, 0, 0, .u8, .ro, false, 0, [], 0⟩

/-- 0x6018 TWIN_EPOCH_MS (R431). -/
def TWIN_EPOCH_MS : Obj := ⟨0x6018, 0x6018, 0, 0, .u16, .rws, false, 0x64, [(20, 1000)], 0⟩

/-- 0x6019 TWIN_EPOCH_TX (R431). -/
def TWIN_EPOCH_TX : Obj := ⟨0x6019, 0x6019, 0, 0, .u32, .ro, false, 0, [], 0⟩

/-- 0x601A TWIN_EPOCH_COMMIT (R431). -/
def TWIN_EPOCH_COMMIT : Obj := ⟨0x601A, 0x601A, 0, 0, .u32, .ro, false, 0, [], 0⟩

/-- 0x601B TWIN_JSEQ (R431). -/
def TWIN_JSEQ : Obj := ⟨0x601B, 0x601B, 0, 0, .u32, .ro, false, 0, [], 0⟩

/-- 0x601C TWIN_TAKEOVERS (R431). -/
def TWIN_TAKEOVERS : Obj := ⟨0x601C, 0x601C, 0, 0, .u32, .rc, false, 0, [], 0⟩

/-- 0x601D TWIN_HB_FOREIGN (R431). -/
def TWIN_HB_FOREIGN : Obj := ⟨0x601D, 0x601D, 0, 0, .u32, .rc, false, 0, [], 0⟩

/-- 0x601E TWIN_EP_PORTS (R431). -/
def TWIN_EP_PORTS : Obj := ⟨0x601E, 0x601E, 0, 0, .u64, .rws, false, 0, [], 0⟩

/-- 0x601F TWIN_EPOCH_RX (R431). -/
def TWIN_EPOCH_RX : Obj := ⟨0x601F, 0x601F, 0, 0, .blob, .wo, false, 0, [], 1048576⟩

/-- 0x6020 TWIN_JOURNAL_RX (R431). -/
def TWIN_JOURNAL_RX : Obj := ⟨0x6020, 0x6020, 0, 0, .blob, .wo, false, 0, [], 1048576⟩

/-- 0x6030 HIER_ID_MAP (R431). -/
def HIER_ID_MAP : Obj := ⟨0x6030, 0x6030, 0, 0, .blob, .rws, false, 0, [], 8192⟩

/-- 0x6031 DEV_PORT (R431). -/
def DEV_PORT : Obj := ⟨0x6031, 0x6031, 0, 0, .blob, .ro, false, 0, [], 1024⟩

/-- 0x6032 DISC_INTERVAL (R431). -/
def DISC_INTERVAL : Obj := ⟨0x6032, 0x6032, 0, 0, .u32, .rws, false, 0x3e8, [(100, 60000)], 0⟩

/-- 0x6033 EP_REGISTRY (R431). -/
def EP_REGISTRY : Obj := ⟨0x6033, 0x6033, 0, 0, .blob, .rws, false, 0, [], 524288⟩

/-- 0x6034 EP_REG_VER (R431). -/
def EP_REG_VER : Obj := ⟨0x6034, 0x6034, 0, 0, .u32, .ro, false, 0, [], 0⟩

/-- 0x6800 ENG_STATE (R459). -/
def ENG_STATE : Obj := ⟨0x6800, 0x6800, 1, 12, .u8, .ro, false, 0, [], 0⟩

/-- 0x6801 ENG_RESETS (R459). -/
def ENG_RESETS : Obj := ⟨0x6801, 0x6801, 1, 12, .u32, .rc, false, 0, [], 0⟩

/-- 0x6802 ENG_LAST_CAUSE (R459). -/
def ENG_LAST_CAUSE : Obj := ⟨0x6802, 0x6802, 1, 12, .u32, .rol, false, 0, [], 0⟩

/-- 0x6803 ENG_ECC_CORR (R459). -/
def ENG_ECC_CORR : Obj := ⟨0x6803, 0x6803, 1, 12, .u32, .rc, false, 0, [], 0⟩

/-- 0x6804 ENG_FAULTS (R459). -/
def ENG_FAULTS : Obj := ⟨0x6804, 0x6804, 0, 0, .u32, .w1c, false, 0, [], 0⟩

/-- 0x6810 IRQ_SHARED_CFG (R459). -/
def IRQ_SHARED_CFG : Obj := ⟨0x6810, 0x6810, 0, 0, .blob, .rws, false, 0, [], 1024⟩

/-- 0x6811 IRQ_PENDING (R459). -/
def IRQ_PENDING : Obj := ⟨0x6811, 0x6811, 0, 0, .blob, .ro, false, 0, [], 80⟩

/-- 0x6812 SPURIOUS_CLAIM (R459). -/
def SPURIOUS_CLAIM : Obj := ⟨0x6812, 0x6812, 1, 13, .u32, .rc, false, 0, [], 0⟩

/-- 0x6813 COMPLETE_ERR (R459). -/
def COMPLETE_ERR : Obj := ⟨0x6813, 0x6813, 1, 13, .u32, .rc, false, 0, [], 0⟩

/-- 0xA000 USER_IMAGE (R459). -/
def USER_IMAGE : Obj := ⟨0xA000, 0xA000, 1, 2, .blob, .rws, false, 0, [], 131104⟩

/-- 0xA001 USER_CMD (R459). -/
def USER_CMD : Obj := ⟨0xA001, 0xA001, 1, 2, .u8, .wo, false, 0, [], 0⟩

/-- 0xA002 USER_STATUS (R459). -/
def USER_STATUS : Obj := ⟨0xA002, 0xA002, 1, 2, .u16, .ro, false, 0, [], 0⟩

/-- 0xA003 USER_AUTOSTART (R459). -/
def USER_AUTOSTART : Obj := ⟨0xA003, 0xA003, 1, 2, .bool, .rws, false, 0, [], 0⟩

/-- 0xA004 USER_WDOG (R459). -/
def USER_WDOG : Obj := ⟨0xA004, 0xA004, 1, 2, .u32, .rws, false, 0, [(0, 60000)], 0⟩

/-- 0xA005 USER_RESTART (R459). -/
def USER_RESTART : Obj := ⟨0xA005, 0xA005, 1, 2, .bool, .rws, false, 0, [], 0⟩

/-- 0xA006 USER_CMD_DROP (R459). -/
def USER_CMD_DROP : Obj := ⟨0xA006, 0xA006, 1, 2, .u32, .rc, false, 0, [], 0⟩

/-- 0xA100 USER_PARAM (R459). -/
def USER_PARAM : Obj := ⟨0xA100, 0xA1FF, 0, 0, .u32, .rws, false, 0, [], 0⟩

/-- 0xA200 USER_DATA (R459). -/
def USER_DATA : Obj := ⟨0xA200, 0xA200, 0, 0, .blob, .rws, false, 0, [], 65536⟩

/-- 0x7800 CAL_CMD (R476). -/
def CAL_CMD : Obj := ⟨0x7800, 0x7800, 0, 0, .u32, .wo, false, 0, [], 0⟩

/-- 0x7801 CAL_STATUS (R476). -/
def CAL_STATUS : Obj := ⟨0x7801, 0x7801, 0, 0, .u32, .ro, false, 0, [], 0⟩

/-- 0x7802 CAL_TABLE (R476). -/
def CAL_TABLE : Obj := ⟨0x7802, 0x7802, 0, 0, .blob, .ro, false, 0, [], 2496⟩

/-- 0x7803 CAL_LAST_PRECOND (R476). -/
def CAL_LAST_PRECOND : Obj := ⟨0x7803, 0x7803, 0, 0, .u32, .rol, false, 0, [], 0⟩

/-- 0x7804 CAL_FLAGS (R476). -/
def CAL_FLAGS : Obj := ⟨0x7804, 0x7804, 0, 0, .u32, .w1c, false, 0, [], 0⟩

/-- 0x7805 CAL_TEMP_DELTA (R476). -/
def CAL_TEMP_DELTA : Obj := ⟨0x7805, 0x7805, 0, 0, .u8, .rws, false, 4, [(1, 20)], 0⟩

/-- 0x7806 CAL_PERIOD (R476). -/
def CAL_PERIOD : Obj := ⟨0x7806, 0x7806, 0, 0, .u32, .rws, false, 0xe10, [(0, 0), (60, 86400)], 0⟩

/-- 0x7807 CAL_RETRY_GAP (R476). -/
def CAL_RETRY_GAP : Obj := ⟨0x7807, 0x7807, 0, 0, .u32, .rws, false, 0x3e8, [(100, 60000)], 0⟩

/-- 0x7808 CAL_AUTO (R476). -/
def CAL_AUTO : Obj := ⟨0x7808, 0x7808, 0, 0, .u16, .rws, false, 0x7f, [(0, 127)], 0⟩

/-- 0x7809 LANE_Q_WARN (R476). -/
def LANE_Q_WARN : Obj := ⟨0x7809, 0x7809, 0, 0, .u8, .rws, false, 0x60, [(2, 255)], 0⟩

/-- 0x780A CAL_STORE (R476). -/
def CAL_STORE : Obj := ⟨0x780A, 0x780A, 0, 0, .blob, .rws, true, 0, [], 484⟩

/-- 0x780B CAL_RUNS (R476). -/
def CAL_RUNS : Obj := ⟨0x780B, 0x780B, 0, 0, .u32, .rc, false, 0, [], 0⟩

/-- 0x780C CAL_ABORTS (R476). -/
def CAL_ABORTS : Obj := ⟨0x780C, 0x780C, 0, 0, .u32, .rc, false, 0, [], 0⟩

/-- 0x7810 LANE_HEALTH (R476). -/
def LANE_HEALTH : Obj := ⟨0x7810, 0x7810, 1, 48, .u8, .ro, false, 0, [], 0⟩

/-- 0x7811 LANE_SPARES_LEFT (R476). -/
def LANE_SPARES_LEFT : Obj := ⟨0x7811, 0x7811, 1, 48, .u8, .ro, false, 4, [], 0⟩

/-- 0x7812 TDC_SPARES_LEFT (R476). -/
def TDC_SPARES_LEFT : Obj := ⟨0x7812, 0x7812, 1, 18, .u8, .ro, false, 0x10, [], 0⟩

/-- 0x7000 HDR_ERR (R483). -/
def HDR_ERR : Obj := ⟨0x7000, 0x7000, 1, 48, .u32, .rc, false, 0, [], 0⟩

/-- 0x7001 CHK_ERR (R483). -/
def CHK_ERR : Obj := ⟨0x7001, 0x7001, 1, 48, .u32, .rc, false, 0, [], 0⟩

/-- 0x7002 UNKNOWN_TYPE (R483). -/
def UNKNOWN_TYPE : Obj := ⟨0x7002, 0x7002, 1, 48, .u32, .rc, false, 0, [], 0⟩

/-- 0x7003 ERASED (R483). -/
def ERASED : Obj := ⟨0x7003, 0x7003, 1, 48, .u32, .rc, false, 0, [], 0⟩

/-- 0x7004 ORPHAN (R483). -/
def ORPHAN : Obj := ⟨0x7004, 0x7004, 1, 48, .u32, .rc, false, 0, [], 0⟩

/-- 0x7005 FRAME_SEQ_ERR (R483). -/
def FRAME_SEQ_ERR : Obj := ⟨0x7005, 0x7005, 1, 48, .u32, .rc, false, 0, [], 0⟩

/-- 0x7006 OVERSIZE (R483). -/
def OVERSIZE : Obj := ⟨0x7006, 0x7006, 1, 48, .u32, .rc, false, 0, [], 0⟩

/-- 0x7007 FCS_ERR (R483). -/
def FCS_ERR : Obj := ⟨0x7007, 0x7007, 1, 49, .u32, .rc, false, 0, [], 0⟩

/-- 0x7008 STOMPED (R483). -/
def STOMPED : Obj := ⟨0x7008, 0x7008, 1, 49, .u32, .rc, false, 0, [], 0⟩

/-- 0x7009 CARAVAN_CRC (R483). -/
def CARAVAN_CRC : Obj := ⟨0x7009, 0x7009, 1, 48, .u32, .rc, false, 0, [], 0⟩

/-- 0x700A BLOCK_ERR (R483). -/
def BLOCK_ERR : Obj := ⟨0x700A, 0x700A, 1, 49, .u32, .rc, false, 0, [], 0⟩

/-- 0x700B FEC_CORR (R483). -/
def FEC_CORR : Obj := ⟨0x700B, 0x700B, 1, 48, .u32, .rc, false, 0, [], 0⟩

/-- 0x700C FEC_UNCORR (R483). -/
def FEC_UNCORR : Obj := ⟨0x700C, 0x700C, 1, 48, .u32, .rc, false, 0, [], 0⟩

/-- 0x7040 SNAP_AT (R503). -/
def SNAP_AT : Obj := ⟨0x7040, 0x7040, 0, 0, .timestamp, .rw, false, 0, [], 0⟩

/-- 0x7041 SNAP_CMD (R503). -/
def SNAP_CMD : Obj := ⟨0x7041, 0x7041, 0, 0, .u8, .wo, false, 0, [], 0⟩

/-- 0x7042 SNAP_STATUS (R503). -/
def SNAP_STATUS : Obj := ⟨0x7042, 0x7042, 0, 0, .u16, .ro, false, 0, [], 0⟩

/-- 0x7043 SNAP_MODE (R503). -/
def SNAP_MODE : Obj := ⟨0x7043, 0x7043, 0, 0, .u8, .rws, false, 0, [(0, 1)], 0⟩

/-- 0x7044 SNAP_DATA (R503). -/
def SNAP_DATA : Obj := ⟨0x7044, 0x7044, 0, 0, .blob, .ro, false, 0, [], 131072⟩

/-- 0x7045 SNAP_TIME (R503). -/
def SNAP_TIME : Obj := ⟨0x7045, 0x7045, 0, 0, .timestamp, .rol, false, 0, [], 0⟩

/-- 0x7046 SNAP_TAG (R503). -/
def SNAP_TAG : Obj := ⟨0x7046, 0x7046, 0, 0, .u32, .rol, false, 0, [], 0⟩

/-- 0x7047 SNAP_COUNT (R503). -/
def SNAP_COUNT : Obj := ⟨0x7047, 0x7047, 0, 0, .u32, .ro, false, 0, [], 0⟩

/-- 0x7048 SNAP_MISSED (R503). -/
def SNAP_MISSED : Obj := ⟨0x7048, 0x7048, 0, 0, .u32, .rc, false, 0, [], 0⟩

/-- 0x7049 OBS_FLAGS (R503). -/
def OBS_FLAGS : Obj := ⟨0x7049, 0x7049, 0, 0, .u32, .w1c, false, 0, [], 0⟩

/-- 0x7080 ENG_SLOT_RETIRE (R503). -/
def ENG_SLOT_RETIRE : Obj := ⟨0x7080, 0x7080, 1, 12, .u64, .rc, false, 0, [], 0⟩

/-- 0x7081 ENG_SLOT_BAD_SPEC (R503). -/
def ENG_SLOT_BAD_SPEC : Obj := ⟨0x7081, 0x7081, 1, 12, .u64, .rc, false, 0, [], 0⟩

/-- 0x7082 ENG_SLOT_FETCH (R503). -/
def ENG_SLOT_FETCH : Obj := ⟨0x7082, 0x7082, 1, 12, .u64, .rc, false, 0, [], 0⟩

/-- 0x7083 ENG_SLOT_MEM_PANTRY (R503). -/
def ENG_SLOT_MEM_PANTRY : Obj := ⟨0x7083, 0x7083, 1, 12, .u64, .rc, false, 0, [], 0⟩

/-- 0x7084 ENG_SLOT_MEM_WINDOW (R503). -/
def ENG_SLOT_MEM_WINDOW : Obj := ⟨0x7084, 0x7084, 1, 12, .u64, .rc, false, 0, [], 0⟩

/-- 0x7085 ENG_SLOT_MEM_DEVICE (R503). -/
def ENG_SLOT_MEM_DEVICE : Obj := ⟨0x7085, 0x7085, 1, 12, .u64, .rc, false, 0, [], 0⟩

/-- 0x7086 ENG_SLOT_EXEC (R503). -/
def ENG_SLOT_EXEC : Obj := ⟨0x7086, 0x7086, 1, 12, .u64, .rc, false, 0, [], 0⟩

/-- 0x7087 ENG_SLOT_IDLE (R503). -/
def ENG_SLOT_IDLE : Obj := ⟨0x7087, 0x7087, 1, 12, .u64, .rc, false, 0, [], 0⟩

/-- 0x7090 SAMPLE_PERIOD (R503). -/
def SAMPLE_PERIOD : Obj := ⟨0x7090, 0x7090, 1, 12, .u8, .rws, false, 0, [(0, 0), (10, 24)], 0⟩

/-- 0x7091 SAMPLE_DEST (R503). -/
def SAMPLE_DEST : Obj := ⟨0x7091, 0x7091, 1, 12, .u8, .rws, false, 0, [(0, 2)], 0⟩

/-- 0x7092 SAMPLE_BUF (R503). -/
def SAMPLE_BUF : Obj := ⟨0x7092, 0x7092, 1, 12, .blob, .rc, false, 0, [], 4096⟩

/-- 0x7093 SAMPLE_LOST (R503). -/
def SAMPLE_LOST : Obj := ⟨0x7093, 0x7093, 1, 12, .u32, .rc, false, 0, [], 0⟩

/-- 0x70A0 LANTERN_EN (R503). -/
def LANTERN_EN : Obj := ⟨0x70A0, 0x70A0, 0, 0, .bool, .rws, false, 0, [], 0⟩

/-- 0x70A1 LANTERN_MASK (R503). -/
def LANTERN_MASK : Obj := ⟨0x70A1, 0x70A1, 0, 0, .u16, .rws, false, 0x3e, [(0, 62)], 0⟩

/-- 0x70A2 LT_LOST (R503). -/
def LT_LOST : Obj := ⟨0x70A2, 0x70A2, 0, 0, .u32, .rc, false, 0, [], 0⟩

/-- 0x70A3 JTAG_IDCODE (R503). -/
def JTAG_IDCODE : Obj := ⟨0x70A3, 0x70A3, 0, 0, .u32, .const, false, 0x24850c27, [], 0⟩

/-- 0x8000 TEMP (R529). -/
def TEMP : Obj := ⟨0x8000, 0x8000, 1, 9, .i32, .ro, false, 0, [], 0⟩

/-- 0x8001 TEMP_PEAK (R529). -/
def TEMP_PEAK : Obj := ⟨0x8001, 0x8001, 1, 9, .i32, .rc, false, 0, [], 0⟩

/-- 0x8002 PWR_TOTAL (R529). -/
def PWR_TOTAL : Obj := ⟨0x8002, 0x8002, 0, 0, .u32, .ro, false, 0, [], 0⟩

/-- 0x8003 RAIL_POWER (R529). -/
def RAIL_POWER : Obj := ⟨0x8003, 0x8003, 1, 7, .u32, .ro, false, 0, [], 0⟩

/-- 0x8004 GOV_STATE (R529). -/
def GOV_STATE : Obj := ⟨0x8004, 0x8004, 0, 0, .u8, .ro, false, 0, [], 0⟩

/-- 0x8005 GOV_TJ_LIMIT (R529). -/
def GOV_TJ_LIMIT : Obj := ⟨0x8005, 0x8005, 0, 0, .u16, .rws, false, 0x406, [(850, 1050)], 0⟩

/-- 0x8006 GOV_P_SUSTAIN (R529). -/
def GOV_P_SUSTAIN : Obj := ⟨0x8006, 0x8006, 0, 0, .u32, .rws, false, 0x130b0, [(20000, 78000)], 0⟩

/-- 0x8007 GOV_THETA (R529). -/
def GOV_THETA : Obj := ⟨0x8007, 0x8007, 0, 0, .u16, .rws, false, 0x22e, [(100, 2000)], 0⟩

/-- 0x8008 GOV_TAU (R529). -/
def GOV_TAU : Obj := ⟨0x8008, 0x8008, 0, 0, .u16, .rws, false, 0x3c, [(5, 600)], 0⟩

/-- 0x8009 GOV_HORIZON (R529). -/
def GOV_HORIZON : Obj := ⟨0x8009, 0x8009, 0, 0, .u16, .const, false, 0x1f4, [], 0⟩

/-- 0x800A GOV_TPRED (R529). -/
def GOV_TPRED : Obj := ⟨0x800A, 0x800A, 0, 0, .i32, .ro, false, 0, [], 0⟩

/-- 0x800B GOV_ADMIT (R529). -/
def GOV_ADMIT : Obj := ⟨0x800B, 0x800B, 0, 0, .u8, .ro, false, 0x64, [], 0⟩

/-- 0x800C THERM_KEEP_PORTS (R529). -/
def THERM_KEEP_PORTS : Obj := ⟨0x800C, 0x800C, 0, 0, .u64, .rws, false, 0xffffffffffff, [], 0⟩

/-- 0x800D PWR_FLAGS (R529). -/
def PWR_FLAGS : Obj := ⟨0x800D, 0x800D, 0, 0, .u32, .w1c, false, 0, [], 0⟩

/-- 0x800E CURGOV_PACED (R529). -/
def CURGOV_PACED : Obj := ⟨0x800E, 0x800E, 0, 0, .u64, .rc, false, 0, [], 0⟩

/-- 0x800F GOV_SHED_TIME (R529). -/
def GOV_SHED_TIME : Obj := ⟨0x800F, 0x800F, 0, 0, .u32, .rc, false, 0, [], 0⟩

/-- 0x8010 RESET_CAUSE (R529). -/
def RESET_CAUSE : Obj := ⟨0x8010, 0x8010, 0, 0, .u32, .rol, false, 0, [], 0⟩

/-- 0x8011 SYS_RESET (R529). -/
def SYS_RESET : Obj := ⟨0x8011, 0x8011, 0, 0, .u8, .wo, false, 0, [(165, 165)], 0⟩

/-- 0x8012 STRAPS (R529). -/
def STRAPS : Obj := ⟨0x8012, 0x8012, 0, 0, .u8, .ro, false, 0, [], 0⟩

/-- 0x8013 STARTUP_OUT_HOLD (R529). -/
def STARTUP_OUT_HOLD : Obj := ⟨0x8013, 0x8013, 0, 0, .bool, .rws, false, 0, [], 0⟩

/-- 0x8014 FW_LOADED (R529). -/
def FW_LOADED : Obj := ⟨0x8014, 0x8014, 0, 0, .u8, .ro, false, 0, [], 0⟩

/-- 0x8015 BOOT_MS (R529). -/
def BOOT_MS : Obj := ⟨0x8015, 0x8015, 0, 0, .u32, .ro, false, 0, [], 0⟩

/-- The objects of the dictionary, part 0 (R363). -/
def list0 : List Obj :=
  [PART_ID,
   SERIAL,
   PART_MAC,
   FACTORY_MAC,
   MAC_ACT,
   DEVICE_ID,
   NODE_NAME,
   FW_VERSION,
   EXPERT_SESSION,
   GATE_PORTS,
   GATE_CHAIN,
   GATE_DENIED,
   GATE_LAST_DENIED,
   FALRI_GROUP,
   NOTIFY_PATH,
   NOTIFY_RATE,
   FALRI_RX,
   FALRI_ERR,
   FALRI_DUP,
   DICT_FLAGS,
   CHAIN_ADDR,
   CHAIN_ADDR_ACT,
   CHAIN_LEN,
   CHAIN_HEAD,
   HEARTH_FLAGS,
   HEARTH_INC,
   HEARTH_OFFSET,
   HEARTH_RATE,
   HEARTH_SLEW,
   HEARTH_STATE,
   HEARTH_STEP,
   HEARTH_TIME,
   HEARTH_WRAP,
   FREE_RATE,
   JUMP_LIMIT,
   QUAL_BAND,
   QUAL_LONG,
   QUAL_SHORT,
   REEPOCH_ALLOW_BACK,
   REF_RETURN_POLICY]

/-- The objects of the dictionary, part 1 (R363). -/
def list1 : List Obj :=
  [SLEW_MAX,
   HEARTH_CMD,
   HEARTH_CMD_STATUS,
   SERVO_BW,
   UPSTREAM_PORT,
   UPSTREAM_ALT,
   SEL_REVERT,
   EXTREF_MODE,
   HOLD_AVG,
   HOLD_RATE,
   HOLD_FREQ_ERR,
   HOLD_AGING,
   STEP_MIN,
   PTP_EPOCH,
   ACC_BOUND,
   ACC_BASE,
   ACC_HOP,
   ACC_PTP,
   EXTREF_DELAY,
   PHASE_AVG,
   UPSTREAM_SWITCH,
   PORT_TIME_ROLE,
   UPSTREAM_PRIO,
   PORT_DELTA,
   PORT_OFFSET,
   PORT_ASYM,
   PORT_ALPHA_MODE,
   PORT_ALPHA_FIXED,
   PORT_ALPHA,
   PORT_ASYM_CAL,
   PORT_ASYM_ROUTE,
   PORT_EXT_TX,
   PORT_EXT_RX,
   PORT_PEER_EXT_TX,
   PORT_PEER_EXT_RX,
   PORT_ETH_DESKEW,
   DELAY_OUTLIER,
   LANE_LAMBDA_TX,
   LANE_LAMBDA_RX,
   FIBRE_GROUP_INDEX]

/-- The objects of the dictionary, part 2 (R363). -/
def list2 : List Obj :=
  [FIBRE_LAMBDA0,
   FIBRE_S0,
   ROUTE_LIMIT,
   ROUTE_HOLD,
   ROUTE_POLICY,
   ROUTE_DRIFT,
   PORT_ROUTE_STATE,
   PORT_ROUTE_STEP,
   PORT_ROUTE_CMD,
   PORT_ROUTE_STATUS,
   PORT_RANGE_MODE,
   PORT_DGD,
   PORT_TIME_FLAGS,
   PORT_PTP_MODE,
   PTP_TRANSPORT,
   PTP_DOMAIN,
   PTP_LOG_SYNC,
   PTP_PRIORITY1,
   PTP_PRIORITY2,
   GROUP_MODE,
   GROUP_N,
   GROUP_RATE_ACT,
   NATIVE_TARGET,
   PORT_FEC,
   PORT_IFACE,
   TX_TAPS,
   TX_TAP_INIT,
   TX_SWING,
   LANE_POLARITY,
   RX_EQ,
   RX_EQ_TRAINED,
   ADAPT_MODE,
   LANE_FLAGS,
   LANE_EYE_W,
   LANE_EYE_H,
   LANE_QUALITY,
   LANE_RX_ALIGN,
   LANE_LOOP,
   LANE_PRBS,
   LANE_PRBS_ERR]

/-- The objects of the dictionary, part 3 (R363). -/
def list3 : List Obj :=
  [EYE_DEPTH,
   LANE_Q_FLOOR,
   ADAPT_GUARD,
   DIV_FREEZE,
   LINK_STATE,
   LINK_SLIP,
   LINK_DESKEW,
   LINK_TX_LAT,
   LINK_RX_LAT,
   LINK_LANE_SKEW,
   LINK_CMD,
   LINK_CMD_STATUS,
   LINK_FLAGS,
   PORT_WIDTH,
   PORT_ACTIVE,
   PORT_TIMING_POS,
   PORT_PEER,
   PORT_TIME_INTERVAL,
   TRAIN_TIMEOUT,
   READMIT_FORCE,
   DESKEW_MAX,
   PORT_PVID,
   PORT_VLAN_FILTER,
   PORT_PCP_MAP,
   PORT_DEFAULT_CLASS,
   PORT_PCP_OUT,
   PORT_MTU,
   PORT_VRF,
   VLAN_MEMBERS,
   MC_GROUP,
   NEXTHOP,
   ROUTER_MAC,
   EP_MISS_ACTION,
   ROUTE_MISS_ACTION,
   MGMT_CLASS,
   HOUSE_RATE_ACT,
   HOUSE_HOST_MAC,
   CLASS_K,
   PORT_GUARANTEE,
   MGMT_RESERVE]

/-- The objects of the dictionary, part 4 (R363). -/
def list4 : List Obj :=
  [CELLS_FREE,
   CELLS_RETIRED,
   LOSSLESS_ALLOC,
   NATIVE_CREDIT,
   NATIVE_LOSSLESS,
   PFC_ENABLE,
   PFC_XOFF,
   PFC_XON,
   PFC_HEADROOM,
   SCHED_STRICT,
   SCHED_WEIGHT,
   CT_ENABLE,
   FRAME_TIMEOUT,
   DRAIN_FENCE,
   DRAIN_STATE,
   DRAIN_OLDEST,
   CELLAR_FLAGS,
   QUEUE_CELLS,
   QUEUE_PEAK,
   RX_FRAMES,
   RX_BYTES,
   TX_FRAMES,
   TX_BYTES,
   DROP_ADMIT,
   DROP_TIMEOUT,
   DROP_DOWN,
   DROP_VLAN,
   DROP_FORMAT,
   DROP_MISS,
   DROP_FILTER,
   DROP_EDIT,
   DROP_OVERRUN,
   DROP_HEADROOM,
   DROP_GOV,
   TRUNC_DROP,
   CT_FRAMES,
   CT_STOMP,
   CT_UNDERRUN,
   RES_INSERTED,
   RES_SKIPPED]

/-- The objects of the dictionary, part 5 (R363). -/
def list5 : List Obj :=
  [CELL_ECC_CORR,
   CARAVAN_CYCLE,
   CARAVAN_CYCLE_ACT,
   CARAVAN_CYCLE_NUM,
   CARAVAN_LOAD_AT,
   CARAVAN_CMD,
   CARAVAN_STATUS,
   CARAVAN_FLAGS,
   CARAVAN_GUARD,
   CARAVAN_BAY_SIZE,
   CARAVAN_BAY_USE,
   CARAVAN_READ_LEAD,
   CARAVAN_SHADOW,
   CARAVAN_ACTIVE,
   CARAVAN_BLOCKS,
   CARAVAN_LAT,
   CARAVAN_SINK_SHADOW,
   CARAVAN_SINK,
   CARAVAN_TX_CELLS,
   CARAVAN_RX_CELLS,
   CARAVAN_EMPTY,
   CARAVAN_LATE,
   CARAVAN_UNMAPPED,
   CARAVAN_DISCARD,
   CARAVAN_WIDTH_DROP,
   CARAVAN_DROP_CLK,
   EM_STATE,
   EM_SEED_A,
   EM_SEED_B,
   EM_CMD,
   EM_STATUS,
   EM_USED,
   EM_LEARNED,
   STASH_USED,
   STASH_HIGH,
   EM_AUTO_REHASH,
   MIGRATE_PACE,
   MIGRATE_LEFT,
   TABLE_COMMIT,
   TABLE_FLAGS]

/-- The objects of the dictionary, part 6 (R363). -/
def list6 : List Obj :=
  [EM_ECC_LAST,
   EM_ECC_CORR,
   EM_ECC_LOSS,
   LEARN_MAX,
   PORT_LEARN,
   LEARN_NEW,
   LEARN_MOVE,
   LEARN_FULL,
   LEARN_BLOCKED,
   LEARN_OVERFLOW,
   TCAM_ZONE,
   TCAM_USED,
   TCAM_REPAIR,
   TDMA_BASE,
   TDMA_SIZE,
   TDMA_HEAD,
   TDMA_TAIL,
   TDMA_CMD,
   TDMA_STATUS,
   TDMA_LOCKS,
   LOCK_TIMEOUT,
   TIO_MODE,
   TIO_POL,
   TIO_TIMEBASE,
   TIO_T0,
   TIO_PERIOD,
   TIO_F0_PHASE,
   TIO_OFFSET,
   TIO_WIDTH,
   TIO_COUNT,
   TIO_CMD,
   TIO_STATUS,
   TIO_LEVEL,
   TIO_SAFE_LEVEL,
   TIO_EDGE,
   TIO_CAP,
   TIO_CAP_FILL,
   TIO_DELAY,
   TIO_FLAGS,
   TIO_MISSED]

/-- The objects of the dictionary, part 7 (R363). -/
def list7 : List Obj :=
  [TIO_TDC_MODE,
   F0_CNT,
   MC_LEN,
   MC_LEN_ACT,
   MC_PHASE,
   MC_COUNT,
   F0_SKEW,
   TIO_SYS_FLAGS,
   TIO_SAFE_TIMEOUT,
   MARK_MODE,
   MARK_DELAY,
   MARK_CMD,
   MARK_LAST,
   MARK_SLIPS,
   PPS_OUT_EN,
   PPS_OUT_WIDTH,
   PPS_OUT_DELAY,
   PPS_IN_LAST,
   CMD_ISSUE,
   CMD_ISSUE_STATUS,
   CMD_LEAD,
   CMD_NEXT_SEQ,
   CMD_LAST_TARGET,
   CMD_LAST,
   CMD_EXEC,
   CMD_LATE,
   CMD_DUP,
   CMD_UNKNOWN,
   CLK_F0,
   CLK_M,
   XO_FREQ,
   SPLL_VCO,
   CLK_FALLBACK,
   PLL_STATE,
   PLL_VCO_KHZ,
   PLL_DIV,
   PLL_FLAGS,
   PLL_UNLOCKS,
   OPLL_MULT,
   OPLL_STATUS]

/-- The objects of the dictionary, part 8 (R363). -/
def list8 : List Obj :=
  [CLKOUT_EN,
   CLKOUT_DIV,
   CLKOUT_STD,
   CLKOUT_PHASE,
   CLKOUT_STEP_EVERY,
   CLKOUT_SYNC,
   CLKOUT_FREQ_ACT,
   CLKOUT_PHASE_ACT,
   CLKOUT_GATE,
   REFIN_FREQ,
   REFIN_TOL,
   REFIN_QUAL,
   REFIN_STATE,
   HIER_ROLE,
   HIER_RANK,
   HIER_ADVERT,
   HIER_NEIGH,
   HIER_FLAGS,
   PAIR_ID,
   TWIN_SLOT,
   TWIN_PORT,
   TWIN_STATE,
   TWIN_CMD,
   TWIN_STATUS,
   TWIN_FLAGS,
   TWIN_PATH_STATE,
   TWIN_EPOCH_MS,
   TWIN_EPOCH_TX,
   TWIN_EPOCH_COMMIT,
   TWIN_JSEQ,
   TWIN_TAKEOVERS,
   TWIN_HB_FOREIGN,
   TWIN_EP_PORTS,
   TWIN_EPOCH_RX,
   TWIN_JOURNAL_RX,
   HIER_ID_MAP,
   DEV_PORT,
   DISC_INTERVAL,
   EP_REGISTRY,
   EP_REG_VER]

/-- The objects of the dictionary, part 9 (R363). -/
def list9 : List Obj :=
  [ENG_STATE,
   ENG_RESETS,
   ENG_LAST_CAUSE,
   ENG_ECC_CORR,
   ENG_FAULTS,
   IRQ_SHARED_CFG,
   IRQ_PENDING,
   SPURIOUS_CLAIM,
   COMPLETE_ERR,
   HDR_ERR,
   CHK_ERR,
   UNKNOWN_TYPE,
   ERASED,
   ORPHAN,
   FRAME_SEQ_ERR,
   OVERSIZE,
   FCS_ERR,
   STOMPED,
   CARAVAN_CRC,
   BLOCK_ERR,
   FEC_CORR,
   FEC_UNCORR,
   SNAP_AT,
   SNAP_CMD,
   SNAP_STATUS,
   SNAP_MODE,
   SNAP_DATA,
   SNAP_TIME,
   SNAP_TAG,
   SNAP_COUNT,
   SNAP_MISSED,
   OBS_FLAGS,
   ENG_SLOT_RETIRE,
   ENG_SLOT_BAD_SPEC,
   ENG_SLOT_FETCH,
   ENG_SLOT_MEM_PANTRY,
   ENG_SLOT_MEM_WINDOW,
   ENG_SLOT_MEM_DEVICE,
   ENG_SLOT_EXEC,
   ENG_SLOT_IDLE]

/-- The objects of the dictionary, part 10 (R363). -/
def list10 : List Obj :=
  [SAMPLE_PERIOD,
   SAMPLE_DEST,
   SAMPLE_BUF,
   SAMPLE_LOST,
   LANTERN_EN,
   LANTERN_MASK,
   LT_LOST,
   JTAG_IDCODE,
   CAL_CMD,
   CAL_STATUS,
   CAL_TABLE,
   CAL_LAST_PRECOND,
   CAL_FLAGS,
   CAL_TEMP_DELTA,
   CAL_PERIOD,
   CAL_RETRY_GAP,
   CAL_AUTO,
   LANE_Q_WARN,
   CAL_STORE,
   CAL_RUNS,
   CAL_ABORTS,
   LANE_HEALTH,
   LANE_SPARES_LEFT,
   TDC_SPARES_LEFT,
   TEMP,
   TEMP_PEAK,
   PWR_TOTAL,
   RAIL_POWER,
   GOV_STATE,
   GOV_TJ_LIMIT,
   GOV_P_SUSTAIN,
   GOV_THETA,
   GOV_TAU,
   GOV_HORIZON,
   GOV_TPRED,
   GOV_ADMIT,
   THERM_KEEP_PORTS,
   PWR_FLAGS,
   CURGOV_PACED,
   GOV_SHED_TIME]

/-- The objects of the dictionary, part 11 (R363). -/
def list11 : List Obj :=
  [RESET_CAUSE,
   SYS_RESET,
   STRAPS,
   STARTUP_OUT_HOLD,
   FW_LOADED,
   BOOT_MS,
   CFG_CMD,
   CFG_STATUS,
   CFG_LOADED,
   CFG_SEQ,
   CFG_SKIPPED,
   CFG_SKIP_FIRST,
   CFG_UPLOAD,
   CFG_HEADERS,
   USER_IMAGE,
   USER_CMD,
   USER_STATUS,
   USER_AUTOSTART,
   USER_WDOG,
   USER_RESTART,
   USER_CMD_DROP,
   USER_PARAM,
   USER_DATA]

/-- Every object of the dictionary, in ascending index order. -/
def all : List Obj :=
  list0 ++ list1 ++ list2 ++ list3 ++ list4 ++ list5 ++ list6 ++ list7 ++ list8 ++ list9 ++ list10 ++ list11

end O

end Sys2Proof.Machine
end

