-- ==== Sys2Proof/Machine/Tab.lean ====
section
/-! DEFINITION. Sparse maps in one canonical form: a list of (key, value) pairs with strictly rising keys and no entry
equal to what an unlisted key reads as. Memories, the dictionary's values and every array of like things are held so. -/

namespace Sys2Proof.Machine

/-- A sparse map. What an unlisted key reads as is a parameter of the operations. -/
abbrev Tab (α : Type) := List (Nat × α)

/-- The value at `k`; an unlisted key reads as `d`. -/
def Tab.get {α : Type} : Tab α → α → Nat → α
  | [], d, _ => d
  | (k', v) :: r, d, k => if k' = k then v else Tab.get r d k

/-- Removes every entry at `k`. -/
def Tab.erase {α : Type} : Tab α → Nat → Tab α
  | [], _ => []
  | (k', v) :: r, k => if k' = k then Tab.erase r k else (k', v) :: Tab.erase r k

/-- Puts an entry before the first key that is not below `k`. -/
def Tab.insert {α : Type} : Tab α → Nat → α → Tab α
  | [], k, v => [(k, v)]
  | (k', w) :: r, k, v => if k < k' then (k, v) :: (k', w) :: r else (k', w) :: Tab.insert r k v

/-- Writes `v` at `k`; writing what an unlisted key reads as removes the entry. -/
def Tab.set {α : Type} [DecidableEq α] (t : Tab α) (d : α) (k : Nat) (v : α) : Tab α :=
  if v = d then t.erase k else (t.erase k).insert k v

/-- Writes a run of values from `k` on. -/
def Tab.setRun {α : Type} [DecidableEq α] (t : Tab α) (d : α) (k : Nat) : List α → Tab α
  | [] => t
  | v :: vs => Tab.setRun (t.set d k v) d (k + 1) vs

/-- Reads `n` values from `k` on. -/
def Tab.getRun {α : Type} (t : Tab α) (d : α) (k : Nat) : Nat → List α
  | 0 => []
  | n + 1 => t.get d k :: Tab.getRun t d (k + 1) n

/-- Every key of the map lies above `lo`, keys rise strictly, and no entry equals what an unlisted key reads as. -/
def Tab.wfFrom {α : Type} [DecidableEq α] (d : α) : Nat → Tab α → Bool
  | _, [] => true
  | lo, (k, v) :: r => decide (lo ≤ k) && decide (v ≠ d) && Tab.wfFrom d (k + 1) r

/-- The canonical form. -/
def Tab.wf {α : Type} [DecidableEq α] (d : α) (t : Tab α) : Bool := Tab.wfFrom d 0 t

/-- Octet memories: the Pantry, the engines' TCMs and the flash (R390, R438). -/
abbrev Memory := Tab Byte

/-- A memory is in canonical form against the octet `d` that an unlisted address reads as. -/
def Memory.wf (d : Byte) (m : Memory) : Bool := Tab.wf d m

end Sys2Proof.Machine
end

