-- ==== Sys2Proof/Machine/State.lean ====
section
/-! DEFINITION. The state of the SZN-4850 as plain data, the reasons a step can stop, and the state after reset. The
values of the dictionary's numeric objects stand in `objs`, of its BLOBs in `blobs`; state that no object shows, or that
several objects view, stands in the structures below, one per chapter of the spec. -/

namespace Sys2Proof.Machine

/-- A BLOB or STRING value: its length and its octets, an unlisted octet below the length reading 0 (R8). -/
structure Blob where
  len   : Nat
  cells : Memory
  deriving DecidableEq, Repr

/-- What the part sends or drives, recorded in the order in which it leaves (log entry 7). -/
inductive Emit where
  | block (port lane type body line : Nat)             -- a control block on a native lane, and its 130 bits at the ball (R52, R58)
  | data (port lane octets line : Nat)                 -- a data block (R53)
  | train (lane body : Nat)                            -- from here on the lane sends this TRAIN in every block but round 0 (R83)
  | source (lane : Nat) (pattern : Option Nat) (far : Bool)  -- from here on the lane sends a pattern of R139, the bits it recovers, or its own
  | frame (port : Nat) (octets : Bytes) (marked : Bool)  -- a frame begins, on a native port in blocks; marked: the mark that ends it (R278)
  | message (path : Nat) (bytes : Bytes)               -- a Falri message: path 0 to 48 a port, 64 chain, 65 mailbox
  | chainFrame (bytes : Bytes)                         -- an enumeration frame (R385)
  | pinsHb (bytes : Bytes)                             -- a heartbeat frame on the pins (R414)
  | pin (kind n : Nat) (level : Bool) (at_ : Nat)      -- an edge: kind 0 TIO, 1 PPS_OUT, 2 CLKOUT, 3 INT_N (R227, R241)
  | value (v : Nat)                                    -- a value returned to the reader of a register
  | bytes (l : Bytes)                                  -- octets returned to a reader
  | lantern (l : Bytes)                                -- a packet on LT_D (R497)
  | ptp (port kind domain transport : Nat) (fields : List Nat)   -- a PTP message (R182 to R184)
  | jtag (bits : List Bool)                            -- bits shifted out of TDO, bit 0 first (R501)
  | pins (ir : Nat) (bits : List Bool)                 -- what a JTAG instruction drives onto the pins (R500)
  | resetPulse                                         -- the part resets itself (R509)
  deriving DecidableEq, Repr

/-- Power, straps and reset (R506 to R531). -/
structure Power where
  pins        : BitVec 5     -- strap levels last seen: [4] LT_D0 … [1:0] MODE (R511, R529)
  straps      : BitVec 5     -- as sampled at the last release (R511)
  railDown    : Bool         -- VDD_CORE, VDD_SRAM or VDDIO below 90 % (R509)
  xoDown      : Bool         -- held by R201
  thermtrip   : Bool         -- the THERMTRIP_N latch (R525)
  booted      : Bool         -- the boot loader has run (R512)
  cause       : Nat          -- RESET_CAUSE [5:1] as a mask (R531)
  warm        : Nat          -- RESET_CAUSE.WARM_COUNT (R531)
  sensorOut   : Nat          -- failed sensors as a mask; their readings stand in TEMP (R518)
  peakSeen    : Nat          -- sensors read since their TEMP_PEAK was, as a mask (R529)
  pAvg        : Int          -- P_avg in 2^-40 mW (R520)
  warned      : Bool         -- GOV_WARN raised in this approach (R521)
  fall        : Nat          -- fall of the admission loop's target below GOV_P_SUSTAIN, µW (R522)
  loopOn      : Bool         -- the admission loop runs (R521)
  credit      : Nat          -- bucket of R527, mA × µs
  calm        : Nat          -- consecutive periods in SHED that meet both conditions of leaving it (R521)
  idled       : List Nat     -- lanes idled under R524
  deriving DecidableEq, Repr

/-- The factory's fuses (R509, R396). -/
structure Fuses where
  serial : Nat
  mac    : Nat
  deriving DecidableEq, Repr

/-- Servo states (R33); `off` before the Hearth starts counting (R18). -/
inductive Servo where
  | free | acquire | align | track | holdover | qualify | refused | off
  deriving DecidableEq, Repr

/-- The encoding of R33, 7 until the Hearth starts counting. -/
def Servo.code : Servo → Nat
  | .free => 0 | .acquire => 1 | .align => 2 | .track => 3 | .holdover => 4 | .qualify => 5 | .refused => 6 | .off => 7

/-- Where the single step of a lock cycle stands (R26). -/
inductive StepPhase where
  | none       -- no step computed
  | computed   -- computed, waiting for the commit cycle
  | committed  -- counter share added, conditioner share in progress
  deriving DecidableEq, Repr

/-- The Hearth (R15 to R49). -/
structure Hearth where
  state       : Servo
  running     : Bool          -- the HEARTH island clock runs (R20)
  count       : BitVec 72     -- 32 bits of ns, 40 bits of fraction
  cycles      : Nat           -- HEARTH cycles since the counter started
  stepUsed    : Bool          -- R29
  reepoched   : Bool          -- a re-epoch has acted since reset (R27)
  phase       : StepPhase
  step        : Int           -- the computed step, 2^-24 ns
  stepK       : Int           -- its counter share, in F0 periods
  stepAt      : Nat           -- HEARTH cycle in which it was computed
  share       : Nat           -- conditioner share left, 2^-88 ns
  slewLeft    : Int           -- correction left to slew, 2^-88 ns, positive advances local time
  shareNow    : Nat           -- what the update interval in progress applies of the share (R24)
  slewNow     : Int           -- what the rest of the interval in progress applies of the slew (R24)
  updAt       : Nat           -- HEARTH cycle of the last conditioner update
  moved       : Int           -- all that slews and steps have moved local time by, 2^-88 ns (log entry 8)
  rate        : Int           -- the rate taken at the last conditioner update, 2^-48
  srcLost     : Bool          -- source lost after the commit cycle (R34)
  fromAlign   : Bool          -- REFUSED was entered from ALIGN (R28)
  refJump     : Bool          -- HOLDOVER after REF_JUMP (R34)
  acceptWait  : Bool          -- ACCEPT waits for its slew to be set (R39)
  shadowFrac  : Nat           -- HBUS shadow (R47): FRAC and QUALITY
  shadowWrap  : Nat
  f0Div       : Nat           -- HEARTH cycles of the present F0 cycle
  deriving DecidableEq, Repr

/-- The servo's sums, predictions and timers (R155 to R170). -/
structure ServoMem where
  thSum     : Int            -- θ of ordinary exchanges since the last update
  thN       : Nat
  qSum      : Int            -- tested offsets since the last update (R158)
  qN        : Nat
  mSum      : Int            -- running mean of the qualification (R36)
  mN        : Nat
  qOn       : Bool           -- a qualification timer runs
  qStart    : Nat            -- HEARTH cycle at which it started
  pred      : Int            -- the offset predicted while coasting (log entry 8)
  acceptN   : Nat            -- accepted since the last update
  rates     : List Int       -- HEARTH_RATE of the updates in TRACK, newest first (R168)
  b0        : Option Nat     -- bound on leaving TRACK, ps (R162)
  leftAt    : Nat            -- HEARTH cycle of leaving TRACK
  epochSet  : Bool           -- PTP_EPOCH set since reset (R185)
  ppsAt     : Option Nat     -- HEARTH cycle of the last PPS_IN edge (R163)
  ppsSince  : Bool           -- a PPS_IN edge since REFIN qualified (R559)
  extTh     : Int            -- θ of the last PPS_IN edge, 2^-24 ns
  extCand   : List Int       -- candidate θ of EXTREF (R167)
  ptpFull   : Int            -- extended local time less the master's, from the last PTP exchange, 2^-24 ns (R185)
  missed    : Nat            -- consecutive updates with no accepted exchange of the source (R158)
  thPrev    : Option Int     -- average θ of the last update in ACQUIRE that had one (R160)
  since     : Nat            -- updates since it
  okSince   : Option Nat     -- HEARTH cycle since which the frequency error has stayed within ±50 ppb (R34)
  revert    : Option Nat     -- the better candidate that waits for a θ within JUMP_LIMIT (R165)
  altWait   : Option Nat     -- the alternate that is taken at the next update (R166)
  calMove   : Int            -- movement of θ by PORT_ASYM_CAL during a route freeze, slewed at its release (R560)
  deriving DecidableEq, Repr

/-- A candidate of R156: whether it exceeds the θ limit (else the δ limit), and its residuals in δ and θ, newest first. -/
structure Cand where
  theta : Bool
  items : List (Int × Int)
  deriving DecidableEq, Repr

/-- What the timing of one port remembers (R143 to R179, R559). -/
structure PTime where
  req       : Option (Nat × Time56 × Nat)  -- the REQ sent and not answered: its sequence, t1 and lane (R80, R99)
  reqSeq    : Nat                          -- sequence of the next REQ
  peer      : Option (Nat × Time56)        -- the peer's REQ waiting for its RESP: its sequence and arrival t2 (R80)
  run       : List (Int × Int)             -- exchanges collected before the first delay measurement (R559)
  complete  : Bool                         -- first delay measurement complete
  acc       : List Int                     -- accepted δ, newest first, at most 256 (R155)
  cand      : Option Cand
  lostAt    : Option Nat                   -- HEARTH cycle of the loss of the source (R176)
  lostDelta : Int                          -- δ of the latest accepted exchange before it
  newSum    : Int                          -- δ of the exchanges accepted since confirmation (R173)
  newN      : Nat
  calAct    : Int                          -- PORT_ASYM_CAL and PORT_ASYM_ROUTE in force, ps (R181)
  routeAct  : Int
  refPrev   : Int                          -- δ_ref in force before the first step (R173)
  refSet    : Bool
  settled   : Bool                         -- settled: phase is released with the new A at the next servo update (R560)
  bias      : Int                          -- θ of the latest accepted exchange less what local time had been moved by then (log entry 8)
  dgd       : Option Int                   -- last complete 1 s DGD average, 2^-24 ns (R174)
  dgdPrev   : Option Int                   -- the average that ended before the step (R175)
  confirmAt : Nat                          -- HEARTH cycle of confirmation
  rangedAt  : Option Nat                   -- HEARTH cycle in which a ranging was last completed (R179)
  ptpT1     : Option (Nat × Nat × Int)     -- BC slave: master time and local arrival of the last Sync, and their extended difference (R184)
  ptpSync   : Option (Nat × Nat × Int)     -- two-step Sync waiting for its Follow_Up: sequence, arrival and correctionField
  ptpT3     : Option (Nat × Nat)           -- Delay_Req sent: sequence and departure
  ptpSeq    : Nat                          -- next sequenceId
  ptpSlave  : Bool                         -- BMCA recommends the slave state (R163)
  ptpMaster : Nat                          -- sourcePortIdentity of the selected master
  deriving DecidableEq, Repr

/-- The states of an interrupt source (R454). -/
inductive IrqState where
  | idle | pending | active
  deriving DecidableEq, Repr

/-- One interrupt source (R454, R457). -/
structure IrqSrc where
  st     : IrqState
  ev     : Nat         -- EVCNT, saturating at 255
  repend : Bool
  owner  : Nat         -- the target for which it is ACTIVE
  held   : Bool        -- a moderation interval runs
  deriving DecidableEq, Repr

/-- The interrupt controller (R450 to R458). -/
structure Irq where
  src        : Tab IrqSrc
  cfg        : Tab Nat      -- config words, shared and private, by source (R453)
  presented  : List Nat     -- targets presented since their last claim (R455)
  hostThr    : Nat          -- HOST_THRESHOLD
  hostCount  : Nat          -- HOST_COUNT
  page       : Nat          -- PANTRY_PAGE
  extirq     : BitVec 4     -- levels of EXTIRQ3 to EXTIRQ0
  deriving DecidableEq, Repr

/-- One engine: machine state, custom CSRs and hidden state of its window, watchdog and loader (R436 to R449). -/
structure Engine where
  pc         : Nat
  regs       : Tab Nat       -- x1 to x31
  mie        : Bool          -- mstatus.MIE
  mpie       : Bool          -- mstatus.MPIE
  meie       : Bool          -- mie bit 11
  mtvec      : Nat
  mepc       : Nat
  mcause     : Nat
  mtval      : Nat
  mscratch   : Nat
  mcycle     : Nat
  minstret   : Nat
  threshold  : Nat           -- IRQ_THRESHOLD
  irqCount   : Nat           -- IRQ_COUNT
  shFrac     : Nat           -- HTIME_FRAC shadow
  shWrap     : Nat           -- HTIME_WRAP shadow
  f0hi       : Nat           -- F0CNT_HI
  userQ      : List (Nat × Nat)   -- USER queue: ARG and execution-edge NS, oldest first
  userT      : Nat           -- USER_T
  hcmpNs     : Nat
  hcmpEn     : Bool
  hcmpDone   : Bool          -- TIMER raised since the last write of HCMP_NS or EN
  winHi      : Nat           -- staged high half of a window store
  winHeld    : Nat           -- held high half of a window load
  winStatus  : Nat           -- WIN_STATUS
  warned     : Bool          -- WDOG_WARN raised in this period
  wfiAt      : Nat           -- ENGINE cycle at which WFI began (R492)
  loaded     : Bool          -- LOAD has succeeded (R445)
  entry      : Nat
  itcm       : Memory
  dtcm       : Memory
  samples    : List Bytes    -- SAMPLE_BUF records, oldest first (R494)
  deriving DecidableEq, Repr

/-- The snapshot logic (R485 to R491). -/
structure Snap where
  armed     : Bool
  gathering : Option (Bytes × Nat)    -- the captured image and its SNAP_TIME
  late      : Bool                    -- ABORT_LATE waits for completion (R490)
  deriving DecidableEq, Repr

/-- The Lantern port (R496 to R499). -/
structure Lantern where
  fifo : List Bytes     -- packets, oldest first
  lost : Nat            -- packets lost since the last LOSS packet
  deriving DecidableEq, Repr

/-- The test access port (R500). -/
structure Jtag where
  ir       : Nat          -- 0 BYPASS, 1 IDCODE, 2 SAMPLE/PRELOAD, 3 EXTEST, 4 EXTEST_PULSE, 5 EXTEST_TRAIN, 6 CLAMP, 7 HIGHZ
  boundary : List Bool
  deriving DecidableEq, Repr

/-- One stored response of R377. -/
structure DupRec where
  path : Nat
  src  : Nat
  seq  : Nat
  op   : Nat
  crc  : Nat
  at_  : Nat            -- HEARTH cycle of the original
  resp : Bytes
  deriving DecidableEq, Repr

/-- A read buffer of R375. -/
structure ReadBuf where
  path  : Nat
  src   : Nat
  key   : Nat
  data  : Bytes
  at_   : Nat           -- HEARTH cycle of its last use
  deriving DecidableEq, Repr

/-- The staging buffer of R376. -/
structure Staging where
  path  : Nat
  src   : Nat
  key   : Nat
  total : Nat
  data  : Bytes
  at_   : Nat           -- HEARTH cycle of its last segment
  deriving DecidableEq, Repr

/-- A proxy record of R383. -/
structure Proxy where
  path : Nat
  src  : Nat
  seq  : Nat
  dst  : Nat
  mac  : Nat            -- SA and outer VLAN tag of the Ethernet frame, when the request came in one
  tag  : Option (BitVec 32)
  at_  : Nat            -- HEARTH cycle of its request
  deriving DecidableEq, Repr

/-- What a commit or an install writes, until it completes (R393, R394). -/
structure FlashJob where
  copy : Nat
  seq  : Nat
  body : Bytes
  hdr  : Bytes
  deriving DecidableEq, Repr

/-- The management service of E8 (R363 to R398). -/
structure Falri where
  dups      : List DupRec        -- newest first, at most 16
  bufs      : List ReadBuf       -- used last first, at most 4
  staging   : Option Staging
  lostFrom  : List (Nat × Nat)   -- requesters whose staging buffer was replaced or lapsed (R376)
  proxies   : List Proxy         -- at most 64
  notify    : Tab Nat            -- bits newly raised since the last NOTIFY, by object key (R379)
  notifySeq : Nat
  notifyAt  : List Nat           -- HEARTH cycles of the NOTIFYs of the last 1 s (R379)
  session   : Bool               -- EXPERT_SESSION open (R365)
  sessionAt : Nat                -- HEARTH cycle of its last start
  job       : Option FlashJob
  jobKind   : Nat                -- 0 none, 1 COMMIT, 2 INSTALL, 3 ERASE_BOTH
  enumOut   : Bool               -- an enumeration frame has not returned (R385)
  deferred  : List (FalriHdr × Path)   -- DISCOVERs to ALL waiting for their delay (R380)
  -- the HBUS mailbox (R386)
  mbReq     : Memory             -- 0x1000 to 0x17FF
  mbLen     : Nat
  mbNotify  : Bool
  mbErr     : Bool
  mbHeld    : Option (Bytes × Bool)  -- the message held at 0x1800, and IS_NOTIFY
  mbWait    : List Bytes             -- responses waiting
  mbNotes   : List Bytes             -- NOTIFYs waiting, at most 8
  deriving DecidableEq, Repr

/-- The hierarchy (R399 to R412). -/
structure Hier where
  prov      : Bool              -- provisional root (R405)
  rootClass : Nat               -- the adopted key's class, 3 none
  rootId    : Nat
  aloneAt   : Option Nat        -- HEARTH cycle since which both conditions of R405 hold
  upSeen    : Nat               -- UPSTREAM_PORT that E9's entries follow (R412)
  neigh     : Tab Bytes         -- fresh advertisements by port (R400)
  missed    : Tab Nat           -- polls unanswered, by port
  devPort   : Tab Nat           -- DEV_PORT by device, 0xFF none (R407)
  devAt     : Tab Nat           -- HEARTH cycle of the last refresh, by device (R407)
  idMap     : Tab Nat           -- HIER_ID_MAP by device (R408)
  registry  : Tab Nat           -- EP_REGISTRY by endpoint (R410)
  reports   : Tab Nat           -- SERIAL that last reported a DEVICE_ID (R409)
  fetching  : Bool              -- a registry transfer is under way (R411)
  fetchVer  : Nat               -- the version that it brings
  deriving DecidableEq, Repr

/-- The twin (R413 to R430). -/
structure Twin where
  pair      : Nat               -- PAIR_ID, TWIN_SLOT and TWIN_PORT as they stood at start-up (R431)
  slot      : Nat
  port      : Nat
  leaseSeq  : Nat               -- active: newest renewal sent; otherwise newest received
  ackSeq    : Option Nat        -- newest renewal acknowledged since the claim
  sent      : List (Nat × Nat)  -- renewals since the claim, newest first: number and HEARTH cycle (R417)
  leaseAt   : Nat               -- HEARTH cycle at which the newest acknowledged renewal was sent, or the newest one was received (R417)
  heard     : Bool              -- a renewal has been received since the twin became SYNCING
  claimed   : Bool              -- became ACTIVE by CLAIM after SLOT_CONFLICT (R421)
  conflict  : Bool              -- HBs with this part's own ID arrive
  acting    : Bool              -- may act under R417
  peerRole  : Nat               -- ROLE last heard from the twin, 7 none
  lastSeg   : Bytes             -- the last segment of the epoch being sent, empty while none is (R425)
  epochNum  : Nat
  handover  : Bool              -- sends ROLE HANDOVER
  journal   : List (Nat × Bytes)  -- entries received since the JSEQ_AT of the last commit: JSEQ and record (R424)
  jseq      : Nat               -- last JSEQ assigned or applied
  committed : Bool              -- an epoch has committed
  deriving DecidableEq, Repr

/-- The phase reading of a lane (R123, R147): the interpolator code last sampled, the whole UI by which it has been unwrapped, and the
unwrapped codes of the last words with the number of words of each, newest first. -/
structure Cdr where
  code  : Nat
  turns : Int
  hist  : List (Int × Nat)
  deriving DecidableEq, Repr

/-- One lane (R82 to R104, R119 to R139). Its LINK_STATE, LINK_SLIP, latencies, taps and eye figures are objects. -/
structure Lane where
  stCm1     : Nat            -- tap statuses this part reports (R84, R85)
  stC0      : Nat
  stCp1     : Nat
  reqCm1    : Nat            -- tap requests this part holds
  reqC0     : Nat
  reqCp1    : Nat
  peerRx    : Nat            -- RXSTATE last received
  readyRun  : Nat            -- consecutive TRAIN blocks with RX_READY both ways (R86)
  slip      : Nat            -- slip position under search or confirmed (R87)
  decided   : Bool           -- the bit-slip decision point has passed (R89)
  abortWait : Bool           -- an ABORT stops training at the next state change (R89)
  failed    : Bool           -- training has failed and waits for its retry (R83)
  aborted   : Bool           -- software wrote ABORT: no retry (R83)
  skewDone  : Bool           -- R96 completed since the last training
  posRx     : Nat            -- POS of the peer's lane, from LANEMAP (R93)
  sfcRx     : Nat            -- SFC of the last SUPER (R95)
  superN    : Nat            -- SUPER blocks received since block lock
  superAt   : Time56         -- arrival of the last SUPER (R95)
  cdr       : Cdr
  peerReq   : Option (Nat × Time56)  -- in SKEW_MEASURE, the peer's REQ on this lane that waits: its sequence and arrival t2 (R96)
  aligned   : Bool           -- the deskew depth is fixed (R95)
  leave     : Nat            -- leaves ACTIVE at the next round 1: 1 to retrain, 2 for a test (R102, R137)
  deskIn    : Option (Nat × Nat × Nat)  -- DEVICE, WIDTH and EP of the last LANEMAP (R95)
  scrambler : Nat            -- 31-bit state of the transmit scrambler (R55)
  descr     : Nat            -- 31-bit state of the descrambler
  anaTx     : Nat            -- analogue latency, 0.01 ps (R90)
  anaRx     : Nat
  anaNext   : Option (Nat × Nat)  -- a new figure waiting for the next lock of an Ethernet port (R151, R463)
  eq        : List Int       -- CTLE, VGA, h1 to h12 (R123)
  trained   : List Int       -- the trained values (R127)
  eqNext    : Option (List Int)   -- an expert write waiting for the update boundary (R128)
  mode      : Nat            -- ADAPT_MODE in force (R125)
  divFrozen : Bool           -- R126
  lowRun    : Nat            -- consecutive windows of low diversity, and of sufficient diversity (R126)
  okRun     : Nat
  fill      : Nat            -- bits in the FIFO of FAR_RETIMED (R138)
  seen      : Nat            -- the last bits that the pattern checker has seen, the newest in bit 0, and their number (R139)
  seenN     : Nat
  rxInv     : Bool           -- R134
  test      : Bool           -- a loopback or a pattern holds the lane (R137)
  removed   : Bool           -- removed from service (R471)
  lowWarn   : Nat            -- sweeps below LANE_Q_WARN in a row (R471)
  lowFloor  : Nat            -- sweeps below LANE_Q_FLOOR in a row
  degraded  : Bool           -- DEGRADED (R470, R471)
  deriving DecidableEq, Repr

/-- One lane group (R57, R108, R517). -/
structure Group where
  sfc     : BitVec 32   -- superframe count
  sfcOn   : Bool        -- the TPLL has locked since reset
  sfRun   : Bool        -- a superframe has begun since then
  sfAt    : Nat         -- HEARTH cycle at which the superframe in progress began
  mode    : Nat         -- the mode in force
  n       : Nat         -- N in force
  probe   : Nat         -- AUTO: 0 NATIVE, 1 ETH_25G with RS528, 2 ETH_25G with NONE, 3 ETH_10G
  settled : Bool        -- AUTO has settled
  deriving DecidableEq, Repr

/-- The best-effort frame that a native port has open (R65 to R69): its class and TAG, the octets still to be sent and those sent, and
whether it is to end, with BAD or without. Until START has left, `start` holds its CT bit. -/
structure TxFrame where
  cls    : Nat
  tag    : Nat
  start  : Option Bool
  octets : Bytes
  sent   : Nat
  done   : Bytes
  ending : Option Bool
  deriving DecidableEq, Repr

/-- The link side of one port (R69, R80, R93 to R100). PORT_ACTIVE, PORT_PEER and PORT_TIMING_POS are objects. -/
structure LPort where
  up        : Bool        -- in service
  peerAct   : Nat         -- ACTIVE of the peer's last LANEMAP
  peerOk    : Nat         -- RX_OK of the peer's last LANEMAP
  widen     : Bool        -- a widening waits for an idle boundary (R100)
  forced    : Bool        -- READMIT_FORCE has passed: the next START is held (R100)
  sfSince   : Nat         -- superframes since the last REQ (R80)
  setDue    : Bool        -- a SET is due after the REQ of this interval (R81)
  crIn      : Tab Nat     -- last CR_COUNT by class (R69)
  consumed  : Tab Nat     -- cells consumed by class
  crOut     : Tab Nat     -- cells made available by class
  crNext    : Nat         -- CR_CLASS of the next credit field
  tag       : Nat         -- TAG of the next START (R63)
  rxOpen    : Option Nat  -- CLASS and TAG [119:104] of the frame open in the receive direction (R67)
  rxLost    : Option Nat  -- CLASS and TAG of a frame that an error has dropped and whose octets are still to come (R101)
  rxAt      : Option Time56  -- Hearth time of the last change of the receive width in service (R317)
  rxPos     : Nat         -- place in the receive active set of the next port block (R77)
  frame     : Option TxFrame  -- the frame open in the transmit direction
  interrupted : Bool      -- it has been interrupted, and CONT comes next (R68)
  gap       : Nat         -- port blocks since the last MGMT, at most 8 (R75)
  hb        : List Nat    -- HB and MGMT bodies that wait (R73 to R75)
  mgmt      : List Nat
  epoch     : Nat         -- entries into service since reset (R70)
  deriving DecidableEq, Repr

/-- One PLL (R198 to R206). PLL_STATE, PLL_DIV and PLL_VCO_KHZ are objects. -/
structure Pll where
  good    : Nat       -- consecutive good windows
  nextR   : Nat       -- the plan that loads at step 3
  nextP   : Nat
  nextFb  : Nat
  change  : Bool      -- a frequency change waits for its steps 1 and 2 (R203)
  forced  : Bool      -- the band limiter forces the charge pump down (R204)
  eth     : Bool      -- the plan loaded takes CREF_ETH as its reference (R194)
  deriving DecidableEq, Repr

/-- One clock output (R205 to R214). CLKOUT_GATE and CLKOUT_PHASE_ACT are objects. -/
structure Clkout where
  closing : Bool      -- the gate closes at the next falling edge
  off     : Bool      -- the driver turns off once the gate has closed (R211)
  ready   : Bool      -- the gate opens at its boundary (R203 step 5)
  walk    : Bool      -- a phase walk is in progress (R213)
  fwd     : Bool
  edges   : Nat       -- rising edges towards the next step of a walk (R213, R214)
  trim    : Int       -- output delay trim in force, steps of 0.5 ps (R462)
  trimIn  : Int       -- what is still to be walked in of the last correction (R463, R474)
  deriving DecidableEq, Repr

/-- The reference input's qualification (R218) and the islands' multiplexers (R202). -/
structure ClkSys where
  f0      : Nat       -- F0 in force, mHz: CLK_F0 as it stood at start-up (R189)
  want    : Nat       -- islands that shall run on FBCLK, laid out as CLK_FALLBACK
  refGood : Nat       -- consecutive windows within REFIN_TOL
  refSeen : Bool
  deriving DecidableEq, Repr

/-- One pulse generator (R226 to R234). TIO_STATUS is an object. -/
structure Gen where
  on     : Bool       -- the generator runs: its status is BUSY but for a command refused meanwhile (log entry 58)
  k      : Nat        -- rising edges that have left or were passed over
  high   : Bool       -- a pulse is in its active phase
  fromF0 : Nat        -- timebase F0: F0_CNT of the lattice edge from which on the next rising edge is sought (R227, R233)
  due    : Int        -- timebase TIME: extended local time of the next rising edge, 2^-24 ns (R227, R232)
  width  : Nat        -- width of the present pulse, ps
  rose   : Time56     -- when it rose
  deriving DecidableEq, Repr

/-- One TDC channel (R237 to R240). -/
structure Tdc where
  recs  : List Bytes  -- queued records, oldest first
  seq   : Nat
  ovf   : Bool
  last  : Option (Time56 × Nat)   -- last edge, and the HEARTH cycle in which it came
  deriving DecidableEq, Repr

/-- The rest of the timed I/O block: lattice, MARK_IN, PPS_OUT and fast commands (R222 to R248). -/
structure Tio where
  firstLock : Bool           -- the servo has entered TRACK or HOLDOVER since reset (R515)
  suspended : Bool           -- the EPLL is unlocked (R234)
  markRun   : Nat            -- consecutive captures spaced MC_LEN (R242)
  markLast  : Option Nat     -- F0_CNT of the last assigned edge
  aligned   : Bool           -- the first alignment is done
  ppsHigh   : Bool
  ppsSec    : Option Int     -- PTP second at which PPS_OUT last rose (R241)
  ppsRose   : Time56         -- when it did
  synced    : Bool           -- F0_SYNCED (R224)
  seq0      : Option Nat     -- LAST_SEQ of ISS 0 (R245)
  seq1      : Option Nat     -- LAST_SEQ of ISS 1
  execQ     : List Nat       -- CMD bodies waiting for their edge (R246)
  relayQ    : Tab (List Nat) -- CMD bodies waiting for slot 0, by port
  issueQ    : Option Nat     -- the command issued and not yet sent (R248)
  deriving DecidableEq, Repr

/-- The shares of the Cellar's cells (R268). -/
inductive Share where
  | lossless | guarantee | shared | reserve
  deriving DecidableEq, Repr

/-- A frame held in the Cellar: its octets without FCS, its ingress port and class, the share that took its cells, the number of its
copies, and the native credit that returns with its last one: class, cells and the entry into service in which they were received (R266,
R267, R271). -/
structure Stored where
  octets : Bytes
  inPort : Nat
  cls    : Nat
  share  : Share
  refs   : Nat
  credit : Option (Nat × Nat × Nat)
  deriving DecidableEq, Repr

/-- A descriptor: one copy of a frame, with what was bound to it at lookup (R264, R267). -/
structure Desc where
  fid      : Nat       -- the frame
  outPort  : Nat
  cls      : Nat
  ct       : Bool      -- sent by cut-through
  bad      : Bool      -- found bad, tail mark required
  ptp      : Bool      -- residence time to be inserted
  ptpOff   : Nat
  xport    : Nat       -- PTP_XPORT
  nh       : Option Nat    -- the next-hop entry, bound (R261): 16 octets as a number
  vid      : Nat
  untag    : Bool      -- the VID is in the egress port's UNTAG
  noEdit   : Bool
  commit   : Nat
  tIn      : Time56
  share    : Share
  mgmt     : Bool      -- a management or timing frame (R259)
  limit    : Nat       -- FRAME_TIMEOUT bound at lookup, µs (R280)
  started  : Bool      -- in transmission
  deriving DecidableEq, Repr

/-- The Cellar (R254 to R295). -/
structure Cellar where
  frames   : Tab (Option Stored)
  nextId   : Nat
  copies   : List Desc    -- in order of admission; the queue (p, q) is the sublist of its port and class
  deficit  : Tab Nat      -- by 8 × port + class (R274)
  visit    : Tab Nat      -- class at which round robin stands, by port
  paused   : Tab Nat      -- priorities paused by received PFC, by port (R272)
  xoff     : Tab Nat      -- classes for which the port holds its peer paused, by port
  withheld : Tab Nat      -- native credit withheld, by 8 × port + class (R273)
  credit   : Tab Nat      -- NATIVE_CREDIT at entry to service, by port (R271)
  peak     : Tab Nat      -- QUEUE_PEAK, by 8 × port + class
  fence    : Nat          -- the drain fence's target (R265)
  passed   : Nat          -- best-effort frames admitted in this period of 1 ms (R273, R522)
  ref      : Nat          -- best-effort frames admitted in the last period before SHED (R522)
  took     : Bool         -- the frame that is being received has been stored
  fifo     : Tab (List Bool)  -- parsed headers that wait, by pipeline, oldest first: whether of a management or timing frame (R255)
  fifoAt   : Tab Nat      -- LOOKUP cycle up to which each pipeline has taken headers (R254)
  deriving DecidableEq, Repr

/-- A prefix entry, in one of the four copies of the TCAM (R345). -/
structure Prefix where
  value  : Nat      -- 160 bits
  mask   : Nat      -- 160 bits
  result : Nat      -- 16 bits
  valid  : Bool
  deriving DecidableEq, Repr

/-- A lock on a bucket (R354): key 0 to 32767 in sub-table 0, 32768 to 65535 in sub-table 1. -/
structure BucketLock where
  bucket : Nat
  ring   : Nat
  at_    : Nat      -- HEARTH cycle at which its timer started
  deriving DecidableEq, Repr

/-- A learn request (R338). -/
structure LearnReq where
  key  : Nat        -- KEY of an L2 entry (R328)
  port : Nat
  deriving DecidableEq, Repr

/-- The lookup tables and their update unit (R326 to R358). EM_STATE, EM_STATUS, TDMA_STATUS, the seeds and the counters
are objects. -/
structure Tables where
  em      : Tab Nat            -- 128-bit images by 4 × (131072 × AREA + INDEX) + SLOT; 0 unlisted
  emBad   : List Nat           -- locations that hold an uncorrectable error (R358)
  tcam    : Tab Prefix    -- row i of the copy of pipeline k at 16384 k + i (R254, R345)
  locks   : List BucketLock
  expired : List (Nat × Nat)   -- (ring, bucket) of the recorded expiries (R354)
  learnQ  : List LearnReq      -- oldest first, at most 512 (R339)
  walk    : Nat                -- next bucket or group of the migration walk: 0 to 65551 (R341)
  skipped : List Nat           -- locked buckets to be revisited
  rehash  : Bool               -- the migration in progress was started by E9 (R344)
  deriving DecidableEq, Repr

/-- A cell held in the Caravan bay (R310, R311). -/
structure BayCell where
  srcPort : Nat
  srcSlot : Nat
  hdr     : Nat                -- the 64-bit header as received
  payload : Nat
  sent    : Nat                -- the sender's cycle number, extended from TXC (R306)
  arrival : Time56             -- start of bit 129 at the ball, moved LAG rounds earlier (R314)
  dstar   : Time56             -- D* (R311)
  width   : Nat                -- ingress width
  due     : List (Nat × Nat)   -- entries that have still to read it, and the cycle in which each does
  read    : Bool               -- some entry has read it
  deriving DecidableEq, Repr

/-- The established phase of a schedule entry (R311, R312). -/
structure Phase where
  off   : Option Nat           -- read cycle less sending cycle, mod 2^24; none until established
  bad   : Nat                  -- consecutive late or early cells
  fresh : Bool                 -- no cell has been sent since it was established
  lat   : Option Int           -- latency with which it was established, 2^-24 ns (R315 MIXED)
  low   : Bool                 -- its MARGIN lies below CARAVAN_GUARD
  deriving DecidableEq, Repr

/-- A cell taken at a read point, waiting for its ROUND (R308, R311). -/
structure Taken where
  hdr     : Nat
  payload : Nat
  cycle   : Nat                -- this part's cycle in which it is sent
  src     : Option (Nat × Nat × Time56 × Int)  -- ingress port, its width, nominal arrival and margin; none when LOCAL
  deriving DecidableEq, Repr

/-- A record of CARAVAN_LAT with the samples of the last second (R315). -/
structure LatRec where
  valid   : Bool
  lat     : Int
  mixed   : Bool
  samples : List (Nat × Int)   -- uptime in ns and margin in ps of each cell sent, newest first
  deriving DecidableEq, Repr

/-- A Caravan mailbox (R443). -/
structure Mailbox where
  payload : Nat
  user    : Nat                -- USER byte of a local mailbox, CELL_HDR of a sink mailbox
  full    : Bool               -- VALID of a local mailbox, FULL of a sink mailbox
  mark    : Bool               -- MISSED of a local mailbox, OVERRUN of a sink mailbox
  taken   : Bool               -- a read point has taken the local cell
  ns      : Nat                -- nominal delivery of a sink cell
  deriving DecidableEq, Repr

/-- The Caravan scheduler (R296 to R321). The tables in force are the BLOBs CARAVAN_ACTIVE and CARAVAN_SINK. -/
structure Caravan where
  bay       : List BayCell
  phases    : Tab Phase        -- by entry: 65536 × port + 16 × SLOT + WMASK
  recs      : Tab LatRec       -- by 768 × egress port + index of R315
  taken     : Tab (Option Taken)   -- by 4096 × port + SLOT
  lmbox     : Tab Mailbox
  smbox     : Tab Mailbox
  cycleF0   : Nat              -- F0_CNT at the start of the cycle in progress
  cycleAt   : Time56           -- Hearth time of that start
  began     : Bool             -- a cycle has begun
  checking  : Bool             -- a LOAD is being checked (R303)
  waiting   : Bool             -- checked tables wait for their target cycle
  initial   : Bool             -- checked tables wait for the first cycle after F0_SYNCED (R305)
  idle      : List Nat         -- lane groups that have left NATIVE since the last swap (R319)
  rearm     : Bool             -- REARM waits for the next cycle start
  swapCycle : Option Nat       -- cycle of the last swap (R306)
  deriving DecidableEq, Repr

/-- One calibration of one element (R462 to R480). -/
structure CalRec where
  state     : Nat              -- R477
  retries   : Nat
  grade     : Nat
  precond   : Nat
  figure    : Nat
  okAt      : Option Nat       -- uptime in ns of the last successful run
  waitAt    : Nat              -- HEARTH cycle in which WAIT_PRECOND was entered (R466)
  doneAt    : Option Nat       -- HEARTH cycle in which the coefficients of the last run were committed (R474)
  temp      : Int              -- sensor reading at the last successful run, 0.1 °C
  deferTemp : Int              -- reading at deferral
  startTemp : Int              -- reading at the start of the run
  forced    : Bool             -- a RUN started the run
  direct    : Bool             -- a direct LANE_LAT run
  again     : Bool             -- a trigger arrived during the run (R463)
  rerun     : Bool             -- the run repeats one that found a failed element (R468)
  retry     : Bool             -- the run in progress is a retry (R466)
  waitTrain : Bool             -- SLICER: a trigger waits for the lane's next training (R466); LANE_LAT: the repeat is a direct run
  trims     : Nat              -- runs whose coefficients have been applied: names the coefficients in force (R461)
  deriving DecidableEq, Repr

/-- Calibration (R461 to R480). -/
structure Cal where
  recs       : Tab CalRec      -- by 256 × KIND + INSTANCE
  slicerFail : Tab Nat         -- failed slicers by lane, bits as in R475
  spareOf    : Tab Nat         -- by 16 × lane + role: the slicer in use for the role, 0 its own, else the spare's bit
  lost       : Tab Nat         -- roles lost with no spare, by lane (R470)
  cellFail   : Tab Nat         -- failed TDC cells by channel
  subs       : List (Nat × Nat × Nat)   -- lane, slicer and receive latency of the failures that wait for a superframe boundary (R470)
  command    : Option (Nat × Nat)   -- KIND and INSTANCE of the RUN that CAL_STATUS follows
  deriving DecidableEq, Repr

/-- The machine. -/
structure State where
  pending : List Instr
  out     : List Emit         -- what has left the part, newest first (log entry 7)
  free    : Nat               -- the model's own counter of free values (log entry 3)
  objs    : Tab Nat           -- values of the numeric objects by `Obj.key`, two's complement in their width
  blobs   : Tab Blob          -- values of the BLOB and STRING objects by `Obj.key`
  power   : Power
  fuses   : Fuses
  hearth  : Hearth
  servo   : ServoMem
  ports   : Tab PTime         -- by native port
  lanes   : Tab Lane
  groups  : Tab Group
  lports  : Tab LPort
  plls    : Tab Pll           -- by the numbers of R191
  clkouts : Tab Clkout
  clk     : ClkSys
  gens    : Tab Gen           -- by TIO channel
  tdcs    : Tab Tdc           -- by TDC channel, 16 MARK_IN and 17 PPS_IN
  tio     : Tio
  cellar  : Cellar
  tables  : Tables
  caravan : Caravan
  cal     : Cal
  irq     : Irq
  engines : Tab Engine
  sems    : Tab Nat           -- 0 free, k + 1 held by requester k
  snap    : Snap
  lantern : Lantern
  jtag    : Jtag
  falri   : Falri
  hier    : Hier
  twin    : Twin
  flash   : Memory            -- unlisted octets read 0xFF (erased)
  pantry  : Memory            -- unlisted octets read 0
  deriving DecidableEq, Repr

/-- Faults. The spec gives every command an effect, or says that it is refused and goes on: no command stops the machine,
and the type has no constructor. Nobody raises one; having none is safe. -/
inductive Fault where
  deriving DecidableEq, Repr

/-- Refusals. `notModelled` is answered only by an arm of `exec` that has no meaning yet: safe, since nothing is claimed
of that command. -/
inductive Refusal where
  | notModelled (mnemonic : String)
  deriving DecidableEq, Repr

namespace Dflt

/-- A BLOB that nothing has written. -/
def blob : Blob := ⟨0, []⟩

/-- An interrupt source after reset (R454). -/
def irqSrc : IrqSrc := ⟨.idle, 0, false, 0, false⟩

/-- An engine that has not been loaded (R445). -/
def engine : Engine :=
  { pc := 0, regs := [], mie := false, mpie := false, meie := false, mtvec := 0, mepc := 0, mcause := 0, mtval := 0,
    mscratch := 0, mcycle := 0, minstret := 0, threshold := 0, irqCount := 0, shFrac := 0, shWrap := 0, f0hi := 0,
    userQ := [], userT := 0, hcmpNs := 0, hcmpEn := false, hcmpDone := false, winHi := 0, winHeld := 0, winStatus := 0,
    warned := false, wfiAt := 0, loaded := false, entry := 0, itcm := [], dtcm := [], samples := [] }

/-- The timing of a port before its first exchange. -/
def ptime : PTime :=
  { req := none, reqSeq := 0, peer := none, run := [], complete := false, acc := [], cand := none, lostAt := none,
    lostDelta := 0, newSum := 0, newN := 0, calAct := 0, routeAct := 0, refPrev := 0, refSet := false, settled := false, bias := 0,
    dgd := none, dgdPrev := none, confirmAt := 0, rangedAt := none,
    ptpT1 := none, ptpSync := none, ptpT3 := none, ptpSeq := 0, ptpSlave := false, ptpMaster := 0 }

/-- A lane before training. -/
def lane : Lane :=
  { stCm1 := 0, stC0 := 0, stCp1 := 0, reqCm1 := 0, reqC0 := 0, reqCp1 := 0, peerRx := 0, readyRun := 0, slip := 0,
    decided := false, abortWait := false, failed := false, aborted := false, skewDone := false, posRx := 0, sfcRx := 0,
    superN := 0, superAt := 0, cdr := { code := 0, turns := 0, hist := [] }, peerReq := none, aligned := false, leave := 0, deskIn := none, scrambler := 0, descr := 0, anaTx := 0, anaRx := 0, anaNext := none, eq := [],
    trained := [], eqNext := none, mode := 0, divFrozen := false, lowRun := 0, okRun := 0, fill := 64, seen := 0, seenN := 0, rxInv := false, test := false,
    removed := false, lowWarn := 0, lowFloor := 0, degraded := false }

/-- A lane group after reset: NATIVE, its TPLL not yet locked. -/
def group : Group := { sfc := 0, sfcOn := false, sfRun := false, sfAt := 0, mode := 0, n := 256, probe := 0, settled := false }

/-- The link side of a port after reset. -/
def lport : LPort :=
  { up := false, peerAct := 0, peerOk := 0, widen := false, forced := false, sfSince := 0, setDue := false, crIn := [],
    consumed := [], crOut := [], crNext := 0, tag := 0, rxOpen := none, rxLost := none, rxAt := none, rxPos := 0, frame := none, interrupted := false,
    gap := 8, hb := [], mgmt := [], epoch := 0 }

/-- A PLL after reset. -/
def pll : Pll := { good := 0, nextR := 0, nextP := 0, nextFb := 0, change := false, forced := false, eth := false }

/-- A clock output after reset: gated, driver off. -/
def clkout : Clkout :=
  { closing := false, off := false, ready := false, walk := false, fwd := false, edges := 0, trim := 0, trimIn := 0 }

/-- A pulse generator after reset. -/
def gen : Gen := { on := false, k := 0, high := false, fromF0 := 0, due := 0, width := 0, rose := 0 }

/-- A TDC channel after reset. -/
def tdc : Tdc := { recs := [], seq := 0, ovf := false, last := none }

/-- A TCAM row that holds no entry. -/
def pfx : Prefix := ⟨0, 0, 0, false⟩

/-- A schedule entry that is not established. -/
def phase : Phase := { off := none, bad := 0, fresh := true, lat := none, low := false }

/-- A record of CARAVAN_LAT that nothing has written. -/
def latRec : LatRec := { valid := false, lat := 0, mixed := false, samples := [] }

/-- An empty Caravan mailbox. -/
def mailbox : Mailbox := { payload := 0, user := 0, full := false, mark := false, taken := false, ns := 0 }

/-- A calibration that has not run. -/
def calRec : CalRec :=
  { state := 0, retries := 0, grade := 0, precond := 0, figure := 0, okAt := none, waitAt := 0, doneAt := none, temp := 0, deferTemp := 0,
    startTemp := 0, forced := false, direct := false, again := false, rerun := false, retry := false, waitTrain := false, trims := 0 }

/-- The Hearth before it starts (R18): state 7, nothing counted. -/
def hearth : Hearth :=
  { state := .off, running := false, count := 0, cycles := 0, stepUsed := false, reepoched := false, phase := .none,
    step := 0, stepK := 0, stepAt := 0, share := 0, slewLeft := 0, shareNow := 0, slewNow := 0, updAt := 0, moved := 0, rate := 0, srcLost := false, fromAlign := false,
    refJump := false, acceptWait := false, shadowFrac := 0xEF, shadowWrap := 0, f0Div := 0 }

/-- The servo's memory before any exchange. -/
def servo : ServoMem :=
  { thSum := 0, thN := 0, qSum := 0, qN := 0, mSum := 0, mN := 0, qOn := false, qStart := 0, pred := 0,
    acceptN := 0, rates := [], b0 := none, leftAt := 0, epochSet := false, ppsAt := none,
    ppsSince := false, extTh := 0, extCand := [], ptpFull := 0, missed := 0, thPrev := none, since := 0, okSince := none,
    revert := none, altWait := none, calMove := 0 }

/-- Power after a power-on reset with the straps at 0 (log entry 9). -/
def power : Power :=
  { pins := 0, straps := 0, railDown := false, xoDown := false, thermtrip := false, booted := false, cause := 2,
    warm := 0, sensorOut := 0, peakSeen := 0, pAvg := 0, warned := false, fall := 0, loopOn := false, credit := 0,
    calm := 0, idled := [] }

/-- The timed I/O block after reset. -/
def tio : Tio :=
  { firstLock := false, suspended := false, markRun := 0, markLast := none, aligned := false, ppsHigh := false, ppsSec := none, ppsRose := 0, synced := false, seq0 := none,
    seq1 := none, execQ := [], relayQ := [], issueQ := none }

/-- An empty Cellar. -/
def cellar : Cellar :=
  { frames := [], nextId := 0, copies := [], deficit := [], visit := [], paused := [], xoff := [], withheld := [],
    credit := [], peak := [], fence := 0, passed := 0, ref := 0, took := false, fifo := [], fifoAt := [] }

/-- Empty lookup tables (R331). -/
def tables : Tables :=
  { em := [], emBad := [], tcam := [], locks := [], expired := [], learnQ := [], walk := 0, skipped := [], rehash := false }

/-- No schedule in force (R305). -/
def caravan : Caravan :=
  { bay := [], phases := [], recs := [], taken := [], lmbox := [], smbox := [], cycleF0 := 0, cycleAt := 0, began := false,
    checking := false, waiting := false, initial := false, idle := [], rearm := false, swapCycle := none }

/-- No calibration has run. -/
def cal : Cal := { recs := [], slicerFail := [], spareOf := [], lost := [], cellFail := [], subs := [], command := none }

/-- The interrupt controller after reset (R453, R454). -/
def irq : Irq := { src := [], cfg := [], presented := [], hostThr := 0, hostCount := 0, page := 0, extirq := 0 }

/-- The management service after reset. -/
def falri : Falri :=
  { dups := [], bufs := [], staging := none, lostFrom := [], proxies := [], notify := [], notifySeq := 0, notifyAt := [],
    session := false, sessionAt := 0, job := none, jobKind := 0, enumOut := false, deferred := [], mbReq := [], mbLen := 0,
    mbNotify := false, mbErr := false, mbHeld := none, mbWait := [], mbNotes := [] }

/-- The hierarchy after reset: no root adopted. -/
def hier : Hier :=
  { prov := false, rootClass := 3, rootId := 0, aloneAt := some 0, upSeen := 0xFF, neigh := [], missed := [], devPort := [],
    devAt := [], idMap := [], registry := [], reports := [], fetching := false, fetchVer := 0 }

/-- The twin after reset. -/
def twin : Twin :=
  { pair := 0, slot := 0, port := 0xFF, leaseSeq := 0, ackSeq := none, sent := [], leaseAt := 0, heard := false, claimed := false, conflict := false,
    acting := false, peerRole := 7, lastSeg := [], epochNum := 0, handover := false, journal := [], jseq := 0,
    committed := false }

end Dflt

/-- The machine right after a power-on reset, before the boot loader (R509 to R512, R531). Every dictionary object holds
its default. -/
def State.reset : State :=
  { pending := [], out := [], free := 0, objs := [], blobs := [], power := Dflt.power,
    fuses := { serial := 0, mac := 0 }, hearth := Dflt.hearth, servo := Dflt.servo,
    ports := [], lanes := [], groups := [], lports := [], plls := [], clkouts := [],
    clk := { f0 := 100000000000, want := 0, refGood := 0, refSeen := false }, gens := [], tdcs := [], tio := Dflt.tio, cellar := Dflt.cellar,
    tables := Dflt.tables, caravan := Dflt.caravan, cal := Dflt.cal, irq := Dflt.irq, engines := [], sems := [],
    snap := { armed := false, gathering := none, late := false }, lantern := { fifo := [], lost := 0 },
    jtag := { ir := 1, boundary := [] }, falri := Dflt.falri, hier := Dflt.hier, twin := Dflt.twin, flash := [],
    pantry := [] }

end Sys2Proof.Machine
end

