-- ==== Sys2Proof/Machine/Ops.lean ====
section
/-! DEFINITION. The named operations that every meaning is built from: reading and writing objects, counters, status words,
the instances of lanes, ports, engines and so on, the time of day, free values, and what the part sends. -/

namespace Sys2Proof.Machine

/-- The value of an object, two's complement in its width (R8). The subindex defaults to the object's lowest. -/
def State.obj (s : State) (o : Obj) (sub : Nat := o.lo) : Nat := Tab.get s.objs o.dflt (o.key sub)

/-- The value of an object of signed type (R8). -/
def State.objI (s : State) (o : Obj) (sub : Nat := o.lo) : Int := toSigned (8 * o.ty.bytes) (s.obj o sub)

/-- Sets an object's value, kept in its width. -/
def State.setObj (s : State) (o : Obj) (v : Nat) (sub : Nat := o.lo) : State :=
  { s with objs := Tab.set s.objs o.dflt (o.key sub) (v % 2 ^ (8 * o.ty.bytes)) }

/-- Sets the value of an object of signed type. -/
def State.setObjI (s : State) (o : Obj) (z : Int) (sub : Nat := o.lo) : State :=
  s.setObj o (ofSigned (8 * o.ty.bytes) z) sub

/-- Adds to a counter: U32 and narrower saturate, U64 wraps (R84, R293, R323, R359). -/
def State.count (s : State) (o : Obj) (sub : Nat := o.lo) (n : Nat := 1) : State :=
  let v := s.obj o sub + n
  match o.ty with
  | .u64 => s.setObj o v sub
  | _ => s.setObj o (min v (2 ^ (8 * o.ty.bytes) - 1)) sub

/-- A BLOB or STRING that nothing has written: VLAN_MEMBERS holds VID 1 with every port a member and untagged (R262), and
TCAM_ZONE has Zk = 496k (R346); every other is empty, or zero in its fixed length where its table says "All 0". -/
def blobDflt (o : Obj) : Blob :=
  if o.index = 0x3807 then
    ⟨65536, Tab.setRun [] 0 16 (beBytes 8 0x1FFFFFFFFFFFF ++ beBytes 8 0x1FFFFFFFFFFFF)⟩
  else if o.index = 0x4820 then ⟨66, Tab.setRun [] 0 0 ((List.range 33).flatMap fun k => beBytes 2 (496 * k))⟩
  else Dflt.blob

/-- The value of a BLOB or STRING object. -/
def State.blob (s : State) (o : Obj) (sub : Nat := o.lo) : Blob := Tab.get s.blobs (blobDflt o) (o.key sub)

/-- The octets of a BLOB. -/
def Blob.bytes (b : Blob) : Bytes := Tab.getRun b.cells 0 0 b.len

/-- `n` octets of a BLOB from `k` on, an octet above its length reading 0. -/
def Blob.run (b : Blob) (k n : Nat) : Bytes := Tab.getRun b.cells 0 k n

/-- A BLOB of given octets. -/
def Blob.of (l : Bytes) : Blob := ⟨l.length, Tab.setRun [] 0 0 l⟩

/-- Sets a BLOB or STRING. -/
def State.setBlob (s : State) (o : Obj) (b : Blob) (sub : Nat := o.lo) : State :=
  { s with blobs := Tab.set s.blobs (blobDflt o) (o.key sub) b }

/-- Writes octets into a BLOB in place, lengthening it where they end above its length. -/
def State.patchBlob (s : State) (o : Obj) (k : Nat) (l : Bytes) (sub : Nat := o.lo) : State :=
  let b := s.blob o sub
  s.setBlob o ⟨max b.len (k + l.length), Tab.setRun b.cells 0 k l⟩ sub

/-- STATUS of a status word: 0 IDLE, 1 BUSY, 2 DONE, 3 ABORTED, 4 REFUSED, 5 FAILED, 6 LATE (R41, R324, R361). -/
def State.status (s : State) (o : Obj) (sub : Nat := o.lo) : Nat := bits (s.obj o sub) 3 0

/-- Writes a whole status word: REASON [15:12], ABORT_LATE [8], CMD [7:4], STATUS [3:0]; other bits stay. -/
def State.setStatus (s : State) (o : Obj) (sub reason : Nat) (late : Bool) (cmd st : Nat) : State :=
  let v := s.obj o sub
  s.setObj o (v - v % 65536 + bits v 11 9 * 512 + reason % 16 * 4096 + b2n late * 256 + cmd % 16 * 16 + st % 16) sub

/-- A new command with its outcome: ABORT_LATE and REASON are cleared first (R42, R324, R361). -/
def State.cmdStatus (s : State) (o : Obj) (sub cmd st : Nat) (reason : Nat := 0) : State :=
  s.setStatus o sub reason false cmd st

/-- The outcome of the command in progress: CMD and ABORT_LATE stay. -/
def State.endStatus (s : State) (o : Obj) (sub st : Nat) (reason : Nat := 0) : State :=
  let v := s.obj o sub
  s.setStatus o sub reason (bit v 8) (bits v 7 4) st

/-- DONE with ABORT_LATE = 1: an abort that lost in the decision cycle. CMD becomes the abort's code. -/
def State.lateStatus (s : State) (o : Obj) (sub cmd : Nat) : State := s.setStatus o sub 0 true cmd 2

/-- One lane. -/
def State.lane (s : State) (n : Nat) : Lane := Tab.get s.lanes Dflt.lane n
/-- Changes one lane. -/
def State.modLane (s : State) (n : Nat) (f : Lane → Lane) : State :=
  { s with lanes := Tab.set s.lanes Dflt.lane n (f (s.lane n)) }
/-- The link side of one port. -/
def State.lport (s : State) (p : Nat) : LPort := Tab.get s.lports Dflt.lport p
/-- Changes the link side of one port. -/
def State.modLPort (s : State) (p : Nat) (f : LPort → LPort) : State :=
  { s with lports := Tab.set s.lports Dflt.lport p (f (s.lport p)) }
/-- The timing of one port. -/
def State.port (s : State) (p : Nat) : PTime := Tab.get s.ports Dflt.ptime p
/-- Changes the timing of one port. -/
def State.modPort (s : State) (p : Nat) (f : PTime → PTime) : State :=
  { s with ports := Tab.set s.ports Dflt.ptime p (f (s.port p)) }
/-- One lane group. -/
def State.group (s : State) (g : Nat) : Group := Tab.get s.groups Dflt.group g
/-- Changes one lane group. -/
def State.modGroup (s : State) (g : Nat) (f : Group → Group) : State :=
  { s with groups := Tab.set s.groups Dflt.group g (f (s.group g)) }
/-- One PLL. -/
def State.pll (s : State) (n : Nat) : Pll := Tab.get s.plls Dflt.pll n
/-- Changes one PLL. -/
def State.modPll (s : State) (n : Nat) (f : Pll → Pll) : State :=
  { s with plls := Tab.set s.plls Dflt.pll n (f (s.pll n)) }
/-- One clock output. -/
def State.clkout (s : State) (n : Nat) : Clkout := Tab.get s.clkouts Dflt.clkout n
/-- Changes one clock output. -/
def State.modClkout (s : State) (n : Nat) (f : Clkout → Clkout) : State :=
  { s with clkouts := Tab.set s.clkouts Dflt.clkout n (f (s.clkout n)) }
/-- One pulse generator. -/
def State.gen (s : State) (t : Nat) : Gen := Tab.get s.gens Dflt.gen t
/-- Changes one pulse generator. -/
def State.modGen (s : State) (t : Nat) (f : Gen → Gen) : State :=
  { s with gens := Tab.set s.gens Dflt.gen t (f (s.gen t)) }
/-- One TDC channel. -/
def State.tdc (s : State) (c : Nat) : Tdc := Tab.get s.tdcs Dflt.tdc c
/-- Changes one TDC channel. -/
def State.modTdc (s : State) (c : Nat) (f : Tdc → Tdc) : State :=
  { s with tdcs := Tab.set s.tdcs Dflt.tdc c (f (s.tdc c)) }
/-- One engine. -/
def State.eng (s : State) (e : Nat) : Engine := Tab.get s.engines Dflt.engine e
/-- Changes one engine. -/
def State.modEng (s : State) (e : Nat) (f : Engine → Engine) : State :=
  { s with engines := Tab.set s.engines Dflt.engine e (f (s.eng e)) }
/-- One calibration. -/
def State.calRec (s : State) (kind inst : Nat) : CalRec := Tab.get s.cal.recs Dflt.calRec (256 * kind + inst)
/-- Changes one calibration. -/
def State.modCal (s : State) (kind inst : Nat) (f : CalRec → CalRec) : State :=
  { s with cal := { s.cal with recs := Tab.set s.cal.recs Dflt.calRec (256 * kind + inst) (f (s.calRec kind inst)) } }
/-- Changes the Hearth. -/
def State.modHearth (s : State) (f : Hearth → Hearth) : State := { s with hearth := f s.hearth }
/-- Changes the servo's memory. -/
def State.modServo (s : State) (f : ServoMem → ServoMem) : State := { s with servo := f s.servo }
/-- Changes the Cellar. -/
def State.modCellar (s : State) (f : Cellar → Cellar) : State := { s with cellar := f s.cellar }
/-- Changes the Caravan scheduler. -/
def State.modCaravan (s : State) (f : Caravan → Caravan) : State := { s with caravan := f s.caravan }
/-- Changes the lookup tables. -/
def State.modTables (s : State) (f : Tables → Tables) : State := { s with tables := f s.tables }
/-- Changes the timed I/O block. -/
def State.modTio (s : State) (f : Tio → Tio) : State := { s with tio := f s.tio }
/-- Changes the management service. -/
def State.modFalri (s : State) (f : Falri → Falri) : State := { s with falri := f s.falri }
/-- Changes the twin. -/
def State.modTwin (s : State) (f : Twin → Twin) : State := { s with twin := f s.twin }
/-- Changes the hierarchy. -/
def State.modHier (s : State) (f : Hier → Hier) : State := { s with hier := f s.hier }
/-- Changes power. -/
def State.modPower (s : State) (f : Power → Power) : State := { s with power := f s.power }
/-- Changes the interrupt controller. -/
def State.modIrq (s : State) (f : Irq → Irq) : State := { s with irq := f s.irq }

/-- Something leaves the part (log entry 7). -/
def State.emit (s : State) (e : Emit) : State := { s with out := e :: s.out }

/-- Advances the counter of free values (log entry 3). -/
def State.fresh (s : State) : State := { s with free := s.free + 1 }

/-- The nanosecond field (R17). -/
def State.ns (s : State) : Nat := s.hearth.count.toNat / 2 ^ 40

/-- TIMESTAMP[63:8] of the counter, the fraction truncated to 24 bits (R17). -/
def State.now (s : State) : Time56 := BitVec.ofNat 56 (s.hearth.count.toNat / 2 ^ 16)

/-- Nanoseconds that the counter has counted since it started, steps left out: the clock of the part's own intervals. -/
def State.upNs (s : State) : Nat := s.hearth.cycles * s.obj O.HEARTH_INC / 2 ^ 40

/-- HEARTH cycles in `ns` nanoseconds, rounded up. -/
def State.cyclesOf (s : State) (ns : Nat) : Nat :=
  let inc := s.obj O.HEARTH_INC
  if inc = 0 then 0 else (ns * 2 ^ 40 + inc - 1) / inc

/-- `ns` nanoseconds have passed since HEARTH cycle `t`. -/
def State.elapsed (s : State) (t ns : Nat) : Bool :=
  decide (ns * 2 ^ 40 ≤ (s.hearth.cycles - t) * s.obj O.HEARTH_INC)

/-- The smallest a for which 2^a ps reaches a bound, 15 above 2^14 (R162). -/
def accOf (bound : Nat) : Nat := ((List.range 15).find? (fun a => decide (bound ≤ 2 ^ a))).getD 15

/-- QUALITY.ACC (R18, R19, R162): 15 in FREE, ACQUIRE and ALIGN and before the start. -/
def State.acc (s : State) : Nat :=
  match s.hearth.state with
  | .free | .acquire | .align | .off => 15
  | _ => accOf (s.obj O.ACC_BOUND)

/-- HEARTH_SLEW is not zero (R18). -/
def State.slewing (s : State) : Bool := decide (s.obj O.HEARTH_SLEW ≠ 0)

/-- The quality code (R18). -/
def State.quality (s : State) : Nat :=
  s.hearth.state.code * 32 + b2n s.slewing * 16 + s.acc

/-- A TIMESTAMP made of a 56-bit time and the present quality (R17). -/
def State.stampOf (s : State) (t : Time56) : Nat := t.toNat * 256 + s.quality

/-- The TIMESTAMP of the counter (R17). -/
def State.stamp (s : State) : Nat := s.stampOf s.now

/-- The nanosecond field of a 56-bit time. -/
def nsOf (t : Time56) : Nat := t.toNat / 2 ^ 24

/-- M, the HEARTH cycles of one F0 cycle (R190). -/
def State.hearthM (s : State) : Nat := s.obj O.CLK_M

/-- The F0 period in units of 2^-40 ns, as the counter counts it (R26). -/
def State.f0Period (s : State) : Nat := s.hearthM * s.obj O.HEARTH_INC

/-- An engine does not stand in FAULT: its firmware does its work (R448). -/
def State.engUp (s : State) (e : Nat) : Bool := s.obj O.ENG_STATE (e + 1) != 4

/-- ENGINE cycles that have passed, K_E / 5 for each F0 cycle (R197). -/
def State.engineCycle (s : State) : Nat := s.hearth.cycles * (4000000000000 / max 1 s.clk.f0) / (5 * max 1 s.hearthM)

/-- The slots that an engine in WFI has idled since WFI began (R492). -/
def State.idlePending (s : State) (e : Nat) : Nat :=
  if s.obj O.ENG_STATE (e + 1) = 2 then s.engineCycle - (s.eng e).wfiAt else 0

/-- The present count of a counter: ENG_SLOT_IDLE of an engine in WFI goes on (R492, R493). -/
def State.counterNow (s : State) (o : Obj) (sub : Nat) : Nat :=
  if o.index = O.ENG_SLOT_IDLE.index then (s.obj o sub + s.idlePending (sub - 1)) % 2 ^ 64 else s.obj o sub

/-- A counter is cleared (R481): that of an engine in WFI goes on from 0. -/
def State.counterClear (s : State) (o : Obj) (sub : Nat) : State :=
  s.setObj o (if o.index = O.ENG_SLOT_IDLE.index then 2 ^ 64 - s.idlePending (sub - 1) % 2 ^ 64 else 0) sub

/-- An engine leaves WFI for a state: the slots that it idled are counted (R492). -/
def State.leaveWfi (s : State) (e v : Nat) : State :=
  (s.count O.ENG_SLOT_IDLE (e + 1) (s.idlePending e)).setObj O.ENG_STATE v (e + 1)

/-- The part is held in internal reset: a watched rail is low, or the crystal-derived tree is gone (R201, R509). -/
def State.held (s : State) : Bool := s.power.railDown || s.power.xoDown

/-- Runs the effect of a command unless the part is held in reset, where nothing happens (R509). -/
def run (s : State) (f : State → State) : Host.Outcome State Fault Refusal := .next (if s.held then s else f s)

/-- What only the rules of the Hearth itself change (R20, R29, R34, R35): the servo's state, STEP_USED, and whether REFUSED was
entered from ALIGN. `h` was in force before. -/
def Hearth.keepServo (h h' : Hearth) : Hearth :=
  { h' with state := h.state, stepUsed := h.stepUsed, fromAlign := h.fromAlign }

/-- An effect outside the servo's rules: the servo's state and STEP_USED stay (R29, R34). -/
def State.keeping (s : State) (f : State → State) : State :=
  let t := f s
  { t with hearth := s.hearth.keepServo t.hearth }

/-- Runs the effect of a command of another chapter than the Hearth's: the servo stays as it is (R34). -/
def runKeep (s : State) (f : State → State) : Host.Outcome State Fault Refusal := run s (·.keeping f)

/-- `n` octets of the Pantry from `a` on (R438). -/
def State.pantryRead (s : State) (a n : Nat) : Bytes := Tab.getRun s.pantry 0 a n

/-- Writes octets into the Pantry. -/
def State.pantryWrite (s : State) (a : Nat) (l : Bytes) : State := { s with pantry := Tab.setRun s.pantry 0 a l }

/-- The octets of the Pantry, 1 MiB (R438). -/
def pantrySize : Nat := 1048576

/-- The lane group of a lane (R106). -/
def groupOf (n : Nat) : Nat := n / 6

/-- The house port's number as a port (R1) and its subindex 0x31. -/
def housePort : Nat := 48

/-- The lanes whose numbers are the bits of a mask. -/
def bitsOf (m n : Nat) : List Nat := (List.range n).filter fun i => m.testBit i

/-- The number of set bits among the lowest `n`. -/
def popCount (m n : Nat) : Nat := (bitsOf m n).length

/-- Folds an effect over a list. -/
def forEach {α : Type} (l : List α) (f : State → α → State) (s : State) : State := l.foldl f s

end Sys2Proof.Machine
end

