-- ==== Sys2Proof/Machine/Flags.lean ====
section
/-! DEFINITION. Flags and interrupts: raising a flag bit with everything that hangs on it (the W1C bit, the interrupt
source's event of R451 to R454, the bits of the next NOTIFY of R379, the Lantern's FLAG packet of R498), the interrupt
controller's presentation, claims and completions (R453 to R457), and the packets of the Lantern port (R497 to R499). -/

namespace Sys2Proof.Machine

/-- The config word of an interrupt source (R453). A private source's target is its engine; its word holds ENABLE,
PRIORITY and MOD in the same places. -/
def State.srcCfg (s : State) (n : Nat) : Nat := Tab.get s.irq.cfg (if n < 256 then 0x01C00000 else 0x01000000) n

/-- Sets the config word of a source. -/
def State.setSrcCfg (s : State) (n v : Nat) : State :=
  s.modIrq fun q => { q with cfg := Tab.set q.cfg (if n < 256 then 0x01C00000 else 0x01000000) n (v % 2 ^ 32) }

/-- One interrupt source. -/
def State.src (s : State) (n : Nat) : IrqSrc := Tab.get s.irq.src Dflt.irqSrc n

/-- Changes one interrupt source. -/
def State.modSrc (s : State) (n : Nat) (f : IrqSrc → IrqSrc) : State :=
  s.modIrq fun q => { q with src := Tab.set q.src Dflt.irqSrc n (f (s.src n)) }

/-- The target of a source: an engine, or 12, the host (R453). -/
def State.srcTarget (s : State) (n : Nat) : Nat := if n < 256 then bits (s.srcCfg n) 23 20 else (n - 256) / 32

/-- The threshold of a target (R454, R458). -/
def State.threshold (s : State) (t : Nat) : Nat := if t = 12 then s.irq.hostThr else (s.eng t).threshold

/-- A source is eligible for its target (R454). -/
def State.eligible (s : State) (n : Nat) : Bool :=
  let c := s.srcCfg n
  decide ((s.src n).st = .pending) && !(s.src n).held && bit c 31 && decide (s.threshold (s.srcTarget n) < bits c 27 24)

/-- The better of two eligible sources: higher PRIORITY, then the lower number (R454). -/
def State.better (s : State) (a b : Nat) : Nat :=
  if bits (s.srcCfg a) 27 24 < bits (s.srcCfg b) 27 24 then b else a

/-- The source presented to a target, if any (R454). Sources stand in rising order. -/
def State.presented (s : State) (t : Nat) : Option Nat :=
  (s.irq.src.filterMap fun e => if s.eligible e.1 && s.srcTarget e.1 == t then some e.1 else none).foldl
    (fun o n => match o with | none => some n | some a => some (s.better a n)) none

/-- The level of INT_N: low while a source is presented to the host (R454), released while the THERMTRIP_N latch is set (R525). -/
def State.intN (s : State) : Bool := s.power.thermtrip || (s.presented 12).isNone

/-- mip.MEIP of an engine (R454). -/
def State.meip (s : State) (e : Nat) : Bool := (s.presented e).isSome

/-- A moderation interval ends at once while its target engine sleeps in WFI (R457). -/
def State.endHolds (s : State) : State :=
  forEach s.irq.src (fun s e =>
    let t := s.srcTarget e.1
    if e.2.held && decide (e.2.st = .pending) && decide (t < 12) && decide (s.obj O.ENG_STATE (t + 1) = 2) then
      s.modSrc e.1 fun r => { r with held := false } else s) s

/-- Presentation to one target: noted for SPURIOUS_CLAIM, and an engine in WFI wakes (R455, R438). -/
def State.presentTo (s : State) (t : Nat) : State :=
  match s.presented t with
  | none => s
  | some _ =>
    let s := if s.irq.presented.contains t then s
      else s.modIrq fun q => { q with presented := t :: q.presented }
    if t < 12 ∧ s.obj O.ENG_STATE (t + 1) = 2 then s.leaveWfi t 1 else s

/-- What follows every change of a source, a config word or a threshold. -/
def State.irqPresent (s : State) : State :=
  forEach [0, 1, 2, 3, 4, 5, 6, 7, 8, 9, 10, 11, 12] (fun s t => s.presentTo t) s.endHolds

/-- The level sources (R451): CAP_READY of channel c, SINK_READY and RESP_READY, and EXTIRQ with a level SENSE. -/
def State.levelSrc (s : State) (n : Nat) : Bool :=
  (decide (72 ≤ n) && decide (n < 90)) || n == 118 || n == 140 ||
    (decide (160 ≤ n) && decide (n < 164) && decide (2 ≤ bits (s.srcCfg n) 17 16)) ||
    (decide (256 ≤ n) && (n - 256) % 32 == 3)

/-- The level of a level source's origin (R451, R452). -/
def State.srcLevel (s : State) (n : Nat) : Bool :=
  if 72 ≤ n ∧ n < 90 then decide ((s.tdc (n - 72)).recs ≠ [])
  else if n = 118 then s.caravan.smbox.any fun m => m.2.full
  else if n = 140 then s.falri.mbHeld.isSome
  else if 160 ≤ n ∧ n < 164 then
    Bool.xor (s.irq.extirq.getLsbD (n - 160)) (bits (s.srcCfg n) 17 16 == 3)
  else if 256 ≤ n then decide ((s.eng ((n - 256) / 32)).userQ ≠ [])
  else false

/-- An event of a source (R454): EVCNT saturates at 255, and an ACTIVE edge source notes a re-pend. -/
def State.irqEvent (s : State) (n : Nat) : State :=
  (s.modSrc n fun r =>
    { r with st := if r.st = .idle then .pending else r.st, ev := min 255 (r.ev + 1),
             repend := r.repend || (decide (r.st = .active) && !s.levelSrc n) }).irqPresent

/-- A claim by a target (R455, R457): the source presented becomes ACTIVE, EVCNT goes to the target's count, and a
moderation interval starts. Answers the number read. -/
def State.claim (s : State) (t : Nat) : Nat × State :=
  match s.presented t with
  | some n =>
    let ev := (s.src n).ev
    let s := s.modSrc n fun r =>
      { r with st := .active, ev := 0, repend := false, owner := t, held := decide (bits (s.srcCfg n) 15 0 ≠ 0) }
    let s := s.modIrq fun q => { q with presented := q.presented.filter (· != t) }
    let s := if t = 12 then s.modIrq fun q => { q with hostCount := ev } else s.modEng t fun e => { e with irqCount := ev }
    (n, s.irqPresent)
  | none =>
    let s := if s.irq.presented.contains t then s.count O.SPURIOUS_CLAIM (t + 1) else s
    (0, s.modIrq fun q => { q with presented := q.presented.filter (· != t) })

/-- Completion of a source that is ACTIVE for its owner (R454): a level source is sampled. -/
def State.completeSrc (s : State) (n : Nat) : State :=
  let lvl := s.levelSrc n
  let high := s.srcLevel n
  (s.modSrc n fun r =>
    { r with st := if lvl then (if high then .pending else .idle) else (if r.repend then .pending else .idle),
             repend := false }).irqPresent

/-- A completion write by a target (R456). -/
def State.complete (s : State) (t n : Nat) : State :=
  if (s.src n).st = .active ∧ (s.src n).owner = t then s.completeSrc n else s.count O.COMPLETE_ERR (t + 1)

/-- Every source ACTIVE for an engine is completed when the engine resets ("Hard cases"). -/
def State.completeAll (s : State) (t : Nat) : State :=
  forEach (s.irq.src.filterMap fun e => if e.2.st = .active ∧ e.2.owner = t then some e.1 else none)
    (fun s n => s.completeSrc n) s

/-- LT_LOST advances and LT_LOSS is raised with its event; its own FLAG packet finds the FIFO full as well (R499, R505; log
entry 10). -/
def State.lanternLoss (s : State) : State :=
  let k := O.OBS_FLAGS.key 0
  let s := (s.count O.LT_LOST).setObj O.OBS_FLAGS (s.obj O.OBS_FLAGS ||| 16)
  (s.modFalri fun f => { f with notify := Tab.set f.notify 0 k (Tab.get f.notify 0 k ||| 16) }).irqEvent 212

/-- A packet into the Lantern FIFO of 8 KiB: dropped whole when it does not fit (R497 to R499). Packets are produced only
while the port is enabled (log entry 10). -/
def State.lanternPush (s : State) (type : Nat) (payload : Bytes) : State :=
  if s.obj O.LANTERN_EN = 0 ∨ ¬ bit (s.obj O.LANTERN_MASK) type then s else
  let body := BitVec.ofNat 8 type :: BitVec.ofNat 8 payload.length :: payload
  let pkt := body ++ [BitVec.ofNat 8 (crc8 body)]
  if (s.lantern.fifo.map List.length).sum + pkt.length ≤ 8192 then
    { s with lantern := { s.lantern with fifo := s.lantern.fifo ++ [pkt] } }
  else ({ s with lantern := { s.lantern with lost := s.lantern.lost + 1 } } : State).lanternLoss

/-- The FLAG packet of an event of a shared source (R498). -/
def State.flagPacket (s : State) (n index sub mask : Nat) : State :=
  s.lanternPush 3 (beBytes 2 n ++ beBytes 2 index ++ beBytes 1 sub ++ [0] ++ beBytes 4 mask ++ beBytes 8 s.stamp)

/-- An event of a shared source that has no flag object: INDEX, SUB and BITS of its FLAG packet are not stated, and stand
as free values (log entry 3). -/
def State.sharedEvent (s : State) (n : Nat) : State :=
  let f := (Config.lineBits s.free).toNat
  (s.fresh.irqEvent n).flagPacket n (bits f 15 0) (bits f 23 16) (bits f 63 32)

/-- The shared source that a flag bit raises (R451, R478 and their fellows); `none` for a bit that is no source. -/
def flagSource (index sub b : Nat) : Option Nat :=
  if index = 0x2010 then (if 2 ≤ b ∧ b ≤ 6 then some (b - 1) else none)
  else if index = 0x3408 then (if 2 ≤ b ∧ b ≤ 5 then some (8 + groupOf (sub - 1)) else none)
  else if index = 0x3033 then (if 4 ≤ b ∧ b ≤ 7 then some (16 + groupOf (sub - 1)) else none)
  else if index = 0x213A then (if 2 ≤ b ∧ b ≤ 5 then some (24 + groupOf (sub - 1)) else none)
  else if index = 0x5813 then (if 2 ≤ b ∧ b ≤ 4 then some (32 + (sub - 1)) else none)
  else if index = 0x5011 then (if 2 ≤ b ∧ b ≤ 8 then some (48 + (sub - 1)) else none)
  else if index = 0x5106 then (if 1 ≤ b ∧ b ≤ 6 then some (95 + b) else none)
  else if index = 0x3837 then (if 1 ≤ b ∧ b ≤ 5 then some (103 + b) else if b = 7 then some 109 else none)
  else if index = 0x4006 then (if 2 ≤ b ∧ b ≤ 7 then some (110 + b) else none)
  else if index = 0x480D then (if 2 ≤ b ∧ b ≤ 7 then some (118 + b) else none)
  else if index = 0x1036 then (if 1 ≤ b ∧ b ≤ 7 then some (131 + b) else none)
  else if index = 0x6004 then (if b ≤ 5 then some (144 + b) else none)
  else if index = 0x6016 then (if b = 9 then some 151 else if 1 ≤ b ∧ b ≤ 8 then some (151 + b) else none)
  else if index = 0x800D then (if b ≤ 5 then some (176 + b) else none)
  else if index = 0x7804 then (if b ≤ 9 then some (192 + b) else none)
  else if index = 0x7049 then (if b ≤ 5 then some (208 + b) else none)
  else if index = O.ENG_FAULTS.index then (if b ≤ 11 then some (224 + b) else if b = 16 then some 236 else none)
  else none

/-- Raises bit `b` of a flag object: the bit, its interrupt event whether or not it already reads 1 (R451), the bits of
the object's next NOTIFY (R379) and the FLAG packet (R498). -/
def State.raise (s : State) (o : Obj) (b : Nat) (sub : Nat := o.lo) : State :=
  let s := s.setObj o (s.obj o sub ||| 2 ^ b) sub
  match flagSource o.index sub b with
  | none => s
  | some n =>
    let s := s.modFalri fun f => { f with notify := Tab.set f.notify 0 (o.key sub) (Tab.get f.notify 0 (o.key sub) ||| 2 ^ b) }
    (s.irqEvent n).flagPacket n o.index sub (2 ^ b)

/-- A rise of a level source that a read-only flag bit shows (R451, R379): the event, the NOTIFY bit and the FLAG packet.
The bit itself is a view of the origin. -/
def State.levelRise (s : State) (n : Nat) (o : Obj) (b : Nat) (sub : Nat := o.lo) : State :=
  let s := s.modFalri fun f => { f with notify := Tab.set f.notify 0 (o.key sub) (Tab.get f.notify 0 (o.key sub) ||| 2 ^ b) }
  (s.irqEvent n).flagPacket n o.index sub (2 ^ b)

/-- Clears W1C bits (R9). -/
def State.clear (s : State) (o : Obj) (m : Nat) (sub : Nat := o.lo) : State := s.setObj o (clearBits (s.obj o sub) m) sub

/-- ABORT_LATE: the status of the losing abort and its latched copy (R40 and its fellows). -/
def State.abortLate (s : State) (st : Obj) (sub cmd : Nat) (flags : Obj) (b : Nat) (fsub : Nat := flags.lo) : State :=
  (s.lateStatus st sub cmd).raise flags b fsub

end Sys2Proof.Machine
end

