-- ==== Sys2Proof/Machine/CalPlan.lean ====
section
/-! DEFINITION. The triggers and preconditions of calibrations (R462 to R467): what makes an instance PENDING, and what aborts
a run. The runs themselves stand in Cal.lean. -/

namespace Sys2Proof.Machine

/-- The lanes of a group (R106). -/
def groupLanes (g : Nat) : List Nat := [6 * g, 6 * g + 1, 6 * g + 2, 6 * g + 3, 6 * g + 4, 6 * g + 5]

/-- The number of instances of a KIND (R462). -/
def calInstances : Nat → Nat
  | 0 | 1 => 48
  | 2 => 15
  | 3 => 1
  | 4 => 8
  | 5 | 6 => 18
  | _ => 0

/-- A calibration exists (R462). -/
def calExists (kind inst : Nat) : Bool := decide (inst < calInstances kind)

/-- The reading of an instance's sensor, 0.1 °C: lane calibrations use the sensor of their lane group, every other the
core's (R464). -/
def State.calTemp (s : State) (kind inst : Nat) : Int := s.objI O.TEMP (if kind ≤ 1 then groupOf inst + 1 else 9)

/-- The governor defers calibration and adaptation: from entering SHED until the deferral lifts (R467, R521). -/
def State.govDefer (s : State) : Bool := s.obj O.GOV_STATE != 0

/-- The spare slicers of a lane that are free: not failed and not in use; bits 6 to 9 of the mask of R475. -/
def State.freeSpares (s : State) (n : Nat) : List Nat :=
  [6, 7, 8, 9].filter fun b =>
    !bit (Tab.get s.cal.slicerFail 0 n) b && !([0, 1, 2, 3, 4, 5].any fun r => Tab.get s.cal.spareOf 0 (16 * n + r) == b)

/-- Changes what calibration remembers beside its instances. -/
def State.modCalib (s : State) (f : Cal → Cal) : State := { s with cal := f s.cal }

/-- CAL_AUTO enables the P, Δ and C triggers of a KIND; bits 2 and 3 always read 1 (R464). -/
def State.calAuto (s : State) (kind : Nat) : Bool := kind == 2 || kind == 3 || bit (s.obj O.CAL_AUTO) kind

/-- A trigger makes an instance PENDING; during a run it is recorded once (R463). -/
def State.calTrigger (s : State) (kind inst : Nat) : State :=
  s.modCal kind inst fun r =>
    if r.state = 2 then { r with again := true } else if r.state = 0 then { r with state := 1, rerun := false } else r

/-- A lane in service has no free spare: its SLICER triggers wait for the next training (R466). -/
def State.calTriggerLane (s : State) (n : Nat) : State :=
  if 7 ≤ s.obj O.LINK_STATE (n + 1) ∧ s.freeSpares n = [] then s.modCal 0 n fun r => { r with waitTrain := true }
  else s.calTrigger 0 n

/-- The start of a training triggers the direct LANE_LAT run, which takes place at the start of every training, and SLICER
(R463). -/
def State.calTrain (s : State) (n : Nat) : State :=
  let s := (s.calTrigger 1 n).modCal 1 n fun r =>
    if r.state = 2 then { r with waitTrain := true } else { r with state := 1, direct := true, rerun := false }
  (s.calTrigger 0 n).modCal 0 n fun r => { r with waitTrain := false }

/-- The status of the command that follows an instance (R473, R479). -/
def State.calEnd (s : State) (kind inst st reason : Nat) : State :=
  if s.cal.command = some (kind, inst) ∧ s.status O.CAL_STATUS = 1 then s.endStatus O.CAL_STATUS 0 st reason else s

/-- CAL_LAST_PRECOND records the instance and the condition (R466, R476). -/
def State.calRecord (s : State) (kind inst cond : Nat) : State :=
  (s.setObj O.CAL_LAST_PRECOND (kind * 2 ^ 24 + inst * 2 ^ 16 + cond)).modCal kind inst fun r => { r with precond := cond }

/-- A precondition of a run is violated (R466, R473). An automatic run is aborted and waits; its eighth failed retry defers
it. A forced run gives FAILED and is not retried; a RUN that joined an automatic run reports its outcome. -/
def State.calPrecond (s : State) (kind inst cond : Nat) (forced retry : Bool) : State :=
  let s := s.calRecord kind inst cond
  if forced then
    (s.modCal kind inst fun r =>
      { r with state := if r.retries = 8 then 4 else if 0 < r.retries then 3 else 0, forced := false, retry := false }).calEnd
      kind inst 5 1
  else
    let s := (s.count O.CAL_ABORTS).raise O.CAL_FLAGS 0
    let t := s.calTemp kind inst
    let now := s.hearth.cycles
    let s := (s.modCal kind inst fun r =>
      let k := if retry then min 8 (r.retries + 1) else r.retries
      { r with state := if k = 8 then 4 else 3, retries := k, retry := false, forced := false, waitAt := now,
               deferTemp := if k = 8 then t else r.deferTemp }).calEnd kind inst 5 1
    if (s.calRec kind inst).state = 4 then s.raise O.CAL_FLAGS 1 else s

/-- A condition is violated while an instance's run is in progress (R465, R466). -/
def State.calViolate (s : State) (kind inst cond : Nat) : State :=
  let r := s.calRec kind inst
  if r.state = 2 then s.calPrecond kind inst cond r.forced r.retry else s

/-- An edge at a channel violates NO_EDGE of its runs (R465). -/
def State.calEdge (s : State) (c : Nat) : State := (s.calViolate 5 c 5).calViolate 6 c 5

/-- A lane leaves DOWN: LANE_IDLE is violated for runs that rest on it (R465). -/
def State.calBusyLane (s : State) (n : Nat) : State :=
  let s := if (s.calRec 1 n).direct then s.calViolate 1 n 1 else s
  s.calViolate 0 n 1

end Sys2Proof.Machine
end

