-- ==== Sys2Proof/Machine/Hearth.lean ====
section
/-! DEFINITION. The Hearth's counter, slews and steps (R15 to R32, R38, R43 to R49): what advances the time of day, and how
a correction is spread over conditioner updates. The servo's changes of state stand in Servo.lean. -/

namespace Sys2Proof.Machine

/-- Sets the counter from an unbounded value in units of 2^-40 ns: HEARTH_WRAP takes the net number of crossings of the
nanosecond field, and WRAP_TICK is raised once where the net is forward (R32, R38). -/
def State.setCount (s : State) (v : Int) : State :=
  let w := v / (2 ^ 72 : Int)
  let s := s.modHearth fun h => { h with count := BitVec.ofInt 72 v }
  let s := if w = 0 then s else s.setObj O.HEARTH_WRAP (((s.obj O.HEARTH_WRAP : Int) + w) % (2 ^ 32 : Int)).toNat
  if 0 < w then s.raise O.HEARTH_FLAGS 6 else s

/-- F0 edges that `k` HEARTH cycles bring, and F0_CNT with them (R224). -/
def State.f0Run (s : State) (k : Nat) : State :=
  let m := s.hearthM
  if m = 0 then s else
  let d := s.hearth.f0Div + k
  (s.setObj O.F0_CNT (s.obj O.F0_CNT + d / m)).modHearth fun h => { h with f0Div := d % m }

/-- `k` HEARTH cycles pass: the counter adds HEARTH_INC in each (R15). -/
def State.hearthRun (s : State) (k : Nat) : State :=
  if !s.hearth.running then s else
  let v : Int := s.hearth.count.toNat + k * s.obj O.HEARTH_INC
  ((s.modHearth fun h => { h with cycles := h.cycles + k }).f0Run k).setCount v

/-- HEARTH cycles to the next wrap of the nanosecond field. -/
def State.toWrap (s : State) : Nat :=
  let inc := s.obj O.HEARTH_INC
  if inc = 0 then 0 else (2 ^ 72 - s.hearth.count.toNat + inc - 1) / inc

/-- HEARTH cycles to the F0 edge at which F0_CNT reads `n`; none where it has passed. -/
def State.toF0 (s : State) (n : Nat) : Nat := (n - s.obj O.F0_CNT) * s.hearthM - s.hearth.f0Div

/-- Time passes up to the F0 edge at which F0_CNT reads `n`; where the Hearth does not run, the count alone moves. -/
def State.runToF0 (s : State) (n : Nat) : State :=
  if s.hearth.running && s.hearthM != 0 && s.obj O.HEARTH_INC != 0 then s.hearthRun (s.toF0 n) else s.setObj O.F0_CNT n

/-- A state of the servo is entered. -/
def State.setServo (s : State) (st : Servo) : State := s.modHearth fun h => { h with state := st }

/-- HEARTH_SLEW := 0. -/
def State.stopSlew (s : State) : State :=
  (s.setObj O.HEARTH_SLEW 0).modHearth fun h => { h with slewLeft := 0, slewNow := 0 }

/-- What the rest of the update interval in progress still applies of the slew in force: the share of its 64 cycles that are to
come (R24). -/
def Hearth.restNow (h : Hearth) : Int := h.slewNow * (64 - min 64 (h.cycles - h.updAt) : Nat) / 64

/-- A correction is to be slewed: from now on local time is retarded by θ units of 2^-24 ns in all (R30). A slew that it replaces
goes on to the next conditioner update, and what that applies counts towards the new correction (R24). -/
def State.slewBy (s : State) (theta : Int) : State :=
  s.modHearth fun h => { h with slewLeft := -(theta * 2 ^ 64), slewNow := h.restNow }

/-- A 56-bit time near now, extended with HEARTH_WRAP: local time since reset in 2^-24 ns (R46, R167). -/
def State.extended (s : State) (t : Time56) : Int :=
  (s.obj O.HEARTH_WRAP : Int) * 2 ^ 56 + s.now.toNat + tdiff56 t s.now

/-- The Hearth time of the part's own F0 edge at which F0_CNT reads `n`, 2^-40 ns, as the counter counts it (R223, R224). -/
def State.f0Edge40 (s : State) (n : Int) : Int :=
  s.hearth.count.toNat + (n - s.obj O.F0_CNT) * s.f0Period - s.hearth.f0Div * s.obj O.HEARTH_INC

/-- The Hearth time of a lattice edge of the part: its own F0 edge plus F0_SKEW, 2^-24 ns (R223). -/
def State.latticeTime (s : State) (n : Int) : Int := s.f0Edge40 n / 2 ^ 16 + s.objI O.F0_SKEW

/-- The first lattice edge after now, as F0_CNT counts it. -/
def State.nextLattice (s : State) : Nat :=
  let p : Int := s.f0Period
  if p = 0 then s.obj O.F0_CNT + 1
  else (s.obj O.F0_CNT + (s.now.toNat - s.latticeTime (s.obj O.F0_CNT)) * 2 ^ 16 / p + 1).toNat

/-- ±200 ppm in units of 2^-48 (R21, R23). -/
def rateMax : Int := 56294995342

/-- `z` held between −`m` and `m`. -/
def clampI (m z : Int) : Int := if z > m then m else if z < -m then -m else z

/-- SLEW_MAX in units of 2^-48. -/
def State.slewMax (s : State) : Int := (s.obj O.SLEW_MAX : Int) * 2 ^ 48 / 1000000000

/-- The slew that the conditioner applies: HEARTH_SLEW, less what the clamp of the sum takes from it (R23). -/
def State.effSlew (s : State) : Int := clampI rateMax (s.hearth.rate + s.objI O.HEARTH_SLEW) - s.hearth.rate

/-- What one interval of 64 cycles applies at a rate in units of 2^-48, in 2^-88 ns. -/
def State.perInterval (s : State) (rate : Int) : Int := rate * 64 * s.obj O.HEARTH_INC

/-- The part of `left` that an interval applies whose full rate would apply `full`: never more than is left (R24). -/
def shareOf (full left : Int) : Int :=
  if full = 0 ∨ left = 0 then 0 else if left.natAbs ≤ full.natAbs then left else if left < 0 then -full.natAbs else full.natAbs

/-- The interval that ends at a conditioner update has applied its slew and its share of a step (R24, R26). -/
def State.endInterval (s : State) : State :=
  s.modHearth fun h => { h with slewLeft := h.slewLeft - h.slewNow, share := h.share - h.shareNow, moved := h.moved + h.slewNow }

/-- At the update the new rate is taken, and HEARTH_SLEW is set where a correction is left, 0 where none is (R23, R24, R30,
R51). In an interval that needs less than the full rate the conditioner applies the remainder alone; what HEARTH_SLEW reads in that
last interval the spec leaves open, and the model leaves it at ±SLEW_MAX until the next update (DESIGN CHOICE, log entry 38). -/
def State.startInterval (s : State) : State :=
  let l := s.hearth.slewLeft
  let v := if l = 0 then 0 else if l < 0 then -s.slewMax else s.slewMax
  let s := (s.modHearth fun h => { h with rate := s.objI O.HEARTH_RATE }).setObjI O.HEARTH_SLEW v
  let full := s.perInterval s.effSlew
  let advance := s.perInterval (2 ^ 48 / 20000)
  s.modHearth fun h =>
    { h with slewNow := shareOf full h.slewLeft, shareNow := (shareOf advance h.share).toNat, updAt := h.cycles }

/-- The counter share of a step: k F0 periods are added in one HEARTH cycle, together with that cycle's own increment
(R26, R32, R38). -/
def State.commitShare (s : State) : State :=
  let inc : Int := s.obj O.HEARTH_INC
  let v : Int := s.hearth.count.toNat + inc + s.hearth.stepK * s.f0Period
  ((s.modHearth fun h => { h with cycles := h.cycles + 1 }).f0Run 1).setCount v

/-- HEARTH_FLAGS as read: HOLDOVER and STEP_USED are live (R43). -/
def State.hearthFlags (s : State) : Nat :=
  s.obj O.HEARTH_FLAGS + 2 * b2n (decide (s.hearth.state = .holdover ∨ s.hearth.state = .qualify)) + b2n s.hearth.stepUsed

/-- The nanosecond field wraps: the Hearth runs on to the cycle that wraps it (R32, R43, log entry 12). -/
def execNsWrap (s : State) : Host.Outcome State Fault Refusal := runKeep s fun s => s.hearthRun s.toWrap

/-- A read of HBUS 0x0000: NS is returned, and FRAC, QUALITY and HEARTH_WRAP go to the shadow in the same cycle (R47, R48). -/
def execHbusTimeRead (s : State) : Host.Outcome State Fault Refusal :=
  runKeep s fun s =>
    (s.modHearth fun h => { h with shadowFrac := s.stamp % 2 ^ 32, shadowWrap := s.obj O.HEARTH_WRAP }).emit (.value s.ns)

/-- The register at an address of the Hearth's HBUS window, reads of 0x0000 apart (R47). -/
def State.hearthWindow (s : State) (a : Nat) : Nat :=
  match a with
  | 0x0000 => s.ns
  | 0x0004 => s.hearth.shadowFrac
  | 0x0008 => s.hearth.shadowWrap
  | 0x000C => bits s.hearthFlags 0 0 * 128 + bits s.hearthFlags 1 1 * 64 + s.hearth.state.code
  | _ => 0

end Sys2Proof.Machine
end

