-- ==== Sys2Proof/Machine/Stream.lean ====
section
/-! DEFINITION. Blocks and the port stream (R52 to R77): a block as it crosses the ball, the scrambler, rounds and positions, the order of
precedence in which a native port sends, the frame that it has open with its credits, and the stream that a receiver rebuilds. -/

namespace Sys2Proof.Machine

/-- N of a native port's group. -/
def State.portN (s : State) (p : Nat) : Nat := (s.group (groupOf p)).n

/-- The port lies in a NATIVE group (R319). -/
def State.native (s : State) (p : Nat) : Bool := (s.group (groupOf p)).mode == 0

/-- The configured width of a port (R93). -/
def State.width (s : State) (p : Nat) : Nat := s.obj O.PORT_WIDTH (p + 1)

/-- The lanes of a port, in POS order (R93, R135). -/
def State.portLanes (s : State) (p : Nat) : List Nat := (List.range (s.width p)).map (p + ·)

/-- The transmit and the receive active set of a port (PORT_ACTIVE, R102). -/
def State.txAct (s : State) (p : Nat) : Nat := bits (s.obj O.PORT_ACTIVE (p + 1)) 3 0
/-- The receive active set of a port. -/
def State.rxAct (s : State) (p : Nat) : Nat := bits (s.obj O.PORT_ACTIVE (p + 1)) 7 4

/-- The width of a port's transmit active set. -/
def State.txWidth (s : State) (p : Nat) : Nat := popCount (s.txAct p) 4

/-- The width of a port's receive active set. -/
def State.rxWidth (s : State) (p : Nat) : Nat := popCount (s.rxAct p) 4

/-- The lane of a port that receives a position of the peer's (R93). -/
def State.laneAt (s : State) (p i : Nat) : Nat :=
  ((s.portLanes p).find? fun n => (s.lane n).deskIn.isSome && (s.lane n).posRx == i).getD (p + i)

/-- The keystream goes over `n` payload bits, most significant first; the scrambled payload and the new state (R55). -/
def scrambleBits (payload : Nat) : Nat → Nat → Nat × Nat
  | 0, st => (0, st)
  | n + 1, st =>
    let k := Bool.xor (st.testBit 30) (st.testBit 27)
    let r := scrambleBits payload n ((2 * st + b2n k) % 2 ^ 31)
    (b2n (Bool.xor (payload.testBit n) k) * 2 ^ n + r.1, r.2)

/-- The scrambler of R55 over one block's 128 payload bits; the descrambler is the same function. -/
def scramble (payload st : Nat) : Nat × Nat := scrambleBits payload 128 st

/-- The seed that is loaded before the first payload bit after SUPER (R55, R56). -/
def scrSeed (sfc pos : Nat) : Nat := sfc % 2 ^ 24 * 2 ^ 7 + 2 ^ 6 + pos % 4 * 2 ^ 4 + 3

/-- CHK of a control block: CRC-16 over bits [127:16] (R58). -/
def chk (type body : Nat) : Nat := crc16 (beBytes 1 type ++ beBytes 13 body)

/-- The control block types (R59). -/
def blockTypes : List Nat := [0x1E, 0x2D, 0x33, 0x4B, 0x55, 0x66, 0x78, 0x87, 0x99, 0xAA, 0xB4, 0xCC]

/-- The lane-level types (R59). -/
def laneTypes : List Nat := [0x55, 0x99, 0xAA, 0xCC]

/-- The reserved types (R60). -/
def reservedTypes : List Nat := [0xD2, 0xE1]

/-- A block (R52, R53, R58): control with its TYPE and BODY [119:16], or data with its 16 octets, byte 0 in [127:120]. -/
inductive Blk where
  | ctl (type body : Nat)
  | data (octets : Nat)
  deriving DecidableEq, Repr

/-- The payload of a block, CHK included (R58). -/
def Blk.payload : Blk → Nat
  | .ctl t b => t % 256 * 2 ^ 120 + b * 2 ^ 16 % 2 ^ 120 + chk t b
  | .data d => d % 2 ^ 128

/-- The header of a block (R53). -/
def Blk.header : Blk → Nat
  | .ctl _ _ => 2
  | .data _ => 1

/-- The payload of SUPER is not scrambled (R55). -/
def Blk.plain : Blk → Bool
  | .ctl t _ => t == 0xAA
  | .data _ => false

/-- All 130 bits inverted, where a lane's polarity bit asks for it (R133). -/
def invert (on : Bool) (v : Nat) : Nat := if on then 2 ^ 130 - 1 - v % 2 ^ 130 else v % 2 ^ 130

/-- A block as it leaves the ball of lane `n`: bit 129 first (R52 to R55, R133). -/
def State.lineOf (s : State) (n : Nat) (b : Blk) : Nat :=
  let v := b.header * 2 ^ 128 + (if b.plain then b.payload else (scramble b.payload (s.lane n).scrambler).1)
  invert (bit (s.obj O.LANE_POLARITY (n + 1)) 1) v

/-- One block of port `p` leaves on lane `n`. -/
def State.sendBlk (s : State) (p n : Nat) (b : Blk) : State :=
  let v := s.lineOf n b
  let s := if b.plain then s else s.modLane n fun l => { l with scrambler := (scramble b.payload l.scrambler).2 }
  match b with
  | .ctl t body => s.emit (.block p n t body v)
  | .data d => s.emit (.data p n d v)

/-- The lanes that carry the stream, in ascending POS (R77). -/
def State.activeLanes (s : State) (p : Nat) : List Nat := (bitsOf (s.txAct p) 4).map (p + ·)

/-- Credit for one cell of a class on a native egress port (R69). -/
def State.hasCredit (s : State) (p q : Nat) : Bool :=
  let l := s.lport p
  decide (1 ≤ (Tab.get l.crIn 0 q + 8192 - Tab.get l.consumed 0 q) % 8192)

/-- The credit field of IDLE, START and CONT (R62, R69), in its place [31:16]; CR_CLASS goes on in turn. -/
def State.creditField (s : State) (p : Nat) : Nat × State :=
  let l := s.lport p
  (fld 29 3 l.crNext + fld 16 13 (Tab.get l.crOut 0 l.crNext), s.modLPort p fun l => { l with crNext := (l.crNext + 1) % 7 })

/-- Native credit is consumed (R69). -/
def State.consume (s : State) (p q n : Nat) : State :=
  s.modLPort p fun l => { l with consumed := Tab.set l.consumed 0 q ((Tab.get l.consumed 0 q + n) % 8192) }

/-- A block of the stream that is none of the open frame's interrupts it (R68). -/
def State.interrupt (s : State) (p : Nat) : State :=
  s.modLPort p fun l => { l with interrupted := l.frame.any (·.start.isNone), gap := min 8 (l.gap + 1) }

/-- IDLE with its credit field (R62). -/
def State.idleBlk (s : State) (p : Nat) : Blk × State :=
  let x := (s.interrupt p).creditField p
  (.ctl 0x1E x.1, x.2)

/-- The open frame may go on (R69): its next octets lie in a cell that has been paid for, or there is credit for a new one; END itself
takes none (R280). -/
def State.frameMay (s : State) (p : Nat) (f : TxFrame) : Bool :=
  f.sent % 256 != 0 || f.octets == [] || s.hasCredit p f.cls

/-- The END of an open frame (R65): DATA holds at most 8 octets that no data block carried, FCS goes over all octets sent, and TAIL is the
length modulo 16. -/
def endBody (bad : Bool) (all tail : Bytes) : Nat :=
  fld 119 1 (b2n bad) + fld 115 4 all.length + fld 48 64 (ofBe tail * 2 ^ (8 * (8 - tail.length))) + fld 16 32 (crc32 all)

/-- The next block of the open frame (R63 to R69): START, CONT after an interruption, data while more than 8 octets are left, and END once
the frame is to end. One cell is consumed at the start of each 256 octets. None while credit or data is wanting. -/
def State.frameBlk (s : State) (p : Nat) : Option (Blk × State) :=
  match (s.lport p).frame with
  | none => none
  | some f =>
    if s.frameMay p f = false then none
    else match f.start with
    | some ct =>
      let s := s.modLPort p fun l =>
        { l with frame := some { f with start := none }, tag := (f.tag + 1) % 4096, interrupted := false, gap := min 8 (l.gap + 1) }
      let x := s.creditField p
      some (.ctl 0x2D (fld 117 3 f.cls + fld 116 1 (b2n ct) + fld 104 12 f.tag + x.1), x.2)
    | none =>
    if f.octets.length ≤ 8 ∧ f.ending = none then none
    else if (s.lport p).interrupted then
      let s := s.modLPort p fun l => { l with interrupted := false, gap := min 8 (l.gap + 1) }
      let x := s.creditField p
      some (.ctl 0x33 (fld 117 3 f.cls + fld 104 12 f.tag + x.1), x.2)
    else
      let pay := f.octets != [] && f.sent % 256 == 0
      let s := if pay then s.consume p f.cls 1 else s
      let s := s.modLPort p fun l => { l with gap := min 8 (l.gap + 1) }
      if 9 ≤ f.octets.length then
        let d := f.octets.take 16
        let f' := { f with octets := f.octets.drop 16, sent := f.sent + d.length, done := f.done ++ d }
        some (.data (ofBe d * 2 ^ (8 * (16 - d.length))), s.modLPort p fun l => { l with frame := some f' })
      else
        some (.ctl 0x4B (endBody (f.ending.getD false) (f.done ++ f.octets) f.octets),
          s.modLPort p fun l => { l with frame := none, interrupted := false })

/-- A best-effort frame waits on a port (R75). -/
def State.frameWaits (s : State) (p : Nat) : Bool := s.cellar.copies.any fun d => d.outPort == p

/-- The next block of the port stream below cells and commands (R75): HB, MGMT, the open frame, IDLE. While a frame waits, MGMT takes at
most one block in 8. -/
def State.nextBlk (s : State) (p : Nat) : Blk × State :=
  let l := s.lport p
  let rest := match s.frameBlk p with | some x => x | none => s.idleBlk p
  match l.hb, l.mgmt with
  | b :: r, _ => (.ctl 0xB4 b, (s.interrupt p).modLPort p fun l => { l with hb := r })
  | [], m :: r =>
    if s.frameWaits p && decide (l.gap < 7) then rest
    else (.ctl 0x87 m, (s.interrupt p).modLPort p fun l => { l with mgmt := r, gap := 0 })
  | [], [] => rest

/-- One round (R77): in ascending POS each active lane carries its lane-level TIME block where one is due in `lv`, otherwise the next port
block: those of `due` first (R75: cells and commands). What is left of `due` is answered. -/
def State.round (s : State) (p : Nat) (lv : List (Nat × Nat)) : List Nat → List Blk → List Blk × State
  | [], due => (due, s)
  | n :: ns, due =>
    match lv.find? fun x => x.1 == n with
    | some x => (s.sendBlk p n (.ctl 0x55 x.2)).round p lv ns due
    | none =>
      match due with
      | b :: r => ((s.interrupt p).sendBlk p n b).round p lv ns r
      | [] => let x := s.nextBlk p; (x.2.sendBlk p n x.1).round p lv ns []

/-- The stream has something to send at once: HB, MGMT, or a frame that is to start or to end and may go on. -/
def State.streamDue (s : State) (p : Nat) : Bool :=
  let l := s.lport p
  l.hb != [] || l.mgmt != [] || (match l.frame with | some f => (f.ending.isSome || f.start.isSome) && s.frameMay p f | none => false)

/-- Whole rounds leave until nothing is due (R75, R77). -/
def State.rounds_ (s : State) (p : Nat) : Nat → List Blk → State
  | 0, _ => s
  | fuel + 1, due =>
    if due = [] ∧ s.streamDue p = false then s
    else let x := s.round p [] (s.activeLanes p) due; x.2.rounds_ p fuel x.1

/-- The port stream goes on with the blocks of a cell or a command, and with what waits (R75, R77). What lies between two such bursts is
IDLE that the model does not record (log entry 7). -/
def State.stream (s : State) (p : Nat) (due : List Blk) : State :=
  if s.activeLanes p = [] then s else
  let l := s.lport p
  let octets := match l.frame with | some f => f.octets.length | none => 0
  s.rounds_ p (due.length + l.hb.length + 9 * l.mgmt.length + octets + 6) due

/-- A round that carries TIME blocks, each on its lane: on active lanes in their positions (R77), on others as the lane's own. -/
def State.timeRound (s : State) (p : Nat) (lv : List (Nat × Nat)) : State :=
  let act := s.activeLanes p
  let s := forEach (lv.filter fun x => !act.contains x.1) (fun s x => s.sendBlk p x.1 (.ctl 0x55 x.2)) s
  if lv.any fun x => act.contains x.1 then (s.round p lv act []).2 else s

/-- The blocks of a Caravan cell (R71): CARAVAN with header, SLOT and PCRC, and the 64 octets in four data blocks. -/
def cellBlks (hdr slot payload : Nat) : List Blk :=
  .ctl 0x78 (fld 56 64 hdr + fld 44 12 slot + fld 16 16 (crc16 (beBytes 64 payload))) ::
    [3, 2, 1, 0].map fun i => .data (bits payload (128 * i + 127) (128 * i))

/-- A block has been received on a lane: its descrambler has gone over the payload (R55). -/
def State.rxLane (s : State) (n : Nat) : State := s.modLane n fun l => { l with descr := (scramble 0 l.descr).2 }

/-- `k` port blocks have been received: the positions of the receive active set carry them in ascending order (R77). -/
def State.rxPort (s : State) (p : Nat) : Nat → State
  | 0 => s
  | k + 1 =>
    match bitsOf (s.rxAct p) 4 with
    | [] => s
    | is =>
      let i := is.getD ((s.lport p).rxPos % is.length) 0
      ((s.rxLane (s.laneAt p i)).modLPort p fun l => { l with rxPos := (l.rxPos + 1) % is.length }).rxPort p k

/-- The stream that a receiver rebuilds from rounds (R77): the positions of the receive active set in ascending order, lane-level blocks
removed. A position with no block, or with an invalid header, is erased (R53, R97). -/
def portStream (act : Nat) (rounds : List (List (Fin 4 × BitVec 130))) : List (Option Nat) :=
  rounds.flatMap fun r => (bitsOf act 4).filterMap fun i =>
    match r.find? fun x => x.1.val == i with
    | none => some none
    | some x =>
      let v := x.2.toNat
      if v / 2 ^ 128 = 1 then some (some v)
      else if v / 2 ^ 128 = 2 then (if laneTypes.contains (bits v 127 120) then none else some (some v))
      else some none

/-- What a receiver makes of the stream behind a START up to END (R65 to R69, R101): the octets, and how the frame ended. `cont`: the frame
has been interrupted, and only CONT resumes it; `cell`: data blocks of a Caravan cell that are still to come. -/
def rxFrame : List (Option Nat) → Bytes → Bool → Nat → Bytes × FrameEnd
  | [], acc, _, _ => (acc, .linkError)
  | none :: _, acc, _, _ => (acc, .linkError)
  | some v :: r, acc, cont, cell =>
    if v / 2 ^ 128 = 1 then
      (if 0 < cell then rxFrame r acc cont (cell - 1)
       else if cont then (acc, .linkError)
       else rxFrame r (acc ++ beBytes 16 (v % 2 ^ 128)) false 0)
    else
      let type := bits v 127 120
      if type = 0x33 then rxFrame r acc false 0
      else if type = 0x4B then
        (if cont then (acc, .linkError) else
        let tail := bits v 118 115
        let all := if tail ≤ 8 then acc ++ (beBytes 8 (bits v 111 48)).take tail else acc.take (acc.length - 16 + tail)
        (all, if bit v 119 then .stomped else if crc32 all = bits v 47 16 then .good else .fcsError))
      else rxFrame r acc true (if type = 0x78 then 4 else 0)

/-- How many blocks of a stream are the frame's own: its data, CONT and END. -/
def ownBlocks : List (Option Nat) → Nat → Nat
  | [], _ => 0
  | none :: r, cell => ownBlocks r cell
  | some v :: r, cell =>
    if v / 2 ^ 128 = 1 then (if 0 < cell then ownBlocks r (cell - 1) else ownBlocks r 0 + 1)
    else if bits v 127 120 = 0x33 ∨ bits v 127 120 = 0x4B then ownBlocks r 0 + 1
    else ownBlocks r (if bits v 127 120 = 0x78 then 4 else 0)

/-- The 130 bits of a block at a receiver's ball as the decoder sees them: inverted where the lane's receiver inverts (R133, R134), the
payload descrambled (R55). -/
def State.received (s : State) (n block : Nat) : Nat :=
  let v := invert (Bool.xor (bit (s.obj O.LANE_POLARITY (n + 1)) 0) (s.lane n).rxInv) block
  v / 2 ^ 128 * 2 ^ 128 + (scramble v (s.lane n).descr).1

/-- The round of a superframe in which a lane group stands: 130 UI each since it began (R57). -/
def State.roundNow (s : State) (g : Nat) : Nat :=
  let r := s.group g
  (s.hearth.cycles - r.sfAt) * r.n / max 1 (130 * s.hearthM)

/-- The Hearth time at which a block whose selector cycle is `t` crosses the ball of lane `n` (R79, R285). -/
def State.departsAt (s : State) (n : Nat) (t : Time56) : Time56 := t + BitVec.ofNat 56 (s.obj O.LINK_TX_LAT (n + 1))

/-- The interpolator code of one run of words, unwrapped: a code that goes round from 63 to 0 has gained one UI (R147). -/
def Cdr.sample (c : Cdr) (r : PhaseRun) : Cdr :=
  let d : Int := (r.code.toNat : Int) - c.code
  let turns := if d < -32 then c.turns + 1 else if 32 < d then c.turns - 1 else c.turns
  { code := r.code.toNat, turns := turns, hist := (r.code.toNat + 64 * turns, r.words) :: c.hist }

/-- The runs that cover the last `n` words. -/
def lastWords : Nat → List (Int × Nat) → List (Int × Nat)
  | _, [] => []
  | n, (u, k) :: r => if n ≤ k then [(u, n)] else (u, k) :: lastWords (n - k) r

/-- The codes that a receiver has sampled since the last time on a lane are taken in; those of the last 2^20 words are kept (R147). -/
def State.sampled (s : State) (n : Nat) (codes : List PhaseRun) : State :=
  s.modLane n fun l => let c := codes.foldl Cdr.sample l.cdr; { l with cdr := { c with hist := lastWords (2 ^ 20) c.hist } }

/-- (p̄ / 64) × UI in units of 2^-24 ns (R147): the mean of the unwrapped code over the last 2^PHASE_AVG words, or over those there are,
against the word edge to which the present code refers (log entry 43). -/
def State.phaseTime (s : State) (n : Nat) : Int :=
  let c := (s.lane n).cdr
  let w := lastWords (2 ^ s.obj O.PHASE_AVG) c.hist
  let words := (w.map (·.2)).sum
  let sum := sumI (w.map fun x => (x.1 - 64 * c.turns) * x.2)
  let nn := s.portN n
  if words = 0 ∨ nn = 0 then 0 else roundDiv (sum * s.f0Period) (words * (64 * nn * 65536) : Nat)

/-- The arrival at the ball of a block on lane `n` whose word edge fell at `tw` (R79, R147, R149): the phase reading on a native lane, less
LINK_RX_LAT. -/
def State.arrival (s : State) (n : Nat) (tw : Time56) : Time56 :=
  tw + BitVec.ofInt 56 ((if s.native n then s.phaseTime n else 0) - s.obj O.LINK_RX_LAT (n + 1))

end Sys2Proof.Machine
end

