-- ==== Sys2Proof/Machine/Caravan.lean ====
section
/-! DEFINITION. Caravan scheduling (R296 to R325): the schedule cycle, the checks and the swap of tables, cells received,
held and sent, the latency records, and the local and sink mailboxes of R321 and R443. -/

namespace Sys2Proof.Machine

/-- A schedule entry (R300). -/
structure SchedEntry where
  word    : Nat
  wmask   : Nat
  slot    : Nat
  round   : Nat
  srcPort : Nat
  srcSlot : Nat
  deriving DecidableEq, Repr

/-- SRC_PORT of a local mailbox (R300). -/
def srcLocal : Nat := 0x30

/-- The entry that a 64-bit word spells (R300). -/
def SchedEntry.ofWord (w : Nat) : SchedEntry := ⟨w, bits w 62 59, bits w 58 47, bits w 46 23, bits w 22 17, bits w 16 5⟩

/-- The big-endian words of `n` octets each in a BLOB. -/
def wordsOf (n : Nat) (b : Blob) : List Nat := (List.range (b.len / n)).map fun i => ofBe (b.run (n * i) n)

/-- The valid entries of a table (R300). -/
def validEntries (b : Blob) : List SchedEntry := ((wordsOf 8 b).filter fun w => bit w 63).map SchedEntry.ofWord

/-- The entries in force at a width 1 to 4: the plan (R300). -/
def planOf (l : List SchedEntry) (w : Nat) : List SchedEntry := l.filter fun e => 1 ≤ w && bit e.wmask (w - 1)

/-- Where the phase of an entry of an egress port is kept. -/
def SchedEntry.key (e : SchedEntry) (port : Nat) : Nat := 65536 * port + 16 * e.slot + e.wmask

/-- C in force. -/
def State.cycleLen (s : State) : Nat := s.obj O.CARAVAN_CYCLE_ACT

/-- B is whole and at most 2^24 (R298). -/
def State.roundsOk (s : State) (p : Nat) : Bool :=
  s.cycleLen * s.portN p % 130 == 0 && decide (s.cycleLen * s.portN p / 130 ≤ 2 ^ 24)

/-- B (R298). -/
def State.rounds (s : State) (p : Nat) : Nat := s.cycleLen * s.portN p / 130

/-- `k` rounds of a port in units of 2^-24 ns: T_b = 130 / (N × F0) (R298). The round grid begins on the cycle's F0 edge (log entry 44). -/
def State.roundTime (s : State) (p : Nat) (k : Int) : Int :=
  if s.portN p = 0 then 0 else roundDiv (k * 130 * s.f0Period) (s.portN p * 65536)

/-- One UI of a port in units of 2^-24 ns. -/
def State.uiTime (s : State) (p : Nat) : Int := if s.portN p = 0 then 0 else roundDiv s.f0Period (s.portN p * 65536)

/-- A schedule cycle in units of 2^-24 ns. -/
def State.cycleTime (s : State) : Int := roundDiv (s.cycleLen * s.f0Period) 65536

/-- S_w = ceil(5 / w) (R301). -/
def cellRounds (w : Nat) : Nat := (5 + w - 1) / w

/-- A list without later repeats. -/
def dedup {α : Type} [DecidableEq α] : List α → List α
  | [] => []
  | x :: xs => x :: (dedup xs).filter (· ≠ x)

/-- Insertion of a ROUND into a rising list. -/
def insertNat (x : Nat) : List Nat → List Nat
  | [] => [x]
  | y :: ys => if x ≤ y then x :: y :: ys else y :: insertNat x ys

/-- A list of rounds in rising order. -/
def sortNat : List Nat → List Nat
  | [] => []
  | x :: xs => insertNat x (sortNat xs)

/-- Spacing of sorted ROUNDs at width `w` (R301): each at least S_w after the one before, and no window of 4,096 rounds
without a free run of 2. `busy` is where the last free run of 2 or more ended, `free` where the last cell ended. -/
def spacingFrom (sw : Nat) : Nat → Nat → List Nat → Bool
  | busy, free, [] => decide (free ≤ busy + 4093)
  | busy, free, r :: rs =>
    decide (free ≤ r) &&
      (if free + 2 ≤ r then decide (free ≤ busy + 4093) && spacingFrom sw r (r + sw) rs
       else spacingFrom sw busy (r + sw) rs)

/-- Spacing row of R301. -/
def spacingOk (sw : Nat) (rounds : List Nat) : Bool :=
  match sortNat rounds with
  | [] => true
  | r :: rs => decide (1 ≤ r) && spacingFrom sw r (r + sw) rs

/-- One row of R301 for one plan. -/
def State.planCheck (s : State) (p w : Nat) (plan : List SchedEntry) : Nat → Bool
  | 1 => decide ((dedup (plan.map (·.slot))).length = plan.length) && plan.all fun e => e.slot != 0
  | 2 => spacingOk (cellRounds w) (plan.map (·.round))
  | 3 => plan.all fun e => decide (e.round + cellRounds w + 2 ≤ s.rounds p)
  | 4 => decide (5 * plan.length + 1 ≤ w * s.rounds p / 2)
  | 5 => s.roundsOk p && plan.all fun e => e.srcPort == srcLocal || decide (48 ≤ e.srcPort) || s.roundsOk e.srcPort
  | 6 => plan.all fun e => decide (e.srcPort < 48) || (e.srcPort == srcLocal && decide (e.srcSlot < 64))
  | 8 => decide (w ≤ s.obj O.PORT_WIDTH (p + 1)) && s.native p &&
      plan.all fun e => e.srcPort == srcLocal || decide (48 ≤ e.srcPort) || s.native e.srcPort
  | 9 => plan.all fun e => decide (48 ≤ e.srcPort) ||
      decide (((s.port e.srcPort).acc.headD 0) / 2 < 1024 * s.cycleTime)
  | _ => true

/-- A sink entry (R321): SRC_PORT and SRC_SLOT, where VALID. -/
def sinkOf (w : Nat) : Option (Nat × Nat) := if bit w 31 then some (bits w 30 25, bits w 24 13) else none

/-- The Bay row of R301: distinct sources over all plans and the sinks, and the 64 local mailboxes. -/
def bayCheck (tables : List (List SchedEntry)) (sink : Blob) : Bool :=
  decide ((dedup ((tables.flatten.filter fun e => e.srcPort != srcLocal).map (fun e => (e.srcPort, e.srcSlot)) ++
    (wordsOf 4 sink).filterMap sinkOf)).length + 64 ≤ 16384)

/-- The shadow tables of all ports. -/
def State.shadowTables (s : State) : List (List SchedEntry) :=
  (List.range 48).map fun p => validEntries (s.blob O.CARAVAN_SHADOW (p + 1))

/-- The check of R301: the REASON of the first row that some plan breaks, 0 where all hold. -/
def State.caravanCheck (s : State) : Nat :=
  let ts := s.shadowTables
  let broken (k : Nat) : Bool :=
    if k = 7 then !bayCheck ts (s.blob O.CARAVAN_SINK_SHADOW)
    else ts.zipIdx.any fun t => t.1 ≠ [] && [1, 2, 3, 4].any fun w =>
      planOf t.1 w ≠ [] && !s.planCheck t.2 w (planOf t.1 w) k
  ([1, 2, 3, 4, 5, 6, 7, 8, 9].find? broken).getD 0

/-- The table in force on a port. -/
def State.activeTable (s : State) (p : Nat) : List SchedEntry := validEntries (s.blob O.CARAVAN_ACTIVE (p + 1))

/-- The entries that name a port of a lane group that has left NATIVE are idle until the next swap (R319). -/
def State.idleEntry (s : State) (p : Nat) (e : SchedEntry) : Bool :=
  s.caravan.idle.any fun g => groupOf p == g || (decide (e.srcPort < 48) && groupOf e.srcPort == g)

/-- The entries of a port that are not idle. -/
def State.liveTable (s : State) (p : Nat) : List SchedEntry := (s.activeTable p).filter fun e => !s.idleEntry p e

/-- The plan in force on a port. -/
def State.plan (s : State) (p : Nat) : List SchedEntry := planOf (s.liveTable p) (s.txWidth p)

/-- CARAVAN_BLOCKS: 5 × (entries in the plan in force) + 1 (R302). -/
def State.caravanBlocks (s : State) (p : Nat) : Nat := 5 * (s.plan p).length + 1

/-- IN_FORCE: a schedule with at least one valid entry is active (R325). -/
def State.inForce (s : State) : Bool := (List.range 48).any fun p => s.activeTable p ≠ []

/-- SINK_READY (R321). -/
def State.sinkReady (s : State) : Bool := s.caravan.smbox.any fun m => m.2.full

/-- CARAVAN_FLAGS as read (R325). -/
def State.caravanFlags (s : State) : Nat := s.obj O.CARAVAN_FLAGS + 2 * b2n s.sinkReady + b2n s.inForce

/-- The phase of an entry. -/
def State.phase (s : State) (k : Nat) : Phase := Tab.get s.caravan.phases Dflt.phase k

/-- Changes the phase of an entry. -/
def State.modPhase (s : State) (k : Nat) (f : Phase → Phase) : State :=
  s.modCaravan fun c => { c with phases := Tab.set c.phases Dflt.phase k (f (s.phase k)) }

/-- An entry is re-established by the next cell (R312). -/
def State.reestablish (s : State) (k : Nat) : State :=
  s.modPhase k fun p => { p with off := none, bad := 0, fresh := true }

/-- Every entry of the part is re-established (R297, R312, R318). -/
def State.reestablishAll (s : State) : State :=
  s.modCaravan fun c => { c with phases := c.phases.filterMap fun e =>
    let p := { e.2 with off := none, bad := 0, fresh := true }
    if p = Dflt.phase then none else some (e.1, p) }

/-- The entries that name an ingress port, or leave on an egress port, are re-established (R312, R316, R317). -/
def State.reestablishPort (s : State) (p : Nat) : State :=
  forEach (List.range 48) (fun s q =>
    forEach ((s.activeTable q).filter fun e => q == p || e.srcPort == p) (fun s e => s.reestablish (e.key q)) s) s

/-- CARAVAN_DISCARD of an ingress port advances (R297, R306, R313). -/
def State.discard (s : State) (p : Nat) (n : Nat := 1) : State :=
  if n = 0 then s else (s.count O.CARAVAN_DISCARD (p + 1) n).raise O.CARAVAN_FLAGS 2

/-- Every cell waiting in the bay is discarded and counted (R297, R306). -/
def State.emptyBay (s : State) : State :=
  (forEach s.caravan.bay (fun s c => s.discard c.srcPort) s).modCaravan fun c => { c with bay := [] }

/-- F0_CNT is loaded (R225, R297): MC_LEN and CARAVAN_CYCLE take effect, and the cycle number follows the count (R296); a load that moves
the cycle phase, or changes C, ends the cycle, empties the bay and re-establishes every entry. -/
def State.loadF0 (s : State) (n : Nat) : State :=
  let f := s.obj O.F0_CNT
  let c := s.obj O.CARAVAN_CYCLE
  let moves := decide (c ≠ s.cycleLen ∨ n % c ≠ f % c)
  let s := (((s.setObj O.F0_CNT n).modTio fun t => { t with synced := true }).setObj O.MC_LEN_ACT (s.obj O.MC_LEN)).setObj
    O.CARAVAN_CYCLE_ACT c
  let s := (s.setObj O.CARAVAN_CYCLE_NUM (n / max 1 c % 2 ^ 24)).modCaravan fun v => { v with cycleF0 := v.cycleF0 + n - f }
  if moves then (s.emptyBay.reestablishAll).modCaravan fun c => { c with began := false } else s

/-- All shadow tables become active on every port at once, the sinks with them (R303, R306, R315). `n` is the first cycle
of the new tables. -/
def State.swapTables (s : State) (n : Nat) : State :=
  let old := (List.range 48).map s.activeTable
  let s := s.emptyBay
  let s := forEach (List.range 48) (fun s p => s.setBlob O.CARAVAN_ACTIVE (s.blob O.CARAVAN_SHADOW (p + 1)) (p + 1)) s
  let s := s.setBlob O.CARAVAN_SINK (s.blob O.CARAVAN_SINK_SHADOW)
  let s := forEach (List.range 48) (fun s p =>
      forEach ((s.activeTable p).filter fun e => !((old.getD p []).any fun o => o.word == e.word))
        (fun s e => s.reestablish (e.key p)) s) s
  let mapped (k : Nat) : Bool := (s.activeTable (k / 768)).any fun e => e.srcPort == k % 768 / 16
  (s.modCaravan fun c => { c with recs := c.recs.filter (fun r => mapped r.1), swapCycle := some n, idle := [],
                                  waiting := false, initial := false }).raise O.CARAVAN_FLAGS 4

/-- CARAVAN_CMD LOAD (R303): the check begins. A command while BUSY is refused. -/
def State.caravanLoad (s : State) : State :=
  if s.status O.CARAVAN_STATUS = 1 then s
  else (s.cmdStatus O.CARAVAN_STATUS 0 1 1).modCaravan fun c => { c with checking := true }

/-- The check's outcome (R303). -/
def State.caravanChecked (s : State) : State :=
  if !s.caravan.checking then s else
  let s := s.modCaravan fun c => { c with checking := false }
  let reason := s.caravanCheck
  let ahead := (2 ^ 24 + s.obj O.CARAVAN_LOAD_AT - s.obj O.CARAVAN_CYCLE_NUM) % 2 ^ 24
  if reason ≠ 0 then s.endStatus O.CARAVAN_STATUS 0 4 reason
  else if ahead = 0 ∨ 2 ^ 23 < ahead then s.endStatus O.CARAVAN_STATUS 0 6
  else s.modCaravan fun c => { c with waiting := true }

/-- The F0 edge that begins the target cycle (R303). -/
def State.caravanSwap (s : State) : State :=
  if s.caravan.waiting then (s.swapTables (s.obj O.CARAVAN_LOAD_AT)).endStatus O.CARAVAN_STATUS 0 2 else s

/-- CARAVAN_CMD CANCEL (R304). -/
def State.caravanCancel (s : State) (coincident : Bool) : State :=
  if s.status O.CARAVAN_STATUS ≠ 1 ∨ ¬(s.caravan.waiting ∨ s.caravan.checking) then s.cmdStatus O.CARAVAN_STATUS 0 2 4
  else if coincident && s.caravan.waiting then s.caravanSwap.abortLate O.CARAVAN_STATUS 0 2 O.CARAVAN_FLAGS 3
  else (s.cmdStatus O.CARAVAN_STATUS 0 2 3).modCaravan fun c => { c with waiting := false, checking := false }

/-- CARAVAN_CMD REARM (R312, R324): it acts at the next cycle start. -/
def State.caravanRearm (s : State) : State :=
  if s.status O.CARAVAN_STATUS = 1 then s
  else (s.cmdStatus O.CARAVAN_STATUS 0 3 1).modCaravan fun c => { c with rearm := true }

/-- At start-up the stored shadow tables are checked (R305). -/
def State.caravanBoot (s : State) : State :=
  if s.shadowTables.all (· = []) && ((wordsOf 4 (s.blob O.CARAVAN_SINK_SHADOW)).filterMap sinkOf).isEmpty then s
  else
    let reason := s.caravanCheck
    if reason ≠ 0 then s.setStatus O.CARAVAN_STATUS 0 reason false 0 4
    else s.modCaravan fun c => { c with initial := true }

/-- CARAVAN_CMD LOAD. -/
def execCaravanLoad (s : State) : Host.Outcome State Fault Refusal := runKeep s (·.caravanLoad)
/-- The check of the shadow tables completes. -/
def execCaravanCheckDone (s : State) : Host.Outcome State Fault Refusal := runKeep s (·.caravanChecked)
/-- The target cycle begins. -/
def execCaravanSwap (s : State) : Host.Outcome State Fault Refusal := runKeep s (·.caravanSwap)
/-- CARAVAN_CMD CANCEL. -/
def execCaravanCancel (coincident : Bool) (s : State) : Host.Outcome State Fault Refusal := runKeep s (·.caravanCancel coincident)
/-- CARAVAN_CMD REARM. -/
def execRearm (s : State) : Host.Outcome State Fault Refusal := runKeep s (·.caravanRearm)

/-- One local mailbox. -/
def State.lmbox (s : State) (m : Nat) : Mailbox := Tab.get s.caravan.lmbox Dflt.mailbox m
/-- Changes a local mailbox. -/
def State.modLmbox (s : State) (m : Nat) (f : Mailbox → Mailbox) : State :=
  s.modCaravan fun c => { c with lmbox := Tab.set c.lmbox Dflt.mailbox m (f (s.lmbox m)) }
/-- One sink mailbox. -/
def State.smbox (s : State) (m : Nat) : Mailbox := Tab.get s.caravan.smbox Dflt.mailbox m
/-- Changes a sink mailbox. -/
def State.modSmbox (s : State) (m : Nat) (f : Mailbox → Mailbox) : State :=
  s.modCaravan fun c => { c with smbox := Tab.set c.smbox Dflt.mailbox m (f (s.smbox m)) }

/-- At the end of a cycle VALID of every local mailbox returns to 0, MISSED set where no read point took the cell (R443). -/
def State.emptyLmboxes (s : State) : State :=
  forEach (s.caravan.lmbox.map (·.1)) (fun s m => s.modLmbox m fun b =>
    if b.full then { b with full := false, mark := b.mark || !b.taken, taken := false } else b) s

/-- The F0_CNT of the next cycle start: the present edge where it begins a cycle that has not been counted yet, else the
next multiple of C (R296). -/
def State.nextCycleF0 (s : State) : Nat :=
  let c := s.cycleLen
  let f := s.obj O.F0_CNT
  if c = 0 then f else if f % c = 0 ∧ ¬(s.caravan.began ∧ s.caravan.cycleF0 = f) then f else (f / c + 1) * c

/-- A schedule cycle begins (R296, R305, R312, R321, R443): time runs on to the F0 edge that begins it (log entry 12). -/
def State.cycleStart (s : State) : State :=
  let n := s.nextCycleF0
  let s := (s.runToF0 n)
  let num := n / max 1 s.cycleLen % 2 ^ 24
  let s := s.emptyLmboxes.setObj O.CARAVAN_CYCLE_NUM num
  let s := s.modCaravan fun c => { c with cycleF0 := n, cycleAt := s.now, began := true }
  let s := if s.caravan.rearm then
      (s.reestablishAll.endStatus O.CARAVAN_STATUS 0 2).modCaravan fun c => { c with rearm := false } else s
  let s := if s.caravan.initial && s.tio.synced then s.swapTables num else s
  (s.irqEvent (256 + 32 * 10 + 4)).irqEvent (256 + 32 * 11 + 4)

/-- A Caravan schedule cycle begins. -/
def execScheduleCycleStart (s : State) : Host.Outcome State Fault Refusal := runKeep s (·.cycleStart)

/-- The start of cycle `n`, reckoned from the cycle in progress (R296). -/
def State.cycleStartAt (s : State) (n : Nat) : Int :=
  s.caravan.cycleAt.toNat + toSigned 24 ((n + 2 ^ 24 - s.obj O.CARAVAN_CYCLE_NUM) % 2 ^ 24) * s.cycleTime

/-- The read point of an entry of egress port `p` in cycle `n`: its ROUND less CARAVAN_READ_LEAD (R311). -/
def State.readPoint (s : State) (p : Nat) (e : SchedEntry) (n : Nat) : Int :=
  s.cycleStartAt n + s.roundTime p ((e.round : Int) - 4)

/-- A 56-bit time as an offset of the cycle in progress, extended around it. -/
def State.extTime (s : State) (t : Time56) : Int := s.caravan.cycleAt.toNat + tdiff56 t s.caravan.cycleAt

/-- The first cycle from `n` on, within `fuel` cycles, whose read point lies at or after D* (R311). -/
def State.firstRead (s : State) (p : Nat) (e : SchedEntry) (dstar : Int) : Nat → Nat → Nat
  | 0, n => n
  | fuel + 1, n => if dstar ≤ s.readPoint p e n then n else s.firstRead p e dstar fuel ((n + 1) % 2 ^ 24)

/-- An entry is told of a cell whose D* is known (R311): established by it, or judged against its phase. Answers the cycle
in which the entry is to read it. `sent` is the sender's cycle. -/
def State.judge (s : State) (p : Nat) (e : SchedEntry) (sent : Nat) (dstar : Int) : Option Nat × State :=
  let k := e.key p
  match (s.phase k).off with
  | none =>
    let cur := s.obj O.CARAVAN_CYCLE_NUM
    let d := (dstar - s.caravan.cycleAt.toNat) / max 1 s.cycleTime
    let n := s.firstRead p e dstar 3 ((cur + d) % (2 ^ 24 : Int)).toNat
    (some n, s.modPhase k fun f => { f with off := some ((n + 2 ^ 24 - sent) % 2 ^ 24), bad := 0, fresh := true })
  | some off =>
    let n := (sent + off) % 2 ^ 24
    let rp := s.readPoint p e n
    if rp < dstar ∨ s.cycleTime ≤ rp - dstar then
      let s := (s.count O.CARAVAN_LATE (p + 1)).raise O.CARAVAN_FLAGS 5
      (none, if 7 ≤ (s.phase k).bad then s.reestablish k else s.modPhase k fun f => { f with bad := f.bad + 1 })
    else (some n, s.modPhase k fun f => { f with bad := 0 })

/-- The sending cycle of a cell: the latest number at or before this part's own that agrees with TXC (R306). -/
def State.sendCycle (s : State) (txc : Nat) : Nat :=
  let cur := s.obj O.CARAVAN_CYCLE_NUM
  (cur + 2 ^ 24 - (cur + 4096 - txc % 4096) % 4096) % 2 ^ 24

/-- A cell was sent in a cycle before the last swap (R306). -/
def State.crossedSwap (s : State) (sent : Nat) : Bool :=
  let cur := s.obj O.CARAVAN_CYCLE_NUM
  match s.caravan.swapCycle with
  | none => false
  | some n => decide ((cur + 2 ^ 24 - n) % 2 ^ 24 < (cur + 2 ^ 24 - sent) % 2 ^ 24)

/-- A cell is copied to a sink mailbox (R321, R443). -/
def State.toSink (s : State) (k hdr payload ns : Nat) : State :=
  let ready := s.sinkReady
  let s := s.modSmbox k fun m =>
    { m with payload := payload, user := hdr, ns := ns, full := true, mark := m.mark || m.full }
  if ready then s else s.levelRise 118 O.CARAVAN_FLAGS 1

/-- The sinks that name a source. -/
def State.sinksOf (s : State) (port slot : Nat) : List Nat :=
  ((wordsOf 4 (s.blob O.CARAVAN_SINK)).zipIdx.filter fun w => sinkOf w.1 == some (port, slot)).map (·.2)

/-- The entries of the part that name a source, each with its egress port. -/
def State.entriesOf (s : State) (port slot : Nat) : List (Nat × SchedEntry) :=
  (List.range 48).flatMap fun q => ((s.liveTable q).filter fun e => e.srcPort == port && e.srcSlot == slot).map ((q, ·))

/-- Each entry in force that names the source is told of the cell; the answer is who will read it. -/
def State.judgeAll (s : State) (sent : Nat) (dstar : Int) : List (Nat × SchedEntry) → List (Nat × Nat) × State
  | [] => ([], s)
  | (q, e) :: r =>
    if bit e.wmask (s.txWidth q - 1) && decide (1 ≤ s.txWidth q) then
      match s.judge q e sent dstar with
      | (some n, s) => let (l, s) := s.judgeAll sent dstar r; ((e.key q, n) :: l, s)
      | (none, s) => s.judgeAll sent dstar r
    else s.judgeAll sent dstar r

/-- The CPLL is locked (R318). -/
def State.cpllLocked (s : State) : Bool := decide (s.obj O.PLL_STATE 14 = 2)

/-- The 64 octets of a cell, none where a block was erased (R71, R97). -/
def cellOctets (c : CellBlocks) : Option Nat :=
  match c.b0, c.b1, c.b2, c.b3 with
  | some a, some b, some c, some d => some (((a.toNat * 2 ^ 128 + b.toNat) * 2 ^ 128 + c.toNat) * 2 ^ 128 + d.toNat)
  | _, _, _, _ => none

/-- A cell whose CARAVAN block came at `tw` was in progress when the receive width last changed (R317). -/
def State.cellSplit (s : State) (p : Nat) (tw : Time56) : Bool :=
  match (s.lport p).rxAt with
  | none => false
  | some t => decide (0 < tdiff56 t tw ∧ tdiff56 t tw ≤ s.roundTime p (cellRounds (max 1 (s.rxWidth p)) + 2))

/-- A Caravan cell has been received (R97, R101, R307, R309, R311, R317, R318): one with an erased block is dropped. It is dated by the
lane that carried its CARAVAN block (R76, R314). -/
def State.cellReceive (s : State) (p : Nat) (body : Body) (blocks : CellBlocks) (time : Arrival) : State :=
  let hdr := blk body 119 56
  let slot := blk body 55 44
  let lag := bits hdr 63 62
  let ln := p + time.lane
  if !s.native p then s else
  let s := (s.rxPort p 5).sampled ln time.codes
  let arrival := s.arrival ln time.tw
  match cellOctets blocks with
  | none => s
  | some payload =>
  if !s.cpllLocked then s.count O.CARAVAN_DROP_CLK (p + 1)
  else if s.cellSplit p time.tw then s.count O.CARAVAN_WIDTH_DROP (p + 1)
  else if crc16 (beBytes 64 payload) ≠ blk body 31 16 then s.count O.CARAVAN_CRC (p + 1)
  else
    let s := s.count O.CARAVAN_RX_CELLS (p + 1)
    if lag = 3 then s.count O.CARAVAN_UNMAPPED (p + 1) else
    let ents := s.entriesOf p slot
    let sinks := s.sinksOf p slot
    if ents.isEmpty && sinks.isEmpty then s.count O.CARAVAN_UNMAPPED (p + 1) else
    let sent := s.sendCycle (bits hdr 61 50)
    if s.crossedSwap sent then s.discard p else
    let w := max 1 (s.rxWidth p)
    let arr := BitVec.ofInt 56 ((arrival.toNat : Int) - s.roundTime p lag)
    let nominal := BitVec.ofInt 56 ((arr.toNat : Int) + s.obj O.LINK_RX_LAT (ln + 1) + s.roundTime p (cellRounds w + 2))
    let dstar := BitVec.ofInt 56 ((nominal.toNat : Int) + s.roundTime p 2)
    let s := forEach sinks (fun s k => s.toSink k hdr payload (nsOf nominal)) s
    if ents.isEmpty then s else
    let old := s.caravan.bay.filter fun c => c.srcPort == p && c.srcSlot == slot
    let s := (s.discard p (old.filter fun c => !c.read).length).modCaravan fun c =>
      { c with bay := c.bay.filter fun c => !(c.srcPort == p && c.srcSlot == slot) }
    let (due, s) := s.judgeAll sent (s.extTime dstar) ents
    if due.isEmpty then s.discard p
    else s.modCaravan fun c => { c with bay := c.bay ++ [⟨p, slot, hdr, payload, sent, arr, dstar, w, due, false⟩] }

/-- A Caravan cell is received. -/
def execCaravanCellReceive (port : Fin 48) (body : Body) (payload : CellBlocks) (arrival : Arrival) (s : State) :
    Host.Outcome State Fault Refusal := runKeep s (·.cellReceive port body payload arrival)

/-- Sets what has been taken for a slot. -/
def State.setTaken (s : State) (p slot : Nat) (t : Option Taken) : State :=
  s.modCaravan fun c => { c with taken := Tab.set c.taken none (4096 * p + slot) t }

/-- The read point of an entry falls: the cell held for it in this cycle is taken (R311, R321, R443). -/
def State.atReadPoint (s : State) (p slot : Nat) : State :=
  if !s.cpllLocked then s else
  match (s.plan p).find? fun e => e.slot == slot with
  | none => s
  | some e =>
    let cur := s.obj O.CARAVAN_CYCLE_NUM
    let n := if e.round < 4 then (cur + 1) % 2 ^ 24 else cur
    if e.srcPort = srcLocal then
      let m := s.lmbox e.srcSlot
      if m.full then
        let hdr := s.obj O.DEVICE_ID % 2 ^ 17 * 2 ^ 33 + cur * 256 + m.user % 256
        (s.setTaken p slot (some ⟨hdr, m.payload, n, none⟩)).modLmbox e.srcSlot fun m => { m with taken := true }
      else s
    else
      match s.caravan.bay.find? fun c => c.srcPort == e.srcPort && c.srcSlot == e.srcSlot && c.due.contains (e.key p, n) with
      | none => s
      | some c =>
        let left := c.due.filter (· != (e.key p, n))
        let s := s.modCaravan fun v => { v with bay := v.bay.filterMap fun x =>
          if x = c then (if left = [] then none else some { c with due := left, read := true }) else some x }
        let margin := uToPs (s.readPoint p e n - s.extTime c.dstar)
        s.setTaken p slot (some ⟨c.hdr, c.payload, n, some (c.srcPort, c.width, c.arrival, margin)⟩)

/-- An entry's read point. -/
def execCaravanReadPoint (port : Fin 48) (slot : BitVec 12) (s : State) : Host.Outcome State Fault Refusal :=
  runKeep s (·.atReadPoint port slot.toNat)

/-- One record of CARAVAN_LAT. -/
def State.latRec (s : State) (k : Nat) : LatRec := Tab.get s.caravan.recs Dflt.latRec k

/-- The latency record of a cell that has been sent (R314 to R316). -/
def State.recordLat (s : State) (p : Nat) (e : SchedEntry) (t : Taken) : Nat × Nat × Time56 × Int → State
  | (ip, iw, arr, margin) =>
    let k := 768 * p + 16 * ip + 4 * (iw - 1) + (s.txWidth p - 1)
    let lane := (s.activeLanes p).headD p
    let dep := s.cycleStartAt t.cycle + s.roundTime p e.round + s.obj O.LINK_TX_LAT (lane + 1)
    let lat := dep - s.extTime arr
    let old := s.latRec k
    let ph := s.phase (e.key p)
    let ui := s.uiTime p
    let s := if ph.fresh && old.valid && decide (ui < (lat - old.lat).natAbs) then s.raise O.CARAVAN_FLAGS 7 else s
    let low := decide (margin < (s.obj O.CARAVAN_GUARD : Int) * 1000)
    let s := if low && !ph.low then s.raise O.CARAVAN_FLAGS 6 else s
    let s := s.modPhase (e.key p) fun f => { f with fresh := false, low := low, lat := if f.fresh then some lat else f.lat }
    let lats := ((s.plan p).filter fun x => x.srcPort == ip).filterMap fun x => (s.phase (x.key p)).lat
    let mixed := decide (ui < maxI lats - minI lats)
    let keep := old.samples.filter fun x => decide (s.upNs ≤ x.1 + 1000000000)
    s.modCaravan fun c => { c with recs := Tab.set c.recs Dflt.latRec k ⟨true, lat, mixed, (s.upNs, margin) :: keep⟩ }

/-- An entry's ROUND: the cell taken for it is sent, `lag` rounds late, or the slot counts as empty (R71, R307, R308, R315). -/
def State.atSlot (s : State) (p slot lag : Nat) : State :=
  if !s.cpllLocked then s.setTaken p slot none else
  match Tab.get s.caravan.taken none (4096 * p + slot), (s.plan p).find? (fun e => e.slot == slot) with
  | some t, e =>
    let hdr := lag % 4 * 2 ^ 62 + t.cycle % 4096 * 2 ^ 50 + t.hdr % 2 ^ 50
    let s := ((s.setTaken p slot none).stream p (cellBlks hdr slot t.payload)).count O.CARAVAN_TX_CELLS (p + 1)
    match t.src, e with
    | some src, some e => s.recordLat p e t src
    | _, _ => s
  | none, some _ => s.count O.CARAVAN_EMPTY (p + 1)
  | none, none => s

/-- An entry's ROUND. -/
def execCaravanSlot (port : Fin 48) (slot : BitVec 12) (lag : Fin 3) (s : State) : Host.Outcome State Fault Refusal :=
  runKeep s (·.atSlot port slot.toNat lag)

/-- One cycle after its D*, a bay entry is freed; unread, it is counted (R313). -/
def execBayEntryFree (srcPort : Fin 48) (srcSlot : BitVec 12) (s : State) : Host.Outcome State Fault Refusal :=
  runKeep s fun s =>
    let here := s.caravan.bay.filter fun c => c.srcPort == srcPort.val && c.srcSlot == srcSlot.toNat
    (s.discard srcPort (here.filter fun c => !c.read).length).modCaravan fun c =>
      { c with bay := c.bay.filter fun c => !(c.srcPort == srcPort.val && c.srcSlot == srcSlot.toNat) }

/-- Writing VALID = 1 places a local cell; payload writes while VALID is 1 are ignored (R321, R443). -/
def execLmboxValidWrite (m : Fin 64) (payload : BitVec 512) (user : Byte) (s : State) : Host.Outcome State Fault Refusal :=
  runKeep s (·.modLmbox m fun b =>
    if b.full then b else { b with payload := payload.toNat, user := user.toNat, full := true, taken := false })

/-- Writing FULL = 1 releases a sink mailbox (R443). -/
def execSmboxRelease (m : Fin 64) (s : State) : Host.Outcome State Fault Refusal :=
  runKeep s (·.modSmbox m fun b => { b with full := false })

/-- One record of CARAVAN_LAT as its 16 octets (R315). -/
def State.latBytes (s : State) (r : LatRec) : Bytes :=
  let xs := r.samples.filter fun x => decide (s.upNs ≤ x.1 + 1000000000)
  beBytes 8 (ofSigned 64 r.lat) ++ beBytes 4 (ofSigned 32 (minI (xs.map (·.2)))) ++ beBytes 2 (min 65535 xs.length) ++
    beBytes 1 (b2n r.valid * 128 + b2n r.mixed * 64) ++ [0]

/-- CARAVAN_LAT of a port (R315). -/
def State.latBlob (s : State) (p : Nat) : Bytes := (List.range 768).flatMap fun i => s.latBytes (s.latRec (768 * p + i))

end Sys2Proof.Machine
end

