-- ==== Sys2Proof/Machine/Tables.lean ====
section
/-! DEFINITION. The lookup tables (R326 to R362): the exact-match table with its hashes, insertion by cuckoo path, learning,
live rehash, the prefix TCAM, the four table DMA rings, bucket locks and the scrubbers. -/

namespace Sys2Proof.Machine

/-- The key under which a location (AREA, INDEX, SLOT) is kept (R326). -/
def emLoc (area idx slot : Nat) : Nat := 4 * (131072 * area + idx) + slot

/-- AREA, INDEX and SLOT of a location, in the places of W1 (R349). -/
def locW1 (l : Nat) : Nat := l % 4 * 2 ^ 18 + l / 524288 % 4 * 2 ^ 16 + l / 4 % 32768

/-- The bucket number of R354 for a location of area 0 or 1; `none` for the stash, which has no locks. -/
def locBucket (l : Nat) : Option Nat := if l / 524288 < 2 then some (32768 * (l / 524288) + l / 4 % 32768) else none

/-- The entry at a location (R327), 0 where there is none. -/
def State.em (s : State) (l : Nat) : Nat := Tab.get s.tables.em 0 l

/-- Writes an entry; its ECC octet is not kept, and an entry that is not VALID is cleared (R327, R334). -/
def State.setEm (s : State) (l e : Nat) : State :=
  s.modTables fun t => { t with em := Tab.set t.em 0 l (if bit e 127 then e - e % 256 else 0) }

/-- TYPE of an entry. -/
def emType (e : Nat) : Nat := bits e 123 122
/-- KEY of an entry. -/
def emKey (e : Nat) : Nat := bits e 119 60
/-- RESULT of an entry. -/
def emResult (e : Nat) : Nat := bits e 59 44
/-- The seed set under which an entry is placed. -/
def emGen (e : Nat) : Nat := bits e 43 43
/-- An entry of given TYPE, KEY and RESULT, VALID and nothing else. -/
def emMake (type key result : Nat) : Nat := 2 ^ 127 + type % 4 * 2 ^ 122 + key % 2 ^ 60 * 2 ^ 60 + result % 2 ^ 16 * 2 ^ 44
/-- An entry with another RESULT. -/
def emSetResult (e r : Nat) : Nat := e - emResult e * 2 ^ 44 + r % 2 ^ 16 * 2 ^ 44

/-- The image of an entry as software reads it, its ECC octet included (R327). -/
def emImage (e : Nat) : Nat := e - e % 256 + (Config.secded (e / 256)).toNat

/-- The 64-bit word that is hashed (R330). -/
def hashWord (type key : Nat) : Nat := type % 4 * 2 ^ 62 + key % 2 ^ 60 * 4

/-- The bucket of a hashed word under a 32-bit seed (R330). -/
def hashBucket (seed x : Nat) : Nat := bits (crcBytes 32 0x04C11DB7 seed (beBytes 8 x)) 31 17

/-- Seed `h` of set A or B: SEED_0 in [63:32], SEED_1 in [31:0] (R331). -/
def State.seed (s : State) (set h : Nat) : Nat :=
  let v := s.obj (if set = 0 then O.EM_SEED_A else O.EM_SEED_B)
  if h = 0 then bits v 63 32 else bits v 31 0

/-- The bucket of a key in sub-table `h` under a set. -/
def State.bucketOf (s : State) (set h type key : Nat) : Nat := hashBucket (s.seed set h) (hashWord type key)

/-- The set under which insertions are placed: the active one, or the target in DUAL (R334, R341). -/
def State.placeSet (s : State) : Nat := s.obj O.EM_STATE % 2

/-- EM_STATE is DUAL. -/
def State.dual (s : State) : Bool := decide (2 ≤ s.obj O.EM_STATE)

/-- The sets that a lookup probes (R332). -/
def State.probeSets (s : State) : List Nat := if s.dual then [s.placeSet, 1 - s.placeSet] else [s.placeSet]

/-- The four locations of a bucket. -/
def slotsOf (h b : Nat) : List Nat := [emLoc h b 0, emLoc h b 1, emLoc h b 2, emLoc h b 3]

/-- The 64 locations of the stash. -/
def stashLocs : List Nat := (List.range 64).map fun i => emLoc 2 (i / 4) (i % 4)

/-- Every location that a lookup of a key probes (R332). -/
def State.probes (s : State) (type key : Nat) : List Nat :=
  (s.probeSets.flatMap fun t => slotsOf 0 (s.bucketOf t 0 type key) ++ slotsOf 1 (s.bucketOf t 1 type key)) ++ stashLocs

/-- The entry at a location matches a key (R332). -/
def State.emMatch (s : State) (type key l : Nat) : Bool :=
  let e := s.em l
  bit e 127 && emType e == type && emKey e == key

/-- Where a key's entry lies, an uncorrectable one included. -/
def State.emFind (s : State) (type key : Nat) : Option Nat := (s.probes type key).find? (s.emMatch type key)

/-- Where a lookup finds a key: an uncorrectable entry is treated as absent (R358). -/
def State.emLookup (s : State) (type key : Nat) : Option Nat :=
  (s.probes type key).find? fun l => s.emMatch type key l && !s.tables.emBad.contains l

/-- EM_USED. -/
def State.emUsed (s : State) : Nat := s.tables.em.length
/-- EM_LEARNED. -/
def State.emLearned (s : State) : Nat := (s.tables.em.filter fun e => bit e.2 124).length
/-- STASH_USED. -/
def State.stashUsed (s : State) : Nat := (s.tables.em.filter fun e => e.1 / 524288 == 2).length
/-- MIGRATE_LEFT: entries still under the other set (R341). -/
def State.migrateLeft (s : State) : Nat :=
  if s.dual then (s.tables.em.filter fun e => emGen e.2 != s.placeSet).length else 0
/-- TCAM_USED. -/
def State.tcamUsed (s : State) : Nat := (s.tables.tcam.filter fun e => decide (e.1 < 16384) && e.2.valid).length
/-- TDMA_LOCKS of a ring. -/
def State.locksOf (s : State) (r : Nat) : Nat := (s.tables.locks.filter fun l => l.ring == r).length

/-- The ring that holds a bucket's lock. -/
def State.lockOf (s : State) (b : Nat) : Option Nat := (s.tables.locks.find? fun l => l.bucket == b).map (·.ring)

/-- A bucket may be written for a ring: unlocked, or locked by that ring (R352). Ring 4 stands for the part itself. -/
def State.mayWrite (s : State) (r b : Nat) : Bool :=
  match s.lockOf b with
  | none => true
  | some q => q == r

/-- The first free slot of a bucket. -/
def State.freeSlot (s : State) (h b : Nat) : Option Nat := (slotsOf h b).find? fun l => !bit (s.em l) 127

/-- A node of the breadth-first search: a bucket, and the entries to be moved, nearest to the bucket first (R334). -/
structure BfsNode where
  h     : Nat
  b     : Nat
  chain : List Nat
  deriving DecidableEq, Repr

/-- What the slots of one bucket offer the search: a path that ends in a free slot, or nodes to visit. -/
def State.bfsExpand (s : State) (t : Nat) (n : BfsNode) : List Nat → List Nat → List BfsNode →
    Option (List Nat × Nat) × List Nat × List BfsNode
  | [], seen, q => (none, seen, q)
  | l :: ls, seen, q =>
    let e := s.em l
    let h' := 1 - n.h
    let b' := s.bucketOf t h' (emType e) (emKey e)
    let key := 32768 * h' + b'
    if !bit e 127 || emGen e != t || s.tables.emBad.contains l || (s.lockOf key).isSome || seen.contains key then
      s.bfsExpand t n ls seen q
    else match s.freeSlot h' b' with
      | some f => (some (l :: n.chain, f), seen, q)
      | none => s.bfsExpand t n ls (key :: seen) (q ++ [⟨h', b', l :: n.chain⟩])

/-- The breadth-first search over at most 256 buckets for the shortest path of at most 16 moves (R334). The answer is the
entries to be moved, far end first, and the free slot at that end. -/
def State.bfs (s : State) (t : Nat) : Nat → List Nat → List BfsNode → Option (List Nat × Nat)
  | 0, _, _ => none
  | _, _, [] => none
  | fuel + 1, seen, n :: q =>
    if 16 ≤ n.chain.length then none else
    match s.bfsExpand t n (slotsOf n.h n.b) seen q with
    | (some p, _, _) => some p
    | (none, seen, q) => s.bfs t fuel seen q

/-- One move of a relocation: the copy first, then the invalidation (R335). -/
def State.emMove (s : State) (src dst : Nat) : State := (s.setEm dst (s.em src)).setEm src 0

/-- Runs a path far end first; answers the slot that comes free at the near end. -/
def State.runPath (s : State) : List Nat → Nat → Nat × State
  | [], dst => (dst, s)
  | l :: ls, dst => (s.emMove l dst).runPath ls l

/-- Entry `e` with GEN = t. -/
def withGen (e t : Nat) : Nat := e - emGen e * 2 ^ 43 + t % 2 * 2 ^ 43

/-- Places an entry under a set (R334 after its first test): directly, by a path, or in the stash. Answers its location;
`none` where there is no room. -/
def State.emPlace (s : State) (r t e : Nat) (stash : Bool) : Option Nat × State :=
  let h0 := s.bucketOf t 0 (emType e) (emKey e)
  let h1 := s.bucketOf t 1 (emType e) (emKey e)
  let direct := ([(0, h0), (1, h1)].filter fun b => s.mayWrite r (32768 * b.1 + b.2)).findSome? fun b => s.freeSlot b.1 b.2
  match direct with
  | some l => (some l, s.setEm l (withGen e t))
  | none =>
    let start := ([(0, h0), (1, h1)].filter fun b => (s.lockOf (32768 * b.1 + b.2)).isNone)
    match s.bfs t 256 (start.map fun b => 32768 * b.1 + b.2) (start.map fun b => ⟨b.1, b.2, []⟩) with
    | some p =>
      let (l, s) := s.runPath p.1 p.2
      (some l, s.setEm l (withGen e t))
    | none =>
      match if stash then stashLocs.find? (fun l => !bit (s.em l) 127) else none with
      | some l =>
        let s := s.setEm l (withGen e t)
        (some l, if s.stashUsed = s.obj O.STASH_HIGH then s.raise O.TABLE_FLAGS 2 else s)
      | none => (none, s)

/-- TABLE_COMMIT advances by one (R337). -/
def State.tableCommit (s : State) : State := s.setObj O.TABLE_COMMIT (s.obj O.TABLE_COMMIT + 1)

/-- After a delete from a bucket, one stash entry whose candidate bucket under its GEN set is that bucket moves there (R336); in
DUAL only one of the target set (R342), and never one that holds an uncorrectable error. -/
def State.drainBack (s : State) (l : Nat) : State :=
  match locBucket l with
  | none => s
  | some b =>
    if (s.lockOf b).isSome then s else
    let h := b / 32768
    match stashLocs.find? (fun q => let e := s.em q
        bit e 127 && !s.tables.emBad.contains q && (!s.dual || emGen e == s.placeSet) &&
          s.bucketOf (emGen e) h (emType e) (emKey e) == b % 32768) with
    | none => s
    | some q => s.emMove q l

/-- RESULT is admissible for an entry of a TYPE, 3 standing for the TCAM (R329). -/
def resultOk (type r : Nat) : Bool :=
  bits r 13 12 == 0 &&
  (match bits r 15 14 with
   | 0 => decide (2 ≤ type) || decide (bits r 11 0 ≤ 48)
   | 1 => decide (type < 2)
   | _ => bits r 11 0 == 0)

/-- TYPE and KEY are admissible (R327, R328). -/
def keyOk (e : Nat) : Bool :=
  match emType e with
  | 0 => true
  | 1 => bits e 119 85 == 0
  | 2 => bits e 119 100 == 0
  | _ => false

/-- The reserved bits of an image are 0 (R327). -/
def imageOk (e : Nat) : Bool := keyOk e && !bit e 120 && bits e 42 8 == 0 && resultOk (emType e) (emResult e)

/-- The entry that a written image stores: VALID set; LEARNED, GEN and ECC ignored (R327). -/
def imageEntry (e : Nat) : Nat := setBit (setBit (withGen (e - e % 256) 0) 124 false) 127 true

/-- The completion of R351 in a ring's descriptor: a status, an INFO octet, and the words that the operation writes. -/
structure DmaResult where
  status : Nat
  info   : Nat
  w1     : Option Nat
  entry  : Option Nat
  deriving DecidableEq, Repr

/-- A completion that writes nothing but its status. -/
def dmaStatus (n : Nat) : DmaResult := ⟨n, 0, none, none⟩

/-- Where the descriptor at TDMA_TAIL of a ring stands (R348, log entry 11). -/
def State.dmaAddr (s : State) (r : Nat) : Nat :=
  s.obj O.TDMA_BASE (r + 1) + 32 * (s.obj O.TDMA_TAIL (r + 1) % 2 ^ s.obj O.TDMA_SIZE (r + 1))

/-- A word of the descriptor at the tail. -/
def State.dmaWord (s : State) (r k : Nat) : Nat := ofLe (s.pantryRead (s.dmaAddr r + 4 * k) 4)

/-- The ring has an operation to perform: it runs, TAIL differs from HEAD and OWN is 1 (R348). -/
def State.dmaReady (s : State) (r : Nat) : Bool :=
  bit (s.obj O.TDMA_STATUS (r + 1)) 9 &&
    s.obj O.TDMA_TAIL (r + 1) % 2 ^ s.obj O.TDMA_SIZE (r + 1) != s.obj O.TDMA_HEAD (r + 1) % 2 ^ s.obj O.TDMA_SIZE (r + 1) &&
    bit (s.dmaWord r 0) 31

/-- Completes the descriptor at the tail: its words, OWN cleared, COMMIT, the tail's advance and the event (R348, R349). -/
def State.dmaFinish (s : State) (r : Nat) (d : DmaResult) (late : Bool) : State :=
  let a := s.dmaAddr r
  let w0 := s.dmaWord r 0
  let w0' := w0 - bits w0 31 31 * 2 ^ 31 - bits w0 15 0 + d.status * 256 + d.info % 256
  let w0' := if late then setBit w0' 26 true else w0'
  let s := s.pantryWrite a (leBytes 4 w0')
  let s := match d.w1 with | some w => s.pantryWrite (a + 4) (leBytes 4 w) | none => s
  let s := s.pantryWrite (a + 12) (leBytes 4 (s.obj O.TABLE_COMMIT))
  let s := match d.entry with | some e => s.pantryWrite (a + 16) (leBytes 16 e) | none => s
  let s := s.setObj O.TDMA_TAIL ((s.obj O.TDMA_TAIL (r + 1) + 1) % 2 ^ s.obj O.TDMA_SIZE (r + 1)) (r + 1)
  if bit w0 30 then s.sharedEvent (126 + r) else s

/-- The lock test of one bucket for an operation (R351, R352, R354): 0 where it may go on. -/
def State.lockTest (s : State) (r b : Nat) (req writes : Bool) : Nat :=
  if req then
    if s.tables.expired.contains (r, b) then 7 else if s.lockOf b = some r then 0 else 8
  else if writes && !s.mayWrite r b then 6 else 0

/-- The lock test of the bucket of a location; the stash has no locks. -/
def State.locTest (s : State) (r l : Nat) (req writes : Bool) : Nat :=
  match locBucket l with
  | none => 0
  | some b => s.lockTest r b req writes

/-- An operation on the entry with the descriptor's key (LOOKUP, UPDATE, DELETE, DEL_IF_CLEAR): the tests common to all. -/
def State.keyOp (s : State) (r img w0 : Nat) (ok writes : Bool) (f : Nat → DmaResult × State) : DmaResult × State :=
  if !(keyOk img && ok) then (dmaStatus 0x0B, s) else
  match s.emFind (emType img) (emKey img) with
  | none => (dmaStatus 2, s)
  | some l =>
    let t := s.locTest r l (bit w0 29) writes
    if t ≠ 0 then (dmaStatus t, s)
    else if s.tables.emBad.contains l then (dmaStatus 0x0E, s)
    else f l

/-- LOOKUP (R350). -/
def State.dmaLookup (s : State) (r : Nat) : DmaResult × State :=
  let img := ofLe (s.pantryRead (s.dmaAddr r + 16) 16)
  s.keyOp r img (s.dmaWord r 0) true false fun l => (⟨1, 0, some (locW1 l), some (emImage (s.em l))⟩, s)

/-- INSERT (R334, R350). -/
def State.dmaInsert (s : State) (r : Nat) : DmaResult × State :=
  let img := ofLe (s.pantryRead (s.dmaAddr r + 16) 16)
  let w0 := s.dmaWord r 0
  if !imageOk img then (dmaStatus 0x0B, s) else
  let t := s.placeSet
  let bs := [s.bucketOf t 0 (emType img) (emKey img), 32768 + s.bucketOf t 1 (emType img) (emKey img)]
  match if bit w0 29 then (bs.map fun b => s.lockTest r b true true).find? (· != 0) else none with
  | some st => (dmaStatus st, s)
  | none =>
    match s.emFind (emType img) (emKey img) with
    | some l => (dmaStatus (if s.tables.emBad.contains l then 0x0E else 3), s)
    | none =>
      match s.emPlace r t (imageEntry img) true with
      | (some l, s) => (⟨1, 0, some (locW1 l), none⟩, s.tableCommit)
      | (none, s) => (dmaStatus 4, (s.raise O.TABLE_FLAGS 2).raise O.TABLE_FLAGS 3)

/-- UPDATE (R350, R340): RESULT and STATIC are replaced, LEARNED is cleared, HIT and MARK stay. The image is held to R327 and R329. -/
def State.dmaUpdate (s : State) (r : Nat) : DmaResult × State :=
  let img := ofLe (s.pantryRead (s.dmaAddr r + 16) 16)
  s.keyOp r img (s.dmaWord r 0) (imageOk img) true fun l =>
    (dmaStatus 1, (s.setEm l
      (setBit (setBit (emSetResult (s.em l) (emResult img)) 125 (bit img 125)) 124 false)).tableCommit)

/-- DELETE (R350). -/
def State.dmaDelete (s : State) (r : Nat) : DmaResult × State :=
  let img := ofLe (s.pantryRead (s.dmaAddr r + 16) 16)
  s.keyOp r img (s.dmaWord r 0) true true fun l => (dmaStatus 1, ((s.setEm l 0).drainBack l).tableCommit)

/-- DEL_IF_CLEAR (R350): only if HIT is 0. -/
def State.dmaDelIfClear (s : State) (r : Nat) : DmaResult × State :=
  let img := ofLe (s.pantryRead (s.dmaAddr r + 16) 16)
  s.keyOp r img (s.dmaWord r 0) true true fun l =>
    if bit (s.em l) 126 then (dmaStatus 5, s) else (dmaStatus 1, ((s.setEm l 0).drainBack l).tableCommit)

/-- BUF is 16-byte aligned and holds `n` octets within the Pantry (R349, R351). -/
def bufOk (buf n : Nat) : Bool := buf % 16 == 0 && decide (buf + n ≤ pantrySize)

/-- The area and index of W1 are within their ranges (R349). -/
def w1Ok (w1 : Nat) : Bool :=
  match bits w1 17 16 with
  | 2 => bits w1 14 4 == 0
  | 3 => !bit w1 14
  | _ => true

/-- READ_BUCKET (R350): four images in slot order, as they stood before TEST_CLEAR. -/
def State.dmaReadBucket (s : State) (r : Nat) : DmaResult × State :=
  let w0 := s.dmaWord r 0
  let w1 := s.dmaWord r 1
  let buf := s.dmaWord r 2
  let area := bits w1 17 16
  let ls := slotsOf area (bits w1 14 0)
  if area = 3 || !w1Ok w1 || !bufOk buf 64 then (dmaStatus 0x0B, s) else
  let t := s.locTest r (emLoc area (bits w1 14 0) 0) (bit w0 29) (bit w0 28)
  if t ≠ 0 then (dmaStatus t, s)
  else if ls.any fun l => s.tables.emBad.contains l then (dmaStatus 0x0E, s) else
  let valid := (ls.filter fun l => bit (s.em l) 127).length
  let s1 := s.pantryWrite buf (ls.flatMap fun l => leBytes 16 (emImage (s.em l)))
  let s1 := if bit w0 28 then
      forEach ls (fun s l => if bit (s.em l) 127 then s.setEm l (setBit (setBit (s.em l) 126 false) 121 (bit w0 27)) else s) s1
    else s1
  (⟨1, valid, none, none⟩, s1)

/-- The bucket that W1 of LOCK and UNLOCK names; `none` for another area. -/
def w1Bucket (w1 : Nat) : Option Nat := if bits w1 17 16 < 2 then some (32768 * bits w1 17 16 + bits w1 14 0) else none

/-- Removes the record of an expiry (R354). -/
def State.forgetExpiry (s : State) (r b : Nat) : State :=
  s.modTables fun t => { t with expired := t.expired.filter (· != (r, b)) }

/-- LOCK (R354). -/
def State.dmaLock (s : State) (r : Nat) : DmaResult × State :=
  match w1Bucket (s.dmaWord r 1) with
  | none => (dmaStatus 0x0B, s)
  | some b =>
    let s := s.forgetExpiry r b
    match s.lockOf b with
    | some q =>
      if q = r then (dmaStatus 1, s.modTables fun t =>
        { t with locks := t.locks.map fun l => if l.bucket = b then { l with at_ := s.hearth.cycles } else l })
      else (dmaStatus 6, s)
    | none =>
      if 16 ≤ s.locksOf r then (dmaStatus 9, s)
      else (dmaStatus 1, s.modTables fun t => { t with locks := t.locks ++ [⟨b, r, s.hearth.cycles⟩] })

/-- UNLOCK (R354). -/
def State.dmaUnlock (s : State) (r : Nat) : DmaResult × State :=
  match w1Bucket (s.dmaWord r 1) with
  | none => (dmaStatus 0x0B, s)
  | some b =>
    if s.tables.expired.contains (r, b) then (dmaStatus 7, s.forgetExpiry r b)
    else if s.lockOf b = some r then
      (dmaStatus 1, s.modTables fun t => { t with locks := t.locks.filter fun l => l.bucket != b })
    else (dmaStatus 8, s)

/-- FENCE: COMMIT only (R350). -/
def State.dmaFence (s : State) (_ : Nat) : DmaResult × State := (dmaStatus 1, s)

/-- One row of the TCAM copy of lookup pipeline `k` (R254, R345). -/
def State.tcamCopy (s : State) (k i : Nat) : Prefix := Tab.get s.tables.tcam Dflt.pfx (16384 * k + i)

/-- One row of the TCAM as software reads it: copy 0 (R350). -/
def State.tcam (s : State) (i : Nat) : Prefix := s.tcamCopy 0 i

/-- Writes one row in all four copies, in one commit cycle (R347). -/
def State.setTcam (s : State) (i : Nat) (p : Prefix) : State :=
  s.modTables fun t => { t with tcam := [0, 1, 2, 3].foldl (fun m k => Tab.set m Dflt.pfx (16384 * k + i) p) t.tcam }

/-- The prefix length of a mask: its set bits among [151:120] (R345). -/
def maskLen (m : Nat) : Nat := popCount (bits m 151 120) 32

/-- VALUE and MASK are admissible (R345). -/
def tcamOk (value mask : Nat) : Bool :=
  (bits mask 159 152 == 0 || bits mask 159 152 == 255) &&
    bits mask 151 120 == (2 ^ maskLen mask - 1) * 2 ^ (32 - maskLen mask) &&
    bits mask 119 0 == 0 && bits value 119 0 == 0 && (value &&& mask) == value

/-- Zk of TCAM_ZONE (R346). -/
def zoneAt (l : Bytes) (k : Nat) : Nat := ofBe ((l.drop (2 * k)).take 2)

/-- Entry `i` lies in the zone of prefix length `len` (R346). -/
def inZone (l : Bytes) (i len : Nat) : Bool :=
  let k := 32 - len
  decide (zoneAt l k ≤ i) && (decide (k = 32) || decide (i < zoneAt l (k + 1)))

/-- TCAM_WRITE (R345 to R347). -/
def State.dmaTcamWrite (s : State) (r : Nat) : DmaResult × State :=
  let w1 := s.dmaWord r 1
  let buf := s.dmaWord r 2
  let img := s.pantryRead buf 48
  let value := ofLe (img.take 20)
  let mask := ofLe ((img.drop 20).take 20)
  let res := ofLe ((img.drop 40).take 2)
  let flag := ofLe ((img.drop 42).take 1)
  if bits w1 17 16 ≠ 3 || !w1Ok w1 || !bufOk buf 48 || !tcamOk value mask || !resultOk 3 res || decide (2 ≤ flag) ||
      ofLe (img.drop 43) != 0 then (dmaStatus 0x0B, s)
  else if !inZone (s.blob O.TCAM_ZONE).bytes (bits w1 13 0) (maskLen mask) then (dmaStatus 0x0A, s)
  else (dmaStatus 1, (s.setTcam (bits w1 13 0) ⟨value, mask, res, flag == 1⟩).tableCommit)

/-- TCAM_READ: the image from copy 0 (R350). -/
def State.dmaTcamRead (s : State) (r : Nat) : DmaResult × State :=
  let w1 := s.dmaWord r 1
  let buf := s.dmaWord r 2
  if bits w1 17 16 ≠ 3 || !w1Ok w1 || !bufOk buf 48 then (dmaStatus 0x0B, s) else
  let p := s.tcam (bits w1 13 0)
  (dmaStatus 1, s.pantryWrite buf (leBytes 20 p.value ++ leBytes 20 p.mask ++ leBytes 2 p.result ++ leBytes 1 (b2n p.valid) ++
    [0, 0, 0, 0, 0]))

/-- TCAM_CLEAR: VALID := 0 in all four copies (R350). -/
def State.dmaTcamClear (s : State) (r : Nat) : DmaResult × State :=
  let w1 := s.dmaWord r 1
  if bits w1 17 16 ≠ 3 || !w1Ok w1 then (dmaStatus 0x0B, s) else
  (dmaStatus 1, (s.setTcam (bits w1 13 0) { s.tcam (bits w1 13 0) with valid := false }).tableCommit)

/-- The operation that an OP code names (R350); an unknown one gives BAD_OP. -/
def State.dmaOp (s : State) (r op : Nat) : DmaResult × State :=
  match op with
  | 0x01 => s.dmaLookup r
  | 0x02 => s.dmaInsert r
  | 0x03 => s.dmaUpdate r
  | 0x04 => s.dmaDelete r
  | 0x05 => s.dmaDelIfClear r
  | 0x06 => s.dmaReadBucket r
  | 0x07 => s.dmaLock r
  | 0x08 => s.dmaUnlock r
  | 0x09 => s.dmaFence r
  | 0x10 => s.dmaTcamWrite r
  | 0x11 => s.dmaTcamRead r
  | 0x12 => s.dmaTcamClear r
  | _ => (dmaStatus 0x0C, s)

/-- The known operations. -/
def dmaOps : List Nat := [1, 2, 3, 4, 5, 6, 7, 8, 9, 0x10, 0x11, 0x12]

/-- Performs the operation at the tail of a ring. -/
def State.dmaRun (s : State) (r : Nat) (late : Bool) : State :=
  let p := s.dmaOp r (bits (s.dmaWord r 0) 23 16)
  p.2.dmaFinish r p.1 late

/-- The update unit serves the ring, whose next operation is one that `sel` admits; otherwise nothing happens. -/
def State.dmaServe (s : State) (r : Nat) (sel : Nat → Bool) : State :=
  if s.dmaReady r && sel (bits (s.dmaWord r 0) 23 16) then s.dmaRun r false else s

/-- The DMA operation LOOKUP. -/
def execLookup (r : Fin 4) (s : State) : Host.Outcome State Fault Refusal := runKeep s (·.dmaServe r (· == 0x01))
/-- The DMA operation INSERT. -/
def execInsert (r : Fin 4) (s : State) : Host.Outcome State Fault Refusal := runKeep s (·.dmaServe r (· == 0x02))
/-- The DMA operation UPDATE. -/
def execUpdate (r : Fin 4) (s : State) : Host.Outcome State Fault Refusal := runKeep s (·.dmaServe r (· == 0x03))
/-- The DMA operation DELETE. -/
def execDelete (r : Fin 4) (s : State) : Host.Outcome State Fault Refusal := runKeep s (·.dmaServe r (· == 0x04))
/-- The DMA operation DEL_IF_CLEAR. -/
def execDelIfClear (r : Fin 4) (s : State) : Host.Outcome State Fault Refusal := runKeep s (·.dmaServe r (· == 0x05))
/-- The DMA operation READ_BUCKET. -/
def execReadBucket (r : Fin 4) (s : State) : Host.Outcome State Fault Refusal := runKeep s (·.dmaServe r (· == 0x06))
/-- The DMA operation LOCK. -/
def execLock (r : Fin 4) (s : State) : Host.Outcome State Fault Refusal := runKeep s (·.dmaServe r (· == 0x07))
/-- The DMA operation UNLOCK. -/
def execUnlock (r : Fin 4) (s : State) : Host.Outcome State Fault Refusal := runKeep s (·.dmaServe r (· == 0x08))
/-- The DMA operation FENCE. -/
def execFence (r : Fin 4) (s : State) : Host.Outcome State Fault Refusal := runKeep s (·.dmaServe r (· == 0x09))
/-- The DMA operation TCAM_WRITE. -/
def execTcamWrite (r : Fin 4) (s : State) : Host.Outcome State Fault Refusal := runKeep s (·.dmaServe r (· == 0x10))
/-- The DMA operation TCAM_READ. -/
def execTcamRead (r : Fin 4) (s : State) : Host.Outcome State Fault Refusal := runKeep s (·.dmaServe r (· == 0x11))
/-- The DMA operation TCAM_CLEAR. -/
def execTcamClear (r : Fin 4) (s : State) : Host.Outcome State Fault Refusal := runKeep s (·.dmaServe r (· == 0x12))
/-- An operation whose OP is unknown: BAD_OP (R351). -/
def execUnknownOp (r : Fin 4) (s : State) : Host.Outcome State Fault Refusal := runKeep s (·.dmaServe r (!dmaOps.contains ·))

/-- A ring starts or stops running (R362). -/
def State.setRunning (s : State) (r : Nat) (v : Bool) : State :=
  s.setObj O.TDMA_STATUS (setBit (s.obj O.TDMA_STATUS (r + 1)) 9 v) (r + 1)

/-- TDMA_CMD START (R353, R362). -/
def State.tdmaStart (s : State) (r : Nat) : State := (s.cmdStatus O.TDMA_STATUS (r + 1) 1 2).setRunning r true
/-- TDMA_CMD STOP: no operation is in progress between commands, so the ring stops at once (log entry 11). -/
def State.tdmaStop (s : State) (r : Nat) : State := (s.cmdStatus O.TDMA_STATUS (r + 1) 2 2).setRunning r false
/-- TDMA_CMD ABORT (R353): the operation at the tail is the one in progress. -/
def State.tdmaAbort (s : State) (r : Nat) (coincident : Bool) : State :=
  if s.dmaReady r then
    if coincident then
      ((s.dmaRun r true).abortLate O.TDMA_STATUS (r + 1) 3 O.TABLE_FLAGS 5).setRunning r false
    else ((s.dmaFinish r (dmaStatus 0x0D) false).cmdStatus O.TDMA_STATUS (r + 1) 3 3).setRunning r false
  else (s.cmdStatus O.TDMA_STATUS (r + 1) 3 2).setRunning r false
/-- TDMA_CMD RESET (R353): refused unless the ring is stopped. -/
def State.tdmaReset (s : State) (r : Nat) : State :=
  if bit (s.obj O.TDMA_STATUS (r + 1)) 9 then s.cmdStatus O.TDMA_STATUS (r + 1) 4 4
  else (((s.cmdStatus O.TDMA_STATUS (r + 1) 4 2).setObj O.TDMA_HEAD 0 (r + 1)).setObj O.TDMA_TAIL 0 (r + 1)).modTables
    fun t => { t with locks := t.locks.filter fun l => l.ring != r }

/-- A write of TDMA_HEAD (R348). -/
def execTdmaHeadWrite (r : Fin 4) (v : BitVec 16) (s : State) : Host.Outcome State Fault Refusal :=
  runKeep s (·.setObj O.TDMA_HEAD v.toNat (r + 1))
/-- TDMA_CMD START. -/
def execTdmaStart (r : Fin 4) (s : State) : Host.Outcome State Fault Refusal := runKeep s (·.tdmaStart r)
/-- TDMA_CMD STOP. -/
def execTdmaStop (r : Fin 4) (s : State) : Host.Outcome State Fault Refusal := runKeep s (·.tdmaStop r)
/-- TDMA_CMD ABORT. -/
def execTdmaAbort (r : Fin 4) (coincident : Bool) (s : State) : Host.Outcome State Fault Refusal :=
  runKeep s (·.tdmaAbort r coincident)
/-- TDMA_CMD RESET. -/
def execTdmaReset (r : Fin 4) (s : State) : Host.Outcome State Fault Refusal := runKeep s (·.tdmaReset r)

/-- LOCK_TIMEOUT has passed over a lock that the ring holds (R354). -/
def execLockExpire (r : Fin 4) (sub1 : Bool) (bucket : BitVec 15) (s : State) : Host.Outcome State Fault Refusal :=
  runKeep s fun s =>
    let b := 32768 * b2n sub1 + bucket.toNat
    if s.tables.locks.any fun l => l.bucket == b && l.ring == r.val && s.elapsed l.at_ (s.obj O.LOCK_TIMEOUT * 1000000) then
      (s.modTables fun t => { t with locks := t.locks.filter (fun l => l.bucket != b),
                                     expired := if t.expired.contains (r.val, b) then t.expired else (r.val, b) :: t.expired }
      ).raise O.TABLE_FLAGS 4
    else s

/-- A learn request enters the queue of 512 (R339). One of a key that waits already takes its place, with the newer port (log entry 60). -/
def State.learnRequest (s : State) (key port : Nat) : State :=
  if s.tables.learnQ.any fun q => q.key == key then
    s.modTables fun t => { t with learnQ := t.learnQ.map fun q => if q.key = key then ⟨key, port⟩ else q }
  else if 512 ≤ s.tables.learnQ.length then s.count O.LEARN_OVERFLOW
  else s.modTables fun t => { t with learnQ := t.learnQ ++ [⟨key, port⟩] }

/-- The update unit serves one learn request (R338, R339). One that finds no place counts in LEARN_BLOCKED where a candidate bucket is
locked (log entry 60). -/
def State.learnOne (s : State) (q : LearnReq) : State :=
  match s.emLookup 0 q.key with
  | some l =>
    let e := s.em l
    if emResult e = q.port then s
    else if bit e 125 then s.count O.LEARN_BLOCKED
    else if bits (emResult e) 15 14 ≠ 0 then s
    else if (match locBucket l with | some b => (s.lockOf b).isSome | none => false) then s.count O.LEARN_BLOCKED
    else (s.setEm l (setBit (emSetResult e q.port) 124 true)).count O.LEARN_MOVE
  | none =>
    if s.obj O.LEARN_MAX ≤ s.emLearned then s.count O.LEARN_FULL else
    let t := s.placeSet
    let locked := (s.lockOf (s.bucketOf t 0 0 q.key)).isSome || (s.lockOf (32768 + s.bucketOf t 1 0 q.key)).isSome
    match s.emPlace 4 t (setBit (setBit (emMake 0 q.key q.port) 126 true) 124 true) false with
    | (some _, s) => s.count O.LEARN_NEW
    | (none, s) => s.count (if locked then O.LEARN_BLOCKED else O.LEARN_FULL)

/-- The update unit's turn for learning: the oldest request is served. -/
def execLearn (s : State) : Host.Outcome State Fault Refusal :=
  runKeep s fun s =>
    match s.tables.learnQ with
    | [] => s
    | q :: r => (s.modTables fun t => { t with learnQ := r }).learnOne q

/-- Both halves of a seed set differ (R331). -/
def State.seedsOk (s : State) (set : Nat) : Bool := s.seed set 0 != s.seed set 1

/-- EM_CMD MIGRATE_TO_A (0) or MIGRATE_TO_B (1) (R341, R343). In DUAL the same target resumes the walk, the other restarts
it. A command while STATUS is BUSY is refused. -/
def State.migrate (s : State) (t : Nat) : State :=
  if s.status O.EM_STATUS = 1 then s
  else if s.obj O.EM_STATE = t then s.cmdStatus O.EM_STATUS 0 (t + 1) 4
  else if !s.seedsOk t then s.cmdStatus O.EM_STATUS 0 (t + 1) 4 2
  else
    let resume := s.obj O.EM_STATE = 2 + t
    ((s.cmdStatus O.EM_STATUS 0 (t + 1) 1).setObj O.EM_STATE (2 + t)).modTables fun x =>
      { x with walk := if resume then x.walk else 0, skipped := if resume then x.skipped else [], rehash := false }

/-- The last entry has moved: the target becomes active (R341). E9 clears EM_REHASH_REQ of a migration it started (R344). -/
def State.migrateEnd (s : State) : State :=
  let s1 := (s.endStatus O.EM_STATUS 0 2).setObj O.EM_STATE s.placeSet
  let s1 := if s.tables.rehash then s1.clear O.TABLE_FLAGS 4 else s1
  s1.modTables fun t => { t with walk := 0, skipped := [], rehash := false }

/-- Moves the entries of some slots to the target set; `false` where one finds no room (R341, R343). One that holds an uncorrectable
error is left to the scrubber (R358). -/
def State.migrateSlots (s : State) : List Nat → Bool × State
  | [] => (true, s)
  | l :: ls =>
    let e := s.em l
    if bit e 127 && emGen e != s.placeSet && !s.tables.emBad.contains l then
      match s.emPlace 4 s.placeSet e true with
      | (some d, s1) => (if d = l then s1 else s1.setEm l 0).migrateSlots ls
      | (none, s1) => (false, s1)
    else s.migrateSlots ls

/-- The walk fails for want of room (R343). -/
def State.migrateFail (s : State) : State :=
  ((s.endStatus O.EM_STATUS 0 5 1).raise O.TABLE_FLAGS 2).raise O.TABLE_FLAGS 3

/-- One turn of the walk: a bucket or a stash group, and after the walk a bucket that was skipped (R341). -/
def State.migrateStep (s : State) : State :=
  if s.status O.EM_STATUS ≠ 1 then s else
  let w := s.tables.walk
  let back := 65552 ≤ w
  let pos := if back then s.tables.skipped.headD 65552 else w
  let area := pos / 32768
  let idx := if pos < 65536 then pos % 32768 else pos - 65536
  let locked := pos < 65536 && (s.lockOf pos).isSome
  let (ok, s) :=
    if locked || 65552 ≤ pos then (true, s) else s.migrateSlots (slotsOf (min area 2) idx)
  if !ok then s.migrateFail else
  let s := s.modTables fun t =>
    { t with walk := if back then w else w + 1,
             skipped := if locked then (if back then t.skipped.tail ++ [pos] else t.skipped ++ [pos])
               else if back then t.skipped.tail else t.skipped }
  if s.migrateLeft = 0 then s.migrateEnd else s

/-- EM_CMD ABORT (R343): it loses only where the walk's last move commits in its own cycle. -/
def State.emAbort (s : State) (coincident : Bool) : State :=
  if s.status O.EM_STATUS ≠ 1 then s.cmdStatus O.EM_STATUS 0 3 4
  else
    let s' := s.migrateStep
    if coincident && decide (s'.status O.EM_STATUS = 2) then s'.abortLate O.EM_STATUS 0 3 O.TABLE_FLAGS 5
    else s.cmdStatus O.EM_STATUS 0 3 3

/-- EM_CMD MIGRATE_TO_A. -/
def execMigrateToA (s : State) : Host.Outcome State Fault Refusal := runKeep s (·.migrate 0)
/-- EM_CMD MIGRATE_TO_B. -/
def execMigrateToB (s : State) : Host.Outcome State Fault Refusal := runKeep s (·.migrate 1)
/-- EM_CMD ABORT. -/
def execEmAbort (coincident : Bool) (s : State) : Host.Outcome State Fault Refusal := runKeep s (·.emAbort coincident)
/-- The migration walk's turn. -/
def execMigrationStep (s : State) : Host.Outcome State Fault Refusal := runKeep s (·.migrateStep)

/-- On EM_REHASH_REQ with EM_AUTO_REHASH set, E9 writes seeds of its own choosing, free values with unequal halves, to the
inactive set and starts the migration (R344). After a FAILED migration it does nothing. -/
def execAutoRehash (s : State) : Host.Outcome State Fault Refusal :=
  runKeep s fun s =>
    if s.engUp 9 ∧ s.obj O.EM_AUTO_REHASH = 1 ∧ bit (s.obj O.TABLE_FLAGS) 2 ∧ s.obj O.EM_STATE < 2 ∧ s.status O.EM_STATUS ≠ 1 ∧
        s.status O.EM_STATUS ≠ 5 then
      let t := 1 - s.obj O.EM_STATE
      let v := (Config.lineBits s.free).toNat
      let v := if bits v 63 32 = bits v 31 0 then v ^^^ 1 else v
      let s := (s.fresh.setObj (if t = 0 then O.EM_SEED_A else O.EM_SEED_B) v).migrate t
      s.modTables fun x => { x with rehash := true }
    else s

/-- The scrubber visits one entry (R358). With the finding `struck` an entry takes an uncorrectable error that the visit to come will
find (log entry 61). -/
def execEmScrub (area : BitVec 2) (index : BitVec 15) (slot : BitVec 2) (finding : ScrubFinding) (s : State) :
    Host.Outcome State Fault Refusal :=
  runKeep s fun s =>
    let l := emLoc area.toNat index.toNat slot.toNat
    let bad := s.tables.emBad.contains l || decide (finding = .uncorrectable)
    if finding = .struck then
      s.modTables fun t => if bit (s.em l) 127 && !t.emBad.contains l then { t with emBad := l :: t.emBad } else t
    else if bad then
      ((((s.setEm l 0).modTables fun t => { t with emBad := t.emBad.filter (· != l) }).raise O.TABLE_FLAGS 6).count
        O.EM_ECC_LOSS).setObj O.EM_ECC_LAST (locW1 l)
    else if finding = .corrected then s.count O.EM_ECC_CORR
    else s

/-- The content that most of some copies hold; on a tie that of the first (R358, log entry 64). -/
def mostHeld (l : List Prefix) : Option Prefix := l.find? fun p => l.all fun q => decide (l.count q ≤ l.count p)

/-- The scrubber compares the four copies of a row (R358): those that fail parity are set aside, and what most of the others hold goes
to all four. Where all four fail parity none is left, and the row's content is a free value (log entry 3). -/
def execTcamScrub (row : BitVec 14) (badParity : BitVec 4) (s : State) : Host.Outcome State Fault Refusal :=
  runKeep s fun s =>
    let good := (([0, 1, 2, 3].filter fun k => !badParity.getLsbD k)).map fun k => s.tcamCopy k row.toNat
    if badParity = 0 ∧ good.all (· == s.tcam row.toNat) then s else
    let s := match mostHeld good with
      | some p => s.setTcam row.toNat p
      | none =>
        let a := (Config.lineBits s.free).toNat
        let b := (Config.lineBits (s.free + 1)).toNat
        s.fresh.fresh.setTcam row.toNat ⟨a * 2 ^ 96, b * 2 ^ 96, bits b 15 0, bit a 0⟩
    (s.count O.TCAM_REPAIR).raise O.TABLE_FLAGS 7

/-- A write of TCAM_ZONE is admissible (R346). -/
def State.zoneOk (s : State) (l : Bytes) : Bool :=
  zoneAt l 0 == 0 && (List.range 32).all (fun k => decide (zoneAt l k ≤ zoneAt l (k + 1))) &&
    s.tables.tcam.all fun e => !e.2.valid || inZone l (e.1 % 16384) (maskLen e.2.mask)

/-- The four table objects that the update unit writes (R334), by index. -/
def tableObj (index : Nat) : Option Obj :=
  if index = O.NEXTHOP.index then some O.NEXTHOP
  else if index = O.MC_GROUP.index then some O.MC_GROUP
  else if index = O.VLAN_MEMBERS.index then some O.VLAN_MEMBERS
  else if index = O.TCAM_ZONE.index then some O.TCAM_ZONE
  else none

/-- A value of a table object is admissible: its whole length, and TCAM_ZONE by R346. -/
def State.tableBlobOk (s : State) (o : Obj) (l : Bytes) : Bool :=
  l.length == o.maxLen && (o.index != O.TCAM_ZONE.index || s.zoneOk l)

/-- A write of a table object takes effect whole and advances TABLE_COMMIT (R337). -/
def State.tableBlob (s : State) (o : Obj) (l : Bytes) : State := (s.setBlob o (Blob.of l)).tableCommit

/-- A write of NEXTHOP, MC_GROUP, VLAN_MEMBERS or TCAM_ZONE. -/
def execTableBlobWrite (index : BitVec 16) (value : Bytes) (s : State) : Host.Outcome State Fault Refusal :=
  runKeep s fun s =>
    match tableObj index.toNat with
    | none => s
    | some o => if s.tableBlobOk o value then s.tableBlob o value else s

/-- TABLE_FLAGS as read: LEARN_AT_MAX and DUAL are live (R360). -/
def State.tableFlags (s : State) : Nat :=
  s.obj O.TABLE_FLAGS + 2 * b2n (decide (s.obj O.LEARN_MAX ≤ s.emLearned)) + b2n s.dual

/-- The longest-prefix search in the TCAM copy of pipeline `k`: the lowest-numbered matching entry wins (R254, R345, R347). -/
def State.tcamLookup (s : State) (k vrf dip : Nat) : Option Nat :=
  let key := vrf % 256 * 2 ^ 152 + dip % 2 ^ 32 * 2 ^ 120
  (s.tables.tcam.find? fun e => e.1 / 16384 == k && e.2.valid && (key &&& e.2.mask) == (e.2.value &&& e.2.mask)).map fun e => e.2.result

end Sys2Proof.Machine
end

