-- ==== Sys2Proof/Machine/Cellar.lean ====
section
/-! DEFINITION. The Cellar (R254 to R295): parsing, the forwarding decision, admission, credits and priority flow control,
the egress scheduler, cut-through and tail marks, timeouts, replication, residence time, punts and injections. -/

namespace Sys2Proof.Machine

/-- `n` octets at offset `i` as a big-endian number, 0 where they are absent (R256). -/
def beAt (b : Bytes) (i n : Nat) : Nat := if i + n ≤ b.length then ofBe ((b.drop i).take n) else 0

/-- Replaces octets from offset `i` on. -/
def patch (b : Bytes) (i : Nat) (v : Bytes) : Bytes :=
  if i + v.length ≤ b.length then b.take i ++ v ++ b.drop (i + v.length) else b

/-- A VLAN TPID stands at offset `i` (R256). -/
def isTag (b : Bytes) (i : Nat) : Bool := beAt b i 2 == 0x8100 || beAt b i 2 == 0x88A8

/-- The offset of the EtherType, after at most two tags. -/
def etOff (b : Bytes) : Nat := if isTag b 12 then (if isTag b 16 then 20 else 16) else 12

/-- The EtherType. -/
def etherType (b : Bytes) : Nat := beAt b (etOff b) 2

/-- The offset of the UDP header, with the transport (R256): 1 IPv4 with any IHL, 2 IPv6 without extension headers. -/
def udpOff (b : Bytes) : Option (Nat × Nat) :=
  let ip := etOff b + 2
  if etherType b = 0x0800 ∧ beAt b (ip + 9) 1 = 17 then some (ip + beAt b ip 1 % 16 * 4, 1)
  else if etherType b = 0x86DD ∧ beAt b (ip + 6) 1 = 17 then some (ip + 40, 2)
  else none

/-- A PTP message: the offset of its header, its transport (R267) and whether it can be an event message (R184, R256). -/
def ptpAt (b : Bytes) : Option (Nat × Nat × Bool) :=
  if etherType b = 0x88F7 then some (etOff b + 2, 0, true)
  else match udpOff b with
    | some (u, x) =>
      if beAt b (u + 2) 2 = 319 then some (u + 8, x, true)
      else if beAt b (u + 2) 2 = 320 then some (u + 8, x, false) else none
    | none => none

/-- A management or timing frame (R259), injections apart. -/
def isMgmt (b : Bytes) : Bool := etherType b == 0x88B5 || (ptpAt b).isSome

/-- A PTP event message of version 2 whose correctionField the parser can reach: its transport and the field's offset
(R284). -/
def eventAt (b : Bytes) : Option (Nat × Nat) :=
  match ptpAt b with
  | some (o, x, true) =>
    if beAt b o 1 % 16 ≤ 3 ∧ beAt b (o + 1) 1 % 16 = 2 ∧ o + 16 ≤ b.length then some (x, o + 8) else none
  | _ => none

/-- The first header behind IPv6 extension headers, at most four of them. -/
def skipExt (b : Bytes) : Nat → Nat → Nat → Option Nat
  | 0, _, _ => none
  | f + 1, nh, o =>
    if nh = 17 then some o
    else if nh = 0 ∨ nh = 43 ∨ nh = 60 then skipExt b f (beAt b o 1) (o + 8 * (beAt b (o + 1) 1 + 1))
    else if nh = 44 then skipExt b f (beAt b o 1) (o + 8) else none

/-- An event message that only IPv6 extension headers or parse depth keep from insertion (R284). -/
def eventHidden (b : Bytes) : Bool :=
  let ip := etOff b + 2
  match if etherType b = 0x86DD then skipExt b 4 (beAt b (ip + 6) 1) (ip + 40) else (udpOff b).map (·.1) with
  | some u => beAt b (u + 2) 2 == 319 && (eventAt b).isNone &&
      (decide (b.length < u + 24) || (decide (beAt b (u + 8) 1 % 16 ≤ 3) && beAt b (u + 9) 1 % 16 == 2))
  | none => false

/-- A frame whose lookup is under way: its content, where it came in, what R258 to R260 have settled, and the native credit that its
cells have taken (R271). -/
structure Look where
  b      : Bytes      -- what the parser sees: its first 128 octets (R256)
  octets : Bytes
  inPort : Nat
  cls    : Nat
  mgmt   : Bool
  noEdit : Bool
  vid    : Nat
  tIn    : Time56
  bad    : Bool
  ctOut  : Time56
  credit : Option (Nat × Nat × Nat)
  deriving DecidableEq, Repr

/-- Its length in frame bytes without FCS. -/
def Look.len (l : Look) : Nat := l.octets.length

/-- The lookup pipeline of a port (R254): that of its two lane groups, and pipeline 0 for the house port. -/
def pipelineOf (p : Nat) : Nat := if p = housePort then 0 else groupOf p / 2

/-- LOOKUP cycles that have passed, K_C / 4 for each F0 cycle (R197, R254). -/
def State.lookupCycle (s : State) : Nat :=
  s.hearth.cycles * (3800000000000 / max 1 s.clk.f0) / (4 * max 1 s.hearthM)

/-- The headers that wait in a pipeline's FIFO, oldest first: one has left for its lookup in each LOOKUP cycle since the last arrival
(R254, R255). -/
def State.fifoNow (s : State) (k : Nat) : List Bool :=
  (Tab.get s.cellar.fifo [] k).drop (s.lookupCycle - Tab.get s.cellar.fifoAt 0 k)

/-- The FIFO has an entry for a frame (R255): 64 in all, of which 8 are kept for management and timing frames. -/
def State.fifoRoom (s : State) (k : Nat) (mgmt : Bool) : Bool :=
  let q := s.fifoNow k
  let m := q.count true
  let n := q.count false
  if mgmt then decide (m + n < 64) else decide (n + (m - 8) < 56)

/-- A parsed header enters the FIFO of its pipeline. -/
def State.fifoPut (s : State) (k : Nat) (mgmt : Bool) : State :=
  s.modCellar fun c =>
    { c with fifo := Tab.set c.fifo [] k (s.fifoNow k ++ [mgmt]), fifoAt := Tab.set c.fifoAt 0 k (max s.lookupCycle (Tab.get c.fifoAt 0 k)) }

/-- The cells of a frame (R266). -/
def cellsOf (len : Nat) : Nat := (len + 255) / 256

/-- One frame held. -/
def State.frame (s : State) (f : Nat) : Option Stored := Tab.get s.cellar.frames none f

/-- Cells of a share in use: the physical cells of a frame are taken once (R269). -/
def State.shareUsed (s : State) (x : Share) : Nat :=
  (s.cellar.frames.map fun f => match f.2 with | some g => if g.share = x then cellsOf g.octets.length else 0 | none => 0).sum

/-- The lossless allocation L (R268). -/
def State.lossless (s : State) : Nat :=
  ((List.range 48).map fun p =>
    if s.native p then s.obj O.NATIVE_CREDIT (p + 1) * popCount (s.obj O.NATIVE_LOSSLESS (p + 1)) 7
    else (s.obj O.PFC_XOFF (p + 1) + s.obj O.PFC_HEADROOM (p + 1)) * popCount (s.obj O.PFC_ENABLE (p + 1)) 7).sum

/-- The shared pool S (R268). -/
def State.sharedPool (s : State) : Nat := 196608 - s.obj O.CELLS_RETIRED - 1024 - 784 - s.lossless

/-- The cells of a share (R268). -/
def State.shareSize (s : State) : Share → Nat
  | .lossless => s.lossless | .guarantee => 784 | .shared => s.sharedPool | .reserve => 1024

/-- Free cells of a share; of the shared pool, F (R269). -/
def State.shareFree (s : State) (x : Share) : Nat := s.shareSize x - s.shareUsed x

/-- Cells of a copy. -/
def State.copyCells (s : State) (d : Desc) : Nat := match s.frame d.fid with | some f => cellsOf f.octets.length | none => 0

/-- The cells of the copies that a test selects. -/
def State.cellsWhere (s : State) (f : Desc → Bool) : Nat := ((s.cellar.copies.filter f).map s.copyCells).sum

/-- Cells held for (ingress port, class) (R271, R272). -/
def State.heldCells (s : State) (p q : Nat) : Nat :=
  (s.cellar.frames.map fun f => match f.2 with
    | some g => if g.inPort = p ∧ g.cls = q then cellsOf g.octets.length else 0 | none => 0).sum

/-- A port can send and receive: a native port in service, an Ethernet port with its PCS up, the house port always. -/
def State.portUp (s : State) (p : Nat) : Bool := p == housePort || (decide (p < 48) && (s.lport p).up)

/-- The class is lossless on an ingress port (R271, R272). -/
def State.losslessIn (s : State) (p q : Nat) : Bool :=
  decide (p < 48) && bit (if s.native p then s.obj O.NATIVE_LOSSLESS (p + 1) else s.obj O.PFC_ENABLE (p + 1)) q

/-- The governor limits best-effort admission (R273, R522). -/
def State.govLimiting (s : State) : Bool := s.power.loopOn && decide (s.obj O.GOV_ADMIT < 100)

/-- The period's allowance of best-effort frames is used up (R273, R522). -/
def State.govFull (s : State) : Bool := s.govLimiting && decide (s.cellar.ref * s.obj O.GOV_ADMIT / 100 ≤ s.cellar.passed)

/-- The priorities that correspond at ingress to a class (R272). -/
def State.pfcPriorities (s : State) (p q : Nat) : Nat :=
  ((List.range 8).map fun v => if bits (s.obj O.PORT_PCP_MAP (p + 1)) (3 * v + 2) (3 * v) = q then 2 ^ v else 0).sum

/-- A PFC frame of IEEE 802.1Qbb with one pause value for a set of priorities (R272). -/
def pfcFrame (mac prios quanta : Nat) : Bytes :=
  beBytes 6 0x0180C2000001 ++ beBytes 6 mac ++ beBytes 2 0x8808 ++ beBytes 2 0x0101 ++ beBytes 2 prios ++
    ((List.range 8).flatMap fun v => beBytes 2 (if bit prios v then quanta else 0)) ++ List.replicate 26 0

/-- The port sends a PFC frame for the priorities of a class (R272). -/
def State.sendPfc (s : State) (p q quanta : Nat) : State :=
  s.emit (.frame p (pfcFrame (s.obj O.MAC_ACT) (s.pfcPriorities p q) quanta) false)

/-- Sets or clears the pause that a port holds on its peer for a class. -/
def State.setXoff (s : State) (p q : Nat) (v : Bool) : State :=
  s.modCellar fun c => { c with xoff := Tab.set c.xoff 0 p (setBit (Tab.get c.xoff 0 p) q v) }

/-- PFC after cells have been taken for (port, class): above PFC_XOFF the pause is sent (R272). -/
def State.pfcRise (s : State) (p q : Nat) : State :=
  if 48 ≤ p ∨ s.native p ∨ ¬ bit (s.obj O.PFC_ENABLE (p + 1)) q ∨ bit (Tab.get s.cellar.xoff 0 p) q ∨
      s.heldCells p q ≤ s.obj O.PFC_XOFF (p + 1) then s
  else (s.sendPfc p q 0xFFFF).setXoff p q true

/-- The governor holds PFC pause on a class: the period's allowance is used up, and the class is not that of management (R273). -/
def State.govHolds (s : State) (q : Nat) : Bool := s.govFull && q != s.obj O.MGMT_CLASS

/-- PFC after cells have been freed: at PFC_XON or below quanta 0 is sent (R272), unless the governor holds the pause. -/
def State.pfcFall (s : State) (p q : Nat) : State :=
  if 48 ≤ p ∨ ¬ bit (Tab.get s.cellar.xoff 0 p) q ∨ s.obj O.PFC_XON (p + 1) < s.heldCells p q ∨ s.govHolds q then s
  else (s.sendPfc p q 0).setXoff p q false

/-- Native credit returns: the port's cumulative count of the class advances, unless the governor withholds it (R271, R273). -/
def State.creditReturn (s : State) (p q n : Nat) : State :=
  if 48 ≤ p ∨ ¬ s.native p then s
  else if s.govHolds q then
    s.modCellar fun c => { c with withheld := Tab.set c.withheld 0 (8 * p + q) (Tab.get c.withheld 0 (8 * p + q) + n) }
  else s.modLPort p fun l => { l with crOut := Tab.set l.crOut 0 q ((Tab.get l.crOut 0 q + n) % 8192) }

/-- The credit of a native frame's cells returns, unless the port has entered service anew since (R70, R271). -/
def State.creditBack (s : State) (p : Nat) : Option (Nat × Nat × Nat) → State
  | none => s
  | some (q, n, e) => if e = (s.lport p).epoch then s.creditReturn p q n else s

/-- Withheld credits are returned as the limit eases (R273). -/
def State.creditRelease (s : State) : State :=
  forEach s.cellar.withheld (fun s e =>
    (s.modCellar fun c => { c with withheld := Tab.erase c.withheld e.1 }).modLPort (e.1 / 8) fun l =>
      { l with crOut := Tab.set l.crOut 0 (e.1 % 8) ((Tab.get l.crOut 0 (e.1 % 8) + e.2) % 8192) }) s

/-- A best-effort frame has passed. When that uses up the allowance of a limited period, PFC-enabled classes are paused (R273). -/
def State.notePassed (s : State) : State :=
  let was := s.govFull
  let s := s.modCellar fun c => { c with passed := c.passed + 1 }
  if was || !s.govFull then s
  else
    forEach ((List.range 48).filter fun p => !s.native p && s.portUp p) (fun s p =>
      forEach ((List.range 7).filter fun q => bit (s.obj O.PFC_ENABLE (p + 1)) q && s.govHolds q && !bit (Tab.get s.cellar.xoff 0 p) q)
        (fun s q => (s.sendPfc p q 0xFFFF).setXoff p q true) s) s

/-- A period of the governor begins with a new allowance: withheld credits return, and pauses that it alone held end (R273). -/
def State.newPeriod (s : State) : State :=
  let s := s.modCellar fun c => { c with passed := 0 }
  let s := if s.govFull then s else s.creditRelease
  forEach (List.range 48) (fun s p => forEach (List.range 7) (fun s q => s.pfcFall p q) s) s

/-- `a` is earlier than `b` in 32-bit serial arithmetic (R264). -/
def commitBefore (a b : Nat) : Bool := decide (tdiff a b < 0)

/-- The fence is tested (R265): DONE once no descriptor with an earlier COMMIT remains. -/
def State.fenceCheck (s : State) : State :=
  if s.obj O.DRAIN_STATE = 1 ∧ ¬ s.cellar.copies.any (fun d => commitBefore d.commit s.cellar.fence) then
    (s.setObj O.DRAIN_STATE 2).raise O.CELLAR_FLAGS 7
  else s

/-- DRAIN_OLDEST: the earliest COMMIT still present; with none present the value is not stated, and is free. -/
def State.drainOldest (s : State) : Nat :=
  match s.cellar.copies.map (·.commit) with
  | [] => (Config.lineBits s.free).toNat % 2 ^ 32
  | x :: xs => xs.foldl (fun a b => if commitBefore b a then b else a) x

/-- A copy leaves the Cellar: its frame's cells are freed with the last copy, and credit, pauses and the fence follow
(R265, R271, R272, R283). -/
def State.freeCopy (s : State) (d : Desc) : State :=
  let s := s.modCellar fun c => { c with copies := c.copies.erase d }
  let s := if s.cellar.copies.any (fun x => x.outPort == d.outPort && x.cls == d.cls) then s
    else s.modCellar fun c => { c with deficit := Tab.set c.deficit 0 (8 * d.outPort + d.cls) 0 }
  let s := match s.frame d.fid with
    | none => s
    | some f =>
      if 1 < f.refs then s.modCellar fun c => { c with frames := Tab.set c.frames none d.fid (some { f with refs := f.refs - 1 }) }
      else
        ((s.modCellar fun c => { c with frames := Tab.erase c.frames d.fid }).creditBack f.inPort f.credit).pfcFall f.inPort f.cls
  s.fenceCheck

/-- Frees every copy that a test selects. -/
def State.freeCopies (s : State) (f : Desc → Bool) : State := forEach (s.cellar.copies.filter f) (fun s d => s.freeCopy d) s

/-- A port goes down: every queued copy for it is discarded and counted, a copy in transmission is lost (R275). -/
def State.dropQueues (s : State) (p : Nat) : State :=
  let n := (s.cellar.copies.filter fun d => d.outPort == p && !d.started).length
  let s := if n = 0 then s else s.count O.DROP_DOWN (p + 1) n
  s.freeCopies fun d => d.outPort == p

/-- The test of R269 for one copy, in its order: the share that its first cell is charged to, or the drop counted. -/
def State.admitCopy (s : State) (l : Look) (p : Nat) : Option Share × State :=
  let n := cellsOf l.len
  let q := l.cls
  if !s.portUp p then (none, s.count O.DROP_DOWN (p + 1))
  else if 262144 ≤ s.cellar.copies.length then (none, s.count O.DROP_ADMIT (p + 1))
  else if s.losslessIn l.inPort q then
    if l.inPort < 48 ∧ ¬ s.native l.inPort ∧
        s.obj O.PFC_XOFF (l.inPort + 1) + s.obj O.PFC_HEADROOM (l.inPort + 1) < s.heldCells l.inPort q + n then
      (none, s.count O.DROP_HEADROOM (l.inPort + 1))
    else (some .lossless, s)
  else if s.govFull && !l.mgmt then (none, s.count O.DROP_GOV (l.inPort + 1))
  else if s.cellsWhere (fun d => d.outPort == p && d.share == .guarantee) < 16 then (some .guarantee, s)
  else
    let qs := s.cellsWhere fun d => d.outPort == p && d.cls == q && d.share == .shared
    let k := s.objI O.CLASS_K (q + 1)
    let f := s.shareFree .shared
    let lim := if 0 ≤ k then f * 2 ^ k.toNat else f / 2 ^ (-k).toNat
    if qs < lim then (some .shared, s)
    else if l.mgmt && decide (0 < s.shareFree .reserve) then (some .reserve, s)
    else
      let s := s.count O.DROP_ADMIT (p + 1)
      (none, if l.mgmt then s.raise O.CELLAR_FLAGS 5 else s)

/-- A queue's occupancy in cells. -/
def State.queueCells (s : State) (p q : Nat) : Nat := s.cellsWhere fun d => d.outPort == p && d.cls == q

/-- QUEUE_PEAK follows the occupancy. -/
def State.notePeak (s : State) (p q : Nat) : State :=
  s.modCellar fun c => { c with peak := Tab.set c.peak 0 (8 * p + q) (max (Tab.get c.peak 0 (8 * p + q)) (s.queueCells p q)) }

/-- One copy of frame `fid` for port `p`, with what is bound to it (R264, R267, R269, R270). Answers whether it was
admitted. `ct`: its head leaves at once, so that a share that runs out behind the first cell marks its tail (R270). -/
def State.addCopy (s : State) (l : Look) (fid p : Nat) (nh : Option Nat) (vid : Nat) (edit ct : Bool) : Bool × State :=
  match s.admitCopy l p with
  | (none, s) => (false, s)
  | (some x, s) =>
    let have_ := s.frame fid
    let free := s.shareFree x
    let short := have_.isNone && decide (free < cellsOf l.len)
    let s := if short then (s.count O.TRUNC_DROP (l.inPort + 1)).raise O.CELLAR_FLAGS 1 else s
    if short && (!ct || free == 0) then (false, s)
    else
      let st : Stored := match have_ with
        | some f => { f with refs := f.refs + 1 }
        | none => ⟨if short then l.octets.take (256 * free) else l.octets, l.inPort, l.cls, x, 1, l.credit⟩
      let mem := ofBe ((s.blob O.VLAN_MEMBERS).run (16 * vid + 8) 8)
      let ev := eventAt l.b
      let ptpOn (r : Nat) : Bool := decide (r < 48) && s.obj O.PORT_PTP_MODE (r + 1) != 0
      let d : Desc :=
        { fid := fid, outPort := p, cls := l.cls, ct := ct, bad := l.bad || short, ptp := ev.isSome && ptpOn l.inPort && ptpOn p,
          ptpOff := (ev.map (·.2)).getD 0, xport := (ev.map (·.1)).getD 0, nh := nh, vid := vid, untag := bit mem p,
          noEdit := l.noEdit || !edit, commit := s.obj O.TABLE_COMMIT,
          tIn := BitVec.ofNat 56 (l.tIn.toNat / 256 * 256), share := x, mgmt := l.mgmt, limit := s.obj O.FRAME_TIMEOUT,
          started := false }
      let s := s.modCellar fun c =>
        { c with frames := Tab.set c.frames none fid (some st), copies := c.copies ++ [d], took := true }
      (true, (s.notePeak p l.cls).pfcRise l.inPort l.cls)

/-- Copies of a frame for several ports (R283). -/
def State.addCopies (s : State) (l : Look) (ports : List Nat) (nh : Option Nat) (vid : Nat) (edit : Bool) : State :=
  let fid := s.cellar.nextId
  let s := s.modCellar fun c => { c with nextId := fid + 1 }
  let s := forEach ports (fun s p => (s.addCopy l fid p nh vid edit false).2) s
  if l.mgmt then s else s.notePassed

/-- Data rate of a native port in mHz (R276): W × N × F0 × 128/130 less the Caravan share of R302. -/
def State.nativeRate (s : State) (p : Nat) : Nat :=
  let w := s.txWidth p
  let full := w * s.portN p * s.obj O.CLK_F0 * 128 / 130
  let b := w * s.rounds p
  if b = 0 then full else full - full * s.caravanBlocks p / b

/-- The MAC rate of an Ethernet port in Gb/s (R113). -/
def State.macRate (s : State) (p : Nat) : Nat :=
  let w := s.obj O.PORT_WIDTH (p + 1)
  match (s.group (groupOf p)).mode with
  | 1 => 10
  | 2 => if w = 4 then 100 else 25
  | 3 => if w = 2 then 100 else 50
  | _ => 0

/-- Nominal data rate of a port in mHz (R276). -/
def State.dataRate (s : State) (p : Nat) : Nat :=
  if p = housePort then (if s.obj O.HOUSE_RATE_ACT = 1 then 10 else 1) * 10 ^ 12
  else if s.native p then s.nativeRate p else s.macRate p * 10 ^ 12

/-- The conditions of R276 for a UNICAST copy, admission apart. -/
def State.ctEligible (s : State) (l : Look) (p : Nat) : Bool :=
  decide (p < 48) && bit (s.obj O.CT_ENABLE (p + 1)) l.cls &&
    !(s.cellar.copies.any fun d => d.outPort == p && d.cls == l.cls) &&
    (s.native p || decide (s.dataRate p ≤ s.dataRate l.inPort))

/-- One's-complement addition of 16-bit words. -/
def ocAdd (a b : Nat) : Nat := let x := a + b; x % 65536 + x / 65536

/-- The incremental update of RFC 1624: the checksum after words `old` have become `new`. -/
def csumUpdate (c : Nat) (old new : List Nat) : Nat :=
  let t := (old.map (65535 - ·) ++ new).foldl ocAdd (65535 - c % 65536)
  65535 - t

/-- The words of `n` octets at an offset. -/
def wordsAt (b : Bytes) (i n : Nat) : List Nat := (List.range (n / 2)).map fun k => beAt b (i + 2 * k) 2

/-- The correctionField grows by the residence time, and the UDP checksum with it (R285, R286). -/
def insertResidence (b : Bytes) (off xport : Nat) (tIn tOut : Time56) : Bytes :=
  let r := (tdiff56 tOut tIn + 128) / 256
  let old := toSigned 64 (beAt b off 8)
  let top : Int := 2 ^ 63 - 1
  let new := if old = top then top else min top (old + r)
  let b' := patch b off (beBytes 8 (ofSigned 64 new))
  let u := off - 16
  if xport = 0 then b'
  else if xport = 1 ∧ beAt b (u + 6) 2 = 0 then b'
  else
    let c := csumUpdate (beAt b (u + 6) 2) (wordsAt b off 8) (wordsAt b' off 8)
    patch b' (u + 6) (beBytes 2 (if c = 0 then 0xFFFF else c))

/-- The changes of a routed frame: DA, SA, TTL and the header checksum (R261). -/
def routeEdit (b : Bytes) (mac router : Nat) : Bytes :=
  let ip := etOff b + 2
  let b' := patch (patch b 0 (beBytes 6 mac)) 6 (beBytes 6 router)
  let ttl := beAt b (ip + 8) 2
  let b' := patch b' (ip + 8) (beBytes 2 (ttl - 256))
  patch b' (ip + 10) (beBytes 2 (csumUpdate (beAt b (ip + 10) 2) [ttl] [ttl - 256]))

/-- The VLAN edit of R262: the outer tag leaves, or stands with the VID and PCP of the egress. -/
def vlanEdit (b : Bytes) (untag : Bool) (vid pcp : Nat) : Bytes :=
  if untag then (if isTag b 12 then b.take 12 ++ b.drop 16 else b)
  else
    let tag := beBytes 2 0x8100 ++ beBytes 2 (pcp % 8 * 8192 + vid % 4096)
    if isTag b 12 then b.take 12 ++ tag ++ b.drop 16 else b.take 12 ++ tag ++ b.drop 12

/-- A copy as it is sent, without FCS (R261, R262, R285). -/
def State.edited (s : State) (d : Desc) (f : Stored) (tOut : Time56) : Bytes :=
  let b := f.octets
  let b := match d.nh with | some e => routeEdit b (e / 2 ^ 64 % 2 ^ 48) (s.obj O.ROUTER_MAC) | none => b
  let b := if d.ptp then insertResidence b d.ptpOff d.xport d.tIn tOut else b
  if d.noEdit then b else
  vlanEdit b d.untag d.vid (bits (s.obj O.PORT_PCP_OUT (d.outPort + 1)) (3 * d.cls + 2) (3 * d.cls))

/-- The copy in transmission at a port. -/
def State.sending (s : State) (p : Nat) : Option Desc := s.cellar.copies.find? fun d => d.outPort == p && d.started

/-- A native port may begin a frame (R100): while a widening waits, not in the last 600 rounds of a superframe, and not while READMIT_FORCE
holds the port's next START. -/
def State.mayStart (s : State) (p : Nat) : Bool :=
  !(s.lport p).forced && !((s.lport p).widen && decide (3496 ≤ s.roundNow (groupOf p)))

/-- A class may send: not paused by PFC, and with native credit (R274), where a frame may begin at all (R100). -/
def State.maySend (s : State) (p q : Nat) : Bool :=
  if p = housePort then true
  else if s.native p then s.hasCredit p q && s.mayStart p
  else !(bit (s.obj O.PFC_ENABLE (p + 1)) q &&
    bit (Tab.get s.cellar.paused 0 p) (bits (s.obj O.PORT_PCP_OUT (p + 1)) (3 * q + 2) (3 * q)))

/-- The oldest copy of a queue that has not begun. -/
def State.queueHead (s : State) (p q : Nat) : Option Desc :=
  s.cellar.copies.find? fun d => d.outPort == p && d.cls == q && !d.started

/-- The length that the scheduler counts for a copy. -/
def State.copyLen (s : State) (d : Desc) : Nat := match s.frame d.fid with | some f => f.octets.length | none => 0

/-- Round robin comes to a class: its deficit grows by its weight times 256 octets (R274). -/
def State.addDeficit (s : State) (p v : Nat) : State :=
  let w := bits (s.obj O.SCHED_WEIGHT (p + 1)) (8 * v + 7) (8 * v)
  s.modCellar fun c => { c with deficit := Tab.set c.deficit 0 (8 * p + v) (Tab.get c.deficit 0 (8 * p + v) + 256 * w) }

/-- One class is looked at by deficit round robin (R274): served where it may send and its deficit reaches the copy's
length; otherwise the next class is visited and its deficit grows. -/
def State.drr (s : State) (p : Nat) (ok : Nat → Bool) : Nat → Nat → Option Desc × State
  | 0, _ => (none, s)
  | fuel + 1, v =>
    let key := 8 * p + v
    match if ok v then s.queueHead p v else none with
    | some d =>
      let n := s.copyLen d
      let df := Tab.get s.cellar.deficit 0 key
      if n ≤ df then
        (some d, s.modCellar fun c =>
          { c with deficit := Tab.set c.deficit 0 key (df - n), visit := Tab.set c.visit 0 p (v + 1) })
      else
        let v' := (v + 1) % 7
        let s := if ok v' then s.addDeficit p v' else s
        s.drr p ok fuel v'
    | none =>
      let v' := (v + 1) % 7
      let s := if ok v' then s.addDeficit p v' else s
      s.drr p ok fuel v'

/-- The scheduler's choice at a frame boundary (R274): strict classes first, the highest wins; the others share. -/
def State.choose (s : State) (p : Nat) : Option Desc × State :=
  let strict := s.obj O.SCHED_STRICT (p + 1)
  let can (q : Nat) : Bool := decide (q < 7) && (s.queueHead p q).isSome && s.maySend p q
  match [6, 5, 4, 3, 2, 1, 0].find? fun q => bit strict q && can q with
  | some q => (s.queueHead p q, s)
  | none =>
    let ok (q : Nat) : Bool := !bit strict q && can q
    if (List.range 7).any ok then
      let v := Tab.get s.cellar.visit 0 p
      s.drr p ok 300 (if v = 0 then 6 else v - 1)
    else (none, s)

/-- A frame is opened on a native port (R63, R67): its START leaves, and what follows in that round. -/
def State.openFrame (s : State) (p q : Nat) (ct : Bool) (b : Bytes) : State :=
  (s.modLPort p fun l =>
    { l with frame := some { cls := q, tag := l.tag, start := some ct, octets := b, sent := 0, done := [], ending := none } }).stream p []

/-- Transmission of a copy begins (R262, R276, R281, R285): `tOut` is the selector time of its timestamp point. A frame that an edit would
take over 9,216 octets is dropped. -/
def State.startCopy (s : State) (d : Desc) (ct : Bool) (tOut : Time56) : State :=
  match s.frame d.fid with
  | none => s
  | some f =>
    let b := s.edited d f (if d.outPort < 48 then s.departsAt ((s.activeLanes d.outPort).headD d.outPort) tOut else tOut)
    if 9212 < b.length then (s.freeCopy d).count O.DROP_EDIT (d.outPort + 1)
    else
      let s := s.modCellar fun c =>
        { c with copies := c.copies.map fun x => if x = d then { d with started := true, ct := ct } else x }
      let s := if s.native d.outPort && d.outPort != housePort then s.openFrame d.outPort d.cls ct b else s
      let s := if d.ptp then s.count O.RES_INSERTED (d.outPort + 1) else s
      let s := if ct then s.count O.CT_FRAMES (d.outPort + 1) else s
      s.emit (.frame d.outPort b false)

/-- A copy's transmission ends, marked at its tail or not (R278, R295). -/
def State.endCopy (s : State) (d : Desc) (mark : Bool) : State :=
  let n := match s.frame d.fid with | some f => (s.edited d f 0).length | none => 0
  let s := (s.count O.TX_FRAMES (d.outPort + 1)).count O.TX_BYTES (d.outPort + 1) (n + 4)
  let s := if mark then ((s.emit (.frame d.outPort [] true)).count O.CT_STOMP (d.outPort + 1)).raise O.CELLAR_FLAGS 3 else s
  s.freeCopy d

/-- A UNICAST copy (R260, R276): it starts by cut-through where R276 allows and the port is free; a bad frame whose head has
not left is dropped. -/
def State.unicast (s : State) (l : Look) (p : Nat) (nh : Option Nat) (vid : Nat) (edit : Bool) : State :=
  let ct := s.ctEligible l p
  let go := ct && s.portUp p && (s.sending p).isNone && s.maySend p l.cls
  if l.bad && !go then s
  else
    let fid := s.cellar.nextId
    let s := s.modCellar fun c => { c with nextId := fid + 1 }
    match s.addCopy l fid p nh vid edit go with
    | (true, s) =>
      let s := if l.mgmt then s else s.notePassed
      if go then
        match s.cellar.copies.find? fun d => d.fid == fid with
        | some d => s.startCopy d true l.ctOut
        | none => s
      else s
    | (false, s) => if l.mgmt then s else s.notePassed

/-- A frame for the house port with its reason (R290). -/
def State.punt (s : State) (l : Look) (reason : Nat) : State :=
  if l.bad then s else
  let n := min l.len 9184
  let hdr := beBytes 6 (s.obj O.HOUSE_HOST_MAC) ++ beBytes 6 (s.obj O.MAC_ACT) ++ beBytes 2 0x88B6 ++ [2] ++
    beBytes 1 reason ++ beBytes 1 l.inPort ++ beBytes 1 (l.cls * 32 + b2n (decide (9184 < l.len)) * 16) ++
    beBytes 2 l.len ++ beBytes 8 (s.stampOf l.tIn)
  let b := hdr ++ l.octets.take n
  s.addCopies { l with b := b.take 128, octets := b } [housePort] none 0 false

/-- The ports of a membership mask, the ingress port left out unless it hairpins (R282). -/
def memberPorts (m inPort : Nat) (hairpin : Bool) : List Nat := (bitsOf m 49).filter fun p => hairpin || p != inPort

/-- HIT of an entry is set (R333). -/
def State.setHit (s : State) (l : Nat) : State := s.setEm l (setBit (s.em l) 126 true)

/-- A result is carried out (R260, R261, R282, R329). `route` names a result of an IPV4HOST or TCAM entry. -/
def State.deliver (s : State) (l : Look) (result : Nat) (route : Bool) : State :=
  let v := bits result 11 0
  match bits result 15 14 with
  | 0 =>
    if route then
      let e := (s.blob O.NEXTHOP).run (16 * v) 16
      let w := ofBe (e.take 8)
      if !bit w 63 then s.count O.DROP_MISS (l.inPort + 1)
      else s.unicast l (bits w 59 54) (some (ofBe e)) (ofBe ((e.drop 8).take 2) % 4096) true
    else if v = l.inPort then s.count O.DROP_FILTER (l.inPort + 1)
    else s.unicast l v none l.vid true
  | 1 =>
    let g := ofBe ((s.blob O.MC_GROUP).run (8 * v) 8)
    if l.bad then s else s.addCopies l (memberPorts g l.inPort (bit g 63)) none l.vid true
  | 2 => s.punt l 1
  | _ => s.count O.DROP_FILTER (l.inPort + 1)

/-- A miss action (R260): 0 drops, 1 punts. -/
def State.missAction (s : State) (l : Look) (action reason : Nat) : State :=
  if action = 0 then s.count O.DROP_MISS (l.inPort + 1) else s.punt l reason

/-- The MEMBER word of a VID (R262). -/
def State.vlanMember (s : State) (vid : Nat) : Nat := ofBe ((s.blob O.VLAN_MEMBERS).run (16 * vid) 8)

/-- Row 8: the L2 key; a miss floods (R260, R282). -/
def State.forwardL2 (s : State) (l : Look) : State :=
  match s.emLookup 0 (l.vid * 2 ^ 48 + beAt l.b 0 6) with
  | some e => s.deliver l (emResult (s.em e)) false
  | none => if l.bad then s else s.addCopies l (memberPorts (s.vlanMember l.vid) l.inPort false) none l.vid true

/-- Rows 6 to 8 (R260). -/
def State.forward (s : State) (l : Look) : State :=
  let o := etOff l.b
  let vrf := if l.inPort < 48 then s.obj O.PORT_VRF (l.inPort + 1) else 0
  if etherType l.b = 0x88B6 ∧ beAt l.b (o + 2) 1 = 1 then
    match s.emLookup 1 (beAt l.b (o + 3) 1 * 2 ^ 17 + beAt l.b (o + 4) 3 % 2 ^ 17) with
    | some e => (s.setHit e).deliver l (emResult (s.em e)) false
    | none => s.missAction l (s.obj O.EP_MISS_ACTION) 4
  else if s.obj O.ROUTER_MAC ≠ 0 ∧ beAt l.b 0 6 = s.obj O.ROUTER_MAC ∧ etherType l.b = 0x0800 then
    if beAt l.b (o + 10) 1 ≤ 1 then s.punt l 2 else
    let dip := beAt l.b (o + 18) 4
    match s.emLookup 2 (vrf * 2 ^ 32 + dip) with
    | some e => (s.setHit e).deliver l (emResult (s.em e)) true
    | none =>
      match s.tcamLookup (pipelineOf l.inPort) vrf dip with
      | some r => s.deliver l r true
      | none => s.missAction l (s.obj O.ROUTE_MISS_ACTION) 3
  else s.forwardL2 l

/-- The management path takes a Falri frame (R381). -/
def State.falriTakes (s : State) (b : Bytes) : Bool :=
  let m := etOff b + 2
  let da := beAt b 0 6
  let dst := beAt b (m + 4) 2
  let mine := (bits dst 15 14 == 0 && dst % 1024 == s.obj O.DEVICE_ID && dst % 1024 != 0) || decide (2 ≤ bits dst 15 14)
  (mine && (da == s.obj O.MAC_ACT || da == s.obj O.FALRI_GROUP || da == 0xFFFFFFFFFFFF)) ||
    (da == s.obj O.MAC_ACT && bits dst 15 14 == 0)

/-- Rows 3 to 8 for a frame that has passed rows 1 and 2. -/
def State.decideDest (s : State) (l : Look) : State :=
  match ptpAt l.b with
  | some (o, _, _) =>
    if l.inPort < 48 ∧ s.obj O.PORT_PTP_MODE (l.inPort + 1) = 2 ∧ beAt l.b (o + 4) 1 = s.obj O.PTP_DOMAIN ∧
        beAt l.b o 1 % 16 ≠ 12 ∧ beAt l.b o 1 % 16 ≠ 13 then s
    else s.forward l
  | none =>
    if etherType l.b = 0x88B5 then
      if s.falriTakes l.b then
        if bits (beAt l.b (etOff l.b + 6) 2) 15 14 = 2 then s.forwardL2 l else s
      else s.forward l
    else s.forward l

/-- A learn request where R338 asks for one. -/
def State.maybeLearn (s : State) (l : Look) : State :=
  let sa := beAt l.b 6 6
  let key := l.vid * 2 ^ 48 + sa
  let s := match s.emLookup 0 key with | some e => s.setHit e | none => s
  if s.obj O.PORT_LEARN (l.inPort + 1) = 1 ∧ ¬ l.bad ∧ sa ≠ 0 ∧ ¬ bit sa 40 then s.learnRequest key l.inPort else s

/-- The bad end of a frame is counted at its ingress (R279). -/
def State.countEnd (s : State) (p : Nat) : FrameEnd → State
  | .good => s
  | .fcsError => s.count O.FCS_ERR (p + 1)
  | .stomped => s.count O.STOMPED (p + 1)
  | .linkError => s
  | .portDown => s.count O.DROP_DOWN (p + 1)

/-- A frame enters: the header FIFO, counters, rows 1 and 2 of R260, learning, and the decision (R255, R257, R259, R263). One that grows past
the limit is bad from the excess octet on, and is forwarded only where its head has left (R257, R279). -/
def State.frameIn (s : State) (p : Nat) (octets : Bytes) (cls : Nat) (mgmt noEdit : Bool) (fin : FrameEnd) (tIn ctOut : Time56)
    (credit : Option (Nat × Nat × Nat)) : State :=
  let mtu := s.obj O.PORT_MTU (p + 1)
  let len := octets.length
  let s := s.countEnd p fin
  if !s.fifoRoom (pipelineOf p) mgmt then s.count O.DROP_OVERRUN (p + 1) else
  let s := s.fifoPut (pipelineOf p) mgmt
  let cut := decide (fin = .linkError ∨ fin = .portDown)
  if len < 60 then (if cut then s else s.count O.DROP_FORMAT (p + 1))
  else
    let long := decide (mtu - 4 < len)
    let s := if long then s.count O.DROP_FORMAT (p + 1) else s
    let s := if long && decide (p < 48) && s.native p && decide (9212 < len) then s.count O.OVERSIZE (p + 1) else s
    let b := octets.take 128
    let octets := octets.take (mtu - 4)
    let s := (s.count O.RX_FRAMES (p + 1)).count O.RX_BYTES (p + 1) (octets.length + 4)
    let tci := if isTag b 12 then beAt b 14 2 else 0
    let vid := if tci % 4096 = 0 then s.obj O.PORT_PVID (p + 1) else tci % 4096
    if s.obj O.PORT_VLAN_FILTER (p + 1) = 1 ∧ ¬ bit (s.vlanMember vid) p then s.count O.DROP_VLAN (p + 1)
    else
      let l : Look := ⟨b, octets, p, cls, mgmt, noEdit, vid, tIn, decide (fin ≠ .good) || long, ctOut, credit⟩
      let s := s.maybeLearn l
      let skipped := decide (p < 48) && s.obj O.PORT_PTP_MODE (p + 1) != 0 && (eventHidden b ||
        (match eventAt b with | some (2, o) => beAt b (o - 10) 2 == 0 | _ => false))
      (if skipped then s.count O.RES_SKIPPED (p + 1) else s).decideDest l

/-- The class of a frame (R259), injections apart. -/
def State.classOf (s : State) (p : Nat) (b : Bytes) (startCls : Nat) : Nat :=
  if isMgmt b then s.obj O.MGMT_CLASS
  else if p < 48 ∧ s.native p then min 6 startCls
  else if isTag b 12 then let v := beAt b 14 2 / 8192; min 6 (bits (s.obj O.PORT_PCP_MAP (p + 1)) (3 * v + 2) (3 * v))
  else s.obj O.PORT_DEFAULT_CLASS (p + 1)

/-- An injection from the host (R291). -/
def State.inject (s : State) (b : Bytes) (f : Frame) (tIn : Time56) : State :=
  let out := beAt b 15 1
  let flags := beAt b 16 1
  let mg := bit flags 4
  let cls := if mg then s.obj O.MGMT_CLASS else min 6 (flags / 32)
  let inner := b.drop 18
  let len := inner.length
  if out = 0xFF then s.frameIn housePort inner cls mg (bit flags 3) f.fin tIn f.ctOut none
  else
    let s := (s.countEnd housePort f.fin).count O.RX_FRAMES (housePort + 1)
    let s := s.count O.RX_BYTES (housePort + 1) (b.length + 4)
    if len < 60 ∨ s.obj O.PORT_MTU (housePort + 1) < b.length + 4 then s.count O.DROP_FORMAT (housePort + 1)
    else if 48 ≤ out ∨ ¬ s.portUp out then s.count O.DROP_DOWN ((if out < 48 then out else housePort) + 1)
    else
      let tci := if isTag inner 12 then beAt inner 14 2 else 0
      let vid := if tci % 4096 = 0 then s.obj O.PORT_PVID (housePort + 1) else tci % 4096
      s.unicast ⟨inner.take 128, inner, housePort, cls, mg, bit flags 3, vid, tIn, decide (f.fin ≠ .good), f.ctOut, none⟩ out none
        vid true

/-- A frame on a native port (R65 to R70, R77, R101): what follows a START in the port stream. The frame whose START is open ends at END,
or with the port; one that an error has dropped before ends there. With neither the blocks are no frame. The credit of a frame that is
not stored returns at once (R271). -/
def State.nativeFrame (s : State) (p : Nat) (f : Frame) (tIn : Time56) : State :=
  let blocks := portStream (s.rxAct p) f.rounds
  let r := rxFrame blocks [] false 0
  let l := s.lport p
  let lost := decide (r.2 = .linkError) && l.rxLost.isSome
  match if lost then l.rxLost else l.rxOpen with
  | none => s
  | some key =>
    let fin := if r.2 = .linkError ∧ f.fin = .portDown then .portDown else r.2
    let s := (s.rxPort p (ownBlocks blocks 0)).modLPort p fun l =>
      if lost then { l with rxLost := none } else { l with rxOpen := none }
    let b := r.1.take 128
    let c := (key / 8192, cellsOf r.1.length, l.epoch)
    let s := (s.modCellar fun c => { c with took := false }).frameIn p r.1 (s.classOf p b (key / 8192)) (isMgmt b) false fin tIn f.ctOut
      (some c)
    if s.cellar.took then s.modCellar fun c => { c with took := false } else s.creditBack p (some c)

/-- A frame is received (R256 to R263, R285, R290, R291). T_IN is the time of its timestamp point at the ball. -/
def State.frameReceive (s : State) (p : Nat) (f : Frame) : State :=
  let n := p + f.tIn.lane
  let s := if p < 48 then s.sampled n f.tIn.codes else s
  let tIn := if p < 48 then s.arrival n f.tIn.tw else f.tIn.tw
  if p < 48 ∧ s.native p then s.nativeFrame p f tIn
  else
    let b := f.octets.take 128
    if p = housePort ∧ beAt b 12 2 = 0x88B6 ∧ beAt b 14 1 = 3 then s.inject f.octets f tIn
    else s.frameIn p f.octets (s.classOf p b 0) (isMgmt b) false f.fin tIn f.ctOut none

/-- A frame is received. -/
def execFrameReceive (port : Fin 49) (frame : Frame) (s : State) : Host.Outcome State Fault Refusal :=
  runKeep s (·.frameReceive port frame)

/-- A frame boundary of an egress port: the scheduler chooses a copy and starts it (R274). -/
def State.egressStart (s : State) (p : Nat) (tOut : Time56) : State :=
  if (s.sending p).isSome || !s.portUp p then s else
  match s.choose p with
  | (some d, s) => s.startCopy d false tOut
  | (none, s) => s

/-- At a frame boundary the egress scheduler starts a copy. -/
def execEgressStart (port : Fin 49) (tOut : Time56) (s : State) : Host.Outcome State Fault Refusal :=
  runKeep s (·.egressStart port tOut)

/-- The frame that a native port has open goes on to its END, as far as credit reaches (R65, R69); none left open: it has ended. -/
def State.closeFrame (s : State) (p : Nat) (bad : Bool) : State :=
  let s := (s.modLPort p fun l => { l with frame := l.frame.map fun f => { f with ending := some bad } }).stream p []
  s.modLPort p fun l => { l with frame := l.frame.map fun f => { f with ending := none } }

/-- A copy completes; one found bad is marked at its tail (R278, R279). A native frame that lacks credit stays open (R69). -/
def State.egressEnd (s : State) (p : Nat) : State :=
  match s.sending p with
  | none => s
  | some d =>
    let s := if s.native p && p != housePort then s.closeFrame p d.bad else s
    if s.native p && p != housePort && (s.lport p).frame.isSome then s else s.endCopy d d.bad

/-- A copy completes. -/
def execEgressEnd (port : Fin 49) (s : State) : Host.Outcome State Fault Refusal := runKeep s (·.egressEnd port)

/-- An egress runs out of data of a cut-through frame (R277): an Ethernet egress ends it with a mark; a native egress sends
IDLE and resumes with CONT. -/
def State.ctUnderrun (s : State) (p : Nat) : State :=
  match s.sending p with
  | none => s
  | some d =>
    if !d.ct then s
    else if s.native p then forEach (s.activeLanes p) (fun s n => let x := s.idleBlk p; x.2.sendBlk p n x.1) s
    else (s.count O.CT_UNDERRUN (p + 1)).endCopy d true

/-- An egress runs out of data of a cut-through frame. -/
def execCtUnderrun (port : Fin 48) (s : State) : Host.Outcome State Fault Refusal := runKeep s (·.ctUnderrun port)

/-- A copy has not begun by FRAME_TIMEOUT − 16 µs (R280): the oldest of its queue is discarded. -/
def State.startDeadline (s : State) (p q : Nat) : State :=
  match s.queueHead p q with
  | none => s
  | some d => ((s.freeCopy d).count O.DROP_TIMEOUT (p + 1)).raise O.CELLAR_FLAGS 2

/-- A copy's start deadline. -/
def execFrameStartDeadline (port : Fin 49) (cls : Fin 7) (s : State) : Host.Outcome State Fault Refusal :=
  runKeep s (·.startDeadline port cls)

/-- The frame that a native port has open ends here (R278, R280): END with BAD follows the last octet sent. -/
def State.cutFrame (s : State) (p : Nat) : State :=
  (s.modLPort p fun l => { l with frame := l.frame.bind fun f => if f.start.isSome then none else some { f with octets := [] } }).closeFrame p true

/-- A copy still open at FRAME_TIMEOUT is ended with a tail mark (R280). -/
def State.endDeadline (s : State) (p : Nat) : State :=
  match s.sending p with
  | none => s
  | some d =>
    let s := if s.native p && p != housePort then s.cutFrame p else s
    ((s.count O.DROP_TIMEOUT (p + 1)).raise O.CELLAR_FLAGS 2).endCopy d true

/-- A copy's end deadline. -/
def execFrameEndDeadline (port : Fin 49) (s : State) : Host.Outcome State Fault Refusal := runKeep s (·.endDeadline port)

/-- The pause frame is repeated while the count stays above PFC_XON (R272). -/
def execPfcRefresh (port : Fin 48) (cls : Fin 7) (s : State) : Host.Outcome State Fault Refusal :=
  runKeep s fun s =>
    if bit (Tab.get s.cellar.xoff 0 port) cls ∧ (s.obj O.PFC_XON (port + 1) < s.heldCells port cls ∨ s.govHolds cls) then
      s.sendPfc port cls 0xFFFF
    else s

/-- A received PFC frame stops new frames of the priorities with quanta, and frees those with quanta 0 (R272). -/
def execPfcReceive (port : Fin 48) (enable : BitVec 8) (quanta : BitVec 128) (s : State) : Host.Outcome State Fault Refusal :=
  runKeep s fun s =>
    if s.native port then s else
    let m := (List.range 8).foldl (fun m v =>
      if enable.getLsbD v then setBit m v (decide (bits quanta.toNat (127 - 16 * v) (112 - 16 * v) ≠ 0)) else m)
      (Tab.get s.cellar.paused 0 port)
    s.modCellar fun c => { c with paused := Tab.set c.paused 0 port m }

/-- The pause time of a received PFC frame runs out for some priorities (R272). -/
def execPfcPauseExpiry (port : Fin 48) (priorities : BitVec 8) (s : State) : Host.Outcome State Fault Refusal :=
  runKeep s fun s => s.modCellar fun c =>
    { c with paused := Tab.set c.paused 0 port (clearBits (Tab.get c.paused 0 port) priorities.toNat) }

/-- A write of DRAIN_FENCE is admissible (R265). -/
def State.fenceOk (s : State) (c : Nat) : Bool := decide (tdiff c ((s.obj O.TABLE_COMMIT + 1) % 2 ^ 32) ≤ 0)

/-- A write of c to DRAIN_FENCE (R265). -/
def State.fenceWrite (s : State) (c : Nat) : State :=
  if s.fenceOk c then ((s.modCellar fun x => { x with fence := c }).setObj O.DRAIN_STATE 1).fenceCheck else s

/-- A write of DRAIN_FENCE. -/
def execDrainFenceWrite (value : BitVec 32) (s : State) : Host.Outcome State Fault Refusal := runKeep s (·.fenceWrite value.toNat)

/-- CELLAR_FLAGS as read: RESERVE_IN_USE and GOV_LIMITING are live (R294). -/
def State.cellarFlags (s : State) : Nat :=
  s.obj O.CELLAR_FLAGS + 64 * b2n (decide (0 < s.shareUsed .reserve)) + b2n s.govLimiting

end Sys2Proof.Machine
end

