-- ==== Sys2Proof/Machine/Roles.lean ====
section
/-! DEFINITION. Roles and ranks as other chapters ask for them (R245, R399 to R404, R417, R418, R430): what the straps and the
twin make of the part, and what a neighbour's advertisement says. What changes them stands in Hierarchy.lean. -/

namespace Sys2Proof.Machine

/-- MODE[1:0] as sampled (R399, R511): 0 WORKER, 1 MANAGER, 2 AUTO, 3 OBSERVE. -/
def State.modeStrap (s : State) : Nat := s.power.straps.toNat % 4

/-- The role is MANAGER (R399). -/
def State.manager (s : State) : Bool := s.modeStrap == 1

/-- The role is OBSERVE (R399). -/
def State.observer (s : State) : Bool := s.modeStrap == 3

/-- HIER_ROLE (R399, R405). -/
def State.roleCode (s : State) : Nat := if s.hier.prov then 3 else match s.modeStrap with | 1 => 1 | 3 => 2 | _ => 0

/-- A manager that is alone is always active; a twinned one acts while it holds the lease (R399, R417, R418). -/
def State.activeManager (s : State) : Bool :=
  s.manager && (s.twin.pair == 0 || (s.obj O.TWIN_STATE == 2 && s.twin.acting))

/-- ISS of the commands that this part issues (R243, R408). -/
def State.ownIss (s : State) : Nat := if s.twin.pair = 0 then 0 else s.twin.slot

/-- The fresh advertisement of the peer of a port, empty if there is none (R400). -/
def State.advert (s : State) (p : Nat) : Bytes := Tab.get s.hier.neigh [] p

/-- `n` octets of an advertisement from `i` on, as a number (R401). -/
def advField (b : Bytes) (i n : Nat) : Nat := ofBe ((b.drop i).take n)

/-- The rank that the peer of a port advertises, if its advertisement is fresh (R401). -/
def State.peerRank (s : State) (p : Nat) : Option Nat := if s.advert p = [] then none else some (advField (s.advert p) 1 1)

/-- A port's peer is an endpoint (R102). -/
def State.epPort (s : State) (p : Nat) : Bool := bit (s.obj O.PORT_PEER (p + 1)) 31

/-- The rank of this part, 0xFF unranked (R403). -/
def State.rank (s : State) : Nat := s.obj O.HIER_RANK

/-- A port's peer is an SZN-4850 of lower rank (R245). -/
def State.peerLower (s : State) (p : Nat) : Bool :=
  !s.epPort p && (match s.peerRank p with | some r => decide (r < s.rank) | none => false)

/-- A port's peer is an SZN-4850 of higher rank (R246). -/
def State.peerHigher (s : State) (p : Nat) : Bool :=
  !s.epPort p && (match s.peerRank p with | some r => decide (s.rank < r) | none => false)

/-- On an endpoint port shared with a twinned worker only the lease holder relays commands and sends SET (R430). -/
def State.epAllowed (s : State) (p : Nat) : Bool :=
  s.twin.pair == 0 || s.manager || !bit (s.obj O.TWIN_EP_PORTS) p || s.twin.acting

/-- The entry of the endpoint registry (R410): VALID, DEVICE and PORT. -/
def State.regEntry (s : State) (e : Nat) : Option (Nat × Nat) :=
  let v := Tab.get s.hier.registry 0 e
  if bit v 31 then some (bits v 30 21, bits v 20 15) else none

end Sys2Proof.Machine
end

