-- ==== Sys2Proof/Machine/Link.lean ====
section
/-! DEFINITION. The Efrov link (R52 to R106): superframes, training, latency records, bonding and deskew, narrowing and
readmission, credits, receive errors, and the TIME blocks that this part sends. Blocks and the port stream stand in Stream.lean. -/

namespace Sys2Proof.Machine

/-- The port that a lane belongs to: the lowest whose lanes take it in (R93, R135). -/
def State.portOf (s : State) (n : Nat) : Nat :=
  ([n - 3, n - 2, n - 1].find? fun p => decide (p < n) && groupOf p == groupOf n && decide (n < p + s.width p)).getD n

/-- The position of a lane in its port on the transmit side (R93). -/
def State.posTx (s : State) (n : Nat) : Nat := n - s.portOf n

/-- LINK_STATE of a lane (R82). -/
def State.linkState (s : State) (n : Nat) : Nat := s.obj O.LINK_STATE (n + 1)

/-- A lane is idled by the governor under R524. -/
def State.laneIdled (s : State) (n : Nat) : Bool := s.power.idled.contains n

/-- The TPLL of a lane's group is LOCKED (R198). -/
def State.tpllOk (s : State) (g : Nat) : Bool := s.obj O.PLL_STATE (g + 2) == 2

/-- A lane of a native group is in training (R82, R83): the group's TPLL has locked, training is not complete, and nothing
holds the lane out of it. -/
def State.training (s : State) (n : Nat) : Bool :=
  let l := s.lane n
  s.native n && (s.group (groupOf n)).sfcOn && s.tpllOk (groupOf n) && decide (s.linkState n ≤ 7) && !l.failed && !l.aborted && !l.removed &&
    !l.test && !s.laneIdled n

/-- `ui` unit intervals at N of a lane's group and `ana` hundredths of a picosecond, in units of 2^-24 ns (R90, R91). -/
def State.latUnits (s : State) (n ui ana : Nat) : Nat :=
  let nn := s.portN n
  if nn = 0 then 0 else (roundDiv (ui * s.f0Period * 100000 + ana * 2 ^ 40 * nn) (nn * 2 ^ 16 * 100000)).toNat

/-- The latency record of a native lane: 390 UI out, 390 + S + 130 D UI in, and the analogue figures (R90, R91). -/
def State.setLat (s : State) (n : Nat) : State :=
  let l := s.lane n
  let rx := 390 + s.obj O.LINK_SLIP (n + 1) + 130 * s.obj O.LINK_DESKEW (n + 1)
  (s.setObj O.LINK_TX_LAT (s.latUnits n 390 l.anaTx) (n + 1)).setObj O.LINK_RX_LAT (s.latUnits n rx l.anaRx) (n + 1)

/-- The position that a lane's receiver reads: POS of the peer's lane (R93). -/
def State.inRx (s : State) (n : Nat) : Bool :=
  let l := s.lane n
  l.deskIn.isSome && bit (s.rxAct (s.portOf n)) l.posRx

/-- READY or ACTIVE, by the active sets (R82). A lane of an Ethernet port that is not up stands at BLOCK_LOCK (R118). -/
def State.refreshStates (s : State) (p : Nat) : State :=
  forEach (s.portLanes p) (fun s n =>
    if 8 ≤ s.linkState n then
      s.setObj O.LINK_STATE (if bit (s.txAct p) (n - p) || s.inRx n then 9 else if s.native p then 8 else 2) (n + 1) else s) s

/-- The lowest POS in both active sets carries TIME (R99). -/
def State.moveTiming (s : State) (p : Nat) : State :=
  match bitsOf (s.txAct p &&& (s.lport p).peerAct) 4 with
  | i :: _ => s.setObj O.PORT_TIMING_POS i (p + 1)
  | [] => s

/-- The active sets of a port change: states and the timing lane follow (R82, R99), and entries of the Caravan are
re-established where a width changes (R312, R317). -/
def State.setActive (s : State) (p tx rx : Nat) : State :=
  let changed := decide (popCount tx 4 ≠ popCount (s.txAct p) 4 ∨ popCount rx 4 ≠ popCount (s.rxAct p) 4)
  let s := if popCount rx 4 ≠ popCount (s.rxAct p) 4 then s.modLPort p fun l => { l with rxAt := some s.now, rxPos := 0 } else s
  let s := ((s.setObj O.PORT_ACTIVE (rx % 16 * 16 + tx % 16) (p + 1)).moveTiming p).refreshStates p
  if changed then s.reestablishPort p else s

/-- A port goes down: its queues are emptied, its sets, its streams and its open exchanges end (R98, R275). A PTP port is measured anew
when it is up again (R559), and a ranging that has not begun finds no DGD from before (R174, R176). -/
def State.portDown (s : State) (p : Nat) : State :=
  let s := (s.dropQueues p).modCellar fun c =>
    { c with paused := Tab.erase c.paused p, xoff := Tab.erase c.xoff p }
  let s := s.modLPort p fun l =>
    { l with up := false, peerAct := 0, peerOk := 0, widen := false, forced := false, setDue := false, rxOpen := none,
             rxLost := if l.rxOpen.isSome then l.rxOpen else l.rxLost, frame := none, interrupted := false, hb := [], mgmt := [] }
  let s := s.modPort p fun t =>
    { t with req := none, peer := none, dgdPrev := if t.refSet then t.dgdPrev else t.dgd, dgd := none, ptpT1 := none, ptpSync := none,
             ptpT3 := none, run := if s.native p then t.run else [], complete := t.complete && s.native p }
  ((s.setObj O.PORT_ACTIVE 0 (p + 1)).setObj O.PORT_TIMING_POS 0 (p + 1)).refreshStates p

/-- A native port enters service on the lanes of `tx`: cumulative counts start anew, NATIVE_CREDIT cells of every class are
made available (R69, R70, R271), its delay is measured anew (R559), and its Caravan entries are re-established (R312). -/
def State.portUpNative (s : State) (p tx : Nat) : State :=
  let nc := s.obj O.NATIVE_CREDIT (p + 1)
  let s := s.modLPort p fun l =>
    { l with up := true, consumed := [], crIn := [], crNext := 0, sfSince := 0, setDue := false, widen := false,
             forced := false, rxOpen := none, rxLost := none, rxAt := none, rxPos := 0, frame := none, interrupted := false, gap := 8,
             hb := [], mgmt := [], epoch := l.epoch + 1, crOut := Tab.setRun [] 0 0 (List.replicate 7 (nc % 8192)) }
  let s := s.modCellar fun c =>
    { c with credit := Tab.set c.credit 0 p nc, withheld := c.withheld.filter fun e => e.1 / 8 != p }
  let s := s.modPort p fun t => { t with run := [], complete := false, acc := [], cand := none, dgd := none }
  let s := if s.obj O.PORT_ROUTE_STATE (p + 1) = 1 then s.setObj O.PORT_ROUTE_STATE 0 (p + 1) else s
  (s.setActive p tx (s.rxAct p)).reestablishPort p

/-- A lane's training ends aborted: DOWN, with no retry (R83, R89). -/
def State.abortTraining (s : State) (n : Nat) : State :=
  ((s.setObj O.LINK_STATE 0 (n + 1)).modLane n fun l =>
    { l with aborted := true, abortWait := false, decided := false, failed := false }).endStatus O.LINK_CMD_STATUS (n + 1) 3

/-- A lane in training changes state; an ABORT recorded after the decision point stops it here (R89). -/
def State.toState (s : State) (n v : Nat) : State :=
  if (s.lane n).abortWait then s.abortTraining n else s.setObj O.LINK_STATE v (n + 1)

/-- Training starts from DOWN (R82, R83): the search, the handshake and the alignment begin anew, the taps stand at their
initial setting, automatic polarity is cleared, and the lane's calibrations are due (R120, R141, R463; log entry 13). An ABORT that waits
for a change of state goes on waiting (R89). -/
def State.startTraining (s : State) (n : Nat) : State :=
  (((s.calTrain n).setObj O.LINK_STATE 0 (n + 1)).modLane n fun l =>
    { l with stCm1 := 0, stC0 := 0, stCp1 := 0, reqCm1 := 0, reqC0 := 0, reqCp1 := 0, peerRx := 0, readyRun := 0,
             slip := 0, decided := false, failed := false, aborted := false, skewDone := false,
             peerReq := none, superN := 0, aligned := false, leave := 0, deskIn := none, rxInv := false }).setObj
    O.TX_TAPS (s.obj O.TX_TAP_INIT (n + 1)) (n + 1)

/-- Training fails: the reason is recorded, and the steward will start again (R83, R103); where an ABORT waits, it is ABORTED (R89). -/
def State.failTraining (s : State) (n reason : Nat) : State :=
  if (s.lane n).abortWait then s.abortTraining n else
  let s := (s.setObj O.LINK_STATE 0 (n + 1)).modLane n fun l => { l with failed := true, abortWait := false, decided := false }
  let s := s.endStatus O.LINK_CMD_STATUS (n + 1) 5 reason
  if reason = 3 then s.raise O.LINK_FLAGS 3 (n + 1) else if reason = 5 then s.raise O.LINK_FLAGS 4 (n + 1) else s

/-- A lane's training is over: READY, and a RETRAIN that is BUSY is DONE (R82, R103). FAILED and its REASON stay where a retry of R83 has
brought the lane here: the spec does not say that they change (log entry 45). -/
def State.laneReady (s : State) (n : Nat) : State :=
  if (s.lane n).abortWait then s.abortTraining n else
  let s := (s.setObj O.LINK_STATE 8 (n + 1)).modLane n fun l => { l with skewDone := true, aligned := true }
  if s.status O.LINK_CMD_STATUS (n + 1) = 1 then s.endStatus O.LINK_CMD_STATUS (n + 1) 2 else s

/-- A lane in service is lost (R97): its position is read no more, LANE_LOST is raised, and the lane retrains on its own
(R100). A port with no other trained lane, and every Ethernet port, goes down (R98). -/
def State.laneLost (s : State) (n : Nat) : State :=
  let p := s.portOf n
  let s := s.raise O.LINK_FLAGS 2 (n + 1)
  let rx := if s.inRx n then clearBits (s.rxAct p) (2 ^ (s.lane n).posRx) else s.rxAct p
  let s := s.startTraining n
  if !s.native n then (if (s.lport p).up then s.portDown p else s)
  else
    let s := s.setActive p (s.txAct p) rx
    if (s.lport p).up && !(s.portLanes p).any (fun k => k != n && decide (8 ≤ s.linkState k)) then s.portDown p else s

/-- The positions of the peer's lanes that this part receives in lock (RX_OK, R94, R98); a lane that is to leave is out of it, so that
the peer stops striping over it (R102). -/
def State.rxOk (s : State) (p : Nat) : Nat :=
  (s.portLanes p).foldl (fun m n =>
    let l := s.lane n
    if l.deskIn.isSome && decide (6 ≤ s.linkState n) && !l.removed && l.leave == 0 then m ||| 2 ^ l.posRx else m) 0

/-- The body of the LANEMAP that a lane sends (R94). -/
def State.lanemapBody (s : State) (n : Nat) : Nat :=
  let p := s.portOf n
  let w := s.width p
  fld 118 2 (n - p) + fld 116 2 (if w = 4 then 2 else if w = 2 then 1 else 0) + fld 112 4 (s.txAct p) +
    fld 108 4 (s.rxOk p) + fld 106 2 (s.obj O.PORT_TIMING_POS (p + 1)) + fld 96 10 (s.obj O.DEVICE_ID) + fld 90 6 n

/-- The body of the SUPER that a lane sends (R61). -/
def State.superBody (s : State) (n : Nat) : Nat :=
  fld 88 32 (s.group (groupOf n)).sfc.toNat + fld 78 10 (s.obj O.DEVICE_ID) + fld 72 6 n + fld 70 2 (s.posTx n) +
    fld 16 48 0xC3A55A3C96E1

/-- The body of the TRAIN block that a lane sends (R84); INIT is NONE (log entry 13). -/
def State.trainBody (s : State) (n : Nat) : Nat :=
  let l := s.lane n
  fld 116 4 (min (s.linkState n) 6) + fld 111 2 l.reqCm1 + fld 109 2 l.reqC0 + fld 107 2 l.reqCp1 + fld 105 2 l.stCm1 +
    fld 103 2 l.stC0 + fld 101 2 l.stCp1 + fld 88 12 (s.portN n) + fld 82 6 n + fld 72 10 (s.obj O.DEVICE_ID)

/-- The positions that may be in ACTIVE (R98): trained, in the peer's RX_OK, and not about to leave (R102, R137). -/
def State.usable (s : State) (p : Nat) : Nat :=
  (s.portLanes p).foldl (fun m n =>
    if 8 ≤ s.linkState n && (s.lane n).leave == 0 && !(s.lane n).removed && bit (s.lport p).peerOk (n - p) then
      m ||| 2 ^ (n - p) else m) 0

/-- What the transmitter of a lane under test sends (R136, R139): the recovered bits in FAR_RETIMED, else the pattern of LANE_PRBS, else its
own blocks. -/
def State.testSource (s : State) (n : Nat) : Emit :=
  let v := s.obj O.LANE_PRBS (n + 1)
  let far := s.obj O.LANE_LOOP (n + 1) == 3
  .source n (if bit v 7 && !far then some (v % 8) else none) far

/-- A lane goes into its test (R137 to R139): DOWN, the FIFO of FAR_RETIMED half full (log entry 50), the checker anew. -/
def State.startTest (s : State) (n : Nat) : State :=
  let s := (s.setObj O.LINK_STATE 0 (n + 1)).modLane n fun l =>
    { l with leave := 0, test := true, deskIn := none, fill := 64, seen := 0, seenN := 0 }
  s.emit (s.testSource n)

/-- A lane that has left both active sets does what it left for: it trains afresh, or goes into its test (R102, R137). -/
def State.afterLeave (s : State) (n : Nat) : State :=
  let l := s.lane n
  if l.leave = 0 ∨ bit (s.txAct (s.portOf n)) (s.posTx n) ∨ s.inRx n then s
  else if l.leave = 1 then s.startTraining n
  else s.startTest n

/-- Round 1 of a superframe on a native port: ACTIVE narrows to the usable positions, goes over to those that are left, or the port goes
down (R98); a port whose lanes are all trained and received by the peer enters service (R96); a widening begins to wait (R100). -/
def State.round1 (s : State) (p : Nat) : State :=
  let ok := s.usable p
  let tx := s.txAct p
  if (s.lport p).up then
    let tx' := if tx &&& ok = 0 then ok else tx &&& ok
    let s := if tx' = tx then s else if tx' = 0 then s.portDown p else s.setActive p tx' (s.rxAct p)
    let s := forEach (s.portLanes p) (fun s n => s.afterLeave n) s
    if (s.lport p).up && clearBits ok tx' != 0 then s.modLPort p fun l => { l with widen := true } else s
  else
    let s := forEach (s.portLanes p) (fun s n => s.afterLeave n) s
    if ok = 2 ^ s.width p - 1 ∧ (s.portLanes p).all (fun n => (s.lane n).skewDone) then s.portUpNative p ok else s

/-- The ports of a group that have a lane of their own: those whose number is no other port's lane. -/
def State.groupPorts (s : State) (g : Nat) : List Nat := ([0, 1, 2, 3, 4, 5].map (6 * g + ·)).filter fun p => s.portOf p == p

/-- A lane sends blocks of its own: a lane under test only where neither a pattern nor recovered bits stand in their place (R136, R139). -/
def State.sends (s : State) (n : Nat) : Bool :=
  let l := s.lane n
  !l.removed && !s.laneIdled n && !l.failed && !l.aborted &&
    (!l.test || (s.obj O.LANE_LOOP (n + 1) != 3 && !bit (s.obj O.LANE_PRBS (n + 1)) 7))

/-- Rounds 0 and 1 of a superframe on one lane: SUPER, after which the scrambler is reseeded, then LANEMAP, or TRAIN in every block that
follows (R56, R57, R83, R84). -/
def State.laneSuperframe (s : State) (n : Nat) : State :=
  let p := s.portOf n
  if !s.sends n then s else
  let s := s.sendBlk p n (.ctl 0xAA (s.superBody n))
  let s := s.modLane n fun l => { l with scrambler := scrSeed (s.group (groupOf n)).sfc.toNat (s.posTx n) }
  if s.linkState n ≤ 6 then s.emit (.train n (s.trainBody n))
  else s.sendBlk p n (.ctl 0xCC (s.lanemapBody n))

/-- A superframe begins on a native group whose TPLL has locked: the first with count 0 (R57). -/
def State.superframe (s : State) (g : Nat) : State :=
  if !(s.group g).sfcOn || !s.tpllOk g || (s.group g).mode != 0 then s else
  let s := s.modGroup g fun r => { r with sfc := if r.sfRun then r.sfc + 1 else r.sfc, sfRun := true, sfAt := s.hearth.cycles }
  let s := forEach (s.groupPorts g) (fun s p =>
    (s.round1 p).modLPort p fun l => { l with sfSince := l.sfSince + 1 }) s
  forEach [0, 1, 2, 3, 4, 5] (fun s i => s.laneSuperframe (6 * g + i)) s

/-- A SUPER block is received (R56, R61): the descrambler is reseeded, and a lane in block lock advances (R83). A block
without the PATTERN is no SUPER. -/
def State.superIn (s : State) (n : Nat) (b : Body) (arrival : LineTime) : State :=
  if !s.native n || decide (s.linkState n < 2) || (s.lane n).test || blk b 63 16 != 0xC3A55A3C96E1 then s else
  let s := (s.sampled n arrival.codes).modLane n fun l =>
    { l with descr := scrSeed (blk b 119 88) (blk b 71 70), sfcRx := blk b 119 88, superN := l.superN + 1, superAt := arrival.tw }
  if s.linkState n = 2 then s.toState n 3 else s

def execSuperReceive (lane : Fin 48) (body : Body) (arrival : LineTime) (s : State) : Host.Outcome State Fault Refusal :=
  runKeep s (·.superIn lane body arrival)

/-- The lanes of a port that take part in an alignment: trained, or measuring their skew (R95). -/
def State.alignLanes (s : State) (p : Nat) : List Nat := (s.portLanes p).filter fun n => 7 ≤ s.linkState n

/-- The lanes of a port that are not yet aligned fail with reason SKEW (R95). -/
def State.skewFail (s : State) (p : Nat) : State :=
  forEach ((s.alignLanes p).filter fun n => !(s.lane n).aligned) (fun s n => s.failTraining n 5) s

/-- One round of a lane in the units of `lead` below: 130 UI in 2^-24 ns, times N and 2^16. -/
def State.roundScale (s : State) : Int := 130 * s.f0Period

/-- The lanes of a port are aligned on SUPER blocks of one SFC (R95): the last to arrive takes D = 0, each other its lead
in whole rounds; more than DESKEW_MAX rounds, unequal SFC or LANEMAP fields that disagree fail the training. Before the
port is in service all its lanes take part. A lane whose depth is fixed keeps it, and one that trains later is held against it. Unequal
SFC are waited out until every lane has received two SUPER blocks since it entered SKEW_MEASURE (log entry 46). -/
def State.alignPort (s : State) (p : Nat) : State :=
  let ls := s.alignLanes p
  let all := (s.lport p).up || ls.length == s.width p
  if !all || ls.all (fun n => (s.lane n).aligned) || ls.any (fun n => (s.lane n).deskIn.isNone) then s else
  match ls with
  | [] => s
  | n0 :: _ =>
    let l0 := s.lane n0
    if ls.any fun n => (s.lane n).deskIn != l0.deskIn then s.skewFail p
    else if ls.any fun n => (s.lane n).sfcRx != l0.sfcRx then
      (if ls.all fun n => 2 ≤ (s.lane n).superN then s.skewFail p else s)
    else
      let fixed := ls.filter fun n => (s.lane n).aligned
      let new := ls.filter fun n => !(s.lane n).aligned
      let at_ (n : Nat) : Int := tdiff56 (s.lane n).superAt l0.superAt * s.portN p * 65536
      let base := if fixed = [] then maxI (ls.map at_) else maxI (fixed.map fun n => at_ n + s.obj O.LINK_DESKEW (n + 1) * s.roundScale)
      let bad := new.any fun n => decide (base < at_ n ∨ s.obj O.DESKEW_MAX * s.roundScale < base - at_ n)
      if bad then s.skewFail p
      else forEach new (fun s n =>
        ((s.setObj O.LINK_DESKEW ((base - at_ n) / max 1 s.roundScale).toNat (n + 1)).modLane n fun l => { l with aligned := true }).setLat n) s

/-- A LANEMAP block is received (R94): the lane's POS, the peer's active set and RX_OK, and the peer's identity. The
receive active set follows it, and the timing lane with the sets (R98, R99). -/
def State.lanemapIn (s : State) (n : Nat) (b : Body) : State :=
  if !s.native n || decide (s.linkState n < 6) || (s.lane n).test then s else
  let p := s.portOf n
  let s := (s.rxLane n).modLane n fun l =>
    { l with posRx := blk b 119 118, deskIn := some (blk b 105 96, blk b 117 116, blk b 89 89) }
  let s := s.modLPort p fun l => { l with peerAct := blk b 115 112, peerOk := blk b 111 108 }
  let s := s.setObj O.PORT_PEER (blk b 89 89 * 2 ^ 31 + blk b 105 96) (p + 1)
  let s := s.alignPort p
  let rx := (s.portLanes p).foldl (fun m k =>
    let l := s.lane k
    if l.deskIn.isSome && decide (8 ≤ s.linkState k || l.removed) && bit (blk b 115 112) l.posRx then m ||| 2 ^ l.posRx else m) 0
  s.setActive p (s.txAct p) rx

def execLanemapReceive (lane : Fin 48) (body : Body) (s : State) : Host.Outcome State Fault Refusal :=
  runKeep s (·.lanemapIn lane body)

/-- A code of TX_TAPS (R140). -/
def tapAt (v hi lo : Nat) : Int := toSigned 8 (bits v hi lo)

/-- TX_TAPS of three tap codes. -/
def tapsOf (cm1 c0 cp1 : Int) : Nat := ofSigned 8 cm1 * 65536 + ofSigned 8 c0 * 256 + ofSigned 8 cp1

/-- The ranges and constraints of R119. -/
def tapsOk (cm1 c0 cp1 : Int) : Bool :=
  decide (-15 ≤ cm1 ∧ cm1 ≤ 0 ∧ 23 ≤ c0 ∧ c0 ≤ 63 ∧ -23 ≤ cp1 ∧ cp1 ≤ 0 ∧ -cm1 + c0 - cp1 ≤ 63 ∧ 8 ≤ c0 + cm1 + cp1)

/-- One tap's request (R85, R121): the new taps and the new status. `i` is 0 for C−1, 1 for C0, 2 for C+1. A request is
applied once, while the status is NOT_UPDATED; HOLD and the reserved code answer NOT_UPDATED. -/
def tapRequest (taps i req st : Nat) : Nat × Nat :=
  if req = 0 ∨ req = 3 then (taps, 0) else if st ≠ 0 then (taps, st) else
  let d : Int := if req = 1 then 1 else -1
  let a := tapAt taps 23 16 + (if i = 0 then d else 0)
  let b := tapAt taps 15 8 + (if i = 1 then d else 0)
  let c := tapAt taps 7 0 + (if i = 2 then d else 0)
  if tapsOk a b c then (tapsOf a b c, 1) else (taps, if req = 1 then 3 else 2)

/-- The transmitter's side of a TRAIN block (R85, R120, R121): presets, or the three requests in the order C−1, C0, C+1
(log entry 13). -/
def State.tapHandshake (s : State) (n : Nat) (b : Body) : State :=
  let init := blk b 115 113
  let t := s.obj O.TX_TAPS (n + 1)
  let l := s.lane n
  if init = 1 ∨ init = 2 then
    (s.setObj O.TX_TAPS (if init = 1 then tapsOf 0 63 0 else s.obj O.TX_TAP_INIT (n + 1)) (n + 1)).modLane n fun l =>
      { l with stCm1 := 1, stC0 := 1, stCp1 := 1 }
  else if init ≠ 0 then s
  else
    let (t, a) := tapRequest t 0 (blk b 112 111) l.stCm1
    let (t, b0) := tapRequest t 1 (blk b 110 109) l.stC0
    let (t, c) := tapRequest t 2 (blk b 108 107) l.stCp1
    (s.setObj O.TX_TAPS t (n + 1)).modLane n fun l => { l with stCm1 := a, stC0 := b0, stCp1 := c }

/-- A receiver's own request (R85): held until the status leaves NOT_UPDATED, then HOLD; a new one only from HOLD, once the
status has returned. -/
def nextRequest (held st want : Nat) : Nat := if held ≠ 0 then (if st ≠ 0 then 0 else held) else if st = 0 then want else 0

/-- A code held within a range. -/
def clampTo (lo hi v : Int) : Int := if v < lo then lo else if hi < v then hi else v

/-- The range of element `i` of RX_EQ: 0 CTLE, 1 VGA, 2 to 13 h1 to h12; h5 to h12 are held at 0 in PAM4 modes (R123). -/
def eqRange (pam4 : Bool) (i : Nat) : Int × Int :=
  if i = 0 then (0, 15) else if i = 1 then (0, 31) else if i = 2 then (-63, 63) else if i ≤ 5 then (-31, 31)
  else if pam4 then (0, 0) else (-15, 15)

/-- The modulation of a lane's group is PAM4 (R108). -/
def State.pam4 (s : State) (n : Nat) : Bool := (s.group (groupOf n)).mode == 3

/-- Fourteen codes of R123 within their ranges. -/
def State.eqCodes (s : State) (n : Nat) (l : List Int) : List Int :=
  (List.range 14).map fun i => let r := eqRange (s.pam4 n) i; clampTo r.1 r.2 (l.getD i 0)

/-- The rail of an element: the nearer of the trained value ± 8 codes and the element's range limit (R127). -/
def railOf (pam4 : Bool) (i : Nat) (trained : Int) : Int × Int :=
  let r := eqRange pam4 i
  (max r.1 (trained - 8), min r.2 (trained + 8))

/-- A VGA or DFE element stands on its rail (R127). -/
def State.onRail (s : State) (n i : Nat) (v : Int) : Bool :=
  let r := railOf (s.pam4 n) i ((s.lane n).trained.getD i 0)
  decide (1 ≤ i ∧ r.1 < r.2) && (v == r.1 || v == r.2)

/-- The octets of RX_EQ and RX_EQ_TRAINED: 14 codes and two octets of 0 (R128, R140). -/
def eqBytes (l : List Int) : Bytes := ((List.range 14).map fun i => BitVec.ofInt 8 (l.getD i 0)) ++ [0, 0]

/-- RX_READY is entered: the values found become the trained values, the rails centre on them (R127), and ADAPT_MODE governs (R125, R129).
An element that stands at its range limit has arrived at its rail. -/
def State.enterReady (s : State) (n : Nat) (eq : List Int) : State :=
  let v := s.eqCodes n eq
  let s := s.modLane n fun l => { l with eq := v, trained := v, mode := s.obj O.ADAPT_MODE (n + 1) }
  if (List.range 14).any fun i => s.onRail n i (v.getD i 0) then s.raise O.LANE_FLAGS 5 (n + 1) else s

/-- The codes of a receiver in ADAPT: those that it has found, unless the diversity monitor holds it (R125, R126). -/
def State.found (s : State) (n : Nat) (rx : RxFinding) : List Int := if (s.lane n).divFrozen then (s.lane n).eq else rx.eq

/-- A receiver's own tap requests (R85), which it makes in TAP_TRAIN, and RXSTATE as it receives it. -/
def State.tapWishes (s : State) (n : Nat) (b : Body) (rx : RxFinding) : State :=
  let want (r : BitVec 2) : Nat := if s.linkState n = 4 then r.toNat % 3 else 0
  s.modLane n fun l =>
    { l with peerRx := blk b 119 116, reqCm1 := nextRequest l.reqCm1 (blk b 106 105) (want rx.reqCm1),
             reqC0 := nextRequest l.reqC0 (blk b 104 103) (want rx.reqC0),
             reqCp1 := nextRequest l.reqCp1 (blk b 102 101) (want rx.reqCp1) }

/-- A receiver requests no more changes of the taps (R86). -/
def State.noWishes (s : State) (n : Nat) (rx : RxFinding) : Bool :=
  let l := s.lane n
  decide (l.reqCm1 = 0 ∧ l.reqC0 = 0 ∧ l.reqCp1 = 0 ∧ rx.reqCm1 = 0 ∧ rx.reqC0 = 0 ∧ rx.reqCp1 = 0)

/-- A lane in ADAPT (R86, R125, R126): its elements stand where the receiver has found them, and once it has converged it enters RX_READY. -/
def State.adapting (s : State) (n : Nat) (rx : RxFinding) : State :=
  let v := s.found n rx
  let s := s.modLane n fun l => { l with eq := s.eqCodes n v }
  if rx.converged then
    let s := s.toState n 6
    if s.linkState n = 6 then s.enterReady n v else s
  else s

/-- The receiver's side of a TRAIN block (R85, R86): the lane advances by at most one state. -/
def State.trainAdvance (s : State) (n : Nat) (b : Body) (rx : RxFinding) : State :=
  let s := s.tapWishes n b rx
  match s.linkState n with
  | 3 => s.toState n 4
  | 4 => if s.noWishes n rx then s.toState n 5 else s
  | 5 => s.adapting n rx
  | 6 => s.modLane n fun l => { l with readyRun := if l.peerRx = 6 then l.readyRun + 1 else 0 }
  | _ => s

/-- Nothing holds a lane of an Ethernet group out of service (R118, R137, R198, R471, R524). -/
def State.ethFree (s : State) (n : Nat) : Bool :=
  let l := s.lane n
  !s.native n && s.tpllOk (groupOf n) && !l.test && !l.removed && !l.aborted && !s.laneIdled n

/-- PORT_IFACE of a lane's port is KR_CR (R115). -/
def State.krCr (s : State) (n : Nat) : Bool := s.obj O.PORT_IFACE (s.portOf n + 1) == 1

/-- A lane of an Ethernet group on its way to RX_READY (R115, R118, R121). KR_CR: a training frame of the clause, its coefficients mapped onto
the taps and given in the fields of R84 (log entry 51). C2M: no training runs, the taps stay, and the receiver adapts alone. -/
def State.ethTrain (s : State) (n : Nat) (b : Body) (rx : RxFinding) : State :=
  let kr := s.krCr n
  let s := if kr then (s.tapHandshake n b).tapWishes n b rx else s
  match s.linkState n with
  | 1 => s.setObj O.LINK_STATE (if kr then 4 else 5) (n + 1)
  | 4 => if s.noWishes n rx then s.setObj O.LINK_STATE 5 (n + 1) else s
  | 5 => s.adapting n rx
  | _ => s

/-- A TRAIN block is received by a lane whose descrambler is seeded (R84 to R86). A RATE_N that is not the lane's own N
fails the training (R83). What this lane sends in its TRAIN blocks follows. -/
def State.trainIn (s : State) (n : Nat) (b : Body) (rx : RxFinding) : State :=
  let st := s.linkState n
  if s.ethFree n then s.ethTrain n b rx
  else if !s.training n || decide (st < 3) || decide (6 < st) then s
  else if blk b 99 88 ≠ s.portN n then s.failTraining n 3
  else
    let was := s.trainBody n
    let s := ((s.rxLane n).tapHandshake n b).trainAdvance n b rx
    if s.trainBody n = was then s else s.emit (.train n (s.trainBody n))

def execTrainReceive (lane : Fin 48) (body : Body) (rx : RxFinding) (s : State) : Host.Outcome State Fault Refusal :=
  runKeep s (·.trainIn lane body rx)

/-- The open frame of a port's receive direction is dropped (R101). The frame itself comes as FRAME_RECEIVE, ended by a
link error (log entry 14). -/
def State.dropOpen (s : State) (p : Nat) : State :=
  s.modLPort p fun l => { l with rxOpen := none, rxLost := if l.rxOpen.isSome then l.rxOpen else l.rxLost }

/-- CLASS and TAG of a START or CONT (R63, R64). -/
def frameKey (b : Body) : Nat := blk b 119 104 - blk b 119 104 % 8192 + blk b 115 104

/-- A CONT that does not resume the open frame is discarded (R101). -/
def State.badCont (s : State) (p type : Nat) (b : Body) : Bool := type == 0x33 && (s.lport p).rxOpen != some (frameKey b)

/-- A START opens a frame, a CONT resumes one (R67, R68): one out of sequence is counted (R101). -/
def State.frameSeq (s : State) (p type : Nat) (b : Body) : State :=
  let open_ := (s.lport p).rxOpen
  if type = 0x2D then
    (if open_.isSome then (s.count O.FRAME_SEQ_ERR (p + 1)).dropOpen p else s).modLPort p fun l => { l with rxOpen := some (frameKey b) }
  else if s.badCont p type b then (s.count O.FRAME_SEQ_ERR (p + 1)).dropOpen p
  else s

/-- The credit field of a received block: the last CR_COUNT of its class is kept (R69). -/
def State.creditTake (s : State) (p : Nat) (b : Body) : State :=
  if !(s.lport p).up || blk b 31 29 == 7 then s
  else s.modLPort p fun l => { l with crIn := Tab.set l.crIn 0 (blk b 31 29) (blk b 28 16) }

/-- A block with a credit field is received (R62 to R64): the credit is taken unless the block is discarded (R101). -/
def State.creditIn (s : State) (p type : Nat) (b : Body) : State :=
  if !s.native p || !(s.lport p).up || !(type == 0x1E || type == 0x2D || type == 0x33) then s else
  let lost := s.badCont p type b
  let s := (s.rxPort p 1).frameSeq p type b
  if lost then s else s.creditTake p b

def execCreditReceive (port : Fin 48) (type : Byte) (body : Body) (s : State) : Host.Outcome State Fault Refusal :=
  runKeep s (·.creditIn port type.toNat body)

/-- Blocks that the peer still places on a lane that is lost count as ERASED (R97): its last LANEMAP holds the lane's position. -/
def State.erases (s : State) (n : Nat) : Bool :=
  let l := s.lport (s.portOf n)
  l.up && decide (s.linkState n < 8) && bit l.peerAct (s.lane n).posRx

/-- The delays of a pattern's recurrence: each bit is the sum of the bits that many places before it (R139). PRBS13Q is x^13 + x^12 + x^2 +
x + 1, PRBS31Q is PRBS31, both Gray coded, as IEEE 802.3 Clause 120 defines them (log entry 52). -/
def prbsTaps (code : Nat) : List Nat :=
  match code with
  | 0 => [7, 6]
  | 1 => [9, 5]
  | 2 => [15, 14]
  | 3 => [23, 18]
  | 5 => [13, 12, 2, 1]
  | _ => [31, 28]

/-- `n` bits, the most significant first. -/
def bitsMsb (n v : Nat) : List Bool := (List.range n).map fun i => v.testBit (n - 1 - i)

/-- The bits of PAM4 symbols, Gray coded: levels 0 to 3 stand for 00, 01, 11, 10. -/
def grayBits : List Bool → List Bool
  | a :: b :: r => a :: Bool.xor a b :: grayBits r
  | l => l

/-- The self-synchronising checker (R139): each bit against the recurrence over the bits received before it, once there are enough. -/
def prbsCheck (taps : List Nat) : List Bool → Nat → Nat → List Bool × Nat × Nat
  | [], seen, n => ([], seen, n)
  | b :: r, seen, n =>
    let want := taps.foldl (fun a t => Bool.xor a (seen.testBit (t - 1))) false
    let x := prbsCheck taps r ((2 * seen + b2n b) % 2 ^ 31) (min 31 (n + 1))
    ((decide (taps.headD 0 ≤ n) && want != b) :: x.1, x.2)

/-- How many symbols of two bits hold an error. -/
def pairErrors : List Bool → Nat
  | a :: b :: r => b2n (a || b) + pairErrors r
  | l => l.countP id

/-- 130 received bits of a lane under test come to the checker, if it is on (R139): LANE_PRBS_ERR counts bit errors, or symbol errors in PAM4
modes. In NEAR_PARALLEL nothing comes from outside (R136). -/
def State.checkPattern (s : State) (n : Nat) (block : BitVec 130) : State :=
  let v := s.obj O.LANE_PRBS (n + 1)
  if !bit v 6 || s.obj O.LANE_LOOP (n + 1) == 2 then s else
  let l := s.lane n
  let w := bitsMsb 130 (invert (bit (s.obj O.LANE_POLARITY (n + 1)) 0) block.toNat)
  let pam := (s.group (groupOf n)).mode == 3
  let x := prbsCheck (prbsTaps (v % 8)) (if pam then grayBits w else w) l.seen l.seenN
  (s.modLane n fun l => { l with seen := x.2.1, seenN := x.2.2 }).count O.LANE_PRBS_ERR (n + 1)
    (if pam then pairErrors x.1 else x.1.countP id)

/-- A block that is not received well (R53, R58, R60, R97, R101), judged from its 130 bits at the ball. It drops the open frame where the
port stream is read from its lane. -/
def State.blockError (s : State) (n : Nat) (block : BitVec 130) : State :=
  let v := s.received n block.toNat
  let p := s.portOf n
  let hdr := v / 2 ^ 128
  let type := bits v 127 120
  if (s.lane n).test then s.checkPattern n block
  else if !s.native n then s
  else if s.erases n then (s.count O.ERASED (n + 1)).dropOpen p
  else if s.linkState n < 2 then s
  else
    let s := s.rxLane n
    let drop (s : State) : State := if s.inRx n then s.dropOpen p else s
    if hdr = 0 ∨ hdr = 3 then drop (s.count O.HDR_ERR (n + 1))
    else if hdr = 1 then (if s.inRx n && (s.lport p).rxOpen.isNone then s.count O.ORPHAN (p + 1) else s)
    else if chk type (bits v 119 16) ≠ bits v 15 0 then drop (s.count O.CHK_ERR (n + 1))
    else if reservedTypes.contains type then
      let s := s.count O.UNKNOWN_TYPE (n + 1)
      if s.inRx n then s.creditTake p (BitVec.ofNat 104 (bits v 119 16)) else s
    else if blockTypes.contains type then s
    else drop (s.count O.CHK_ERR (n + 1))

def execBlockError (lane : Fin 48) (block : BitVec 130) (s : State) : Host.Outcome State Fault Refusal :=
  runKeep s (·.blockError lane block)

/-- The lane that carries TIME on a port (R99). -/
def State.timingLane (s : State) (p : Nat) : Nat := p + s.obj O.PORT_TIMING_POS (p + 1)

/-- The Hearth time at which a block whose selector cycle is now crosses the ball of lane `n` (R79). -/
def State.departs (s : State) (n : Nat) : Time56 := s.departsAt n s.now

/-- The body of a TIME block (R78). -/
def timeBody (kind seq : Nat) (ts : Time56) (turn : Nat) : Nat :=
  fld 118 2 kind + fld 112 6 seq + fld 56 56 ts.toNat + fld 16 40 turn

/-- The lanes of a port that are measuring their skew (R96). -/
def State.skewLanes (s : State) (p : Nat) : List Nat := (s.portLanes p).filter fun n => s.linkState n == 7

/-- A REQ is due: PORT_TIME_INTERVAL superframes after the last, or at the cadence of SKEW_MEASURE (R80, R96). -/
def State.reqDue (s : State) (p : Nat) : Bool :=
  (s.lport p).up && decide (s.obj O.PORT_TIME_INTERVAL (p + 1) ≤ (s.lport p).sfSince)

/-- The lanes on which REQs of R96 are sent: before the port is in service, once all its lanes are in SKEW_MEASURE. -/
def State.measuring (s : State) (p : Nat) : List Nat :=
  if (s.lport p).up || (s.skewLanes p).length == s.width p then s.skewLanes p else []

/-- A REQ is sent (R80): on the lane that carries TIME, where its TS is kept as t1 with the lane, and on each lane that measures its skew
(R96). On an endpoint port a SET is then due (R81). -/
def State.reqSend (s : State) (p : Nat) : State :=
  if !s.native p then s else
  let skew := s.measuring p
  let due := s.reqDue p
  if !due && skew == [] then s else
  let seq := (s.port p).reqSeq % 64
  let n := s.timingLane p
  let req (k : Nat) : Nat × Nat := (k, timeBody 0 seq (s.departs k) 0)
  let own := (s.lport p).up && s.obj O.PORT_TIME_ROLE (p + 1) != 2
  let t := s.timeRound p (skew.map req ++ if own then [req n] else [])
  let t := t.modPort p fun q => { q with reqSeq := (seq + 1) % 64, req := if own then some (seq, s.departs n, n) else q.req }
  if own && due then t.modLPort p fun l => { l with sfSince := 0, setDue := bit (s.obj O.PORT_PEER (p + 1)) 31 } else t

/-- The exchanges of a group pause while its steward restarts (R448). -/
def execTimeReqSend (port : Fin 48) (s : State) : Host.Outcome State Fault Refusal :=
  runKeep s fun s => if s.engUp (groupOf port) then s.reqSend port else s

/-- A REQ is decoded: its RESP becomes due, and an older unanswered REQ is replaced (R80). One that comes on a lane in SKEW_MEASURE is
answered on that lane (R96). -/
def State.reqIn (s : State) (p : Nat) (b : Body) (time : Arrival) : State :=
  let n := p + time.lane
  if !s.native p || blk b 119 118 != 0 || !((s.lport p).up || s.linkState n == 7) then s else
  let s := (s.rxLane n).sampled n time.codes
  let req := some (blk b 117 112, s.arrival n time.tw)
  if s.linkState n = 7 then s.modLane n fun l => { l with peerReq := req } else s.modPort p fun t => { t with peer := req }

def execTimeReqReceive (port : Fin 48) (body : Body) (arrival : Arrival) (s : State) : Host.Outcome State Fault Refusal :=
  runKeep s (·.reqIn port body arrival)

/-- The RESP on lane `n` to a REQ (R78, R80): TS is t3, and TURN t3 less its arrival; after 65,536 ns there is none. TURN of exactly
65,536 ns is in the range stated and does not fit its 40 bits: the field reads 0 then (log entry 47). -/
def State.respTo (s : State) (n : Nat) : Option (Nat × Time56) → List (Nat × Nat)
  | none => []
  | some (seq, t2) =>
    let turn := tdiff56 (s.departs n) t2
    if 0 ≤ turn ∧ turn ≤ 65536 * 2 ^ 24 then [(n, timeBody 1 seq (s.departs n) turn.toNat)] else []

/-- The lanes in SKEW_MEASURE on which a REQ waits for its RESP (R96). -/
def State.askedLanes (s : State) (p : Nat) : List Nat := (s.skewLanes p).filter fun n => (s.lane n).peerReq.isSome

/-- A RESP is sent for each REQ that waits (R80, R96): on the lane that carries TIME, and on the lanes that measure their skew. -/
def State.respSend (s : State) (p : Nat) : State :=
  let lanes := s.askedLanes p
  let lv := lanes.flatMap (fun n => s.respTo n (s.lane n).peerReq) ++ s.respTo (s.timingLane p) (s.port p).peer
  let s := s.timeRound p lv
  let s := s.modPort p fun t => { t with peer := none }
  forEach lanes (fun s n => s.modLane n fun l => { l with peerReq := none }) s

def execTimeRespSend (port : Fin 48) (s : State) : Host.Outcome State Fault Refusal := runKeep s (·.respSend port)

/-- A REQ that arrived at `t2` can no more be answered within 65,536 ns on lane `n` (R80). -/
def State.tooOld (s : State) (n : Nat) (t2 : Time56) : Bool := decide (65536 * 2 ^ 24 < tdiff56 (s.departs n) t2)

/-- A REQ that has not been answered within 65,536 ns is dropped unanswered (R80): that of each lane in SKEW_MEASURE that is so old; where
there is none, the one that waits on the port. -/
def State.reqDrop (s : State) (p : Nat) : State :=
  match (s.askedLanes p).filter fun n => (s.lane n).peerReq.any fun r => s.tooOld n r.2 with
  | [] => s.modPort p fun t => { t with peer := none }
  | l => forEach l (fun s n => s.modLane n fun l => { l with peerReq := none }) s

def execTimeReqDrop (port : Fin 48) (s : State) : Host.Outcome State Fault Refusal := runKeep s (·.reqDrop port)

/-- A SET is sent to an endpoint (R81, R146): its TS is the departure time and d_out = (δ − A) / 2 of the latest accepted
exchange, once the first delay measurement is complete (R559). The spec gives SEQ a meaning in REQ and RESP alone: SET sends 0 (log entry
48). -/
def State.setSend (s : State) (p : Nat) : State :=
  if !s.native p || !(s.lport p).up || !(s.lport p).setDue || !s.epAllowed p then s else
  let s := s.modLPort p fun l => { l with setDue := false }
  if !(s.port p).complete then s else
  let n := s.timingLane p
  let d := roundDiv (s.objI O.PORT_DELTA (p + 1) - s.objI O.PORT_ASYM (p + 1)) 2
  s.timeRound p [(n, timeBody 2 0 (s.departs n + BitVec.ofInt 56 d) 0)]

def execSetSend (port : Fin 48) (s : State) : Host.Outcome State Fault Refusal := runKeep s (·.setSend port)

/-- A receiver's CDR locks: the lane enters CDR_LOCK and its bit-slip search begins (R82, R87). -/
def State.cdrLock (s : State) (n : Nat) : State :=
  if s.linkState n ≠ 0 ∨ (s.lane n).removed ∨ (s.lane n).test ∨ s.laneIdled n ∨ (s.group (groupOf n)).mode = 0xFF then s
  else if s.native n then
    (if s.training n then (s.calBusyLane n).toState n 1 |>.modLane n fun l => { l with slip := 0, decided := false } else s)
  else if s.ethFree n then (s.calBusyLane n).setObj O.LINK_STATE 1 (n + 1) else s

def execCdrLock (lane : Fin 48) (s : State) : Host.Outcome State Fault Refusal := runKeep s (·.cdrLock lane)

/-- A header is 0b01 or 0b10 (R53). -/
def headerValid (h : BitVec 2) : Bool := h == 1 || h == 2

/-- 64 consecutive valid headers have been seen at a position (R87). -/
def positionOk (hs : List (BitVec 2)) : Bool := decide (64 ≤ hs.length) && hs.all headerValid

/-- The search goes on over positions from the present one (R87): the first at which 64 consecutive headers are valid is the decision point
(R89); block lock that is not found over all 130 positions fails the training (R83). `tried` holds the headers seen at each position. -/
def State.bitslip (s : State) (n : Nat) (tried : List (List (BitVec 2))) : State :=
  if !s.training n || s.linkState n != 1 || (s.lane n).decided then s else
  let from_ := (s.lane n).slip
  let found := (tried.take (130 - from_)).findIdx? positionOk
  match found with
  | some i => s.modLane n fun l => { l with decided := true, slip := from_ + i }
  | none =>
    if 130 ≤ from_ + tried.length then s.failTraining n 1 else s.modLane n fun l => { l with slip := from_ + tried.length }

def execBitslipDecision (lane : Fin 48) (headers : List (List (BitVec 2))) (s : State) : Host.Outcome State Fault Refusal :=
  runKeep s (·.bitslip lane headers)

/-- A lane of a group reaches BLOCK_LOCK: the probe of AUTO has found the group's mode (R517). -/
def State.settle (s : State) (g : Nat) : State := s.modGroup g fun r => { r with settled := true }

/-- Confirmation over 4,096 blocks ends (R87): at most 16 invalid headers fix the slip count, more send the search on at the next position,
and after position 129 there is no block lock (R83). An Ethernet lane that has reached RX_READY has the locks that its mode requires (R118). -/
def State.lockConfirm (s : State) (n : Nat) (headers : List (BitVec 2)) : State :=
  let l := s.lane n
  let bad := headers.countP fun h => !headerValid h
  if s.ethFree n then (if s.linkState n = 6 ∧ bad ≤ 16 then (s.setObj O.LINK_STATE 2 (n + 1)).settle (groupOf n) else s)
  else if !s.training n || s.linkState n != 1 || !l.decided then s
  else if bad ≤ 16 then
    let s := ((s.setObj O.LINK_SLIP l.slip (n + 1)).modLane n fun l => { l with superN := 0 }).toState n 2
    if s.linkState n = 2 then s.settle (groupOf n) else s
  else if l.abortWait then s.abortTraining n
  else if 129 ≤ l.slip then s.failTraining n 1
  else s.modLane n fun l => { l with slip := l.slip + 1, decided := false }

def execBlockLockConfirm (lane : Fin 48) (headers : List (BitVec 2)) (s : State) : Host.Outcome State Fault Refusal :=
  runKeep s (·.lockConfirm lane headers)

/-- No SUPER within 3 superframes of block lock: training fails with NO_SUPER (R83). -/
def execSuperSearchTimeout (lane : Fin 48) (s : State) : Host.Outcome State Fault Refusal :=
  runKeep s fun s => if s.training lane && s.linkState lane == 2 then s.failTraining lane 2 else s

/-- The whole sequence exceeds TRAIN_TIMEOUT: training fails with TIMEOUT (R83). -/
def execTrainTimeout (lane : Fin 48) (s : State) : Host.Outcome State Fault Refusal :=
  runKeep s fun s => if s.training lane then s.failTraining lane 4 else s

/-- One second after a failure training starts again, unless software has written ABORT (R83). -/
def execTrainingRetry (lane : Fin 48) (s : State) : Host.Outcome State Fault Refusal :=
  runKeep s fun s => if (s.lane lane).failed && !(s.lane lane).aborted then s.startTraining lane else s

/-- A lane ends training (R86): its latency record takes the new S; the lane of a one-lane port is READY, a lane of a
bonded port goes to SKEW_MEASURE, where its port is aligned on the blocks that follow (R91, R95, R96). Lanes of a port out of service that
were READY go back to SKEW_MEASURE with it, since the lanes are measured together (log entry 49). -/
def State.trained (s : State) (n : Nat) : State :=
  let p := s.portOf n
  if !s.training n || s.linkState n != 6 || decide ((s.lane n).readyRun < 8) then s
  else if (s.lane n).abortWait then s.abortTraining n
  else
    let s := (s.setObj O.LINK_DESKEW 0 (n + 1)).setLat n
    if s.width p = 1 then ((s.setObj O.LINK_LANE_SKEW 0 (n + 1)).setLat n).laneReady n
    else
      let s := (s.toState n 7).modLane n fun l => { l with superN := 0, deskIn := none }
      if (s.lport p).up then s
      else forEach ((s.alignLanes p).filter fun k => 8 ≤ s.linkState k) (fun s k =>
        (s.setObj O.LINK_STATE 7 (k + 1)).modLane k fun l => { l with skewDone := false }) s

def execTrainingComplete (lane : Fin 48) (s : State) : Host.Outcome State Fault Refusal := runKeep s (·.trained lane)

/-- Block lock is lost (R88): a lane in service is lost (R97); a lane in training starts its search anew, or is ABORTED at this change of
state where an ABORT waits (R89). -/
def State.lockLoss (s : State) (n : Nat) : State :=
  if s.linkState n < 2 ∨ (s.lane n).test then s
  else if 8 ≤ s.linkState n ∨ !s.native n then s.laneLost n
  else if (s.lane n).abortWait then s.abortTraining n
  else if s.training n then s.startTraining n else s

def execBlockLockLoss (lane : Fin 48) (_cause : LockLoss) (s : State) : Host.Outcome State Fault Refusal :=
  runKeep s (·.lockLoss lane)

/-- No Caravan cell is in progress on a port, or due within ceil(5 / W_new) + 2 rounds (R100), the present round counted from the start of
the schedule cycle. -/
def State.caravanIdle (s : State) (p w : Nat) : Bool :=
  let r := (tdiff56 s.now s.caravan.cycleAt * s.portN p * 65536 / max 1 s.roundScale).toNat
  let far := cellRounds (max 1 w) + 2
  (s.plan p).all fun e =>
    decide ((r + far < e.round ∨ e.round + cellRounds (max 1 (s.txWidth p)) + 2 ≤ r) ∧ r + far < e.round + s.rounds p)

/-- An idle boundary of a port (R100): no frame is open, and no cell in progress or due. -/
def State.idleBoundary (s : State) (p w : Nat) : Bool :=
  (s.lport p).frame.isNone && (s.sending p).isNone && s.caravanIdle p w

/-- A round 1 that is an idle boundary: a retrained lane that the peer receives joins ACTIVE (R100). -/
def State.readmit (s : State) (n : Nat) : State :=
  let p := s.portOf n
  if !(s.lport p).up || !bit (s.usable p) (n - p) || !(s.lane n).skewDone || bit (s.txAct p) (n - p) ||
    !s.idleBoundary p (s.txWidth p + 1) then s else
  let s := s.setActive p (s.txAct p ||| 2 ^ (n - p)) (s.rxAct p)
  let more := clearBits (s.usable p) (s.txAct p) != 0
  s.modLPort p fun l => { l with widen := more, forced := l.forced && more }

def execLaneReadmit (lane : Fin 48) (s : State) : Host.Outcome State Fault Refusal := runKeep s (·.readmit lane)

/-- READMIT_FORCE passes while a widening waits: the next START is held until an idle boundary (R100). -/
def execReadmitForceExpire (port : Fin 48) (s : State) : Host.Outcome State Fault Refusal :=
  runKeep s fun s => if (s.lport port).widen then s.modLPort port fun l => { l with forced := true } else s

/-- A lane is to leave service, for a training (1) or a test (2): in an active set of a bonded port it first leaves ACTIVE at the next
round 1, and RX_OK, so that no blocks are lost; a one-lane or Ethernet port goes down (R102, R137). -/
def State.leaveService (s : State) (n why : Nat) : State :=
  let p := s.portOf n
  let go (s : State) : State :=
    if why = 1 then s.startTraining n
    else s.startTest n
  if (s.lport p).up && s.native n && s.width p != 1 && (bit (s.txAct p) (n - p) || s.inRx n) then s.modLane n fun l => { l with leave := why }
  else if (s.lport p).up && (s.width p == 1 || !s.native n) then go (s.portDown p)
  else go s

/-- LINK_CMD RETRAIN (R102, R103): refused while a command is BUSY. It brings back a lane removed from service (R471). -/
def State.retrain (s : State) (n : Nat) : State :=
  if s.status O.LINK_CMD_STATUS (n + 1) = 1 then s else
  let s := (s.cmdStatus O.LINK_CMD_STATUS (n + 1) 1 1).modLane n fun l =>
    { l with aborted := false, failed := false, removed := false, lowWarn := 0, lowFloor := 0, degraded := false }
  s.leaveService n 1

def execRetrain (lane : Fin 48) (s : State) : Host.Outcome State Fault Refusal := runKeep s (·.retrain lane)

/-- LINK_CMD ABORT (R83, R89, R103). Recorded in the decision cycle it loses: the search completes, and training goes on. A RETRAIN that
waits for its round 1 is taken back. After the decision point it stops training at the next state change; before it, between retries, and
while the lane cannot train, at once. With nothing to stop it is refused (log entry 13). -/
def State.linkAbort (s : State) (n : Nat) (coincident : Bool) : State :=
  let l := s.lane n
  let sub := n + 1
  if coincident && l.decided && s.linkState n == 1 then s.abortLate O.LINK_CMD_STATUS sub 2 O.LINK_FLAGS 5 sub
  else if l.leave = 1 then (s.cmdStatus O.LINK_CMD_STATUS sub 2 3).modLane n fun l => { l with leave := 0 }
  else if l.failed || (s.training n && s.linkState n == 0) || (s.training n && s.linkState n == 1 && !l.decided) then
    (s.cmdStatus O.LINK_CMD_STATUS sub 2 1).abortTraining n
  else if s.training n then (s.cmdStatus O.LINK_CMD_STATUS sub 2 1).modLane n fun l => { l with abortWait := true }
  else if s.status O.LINK_CMD_STATUS sub = 1 then (s.cmdStatus O.LINK_CMD_STATUS sub 2 1).abortTraining n
  else s.cmdStatus O.LINK_CMD_STATUS sub 2 4

def execLinkAbort (lane : Fin 48) (coincident : Bool) (s : State) : Host.Outcome State Fault Refusal :=
  runKeep s (·.linkAbort lane coincident)

/-- A lane is removed from service (R471): cleared from RX_OK, so that a bonded port narrows by R98; a one-lane or Ethernet
port goes down. -/
def State.removeLane (s : State) (n : Nat) : State :=
  let p := s.portOf n
  let s := if (s.lport p).up && (s.width p == 1 || !s.native n) then s.portDown p else s
  (s.setObj O.LINK_STATE 0 (n + 1)).modLane n fun l => { l with removed := true }

/-- A lane goes to electrical idle (R524): a bonded native port loses it, an Ethernet port goes down. -/
def State.idleLane (s : State) (n : Nat) : State :=
  let s := if 8 ≤ s.linkState n then s.laneLost n else s.startTraining n
  s.modPower fun w => { w with idled := n :: w.idled.filter (· != n) }

/-- LINK_FLAGS as read: READY and IN_PORT are live (R104). -/
def State.linkFlags (s : State) (n : Nat) : Nat :=
  s.obj O.LINK_FLAGS (n + 1) +
    2 * b2n (if s.native n then s.inRx n else bit (s.rxAct (s.portOf n)) (s.posTx n)) + b2n (decide (8 ≤ s.linkState n))

end Sys2Proof.Machine
end

