-- ==== Sys2Proof/Machine/Reset.lean ====
section
/-! DEFINITION. What a reset of the whole part leaves (R201, R509 to R512, R531): State.reset, but for what the spec says a
reset keeps. -/

namespace Sys2Proof.Machine

/-- The values of TEMP and TEMP_PEAK, which a warm reset keeps with the sensors (R509, R529). -/
def State.tempObjs (s : State) : Tab Nat := s.objs.filter fun e => e.1 / 256 == 0x8000 || e.1 / 256 == 0x8001

/-- Power after a reset: the straps are sampled (R511), the cause is recorded (R531), the THERMTRIP_N latch stays (R525),
a warm reset keeps its count and the sensors, and the part stays held while a watched rail is low or the crystal gone (R509,
R201). -/
def State.powerAfter (s : State) (cause : Nat) (por : Bool) (straps : BitVec 5) : Power :=
  let w := s.power
  { Dflt.power with
    pins := straps, straps := straps, cause := cause, warm := if por then 0 else min 255 (w.warm + 1),
    railDown := !por && w.railDown, xoDown := !por && w.xoDown, thermtrip := w.thermtrip,
    idled := if w.thermtrip then List.range 48 else [],
    sensorOut := if por then 0 else w.sensorOut, peakSeen := if por then 0 else w.peakSeen }

/-- The part is reset (R509). What is not of the part's resettable state stays: the flash, the fuses, the levels of pins,
and on a warm reset the test access port; and the model's own queue, record of what has left, and counter. -/
def State.resetTo (s : State) (cause : Nat) (por : Bool) (straps : BitVec 5) : State :=
  { State.reset with
    pending := s.pending, out := s.out, free := s.free, fuses := s.fuses, flash := s.flash,
    jtag := if por then State.reset.jtag else s.jtag,
    objs := if por then [] else s.tempObjs,
    irq := { Dflt.irq with extirq := s.irq.extirq },
    power := s.powerAfter cause por straps }

/-- The part goes into internal reset and stays there (R201, R509): a watched rail is low, as after POR_N (log entry 24), or the
crystal is gone. -/
def State.holdReset (s : State) (rail : Bool) (cause : Nat) : State :=
  let w := s.power
  let t := s.resetTo cause rail w.straps
  { t with power := { t.power with railDown := w.railDown || rail, xoDown := w.xoDown || !rail } }

/-- The part is released from an internal reset and samples its straps (R201, R509, R511). -/
def State.release (s : State) (rail : Bool) (straps : BitVec 5) : State :=
  s.modPower fun w =>
    { w with pins := straps, straps := straps, railDown := w.railDown && !rail, xoDown := w.xoDown && rail }

/-- SYS_RESET acts as a pulse on RST_N (R509): the straps are sampled as their pins stand. -/
def State.sysReset (s : State) : State := (s.resetTo 32 false s.power.pins).emit .resetPulse

end Sys2Proof.Machine
end

