-- ==== Sys2Proof/Machine/Tio.lean ====
section
/-! DEFINITION. Timed I/O (R222 to R242): machine cycles, pulse generators, levels, captures, MARK_IN and PPS_OUT. -/

namespace Sys2Proof.Machine

/-- MC_PHASE (R224). -/
def State.mcPhase (s : State) : Nat := s.obj O.F0_CNT % s.obj O.MC_LEN_ACT

/-- MC_COUNT (R224). -/
def State.mcCount (s : State) : Nat := s.obj O.F0_CNT / s.obj O.MC_LEN_ACT % 2 ^ 32

/-- The outputs are off: THERMTRIP_N holds them as in reset (R510, R525). -/
def State.outOff (s : State) : Bool := s.power.thermtrip

/-- CLKOUTs stay GATED and TIO outputs inactive until the servo first enters TRACK or HOLDOVER (R515). -/
def State.outHold (s : State) : Bool := s.obj O.STARTUP_OUT_HOLD == 1 && !s.tio.firstLock

/-- TIO_MODE of a pin (R226). -/
def State.tioMode (s : State) (t : Nat) : Nat := s.obj O.TIO_MODE (t + 1)

/-- A time rounded to 1 ps, the resolution of outputs and captures (R223, R230, R240). -/
def toPs (t : Int) : Int := psToU (uToPs t)

/-- K_E (R197). -/
def kE (f0 : Nat) : Nat := if f0 = 0 then 0 else 4000000000000 / f0

/-- How far a time lies past the F0 edge at which F0_CNT read 0, 2^-40 ns, by the F0 period in force. -/
def State.sinceF0 (s : State) (t : Int) : Int := t * 2 ^ 16 - s.f0Edge40 (s.obj O.F0_CNT) + s.obj O.F0_CNT * s.f0Period

/-- The TIMEDIO cycle of a time: K_E / 4 of them pass in an F0 period (R197). -/
def State.tioCycle (s : State) (t : Int) : Int := s.sinceF0 t * kE s.clk.f0 / (4 * max 1 s.f0Period)

/-- A pin of the timed I/O takes a level at a time (R226, R230): inverted by TIO_POL, and inactive while held by R515. -/
def State.drivePin (s : State) (t : Nat) (level : Bool) (at_ : Int) : State :=
  if s.outOff then s
  else s.emit (.pin 0 t (Bool.xor (level && !s.outHold) (s.obj O.TIO_POL (t + 1) == 1)) (BitVec.ofInt 56 (toPs at_)).toNat)

/-- The level of an output, 1 in the active phase (R226). -/
def State.pinLevel (s : State) (t : Nat) : Bool := (s.gen t).high || (s.tioMode t == 4 && s.obj O.TIO_LEVEL (t + 1) == 1)

/-- TIO_POL has been written: an output's pin inverts with it (R226). -/
def State.repolarise (s old : State) (t : Nat) : State :=
  if 2 ≤ s.tioMode t ∧ s.obj O.TIO_POL (t + 1) ≠ old.obj O.TIO_POL (t + 1) then s.drivePin t (s.pinLevel t) s.now.toNat else s

/-- Picoseconds in 2^-24 ns for signed objects. -/
def State.psObj (s : State) (o : Obj) (sub : Nat) : Int := psToU (s.objI o sub)

/-- The F0 edge of the next rising edge of an F0 generator (R227): (F0_CNT − TIO_F0_PHASE) mod TIO_PERIOD = 0. -/
def State.nextF0 (s : State) (t : Nat) : Nat :=
  let from_ := (s.gen t).fromF0
  from_ + ((s.obj O.TIO_F0_PHASE (t + 1) - from_ : Int) % (max 1 (s.obj O.TIO_PERIOD (t + 1)) : Nat)).toNat

/-- The Hearth time at which the next rising edge of a generator leaves the ball, 2^-24 ns (R223, R227). -/
def State.riseTime (s : State) (t : Nat) : Int :=
  (if s.obj O.TIO_TIMEBASE (t + 1) = 0 then (s.gen t).due
   else s.latticeTime (s.nextF0 t) + psToU (s.obj O.TIO_OFFSET (t + 1))) - s.psObj O.TIO_DELAY (t + 1)

/-- The conditions of R227 on period, phase, width and offset. -/
def State.genOk (s : State) (t : Nat) : Bool :=
  let sub := t + 1
  let per := s.obj O.TIO_PERIOD sub
  let w := s.obj O.TIO_WIDTH sub
  let off := s.obj O.TIO_OFFSET sub
  let wOk := decide (2000 ≤ w ∧ w ≤ 10 ^ 12)
  if s.obj O.TIO_TIMEBASE sub = 0 then
    wOk && decide (4 * 2 ^ 24 ≤ per ∧ per ≤ 2 ^ 32 * 2 ^ 24) && decide ((w + 2000) * 2 ^ 24 ≤ per * 1000) &&
      decide (off * 2 ^ 24 < per * 1000)
  else
    wOk && decide (1 ≤ per ∧ per ≤ 2 ^ 24) && decide (s.obj O.TIO_F0_PHASE sub < per) &&
      decide ((w + 2000) * 2 ^ 40 ≤ per * s.f0Period * 1000) && decide (off * 2 ^ 40 < per * s.f0Period * 1000)

/-- A generator stands in ONESHOT or PERIODIC. -/
def State.isGen (s : State) (t : Nat) : Bool := s.tioMode t == 2 || s.tioMode t == 3

/-- The generator runs: TIO_STATUS reads BUSY, or would but for the suspension of R234 or a command refused meanwhile (log entry 58). -/
def State.genBusy (s : State) (t : Nat) : Bool := (s.gen t).on

/-- A generator ends with a status. -/
def State.genEnd (s : State) (t st : Nat) : State := (s.endStatus O.TIO_STATUS (t + 1) st).modGen t fun g => { g with on := false }

/-- ARM (R227, R228): `armF0` is the arming edge, and TIO_T0 is held against the nanoseconds `now`. -/
def State.armGen (s : State) (t armF0 now : Nat) : State :=
  let sub := t + 1
  if !s.isGen t || s.genBusy t || !s.genOk t then s.cmdStatus O.TIO_STATUS sub 1 4
  else if s.obj O.TIO_TIMEBASE sub = 0 ∧ tdiff (s.obj O.TIO_T0 sub / 2 ^ 32) now < 100 then
    (s.cmdStatus O.TIO_STATUS sub 1 6).raise O.TIO_FLAGS 4 sub
  else (s.cmdStatus O.TIO_STATUS sub 1 1).modGen t fun g =>
    { g with on := true, k := 0, fromF0 := armF0, due := s.extended (BitVec.ofNat 56 (s.obj O.TIO_T0 sub / 256)) }

/-- The generator's edge of this index is its last (R231). -/
def State.lastEdge (s : State) (t k : Nat) : Bool :=
  s.tioMode t == 2 || (s.obj O.TIO_COUNT (t + 1) != 0 && decide (s.obj O.TIO_COUNT (t + 1) ≤ k + 1))

/-- A pulse ends its width after it rose (R227); while TIMEDIO runs on FBCLK its end may come later (R234). -/
def State.falling (s : State) (t : Nat) : State :=
  let g := s.gen t
  if !g.high then s else
  let at_ := g.rose + BitVec.ofInt 56 (psToU g.width)
  let at_ := if s.tio.suspended && decide (0 < tdiff56 s.now at_) then s.now else at_
  (s.modGen t fun g => { g with high := false, width := 0 }).drivePin t false at_.toNat

def execTioFallingEdge (t : Fin 16) (s : State) : Host.Outcome State Fault Refusal := runKeep s (·.falling t)

/-- A pin rises at a time for `width` ps. Within the active phase of its previous pulse the edge is skipped and counted: pulses never overlap
or merge (R233, R244). -/
def State.riseAt (s : State) (t : Nat) (at_ : Int) (width : Nat) : State :=
  let g := s.gen t
  if g.high && decide (tdiff56 (BitVec.ofInt 56 at_) (g.rose + BitVec.ofInt 56 (psToU g.width)) < 0) then s.count O.TIO_MISSED (t + 1)
  else ((s.falling t).modGen t fun g => { g with high := true, width := width, rose := BitVec.ofInt 56 at_ }).drivePin t true at_

/-- A rising edge falls due (R227). While the EPLL is unlocked it does not leave, and within the active phase of the
previous pulse it is skipped; both count in TIO_MISSED (R233, R234). The last edge ends the command. -/
def State.rising (s : State) (t : Nat) : State :=
  let sub := t + 1
  if !s.isGen t || !s.genBusy t then s else
  let s := s.calEdge t
  let k := (s.gen t).k
  let at_ := s.riseTime t
  let e := s.nextF0 t
  let pass (s : State) : State := s.modGen t fun g => { g with k := g.k + 1, fromF0 := e + 1, due := g.due + s.obj O.TIO_PERIOD sub }
  if s.tio.suspended then
    if s.tioMode t == 2 && k != 0 then s else pass (s.count O.TIO_MISSED sub)
  else
    let s' := pass (s.riseAt t at_ (s.obj O.TIO_WIDTH sub))
    if s.lastEdge t k then s'.genEnd t 2 else s'

def execTioRisingEdge (t : Fin 16) (s : State) : Host.Outcome State Fault Refusal := runKeep s (·.rising t)

/-- DISARM (R228, R231). Recorded in the TIMEDIO cycle that launches the last rising edge, it loses: the edge leaves, STATUS reads DONE
and ABORT_LATE. An endless train always ends ABORTED. -/
def State.disarmGen (s : State) (t : Nat) (coincident : Bool) : State :=
  let sub := t + 1
  let v := s.obj O.TIO_STATUS sub
  let late (s : State) : State := s.abortLate O.TIO_STATUS sub 2 O.TIO_FLAGS 2 sub
  if s.genBusy t then
    (if coincident && s.isGen t && s.lastEdge t (s.gen t).k && !s.tio.suspended then late (s.rising t)
     else (s.cmdStatus O.TIO_STATUS sub 2 3).modGen t fun g => { g with on := false })
  else if coincident && s.isGen t && bits v 3 0 == 2 && bits v 7 4 == 1 then late s
  else s.cmdStatus O.TIO_STATUS sub 2 4

/-- A time lies in the TIMEDIO cycle that launches a generator's last rising edge (R231). -/
def State.launches (s : State) (t : Nat) (at_ : Int) : Bool :=
  s.tioCycle at_ == s.tioCycle (if s.genBusy t then s.riseTime t else (s.gen t).rose.toNat)

def execTioArm (t : Fin 16) (s : State) : Host.Outcome State Fault Refusal :=
  runKeep s fun s => s.armGen t s.nextLattice s.ns

def execDisarm (t : Fin 16) (coincident : Bool) (s : State) : Host.Outcome State Fault Refusal :=
  runKeep s (·.disarmGen t coincident)

/-- CAP_FLUSH (R228): in CAPTURE it empties the capture queue. -/
def State.capFlush (s : State) (t : Nat) : State :=
  if s.tioMode t = 1 then (s.cmdStatus O.TIO_STATUS (t + 1) 3 2).modTdc t fun c => { c with recs := [] }
  else s.cmdStatus O.TIO_STATUS (t + 1) 3 4

def execCapFlush (t : Fin 16) (s : State) : Host.Outcome State Fault Refusal := runKeep s (·.capFlush t)

/-- The write of TIO_MODE is taken: a mode of R226, while TIO_STATUS does not read BUSY. -/
def State.tioModeOk (s : State) (t v : Nat) : Bool := decide (v ≤ 5) && !s.genBusy t

/-- A write of TIO_MODE (R226); a change away from OFF triggers TDC_TRIM (R463). On a change an output takes its inactive level, and a LEVEL output then holds TIO_LEVEL. -/
def State.writeTioMode (s : State) (t v : Nat) : State :=
  if !s.tioModeOk t v then s else
  let old := s.tioMode t
  let s := s.setObj O.TIO_MODE v (t + 1)
  if old = v then s else
  let s := s.modGen t fun g => { g with high := false, width := 0 }
  let s := if old = 0 then s.calTrigger 5 t else s
  if v < 2 then s
  else
    let s := s.drivePin t false s.now.toNat
    if v = 4 ∧ s.obj O.TIO_LEVEL (t + 1) = 1 then s.drivePin t true s.now.toNat else s

def execTioModeWrite (t : Fin 16) (value : Byte) (s : State) : Host.Outcome State Fault Refusal :=
  runKeep s (·.writeTioMode t value.toNat)

/-- A LEVEL output takes a level at a time (R223, R235, R236, R244); TIO_LEVEL holds it. -/
def State.setLevelAt (s : State) (t v : Nat) (at_ : Int) : State :=
  let s := s.setObj O.TIO_LEVEL v (t + 1)
  if s.tioMode t = 4 then s.drivePin t (v == 1) at_ else s

/-- A LEVEL output takes a level now. -/
def State.setLevel (s : State) (t v : Nat) : State := s.setLevelAt t v s.now.toNat

def execTioLevelWrite (t : Fin 16) (value : Byte) (s : State) : Host.Outcome State Fault Refusal :=
  runKeep s fun s => if value.toNat ≤ 1 then s.setLevel t value.toNat else s

/-- TIO_SAFE_TIMEOUT passes without a CMD block (R236): LEVEL outputs take their safe levels. It never expires at rank 0,
nor where it is 0. -/
def State.safeTimeout (s : State) : State :=
  if s.obj O.TIO_SAFE_TIMEOUT = 0 ∨ s.obj O.HIER_RANK = 0 then s else
  forEach (List.range 16) (fun s t =>
    if s.tioMode t = 4 ∧ s.obj O.TIO_SAFE_LEVEL (t + 1) < 2 then
      (s.setLevel t (s.obj O.TIO_SAFE_LEVEL (t + 1))).raise O.TIO_FLAGS 5 (t + 1)
    else s) s

def execSafeTimeout (s : State) : Host.Outcome State Fault Refusal := runKeep s (·.safeTimeout)

/-- The counter has stepped (R232): TIME generators that are armed raise STEPPED; in a forward step the edges passed over do not leave, in a
backward step a generator waits for its next edge. `fwd` is the direction. -/
def State.tioStepped (s : State) (fwd : Bool) : State :=
  forEach (List.range 16) (fun s t =>
    let sub := t + 1
    let per := s.obj O.TIO_PERIOD sub
    if !s.isGen t || !s.genBusy t || s.obj O.TIO_TIMEBASE sub != 0 || per == 0 then s else
    let s := s.raise O.TIO_FLAGS 3 sub
    let g := s.gen t
    let late := s.extended s.now - (g.due - s.psObj O.TIO_DELAY sub)
    if !fwd || decide (late ≤ 0) then s
    else if s.tioMode t = 2 then s.genEnd t 7
    else
      let n := ((late + per - 1) / per).toNat
      let limit := s.obj O.TIO_COUNT sub
      let n := if limit = 0 then n else min n (limit - g.k)
      let s := (s.count O.TIO_MISSED sub n).modGen t fun g => { g with k := g.k + n, due := g.due + n * per }
      if limit ≠ 0 ∧ limit ≤ g.k + n then s.genEnd t 7 else s) s

/-- The EPLL is lost (R234): generators are suspended, and the TDCs capture nothing. -/
def State.tioSuspend (s : State) : State :=
  let s := s.modTio fun x => { x with suspended := true }
  forEach (List.range 18) (fun s c => if 16 ≤ c ∨ s.tioMode c = 1 then s.raise O.TIO_FLAGS 7 (c + 1) else s) s

/-- The EPLL is LOCKED again (R234): a ONESHOT whose edge passed ends LATE; a counted train all of whose edges passed is
over; every other generator resumes with its next due edge. -/
def State.tioResume (s : State) : State :=
  let s := s.modTio fun x => { x with suspended := false }
  forEach (List.range 16) (fun s t =>
    let sub := t + 1
    let k := (s.gen t).k
    let limit := s.obj O.TIO_COUNT sub
    if !s.isGen t || !s.genBusy t then s
    else if s.tioMode t = 2 then (if k = 0 then s else (s.genEnd t 6).raise O.TIO_FLAGS 4 sub)
    else if limit ≠ 0 ∧ limit ≤ k then (s.genEnd t 6).raise O.TIO_FLAGS 4 sub
    else s) s

/-- A time near now, not wrapped. -/
def State.nearNow (s : State) (t : Time56) : Int := s.now.toNat + tdiff56 t s.now

/-- The part's own F0 edge number at or before a Hearth time (R240), counted as F0_CNT. -/
def State.f0At (s : State) (t : Time56) : Int :=
  if s.f0Period = 0 then s.obj O.F0_CNT else s.sinceF0 (s.nearNow t) / s.f0Period

/-- A time resolved to one cell of a TDC, a TIMEDIO period / 64 (R237, R238). -/
def State.toCell (s : State) (t : Int) : Int :=
  let p : Int := s.f0Period
  let k : Int := 16 * kE s.clk.f0
  if p = 0 ∨ k = 0 then t else t + (roundDiv (s.sinceF0 t * k) p * p / k - s.sinceF0 t) / 2 ^ 16

/-- The time of a capture, referred to the reference plane by subtracting TIO_DELAY, with the resolution of the channel's mode: 1 ps in FINE,
one cell in COARSE (R238, R240). -/
def State.capTime (s : State) (c : Nat) (t : Time56) : Int :=
  let u := s.nearNow t
  toPs ((if s.obj O.TIO_TDC_MODE (c + 1) = 1 then s.toCell u else u) - s.psObj O.TIO_DELAY (c + 1))

/-- The capture record of R240. -/
def State.capRecord (s : State) (c : Nat) (t : Time56) (rising : Bool) : Bytes :=
  let d := s.tdc c
  let stamp := s.stampOf (BitVec.ofInt 56 (s.capTime c t))
  let w := (s.f0At t % 2 ^ 32).toNat * 2 ^ 32 + d.seq * 2 ^ 24 + b2n (s.obj O.TIO_TDC_MODE (c + 1) == 1) * 128 +
    b2n d.ovf * 64 + b2n rising * 32 + c
  beBytes 8 stamp ++ beBytes 8 w

/-- An edge is too close to the one before it on its channel: less than 4 TIMEDIO cycles, 16 / (K_E × F0) (R197, R239). -/
def State.tooClose (s : State) (c : Nat) (t : Time56) : Bool :=
  match (s.tdc c).last with
  | none => false
  | some (u, n) =>
    decide ((s.hearth.cycles - n) * s.obj O.HEARTH_INC < 2 ^ 71 ∧
      (tdiff56 t u).natAbs * (4000000000000 / s.clk.f0) * s.clk.f0 < 16 * 10 ^ 12 * 2 ^ 24)

/-- An edge comes to a channel that captures it (R234, R237, R239): in CAPTURE, of the kind that TIO_EDGE selects. -/
def State.watches (s : State) (c : Nat) (rising : Bool) : Bool :=
  let r := Bool.xor rising (decide (c < 16) && s.obj O.TIO_POL (c + 1) == 1)
  !s.tio.suspended && (decide (16 ≤ c) || s.tioMode c == 1) && bit (s.obj O.TIO_EDGE (c + 1)) (if r then 0 else 1)

/-- The edge is captured: none lies too close before it (R239). -/
def State.captured (s : State) (c : Nat) (t : Time56) (rising : Bool) : Bool := s.watches c rising && !s.tooClose c t

/-- An edge reaches a capture channel (R237 to R240). -/
def State.capture (s : State) (c : Nat) (t : Time56) (rising : Bool) : State :=
  let sub := c + 1
  if !s.watches c rising then s else
  let s := s.calEdge c
  let close := s.tooClose c t
  let s := s.modTdc c fun d => { d with last := some (t, s.hearth.cycles) }
  if close then s.count O.TIO_MISSED sub
  else
    let at_ := s.stampOf (BitVec.ofInt 56 (s.capTime c t))
    let s := if c = 16 then s.setObj O.PPS_IN_LAST at_ else if c = 17 then s.setObj O.MARK_LAST at_ else s
    if 64 ≤ (s.tdc c).recs.length then
      ((s.count O.TIO_MISSED sub).modTdc c fun d => { d with ovf := true }).raise O.TIO_FLAGS 6 sub
    else
      let first := (s.tdc c).recs == []
      let rec_ := s.capRecord c t rising
      let s := s.modTdc c fun d => { d with recs := d.recs ++ [rec_], seq := (d.seq + 1) % 256, ovf := false }
      if first then s.levelRise (72 + c) O.TIO_FLAGS 9 sub else s

/-- A read of TIO_CAP removes the oldest record and returns it; an empty queue returns no octet (R239). -/
def State.capRead (s : State) (c : Nat) : Bytes × State :=
  match (s.tdc c).recs with
  | [] => ([], s)
  | r :: rs => (r, s.modTdc c fun d => { d with recs := rs })

def execTioCapRead (c : Fin 18) (s : State) : Host.Outcome State Fault Refusal :=
  runKeep s fun s => let r := s.capRead c; r.2.emit (.bytes r.1)

/-- F0_CNT is loaded on this part with `n` at the present instant, and F0_LOADED is raised (R224, R253). Generators on F0 test their rule
against the new count from there on (R233). -/
def State.loadF0Flag (s : State) (n : Nat) : State :=
  let f := s.obj O.F0_CNT
  let s := forEach (List.range 16) (fun s t =>
    if s.genBusy t then s.modGen t fun g => { g with fromF0 := n + (g.fromF0 - f) } else s) s
  (s.loadF0 n).raise O.TIO_SYS_FLAGS 6

/-- A MARK_IN edge assigned to lattice edge `n` is checked (R242). -/
def State.markCheck (s : State) (n : Int) : State :=
  if n % s.obj O.MC_LEN_ACT = 0 then s else (s.count O.MARK_SLIPS).raise O.TIO_SYS_FLAGS 4

/-- How far a MARK_IN capture lies past the part's own last F0 edge, less MARK_DELAY and F0_SKEW, 2^-40 ns (R242). -/
def State.markOwn (s : State) (t : Time56) : Int :=
  s.capTime 17 t * 2 ^ 16 - s.f0Edge40 (s.obj O.F0_CNT) - s.psObj O.MARK_DELAY 0 * 2 ^ 16 - s.objI O.F0_SKEW * 2 ^ 16

/-- The edge of a lattice of period `p` nearest to a distance from its edge 0. -/
def nearestEdge (p own : Int) : Int := (2 * own + p) / (2 * p)

/-- A MARK_IN edge (R242): captured on channel 17, assigned to the nearest lattice edge, and checked or used to align. -/
def State.markIn (s : State) (t : Time56) : State :=
  let ok := s.captured 17 t true
  let s := s.capture 17 t true
  if !ok || s.f0Period == 0 then s else
  let p : Int := s.f0Period
  let own := s.markOwn t
  let k := nearestEdge p own
  let n : Int := s.obj O.F0_CNT + k
  let off := own - k * p                     -- −P/2 to P/2 from it
  let s := if 3 * p ≤ 8 * off.natAbs then s.raise O.TIO_SYS_FLAGS 5 else s
  let mode := s.obj O.MARK_MODE
  if mode = 0 then s
  else if mode = 2 ∧ ¬ s.tio.aligned then
    let run := match s.tio.markLast with
      | some m => if n - m = s.obj O.MC_LEN then s.tio.markRun + 1 else 1
      | none => 1
    if 8 ≤ run then
      (s.loadF0Flag ((-k) % (2 ^ 64 : Int)).toNat).modTio fun x => { x with aligned := true, markRun := 0, markLast := none }
    else s.modTio fun x => { x with markRun := run, markLast := some n.toNat }
  else s.markCheck n

def execMarkInEdge (t : Time56) (s : State) : Host.Outcome State Fault Refusal := runKeep s (·.markIn t)

/-- MARK_CMD REALIGN re-arms the first alignment (R242). -/
def State.realign (s : State) : State := s.modTio fun x => { x with aligned := false, markRun := 0, markLast := none }

def execMarkRealign (s : State) : Host.Outcome State Fault Refusal := runKeep s (·.realign)

/-- The next PTP second at which PPS_OUT rises (R185, R241): not before now, and none that has already risen (R232). -/
def State.ppsNext (s : State) : Int :=
  let sec : Int := 10 ^ 9 * 2 ^ 24
  let n := (s.extended s.now + s.objI O.PTP_EPOCH * 2 ^ 24 + sec - 1) / sec
  match s.tio.ppsSec with
  | some k => max n (k + 1)
  | none => n

/-- The Hearth time of a PTP second, less PPS_OUT_DELAY, to 1 ps (R230, R241). -/
def State.ppsTime (s : State) (sec : Int) : Int :=
  toPs ((sec * 10 ^ 9 - s.objI O.PTP_EPOCH) * 2 ^ 24 - s.psObj O.PPS_OUT_DELAY 0)

/-- PPS_OUT rises at the next PTP second (R241). -/
def State.ppsRise (s : State) : State :=
  if s.obj O.PPS_OUT_EN = 0 ∨ s.tio.ppsHigh ∨ s.outOff then s else
  let sec := s.ppsNext
  let at_ := BitVec.ofInt 56 (s.ppsTime sec)
  (s.modTio fun x => { x with ppsHigh := true, ppsSec := some sec, ppsRose := at_ }).emit (.pin 1 0 true at_.toNat)

def execPpsOutRise (s : State) : Host.Outcome State Fault Refusal := runKeep s (·.ppsRise)

/-- PPS_OUT falls PPS_OUT_WIDTH after it rose (R241). -/
def State.ppsFall (s : State) : State :=
  if s.tio.ppsHigh then
    (s.modTio fun x => { x with ppsHigh := false }).emit
      (.pin 1 0 false (s.tio.ppsRose + BitVec.ofNat 56 (s.obj O.PPS_OUT_WIDTH * 2 ^ 24)).toNat)
  else s

def execPpsOutFall (s : State) : Host.Outcome State Fault Refusal := runKeep s (·.ppsFall)

/-- TIO_STATUS as read: SUSPENDED while the EPLL is unlocked, on every pin that generates pulses (R234, R251). -/
def State.tioStatus (s : State) (t : Nat) : Nat :=
  let v := s.obj O.TIO_STATUS (t + 1)
  if s.tio.suspended && (s.isGen t || s.tioMode t == 5) then v - v % 16 + 8 else v

/-- TIO_FLAGS as read (R252). -/
def State.tioFlags (s : State) (c : Nat) : Nat :=
  s.obj O.TIO_FLAGS (c + 1) + 512 * b2n (decide ((s.tdc c).recs ≠ [])) + 2 * b2n (s.obj O.TIO_TDC_MODE (c + 1) == 1) +
    b2n (decide (c < 16) && s.tioStatus c % 16 == 1)

/-- TIO_SYS_FLAGS as read: F0_SYNCED is live (R253). -/
def State.tioSysFlags (s : State) : Nat := s.obj O.TIO_SYS_FLAGS + 128 * b2n s.tio.synced

end Sys2Proof.Machine
end

