-- ==== Sys2Proof/Machine/Clock.lean ====
section
/-! DEFINITION. Clock synthesis and clock outputs (R189 to R221), and the rates of lane groups (R109 to R112): divider plans,
lock and loss, frequency changes, the clock outputs with their walks, and the qualification of REFIN. PLLs are numbered as
R191 numbers them. -/

namespace Sys2Proof.Machine

/-- F0 in force, mHz (R189). -/
def State.f0 (s : State) : Nat := s.clk.f0

/-- The HEARTH multiple M of an F0 in mHz: the smallest with M × F0 ≥ 400 MHz (R190). -/
def multipleOf (f0 : Nat) : Nat := if f0 = 0 then 0 else (400000000000 + f0 - 1) / f0

/-- HEARTH_INC: the nominal HEARTH period in units of 2^-40 ns, rounded to the nearest integer (R15). -/
def incOf (f0 m : Nat) : Nat := if f0 * m = 0 then 0 else (2 * 10 ^ 12 * 2 ^ 40 + f0 * m) / (2 * (f0 * m))

/-- K_C (R197); K_E stands in Tio.lean. -/
def kC (f0 : Nat) : Nat := if f0 = 0 then 0 else 3800000000000 / f0

/-- A PLL's dividers: R, P and feedback (R192, R196). -/
structure Plan where
  r  : Nat
  p  : Nat
  fb : Nat
  deriving DecidableEq, Repr

/-- The plan of a PLL on CREF_F0 for its Q (R196). -/
def planOfQ (f0 q p : Nat) : Plan :=
  let m := multipleOf f0
  if q % 2 = 0 ∧ f0 ≤ 250000000000 then ⟨m, p, q / 2⟩ else ⟨2 * m, p, q⟩

/-- The TPLL post-divider: 1 from 14.0 GBd on, 2 below (R196). -/
def postOf (f0 n : Nat) : Nat := if 14000000000000 ≤ n * f0 then 1 else 2

/-- The divisors of 532,480 = 2^13 × 5 × 13 (R112). -/
def sfDivisors : List Nat := (List.range 14).flatMap fun a => [2 ^ a, 2 ^ a * 5, 2 ^ a * 13, 2 ^ a * 65]

/-- N × F0 lies between 9.8 GBd and `top` mBd (R111). -/
def rateOk (f0 n top : Nat) : Bool := decide (9800000000000 ≤ n * f0 ∧ n * f0 ≤ top)

/-- The N that the part chooses (R112): the largest divisor of 532,480 within the range, else the largest integer within it,
else the smallest N of at least 9.8 GBd. -/
def chooseN (f0 target : Nat) : Nat :=
  let top := target * 10 ^ 9
  match (sfDivisors.filter fun n => decide (n ≤ 4095) && rateOk f0 n top).foldl max 0 with
  | 0 =>
    let n := if f0 = 0 then 0 else min 4095 (top / f0)
    if rateOk f0 n top then n else if f0 = 0 then 0 else (9800000000000 + f0 - 1) / f0
  | n => n

/-- N in force for a group: GROUP_N, or the part's choice where it is 0 (R112). -/
def State.effN (s : State) (v : Nat) : Nat := if v = 0 then chooseN s.f0 (s.obj O.NATIVE_TARGET) else v

/-- A value of GROUP_N that R111 and R112 allow. -/
def State.groupNOk (s : State) (v : Nat) : Bool := v == 0 || (decide (v ≤ 4095) && rateOk s.f0 v 28200000000000)

/-- A value of GROUP_MODE (R108). -/
def groupModeOk (v : Nat) : Bool := decide (v ≤ 3) || v == 0xFE || v == 0xFF

/-- OPLL_MULT as it acts: 0 selects the smallest K with K × F0 ≥ 4,000 MHz (R209). -/
def State.multOf (s : State) (v : Nat) : Nat :=
  if v = 0 then (if s.f0 = 0 then 0 else (4000000000000 + s.f0 - 1) / s.f0) else v

/-- The plan that the settings in force give a PLL (R192, R193, R196). -/
def State.planOf (s : State) (n : Nat) : Plan :=
  let f0 := s.f0
  if n = 0 then ⟨if bit s.power.straps.toNat 3 then 16 else 4, 1, if bit s.power.straps.toNat 4 then 825 else 800⟩
  else if n ≤ 8 then
    let g := s.group (n - 1)
    match g.mode with
    | 1 => ⟨2, 2, 132⟩
    | 2 => ⟨2, 1, 165⟩
    | 3 => ⟨2, 1, 170⟩
    | _ => let p := postOf f0 g.n; planOfQ f0 (g.n * p) p
  else if n ≤ 12 then planOfQ f0 (2 * s.multOf (s.obj O.OPLL_MULT (n - 8))) 1
  else if n = 13 then planOfQ f0 (2 * kC f0) 1
  else planOfQ f0 (2 * kE f0) 1

/-- PLL_DIV of a plan (R219). -/
def Plan.word (p : Plan) : Nat := p.r % 256 * 2 ^ 24 + p.p % 16 * 2 ^ 20 + p.fb % 8192

/-- The feedback divider in force. -/
def State.feedback (s : State) (n : Nat) : Nat := bits (s.obj O.PLL_DIV (n + 1)) 12 0

/-- PLL_STATE (R219); the SPLL acquires from reset on (R512). -/
def State.pllState (s : State) (n : Nat) : Nat :=
  let v := s.obj O.PLL_STATE (n + 1)
  if n = 0 ∧ v = 0 then 1 else v

/-- The bit of CLK_FALLBACK that a PLL's islands have, if it feeds any (R219). -/
def islandBit (n : Nat) : Option Nat :=
  if 1 ≤ n ∧ n ≤ 8 then some (n + 1) else if n = 13 then some 0 else if n = 14 then some 1 else none

/-- The islands of a PLL shall run on FBCLK, or leave it; each multiplexer completes by itself (R202). -/
def State.wantFallback (s : State) (n : Nat) (v : Bool) : State :=
  match islandBit n with
  | some b => { s with clk := { s.clk with want := setBit s.clk.want b v } }
  | none => s

/-- The clock outputs that a PLL feeds (R192). -/
def outputsOf (n : Nat) : List Nat := if 9 ≤ n ∧ n ≤ 12 then [2 * (n - 9), 2 * (n - 9) + 1] else []

/-- CLKOUT_GATE (R211). -/
def State.gate (s : State) (n : Nat) : Nat := s.obj O.CLKOUT_GATE (n + 1)

/-- An open gate begins to close (R200, R203). -/
def State.closeGate (s : State) (n : Nat) : State :=
  if s.gate n = 2 then s.modClkout n fun c => { c with closing := true, ready := false } else s.modClkout n fun c => { c with ready := false }

/-- The gate of an enabled output is set to open on its boundary (R203 step 5). -/
def State.readyGate (s : State) (n : Nat) : State :=
  if s.obj O.CLKOUT_EN (n + 1) = 1 ∧ s.gate n = 1 then s.modClkout n fun c => { c with ready := true } else s

/-- A group stands in an Ethernet mode (R108). -/
def State.ethGroup (s : State) (g : Nat) : Bool := decide (1 ≤ (s.group g).mode ∧ (s.group g).mode ≤ 3)

/-- CREF_ETH runs: only while a lane group is in an Ethernet mode (R194). -/
def State.crefEth (s : State) : Bool := (List.range 8).any s.ethGroup

/-- Step 3 of R203 and its repetition of R206: the dividers load, the lock detector begins anew, and VCO_BAND runs, as at every acquisition
(R463). -/
def State.acquire (s : State) (n : Nat) (p : Plan) : State :=
  ((s.calTrigger 2 n).setObj O.PLL_DIV p.word (n + 1)).modPll n fun q =>
    { q with good := 0, change := false, forced := false, eth := decide (1 ≤ n ∧ n ≤ 8) && s.ethGroup (n - 1) }

/-- Step 3 of R203: the dividers of a plan load, and PLL_STATE reads ACQUIRE. -/
def State.loadPlan (s : State) (n : Nat) (p : Plan) : State := (s.acquire n p).setObj O.PLL_STATE 1 (n + 1)

/-- Steps 1 and 2 of R203 are complete: every island of the PLL runs on FBCLK, and its gates are closed. -/
def State.stepsDone (s : State) (n : Nat) : Bool :=
  (match islandBit n with | some b => bit (s.obj O.CLK_FALLBACK) b | none => true) &&
    (outputsOf n).all fun o => s.gate o != 2

/-- A frequency change that waits for steps 1 and 2 goes to step 3 once they are complete. -/
def State.tryStep3 (s : State) (n : Nat) : State :=
  let q := s.pll n
  if q.change ∧ s.stepsDone n then s.loadPlan n ⟨q.nextR, q.nextP, q.nextFb⟩ else s

/-- A frequency change begins (R203). A PLL that is OFF, acquiring or reacquiring takes it at once from step 3 (R207). -/
def State.startChange (s : State) (n : Nat) (p : Plan) : State :=
  if s.obj O.PLL_STATE (n + 1) = 2 then
    let s := (s.wantFallback n true).modPll n fun q => { q with change := true, nextR := p.r, nextP := p.p, nextFb := p.fb }
    (forEach (outputsOf n) (fun s o => s.closeGate o) s).tryStep3 n
  else (s.wantFallback n true).loadPlan n p

/-- A PLL goes OFF. -/
def State.pllOff (s : State) (n : Nat) : State :=
  ((s.setObj O.PLL_STATE 0 (n + 1)).setObj O.PLL_VCO_KHZ 0 (n + 1)).modPll n fun _ => Dflt.pll

/-- The lanes of a group go DOWN and train afresh, and its ports with them (R109, R200). -/
def State.groupDown (s : State) (g : Nat) : State :=
  let s := forEach (groupLanes g) (fun s p => if (s.lport p).up then s.portDown p else s) s
  forEach (groupLanes g) (fun s n =>
    if (s.lane n).test ∨ (s.lane n).removed then s.setObj O.LINK_STATE 0 (n + 1) else s.startTraining n) s

/-- A PLL is LOCKED (R198, R203 steps 4 to 6): its islands leave FBCLK and its enabled gates open on their boundaries. A
TPLL's superframe count starts at its first lock (R57) and its lanes begin to train, from TX_TAP_INIT (R119, R120); a relock of the CPLL re-establishes every
Caravan entry (R318); timed I/O resumes with the EPLL (R234). -/
def State.pllLocked (s : State) (n : Nat) : State :=
  let s := (s.setObj O.PLL_STATE 2 (n + 1)).modPll n fun q => { q with good := 0 }
  let s := s.wantFallback n false
  let s := forEach (outputsOf n) (fun s o => s.readyGate o) s
  if 1 ≤ n ∧ n ≤ 8 then
    let g := n - 1
    let s := forEach (groupLanes g) (fun s l => s.setObj O.TX_TAPS (s.obj O.TX_TAP_INIT (l + 1)) (l + 1)) s
    if (s.group g).sfcOn then s else s.modGroup g fun r => { r with sfc := 0, sfcOn := true, sfRun := false }
  else if 9 ≤ n ∧ n ≤ 12 then
    (if s.status O.OPLL_STATUS (n - 8) = 1 then s.setObj O.OPLL_STATUS 2 (n - 8) else s)
  else if n = 13 then s.reestablishAll
  else if n = 14 ∧ s.tio.suspended then s.tioResume
  else s

/-- A LOCKED PLL is lost (R199, R200). The loss of the SPLL puts the part into internal reset (R201). -/
def State.pllLost (s : State) (n flag : Nat) : State :=
  if n = 0 then s.holdReset false 16 else
  let s := (s.setObj O.PLL_STATE 3 (n + 1)).modPll n fun q => { q with good := 0 }
  let s := ((s.raise O.PLL_FLAGS flag (n + 1)).count O.PLL_UNLOCKS (n + 1)).wantFallback n true
  let s := forEach (outputsOf n) (fun s o => (s.closeGate o).calViolate 4 o 3) s
  let s := if 1 ≤ n ∧ n ≤ 8 then forEach (groupLanes (n - 1)) (fun s l => s.calViolate 1 l 3) s else s
  let s := s.calTrigger 2 n
  if 1 ≤ n ∧ n ≤ 8 then s.groupDown (n - 1) else if n = 14 then s.tioSuspend else s

/-- The PFD frequency of a PLL, mHz, with the dividers loaded (R192, R194, R196); 0 where its reference does not run. -/
def State.pfd (s : State) (n : Nat) : Nat :=
  let r := bits (s.obj O.PLL_DIV (n + 1)) 31 24
  if n = 0 then 6250000000
  else if (s.pll n).eth then (if s.crefEth then 78125000000 else 0)
  else if r = 0 then 0 else s.hearthM * s.f0 / r

/-- A lock-detector window closes with `count` VCO cycles (R198, R199). -/
def State.lockWindow (s : State) (n count : Nat) : State :=
  let st := s.pllState n
  if st = 0 then s else
  let fb := if n = 0 then (s.planOf 0).fb else s.feedback n
  let exp := 65536 * fb
  let diff := max count exp - min count exp
  let good := decide (diff ≤ exp * 20 / 1000000)
  let s := s.setObj O.PLL_VCO_KHZ ((2 * count * s.pfd n + 65536 * 10 ^ 6) / (2 * 65536 * 10 ^ 6)) (n + 1)
  if st = 2 then (if exp * 100 < diff * 1000000 then s.pllLost n 2 else s)
  else if good then
    let k := (s.pll n).good + 1
    if 4 ≤ k then s.pllLocked n else s.modPll n fun q => { q with good := k }
  else s.modPll n fun q => { q with good := 0 }

def execLockWindowEnd (pll : Fin 15) (count : Nat) (s : State) : Host.Outcome State Fault Refusal :=
  if pll.val = 0 then run s (·.lockWindow 0 count) else runKeep s (·.lockWindow pll count)

/-- A LOCKED PLL is lost by a phase-error slip or a missing reference edge (R199). -/
def execPllLoss (pll : Fin 15) (cause : PllLossCause) (s : State) : Host.Outcome State Fault Refusal :=
  let flag := match cause with | .cycleSlip => 2 | .missingEdge => 3
  if pll.val = 0 then run s fun s => if s.pllState 0 = 2 then s.pllLost 0 flag else s
  else runKeep s fun s => if s.pllState pll = 2 then s.pllLost pll flag else s

/-- The plan that PLL_DIV holds (R219). -/
def planOfWord (v : Nat) : Plan := ⟨bits v 31 24, bits v 23 20, bits v 12 0⟩

/-- A PLL is not LOCKED within 50 ms of step 3 (R206): ACQ_FAIL is raised, the VCO band is recalibrated, and step 3 is run again. PLL_STATE
goes on reading ACQUIRE, or RELOCK after a loss (R200). -/
def State.acqFail (s : State) (n : Nat) : State :=
  if s.pllState n = 1 ∨ s.pllState n = 3 then
    let p := if n = 0 then s.planOf 0 else planOfWord (s.obj O.PLL_DIV (n + 1))
    (s.raise O.PLL_FLAGS 4 (n + 1)).acquire n p
  else s

def execAcqFail (pll : Fin 15) (s : State) : Host.Outcome State Fault Refusal := runKeep s (·.acqFail pll)

/-- A sub-window of 1,024 PFD cycles against 1.03 times the expected count (R204). -/
def execBandLimitCheck (pll : Fin 15) (count : Nat) (s : State) : Host.Outcome State Fault Refusal :=
  runKeep s fun s =>
    let fb := if pll.val = 0 then (s.planOf 0).fb else s.feedback pll
    if s.pllState pll = 0 then s else s.modPll pll fun q => { q with forced := decide (103 * 1024 * fb < 100 * count) }

/-- The PLL and the bit of CLK_FALLBACK of an island. -/
def islandPll : Island → Nat × Nat
  | .fabric => (13, 0)
  | .engine => (14, 1)
  | .transmit g => (g.val + 1, g.val + 2)

/-- An island's multiplexer completes its change of source (R202); a frequency change may go on (R203). -/
def execClockSwitch (island : Island) (s : State) : Host.Outcome State Fault Refusal :=
  runKeep s fun s =>
    let (n, b) := islandPll island
    (s.setObj O.CLK_FALLBACK (setBit (s.obj O.CLK_FALLBACK) b (bit s.clk.want b))).tryStep3 n

/-- CLKOUT_STD's highest frequency, Hz (R210). -/
def stdMax (std : Nat) : Nat := match std with | 0 => 800000000 | 1 => 400000000 | _ => 1600000000

/-- The frequency of an output in mHz, as a fraction: OPLL_MULT × F0 over D (R209). -/
def State.outFreq (s : State) (n : Nat) : Nat × Nat :=
  let k := s.multOf (s.obj O.OPLL_MULT (n / 2 + 1))
  let d := s.obj O.CLKOUT_DIV (n + 1)
  (k * s.f0, if d = 0 then k else d)

/-- U: the output period in units of 0.5 ps, rounded up (R213). -/
def State.phaseUnits (s : State) (n : Nat) : Nat :=
  let (num, d) := s.outFreq n
  if num = 0 then 0 else (2 * d * 10 ^ 15 + num - 1) / num

/-- The tests of R207 on the settings of an OPLL and its outputs. -/
def State.opllOk (s : State) (k : Nat) : Bool :=
  let vco := s.multOf (s.obj O.OPLL_MULT (k + 1)) * s.f0
  decide (4000000000000 ≤ vco ∧ vco ≤ 6000000000000) && [2 * k, 2 * k + 1].all fun n =>
    s.obj O.CLKOUT_EN (n + 1) != 1 ||
      (let (num, d) := s.outFreq n
       decide (num ≤ stdMax (s.obj O.CLKOUT_STD (n + 1)) * 1000 * d ∧ 1000000000 * d ≤ num))

/-- OPLL_STATUS reads BUSY: writes to the OPLL and its outputs are refused (R207). -/
def State.opllBusy (s : State) (k : Nat) : Bool := s.status O.OPLL_STATUS (k + 1) == 1

/-- A write refused by the tests of R207 (R221). -/
def State.opllRefuse (s : State) (k : Nat) : State := s.setObj O.OPLL_STATUS 4 (k + 1)

/-- One output takes its new settings, `old` being the state before the write (R205, R211). One that is enabled again while its gate still
closes completes that and then opens on its boundary. -/
def State.outputApply (s old : State) (n : Nat) : State :=
  let sub := n + 1
  let en := s.obj O.CLKOUT_EN sub
  let en0 := old.obj O.CLKOUT_EN sub
  let same := s.obj O.CLKOUT_DIV sub == old.obj O.CLKOUT_DIV sub && s.obj O.CLKOUT_STD sub == old.obj O.CLKOUT_STD sub
  if en = 1 ∧ en0 ≠ 1 then
    if s.gate n = 2 then s.modClkout n fun c => { c with off := false }
    else
    let s := (s.setObj O.CLKOUT_GATE 1 sub).modClkout n fun c =>
      { c with off := false, closing := false }
    if s.obj O.PLL_STATE (n / 2 + 10) = 2 ∧ ¬ (s.pll (n / 2 + 9)).change then s.readyGate n else s
  else if en ≠ 1 ∧ en0 = 1 then
    (if s.gate n = 2 then (s.closeGate n).modClkout n fun c => { c with off := true }
     else (s.setObj O.CLKOUT_GATE 0 sub).modClkout n fun c => { c with ready := false })
  else if same then s
  else if s.gate n = 2 then s.closeGate n else s

/-- Both outputs of an OPLL are disabled: it goes OFF (R211). -/
def State.opllMaybeOff (s : State) (k : Nat) : State :=
  if s.gate (2 * k) = 0 ∧ s.gate (2 * k + 1) = 0 ∧ s.obj O.PLL_STATE (k + 10) ≠ 0 then
    let s := s.pllOff (k + 9)
    if s.opllBusy k then s.setObj O.OPLL_STATUS 0 (k + 1) else s
  else s

/-- The settings of an OPLL and of its outputs have been written (`s`, from `old`), and are taken in one sequence if they
pass R207, else refused with `old`'s values (R203, R205, R207, R211). `mult`: OPLL_MULT itself was written. -/
def State.opllCommit (s old : State) (k : Nat) (mult : Bool) : State :=
  if !s.opllOk k then old.opllRefuse k else
  let s := if s.status O.OPLL_STATUS (k + 1) = 4 then s.setObj O.OPLL_STATUS 0 (k + 1) else s
  let s := (s.outputApply old (2 * k)).outputApply old (2 * k + 1)
  let on := s.obj O.CLKOUT_EN (2 * k + 1) == 1 || s.obj O.CLKOUT_EN (2 * k + 2) == 1
  if s.obj O.PLL_STATE (k + 10) = 0 then
    (if on then (s.loadPlan (k + 9) (s.planOf (k + 9))).setObj O.OPLL_STATUS 1 (k + 1) else s)
  else if mult then ((s.startChange (k + 9) (s.planOf (k + 9))).setObj O.OPLL_STATUS 1 (k + 1)).opllMaybeOff k
  else s.opllMaybeOff k

/-- A write of OPLL_MULT (R207, R209). -/
def State.writeOpllMult (s : State) (k v : Nat) : State :=
  if s.opllBusy k then s else (s.setObj O.OPLL_MULT v (k + 1)).opllCommit s k true

def execOpllMultWrite (k : Fin 4) (value : BitVec 16) (s : State) : Host.Outcome State Fault Refusal :=
  runKeep s (·.writeOpllMult k value.toNat)

/-- A write of CLKOUT_EN (R207, R211). -/
def State.writeClkoutEn (s : State) (n v : Nat) : State :=
  if s.opllBusy (n / 2) ∨ 1 < v then s else (s.setObj O.CLKOUT_EN v (n + 1)).opllCommit s (n / 2) false

def execClkoutEnWrite (n : Fin 8) (value : Byte) (s : State) : Host.Outcome State Fault Refusal :=
  runKeep s (·.writeClkoutEn n value.toNat)

/-- A write of CLKOUT_DIV and CLKOUT_STD (R205, R207, R209, R210). -/
def State.writeClkoutDiv (s : State) (n d std : Nat) : State :=
  if s.opllBusy (n / 2) ∨ 4096 < d ∨ 2 < std then s
  else ((s.setObj O.CLKOUT_DIV d (n + 1)).setObj O.CLKOUT_STD std (n + 1)).opllCommit s (n / 2) false

def execClkoutDivWrite (n : Fin 8) (div : BitVec 16) (std : Byte) (s : State) : Host.Outcome State Fault Refusal :=
  runKeep s (·.writeClkoutDiv n div.toNat std.toNat)

/-- A write of CLKOUT_PHASE within 0 to U − 1 (R213, R214): on an OPEN output a walk starts, or turns, along the shorter way
round; otherwise the value waits for the next opening. -/
def State.writeClkoutPhase (s : State) (n v : Nat) : State :=
  let u := s.phaseUnits n
  if u ≤ v then s else
  let s := s.setObj O.CLKOUT_PHASE v (n + 1)
  if s.gate n ≠ 2 then s else
  let d := (v + u - s.obj O.CLKOUT_PHASE_ACT (n + 1) % u) % u
  s.modClkout n fun c => { c with walk := d != 0, fwd := decide (2 * d ≤ u), edges := if c.walk then c.edges else 0 }

def execClkoutPhaseWrite (n : Fin 8) (value : BitVec 32) (s : State) : Host.Outcome State Fault Refusal :=
  runKeep s (·.writeClkoutPhase n value.toNat)

/-- A write of CLKOUT_STEP_EVERY, 1 to 65,535: the count of rising edges towards the next step restarts (R214, R219). -/
def State.writeStepEvery (s : State) (n v : Nat) : State :=
  if v = 0 then s else (s.setObj O.CLKOUT_STEP_EVERY v (n + 1)).modClkout n fun c => { c with edges := 0 }

def execClkoutStepEveryWrite (n : Fin 8) (value : BitVec 16) (s : State) : Host.Outcome State Fault Refusal :=
  runKeep s (·.writeStepEvery n value.toNat)

/-- An output's gate closes (R200, R203, R205, R211, R214): a walk is abandoned and the settings load. A frequency change
goes on, an output turned off is DISABLED, and one whose OPLL is LOCKED opens again on its boundary. -/
def State.gateClosed (s : State) (n : Nat) : State :=
  let c := s.clkout n
  if !c.closing then s else
  let s := (s.setObj O.CLKOUT_GATE (if c.off then 0 else 1) (n + 1)).setObj O.CLKOUT_FREQ_ACT 0 (n + 1)
  let s := (s.modClkout n fun c => { c with
    closing := false, off := false, walk := false }).emit (.pin 2 n false s.now.toNat)
  let s := s.tryStep3 (n / 2 + 9)
  let s := if s.obj O.PLL_STATE (n / 2 + 10) = 2 ∧ ¬ (s.pll (n / 2 + 9)).change then s.readyGate n else s
  s.opllMaybeOff (n / 2)

def execClkoutGateClose (n : Fin 8) (s : State) : Host.Outcome State Fault Refusal := runKeep s (·.gateClosed n)

/-- The boundaries of an output on the F0 count: every `every` cycles from `first` on (R212). -/
def State.boundary (s : State) (n : Nat) : Option (Nat × Nat) :=
  match s.obj O.CLKOUT_SYNC (n + 1) with
  | 1 => if s.tio.synced then some (0, s.obj O.MC_LEN_ACT) else none
  | 2 => some (s.caravan.cycleF0, s.cycleLen)
  | _ =>
    let k := s.multOf (s.obj O.OPLL_MULT (n / 2 + 1))
    let d := s.obj O.CLKOUT_DIV (n + 1)
    let d := if d = 0 then k else d
    some (0, d / max 1 (Nat.gcd k d))

/-- The next F0 edge that is a boundary, the present one if it falls on now, as F0_CNT counts it (R212). -/
def State.nextBoundary (s : State) (first every : Nat) : Nat :=
  let f := s.obj O.F0_CNT + if s.hearth.f0Div = 0 then 0 else 1
  f + ((first - f : Int) % (max 1 every : Nat)).toNat

/-- The boundary of CLKOUT_SYNC arrives and the gate opens (R203, R212, R214): the divider restarts at that F0 edge, and the first rising edge
leaves CLKOUT_PHASE later, with the whole correction of its delay (R463, R474). A MARK boundary arrives only once F0_SYNCED is 1, and R515 may hold the output. -/
def State.clkoutOpen (s : State) (n : Nat) : State :=
  let c := s.clkout n
  let u := s.phaseUnits n
  if !c.ready || s.outHold || s.outOff || s.gate n != 1 || u == 0 then s else
  match s.boundary n with
  | none => s
  | some (first, every) =>
    let (num, d) := s.outFreq n
    let ph := s.obj O.CLKOUT_PHASE (n + 1) % u
    let s := (s.setObj O.CLKOUT_PHASE ph (n + 1)).setObj O.CLKOUT_PHASE_ACT ph (n + 1)
    let s := (s.setObj O.CLKOUT_GATE 2 (n + 1)).setObj O.CLKOUT_FREQ_ACT ((2 * num + 1000 * d) / (2000 * d)) (n + 1)
    let at_ := s.f0Edge40 (s.nextBoundary first every) / 2 ^ 16 + roundDiv (ph * 2 ^ 24) 2000
    (s.modClkout n fun c =>
      { c with ready := false, walk := false, edges := 0, trim := c.trim + c.trimIn, trimIn := 0 }).emit (.pin 2 n true (BitVec.ofInt 56 at_).toNat)

def execClkoutOpen (n : Fin 8) (s : State) : Host.Outcome State Fault Refusal := runKeep s (·.clkoutOpen n)

/-- Rising edges of an output with a walk in progress: at every CLKOUT_STEP_EVERY-th it moves one step of 0.5 ps (R213), and so does a
correction of its delay, which leaves CLKOUT_PHASE unchanged (R463). -/
def State.phaseStep (s : State) (n edges : Nat) : State :=
  let c := s.clkout n
  let u := s.phaseUnits n
  if s.gate n ≠ 2 ∨ (¬ c.walk ∧ c.trimIn = 0) ∨ u = 0 then s else
  let every := s.obj O.CLKOUT_STEP_EVERY (n + 1)
  let k := (c.edges + edges) / max 1 every
  let a := s.obj O.CLKOUT_PHASE_ACT (n + 1) % u
  let v := s.obj O.CLKOUT_PHASE (n + 1) % u
  let left := if !c.walk then 0 else if c.fwd then (v + u - a) % u else (a + u - v) % u
  let m : Int := min k c.trimIn.natAbs
  let m := if c.trimIn < 0 then -m else m
  let k := min k left
  let a' := if c.fwd then (a + k) % u else (a + u - k) % u
  (s.setObj O.CLKOUT_PHASE_ACT a' (n + 1)).modClkout n fun c =>
    { c with walk := c.walk && a' != v, edges := (c.edges + edges) % max 1 every, trim := c.trim + m, trimIn := c.trimIn - m }

def execClkoutPhaseStep (e : ClkEdges) (s : State) : Host.Outcome State Fault Refusal := runKeep s (·.phaseStep e.output e.edges)

/-- GROUP_RATE_ACT of a group, kBd (R108, R112). -/
def State.groupRate (s : State) (g : Nat) : Nat :=
  match (s.group g).mode with
  | 0 => (2 * (s.group g).n * s.f0 + 1000000) / 2000000
  | 1 => 10312500
  | 2 => 25781250
  | 3 => 26562500
  | _ => 0

/-- A group runs at a mode and N from now on: its lanes go DOWN and TPLL g changes, or goes OFF (R109, R203). -/
def State.retune (s : State) (g mode n : Nat) : State :=
  let left := (s.group g).mode = 0 ∧ mode ≠ 0
  let s := (s.groupDown g).modGroup g fun r => { r with mode := mode, n := n }
  let s := if left then s.modCaravan fun c => { c with idle := g :: c.idle.filter (· != g) } else s
  let s := s.setObj O.GROUP_RATE_ACT (s.groupRate g) (g + 1)
  if mode = 0xFF then s.pllOff (g + 1) else s.startChange (g + 1) (s.planOf (g + 1))

/-- A write of GROUP_MODE and GROUP_N (R108, R109, R111, R112): the values in force change nothing. A group put to AUTO
begins its probe in NATIVE (R517). With GROUP_N 0 the part chooses N anew here, in a probe and at start-up, and not at a write of
NATIVE_TARGET, of which the spec does not say when it takes effect (log entry 57). -/
def State.writeGroupMode (s : State) (g m v : Nat) : State :=
  if !groupModeOk m || !s.groupNOk v then s else
  let m0 := s.obj O.GROUP_MODE (g + 1)
  let v0 := s.obj O.GROUP_N (g + 1)
  let n := s.effN v
  let s := (s.setObj O.GROUP_MODE m (g + 1)).setObj O.GROUP_N v (g + 1)
  if m = m0 ∧ (v = v0 ∨ n = (s.group g).n) then s else
  let s := s.modGroup g fun r => { r with probe := 0, settled := false }
  s.retune g (if m = 0xFE then 0 else m) n

def execGroupModeWrite (g : Fin 8) (mode : Byte) (n : BitVec 16) (s : State) : Host.Outcome State Fault Refusal :=
  runKeep s (·.writeGroupMode g mode.toNat n.toNat)

/-- REFIN shows no edge for two nominal periods (R218). -/
def execRefinEdgeMissing (s : State) : Host.Outcome State Fault Refusal :=
  runKeep s fun s => { s.setObj O.REFIN_STATE 0 with clk := { s.clk with refGood := 0, refSeen := false } }

/-- A 100 ms window of REFIN closes, `ppb` parts in 10^9 from nominal (R218). PRESENT wants a whole window without a missing edge, and the
windows that count towards REFIN_QUAL are those that lie in PRESENT. -/
def State.refinWindow (s : State) (ppb : Int) : State :=
  let d := ppb.natAbs
  let whole := s.clk.refSeen
  let s := { s with clk := { s.clk with refSeen := true } }
  if 1000000 < d then { s.setObj O.REFIN_STATE 0 with clk := { s.clk with refGood := 0 } }
  else if !whole then s
  else
    let inTol := decide (d ≤ s.obj O.REFIN_TOL * 1000)
    let st := s.obj O.REFIN_STATE
    let s := s.setObj O.REFIN_STATE (if st = 2 ∧ inTol then 2 else 1)
    { s with clk := { s.clk with refGood := if st ≠ 0 ∧ inTol then s.clk.refGood + 1 else 0 } }

def execRefinWindow (deviationPpb : Int) (s : State) : Host.Outcome State Fault Refusal := runKeep s (·.refinWindow deviationPpb)

/-- REFIN has stayed PRESENT within REFIN_TOL for REFIN_QUAL (R218). No PPS_IN edge has come since (R559). -/
def execRefinQualified (s : State) : Host.Outcome State Fault Refusal :=
  runKeep s fun s =>
    if s.obj O.REFIN_STATE = 1 ∧ s.obj O.REFIN_QUAL ≤ s.clk.refGood * 100 then
      (s.setObj O.REFIN_STATE 2).modServo fun m => { m with ppsSince := false }
    else s

/-- The clocks start (R15, R189, R190, R197, R512): F0 is fixed, and the CPLL, EPLL, the OPLLs of enabled outputs and the
TPLLs acquire. -/
def State.clockStart (s : State) : State :=
  let f0 := s.obj O.CLK_F0
  let m := multipleOf f0
  let s := { s with clk := { s.clk with f0 := f0, want := 0x3FF } }
  let s := ((s.setObj O.CLK_M m).setObj O.HEARTH_INC (incOf f0 m)).setObj O.CLK_FALLBACK 0x3FF
  let s := s.setObj O.PLL_DIV (s.planOf 0).word 1
  let s := s.setObj O.SPLL_VCO (if bit s.power.straps.toNat 4 then 5156250 else 5000000)
  let s := (s.loadPlan 13 (s.planOf 13)).loadPlan 14 (s.planOf 14)
  let s := s.tioSuspend
  let s := forEach [0, 1, 2, 3, 4, 5, 6, 7] (fun s g =>
    let m := s.obj O.GROUP_MODE (g + 1)
    let s := s.modGroup g fun r => { r with mode := if m = 0xFE then 0 else m, n := s.effN (s.obj O.GROUP_N (g + 1)) }
    let s := s.setObj O.GROUP_RATE_ACT (s.groupRate g) (g + 1)
    if m = 0xFF then s else s.loadPlan (g + 1) (s.planOf (g + 1))) s
  forEach [0, 1, 2, 3] (fun s k =>
    let s := forEach [2 * k, 2 * k + 1] (fun s n => if s.obj O.CLKOUT_EN (n + 1) = 1 then s.setObj O.CLKOUT_GATE 1 (n + 1) else s) s
    if s.obj O.CLKOUT_EN (2 * k + 1) = 1 ∨ s.obj O.CLKOUT_EN (2 * k + 2) = 1 then
      (s.loadPlan (k + 9) (s.planOf (k + 9))).setObj O.OPLL_STATUS 1 (k + 1) else s) s

/-- PLL_FLAGS as read: ON_FALLBACK and LOCKED are live (R220). -/
def State.pllFlags (s : State) (n : Nat) : Nat :=
  s.obj O.PLL_FLAGS (n + 1) + 2 * b2n (match islandBit n with | some b => bit (s.obj O.CLK_FALLBACK) b | none => false) +
    b2n (s.obj O.PLL_STATE (n + 1) == 2)

end Sys2Proof.Machine
end

