-- ==== Sys2Proof/Machine/Lanes.lean ====
section
/-! DEFINITION. Lanes (R107 to R141): the probe of AUTO, locks of Ethernet ports with their latency records, adaptation with
its rails, eyes and quality, polarity, loopbacks and test patterns. Training itself stands in Link.lean, the rates of groups
in Clock.lean. -/

namespace Sys2Proof.Machine

/-- The probe of a group in AUTO moves to its next phase (R517): NATIVE, ETH_25G under RS528, ETH_25G under NONE, ETH_10G. -/
def State.probePhase (s : State) (g : Nat) : State :=
  let r := s.group g
  if s.obj O.GROUP_MODE (g + 1) ≠ 0xFE ∨ r.settled ∨ ¬ s.tpllOk g then s else
  let n := s.effN (s.obj O.GROUP_N (g + 1))
  let s' := s.modGroup g fun r => { r with probe := (r.probe + 1) % 4 }
  match r.probe with
  | 0 => s'.retune g 2 n
  | 1 => s'
  | 2 => s'.retune g 1 n
  | _ => s'.retune g 0 n

def execAutoProbePhase (g : Fin 8) (s : State) : Host.Outcome State Fault Refusal := runKeep s (·.probePhase g)

/-- Every lane of a settled group in AUTO has been DOWN for 10 s: the probe resumes, in NATIVE (R517). -/
def State.probeResume (s : State) (g : Nat) : State :=
  let r := s.group g
  if s.obj O.GROUP_MODE (g + 1) ≠ 0xFE ∨ ¬ r.settled ∨ (groupLanes g).any (fun n => s.linkState n != 0) then s else
  let s := s.modGroup g fun r => { r with settled := false, probe := 0 }
  if r.mode = 0 then s else s.retune g 0 (s.effN (s.obj O.GROUP_N (g + 1)))

def execAutoProbeResume (g : Fin 8) (s : State) : Host.Outcome State Fault Refusal := runKeep s (·.probeResume g)

/-- The FEC permitted to an Ethernet port by its group's mode and its width, the default last (R113). -/
def fecChoices (mode width : Nat) : List Nat :=
  match mode, width with
  | 1, 1 => [1, 0]
  | 2, 1 => [0, 1, 2]
  | 2, 4 => [0, 2]
  | 3, 1 => [3]
  | 3, 2 => [3]
  | _, _ => []

/-- The FEC in force on an Ethernet port (R113, R114). A stored PORT_FEC stays in force where a later change of GROUP_MODE or PORT_WIDTH no
more permits it: the spec is silent there (log entry 53). In AUTO it is the one that the probe stands at (R517). -/
def State.portFec (s : State) (p : Nat) : Nat :=
  let g := s.group (groupOf p)
  let v := s.obj O.PORT_FEC (p + 1)
  if s.obj O.GROUP_MODE (groupOf p + 1) = 0xFE ∧ g.mode = 2 ∧ v = 0xFF then (if g.probe = 2 then 0 else 2)
  else if v = 0xFF then (fecChoices g.mode (s.width p)).getLastD 0 else v

/-- The digital transmit and receive latency of an Ethernet port, UI (R150). -/
def ethLatency (mode width fec : Nat) : Nat × Nat :=
  match mode, width, fec with
  | 2, 4, 2 => (1716, 3300)
  | 2, 4, _ => (1320, 1584)
  | 2, _, 2 => (5676, 11616)
  | 3, 2, _ => (1530, 3060)
  | 3, _, _ => (3060, 6120)
  | _, _, 1 => (2442, 4554)
  | _, _, _ => (330, 396)

/-- `half` half unit intervals at a symbol rate in kBd and `ana` hundredths of a picosecond, in units of 2^-24 ns (R90, R150). -/
def ethUnits (kbd half ana : Nat) : Nat :=
  if kbd = 0 then 0 else (roundDiv ((half * 10 ^ 11 + 2 * ana * kbd) * 2 ^ 24) (2 * kbd * 10 ^ 5)).toNat

/-- The Ethernet latency record of a port, held on its lowest lane (R150). One UI is a symbol, so that a bit of LANE_RX_ALIGN is half a UI in
PAM4 modes. -/
def State.setEthLat (s : State) (p deskew : Nat) : State :=
  let (tx, rx) := ethLatency (s.group (groupOf p)).mode (s.width p) (s.portFec p)
  let kbd := s.groupRate (groupOf p)
  let align := (if s.pam4 p then 1 else 2) * s.obj O.LANE_RX_ALIGN (p + 1)
  let rx := 2 * rx + align + (if s.width p = 1 then 0 else 2 * deskew)
  (s.setObj O.LINK_TX_LAT (ethUnits kbd (2 * tx) (s.lane p).anaTx) (p + 1)).setObj O.LINK_RX_LAT (ethUnits kbd rx (s.lane p).anaRx) (p + 1)

/-- A lane of an Ethernet port locks: its alignment, the codes of a receiver that had not yet entered RX_READY, and a waiting analogue figure
(R117, R118, R127, R151). -/
def State.ethLane (s : State) (n align : Nat) (eq : List Int) : State :=
  let s := s.setObj O.LANE_RX_ALIGN align (n + 1)
  let s := s.modLane n fun l => match l.anaNext with
    | some a => { l with anaTx := a.1, anaRx := a.2, anaNext := none }
    | none => l
  let s := if s.linkState n = 6 ∨ s.linkState n = 2 then s else s.enterReady n eq
  let s := s.setObj O.LINK_STATE 9 (n + 1)
  if s.status O.LINK_CMD_STATUS (n + 1) = 1 then s.endStatus O.LINK_CMD_STATUS (n + 1) 2 else s

/-- The bit offset of a block or codeword boundary lies in a word of the receive gearbox: 66 bits, or 68 in PAM4 modes (R117). -/
def alignOk (mode : Nat) (a : BitVec 16) : Bool := decide (a.toNat ≤ if mode = 3 then 67 else 65)

/-- A lane may lock with its port: its CDR has locked, and a lane that trains has done so (R115, R118). -/
def State.mayLock (s : State) (n : Nat) : Bool :=
  s.ethFree n && s.linkState n != 0 && (!s.krCr n || s.linkState n == 6 || s.linkState n == 2)

/-- An Ethernet port locks and its PCS link comes up (R117, R118, R150, R151). -/
def State.portLock (s : State) (p : Nat) (aligns : List (BitVec 16)) (deskew : Nat) (eq : List (List Int)) : State :=
  let m := (s.group (groupOf p)).mode
  let ls := s.portLanes p
  if (s.lport p).up || s.portOf p != p || fecChoices m (s.width p) == [] || !ls.all s.mayLock || !aligns.all (alignOk m) then s else
  let s := forEach ls (fun s n => s.ethLane n (aligns.getD (n - p) 0).toNat (eq.getD (n - p) [])) s
  let s := if s.width p = 1 then s else s.setObj O.PORT_ETH_DESKEW deskew (p + 1)
  let all := 2 ^ s.width p - 1
  ((s.setEthLat p deskew).setObj O.PORT_ACTIVE (16 * all + all) (p + 1)).modLPort p (fun l => { l with up := true }) |>.settle (groupOf p)

def execPortLock (port : Fin 48) (aligns : List (BitVec 16)) (deskew : BitVec 16) (eq : List (List Int)) (s : State) :
    Host.Outcome State Fault Refusal := runKeep s (·.portLock port aligns deskew.toNat eq)

/-- A lane behaves as FROZEN (R125, R126, R129, R470). -/
def State.adaptHeld (s : State) (n : Nat) : Bool :=
  let l := s.lane n
  l.mode != 0 || l.divFrozen || s.govDefer || Tab.get s.cal.lost 0 n != 0

/-- One element moves by at most one code at an update (R125, R127): not past its rail; arriving there raises
LANE_ADAPT_LIMIT. -/
def State.adaptOne (s : State) (n i : Nat) (move : Int) : State :=
  let l := s.lane n
  let v := l.eq.getD i 0
  let r := railOf (s.pam4 n) i (l.trained.getD i 0)
  let v' := v + clampI 1 move
  if v' = v ∨ v' < r.1 ∨ r.2 < v' then s else
  let s := s.modLane n fun l => { l with eq := l.eq.set i v' }
  if s.onRail n i v' ∧ ¬ s.onRail n i v then s.raise O.LANE_FLAGS 5 (n + 1) else s

/-- A lane has passed RX_READY: a trained native lane, or an Ethernet lane at RX_READY, with its locks or in service (R82, R118). -/
def State.rxReady (s : State) (n : Nat) : Bool := decide (6 ≤ s.linkState n) || (!s.native n && s.linkState n == 2)

/-- An update boundary (R125 to R129): a write of ADAPT_MODE and an expert write that came before it take effect, and after RX_READY the
update falls under that mode. Move `i` is that of element i + 1; the CTLE holds (R124). -/
def State.adaptUpdate (s : State) (n : Nat) (moves : List Int) : State :=
  let s := s.modLane n fun l =>
    { l with mode := s.obj O.ADAPT_MODE (n + 1), eq := l.eqNext.getD l.eq, trained := l.eqNext.getD l.trained, eqNext := none }
  if !s.rxReady n || s.adaptHeld n then s
  else forEach (List.range 13) (fun s i => s.adaptOne n (i + 1) (moves.getD i 0)) s

def execAdaptUpdate (lane : Fin 48) (moves : List Int) (s : State) : Host.Outcome State Fault Refusal :=
  runKeep s (·.adaptUpdate lane moves)

/-- How many neighbours in a list differ. -/
def changes : List Nat → Nat
  | a :: b :: r => (if a = b then 0 else 1) + changes (b :: r)
  | _ => 0

/-- How many of the 16 patterns of four bits occur in 130 bits, at steps of `k` bits (log entry 54). -/
def patterns (w : Nat) (k : Nat) : Nat :=
  let l := (List.range (126 / k + 1)).map fun i => w / 2 ^ (126 - k * i) % 16
  (List.range 16).countP fun v => l.contains v

/-- A window is of low diversity (R126): NRZ by its bit transitions and four-bit patterns, PAM4 by its symbol changes and two-symbol
patterns. -/
def lowDiversity (pam4 : Bool) (w : Nat) : Bool :=
  if pam4 then
    decide (changes ((List.range 65).map fun i => w / 2 ^ (128 - 2 * i) % 4) < 32) || decide (patterns w 2 < 12)
  else
    let t := changes ((List.range 130).map fun i => w / 2 ^ (129 - i) % 2)
    decide (t < 40 ∨ 89 < t) || decide (patterns w 1 < 14)

/-- The diversity monitor of a lane after `k` equal windows (R126): it freezes adaptation after 65,536 windows of low diversity in a row, and
lets it go on after 256 that are not. -/
def Lane.monitor (l : Lane) (low : Bool) (k : Nat) : Lane :=
  if k = 0 then l
  else if low then
    { l with lowRun := l.lowRun + k, okRun := 0, divFrozen := l.divFrozen || decide (65536 ≤ l.lowRun + k) }
  else { l with lowRun := 0, okRun := l.okRun + k, divFrozen := l.divFrozen && decide (l.okRun + k < 256) }

/-- Windows of a lane's received stream come to its diversity monitor, in training and in service (R126). -/
def State.monitor (s : State) (w : Windows) : State :=
  let pam := s.pam4 w.lane
  s.modLane w.lane fun l => w.runs.foldl (fun l r => l.monitor (lowDiversity pam r.1.toNat) r.2) l

/-- 65,536 consecutive windows of low diversity freeze adaptation (R126): the windows since the monitor's last command. -/
def execDivFreeze (w : Windows) (s : State) : Host.Outcome State Fault Refusal := runKeep s (·.monitor w)

/-- 256 consecutive windows that are not of low diversity let adaptation resume (R126): the windows since the monitor's last command. -/
def execDivResume (w : Windows) (s : State) : Host.Outcome State Fault Refusal := runKeep s (·.monitor w)

/-- LANE_QUALITY (R131). -/
def qualityOf (pam4 : Bool) (w h : Nat) : Nat :=
  let href := if pam4 then 48 else 120
  min 255 (min (255 * w / 32) (255 * h / href))

/-- A lane becomes DEGRADED (R470, R471). -/
def State.degrade (s : State) (n : Nat) : State :=
  if (s.lane n).degraded then s
  else ((s.modLane n fun l => { l with degraded := true }).raise O.LANE_FLAGS 6 (n + 1)).raise O.CAL_FLAGS 6

/-- A lane is removed from service (R471). -/
def State.takeOut (s : State) (n : Nat) : State :=
  if (s.lane n).removed then s else ((s.degrade n).raise O.CAL_FLAGS 8).removeLane n

/-- The length of the run of open points that holds the point `home`, among those listed. -/
def openRun (pts : List Bool) (home : Nat) : Nat :=
  if pts.getD home false then ((pts.drop home).takeWhile id).length + ((pts.take home).reverse.takeWhile id).length else 0

/-- The same among points that go round, as the codes of the interpolator do (log entry 55). -/
def openRing (pts : List Bool) (home : Nat) : Nat := min pts.length (openRun (pts ++ pts ++ pts) (pts.length + home))

/-- The open points of a row: no mismatch over 2^EYE_DEPTH bits (R130). -/
def State.openPoints (s : State) (r : EyeRow) : List Bool := r.agree.map fun k => decide (2 ^ s.obj O.EYE_DEPTH ≤ k)

/-- The least of the figures of a lane's eyes (R130). -/
def leastOf (l : List Nat) : Nat := match l with | [] => 0 | a :: r => r.foldl min a

/-- LANE_EYE_W and LANE_EYE_H of a sweep (R130, R131): open phases among 64, and open thresholds among 128 in steps of 4 mV. -/
def State.eyeFigures (s : State) (phases thresholds : List EyeRow) : Nat × Nat :=
  (leastOf (phases.map fun r => openRing (s.openPoints r) r.home),
   leastOf (thresholds.map fun r => 4 * openRun (s.openPoints r) r.home))

/-- An eye sweep ends (R130, R131). A lane that has passed RX_READY is judged by its quality (R471); one below it, or under test, is not in
service, and its figures alone are updated (log entry 55). -/
def State.eyeSweep (s : State) (n : Nat) (phases thresholds : List EyeRow) : State :=
  let (w, h) := s.eyeFigures phases thresholds
  let q := qualityOf (s.pam4 n) w h
  let s := ((s.setObj O.LANE_EYE_W w (n + 1)).setObj O.LANE_EYE_H h (n + 1)).setObj O.LANE_QUALITY q (n + 1)
  if !s.rxReady n then s else
  let warn := decide (q < s.obj O.LANE_Q_WARN)
  let floor := decide (q < s.obj O.LANE_Q_FLOOR)
  let s := s.modLane n fun l =>
    { l with lowWarn := if warn then l.lowWarn + 1 else 0, lowFloor := if floor then l.lowFloor + 1 else 0 }
  let s := if 4 ≤ (s.lane n).lowWarn then s.degrade n else s
  if 4 ≤ (s.lane n).lowFloor then s.takeOut n else s

def execEyeSweepDone (lane : Fin 48) (phases thresholds : List EyeRow) (s : State) : Host.Outcome State Fault Refusal :=
  runKeep s (·.eyeSweep lane phases thresholds)

/-- A value of RX_EQ within the ranges of R123 (R128). -/
def State.rxEqOk (s : State) (n : Nat) (v : Bytes) : Bool :=
  v.length == 16 && (v.getD 14 0).toNat == 0 && (v.getD 15 0).toNat == 0 &&
    (List.range 14).all fun i => let r := eqRange (s.pam4 n) i; let x := (v.getD i 0).toInt; decide (r.1 ≤ x ∧ x ≤ r.2)

/-- A write of RX_EQ (R11, R128): only in an expert session and while ADAPT_MODE is FROZEN; it waits for the next update boundary. -/
def State.writeRxEq (s : State) (n : Nat) (v : Bytes) : State :=
  if ¬ s.falri.session ∨ s.obj O.ADAPT_MODE (n + 1) ≠ 1 ∨ ¬ s.rxEqOk n v then s
  else s.modLane n fun l => { l with eqNext := some ((List.range 14).map fun i => (v.getD i 0).toInt) }

def execRxEqWrite (lane : Fin 48) (value : Bytes) (s : State) : Host.Outcome State Fault Refusal := runKeep s (·.writeRxEq lane value)

/-- Two consecutive inverted SUPER blocks: the receiver inverts its input (R133, R134). -/
def execAutoPolarity (lane : Fin 48) (s : State) : Host.Outcome State Fault Refusal :=
  runKeep s fun s =>
    if s.native lane ∧ 2 ≤ s.linkState lane ∧ bit (s.obj O.LANE_POLARITY (lane + 1)) 2 then
      s.modLane lane fun l => { l with rxInv := true }
    else s

/-- A loopback or a test pattern is selected on a lane (R137, R139). LANE_PRBS with [6] alone, the checker with no pattern sent, counts as a
test pattern here: the spec does not say whether it does (log entry 56). -/
def State.testWanted (s : State) (n : Nat) : Bool :=
  s.obj O.LANE_LOOP (n + 1) != 0 || decide (64 ≤ s.obj O.LANE_PRBS (n + 1))

/-- LANE_LOOP or LANE_PRBS has been written (R137): the lane leaves service for its test, or retrains once no test is left. -/
def State.testChanged (s : State) (n : Nat) : State :=
  let l := s.lane n
  if s.testWanted n then (if l.test then s.emit (s.testSource n) else if l.leave = 2 then s else s.leaveService n 2)
  else if l.test then ((s.modLane n fun l => { l with test := false, leave := 0 }).startTraining n).emit (s.testSource n)
  else if l.leave = 2 then s.modLane n fun l => { l with leave := 1 }
  else s

/-- A write of LANE_LOOP (R136, R137). -/
def State.writeLoop (s : State) (n v : Nat) : State :=
  if 3 < v then s else ((s.setObj O.LANE_LOOP v (n + 1)).modLane n fun l => { l with fill := 64 }).testChanged n

def execLaneLoopWrite (lane : Fin 48) (value : Byte) (s : State) : Host.Outcome State Fault Refusal :=
  runKeep s (·.writeLoop lane value.toNat)

/-- A value of LANE_PRBS that is valid for the lane's mode (R139). -/
def State.prbsOk (s : State) (n v : Nat) : Bool :=
  bits v 5 3 == 0 && decide (v < 256) && (decide (v % 8 ≤ 4) || (decide (v % 8 ≤ 6) && s.pam4 n))

/-- A write of LANE_PRBS (R137, R139): the checker begins anew. -/
def State.writePrbs (s : State) (n v : Nat) : State :=
  if !s.prbsOk n v then s
  else ((s.setObj O.LANE_PRBS v (n + 1)).modLane n fun l => { l with seen := 0, seenN := 0 }).testChanged n

def execLanePrbsWrite (lane : Fin 48) (value : Byte) (s : State) : Host.Outcome State Fault Refusal :=
  runKeep s (·.writePrbs lane value.toNat)

/-- The FIFO of FAR_RETIMED moves on (R138): a fill that leaves 16 to 112 bits is recentred by 64 bits dropped or repeated. -/
def State.loopSlip (s : State) (m : FifoMove) : State :=
  let n := m.lane.val
  let l := s.lane n
  if s.obj O.LANE_LOOP (n + 1) ≠ 3 ∨ ¬ l.test then s else
  let f := l.fill + m.written - m.read
  if f < 16 then (s.modLane n fun l => { l with fill := f + 64 }).raise O.LANE_FLAGS 4 (n + 1)
  else if 112 < f then (s.modLane n fun l => { l with fill := f - 64 }).raise O.LANE_FLAGS 4 (n + 1)
  else s.modLane n fun l => { l with fill := f }

def execLoopSlip (move : FifoMove) (s : State) : Host.Outcome State Fault Refusal := runKeep s (·.loopSlip move)

/-- The mode of a lane's group: GROUP_MODE, or the mode in force of a group in AUTO (R108, R113). -/
def State.portMode (s : State) (p : Nat) : Nat :=
  let m := s.obj O.GROUP_MODE (groupOf p + 1)
  if m = 0xFE then (s.group (groupOf p)).mode else m

/-- A value of PORT_FEC that R113 permits for the port's mode (R114). -/
def State.fecOk (s : State) (p v : Nat) : Bool := v == 0xFF || (fecChoices (s.portMode p) (s.width p)).contains v

/-- A write of PORT_FEC (R114, R151): a change always causes a new lock of an Ethernet port. -/
def State.writeFec (s : State) (p v : Nat) : State :=
  let old := s.obj O.PORT_FEC (p + 1)
  let s := s.setObj O.PORT_FEC v (p + 1)
  if s.native p ∨ v = old then s else
  let s := if (s.lport p).up then s.portDown p else s
  forEach (s.portLanes p) (fun s n => if (s.lane n).test ∨ (s.lane n).removed then s else s.startTraining n) s

/-- An element of the lane stands on its rail (R127). -/
def State.railHeld (s : State) (n : Nat) : Bool := (List.range 14).any fun i => s.onRail n i ((s.lane n).eq.getD i 0)

/-- LANE_FLAGS as read (R141). -/
def State.laneFlags (s : State) (n : Nat) : Nat :=
  let l := s.lane n
  s.obj O.LANE_FLAGS (n + 1) + 8 * b2n l.rxInv + 4 * b2n s.govDefer + 2 * b2n l.divFrozen + b2n (l.eq != [] && s.railHeld n)

/-- LANE_HEALTH (R476). -/
def State.health (s : State) (n : Nat) : Nat :=
  let l := s.lane n
  let k := (s.freeSpares n).length
  if l.removed then 4 else if l.degraded then 3 else if k = 0 then 2 else if k < 4 then 1 else 0

end Sys2Proof.Machine
end

