-- ==== Sys2Proof/Machine/Cal.lean ====
section
/-! DEFINITION. Calibration (R461 to R480): starting runs and retries, the boundary with grades and spares, forced runs and
their abort, the temperature and periodic triggers, CAL_STORE and CAL_TABLE. CalPlan.lean holds what other chapters ask of
the plan. -/

namespace Sys2Proof.Machine

/-- Runs are serialised (R463): on a lane LANE_LAT goes before SLICER, on a channel TDC_TRIM before TIO_PATH. A lane whose
failed slicer waits to be replaced has no run (R468). -/
def State.calSerial (s : State) (kind inst : Nat) : Bool :=
  let st (k : Nat) : Nat := (s.calRec k inst).state
  match kind with
  | 0 => decide (st 1 = 1 ∨ st 1 = 2) || s.cal.subs.any (·.1 == inst)
  | 1 => st 0 == 2
  | 5 => st 6 == 2
  | 6 => decide (st 5 = 1 ∨ st 5 = 2)
  | _ => false

/-- The 2 ms of quiet that NO_EDGE wants before a run, and in an output mode the time until its end, as far as the part's own state tells
them (R463, R465). -/
def State.edgeNear (s : State) (kind c : Nat) : Bool :=
  (match (s.tdc c).last with | some (_, n) => !s.elapsed n 2000000 | none => false) ||
    (s.isGen c && s.genBusy c &&
      decide (s.riseTime c - s.now.toNat < (if kind = 5 then 1200000 else 500000) * 2 ^ 24))

/-- The precondition that an instance finds violated before its run (R463, R465). `quiet`: the channel has been quiet for
2 ms, and no edge is due until the end of the run, as far as that is not the part's own to know. -/
def State.calCond (s : State) (kind inst : Nat) (quiet : Bool) : Option Nat :=
  match kind with
  | 0 => if s.linkState inst = 0 then none else if s.linkState inst < 7 then some 1
         else if s.freeSpares inst = [] then some 2 else none
  | 1 => if (s.calRec 1 inst).direct then (if s.linkState inst = 0 then none else some 1)
         else if s.tpllOk (groupOf inst) then none else some 3
  | 2 => if s.stepsDone inst then none else some 4
  | 3 => if s.hearth.phase = .committed then some 7 else none
  | 4 => if s.obj O.PLL_STATE (inst / 2 + 10) = 2 then none else some 3
  | _ => if quiet && !s.edgeNear kind inst then none else some 5

/-- A run begins. -/
def State.calBegin (s : State) (kind inst : Nat) (retry : Bool) : State :=
  let t := s.calTemp kind inst
  s.modCal kind inst fun r => { r with state := 2, retry := retry, startTemp := t, again := false }

/-- A lane in service with no free spare is given no automatic SLICER run: its trigger waits for the next training (R466). -/
def State.calSpareless (s : State) (kind inst : Nat) : Bool :=
  kind == 0 && !(s.calRec 0 inst).forced && decide (7 ≤ s.linkState inst) && s.freeSpares inst == []

/-- Its trigger waits for the next training (R466). -/
def State.calAwaitTrain (s : State) (inst : Nat) : State := s.modCal 0 inst fun r => { r with state := 0, waitTrain := true }

/-- A PENDING instance comes to its turn (R463, R465 to R467). -/
def State.calStart (s : State) (kind inst : Nat) (quiet : Bool) : State :=
  let r := s.calRec kind inst
  if !calExists kind inst || r.state != 1 || (s.govDefer && kind != 2) || s.calSerial kind inst then s else
  if s.calSpareless kind inst then s.calAwaitTrain inst else
  match s.calCond kind inst quiet with
  | some c => s.calPrecond kind inst c r.forced false
  | none => s.calBegin kind inst false

def execCalRunStart (i : CalInst) (quiet : Bool) (s : State) : Host.Outcome State Fault Refusal :=
  runKeep s (·.calStart i.kind.toNat i.inst.toNat quiet)

/-- A waiting instance is retried at a boundary at least CAL_RETRY_GAP later (R466, R467). -/
def State.calRetry (s : State) (kind inst : Nat) (quiet : Bool) : State :=
  if !calExists kind inst || (s.calRec kind inst).state != 3 || (s.govDefer && kind != 2) || s.calSerial kind inst ||
      !s.elapsed (s.calRec kind inst).waitAt (s.obj O.CAL_RETRY_GAP * 1000000) then s else
  if s.calSpareless kind inst then s.calAwaitTrain inst else
  match s.calCond kind inst quiet with
  | some c => s.calPrecond kind inst c false true
  | none => s.calBegin kind inst true

def execCalRetry (i : CalInst) (quiet : Bool) (s : State) : Host.Outcome State Fault Refusal :=
  runKeep s (·.calRetry i.kind.toNat i.inst.toNat quiet)

/-- The grade of a figure: 1 PASS, 2 MARGINAL, 3 FAIL (R468). -/
def calGrade (kind figure : Nat) (outOfRange : Bool) : Nat :=
  let low (a b : Nat) : Nat := if figure ≤ a then 1 else if figure ≤ b then 2 else 3
  match kind with
  | 0 => if outOfRange then 3 else low 20 60
  | 1 => low 50 100
  | 2 => if 50 ≤ figure then 1 else if 10 ≤ figure then 2 else 3
  | 3 => low 125 250
  | 4 => low 100 200
  | 5 => low 100 300
  | _ => low 300 600

/-- CAL_STORE with what the part keeps current in it: its own SERIAL and FORMAT (R475). -/
def State.calStorePut (s : State) (k : Nat) (l : Bytes) : State :=
  let b := s.blob O.CAL_STORE
  let own := ofBe (b.run 0 8) == s.fuses.serial && ofBe (b.run 8 2) == 1
  let b : Blob := if own then b else ⟨484, Tab.setRun [] 0 0 (beBytes 8 s.fuses.serial ++ [0, 1])⟩
  s.setBlob O.CAL_STORE ⟨484, Tab.setRun b.cells 0 k l⟩

/-- The slicer that serves a role of a lane: its own or a spare (R470). -/
def State.slicerOf (s : State) (n r : Nat) : Nat := let k := Tab.get s.cal.spareOf 0 (16 * n + r); if k = 0 then r else k

/-- The roles in use: four in NRZ modes, six in PAM4 modes (R469). -/
def State.roles (s : State) (n : Nat) : List Nat := if s.pam4 n then [0, 1, 2, 3, 4, 5] else [0, 3, 4, 5]

/-- The receive figure of a lane's latency takes the difference of a substituted edge slicer (R470). -/
def State.edgeLat (s : State) (n rx : Nat) : State :=
  let s := s.modLane n fun l => { l with anaRx := rx }
  if s.native n then s.setLat n
  else if s.portOf n = n ∧ (s.lport n).up then s.setEthLat n (s.obj O.PORT_ETH_DESKEW (n + 1)) else s

/-- A failed slicer is replaced (R470, R471): the lowest free spare takes over, or its role is lost and the lane DEGRADED; a
second loss removes the lane. -/
def State.replaceSlicer (s : State) (n b rx : Nat) : State :=
  match (s.roles n).find? fun r => s.slicerOf n r == b with
  | none => s
  | some r =>
    let s := if r = 3 then s.edgeLat n rx else s
    match s.freeSpares n with
    | k :: _ =>
      let s := s.modCalib fun q => { q with spareOf := Tab.set q.spareOf 0 (16 * n + r) k }
      let s := s.raise O.CAL_FLAGS 4
      if s.freeSpares n = [] then (s.raise O.LANE_FLAGS 7 (n + 1)).raise O.CAL_FLAGS 5 else s
    | [] =>
      let l := Tab.get s.cal.lost 0 n
      let s := s.modCalib fun q => { q with lost := Tab.set q.lost 0 n (setBit l r true) }
      if l = 0 then s.degrade n else s.takeOut n

/-- A slicer has failed (R469, R470): CAL_STORE keeps it, and it is replaced at the next superframe boundary of a native lane, in Ethernet
modes at the update boundary at which the run ends. -/
def State.slicerFailed (s : State) (n b rx : Nat) : State :=
  let m := Tab.get s.cal.slicerFail 0 n
  if bit m b then s else
  let s := s.modCalib fun q => { q with slicerFail := Tab.set q.slicerFail 0 n (setBit m b true) }
  let s := s.calStorePut (16 + 2 * n) (beBytes 2 (setBit m b true))
  if s.native n then s.modCalib fun q => { q with subs := q.subs ++ [(n, b, rx)] } else s.replaceSlicer n b rx

/-- The substitutions that wait for a superframe boundary of a group take effect (R470). -/
def State.takeSubs (s : State) (g : Nat) : State :=
  let l := s.cal.subs.filter fun x => groupOf x.1 == g
  if l = [] then s else
  forEach l (fun s x => s.replaceSlicer x.1 x.2.1 x.2.2)
    (s.modCalib fun q => { q with subs := q.subs.filter fun x => groupOf x.1 != g })

/-- A superframe begins (R57): at its boundary failed slicers are replaced. -/
def execSuperframeStart (g : Fin 8) (s : State) : Host.Outcome State Fault Refusal :=
  runKeep s fun s => (if (s.group g).sfcOn && s.tpllOk g && (s.group g).mode == 0 then s.takeSubs g else s).superframe g

/-- Failed cells of a TDC channel. -/
def State.cellsFailed (s : State) (c : Nat) : Nat := popCount (Tab.get s.cal.cellFail 0 c) 80

/-- A TDC cell has failed (R472): a spare takes its place; after the sixteenth the channel is COARSE. -/
def State.cellFailed (s : State) (c b : Nat) : State :=
  let m := Tab.get s.cal.cellFail 0 c
  if bit m b then s else
  let m' := setBit m b true
  let s := s.modCalib fun q => { q with cellFail := Tab.set q.cellFail 0 c m' }
  let s := s.calStorePut (112 + 10 * c) (beBytes 10 m')
  let k := s.cellsFailed c
  let s := if k ≤ 16 then s.raise O.CAL_FLAGS 4 else s
  if k = 16 then (s.raise O.TIO_FLAGS 8 (c + 1)).raise O.CAL_FLAGS 5
  else if k = 17 then (s.setObj O.TIO_TDC_MODE 1 (c + 1)).raise O.CAL_FLAGS 7
  else s

/-- The spare procedure for the element that a run found failed (R468 to R472). -/
def State.spareProc (s : State) (kind inst : Nat) (v : CalResult) : State :=
  match kind, v.failed with
  | 0, some (.slicer b) => s.slicerFailed inst b v.rxLat.toNat
  | 5, some (.cell c) => s.cellFailed inst c
  | _, _ => s

/-- The coefficients of a run take effect (R461, R463): a LANE_LAT run writes the lane's analogue figures, of an Ethernet
port at its next lock; a direct run is kept in CAL_STORE. The correction of an output's delay is walked in, or applied at the next
opening. -/
def State.calApply (s : State) (kind inst : Nat) (v : CalResult) : State :=
  let s := s.modCal kind inst fun r => { r with trims := r.trims + 1 }
  let s := if kind = 4 then s.modClkout inst fun c => { c with trimIn := c.trimIn + v.delay.toInt } else s
  if kind ≠ 1 then s else
  let tx := v.txLat.toNat
  let rx := v.rxLat.toNat
  let s := if (s.calRec 1 inst).direct then s.calStorePut (292 + 4 * inst) (beBytes 2 tx ++ beBytes 2 rx) else s
  if s.native inst then (s.modLane inst fun l => { l with anaTx := tx, anaRx := rx }).setLat inst
  else s.modLane inst fun l => { l with anaNext := some (tx, rx) }

/-- A run is over: a trigger recorded during it makes the instance PENDING once more (R463). -/
def State.calOver (s : State) (kind inst : Nat) (idle : Nat) : State :=
  s.modCal kind inst fun r =>
    { r with state := if r.again then 1 else idle, again := false, forced := false, retry := false, rerun := false,
             direct := r.again && r.waitTrain && kind == 1, waitTrain := r.waitTrain && kind == 0 }

/-- The state to which a run that has not succeeded goes back: a forced run leaves DEFERRED and WAIT_PRECOND as they were
(R473). -/
def CalRec.back (r : CalRec) : Nat := if r.forced then (if r.retries = 8 then 4 else if 0 < r.retries then 3 else 0) else 0

/-- The boundary of a run whose measurement is complete (R461, R466, R468). -/
def State.calBoundary (s : State) (kind inst : Nat) (v : CalResult) : State :=
  let r := s.calRec kind inst
  if !calExists kind inst || r.state != 2 then s else
  let g := calGrade kind v.figure.toNat v.outOfRange
  let s := (s.count O.CAL_RUNS).modCal kind inst fun r => { r with grade := g, figure := v.figure.toNat }
  if g ≤ 2 then
    let t := s.calTemp kind inst
    let now := s.upNs
    let cycle := s.hearth.cycles
    let s := (s.calApply kind inst v).spareProc kind inst v
    let s := s.modCal kind inst fun r => { r with retries := 0, okAt := some now, doneAt := some cycle, temp := t }
    (s.calOver kind inst 0).calEnd kind inst 2 0
  else
    let s := s.raise O.CAL_FLAGS 3
    let s := if kind = 2 then s.raise O.PLL_FLAGS 4 (inst + 1) else s
    let s := s.spareProc kind inst v
    if v.failed.isSome ∧ (kind = 0 ∨ kind = 5) ∧ ¬ r.rerun then
      s.modCal kind inst fun r => { r with state := 1, rerun := true, retry := false }
    else (s.calOver kind inst r.back).calEnd kind inst 5 2

def execCalBoundary (i : CalInst) (result : CalResult) (s : State) : Host.Outcome State Fault Refusal :=
  runKeep s (·.calBoundary i.kind.toNat i.inst.toNat result)

/-- A Δ or C trigger (R464, R466): it also ends DEFERRED, and the retries start anew (log entry 63). -/
def State.calRetrigger (s : State) (kind inst : Nat) : State :=
  let s := if (s.calRec kind inst).state = 4 then s.modCal kind inst fun r => { r with state := 0, retries := 0 } else s
  if kind = 0 then s.calTriggerLane inst else s.calTrigger kind inst

/-- CAL_PERIOD after the last successful run (R464); VCO_BAND has no periodic trigger (R463). -/
def State.calPeriod (s : State) (kind inst : Nat) : State :=
  if !calExists kind inst || kind == 2 || s.obj O.CAL_PERIOD == 0 || !s.calAuto kind then s else
  match (s.calRec kind inst).okAt with
  | some t => if s.obj O.CAL_PERIOD * 1000000000 ≤ s.upNs - t then s.calRetrigger kind inst else s
  | none => s

def execCalPeriodExpire (i : CalInst) (s : State) : Host.Outcome State Fault Refusal :=
  runKeep s (·.calPeriod i.kind.toNat i.inst.toNat)

/-- Between runs, the data slicer and the monitor slicer disagree in an open eye: an F trigger (R469). -/
def execSlicerMismatch (lane : Fin 48) (s : State) : Host.Outcome State Fault Refusal :=
  runKeep s fun s => if s.obj O.LANE_EYE_H (lane + 1) = 0 ∨ (s.calRec 0 lane).state = 2 then s else s.calTriggerLane lane

/-- A temperature sample reaches an instance (R464 to R466): TEMP_STABLE of a run in progress, and the Δ trigger against the
last successful run or, deferred, against the deferral. During a run it is a new trigger if it did not hold as the run began. A
failed sensor is left out (R518). -/
def State.calWarmth (s : State) (kind inst : Nat) : State :=
  let t := s.calTemp kind inst
  let r := s.calRec kind inst
  if bit s.power.sensorOut (if kind ≤ 1 then groupOf inst else 8) then s else
  let s := if r.state = 2 ∧ 10 ≤ mag (t - r.startTemp) ∧ ((kind = 1 ∧ ¬ r.direct) ∨ kind = 3) then s.calViolate kind inst 6 else s
  let d := s.obj O.CAL_TEMP_DELTA * 10
  if kind = 2 ∨ ¬ s.calAuto kind then s
  else if r.state = 4 then (if d ≤ mag (t - r.deferTemp) then s.calRetrigger kind inst else s)
  else if r.okAt.isSome ∧ d ≤ mag (t - r.temp) ∧ (r.state = 0 ∨ (r.state = 2 ∧ mag (r.startTemp - r.temp) < d)) then
    s.calRetrigger kind inst
  else s

/-- Every instance of every KIND. -/
def calAll : List (Nat × Nat) := (List.range 7).flatMap fun k => (List.range (calInstances k)).map fun i => (k, i)

/-- The temperature triggers (R464). -/
def State.calTemps (s : State) : State := forEach calAll (fun s i => s.calWarmth i.1 i.2) s

/-- CAL_STATUS takes KIND, INSTANCE and the outcome of a command (R479). -/
def State.calStatus (s : State) (kind inst cmd st reason : Nat) : State :=
  (s.setObj O.CAL_STATUS (kind % 256 * 2 ^ 24 + inst % 256 * 2 ^ 16)).cmdStatus O.CAL_STATUS 0 cmd st reason

/-- CAL_CMD RUN (R473): it joins the run in progress; else the run starts now, or waits while the governor defers or another run goes before it. -/
def State.calRunCmd (s : State) (kind inst : Nat) (quiet : Bool) : State :=
  if s.status O.CAL_STATUS = 1 then s
  else if !calExists kind inst then s.calStatus kind inst 1 4 3
  else if kind = 2 then s.calStatus kind inst 1 4 0
  else
    let s := s.calStatus kind inst 1 1 0
    let s := s.modCalib fun q => { q with command := some (kind, inst) }
    let was := (s.calRec kind inst).state
    if was = 2 then s
    else (s.modCal kind inst fun r => { r with forced := true, state := 1 }).calStart kind inst quiet

def execCalRun (i : CalInst) (quiet : Bool) (s : State) : Host.Outcome State Fault Refusal :=
  runKeep s (·.calRunCmd i.kind.toNat i.inst.toNat quiet)

/-- CAL_CMD ABORT (R473, R474). In the boundary cycle itself, in which the run's coefficients were committed, it loses. -/
def State.calAbort (s : State) (kind inst : Nat) (coincident : Bool) : State :=
  let r := s.calRec kind inst
  if !calExists kind inst then s.calStatus kind inst 2 4 3
  else if r.state = 2 ∨ (r.state = 1 ∧ r.forced) then (s.calOver kind inst r.back).calStatus kind inst 2 3 0
  else if coincident ∧ r.doneAt = some s.hearth.cycles then (s.calStatus kind inst 2 2 0).abortLate O.CAL_STATUS 0 2 O.CAL_FLAGS 2
  else s.calStatus kind inst 2 4 0

def execCalAbort (i : CalInst) (coincident : Bool) (s : State) : Host.Outcome State Fault Refusal :=
  runKeep s (·.calAbort i.kind.toNat i.inst.toNat coincident)

/-- CAL_CMD CLEAR_DEFER (R473). -/
def State.clearDefer (s : State) (kind inst : Nat) : State :=
  if s.status O.CAL_STATUS = 1 then s
  else if !calExists kind inst then s.calStatus kind inst 3 4 3
  else if (s.calRec kind inst).state = 4 then
    let now := s.hearth.cycles
    (s.modCal kind inst fun r => { r with state := 3, retries := 0, waitAt := now }).calStatus kind inst 3 2 0
  else s.calStatus kind inst 3 4 0

def execClearDefer (i : CalInst) (s : State) : Host.Outcome State Fault Refusal := runKeep s (·.clearDefer i.kind.toNat i.inst.toNat)

/-- A run is abandoned because its steward restarts: it is repeated, and counts as no retry (R467). -/
def State.calAbandon (s : State) (kind inst : Nat) : State :=
  s.modCal kind inst fun r => if r.state = 2 then { r with state := 1, retry := false } else r

/-- Failed slicers of a lane are put out of use at start-up (R475). -/
def State.bootSpares (s : State) (n : Nat) : State :=
  forEach (s.roles n) (fun s r =>
    if !bit (Tab.get s.cal.slicerFail 0 n) r then s
    else match s.freeSpares n with
      | k :: _ => s.modCalib fun q => { q with spareOf := Tab.set q.spareOf 0 (16 * n + r) k }
      | [] => s.modCalib fun q => { q with lost := Tab.set q.lost 0 n (setBit (Tab.get q.lost 0 n) r true) }) s

/-- CAL_STORE at start-up (R475), and the power-up triggers (R463, R464): a SERIAL that is not the part's own, the 0 of a store that no
part has written included, raises CAL_STORE_FOREIGN. One of another FORMAT is not applied (log entry 32). -/
def State.calBoot (s : State) : State :=
  let b := s.blob O.CAL_STORE
  let s :=
    if ofBe (b.run 0 8) ≠ s.fuses.serial then s.raise O.CAL_FLAGS 9
    else if ofBe (b.run 8 2) ≠ 1 then s
    else
      let s := forEach (List.range 48) (fun s n =>
        let m := ofBe (b.run (16 + 2 * n) 2) % 1024
        let s := s.modCalib fun q => { q with slicerFail := Tab.set q.slicerFail 0 n m }
        (s.modLane n fun l => { l with anaTx := ofBe (b.run (292 + 4 * n) 2), anaRx := ofBe (b.run (294 + 4 * n) 2) }).bootSpares n) s
      forEach (List.range 18) (fun s c =>
        let s := s.modCalib fun q => { q with cellFail := Tab.set q.cellFail 0 c (ofBe (b.run (112 + 10 * c) 10)) }
        if 16 < s.cellsFailed c then s.setObj O.TIO_TDC_MODE 1 (c + 1) else s) s
  forEach calAll (fun s i => if 3 ≤ i.1 ∧ s.calAuto i.1 then s.calTrigger i.1 i.2 else s) s

/-- One record of CAL_TABLE (R477, R480): waiting instances read GOV_HELD while the governor defers (R467). Before the
first successful run AGE is saturated. -/
def State.calRecord16 (s : State) (kind inst : Nat) : Bytes :=
  let r := s.calRec kind inst
  let st := if s.govDefer && kind != 2 && (r.state == 1 || r.state == 3) then 5 else r.state
  let age := match r.okAt with | some t => min (2 ^ 32 - 1) ((s.upNs - t) / 1000000000) | none => 2 ^ 32 - 1
  beBytes 1 kind ++ beBytes 1 inst ++ beBytes 1 st ++ beBytes 1 r.retries ++ beBytes 1 r.grade ++ beBytes 1 r.precond ++
    beBytes 2 r.figure ++ beBytes 4 age ++ beBytes 2 (ofSigned 16 r.temp) ++ [0, 0]

/-- CAL_TABLE (R480). -/
def State.calTable (s : State) : Bytes := calAll.flatMap fun i => s.calRecord16 i.1 i.2

end Sys2Proof.Machine
end

