-- ==== Sys2Proof/Machine/Commands.lean ====
section
/-! DEFINITION. Fast commands (R243 to R249): reception, relay, slot 0, issue, and the effects at the execution edge. The
effects of SNAPSHOT and USER stand in Observation.lean and Engines.lean. -/

namespace Sys2Proof.Machine

/-- Target time of a CMD body, 2^-24 ns (R243). -/
def cmdTarget (b : Body) : Time56 := BitVec.ofNat 56 (blk b 87 56 * 2 ^ 24 + blk b 55 40 * 2 ^ 8)

/-- OP, SEQ, ISS, SCOPE, TARGET and ARG of a CMD body (R243). -/
def cmdOp (b : Body) : Nat := blk b 119 116
/-- Its sequence number. -/
def cmdSeq (b : Body) : Nat := blk b 115 108
/-- Its issuer. -/
def cmdIss (b : Body) : Nat := blk b 107 107
/-- Its scope. -/
def cmdScope (b : Body) : Nat := blk b 106 105
/-- Its target. -/
def cmdDest (b : Body) : Nat := blk b 104 88
/-- Its argument. -/
def cmdArg (b : Body) : Nat := blk b 39 16

/-- Ports from which commands are accepted (R245): peers of lower rank, and on a standby manager its twin. -/
def State.cmdFrom (s : State) (p : Nat) : Bool :=
  s.native p && (s.lport p).up && (s.peerLower p || (s.manager && s.obj O.TWIN_STATE == 4 && s.twin.port == p))

/-- LAST_SEQ of an issuer (R245). -/
def State.lastSeq (s : State) (iss : Nat) : Option Nat := if iss = 0 then s.tio.seq0 else s.tio.seq1

/-- Sets LAST_SEQ of an issuer. -/
def State.setLastSeq (s : State) (iss : Nat) (v : Option Nat) : State :=
  s.modTio fun x => if iss = 0 then { x with seq0 := v } else { x with seq1 := v }

/-- A command is new (R245). -/
def State.cmdNew (s : State) (b : Body) : Bool :=
  match s.lastSeq (cmdIss b) with
  | none => true
  | some l => let d := (cmdSeq b + 256 - l) % 256; decide (1 ≤ d ∧ d ≤ 127)

/-- The command executes on this part (R247). -/
def State.cmdMine (s : State) (b : Body) : Bool :=
  match cmdScope b with
  | 0 | 1 => true
  | 2 => s.obj O.DEVICE_ID != 0 && cmdDest b % 1024 == s.obj O.DEVICE_ID
  | _ => false

/-- The ports to which a command is relayed (R246): peers of higher rank, and endpoint ports by scope and registry. An
OBSERVER relays none (R399), and a twinned worker none on shared endpoint ports without the lease (R430). -/
def State.relayPorts (s : State) (b : Body) : List Nat :=
  if s.observer then [] else
  (List.range 48).filter fun p =>
    s.native p && (s.lport p).up &&
      (s.peerHigher p || (s.epPort p && s.epAllowed p && (cmdScope b == 0 ||
        (cmdScope b == 3 && s.regEntry (cmdDest b) == some (s.obj O.DEVICE_ID, p)))))

/-- The part's own F0 edge nearest a time, as F0_CNT counts it. -/
def State.nearestOwn (s : State) (t : Int) : Int :=
  let p : Int := s.f0Period
  if p = 0 then s.obj O.F0_CNT else (2 * s.sinceF0 t + p) / (2 * p)

/-- The execution edge of a command: the lattice edge that belongs to the own F0 edge nearest T − F0_SKEW (R247). -/
def State.execEdge (s : State) (b : Body) : Int := s.nearestOwn (s.nearNow (cmdTarget b) - s.objI O.F0_SKEW)

/-- The execution queue keeps commands by execution edge, those of one edge in ascending OP, and those of one OP in their order
of arrival (R247). -/
def insertCmd (edge : Nat → Int) (b : Nat) : List Nat → List Nat
  | [] => [b]
  | c :: r =>
    if edge b < edge c ∨ (edge b = edge c ∧ cmdOp (BitVec.ofNat 104 b) < cmdOp (BitVec.ofNat 104 c)) then b :: c :: r
    else c :: insertCmd edge b r

/-- A command is queued for execution: 32 wait at most (R246). -/
def State.queueExec (s : State) (b : Nat) : State :=
  if 32 ≤ s.tio.execQ.length then s.raise O.TIO_SYS_FLAGS 3
  else s.modTio fun x => { x with execQ := insertCmd (fun c => s.execEdge (BitVec.ofNat 104 c)) b x.execQ }

/-- A command waits in a port's relay queue of 16 (R246). -/
def State.queueRelay (s : State) (p b : Nat) : State :=
  let q := Tab.get s.tio.relayQ [] p
  if 16 ≤ q.length then s.raise O.TIO_SYS_FLAGS 3
  else s.modTio fun x => { x with relayQ := Tab.set x.relayQ [] p (q ++ [b]) }

/-- A command arrives too late to be executed or relayed: tdue(T − 200 ns, now), on the nanosecond fields (R12, R246). -/
def State.cmdLate (s : State) (b : Body) : Bool := tdue ((blk b 87 56 + 2 ^ 32 - 200) % 2 ^ 32) s.ns

/-- A CMD block is received (R72, R245, R246). A body with OP 0 is no command. -/
def State.cmdIn (s : State) (p : Nat) (b : Body) : State :=
  let s := if s.native p && (s.lport p).up then s.rxPort p 1 else s
  if !s.cmdFrom p || cmdOp b == 0 then s
  else if !s.cmdNew b then s.count O.CMD_DUP
  else
    let s := s.setLastSeq (cmdIss b) (some (cmdSeq b))
    if s.cmdLate b then (s.count O.CMD_LATE).raise O.TIO_SYS_FLAGS 2
    else
      let s := if s.cmdMine b then s.queueExec b.toNat else s
      forEach (s.relayPorts b) (fun s q => s.queueRelay q b.toNat) s

def execCmdReceive (port : Fin 48) (body : Body) (s : State) : Host.Outcome State Fault Refusal := runKeep s (·.cmdIn port body)

/-- The ports on which an issued command leaves: those of a relay, and TWIN_PORT, where the standby takes it (R245, R248). -/
def State.issuePorts (s : State) (b : Body) : List Nat :=
  let t := s.twin.port
  let l := s.relayPorts b
  if decide (t < 48) && s.native t && (s.lport t).up && !l.contains t then l ++ [t] else l

/-- The issued command leaves with this slot 0 of the active manager: it is queued for every port it goes to and for this part, and its
status is DONE (R248, R417). -/
def State.launchIssue (s : State) : State :=
  match s.tio.issueQ with
  | none => s
  | some b =>
    if !s.activeManager then s else
    let s := s.modTio fun x => { x with issueQ := none }
    let s := forEach (s.issuePorts (BitVec.ofNat 104 b)) (fun s q => s.queueRelay q b) s
    let s := if s.cmdMine (BitVec.ofNat 104 b) then s.queueExec b else s
    s.endStatus O.CMD_ISSUE_STATUS 0 2

/-- The one-way delay to an endpoint, d_out of the latest accepted exchange (R146). -/
def State.dOut (s : State) (p : Nat) : Int := roundDiv (s.objI O.PORT_DELTA (p + 1) - s.objI O.PORT_ASYM (p + 1)) 2

/-- A command may go to an endpoint only if T lies d_out + 500 ns after this slot (R246). -/
def State.epInTime (s : State) (p : Nat) (b : Body) : Bool :=
  decide (s.dOut p + 500 * 2 ^ 24 ≤ tdiff56 (cmdTarget b) s.now)

/-- Slot 0 of a native port carries one CMD: the first of its relay queue, or an empty body (R72, R246, R299). -/
def State.slot0 (s : State) (p : Nat) : State :=
  if !s.native p || !(s.lport p).up then s else
  let s := s.launchIssue
  let q := (Tab.get s.tio.relayQ [] p).dropWhile fun b => s.epPort p && !s.epInTime p (BitVec.ofNat 104 b)
  let s := s.modTio fun x => { x with relayQ := Tab.set x.relayQ [] p q.tail }
  s.stream p [.ctl 0x66 (q.headD 0)]

def execSlot0Cmd (port : Fin 48) (s : State) : Host.Outcome State Fault Refusal := runKeep s (·.slot0 port)

/-- The lattice edge nearest a time, or the first at or after it: its F0 number, counted as F0_CNT, and its time in
2^-40 ns from now (R223, R248). -/
def State.latticeEdge (s : State) (from40 : Int) (nearest : Bool) : Int × Int :=
  let p : Int := s.f0Period
  if p = 0 then (0, from40) else
  let base : Int := s.objI O.F0_SKEW * 2 ^ 16 - s.hearth.f0Div * s.obj O.HEARTH_INC
  let d := from40 - base
  let k := if nearest then (2 * d + p) / (2 * p) else (d + p - 1) / p
  (s.obj O.F0_CNT + k, base + k * p)

/-- T of a command that CMD_ISSUE asks for, in 2^-40 ns from now, or none where no edge can carry it (R248). -/
def State.issueTarget (s : State) (mode tns tfrac : Nat) : Option Int :=
  let lead : Int := (s.obj O.CMD_LEAD : Int) * 2 ^ 40
  match mode with
  | 0 => some (s.latticeEdge ((tdiff56 (BitVec.ofNat 56 (tns * 2 ^ 24 + tfrac * 2 ^ 8)) s.now) * 2 ^ 16) true).2
  | 1 => some (s.latticeEdge lead false).2
  | _ =>
    let mc : Int := s.obj O.MC_LEN_ACT
    if mc ≤ tns then none
    else
      let e := s.latticeEdge lead false
      some (e.2 + (tns - e.1) % mc * s.f0Period)

/-- CMD_ISSUE takes 16 octets with the encodings of R248. -/
def issueOk (v : Bytes) : Bool :=
  let f := advFieldOf v
  v.length == 16 && decide (1 ≤ f 0 1 ∧ f 0 1 ≤ 15 ∧ f 1 1 ≤ 3 ∧ f 5 1 ≤ 2 ∧ f 2 3 < 2 ^ 17) && f 15 1 == 0
where
  /-- `n` octets from `i` on. -/
  advFieldOf (v : Bytes) (i n : Nat) : Nat := ofBe ((v.drop i).take n)

/-- A write of CMD_ISSUE is taken: on the active manager, with nothing waiting for slot 0 (R248). -/
def State.cmdIssueOk (s : State) (v : Bytes) : Bool :=
  s.activeManager && s.status O.CMD_ISSUE_STATUS 0 != 1 && issueOk v

/-- CMD_ISSUE (R248): the target is placed on the lattice, SEQ and ISS are assigned, and the command waits for slot 0. -/
def State.cmdIssue (s : State) (v : Bytes) : State :=
  if !s.cmdIssueOk v then s else
  let f (i n : Nat) : Nat := ofBe ((v.drop i).take n)
  match s.issueTarget (f 5 1) (f 6 4) (f 10 2) with
  | none => s.cmdStatus O.CMD_ISSUE_STATUS 0 (f 0 1) 4
  | some d =>
    if f 5 1 = 0 ∧ d < (s.obj O.CMD_LEAD : Int) * 2 ^ 40 then s.cmdStatus O.CMD_ISSUE_STATUS 0 (f 0 1) 6
    else
      let t40 : Int := s.hearth.count.toNat + d
      let ns := (t40 / 2 ^ 40 % (2 ^ 32 : Int)).toNat
      let fr := (t40 / 2 ^ 24 % (2 ^ 16 : Int)).toNat
      let seq := s.obj O.CMD_NEXT_SEQ
      let b := fld 116 4 (f 0 1) + fld 108 8 seq + fld 107 1 s.ownIss + fld 105 2 (f 1 1) + fld 88 17 (f 2 3) +
        fld 56 32 ns + fld 40 16 fr + fld 16 24 (f 12 3)
      let s := (s.cmdStatus O.CMD_ISSUE_STATUS 0 (f 0 1) 1).setObj O.CMD_NEXT_SEQ (seq + 1)
      let s := s.setObj O.CMD_LAST_TARGET (s.stampOf (BitVec.ofInt 56 (t40 / 2 ^ 16)))
      s.modTio fun x => { x with issueQ := some b }

def execCmdIssue (value : Bytes) (s : State) : Host.Outcome State Fault Refusal := runKeep s (·.cmdIssue value)

/-- A LAST_SEQ lapses (R245). -/
def execLastSeqLapse (iss : Bool) (s : State) : Host.Outcome State Fault Refusal := runKeep s (·.setLastSeq (b2n iss) none)

/-- The first command of the execution queue is taken out at its execution edge: time passes up to it (R247, log entry 12). -/
def State.takeCmd (s : State) (b : Body) : State :=
  let e := s.execEdge b
  (s.modTio fun x => { x with execQ := x.execQ.tail }).runToF0 (max e (s.obj O.F0_CNT)).toNat

/-- A due command that is not executed while the EPLL is unlocked counts in CMD_LATE (R234). -/
def State.lateCmd (s : State) : State := (s.count O.CMD_LATE).raise O.TIO_SYS_FLAGS 2

/-- The execution edge of the first queued command, of opcode `op` (R244, R247): `f` has its effect at the edge of that number. While the
EPLL is unlocked it is not executed (R234). A Lantern CMD packet follows (R498). -/
def State.execFast (s : State) (b : Body) (op : Nat) (f : Int → State → State) : State :=
  if s.tio.execQ.head? != some b.toNat || cmdOp b != op then s else
  let e := s.execEdge b
  let s := s.takeCmd b
  if s.tio.suspended then s.lateCmd
  else
    let s := f e s
    let s := ((s.count O.CMD_EXEC).setBlob O.CMD_LAST (Blob.of (bodyBytes b))).raise O.TIO_SYS_FLAGS 1
    s.lanternPush 4 (bodyBytes b ++ beBytes 8 (s.stampOf (cmdTarget b)))

/-- F0_SKEW as a RESYNC measures it (R222): the target's distance from the part's own nearest F0 edge. -/
def State.skewAt (s : State) (t : Time56) : Int :=
  let p : Int := s.f0Period
  if p = 0 then 0 else
  let d : Int := tdiff56 t s.now * 2 ^ 16 + s.hearth.f0Div * s.obj O.HEARTH_INC
  roundDiv (d - (2 * d + p) / (2 * p) * p) (2 ^ 16)

/-- RESYNC (R222, R224, R225, R244). -/
def State.resync (s : State) (b : Body) : State :=
  (s.setObjI O.F0_SKEW (s.skewAt (cmdTarget b))).loadF0Flag (cmdArg b * s.obj O.MC_LEN)

def execResync (body : Body) (s : State) : Host.Outcome State Fault Refusal :=
  runKeep s fun s => s.execFast body 1 fun _ s => s.resync body

/-- The pins of a command's mask that stand in a mode (R244). -/
def State.maskPins (s : State) (b : Body) (ok : Nat → Bool) : List Nat := (bitsOf (cmdArg b % 65536) 16).filter fun t => ok (s.tioMode t)

/-- PULSE (R244): each CMD_PULSE pin rises TIO_OFFSET after the execution edge; within its active phase the edge is skipped and counted. -/
def State.pulseCmd (s : State) (b : Body) (edge : Int) : State :=
  forEach (s.maskPins b (· == 5)) (fun s t =>
    let wf := blk b 39 32
    let w := if wf = 0 then s.obj O.TIO_WIDTH (t + 1) else (roundDiv (wf * s.f0Period * 1000) (2 ^ 40)).toNat
    s.riseAt t (s.latticeTime edge + psToU (s.obj O.TIO_OFFSET (t + 1))) w) s

def execPulse (body : Body) (s : State) : Host.Outcome State Fault Refusal :=
  runKeep s fun s => s.execFast body 2 fun e s => s.pulseCmd body e

/-- LEVEL_SET (R244): each LEVEL pin takes the level at the execution edge. -/
def State.levelCmd (s : State) (b : Body) (edge : Int) : State :=
  forEach (s.maskPins b (· == 4)) (fun s t => s.setLevelAt t (bits (cmdArg b) 16 16) (s.latticeTime edge)) s

def execLevelSet (body : Body) (s : State) : Host.Outcome State Fault Refusal :=
  runKeep s fun s => s.execFast body 3 fun e s => s.levelCmd body e

/-- The nanoseconds of a lattice edge. -/
def State.latticeNs (s : State) (edge : Int) : Nat := (s.latticeTime edge / 2 ^ 24 % (2 ^ 32 : Int)).toNat

/-- ARM (R228, R244): the arming edge, and "now", is the execution edge. -/
def State.armCmd (s : State) (b : Body) (edge : Int) : State :=
  forEach (s.maskPins b fun m => m == 2 || m == 3) (fun s t => s.armGen t edge.toNat (s.latticeNs edge)) s

def execFastArm (body : Body) (s : State) : Host.Outcome State Fault Refusal :=
  runKeep s fun s => s.execFast body 4 fun e s => s.armCmd body e

/-- STOP (R231, R244). -/
def State.stopCmd (s : State) (b : Body) (edge : Int) : State :=
  forEach (s.maskPins b fun m => m == 2 || m == 3) (fun s t => s.disarmGen t (s.launches t (s.latticeTime edge))) s

def execFastStop (body : Body) (s : State) : Host.Outcome State Fault Refusal :=
  runKeep s fun s => s.execFast body 5 fun e s => s.stopCmd body e

/-- A reserved opcode is relayed, not executed, and counted (R244); while the EPLL is unlocked it counts as late (R234). -/
def State.reservedOp (s : State) (b : Body) : State :=
  if s.tio.execQ.head? = some b.toNat ∧ 8 ≤ cmdOp b then
    let s := s.takeCmd b
    if s.tio.suspended then s.lateCmd else s.count O.CMD_UNKNOWN
  else s

def execReservedOpcode (body : Body) (s : State) : Host.Outcome State Fault Refusal := runKeep s (·.reservedOp body)

end Sys2Proof.Machine
end

