-- ==== Sys2Proof/Machine/Wire.lean ====
section
/-! DEFINITION. Falri on the wire (R368 to R371, R381 to R386): the message and its octets, addresses, items, what a message
becomes on each carriage, and the HBUS mailbox. A path is a number: a port's own, 64 the chain, 65 HBUS. -/

namespace Sys2Proof.Machine

/-- The chain as a path. -/
def chainPath : Nat := 64
/-- HBUS as a path. -/
def hbusPath : Nat := 65

/-- The number of a path. -/
def pathCode : Path → Nat
  | .port p => p
  | .chain => chainPath
  | .hbus => hbusPath

/-- A Falri message (R368). -/
structure Msg where
  op      : Nat
  seq     : Nat
  dst     : Nat
  src     : Nat
  hops    : Nat
  status  : Nat
  count   : Nat
  payload : Bytes
  deriving DecidableEq, Repr

/-- The octets of a message before its CRC (R368). -/
def Msg.head (m : Msg) : Bytes :=
  [1, BitVec.ofNat 8 m.op] ++ beBytes 2 m.seq ++ beBytes 2 m.dst ++ beBytes 2 m.src ++
    [BitVec.ofNat 8 m.hops, BitVec.ofNat 8 m.status, BitVec.ofNat 8 m.count, 0] ++ beBytes 2 m.payload.length ++ [0, 0] ++ m.payload

/-- The CRC of a message (R368). -/
def Msg.crc (m : Msg) : Nat := crc16 m.head

/-- A message as it travels (R368). -/
def Msg.bytes (m : Msg) : Bytes := m.head ++ beBytes 2 m.crc

/-- `n` octets of a message from `i` on, as a number. -/
def octets (b : Bytes) (i n : Nat) : Nat := ofBe ((b.drop i).take n)

/-- A message from its octets, if its VER, LEN and CRC are right (R368). Octets after the CRC are padding (R381). -/
def parseMsg (b : Bytes) : Option Msg :=
  let len := octets b 12 2
  if 18 ≤ b.length ∧ octets b 0 1 = 1 ∧ len ≤ 1024 ∧ 18 + len ≤ b.length ∧
      octets b (16 + len) 2 = crc16 (b.take (16 + len)) then
    some { op := octets b 1 1, seq := octets b 2 2, dst := octets b 4 2, src := octets b 6 2, hops := octets b 8 1,
           status := octets b 9 1, count := octets b 10 1, payload := (b.drop 16).take len }
  else none

/-- KIND of an address: 0 DEVICE, 1 CHAIN, 2 ALL, 3 HERE (R369). -/
def addrKind (a : Nat) : Nat := bits a 15 14
/-- VALUE of an address (R369). -/
def addrValue (a : Nat) : Nat := a % 1024
/-- The address ALL (R369). -/
def addrAll : Nat := 0x8000
/-- The address HERE (R369). -/
def addrHere : Nat := 0xC000

/-- This part's DEVICE_ID. -/
def State.deviceId (s : State) : Nat := s.obj O.DEVICE_ID

/-- SRC of what this part sends: DEVICE with its ID, or HERE while that is 0 (R369). -/
def State.ownAddr (s : State) : Nat := if s.deviceId = 0 then addrHere else s.deviceId

/-- The part takes a request as its own (R369). -/
def State.ownDst (s : State) (path dst : Nat) : Bool :=
  match addrKind dst with
  | 0 => addrValue dst == s.deviceId && s.deviceId != 0
  | 1 => path == chainPath && addrValue dst == s.obj O.CHAIN_ADDR_ACT && addrValue dst != 0
  | _ => true

/-- The items of READ, WRITE, READ_MULTI and WRITE_MULTI, if they fill the payload exactly (R368, R370). -/
def parseItems : Nat → Bytes → Option (List FalriItem)
  | 0, b => if b = [] then some [] else none
  | n + 1, b =>
    let v := octets b 4 2
    if b.length < 6 + v then none else
    match parseItems n (b.drop (6 + v)) with
    | some l => some (⟨BitVec.ofNat 16 (octets b 0 2), BitVec.ofNat 8 (octets b 2 1), (b.drop 6).take v⟩ :: l)
    | none => none

/-- An item of a request as octets (R370). -/
def FalriItem.bytes (i : FalriItem) : Bytes :=
  beBytes 2 i.index.toNat ++ beBytes 1 i.sub.toNat ++ [0] ++ beBytes 2 i.value.length ++ i.value

/-- A BLOCK_READ item as octets (R375). -/
def BlockReadItem.bytes (i : BlockReadItem) : Bytes :=
  beBytes 2 i.index.toNat ++ beBytes 1 i.sub.toNat ++ [0] ++ beBytes 4 i.offset.toNat ++ beBytes 2 i.dlen.toNat

/-- A BLOCK_WRITE item as octets (R376). -/
def BlockWriteItem.bytes (i : BlockWriteItem) : Bytes :=
  beBytes 2 i.index.toNat ++ beBytes 1 i.sub.toNat ++ beBytes 1 i.flags.toNat ++ beBytes 4 i.offset.toNat ++
    beBytes 4 i.total.toNat ++ beBytes 2 i.data.length ++ i.data

/-- The body of one MGMT block: POS 0 whole, 1 first, 2 middle, 3 last, LEN and up to 12 octets (R73). -/
def fragBody (pos : Nat) (l : Bytes) : Nat := fld 118 2 pos + fld 112 6 l.length + ofBe l * 2 ^ (8 * (12 - l.length))

/-- The MGMT blocks of a message (R73). -/
def fragsFrom : Nat → Bool → Bytes → List Nat
  | 0, _, _ => []
  | n + 1, first, l =>
    if (l.drop 12) = [] then [fragBody (if first then 0 else 3) l]
    else fragBody (if first then 1 else 2) (l.take 12) :: fragsFrom n false (l.drop 12)

/-- The MGMT blocks of a message (R73). -/
def fragments (l : Bytes) : List Nat := fragsFrom l.length true l

/-- An Ethernet frame with EtherType 0x88B5, padded with zeros to the minimum frame size (R381). -/
def falriFrame (da sa : Nat) (tag : Option (BitVec 32)) (m : Bytes) : Bytes :=
  let b := beBytes 6 da ++ beBytes 6 sa ++ (match tag with | some t => beBytes 4 t.toNat | none => []) ++ [0x88, 0xB5] ++ m
  b ++ List.replicate (60 - b.length) 0

/-- A message leaves on a port: in MGMT blocks on a native port in service, in their order of precedence (R73, R75), else in a frame to `da`
(R381, R382). -/
def State.sendPort (s : State) (p da : Nat) (tag : Option (BitVec 32)) (m : Bytes) : State :=
  if p < 48 ∧ s.native p then
    (if s.activeLanes p = [] then s else (s.modLPort p fun l => { l with mgmt := l.mgmt ++ fragments m }).stream p [])
  else s.emit (.frame p (falriFrame da (s.obj O.MAC_ACT) tag m) false)

/-- The mailbox takes a message that the host may read at 0x1800, and RESP_READY rises (R386). -/
def State.mbHold (s : State) (m : Bytes) (note : Bool) : State :=
  (s.modFalri fun f => { f with mbHeld := some (m, note) }).sharedEvent 140

/-- A message for the mailbox: a response waits until RESP_READY is released, a NOTIFY waits behind responses in a queue of 8
whose oldest is dropped when it is full (R386). -/
def State.mbDeliver (s : State) (m : Bytes) (note : Bool) : State :=
  if s.falri.mbHeld.isNone then s.mbHold m note
  else if note then s.modFalri fun f => { f with mbNotes := (if f.mbNotes.length = 8 then f.mbNotes.drop 1 else f.mbNotes) ++ [m] }
  else s.modFalri fun f => { f with mbWait := f.mbWait ++ [m] }

/-- RESP_READY is released, and the next message follows: responses first (R386). -/
def State.mbRelease (s : State) : State :=
  match s.falri.mbHeld with
  | none => s
  | some _ =>
    let s := s.modFalri fun f => { f with mbHeld := none }
    match s.falri.mbWait, s.falri.mbNotes with
    | m :: r, _ => (s.modFalri fun f => { f with mbWait := r }).mbHold m false
    | [], m :: r => (s.modFalri fun f => { f with mbNotes := r }).mbHold m true
    | [], [] => s

/-- Writing RESP_READY releases the held response; the same write may clear REQ_ERR (R386). -/
def execMailboxRelease (clearErr : Bool) (s : State) : Host.Outcome State Fault Refusal :=
  runKeep s fun s => (s.modFalri fun f => { f with mbErr := f.mbErr && !clearErr }).mbRelease

/-- A message leaves by a path (R381 to R386): `da` and `tag` where the path is an Ethernet port. -/
def State.sendPath (s : State) (path da : Nat) (tag : Option (BitVec 32)) (m : Bytes) : State :=
  if path = hbusPath then s.mbDeliver m false
  else if path = chainPath then s.emit (.message chainPath m)
  else s.sendPort path da tag m

/-- The upstream native port, if the selected source is a native port (R163, R383). -/
def State.upstream (s : State) : Option Nat :=
  let p := s.obj O.UPSTREAM_PORT
  if p < 48 ∧ s.native p then some p else none

/-- DEV_PORT of a device: 0xFE this part, 0xFF none (R407, R431). -/
def State.devPort (s : State) (d : Nat) : Nat :=
  if d = s.deviceId ∧ d ≠ 0 then 0xFE else Tab.get s.hier.devPort 0xFF d

/-- The native port toward a device: the one behind which the registry places it, otherwise the upstream port (R383). -/
def State.routePort (s : State) (dev : Nat) : Option Nat := if s.devPort dev < 48 then some (s.devPort dev) else s.upstream

/-- The native ports whose peer is an SZN-4850 of higher rank (R383). -/
def State.lowerPorts (s : State) : List Nat := (List.range 48).filter fun p => s.native p && (s.lport p).up && s.peerHigher p

/-- The part's own sequence counter (R379): the number taken, and the state after. -/
def State.nextSeq (s : State) : Nat × State :=
  (s.falri.notifySeq, s.modFalri fun f => { f with notifySeq := (f.notifySeq + 1) % 65536 })

/-- A request that this part makes on its own account, HOPS 16 (R368), toward every port of a list. -/
def State.request (s : State) (ports : List Nat) (op dst count : Nat) (payload : Bytes) : State :=
  let (q, s) := s.nextSeq
  let m : Msg := { op := op, seq := q, dst := dst, src := s.ownAddr, hops := 16, status := 0, count := count, payload := payload }
  forEach ports (fun s p => s.sendPort p 0 none m.bytes) s

/-- The records of a body, up to INDEX 0x0000 or its end (R390): INDEX, SUB, TYPE and value. -/
def parseRecords : Nat → Bytes → List (Nat × Nat × Nat × Bytes)
  | 0, _ => []
  | n + 1, b =>
    let v := octets b 4 4
    if b.length < 8 ∨ octets b 0 2 = 0 ∨ b.length < 8 + v then [] else
    (octets b 0 2, octets b 2 1, octets b 3 1, (b.drop 8).take v) :: parseRecords n (b.drop (8 + (v + 3) / 4 * 4))

/-- The records of a body (R390). -/
def recordsOf (b : Bytes) : List (Nat × Nat × Nat × Bytes) := parseRecords b.length b

end Sys2Proof.Machine
end

