-- ==== Sys2Proof/Machine/Engines.lean ====
section
/-! DEFINITION. The engines and their devices (R435 to R460): traps, CSRs, timers, watchdogs, faults and restarts, user images
and USER_CMD, semaphores, doorbells, and the host's registers of the interrupt controller. The instructions that an engine
runs between these events are its firmware's and are no rows of the table (log entry 19). -/

namespace Sys2Proof.Machine

/-- ENG_STATE: 0 RESET, 1 RUN, 2 WFI, 3 STOPPED, 4 FAULT (R459). -/
def State.engState (s : State) (e : Nat) : Nat := s.obj O.ENG_STATE (e + 1)

/-- Sets ENG_STATE. -/
def State.setEngState (s : State) (e v : Nat) : State := s.setObj O.ENG_STATE v (e + 1)

/-- An effect of an engine's own instruction: none unless it runs. -/
def State.whenRun (s : State) (e : Nat) (f : State → State) : State := if s.engState e = 1 then f s else s

/-- An instruction retires (R437, R492): minstret counts it, and its slot goes to RETIRE. -/
def State.retire (s : State) (e : Nat) : State :=
  (s.modEng e fun g => { g with minstret := (g.minstret + 1) % 2 ^ 64 }).count O.ENG_SLOT_RETIRE (e + 1)

/-- An engine's instruction that retires with its effect; none unless the engine runs. -/
def State.instr (s : State) (e : Nat) (f : State → State) : State := s.whenRun e fun s => f (s.retire e)

/-- Trap entry in machine mode (R436, R437): mepc, mcause and mtval are written, MIE goes to MPIE and is cleared, and the engine
goes on at mtvec. The entry loses three slots (R492). -/
def State.trapTo (s : State) (e cause tval : Nat) : State :=
  (s.modEng e fun g =>
    { g with mepc := g.pc, mcause := cause, mtval := tval, mpie := g.mie, mie := false, pc := g.mtvec }).count
    O.ENG_SLOT_BAD_SPEC (e + 1) 3

/-- ECALL (R436). -/
def execEcall (e : Fin 12) (s : State) : Host.Outcome State Fault Refusal :=
  runKeep s fun s => s.whenRun e (·.trapTo e 11 0)

/-- EBREAK (R436); what mtval takes is not stated (log entry 3). -/
def execEbreak (e : Fin 12) (s : State) : Host.Outcome State Fault Refusal :=
  runKeep s fun s => s.whenRun e fun s => s.fresh.trapTo e 3 (Config.openValue s.free).toNat

/-- WFI: the engine sleeps until an interrupt is presented (R436, R457). -/
def execWfi (e : Fin 12) (s : State) : Host.Outcome State Fault Refusal :=
  runKeep s fun s => s.instr e fun s =>
    ((s.modEng e fun g => { g with pc := (g.pc + 4) % 2 ^ 32, wfiAt := s.engineCycle }).setEngState e 2).irqPresent

/-- The CSRs of R437 and R440. -/
def csrList : List Nat :=
  [0x300, 0x301, 0x304, 0x305, 0x340, 0x341, 0x342, 0x343, 0x344, 0x7C0, 0x7C1, 0x7C2, 0x7C3, 0x7C4, 0x7C5, 0xB00, 0xB02, 0xB80,
   0xB82, 0xC00, 0xC02, 0xC80, 0xC82, 0xF11, 0xF12, 0xF13, 0xF14, 0xFC0, 0xFC1, 0xFC2, 0xFC3, 0xFC4, 0xFC5, 0xFC6, 0xFC7]

/-- The CSRs that hold stored state and the constants, as an engine reads them (R437, R440). -/
def State.csr (s : State) (e n : Nat) : Nat :=
  let g := s.eng e
  match n with
  | 0x300 => 0x1800 + 128 * b2n g.mpie + 8 * b2n g.mie
  | 0x301 => 0x40001104
  | 0x304 => 2048 * b2n g.meie
  | 0x305 => g.mtvec
  | 0x340 => g.mscratch
  | 0x341 => g.mepc
  | 0x342 => g.mcause
  | 0x343 => g.mtval
  | 0x344 => 2048 * b2n (s.meip e)
  | 0x7C2 => g.threshold
  | 0x7C3 => g.hcmpNs
  | 0x7C4 => b2n g.hcmpEn
  | 0xB00 | 0xC00 => g.mcycle % 2 ^ 32
  | 0xB80 | 0xC80 => g.mcycle / 2 ^ 32
  | 0xB02 | 0xC02 => g.minstret % 2 ^ 32
  | 0xB82 | 0xC82 => g.minstret / 2 ^ 32
  | 0xF13 => 0xA2
  | 0xF14 => e
  | 0xFC1 => g.shFrac
  | 0xFC2 => g.shWrap
  | 0xFC4 => g.f0hi
  | 0xFC5 => g.irqCount
  | 0xFC7 => g.userT
  | _ => 0

/-- The ranges of the memory map (R438). -/
inductive EngArea where
  | itcm | dtcm | pantryVendor | pantryUser | device | window | none
  deriving DecidableEq, Repr

/-- The range in which an address lies (R438). -/
def engArea (a : Nat) : EngArea :=
  if a < 0x10000 then .itcm
  else if a < 0x20000 then .dtcm
  else if 0x20000000 ≤ a ∧ a < 0x20080000 then .pantryVendor
  else if 0x20080000 ≤ a ∧ a < 0x20100000 then .pantryUser
  else if 0x40000000 ≤ a ∧ a < 0x40010000 then .device
  else if 0x60000000 ≤ a ∧ a < 0x70000000 then .window
  else .none

/-- A load is admitted (R438). -/
def loadOk (a w : Nat) : Bool :=
  match engArea a with
  | .dtcm | .pantryVendor | .pantryUser => true
  | .itcm | .device | .window => w == 4
  | .none => false

/-- A store by engine `e` is admitted (R438). -/
def storeOk (e a w : Nat) : Bool :=
  match engArea a with
  | .dtcm | .pantryUser => true
  | .pantryVendor => decide (e < 10)
  | .device | .window => w == 4
  | .itcm | .none => false

/-- mcause of an event, and mtval where the spec gives it, if the event traps (R436 to R438, R449). A write to a CSR whose number
marks it read-only is illegal. -/
def trapCause (e : Nat) : EngEvent → Option (Nat × Option Nat)
  | .illegal => some (2, none)
  | .csr n w => if !csrList.contains n.toNat || (w && n.toNat / 1024 == 3) then some (2, none) else none
  | .fetch a => if engArea a.toNat = .itcm then none else some (1, some a.toNat)
  | .load a w =>
    if w.val ≠ 0 ∧ a.toNat % w ≠ 0 then some (4, some a.toNat) else if loadOk a.toNat w then none else some (5, some a.toNat)
  | .store a w =>
    if w.val ≠ 0 ∧ a.toNat % w ≠ 0 then some (6, some a.toNat) else if storeOk e a.toNat w then none else some (7, some a.toNat)
  | .eccFetch a => some (1, some a.toNat)
  | .eccLoad a => some (5, some a.toNat)

/-- An uncorrectable error of the engine's memories (R449). -/
def eccEvent : EngEvent → Bool
  | .eccFetch _ | .eccLoad _ => true
  | _ => false

/-- The open block transfers of E8 and its NOTIFYs are lost (R448). -/
def State.dropTransfers (s : State) : State :=
  s.modFalri fun f =>
    { f with bufs := [], staging := none, notify := [], mbNotes := [], deferred := [],
             lostFrom := match f.staging with | some g => (g.path, g.src) :: f.lostFrom | none => f.lostFrom }

/-- What the firmware of a vendor engine loses (R448, R467): a steward's trainings and calibration runs, E8's transfers, E9's
registry transfer. -/
def State.vendorReset (s : State) (e : Nat) : State :=
  if e < 8 then
    let s := forEach (groupLanes e) (fun s n => if s.training n then s.failTraining n 0 else s) s
    let s := forEach (groupLanes e) (fun s n => (s.calAbandon 0 n).calAbandon 1 n) s
    (s.calAbandon 2 (e + 1)).calAbandon 4 e
  else if e = 8 then s.dropTransfers
  else if e = 9 then s.modHier fun h => { h with fetching := false }
  else s

/-- The table DMA ring of an engine (R435, R441). -/
def ringOf (e : Nat) : Option Nat := if 9 ≤ e ∧ e ≤ 11 then some (e - 9) else none

/-- An engine is reset (R445): its ACTIVE sources are completed, its semaphores released, its ring stops, its USER queue is
emptied. Its TCMs, and whether LOAD has succeeded, stay. -/
def State.engineReset (s : State) (e : Nat) : State :=
  let s := if s.engState e = 2 then s.leaveWfi e 1 else s
  let s := s.completeAll e
  let s := { s with sems := s.sems.filter fun x => x.2 != e + 1 }
  let s := match ringOf e with | some r => s.tdmaStop r | none => s
  let s := s.modEng e fun g =>
    { Dflt.engine with itcm := g.itcm, dtcm := g.dtcm, loaded := g.loaded, entry := g.entry, samples := g.samples }
  (s.vendorReset e).irqPresent

/-- A fault of an engine (R447, R449): it resets, its bit in ENG_FAULTS is raised, ENG_RESETS counts, the cause is recorded, and it
stands in FAULT until it restarts (log entry 20). -/
def State.engineFault (s : State) (e cause : Nat) : State :=
  ((((s.engineReset e).setObj O.ENG_LAST_CAUSE cause (e + 1)).count O.ENG_RESETS (e + 1)).setEngState e 4).raise O.ENG_FAULTS e

/-- An instruction traps (R436 to R438). An uncorrectable error on E0 to E9 is fatal (R449). -/
def State.engTrap (s : State) (e : Nat) (v : EngEvent) : State :=
  match trapCause e v with
  | none => s
  | some (c, t) =>
    if eccEvent v && decide (e < 10) then s.engineFault e c
    else match t with
      | some a => s.trapTo e c a
      | none => s.fresh.trapTo e c (Config.openValue s.free).toNat

def execTrap (e : Fin 12) (event : EngEvent) (s : State) : Host.Outcome State Fault Refusal :=
  runKeep s fun s => s.whenRun e (·.engTrap e event)

/-- The machine external interrupt (R437): taken while MIE and MEIE are 1 and a source is presented. -/
def execMachineExternalInterrupt (e : Fin 12) (s : State) : Host.Outcome State Fault Refusal :=
  runKeep s fun s => s.whenRun e fun s =>
    if (s.eng e).mie && (s.eng e).meie && s.meip e then s.trapTo e 0x8000000B 0 else s

/-- HTIME_NS (R440). -/
def execHtimeNsRead (e : Fin 12) (s : State) : Host.Outcome State Fault Refusal :=
  runKeep s fun s => s.instr e fun s =>
    (s.modEng e fun g => { g with shFrac := s.stamp % 2 ^ 32, shWrap := s.obj O.HEARTH_WRAP }).emit (.value s.ns)

/-- F0CNT_LO (R440). -/
def execF0cntLoRead (e : Fin 12) (s : State) : Host.Outcome State Fault Refusal :=
  runKeep s fun s => s.instr e fun s =>
    (s.modEng e fun g => { g with f0hi := s.obj O.F0_CNT / 2 ^ 32 }).emit (.value (s.obj O.F0_CNT % 2 ^ 32))

/-- USER_POP (R440): VALID, the entries left and ARG; USER_T takes the entry's time. -/
def State.userPop (s : State) (e : Nat) : State :=
  match (s.eng e).userQ with
  | [] => s.emit (.value 0)
  | (arg, t) :: r =>
    (s.modEng e fun g => { g with userQ := r, userT := t }).emit (.value (2 ^ 31 + r.length * 2 ^ 27 + arg))

def execUserPop (e : Fin 2) (s : State) : Host.Outcome State Fault Refusal :=
  runKeep s fun s => s.instr (10 + e) (·.userPop (10 + e))

/-- A USER command reaches a user engine's queue of 8; a full queue drops it (R440, R452). -/
def State.userPush (s : State) (e arg t : Nat) : State :=
  if (s.eng e).userQ.length < 8 then
    (s.modEng e fun g => { g with userQ := g.userQ ++ [(arg, t)] }).irqEvent (256 + 32 * e + 3)
  else s.count O.USER_CMD_DROP (e - 9)

/-- USER, a fast command (R244, R440): both user engines receive it. -/
def execUser (body : Body) (s : State) : Host.Outcome State Fault Refusal :=
  runKeep s fun s => s.execFast body 7 fun e s => (s.userPush 10 (cmdArg body) (s.latticeNs e)).userPush 11 (cmdArg body) (s.latticeNs e)

/-- IRQ_CLAIM (R455). -/
def execIrqClaim (e : Fin 12) (s : State) : Host.Outcome State Fault Refusal :=
  runKeep s fun s => s.instr e fun s => (s.claim e).2.emit (.value (s.claim e).1)

/-- IRQ_COMPLETE (R456). -/
def execIrqComplete (e : Fin 12) (source : Word32) (s : State) : Host.Outcome State Fault Refusal :=
  runKeep s fun s => s.instr e (·.complete e source.toNat)

/-- HOST_CLAIM (R455, R458). -/
def execHostClaim (s : State) : Host.Outcome State Fault Refusal :=
  runKeep s fun s => (s.claim 12).2.emit (.value (s.claim 12).1)

/-- HOST_COMPLETE (R456, R458): bits [9:0]. -/
def execHostComplete (source : Word32) (s : State) : Host.Outcome State Fault Refusal :=
  runKeep s (·.complete 12 (source.toNat % 1024))

/-- HOST_EN is written (R458): only sources whose TARGET is HOST take it. -/
def State.setHostEn (s : State) (w v : Nat) : State :=
  (forEach ((List.range 32).map (32 * w + ·)) (fun s n =>
    if s.srcTarget n = 12 then s.setSrcCfg n (setBit (s.srcCfg n) 31 (v.testBit (n % 32))) else s) s).irqPresent

def execHostEnWrite (word : Fin 8) (value : Word32) (s : State) : Host.Outcome State Fault Refusal :=
  runKeep s (·.setHostEn word value.toNat)

/-- A moderation interval ends (R457). -/
def execModIntervalEnd (source : Fin 640) (s : State) : Host.Outcome State Fault Refusal :=
  runKeep s fun s => (s.modSrc source fun r => { r with held := false }).irqPresent

/-- HCMP_NS and HCMP_CTL: either write re-arms the timer (R440). -/
def execHcmpWrite (e : Fin 12) (ns : Option Word32) (en : Option Bool) (s : State) : Host.Outcome State Fault Refusal :=
  runKeep s fun s => s.instr e fun s => s.modEng e fun g =>
    { g with hcmpNs := match ns with | some v => v.toNat | none => g.hcmpNs,
             hcmpEn := en.getD g.hcmpEn, hcmpDone := g.hcmpDone && ns.isNone && en.isNone }

/-- TIMER is raised once where HCMP_NS has been reached (R440). -/
def execHcmpTimer (e : Fin 12) (s : State) : Host.Outcome State Fault Refusal :=
  runKeep s fun s =>
    if (s.eng e).hcmpEn && !(s.eng e).hcmpDone && tdue (s.eng e).hcmpNs s.ns then
      (s.modEng e fun g => { g with hcmpDone := true }).irqEvent (256 + 32 * e)
    else s

/-- An engine's watchdog runs: while the engine does, and on a user engine while USER_WDOG is not 0 (R447). -/
def State.wdogOn (s : State) (e : Nat) : Bool :=
  (s.engState e == 1 || s.engState e == 2) && (decide (e < 10) || s.obj O.USER_WDOG (e - 9) != 0)

/-- WDOG_KICK (R447). -/
def execWdogKick (e : Fin 12) (s : State) : Host.Outcome State Fault Refusal :=
  runKeep s fun s => s.instr e fun s => s.modEng e fun g => { g with warned := false }

/-- Half the watchdog's period has passed (R447). -/
def execWdogWarn (e : Fin 12) (s : State) : Host.Outcome State Fault Refusal :=
  runKeep s fun s =>
    if s.wdogOn e && !(s.eng e).warned then (s.modEng e fun g => { g with warned := true }).irqEvent (256 + 32 * e + 1) else s

/-- The watchdog bites at the full period (R447); a kick since the warning has restarted it. -/
def execWdogBite (e : Fin 12) (s : State) : Host.Outcome State Fault Refusal :=
  runKeep s fun s => if s.wdogOn e && (s.eng e).warned then s.engineFault e 0x80000100 else s

/-- A parity error of the register file (R449). -/
def execParityError (e : Fin 12) (s : State) : Host.Outcome State Fault Refusal :=
  runKeep s fun s => if s.engState e = 1 ∨ s.engState e = 2 then s.engineFault e 0x80000200 else s

/-- USER_IMAGE of a user engine. -/
def State.userImage (s : State) (e : Nat) : Blob := s.blob O.USER_IMAGE (e - 9)

/-- An image is valid (R444). -/
def imageValid (b : Bytes) : Bool :=
  let il := octets b 4 4
  let dl := octets b 8 4
  let en := octets b 12 4
  decide (b.length = 32 + il + dl) && octets b 0 4 == 0x55535245 && decide (4 ≤ il) && decide (il ≤ 65536) && il % 4 == 0 &&
    decide (dl ≤ 65536) && dl % 4 == 0 && en % 2 == 0 && decide (en < il) && octets b 20 4 == 0x485000A2 &&
    octets b 16 4 == crc32 (b.take 16 ++ b.drop 20)

/-- A write of USER_IMAGE passes its length check (R444). The empty default, which a commit stores, is writable (log entry 22). -/
def imageLenOk (b : Bytes) : Bool := decide (b = [] ∨ (32 ≤ b.length ∧ b.length = 32 + octets b 4 4 + octets b 8 4))

/-- The segments are copied and the rest of both TCMs is zeroed (R445). -/
def State.loadImage (s : State) (e : Nat) (b : Bytes) : State :=
  (s.modEng e fun g =>
    { g with itcm := Tab.setRun [] 0 0 ((b.drop 32).take (octets b 4 4)), dtcm := Tab.setRun [] 0 0 (b.drop (32 + octets b 4 4)),
             loaded := true, entry := octets b 12 4 }).setEngState e 3

/-- The engine is released at ENTRY: registers, MIE and mtvec are 0 (R445). -/
def State.startEngine (s : State) (e : Nat) : State :=
  (s.modEng e fun g =>
    { Dflt.engine with itcm := g.itcm, dtcm := g.dtcm, loaded := g.loaded, entry := g.entry, samples := g.samples,
                       pc := g.entry }).setEngState e 1

/-- The outcome of a USER_CMD (R460). -/
def State.userStatus (s : State) (e cmd st reason : Nat) : State := s.cmdStatus O.USER_STATUS (e - 9) cmd st reason

/-- REASON of a command outside its state: NO_IMAGE before any LOAD has succeeded, else NOT_STOPPED (R445; log entry 21). -/
def State.userReason (s : State) (e : Nat) : Nat := if (s.eng e).loaded then 2 else 3

/-- LOAD (R445). -/
def State.userLoad (s : State) (e : Nat) : State :=
  if s.engState e ≠ 0 ∧ s.engState e ≠ 3 then s.userStatus e 1 4 2
  else
    let b := (s.userImage e).bytes
    if imageValid b then (s.loadImage e b).userStatus e 1 2 0 else s.userStatus e 1 5 1

def execUserLoad (u : Fin 2) (s : State) : Host.Outcome State Fault Refusal := runKeep s (·.userLoad (10 + u))

/-- START (R445). -/
def State.userStart (s : State) (e : Nat) : State :=
  if s.engState e = 3 ∧ (s.eng e).loaded then (s.startEngine e).userStatus e 2 2 0 else s.userStatus e 2 4 (s.userReason e)

def execUserStart (u : Fin 2) (s : State) : Host.Outcome State Fault Refusal := runKeep s (·.userStart (10 + u))

/-- STOP (R445). Which of the two reasons a STOP outside its state gives is not stated (log entry 3). -/
def State.userStop (s : State) (e : Nat) : State :=
  if s.engState e = 1 ∨ s.engState e = 2 ∨ s.engState e = 4 then ((s.engineReset e).setEngState e 3).userStatus e 3 2 0
  else s.fresh.userStatus e 3 4 (2 + (Config.openValue s.free).toNat % 2)

def execUserStop (u : Fin 2) (s : State) : Host.Outcome State Fault Refusal := runKeep s (·.userStop (10 + u))

/-- Another code of USER_CMD: refused (log entry 18). -/
def State.userCmdOther (s : State) (e code : Nat) : State := s.userStatus e code 4 0

/-- A write of USER_IMAGE (R444). -/
def State.writeImage (s : State) (e : Nat) (v : Bytes) : State :=
  if imageLenOk v then s.setBlob O.USER_IMAGE (Blob.of v) (e - 9) else s

def execUserImageWrite (u : Fin 2) (value : Bytes) (s : State) : Host.Outcome State Fault Refusal :=
  runKeep s (·.writeImage (10 + u) value)

/-- An engine restarts after a bite or fault (R448): a vendor engine runs again, a user engine goes to STOPPED, or is loaded and
started where USER_RESTART is 1. -/
def State.engineRestart (s : State) (e : Nat) : State :=
  if s.engState e ≠ 4 then s
  else if e < 10 then s.startEngine e
  else
    let b := (s.userImage e).bytes
    if s.obj O.USER_RESTART (e - 9) = 1 ∧ imageValid b then (s.loadImage e b).startEngine e else s.setEngState e 3

def execEngineRestart (e : Fin 12) (s : State) : Host.Outcome State Fault Refusal := runKeep s (·.engineRestart e)

/-- Start-up of a user engine (R446): its USER_STATUS reads the result. -/
def State.userBoot (s : State) (e : Nat) : State :=
  if s.obj O.USER_AUTOSTART (e - 9) = 1 ∧ imageValid (s.userImage e).bytes then (s.userLoad e).userStart e else s

/-- The scrubber of the engines' memories (R449). An error that strikes between two visits shows at an access, which is a TRAP, or at the
next visit (log entry 61). -/
def State.engScrub (s : State) (place : EngMem) : ScrubFinding → State
  | .clean | .struck => s
  | .corrected =>
    match place with
    | .itcm e | .dtcm e => s.count O.ENG_ECC_CORR (e + 1)
    | .pantry => s
  | .uncorrectable =>
    match place with
    | .itcm e | .dtcm e =>
      if e.val < 10 then (((s.engineReset e).count O.ENG_RESETS (e + 1)).setEngState e 4).raise O.ENG_FAULTS e
      else s.raise O.ENG_FAULTS e
    | .pantry => s.raise O.ENG_FAULTS 16

def execEngScrub (place : EngMem) (_word : Nat) (finding : ScrubFinding) (s : State) : Host.Outcome State Fault Refusal :=
  runKeep s (·.engScrub place finding)

/-- DOORBELL (R441, R452). -/
def State.doorbell (s : State) (v : Nat) : State := if v = 10 ∨ v = 11 then s.irqEvent (256 + 32 * v + 2) else s

def execDoorbell (value : Word32) (s : State) : Host.Outcome State Fault Refusal := runKeep s (·.doorbell value.toNat)

/-- SWI_SET (R441, R451). -/
def State.swiSet (s : State) (k : Nat) : State := if k < 16 then s.sharedEvent (240 + k) else s

def execSwiSet (value : Word32) (s : State) : Host.Outcome State Fault Refusal := runKeep s (·.swiSet value.toNat)

/-- The holder of a semaphore plus 1, 0 while it is free (R442). -/
def State.sem (s : State) (k : Nat) : Nat := Tab.get s.sems 0 k

/-- A semaphore read (R442): requester 12 is the host. -/
def State.semRead (s : State) (r k : Nat) : State :=
  if s.sem k = 0 then ({ s with sems := Tab.set s.sems 0 k (r + 1) } : State).emit (.value 0)
  else if s.sem k = r + 1 then s.emit (.value 0)
  else s.emit (.value (0x80000000 + (s.sem k - 1)))

def execSemRead (requester : Fin 13) (k : Fin 64) (s : State) : Host.Outcome State Fault Refusal :=
  runKeep s (·.semRead requester k)

/-- A semaphore write (R442): 0 by the holder releases it. -/
def State.semWrite (s : State) (r k v : Nat) : State :=
  if v = 0 ∧ s.sem k = r + 1 then { s with sems := Tab.set s.sems 0 k 0 } else s

def execSemWrite (requester : Fin 13) (k : Fin 64) (value : Word32) (s : State) : Host.Outcome State Fault Refusal :=
  runKeep s (·.semWrite requester k value.toNat)

/-- IRQ_PENDING (R459): bit n of the string, octet n / 8 having source 8 (n / 8) in its bit 0. -/
def State.pendingBytes (s : State) : Bytes :=
  (List.range 80).map fun i =>
    BitVec.ofNat 8 (((List.range 8).map fun b => b2n ((s.src (8 * i + b)).st != .idle) * 2 ^ b).sum)

/-- A word of HOST_PEND or IRQ_PEND (R441, R458). -/
def State.pendWord (s : State) (w : Nat) : Nat :=
  ((List.range 32).map fun b => b2n ((s.src (32 * w + b)).st != .idle) * 2 ^ b).sum

/-- IRQ_SHARED_CFG as its octets (R459). -/
def State.sharedCfgBytes (s : State) : Bytes := (List.range 256).flatMap fun n => beBytes 4 (s.srcCfg n)

/-- A write of IRQ_SHARED_CFG is admitted: whole, with each TARGET 10, 11 or 12 (R453, R459). -/
def sharedCfgOk (v : Bytes) : Bool :=
  v.length == 1024 && (List.range 256).all fun n => let t := bits (octets v (4 * n) 4) 23 20; t == 10 || t == 11 || t == 12

/-- A config word without its reserved bits (R453). -/
def cfgWord (w : Nat) : Nat := bits w 31 31 * 2 ^ 31 + bits w 27 20 * 2 ^ 20 + bits w 17 0

/-- IRQ_SHARED_CFG is written (R453). -/
def State.writeSharedCfg (s : State) (v : Bytes) : State :=
  (forEach (List.range 256) (fun s n => s.setSrcCfg n (cfgWord (octets v (4 * n) 4))) s).irqPresent

/-- A store to SRC_CFG by a user engine (R453): ENABLE, PRIORITY, SENSE and MOD of a source whose TARGET is E10 or E11. -/
def State.engSrcCfg (s : State) (n w : Nat) : State :=
  let c := s.srcCfg n
  if bits c 23 20 = 10 ∨ bits c 23 20 = 11 then
    (s.setSrcCfg n (bits w 31 31 * 2 ^ 31 + bits w 27 24 * 2 ^ 24 + bits c 23 20 * 2 ^ 20 + bits w 17 0)).irqPresent
  else s

/-- A level change of an EXTIRQ pin, an event under its SENSE (R451, R453). -/
def State.extirq (s : State) (i : Nat) (level : Bool) : State :=
  let was := s.irq.extirq.getLsbD i
  let s := s.modIrq fun q => { q with extirq := BitVec.ofNat 4 (setBit q.extirq.toNat i level) }
  let sense := bits (s.srcCfg (160 + i)) 17 16
  if was != level && level == (sense == 0 || sense == 2) then s.sharedEvent (160 + i) else s

def execExtirqEdge (i : Fin 4) (level : Bool) (s : State) : Host.Outcome State Fault Refusal := runKeep s (·.extirq i level)

end Sys2Proof.Machine
end

