-- ==== Sys2Proof/Machine/Snapshot.lean ====
section
/-! DEFINITION. Counters and snapshots (R481 to R491): which objects are counters, the image that a snapshot captures, and the
taking of a snapshot. -/

namespace Sys2Proof.Machine

/-- A counter: access RC, type U32 or U64 (R481). -/
def Obj.isCounter (o : Obj) : Bool := o.acc == .rc && (o.ty == .u32 || o.ty == .u64)

/-- The counters of the part, in ascending INDEX (R482). -/
def counterObjs : List Obj := O.all.filter Obj.isCounter

/-- The instances of an object: its subindices. -/
def Obj.subs (o : Obj) : List Nat := (List.range (o.hi + 1 - o.lo)).map (o.lo + ·)

/-- The records of a snapshot, one per counter instance (R491). -/
def State.snapRecords (s : State) : List Bytes :=
  counterObjs.flatMap fun o => o.subs.map fun k => recordBytes o.index k o.ty.code (beBytes o.ty.bytes (s.counterNow o k))

/-- TAG of the header: SOURCE 1 local, 2 command, 3 both, and the tag (R491). -/
def snapTag (source tag : Nat) : Nat := source * 2 ^ 30 + tag % 2 ^ 24

/-- The image of a snapshot taken now (R491). -/
def State.snapImage (s : State) (source tag : Nat) : Bytes :=
  let r := s.snapRecords
  beBytes 8 s.stamp ++ beBytes 8 (s.obj O.F0_CNT) ++ beBytes 4 (s.obj O.HEARTH_WRAP) ++ beBytes 4 (snapTag source tag) ++
    beBytes 4 (s.obj O.SNAP_COUNT + 1) ++ beBytes 4 r.length ++ r.flatten ++ recordBytes 0 0 0 []

/-- COPY_CLEAR clears every counter (R488). -/
def State.clearCounters (s : State) : State :=
  forEach counterObjs (fun s o => forEach o.subs (fun s k => s.counterClear o k) s) s

/-- Changes the snapshot logic. -/
def State.modSnap (s : State) (f : Snap → Snap) : State := { s with snap := f s.snap }

/-- A snapshot falls now (R487 to R489). One at the lattice edge of the snapshot being gathered, from the other source, is the
same snapshot; any other while one is being gathered is missed. -/
def State.takeSnap (s : State) (source tag : Nat) : State :=
  let s := if source = 1 then s.modSnap fun q => { q with armed := false } else s
  match s.snap.gathering with
  | some (img, t) =>
    let was := ofBe ((img.drop 20).take 4)
    if ofBe ((img.drop 8).take 8) = s.obj O.F0_CNT ∧ was / 2 ^ 30 + source = 3 then
      let tg := snapTag 3 (if source = 2 then tag else was % 2 ^ 24)
      s.modSnap fun q => { q with armed := false, gathering := some (img.take 20 ++ beBytes 4 tg ++ img.drop 24, t) }
    else (s.count O.SNAP_MISSED).raise O.OBS_FLAGS 1
  | none =>
    let s := (s.modSnap fun q => { q with gathering := some (s.snapImage source tag, s.stamp) }).endStatus O.SNAP_STATUS 0 1
    if s.obj O.SNAP_MODE = 1 then s.clearCounters else s

/-- SNAP_AT is reached: nothing is left of it on the counter (R486, R490). -/
def State.snapDue (s : State) : Bool :=
  decide (tdiff56 (BitVec.ofNat 56 (s.obj O.SNAP_AT / 256)) s.now ≤ 0)

/-- The counter steps forward past SNAP_AT while a local snapshot is armed: it is taken at the commit cycle (R490). -/
def State.snapStepped (s : State) : State :=
  if s.snap.armed && s.snapDue then (s.takeSnap 1 0).raise O.OBS_FLAGS 5 else s

end Sys2Proof.Machine
end

