-- ==== Sys2Proof/Machine/Servo.lean ====
section
/-! DEFINITION. The servo (R22 to R42, R158 to R170): its sources and their order, the changes of its state, the single step,
slews and qualification, the servo update with the accuracy bound, and the Hearth's commands. Exchanges are judged in
Locking.lean. -/

namespace Sys2Proof.Machine

/-- `z` units of 2^-24 ns lie within ±`ps` picoseconds. -/
def within (z : Int) (ps : Nat) : Bool := decide (z.natAbs * 1000 ≤ ps * 2 ^ 24)

/-- EXTREF as a source number (UPSTREAM_PORT, R186), and none. -/
def extref : Nat := 0xF0
/-- No source. -/
def noSource : Nat := 0xFF

/-- The selected source. -/
def State.source (s : State) : Nat := s.obj O.UPSTREAM_PORT

/-- PORT_ROUTE_STATE of a port (R172). -/
def State.routeState (s : State) (p : Nat) : Nat := s.obj O.PORT_ROUTE_STATE (p + 1)

/-- EXTREF is eligible (R163, R218). -/
def State.extOk (s : State) : Bool :=
  s.obj O.EXTREF_MODE != 0 && s.obj O.REFIN_STATE == 2 &&
    (s.obj O.EXTREF_MODE != 1 || (match s.servo.ppsAt with | some t => !s.elapsed t 1100000000 | none => false))

/-- A servo state that a peer of a given rank may advertise and still serve (R163): TRACK, HOLDOVER, or FREE at rank 0. -/
def servesTime (servo rank : Nat) : Bool := servo == 3 || servo == 4 || (servo == 0 && rank == 0)

/-- A native port is eligible as a source (R163, R402, R404, R559). A port other than the selected source also needs its
route state NORMAL (R179). -/
def State.nativeOk (s : State) (p : Nat) : Bool :=
  let a := s.advert p
  let servo := advField a 2 1
  let rank := advField a 1 1
  let key := advField a 0 1 == s.hier.rootClass && advField a 8 8 == s.hier.rootId
  let up := s.peerLower p && key && servesTime servo rank
  let w := s.obj O.TWIN_STATE
  let twin := s.manager && s.twin.pair != 0 && s.twin.port == p && w != 0 && w != 2 && a != [] && rank == 0 &&
    advField a 6 1 == 2 && (servo == 3 || servo == 4 || servo == 0)
  (s.lport p).up && s.native p && !s.epPort p && bit (advField a 7 1) 0 && s.obj O.PORT_TIME_ROLE (p + 1) == 0 &&
    (s.port p).complete && (s.source == p || s.routeState p == 0) && (up || twin)

/-- A PTP port is eligible (R163), unless PORT_TIME_ROLE says that it is never a source (R186). One that was lost has returned once 8
consecutive exchanges have been accepted (R169), which is its first delay measurement (R559). -/
def State.ptpOk (s : State) (p : Nat) : Bool :=
  !s.native p && (s.lport p).up && s.obj O.PORT_PTP_MODE (p + 1) == 2 && s.obj O.PORT_TIME_ROLE (p + 1) == 0 && (s.port p).ptpSlave &&
    (s.port p).complete

/-- The order of R164 as one number, the least first: class, peer rank, UPSTREAM_PRIO from the highest, port. -/
def sourceKey (cls rank prio p : Nat) : Nat := cls * 2 ^ 24 + rank * 2 ^ 16 + (255 - prio) * 2 ^ 8 + p

/-- The eligible sources, as keys (R163, R164). -/
def State.sourceKeys (s : State) : List Nat :=
  (if s.extOk then [sourceKey 0 0 255 extref] else []) ++ (List.range 48).filterMap fun p =>
    let prio := s.obj O.UPSTREAM_PRIO (p + 1)
    if s.nativeOk p then some (sourceKey 1 (advField (s.advert p) 1 1) prio p)
    else if s.ptpOk p then some (sourceKey 2 0 prio p) else none

/-- The source of a key. -/
def keySource (k : Nat) : Nat := k % 256

/-- The eligible source that ranks first among those that `f` admits (R164). -/
def State.firstSource (s : State) (f : Nat → Bool) : Nat :=
  match s.sourceKeys.filter fun k => f (keySource k) with
  | [] => noSource
  | k :: ks => keySource (ks.foldl min k)

/-- A source's measurements are valid (R559). -/
def State.validSource (s : State) (q : Nat) : Bool :=
  if q = extref then s.obj O.REFIN_STATE == 2 && (s.obj O.EXTREF_MODE != 1 || s.servo.ppsSince)
  else (s.port q).complete && s.routeState q == 0 && !(s.port q).settled

/-- θ of a source at its latest accepted measurement. -/
def State.thetaOf (s : State) (q : Nat) : Int :=
  if q = extref then (if s.obj O.EXTREF_MODE = 1 then s.servo.extTh else 0) else s.objI O.PORT_OFFSET (q + 1)

/-- A route change is pending on the source, or is settled and its new A not yet in force (R171, R181, R560). -/
def State.routeHeld (s : State) : Bool :=
  decide (s.source < 48) && (decide (2 ≤ s.routeState s.source) || (s.port s.source).settled)

/-- Such a route change in TRACK freezes phase (R171). -/
def State.frozen (s : State) : Bool := decide (s.hearth.state = .track) && s.routeHeld

/-- ACC_BOUND when the bound is unknown (R162). -/
def unknownBound : Nat := 2 ^ 32 - 1

/-- What is left to slew, ps, rounded up. -/
def State.slewPs (s : State) : Nat := (s.hearth.slewLeft.natAbs * 1000 + 2 ^ 88 - 1) / 2 ^ 88

/-- The bound of TRACK (R162); none where it is unknown. -/
def State.trackBound (s : State) : Option Nat :=
  let r := s.rank
  let base := s.obj O.ACC_BASE
  let hop := s.obj O.ACC_HOP
  let q := s.source
  let b :=
    if q = extref then (if r = 0 then some 1 else none)
    else if q < 48 ∧ ¬ s.native q then some (s.obj O.ACC_PTP)
    else if r = 0 then some base
    else some (sqrtUp (base * base + (r - 1) * (hop * hop)))
  b.map (· + s.slewPs)

/-- The bound while coasting (R162): b0 + HOLD_FREQ_ERR × t + HOLD_AGING × t² / 2, rounded up. -/
def State.coastBound (s : State) : Option Nat :=
  s.servo.b0.map fun b =>
    let t := (s.hearth.cycles - s.servo.leftAt) * s.obj O.HEARTH_INC / 2 ^ 40
    b + (s.obj O.HOLD_FREQ_ERR * t + 10 ^ 9 - 1) / 10 ^ 9 + (s.obj O.HOLD_AGING * t * t + 2 * 10 ^ 21 - 1) / (2 * 10 ^ 21)

/-- The bound of R162 is computed. -/
def State.updateBound (s : State) : State :=
  let b := match s.hearth.state with
    | .track => if s.frozen then s.coastBound else s.trackBound
    | .holdover | .qualify => s.coastBound
    | .refused => if s.hearth.fromAlign then none else s.coastBound
    | _ => none
  s.setObj O.ACC_BOUND (match b with | some v => min v unknownBound | none => unknownBound)

/-- The bound on leaving TRACK, or at a route freeze, is kept (R162, R171). -/
def State.noteBound (s : State) : State :=
  let b := s.trackBound
  s.modServo fun m => { m with b0 := b, leftAt := s.hearth.cycles }

/-- TRACK is entered, and an offset is slewed in (R30, R34). -/
def State.enterTrack (s : State) (theta : Int) : State :=
  let s := (s.setServo .track).modHearth fun h => { h with refJump := false, fromAlign := false, srcLost := false }
  let s := s.modServo fun m =>
    { m with thSum := 0, thN := 0, qSum := 0, qN := 0, mSum := 0, mN := 0, qOn := false, pred := 0, rates := [], revert := none,
             altWait := none, calMove := 0 }
  let s := s.modTio fun x => { x with firstLock := true }
  let s := if theta = 0 then s else s.slewBy theta
  if s.frozen then s.noteBound else s

/-- HOLDOVER is entered from the states that steer (R168): the holdover rate is the mean of the rates of TRACK, or the rate
held in ALIGN. Where TRACK is left before any servo update has run in it there is no mean, and the spec does not say which rate holds:
the model holds the present HEARTH_RATE (DESIGN CHOICE, log entry 39). -/
def State.enterHoldover (s : State) : State :=
  let r := if s.servo.rates = [] then s.objI O.HEARTH_RATE else meanI s.servo.rates
  let s := ((s.setObjI O.HOLD_RATE r).setObjI O.HEARTH_RATE r).setServo .holdover
  let s := s.modServo fun m => { m with qOn := false, pred := 0, revert := none, altWait := none, calMove := 0 }
  (s.modHearth fun h => { h with srcLost := false, refJump := false }).modTio fun x => { x with firstLock := true }

/-- The part returns to FREE without a step (R34): a computed step is dropped, the share of an earlier one runs on (R30). -/
def State.toFree (s : State) : State :=
  let s := (s.setServo .free).modHearth fun h =>
    { h with phase := if h.phase = .computed then .none else h.phase, srcLost := false, fromAlign := false, refJump := false }
  s.modServo fun m =>
    { m with qOn := false, b0 := none, rates := [], thSum := 0, thN := 0, revert := none, altWait := none, calMove := 0, thPrev := none,
             okSince := none }

/-- A re-epoch (R30): FREE, STEP_USED and HEARTH_SLEW cleared; HEARTH_RATE stays (R25). -/
def State.reepoch (s : State) : State :=
  let s := s.toFree.stopSlew.modHearth fun h => { h with stepUsed := false, reepoched := true }
  s.setObj O.ACC_BOUND unknownBound

/-- The step of R26 and R27 for a given θ of the source. -/
def State.stepFor (s : State) (theta : Int) : Int :=
  if s.source = extref ∧ s.obj O.EXTREF_MODE = 2 then 0
  else if s.hearth.reepoched then -theta
  else if s.source = extref then (-theta) % (10 ^ 9 * 2 ^ 24 : Int)
  else (-theta) % (2 ^ 56 : Int)

/-- The step is computed in the cycle in which ALIGN is entered (R26); one that R28 forbids is refused. -/
def State.computeStep (s : State) : State :=
  let st := s.stepFor (s.thetaOf s.source)
  if st < 0 ∧ s.obj O.REEPOCH_ALLOW_BACK = 0 then
    ((s.setServo .refused).modHearth fun h => { h with fromAlign := true, phase := .none }).raise O.HEARTH_FLAGS 2
  else
    let k := if s.f0Period = 0 then 0 else st * 2 ^ 16 / s.f0Period
    s.modHearth fun h => { h with phase := .computed, step := st, stepK := k, stepAt := h.cycles }

/-- Both parts of the step are complete (R34), or the share of a step before a re-epoch is, so that a waiting ALIGN computes
its own (R30). -/
def State.shareDone (s : State) : State :=
  if s.hearth.phase ≠ .committed ∨ s.hearth.share ≠ 0 then s else
  let lost := s.hearth.srcLost
  let s := s.modHearth fun h => { h with phase := .none }
  if s.hearth.state ≠ .align then s
  else if !s.hearth.stepUsed then s.computeStep
  else if lost then s.enterHoldover
  else s.enterTrack 0

/-- ACCEPT is DONE when HEARTH_SLEW is first set (R39). -/
def State.acceptDone (s : State) : State :=
  if s.hearth.acceptWait ∧ (s.slewing ∨ s.hearth.slewLeft = 0) then
    (s.modHearth fun h => { h with acceptWait := false }).endStatus O.HEARTH_CMD_STATUS 0 2
  else s

/-- A conditioner update (R24, R26): the interval that ends has applied its part of the slew and of a step's share, and the
next takes the new rate. -/
def State.conditioner (s : State) : State :=
  if !s.hearth.running then s else ((s.endInterval.startInterval).acceptDone).shareDone

def execConditionerUpdate (s : State) : Host.Outcome State Fault Refusal := run s (·.conditioner)

/-- An offset of the servo's sums moves with a step of `d` units. -/
def State.stepSums (s : State) (d : Int) : State :=
  s.modServo fun m => { m with thSum := m.thSum + d * m.thN, extTh := m.extTh + d }

/-- The commit cycle of the step, the 128th after its computation (R26, R29): the counter share is added, STEP_USED is set,
PTP_EPOCH follows a PTP source (R185), and generators on TIME are stepped over (R232). -/
def State.stepCommit (s : State) : State :=
  if s.hearth.phase ≠ .computed then s else
  let st := s.hearth.step
  let q := s.source
  let s := (s.hearthRun (s.hearth.stepAt + 127 - s.hearth.cycles)).commitShare
  let left := ((st * 2 ^ 16 - s.hearth.stepK * s.f0Period) * 2 ^ 48).toNat
  let s := (s.modHearth fun h => { h with phase := .committed, stepUsed := true, share := left, shareNow := 0, moved := h.moved + st * 2 ^ 64 }).setObjI O.HEARTH_STEP st
  let s := (s.stepSums st).calViolate 3 0 7
  let s := if q < 48 ∧ ¬ s.native q then
      (s.setObjI O.PTP_EPOCH (roundDiv (-s.servo.ptpFull - st) (2 ^ 24))).modServo fun m => { m with epochSet := true }
    else s
  let k := s.hearth.stepK
  (if 0 < k then (s.tioStepped true).snapStepped else if k < 0 then s.tioStepped false else if 0 ≤ st then s.snapStepped else s).shareDone

def execStepCommit (s : State) : Host.Outcome State Fault Refusal := run s (·.stepCommit)

/-- The frequency error has stayed within ±50 ppb for 1 s without interruption (R34). -/
def State.freqHeld (s : State) : Bool := match s.servo.okSince with | some t => s.elapsed t (10 ^ 9) | none => false

/-- ACQUIRE ends in ALIGN once the frequency error has stayed in its limits (R34). A share of a step before a re-epoch ends first
(R30). -/
def State.acquired (s : State) : State :=
  if s.hearth.state ≠ .acquire ∨ s.freqHeld = false then s
  else if s.hearth.phase = .committed then s.setServo .align
  else (s.setServo .align).computeStep

def execAcquireComplete (s : State) : Host.Outcome State Fault Refusal := run s (·.acquired)

/-- A new source is taken in TRACK, and the difference is slewed in (R165, R166). -/
def State.switchTo (s : State) (q : Nat) : State :=
  (((s.setObj O.UPSTREAM_PORT q).count O.UPSTREAM_SWITCH).slewBy (s.thetaOf q)).modServo fun m =>
    { m with missed := 0, revert := none, altWait := none, thSum := 0, thN := 0 }

/-- θ of a source lies within JUMP_LIMIT. -/
def State.inJump (s : State) (q : Nat) : Bool := within (s.thetaOf q) (s.obj O.JUMP_LIMIT)

/-- A source that is lost is measured anew (R169, R176): the delay before the loss is kept, or, with a route change
pending, the one before that (R179). -/
def State.markLost (s : State) (q : Nat) : State :=
  if 48 ≤ q then s else
  let s := if s.routeState q = 1 then s.setObj O.PORT_ROUTE_STATE 0 (q + 1) else s
  let d := s.objI O.PORT_DELTA (q + 1)
  s.modPort q fun t =>
    { t with lostAt := some s.hearth.cycles, lostDelta := d, complete := false, run := [], cand := none,
             dgdPrev := if t.refSet || t.dgd.isNone then t.dgdPrev else t.dgd }

/-- What the loss of the source does to the servo (R34, R35, R36, R166, R179). `alt` is the alternate: in TRACK it becomes the source at
the next update where its θ lies within JUMP_LIMIT. -/
def State.loseSource (s : State) (alt : Nat) (wasFrozen : Bool) : State :=
  match s.hearth.state with
  | .acquire => s.toFree
  | .align => if s.hearth.stepUsed then s.modHearth fun h => { h with srcLost := true } else s.toFree
  | .track =>
    if alt ≠ noSource ∧ s.inJump alt ∧ ¬ wasFrozen then s.modServo fun m => { m with altWait := some alt, revert := none }
    else s.enterHoldover
  | .qualify => (s.setServo .holdover).modServo fun m => { m with qOn := false, pred := 0 }
  | .holdover => (s.modHearth fun h => { h with refJump := false }).modServo fun m => { m with qOn := false, pred := 0 }
  | .refused => if s.hearth.fromAlign then s.toFree.stopSlew else s.enterHoldover
  | _ => s

/-- The roles of the ports are recomputed: the alternate is the first eligible source beside the selected one (R164). -/
def State.reselectAlt (s : State) : State :=
  let q := s.source
  s.setObj O.UPSTREAM_ALT (s.firstSource (· != q))

/-- The source is lost: what happens then (R158, R166). -/
def State.sourceLost (s : State) : State :=
  let q := s.source
  if q = noSource then s else
  let frozen := s.frozen
  let alt := s.firstSource (· != q)
  let s := if s.hearth.state = .track ∧ ¬ frozen then s.noteBound else s
  (((s.markLost q).setObj O.UPSTREAM_PORT noSource).loseSource alt frozen).reselectAlt

/-- The selected source is gone: no exchange of it was accepted in 64 consecutive updates (R158), or it is eligible no more (R163). -/
def State.sourceGone (s : State) : Bool :=
  decide (64 ≤ s.servo.missed) || !(s.sourceKeys.any fun k => keySource k == s.source)

def execSourceLost (s : State) : Host.Outcome State Fault Refusal := run s fun s => if s.sourceGone then s.sourceLost else s

/-- Selection (R164 to R166, R169) and what it starts (R34): a source is selected where there is none; a valid one moves FREE
to ACQUIRE, and in HOLDOVER it has returned, which enters QUALIFY. REFIN_ONLY
measures no offset that could restart the timer (R167). -/
def State.select (s : State) : State :=
  let st := s.hearth.state
  let s :=
    if s.source ≠ noSource ∨ (st ≠ .free ∧ st ≠ .holdover) then s
    else (s.setObj O.UPSTREAM_PORT (s.firstSource fun q => st == .free || s.validSource q)).modServo fun m => { m with missed := 0 }
  let s := s.reselectAlt
  let q := s.source
  if q = noSource ∨ ¬ s.validSource q then s
  else if st = .free then (s.setServo .acquire).modServo fun m => { m with thPrev := none, since := 0, okSince := none }
  else if st = .holdover ∧ ¬ s.hearth.refJump then
    let s := (s.setServo .qualify).modServo fun m => { m with qOn := false, pred := 0, qSum := 0, qN := 0 }
    if q = extref ∧ s.obj O.EXTREF_MODE = 2 then s.modServo fun m => { m with qOn := true, qStart := s.hearth.cycles } else s
  else s

/-- The offset that the slew in progress has still to take away, 2^-24 ns. -/
def State.slewOffset (s : State) : Int := roundDiv (-s.hearth.slewLeft) (2 ^ 64)

/-- θ_pred of the source (R155, log entry 8): none before TRACK; what is left to slew, and after REF_JUMP the phase last seen beside it;
elsewhere in coasting the offset itself is tested (R170). -/
def State.thetaPred (s : State) : Option Int :=
  match s.hearth.state with
  | .track | .qualify | .refused => some s.slewOffset
  | .holdover => some ((if s.hearth.refJump then s.servo.pred else 0) + s.slewOffset)
  | _ => none

/-- The states in which JUMP_LIMIT is the only offset limit (R170). -/
def State.qualifying (s : State) : Bool :=
  match s.hearth.state with
  | .qualify | .refused => true
  | .holdover => s.hearth.refJump
  | _ => false

/-- The offset limit of R155, ps. -/
def State.thetaLimit (s : State) : Nat := if s.qualifying then s.obj O.JUMP_LIMIT else s.obj O.STEP_MIN

/-- A qualification timer starts from zero at an offset (R36). -/
def State.qualStart (s : State) (theta : Int) : State :=
  s.modServo fun m => { m with qOn := true, qStart := s.hearth.cycles, mSum := theta, mN := 1 }

/-- A tested offset against the running mean (R36). -/
def State.qualStep (s : State) (theta : Int) : State :=
  let m := s.servo
  if !m.qOn || !within (theta * m.mN - m.mSum) (s.obj O.QUAL_BAND * m.mN) then s.qualStart theta
  else s.modServo fun m => { m with mSum := m.mSum + theta, mN := m.mN + 1 }

/-- A returning source is beyond JUMP_LIMIT (R34, R37). -/
def State.refJumped (s : State) (theta : Int) : State :=
  let s := s.raise O.HEARTH_FLAGS 3
  if s.obj O.REF_RETURN_POLICY = 2 then s.reepoch else
  let s := (s.setServo .holdover).modHearth fun h => { h with refJump := true }
  let s := s.modServo fun m => { m with pred := theta - s.slewOffset, qOn := false }
  if s.obj O.REF_RETURN_POLICY = 0 then s.qualStart theta else s

/-- The policy REEPOCH acts immediately in HOLDOVER after REF_JUMP, also where it is written there (R34, R37). -/
def State.policyWritten (s : State) : State :=
  if s.hearth.state = .holdover ∧ s.hearth.refJump ∧ s.obj O.REF_RETURN_POLICY = 2 then s.reepoch else s

/-- A confirmed step beyond JUMP_LIMIT in TRACK (R34): REFUSED, on the rate in force before the step. -/
def State.masterJump (s : State) : State :=
  let s := s.noteBound
  let s := (s.stopSlew.setServo .refused).modHearth fun h => { h with fromAlign := false }
  (s.modServo fun m => { m with qOn := false, qSum := 0, qN := 0 }).raise O.HEARTH_FLAGS 2

/-- A measurement of the source reaches the servo (R155, R158, R170): ordinary, or a confirmed step, within JUMP_LIMIT of
the prediction or beyond it. -/
def State.servoTheta (s : State) (theta : Int) (stepped beyond : Bool) : State :=
  let tested (s : State) : State := s.modServo fun m => { m with qSum := m.qSum + theta, qN := m.qN + 1 }
  match s.hearth.state with
  | .track =>
    if stepped && beyond then tested s.masterJump
    else if stepped then s.slewBy theta
    else
      let s := s.modServo fun m => { m with thSum := m.thSum + theta, thN := m.thN + 1 }
      if s.source = extref then s.slewBy theta else s
  | .qualify => let s := tested s; if stepped then s.refJumped theta else s.qualStep theta
  | .refused =>
    let s := tested s
    if s.hearth.fromAlign then s
    else if stepped then s.modServo fun m => { m with qOn := false }
    else s.qualStep theta
  | .holdover =>
    if !s.hearth.refJump then s else
    let s := (tested s).modServo fun m => { m with pred := theta - s.slewOffset }
    if stepped then
      let s := s.raise O.HEARTH_FLAGS 3
      if s.obj O.REF_RETURN_POLICY = 0 then s.qualStart theta else s.policyWritten
    else if s.obj O.REF_RETURN_POLICY = 0 then s.qualStep theta else s
  | _ => s.modServo fun m => { m with thSum := m.thSum + theta, thN := m.thN + 1 }

/-- QUAL_SHORT has passed without a restart (R34, R36). -/
def State.qualShort (s : State) : State :=
  if !s.servo.qOn then s
  else if s.hearth.state = .qualify ∨ (s.hearth.state = .refused ∧ ¬ s.hearth.fromAlign) then
    (if s.inJump s.source then s.enterTrack (s.thetaOf s.source) else s)
  else s

def execQualShortExpire (s : State) : Host.Outcome State Fault Refusal := run s (·.qualShort)

/-- QUAL_LONG has passed without a restart (R34, R36). -/
def State.qualLong (s : State) : State :=
  if s.servo.qOn ∧ s.hearth.state = .holdover ∧ s.hearth.refJump ∧ s.obj O.REF_RETURN_POLICY = 0 then
    s.enterTrack (s.thetaOf s.source)
  else s

def execQualLongExpire (s : State) : Host.Outcome State Fault Refusal := run s (·.qualLong)

/-- A Hearth command while one is BUSY is refused at the dictionary (R42). -/
def State.hearthBusy (s : State) : Bool := s.status O.HEARTH_CMD_STATUS == 1

/-- REEPOCH (R39). Before the Hearth has started counting there is no servo state in which it could act (R18, R20), and what the command
answers then the spec leaves open: the model answers REFUSED (DESIGN CHOICE, log entry 40). -/
def State.cmdReepoch (s : State) : State :=
  if s.hearthBusy then s
  else if s.hearth.state = .off then s.cmdStatus O.HEARTH_CMD_STATUS 0 1 4
  else s.reepoch.cmdStatus O.HEARTH_CMD_STATUS 0 1 2

def execReepoch (s : State) : Host.Outcome State Fault Refusal := run s (·.cmdReepoch)

/-- ABORT_ACQ (R39, R40): before the commit cycle it wins; in the commit cycle it loses, and the step is committed in that cycle; after
it ALIGN is no valid state. -/
def State.abortAcq (s : State) (coincident : Bool) : State :=
  if s.hearthBusy then s else
  match s.hearth.state with
  | .acquire => s.toFree.cmdStatus O.HEARTH_CMD_STATUS 0 2 3
  | .align =>
    if coincident ∧ (s.hearth.phase = .computed ∨ (s.hearth.phase = .committed ∧ s.hearth.cycles = s.hearth.stepAt + 128)) then
      s.stepCommit.abortLate O.HEARTH_CMD_STATUS 0 2 O.HEARTH_FLAGS 5
    else if s.hearth.stepUsed then s.cmdStatus O.HEARTH_CMD_STATUS 0 2 4
    else s.toFree.cmdStatus O.HEARTH_CMD_STATUS 0 2 3
  | _ => s.cmdStatus O.HEARTH_CMD_STATUS 0 2 4

def execAbortAcq (coincident : Bool) (s : State) : Host.Outcome State Fault Refusal := run s (·.abortAcq coincident)

/-- ACCEPT (R35, R39): the measured offset is slewed in. -/
def State.accept (s : State) : State :=
  if s.hearthBusy then s else
  let ok := (decide (s.hearth.state = .refused) && !s.hearth.fromAlign) ||
    (decide (s.hearth.state = .holdover) && s.hearth.refJump && s.obj O.REF_RETURN_POLICY == 1)
  if !ok then s.cmdStatus O.HEARTH_CMD_STATUS 0 3 4 else
  let theta := s.thetaOf s.source
  let s := s.enterTrack theta
  if theta = 0 then s.cmdStatus O.HEARTH_CMD_STATUS 0 3 2
  else (s.cmdStatus O.HEARTH_CMD_STATUS 0 3 1).modHearth fun h => { h with acceptWait := true }

def execAccept (s : State) : Host.Outcome State Fault Refusal := run s (·.accept)

/-- A code that HEARTH_CMD does not know (R39). -/
def State.hearthCmdOther (s : State) (code : Nat) : State :=
  if s.hearthBusy then s else s.cmdStatus O.HEARTH_CMD_STATUS 0 code 4

/-- The average of the last update becomes HEARTH_OFFSET (R158). -/
def State.takeOffset (s : State) : State :=
  let m := s.servo
  let s :=
    if s.qualifying then (if m.qN = 0 then s else s.setObjI O.HEARTH_OFFSET (roundDiv m.qSum m.qN))
    else if m.thN = 0 ∨ s.frozen then s else s.setObjI O.HEARTH_OFFSET (roundDiv m.thSum m.thN)
  s.modServo fun m => { m with thSum := 0, thN := 0, qSum := 0, qN := 0 }

/-- Updates in HOLD_AVG seconds (R158, R168). -/
def State.holdUpdates (s : State) : Nat := (2 * s.obj O.HOLD_AVG * 10 ^ 9 + 2 ^ 20) / 2 ^ 21

/-- The bandwidth of the loop that runs, in mHz (R159, R160): SERVO_BW in TRACK, ten times that and at most 10 Hz in ACQUIRE. -/
def State.bandwidth (s : State) : Nat :=
  let b := [100, 300, 1000, 3000, 10000].getD (s.obj O.SERVO_BW) 10000
  if s.hearth.state = .acquire then min (10 * b) 10000 else b

/-- The loop writes HEARTH_RATE (R158, R160, R561): from its bandwidth and its input, and from internal state that is not specified, so
that its value is free within ±200 ppm (log entry 3). -/
def State.steer (s : State) (input : Int) : State :=
  let v := clampI rateMax (Config.servoRate (s.hearth.state == .acquire) s.bandwidth input s.free).toInt
  s.fresh.setObjI O.HEARTH_RATE v

/-- The loop of TRACK or ACQUIRE runs: it has an accepted measurement, or REFIN itself, and no route change holds it (R158, R160, R167,
R171). -/
def State.loops (s : State) : Bool :=
  (decide (s.hearth.state = .acquire) || decide (s.hearth.state = .track)) && !s.routeHeld &&
    (s.servo.acceptN != 0 || (s.source == extref && s.obj O.REFIN_STATE == 2))

/-- What the loop runs on (R158, R160, R167): the average of θ over the ordinary exchanges, or the phase of REFIN; none without. -/
def State.loopInput (s : State) : Option Int :=
  if s.source = extref then some (Config.refPhase s.free).toInt
  else if s.servo.thN = 0 then none else some (roundDiv s.servo.thSum s.servo.thN)

/-- ACQUIRE watches the frequency error, the slope of θ across successive updates (R34, R160): `d` units of 2^-24 ns over `n` updates of
2^20 ns lie within ±50 ppb. -/
def slopeOk (d : Int) (n : Nat) : Bool := decide (d.natAbs * 10 ^ 9 ≤ 50 * n * 2 ^ 44)

/-- An update of the watch (R160). An update without a measurement leaves it as it is. -/
def State.watchSlope (s : State) (input : Option Int) : State :=
  if s.hearth.state ≠ .acquire then s else
  match input with
  | none => s.modServo fun m => { m with since := m.since + 1 }
  | some x =>
    s.modServo fun m =>
      { m with
        thPrev := some x, since := 0,
        okSince := match m.thPrev with
          | none => none
          | some y => if slopeOk (x - y) (m.since + 1) then m.okSince.or (some s.hearth.cycles) else none }

/-- The loop's part of an update (R158, R160). -/
def State.loopRun (s : State) (input : Option Int) : State :=
  if s.loops = false then s.watchSlope none else
  let x := input.getD 0
  let slope := match s.servo.thPrev with | some y => roundDiv (x - y) (s.servo.since + 1) | none => 0
  (s.watchSlope input).steer (if s.hearth.state = .acquire then slope else x)

/-- A switch that waits is made, or dropped (R165, R166): the alternate of a source that was lost, or the better candidate at the first
update at which its θ lies within JUMP_LIMIT. -/
def State.switchWaiting (s : State) : State :=
  if s.hearth.state ≠ .track then s else
  let elig (q : Nat) : Bool := s.sourceKeys.any fun k => keySource k == q
  match s.servo.altWait with
  | some q =>
    let s := s.modServo fun m => { m with altWait := none }
    if elig q && s.inJump q then s.switchTo q else s.enterHoldover
  | none =>
    match s.servo.revert with
    | none => s
    | some q =>
      if s.obj O.SEL_REVERT ≠ 1 ∨ elig q = false ∨ s.firstSource (fun r => r == q || r == s.source) ≠ q then
        s.modServo fun m => { m with revert := none }
      else if s.inJump q ∧ s.frozen = false then s.switchTo q
      else s

/-- A servo update (R158). EXTREF has no exchanges that could be missed (DEDUCED from R163 and R167). -/
def State.servoRun (s : State) : State :=
  let input := s.loopInput
  let s := (s.takeOffset).loopRun input
  let rate := s.objI O.HEARTH_RATE
  let n := s.holdUpdates
  let s := if s.hearth.state = .track ∧ ¬ s.frozen then s.modServo fun m => { m with rates := (rate :: m.rates).take n } else s
  let s := s.modServo fun m =>
    { m with acceptN := 0, missed := if s.source < 48 ∧ m.acceptN = 0 then m.missed + 1 else 0 }
  s.switchWaiting.updateBound.select

/-- SEL_REVERT: a better candidate has stayed eligible and better for 10 s (R165). It waits for an update at which its θ lies within
JUMP_LIMIT. -/
def State.sourceRevert (s : State) : State :=
  let best := s.firstSource fun _ => true
  if s.obj O.SEL_REVERT = 1 ∧ s.hearth.state = .track ∧ s.source ≠ noSource ∧ best ≠ noSource ∧ best ≠ s.source then
    s.modServo fun m => { m with revert := some best }
  else s

def execSourceRevert (s : State) : Host.Outcome State Fault Refusal := runKeep s (·.sourceRevert)

end Sys2Proof.Machine
end

