-- ==== Sys2Proof/Machine/Locking.lean ====
section
/-! DEFINITION. Delay and asymmetry (R142 to R157, R171 to R188, R559, R560): the fibre's asymmetry, exchanges and their
classification, route changes with ranging and policies, PPS_IN as a source, and PTP. -/

namespace Sys2Proof.Machine

/-- `num / den` rounded to the nearest integer; 0 for a denominator of 0 (log entry 5). -/
def ratRound (num den : Int) : Int := if den = 0 then 0 else if den < 0 then roundDiv (-num) (-den) else roundDiv num den

/-- The lane that receives TIME on a port: the one whose peer lane has the position that carries it (R99, R154). -/
def State.timingRx (s : State) (p : Nat) : Nat := s.laneAt p (s.obj O.PORT_TIMING_POS (p + 1))

/-- λ² × τ(λ) on a common scale (R153): n_g × 8 × 10^18 × λ² + S0 × (λ² − λ0²)² × 299,792,458. -/
def tauN (ng s0 l0 l : Int) : Int := ng * (8 * 10 ^ 18) * l ^ 2 + s0 * (l ^ 2 - l0 ^ 2) ^ 2 * 299792458

/-- α of a port between a receiving and a sending lane, units of 2^-48 (R154). -/
def State.alphaOn (s : State) (p rx tx : Nat) : Int :=
  if s.obj O.PORT_ALPHA_MODE (p + 1) = 1 then s.objI O.PORT_ALPHA_FIXED (p + 1) else
  let li : Int := s.obj O.LANE_LAMBDA_RX (rx + 1)
  let lo : Int := s.obj O.LANE_LAMBDA_TX (tx + 1)
  if li = 0 ∨ lo = 0 then 0 else
  let tau := tauN (s.obj O.FIBRE_GROUP_INDEX (p + 1)) (s.obj O.FIBRE_S0 (p + 1)) (s.obj O.FIBRE_LAMBDA0 (p + 1))
  ratRound ((tau li * lo ^ 2 - tau lo * li ^ 2) * 2 ^ 48) (tau lo * li ^ 2)

/-- α in force on a port: that of the lanes that carry TIME (R99, R154). -/
def State.alpha (s : State) (p : Nat) : Int := s.alphaOn p (s.timingRx p) (s.timingLane p)

/-- A_x of R142, ps. -/
def State.asymX (s : State) (p : Nat) : Int :=
  (s.obj O.PORT_PEER_EXT_TX (p + 1) : Int) + s.obj O.PORT_EXT_RX (p + 1) - s.obj O.PORT_EXT_TX (p + 1) -
    s.obj O.PORT_PEER_EXT_RX (p + 1)

/-- δ_f of a round trip (R144), 2^-24 ns. -/
def State.fibreTrip (s : State) (p : Nat) (delta : Int) : Int :=
  delta - psToU ((s.obj O.PORT_EXT_TX (p + 1) : Int) + s.obj O.PORT_EXT_RX (p + 1) + s.obj O.PORT_PEER_EXT_TX (p + 1) +
    s.obj O.PORT_PEER_EXT_RX (p + 1))

/-- A of R145 for a round trip and an α, 2^-24 ns. -/
def State.asymWith (s : State) (p : Nat) (a delta : Int) : Int :=
  let t := s.port p
  psToU (s.asymX p + t.calAct + t.routeAct) + ratRound (a * s.fibreTrip p delta) (2 ^ 49 + a)

/-- A of R145 for a round trip, 2^-24 ns; on an Ethernet port A_x + PORT_ASYM_CAL (R184). -/
def State.asymOf (s : State) (p : Nat) (delta : Int) : Int :=
  if !s.native p then psToU (s.asymX p + (s.port p).calAct) else s.asymWith p (s.alpha p) delta

/-- Seconds of R176 as a limit: ROUTE_LIMIT + ROUTE_DRIFT × the duration of the loss, ps. -/
def State.returnLimit (s : State) (since : Nat) : Nat :=
  let ns := (s.hearth.cycles - since) * s.obj O.HEARTH_INC / 2 ^ 40
  s.obj O.ROUTE_LIMIT + s.obj O.ROUTE_DRIFT * ns / 10 ^ 9

/-- An exchange is accepted (R559): δ_ref takes it, and the port's objects report it. -/
def State.takeExchange (s : State) (p : Nat) (delta theta : Int) : State :=
  let pending := decide (2 ≤ s.routeState p)
  let s := s.modPort p fun t =>
    { t with acc := (delta :: t.acc).take 256, bias := theta - roundDiv s.hearth.moved (2 ^ 64), newSum := if pending then t.newSum + delta else t.newSum,
             newN := if pending then t.newN + 1 else t.newN }
  let s := ((s.setObjI O.PORT_DELTA delta (p + 1)).setObjI O.PORT_OFFSET theta (p + 1)).setObjI O.PORT_ASYM
    (s.asymOf p delta) (p + 1)
  if s.source = p then s.modServo fun m => { m with acceptN := m.acceptN + 1 } else s

/-- The tests that R174 makes of a port: NATIVE, width 2 or 4, and receive wavelengths that all differ by 10 nm or more. -/
def State.rangeOk (s : State) (p : Nat) : Bool :=
  let l (n : Nat) : Nat := s.obj O.LANE_LAMBDA_RX (n + 1)
  let ls := s.portLanes p
  s.native p && (s.width p == 2 || s.width p == 4) && ls.all (fun n => l n != 0) &&
    ls.all fun a => ls.all fun b => a == b || decide (l a + 10000 ≤ l b) || decide (l b + 10000 ≤ l a)

/-- A route change is confirmed on a port (R171 to R173): `dnew` is δ after it, `before` δ_ref before it. A second step
restarts the state that runs. `returned`: the port was the source when it was lost and comes back while there is no other (R176). -/
def State.routeChange (s : State) (p : Nat) (dnew before : Int) (returned : Bool) : State :=
  let st := s.routeState p
  let pending := decide (2 ≤ st)
  let own := s.source == p
  let s := s.modPort p fun t =>
    { t with refPrev := if pending && t.refSet then t.refPrev else before, refSet := true, confirmAt := s.hearth.cycles,
             acc := [], newSum := 0, newN := 0, cand := none }
  let s := s.setObjI O.PORT_ROUTE_STEP (dnew - (s.port p).refPrev) (p + 1)
  let s := if own ∧ s.hearth.state = .track ∧ ¬ s.frozen then s.noteBound else s
  let next := if st = 2 ∨ st = 3 then st else if s.obj O.PORT_RANGE_MODE (p + 1) = 1 then 2 else 3
  let s := (s.setObj O.PORT_ROUTE_STATE next (p + 1)).raise O.PORT_TIME_FLAGS 3 (p + 1)
  let s := if own ∨ (returned ∧ s.source = noSource) then s.raise O.HEARTH_FLAGS 4 else s
  if own ∧ s.hearth.state = .track then s.stopSlew else s

/-- A route change is settled (R175, R177, R178): the route state is NORMAL, and phase is released with PORT_ASYM_ROUTE as it stands at the
next servo update, where a write takes effect (R181, R560). -/
def State.settleRoute (s : State) (p : Nat) : State :=
  (s.modPort p fun t => { t with refSet := false, settled := true, newSum := 0, newN := 0 }).setObj O.PORT_ROUTE_STATE 0 (p + 1)

/-- The step of δ_f that is being settled: the mean since confirmation less δ_ref before the first step (R173, R175). -/
def State.routeDelta (s : State) (p : Nat) : Int :=
  let t := s.port p
  (if t.newN = 0 then s.objI O.PORT_DELTA (p + 1) else roundDiv t.newSum t.newN) - t.refPrev

/-- A step of PORT_ASYM_ROUTE, 2^-24 ns. -/
def State.addRoute (s : State) (p : Nat) (u : Int) : State :=
  s.setObjI O.PORT_ASYM_ROUTE (s.objI O.PORT_ASYM_ROUTE (p + 1) + uToPs u) (p + 1)

/-- On FORWARD: 1 where the peer is the lower-rank end, −1 where it is the higher-rank end (R177). -/
def State.forwardSign (s : State) (p : Nat) : Int :=
  if s.epPort p then -1
  else if s.twin.pair ≠ 0 ∧ s.twin.port = p ∧ s.manager then (if s.obj O.TWIN_STATE = 2 then -1 else 1)
  else if s.source = p ∨ s.peerLower p then 1
  else if s.peerHigher p then -1 else 0

/-- ROUTE_POLICY FORWARD (R177). -/
def State.applyForward (s : State) (p : Nat) : State :=
  (s.addRoute p (s.forwardSign p * ratRound (s.routeDelta p * 2 ^ 49) (2 ^ 49 + s.alpha p))).settleRoute p

/-- ROUTE_HOLD expires (R177). -/
def State.holdExpire (s : State) (p : Nat) : State :=
  if s.routeState p ≠ 3 then s
  else match s.obj O.ROUTE_POLICY with
    | 0 => s.settleRoute p
    | 1 => s.setObj O.PORT_ROUTE_STATE 4 (p + 1)
    | _ => s.applyForward p

def execRouteHoldExpire (port : Fin 48) (s : State) : Host.Outcome State Fault Refusal := runKeep s (·.holdExpire port)

/-- A return of the source is judged by its first 8 exchanges (R176, R179). -/
def State.judgeReturn (s : State) (p : Nat) (mean : Int) : State :=
  match (s.port p).lostAt with
  | none => s
  | some t0 =>
    let t := s.port p
    let pending := decide (2 ≤ s.routeState p) && t.refSet
    let ref := if pending then t.refPrev else t.lostDelta
    let lim := s.returnLimit t0
    let s := s.modPort p fun t => { t with lostAt := none }
    if within (mean - ref) lim then (if pending then s.settleRoute p else s)
    else
      let s := s.modPort p fun t => { t with refSet := false }
      let s := s.routeChange p mean ref true
      s.modPort p fun t => { t with acc := List.replicate 8 mean, newSum := 8 * mean, newN := 8 }

/-- The first delay measurement (R559): 8 consecutive exchanges within ±ROUTE_LIMIT / 2 of their mean are the port's first
accepted ones. -/
def State.firstMeasure (s : State) (p : Nat) (delta theta : Int) : State :=
  let r := ((delta, theta) :: (s.port p).run).take 8
  let sum := sumI (r.map (·.1))
  let ok := r.length == 8 && r.all fun x => within (2 * (8 * x.1 - sum)) (8 * s.obj O.ROUTE_LIMIT)
  if !ok then s.modPort p fun t => { t with run := r }
  else
    let s := s.modPort p fun t => { t with run := [], complete := true, acc := [], cand := none }
    (forEach r.reverse (fun s x => s.takeExchange p x.1 x.2) s).judgeReturn p (roundDiv sum 8)

/-- The residuals of a candidate and its followers lie within a band of half a limit (R156). -/
def inBand (l : List Int) (limit : Nat) : Bool := within (2 * (maxI l - minI l)) limit

/-- A candidate and the exchanges that followed it are outliers (R155, R156). -/
def State.dropCand (s : State) (p : Nat) : State :=
  match (s.port p).cand with
  | none => s
  | some c =>
    let s := (s.count O.DELAY_OUTLIER (p + 1) c.items.length).modPort p fun t => { t with cand := none }
    if s.routeState p = 1 then s.setObj O.PORT_ROUTE_STATE 0 (p + 1) else s

/-- δ_ref (R155, R559). -/
def State.deltaRef (s : State) (p : Nat) : Int := meanI (s.port p).acc

/-- θ waits for a route change of the port to be settled, and for the new A to be in force (R156, R171, R560). -/
def State.thetaHeld (s : State) (p : Nat) : Bool := decide (2 ≤ s.routeState p) || (s.port p).settled

/-- The residual in θ that is tested (R155), in the states in which the servo predicts and while no route change is pending. Of a port
that is not the source, the prediction is its latest accepted θ with what local time has been moved by since (log entry 8). -/
def State.thetaRes (s : State) (p : Nat) (theta : Int) : Option Int :=
  if s.thetaHeld p then none
  else s.thetaPred.map fun own => theta - (if s.source = p then own else (s.port p).bias + roundDiv s.hearth.moved (2 ^ 64))

/-- The offset limit for an exchange on a port (R155, R170), ps. -/
def State.thetaLimitOf (s : State) (p : Nat) : Nat := if s.source = p then s.thetaLimit else s.obj O.STEP_MIN

/-- θ passes on to the servo unless the port is not the source or a route change is pending (R171). -/
def State.passTheta (s : State) (p : Nat) (theta : Int) (stepped beyond : Bool) : State :=
  if s.source = p ∧ s.thetaHeld p = false then s.servoTheta theta stepped beyond else s

/-- An exchange judged afresh (R155): a new candidate, or ordinary. PORT_ROUTE_STATE is the state of a route change, so a candidate in δ
sets it to CONFIRM; whether one in θ alone does, R172 leaves open, and in the model it does not (DESIGN CHOICE, log entry 41). -/
def State.judgeFresh (s : State) (p : Nat) (delta theta : Int) : State :=
  let dd := delta - s.deltaRef p
  let dt := s.thetaRes p theta
  if ¬ within dd (s.obj O.ROUTE_LIMIT) then
    let fresh := decide (s.routeState p = 0)
    let s := s.modPort p fun t =>
      { t with cand := some ⟨false, [(dd, dt.getD 0)]⟩, dgdPrev := if fresh then t.dgd else t.dgdPrev }
    if fresh then s.setObj O.PORT_ROUTE_STATE 1 (p + 1) else s
  else match dt with
    | some r =>
      if within r (s.thetaLimitOf p) then (s.takeExchange p delta theta).passTheta p theta false false
      else s.modPort p fun t => { t with cand := some ⟨true, [(dd, r)]⟩ }
    | none => (s.takeExchange p delta theta).passTheta p theta false false

/-- The ninth exchange of a candidate in θ confirms an offset step (R155, R156). Which of the nine residuals is held against JUMP_LIMIT
the spec does not say: the model takes the ninth (DESIGN CHOICE, log entry 42). A step on a port that is not the source concerns that
port's own offset alone. -/
def State.confirmTheta (s : State) (p : Nat) (delta theta res : Int) : State :=
  let beyond := !within res (s.obj O.JUMP_LIMIT)
  let s := (s.modPort p fun t => { t with cand := none }).takeExchange p delta theta
  let s := if !beyond ∧ s.source = p ∧ s.hearth.state = .track then s.raise O.PORT_TIME_FLAGS 2 (p + 1) else s
  s.passTheta p theta true beyond

/-- The ninth exchange of a candidate in δ confirms a route change (R156, R171, R559). -/
def State.confirmRoute (s : State) (p : Nat) (delta theta : Int) : State :=
  (s.routeChange p delta (s.deltaRef p) false).takeExchange p delta theta

/-- A completed exchange is classified (R155, R156). -/
def State.classify (s : State) (p : Nat) (delta theta : Int) : State :=
  match (s.port p).cand with
  | none => s.judgeFresh p delta theta
  | some c =>
    let dd := delta - s.deltaRef p
    let dt := s.thetaRes p theta
    let exD := !within dd (s.obj O.ROUTE_LIMIT)
    let exT := match dt with | some r => !within r (s.thetaLimitOf p) | none => false
    let items := (dd, dt.getD 0) :: c.items
    let ok :=
      if c.theta then !exD && exT && inBand (items.map (·.2)) (s.obj O.STEP_MIN)
      else exD && inBand (items.map (·.1)) (s.obj O.ROUTE_LIMIT)
    if !ok then (s.dropCand p).judgeFresh p delta theta
    else if items.length < 9 then s.modPort p fun t => { t with cand := some { c with items := items } }
    else if c.theta then s.confirmTheta p delta theta (dt.getD 0)
    else s.confirmRoute p delta theta

/-- An exchange on a port is complete (R143, R144, R99, R559): `fwd` is t2 − t1 and `back` t4 − t3; θ is referred to POS 0 from lane `n`,
which carried the REQ. -/
def State.exchange (s : State) (p n : Nat) (fwd back : Int) : State :=
  let delta := back + fwd
  let skew := if s.native p then s.objI O.LINK_LANE_SKEW (n + 1) else 0
  let theta := roundDiv (back - fwd - s.asymOf p delta) 2 - skew
  (if (s.port p).complete then s.classify p delta theta else s.firstMeasure p delta theta).select

/-- A RESP that answers the REQ sent completes an exchange (R80, R143): t4 is its arrival, refined by the phase reading (R147). -/
def State.respIn (s : State) (p : Nat) (b : Body) (arrival : Arrival) : State :=
  match (s.port p).req with
  | none => s
  | some (seq, t1, n) =>
    if !s.native p || !(s.lport p).up || blk b 119 118 != 1 || blk b 117 112 != seq then s
    else
      let s := s.sampled (p + arrival.lane) arrival.codes
      let t3 : Time56 := BitVec.ofNat 56 (blk b 111 56)
      let t2 := t3 - BitVec.ofNat 56 (blk b 55 16)
      (s.modPort p fun t => { t with req := none }).exchange p n (tdiff56 t2 t1) (tdiff56 (s.arrival (p + arrival.lane) arrival.tw) t3)

def execTimeRespReceive (port : Fin 48) (body : Body) (arrival : Arrival) (s : State) : Host.Outcome State Fault Refusal :=
  run s (·.respIn port body arrival)

/-- θ of one exchange of R96 (R144, R145): the lane's own records, and the asymmetry with that lane as the timing lane. -/
def State.skewTheta (s : State) (p n : Nat) (e : SkewEx) : Int × State :=
  let s := s.sampled n e.back.codes
  let back := tdiff56 (s.arrival n e.back.tw) e.t3
  let fwd := tdiff56 (e.t3 - BitVec.ofNat 56 e.turn.toNat) e.t1
  (roundDiv (back - fwd - s.asymWith p (s.alphaOn p n n) (back + fwd)) 2, s)

/-- The sum of θ over the exchanges of a lane, and the state after. -/
def State.skewSum (s : State) (p n : Nat) : List SkewEx → Int → Int × State
  | [], a => (a, s)
  | e :: r, a => let x := s.skewTheta p n e; x.2.skewSum p n r (a + x.1)

/-- The mean θ of each lane of a port by position, and the state after. -/
def State.skewMeans (s : State) (p : Nat) : Nat → List (List SkewEx) → List Int × State
  | _, [] => ([], s)
  | i, l :: r =>
    let x := s.skewSum p (p + i) l 0
    let y := x.2.skewMeans p (i + 1) r
    ((if l = [] then 0 else roundDiv x.1 l.length) :: y.1, y.2)

/-- The measurement of R96 ends: each measured lane's LINK_LANE_SKEW is its mean θ less that of POS 0, which reads 0 itself; a lane readmitted
to a port in service is taken against the lane that carries TIME, with that lane's own figure added. -/
def State.skewDone (s : State) (p : Nat) (ex : List (List SkewEx)) : State :=
  let up := (s.lport p).up
  let ls := (s.skewLanes p).filter fun n => (s.lane n).aligned
  let tp := s.obj O.PORT_TIMING_POS (p + 1)
  let need := (ls.map (· - p)) ++ [if up then tp else 0]
  if !s.native p || (!up && ls.length != s.width p) || need.any (fun i => ex.getD i [] == []) then s else
  let x := s.skewMeans p 0 ex
  let s := x.2
  let ref := if up then x.1.getD tp 0 - s.objI O.LINK_LANE_SKEW (p + tp + 1) else x.1.getD 0 0
  forEach ls (fun s n => (s.setObjI O.LINK_LANE_SKEW (if n = p then 0 else x.1.getD (n - p) 0 - ref) (n + 1)).laneReady n) s

def execSkewMeasureDone (port : Fin 48) (lane0 lane1 lane2 lane3 : List SkewEx) (s : State) : Host.Outcome State Fault Refusal :=
  runKeep s (·.skewDone port [lane0, lane1, lane2, lane3])

/-- A write of PORT_ASYM_CAL has moved θ of the source by `m` (R560): θ_pred moves with it. In TRACK it is slewed in, after a route freeze
where one runs; elsewhere it shifts what R170 tests. -/
def State.calMoved (s : State) (m : Int) : State :=
  match s.hearth.state with
  | .track =>
    let q := s.servo.calMove + m
    if s.frozen then s.modServo fun v => { v with calMove := q }
    else if q = 0 then s
    else (s.modServo fun v => { v with calMove := 0 }).modHearth fun h => { h with slewLeft := h.slewLeft - q * 2 ^ 64 }
  | .holdover | .qualify | .refused =>
    s.modServo fun q => { q with pred := if s.hearth.refJump then q.pred + m else q.pred, mSum := q.mSum + m * q.mN }
  | _ => s

/-- The asymmetries written since the last servo update take effect, and a settled route change releases phase with them (R181, R560): a
change of A by x moves θ by −x / 2. A settlement restarts a qualification timer (R170). -/
def State.takeAsym (s : State) (p : Nat) : State :=
  let t := s.port p
  let c := s.objI O.PORT_ASYM_CAL (p + 1)
  let r := s.objI O.PORT_ASYM_ROUTE (p + 1)
  if c = t.calAct ∧ r = t.routeAct ∧ t.settled = false then s else
  let d := s.objI O.PORT_DELTA (p + 1)
  let old := s.asymOf p d
  let s := s.modPort p fun t => { t with calAct := c, routeAct := r, settled := false }
  let new := s.asymOf p d
  let move := roundDiv (old - new) 2
  let s := s.setObjI O.PORT_ASYM new (p + 1)
  let s := if t.complete ∨ d ≠ 0 then
      (s.setObjI O.PORT_OFFSET (s.objI O.PORT_OFFSET (p + 1) + move) (p + 1)).modPort p fun t => { t with bias := t.bias + move }
    else s
  if s.source ≠ p then s else
  let s := if t.settled then s.modServo fun m => { m with qOn := false } else s
  s.calMoved (roundDiv (-psToU (c - t.calAct)) 2)

/-- The Lantern's TIME packet (R498). -/
def State.timePacket (s : State) : State :=
  s.lanternPush 1 (beBytes 8 s.stamp ++ beBytes 4 (s.obj O.HEARTH_WRAP) ++ beBytes 4 (s.obj O.F0_CNT) ++
    beBytes 8 (s.obj O.HEARTH_RATE) ++ beBytes 8 (s.obj O.HEARTH_OFFSET))

/-- A servo update (R158, R181, R498). -/
def State.servoUpdate (s : State) : State :=
  if !s.hearth.running then s else (forEach (List.range 48) (fun s p => s.takeAsym p) s).servoRun.timePacket

def execServoUpdate (s : State) : Host.Outcome State Fault Refusal := run s (·.servoUpdate)

/-- f(λ) of R175 as a fraction: (λ² − λ0²)² over λ². -/
def lambdaF (l0 l : Int) : Int × Int := ((l ^ 2 - l0 ^ 2) ^ 2, l ^ 2)

/-- The ranged figures of R175: ΔA_r and the predicted Δδ_f, 2^-24 ns; none where they cannot be formed. -/
def State.ranged (s : State) (p : Nat) (dDgd : Int) : Option (Int × Int) :=
  let lam (o : Obj) (n : Nat) : Int := s.obj o (n + 1)
  let l0 : Int := s.obj O.FIBRE_LAMBDA0 (p + 1)
  let li := lam O.LANE_LAMBDA_RX (s.timingRx p)
  let lo := lam O.LANE_LAMBDA_TX (s.timingLane p)
  let la := lam O.LANE_LAMBDA_RX (s.laneAt p 0)
  let lb := lam O.LANE_LAMBDA_RX (s.laneAt p 1)
  if li = 0 ∨ lo = 0 ∨ la = 0 ∨ lb = 0 then none else
  let fi := lambdaF l0 li
  let fo := lambdaF l0 lo
  let fa := lambdaF l0 la
  let fb := lambdaF l0 lb
  let ab := fb.1 * fa.2 - fa.1 * fb.2
  if ab = 0 then none else
  let io := fi.1 * fo.2 - fo.1 * fi.2
  let ng : Int := s.obj O.FIBRE_GROUP_INDEX (p + 1)
  let s0 : Int := s.obj O.FIBRE_S0 (p + 1)
  let sum := 16 * ng * 10 ^ 18 * fi.2 * fo.2 + 299792458 * s0 * (fi.1 * fo.2 + fo.1 * fi.2)
  some (ratRound (dDgd * io * fa.2 * fb.2) (ab * fi.2 * fo.2),
    ratRound (dDgd * sum * fa.2 * fb.2) (299792458 * s0 * ab * fi.2 * fo.2))

/-- Ranging falls back to ROUTE_HOLD (R176, R187). -/
def State.rangeFail (s : State) (p reason : Nat) : State :=
  let v := s.obj O.PORT_ROUTE_STATUS (p + 1)
  let s := s.setObj O.PORT_ROUTE_STATUS (v % 4096 + reason * 4096) (p + 1)
  (s.raise O.PORT_TIME_FLAGS 4 (p + 1)).setObj O.PORT_ROUTE_STATE 3 (p + 1)

/-- DGD of the rounds of a second: the arrival on POS 1 less that on POS 0, each by R147 against its own lane's record (R174). -/
def State.dgdRun (s : State) (a b : Nat) : List (LineTime × LineTime) → State × List Int
  | [] => (s, [])
  | r :: rs =>
    let s := (s.sampled a r.1.codes).sampled b r.2.codes
    let d := tdiff56 (s.arrival b r.2.tw) (s.arrival a r.1.tw)
    let x := s.dgdRun a b rs
    (x.1, d :: x.2)

/-- Ranging derives the asymmetry from DGD before and after the step (R175, R176). -/
def State.deriveRange (s : State) (p : Nat) (dgd : Int) : State :=
  let s := s.modPort p fun t => { t with rangedAt := some s.hearth.cycles }
  match (s.port p).dgdPrev with
  | none => s.rangeFail p 2
  | some d0 =>
    match s.ranged p (dgd - d0) with
    | none => s.rangeFail p 2
    | some (da, pred) =>
      let dd := s.routeDelta p
      if 200 * mag (dd - pred) ≤ mag pred + 200 * 2 ^ 24 then
        (s.addRoute p (da - ratRound (s.alpha p * dd) (2 ^ 49 + s.alpha p))).settleRoute p
      else s.rangeFail p 1

/-- A 1 s average of DGD closes (R174 to R176). Ranging takes the first whose second began after the confirmation. -/
def State.dgdAverage (s : State) (p : Nat) (rounds : List (LineTime × LineTime)) : State :=
  let ok := s.obj O.PORT_RANGE_MODE (p + 1) == 1 && s.native p && bit (s.rxAct p) 0 && bit (s.rxAct p) 1 && rounds != []
  let x := s.dgdRun (s.laneAt p 0) (s.laneAt p 1) rounds
  let dgd := meanI x.2
  let s := if ok then (x.1.modPort p fun t => { t with dgd := some dgd }).setObjI O.PORT_DGD dgd (p + 1) else s
  if s.routeState p ≠ 2 ∨ s.elapsed (s.port p).confirmAt (10 ^ 9) = false then s
  else if !ok || !s.rangeOk p then (s.modPort p fun t => { t with rangedAt := some s.hearth.cycles }).rangeFail p 2
  else s.deriveRange p dgd

def execDgdAverage (port : Fin 48) (rounds : List (LineTime × LineTime)) (s : State) : Host.Outcome State Fault Refusal :=
  runKeep s (·.dgdAverage port rounds)

/-- PORT_ROUTE_CMD with its outcome (R178, R187). -/
def State.routeStatus (s : State) (p cmd st : Nat) : State := s.cmdStatus O.PORT_ROUTE_STATUS (p + 1) cmd st

/-- APPLY_SPLIT (R178). -/
def State.cmdSplit (s : State) (p : Nat) : State :=
  if s.routeState p = 3 ∨ s.routeState p = 4 then (s.settleRoute p).routeStatus p 1 2 else s.routeStatus p 1 4

def execApplySplit (port : Fin 48) (s : State) : Host.Outcome State Fault Refusal := runKeep s (·.cmdSplit port)

/-- APPLY_FORWARD (R178). -/
def State.cmdForward (s : State) (p : Nat) : State :=
  if s.routeState p = 3 ∨ s.routeState p = 4 then (s.applyForward p).routeStatus p 2 2 else s.routeStatus p 2 4

def execApplyForward (port : Fin 48) (s : State) : Host.Outcome State Fault Refusal := runKeep s (·.cmdForward port)

/-- RESUME (R178). -/
def State.cmdResume (s : State) (p : Nat) : State :=
  if s.routeState p = 4 then (s.settleRoute p).routeStatus p 3 2 else s.routeStatus p 3 4

def execResume (port : Fin 48) (s : State) : Host.Outcome State Fault Refusal := runKeep s (·.cmdResume port)

/-- ABORT of ranging (R178, R179): in the cycle in which the average closes it loses, and ranging completes. -/
def State.cmdRouteAbort (s : State) (p : Nat) (coincident : Bool) : State :=
  if coincident ∧ (s.port p).rangedAt = some s.hearth.cycles then s.abortLate O.PORT_ROUTE_STATUS (p + 1) 4 O.PORT_TIME_FLAGS 5 (p + 1)
  else if s.routeState p = 2 then (s.setObj O.PORT_ROUTE_STATE 3 (p + 1)).routeStatus p 4 3
  else s.routeStatus p 4 4

def execRouteAbort (port : Fin 48) (coincident : Bool) (s : State) : Host.Outcome State Fault Refusal :=
  runKeep s (·.cmdRouteAbort port coincident)

/-- A code that PORT_ROUTE_CMD does not know (R178). -/
def State.cmdRouteOther (s : State) (p code : Nat) : State := s.routeStatus p code 4

/-- A write of PORT_ASYM_CAL (R181); it takes effect at the next servo update. -/
def execPortAsymCalWrite (port : Fin 48) (value : BitVec 32) (s : State) : Host.Outcome State Fault Refusal :=
  runKeep s fun s =>
    if value.toInt.natAbs ≤ 1000000 then s.setObj O.PORT_ASYM_CAL value.toNat (port + 1) else s

/-- PORT_ASYM_ROUTE may be written only in WAIT_SW, or in NORMAL on a port that is not the source (R178). -/
def State.asymRouteOk (s : State) (p : Nat) : Bool := s.routeState p == 4 || (s.routeState p == 0 && s.source != p)

def execPortAsymRouteWrite (port : Fin 48) (value : BitVec 64) (s : State) : Host.Outcome State Fault Refusal :=
  runKeep s fun s => if s.asymRouteOk port then s.setObj O.PORT_ASYM_ROUTE value.toNat (port + 1) else s

/-- A write of PORT_RANGE_MODE: BIDI is refused on a port that fails the tests of R174 (R186). -/
def State.rangeModeOk (s : State) (p v : Nat) : Bool := v == 0 || (v == 1 && s.rangeOk p)

def execPortRangeModeWrite (port : Fin 48) (value : Byte) (s : State) : Host.Outcome State Fault Refusal :=
  runKeep s fun s => if s.rangeModeOk port value.toNat then s.setObj O.PORT_RANGE_MODE value.toNat (port + 1) else s

/-- θ of a PPS_IN edge (R167): the edge less EXTREF_DELAY and the nearest multiple of 10^9 ns. -/
def State.ppsTheta (s : State) (t : Time56) : Int :=
  let e := s.extended t
  let sec : Int := 10 ^ 9 * 2 ^ 24
  e - (roundDiv e sec * sec + psToU (s.objI O.EXTREF_DELAY))

/-- A candidate of EXTREF ends (R167). -/
def State.setExtCand (s : State) (l : List Int) : State := s.modServo fun m => { m with extCand := l }

/-- θ of EXTREF judged afresh (R155, R167). -/
def State.extFresh (s : State) (theta : Int) (res : Option Int) : State :=
  match res with
  | some r => if within r s.thetaLimit then s.servoTheta theta false false else s.setExtCand [r]
  | none => s.servoTheta theta false false

/-- θ of EXTREF is classified on θ alone (R156, R167). -/
def State.extClassify (s : State) (theta : Int) : State :=
  let res := s.thetaPred.map (theta - ·)
  match s.servo.extCand with
  | [] => s.extFresh theta res
  | l =>
    let r := res.getD 0
    let items := r :: l
    if res.isNone ∨ within r s.thetaLimit ∨ ¬ inBand items (s.obj O.STEP_MIN) then (s.setExtCand []).extFresh theta res
    else if items.length < 9 then s.setExtCand items
    else (s.setExtCand []).servoTheta theta true (!within r (s.obj O.JUMP_LIMIT))

/-- An edge on PPS_IN (R163, R167, R241): captured on channel 16, and the capture is the EXTREF input. -/
def State.ppsIn (s : State) (t : Time56) : State :=
  let ok := s.captured 16 t true
  let s := s.capture 16 t true
  let t := BitVec.ofInt 56 (s.capTime 16 t)
  if !ok then s else
  let s := s.modServo fun m => { m with ppsAt := some s.hearth.cycles, ppsSince := true }
  if s.obj O.EXTREF_MODE ≠ 1 then s else
  let theta := s.ppsTheta t
  let s := s.modServo fun m => { m with extTh := theta }
  (if s.source = extref then (s.modServo fun m => { m with acceptN := m.acceptN + 1 }).extClassify theta else s).select

def execPpsInEdge (t : Time56) (s : State) : Host.Outcome State Fault Refusal := run s (·.ppsIn t)

/-- An edge on a TDC channel (R237 to R242): channel 16 is PPS_IN and 17 MARK_IN, of which rising edges alone count. -/
def execTioCapture (c : Fin 18) (t : Time56) (rising : Bool) (s : State) : Host.Outcome State Fault Refusal :=
  if c.val = 16 then run s fun s => if rising then s.ppsIn t else s
  else runKeep s fun s => if c.val = 17 then (if rising then s.markIn t else s) else s.capture c t rising

/-- A port runs a boundary clock (R182). -/
def State.bcPort (s : State) (p : Nat) : Bool := !s.native p && (s.lport p).up && s.obj O.PORT_PTP_MODE (p + 1) == 2

/-- A PTP message of this part leaves on a port: in PTP_DOMAIN, on the port's transport (R182 to R184). -/
def State.ptpEmit (s : State) (p kind : Nat) (fields : List Nat) : State :=
  s.emit (.ptp p kind (s.obj O.PTP_DOMAIN) (s.obj O.PTP_TRANSPORT (p + 1)) fields)

/-- PTP time of a local time: extended local time plus PTP_EPOCH, ns and fraction of 2^-24 ns (R185). -/
def State.ptpTime (s : State) (t : Time56) : List Nat :=
  let e := s.extended t + s.objI O.PTP_EPOCH * 2 ^ 24
  [(e / 2 ^ 24).toNat, (e % (2 ^ 24 : Int)).toNat]

/-- The sequenceId of the next message of a port. -/
def State.ptpNext (s : State) (p : Nat) : State := s.modPort p fun t => { t with ptpSeq := (t.ptpSeq + 1) % 65536 }

/-- A Sync falls due on a master port (R184): one-step, with its departure time as originTimestamp. -/
def State.ptpSync (s : State) (p : Nat) : State :=
  if !s.bcPort p || (s.port p).ptpSlave then s
  else (s.ptpEmit p 0 ((s.port p).ptpSeq :: s.ptpTime (s.departs p))).ptpNext p

def execPtpSyncSend (port : Fin 48) (s : State) : Host.Outcome State Fault Refusal := runKeep s (·.ptpSync port)

/-- The part is traceable to a class-0 source at rank 0 (R184, R401). -/
def State.traceable (s : State) : Bool :=
  decide (s.hearth.state = .track) &&
    (if s.rank = 0 then s.source == extref else decide (s.source < 48) && bit (advField (s.advert s.source) 7 1) 1)

/-- clockClass (R184). -/
def State.clockClass (s : State) : Nat :=
  match s.hearth.state with
  | .track => if s.traceable then 6 else 248
  | .holdover | .qualify | .refused => 7
  | _ => 248

/-- The smallest clockAccuracy of IEEE 1588-2019 whose bound is not below a bound in ps; 0xFE unknown (R184). -/
def clockAccuracy (ps : Nat) : Nat :=
  let steps : List (Nat × Nat) :=
    [(0x17, 1), (0x19, 10), (0x1A, 25), (0x1B, 100), (0x1C, 250), (0x1D, 1000), (0x1E, 2500), (0x1F, 10000),
     (0x20, 25000), (0x21, 100000), (0x22, 250000), (0x23, 10 ^ 6), (0x24, 2500000), (0x25, 10 ^ 7), (0x26, 25 * 10 ^ 6),
     (0x27, 10 ^ 8), (0x28, 25 * 10 ^ 7), (0x29, 10 ^ 9), (0x2A, 25 * 10 ^ 8)]
  if ps = unknownBound then 0xFE
  else if ps = 2 then 0x18
  else match steps.find? fun e => decide (ps ≤ e.2) with
    | some e => e.1
    | none => 0x2B

/-- An Announce falls due on a master port (R184, R185): sequenceId, clockClass, clockAccuracy, priority1, priority2, the PTP
timescale flag and timeSource. timeSource is stated only while PTP_EPOCH has never been set. -/
def State.ptpAnnounce (s : State) (p : Nat) : State :=
  if !s.bcPort p || (s.port p).ptpSlave then s
  else
    let set := s.servo.epochSet
    let src := if set then bits (Config.ptpField s.free).toNat 7 0 else 0xA0
    let s := if set then s.fresh else s
    (s.ptpEmit p 4 [(s.port p).ptpSeq, s.clockClass, clockAccuracy (s.obj O.ACC_BOUND), s.obj O.PTP_PRIORITY1,
      s.obj O.PTP_PRIORITY2, b2n set, src]).ptpNext p

def execPtpAnnounceSend (port : Fin 48) (s : State) : Host.Outcome State Fault Refusal := runKeep s (·.ptpAnnounce port)

/-- A Delay_Req of a slave port (R184): its departure is t3. -/
def State.ptpDelayReq (s : State) (p : Nat) : State :=
  if !s.bcPort p || !(s.port p).ptpSlave then s
  else
    let q := (s.port p).ptpSeq
    let s := s.ptpEmit p 2 [q]
    (s.modPort p fun t => { t with ptpT3 := some (q, (s.departs p).toNat) }).ptpNext p

def execPtpDelayReqSend (port : Fin 48) (s : State) : Host.Outcome State Fault Refusal := runKeep s (·.ptpDelayReq port)

/-- A Sync's departure is known (R184): the master's time with the corrections of the Sync and its Follow_Up, the local arrival, and the
extended difference of the two. -/
def State.ptpT1 (s : State) (p origin : Nat) (correction : Int) (arrival : Time56) : State :=
  let t1 : Int := (origin : Int) * 2 ^ 24 + correction * 2 ^ 8
  s.modPort p fun t =>
    { t with ptpT1 := some ((t1 % (2 ^ 56 : Int)).toNat, arrival.toNat, s.extended arrival - t1), ptpSync := none }

/-- The master of a slave port is selected or changes: its measurements begin anew (R559). -/
def State.ptpMaster (s : State) (p master : Nat) : State :=
  let t := s.port p
  if t.ptpSlave ∧ t.ptpMaster = master then s
  else s.modPort p fun t =>
    { t with ptpSlave := true, ptpMaster := master, complete := false, run := [], cand := none, ptpT1 := none, ptpSync := none, ptpT3 := none }

/-- Announce (R163, R184): the sender becomes the master, or the master is a master no more. Another sender changes nothing. -/
def State.ptpAnnounced (s : State) (p : Nat) (m : PtpMsg) : State :=
  if m.slave then s.ptpMaster p m.source.toNat
  else if (s.port p).ptpMaster = m.source.toNat then s.modPort p fun t => { t with ptpSlave := false } else s

/-- A Delay_Resp of the master completes an exchange (R184); with it the difference of extended local and master time is known, less the
delay (δ + A) / 2 of the Sync (R185). -/
def State.ptpExchange (s : State) (p : Nat) (t1 t2 t3 : Nat) (diff : Int) (m : PtpMsg) : State :=
  let t4 := ((m.origin : Int) * 2 ^ 24 - m.correction * 2 ^ 8) % (2 ^ 56 : Int)
  let back := tdiff56 (BitVec.ofNat 56 t2) (BitVec.ofNat 56 t1)
  let fwd := tdiff56 (BitVec.ofInt 56 t4) (BitVec.ofNat 56 t3)
  let s := s.modPort p fun t => { t with ptpT3 := none }
  let full := diff - roundDiv (back + fwd + s.asymOf p (back + fwd)) 2
  let s := if s.source = p ∨ s.source = noSource then s.modServo fun q => { q with ptpFull := full } else s
  s.exchange p p fwd back

/-- A PTP message reaches the part's PTP function (R182 to R184): one of PTP_DOMAIN on the port's own transport; a slave takes those of its
master alone. Its arrival is taken against the record of the port's lowest lane (R149, R151). -/
def State.ptpIn (s : State) (p : Nat) (m : PtpMsg) (time : Time56) : State :=
  if !s.bcPort p || m.domain.toNat != s.obj O.PTP_DOMAIN || m.transport.toNat != s.obj O.PTP_TRANSPORT (p + 1) then s else
  let t := s.port p
  let arrival := time - BitVec.ofNat 56 (s.obj O.LINK_RX_LAT (p + 1))
  let mine := t.ptpSlave && m.source.toNat == t.ptpMaster
  match m.kind with
  | .announce => (s.ptpAnnounced p m).select
  | .sync =>
    if !mine then s
    else if m.twoStep then s.modPort p fun t => { t with ptpSync := some (m.seq.toNat, arrival.toNat, m.correction) }
    else s.ptpT1 p m.origin m.correction arrival
  | .followUp =>
    match t.ptpSync with
    | some (q, a, c) => if mine ∧ q = m.seq.toNat then s.ptpT1 p m.origin (c + m.correction) (BitVec.ofNat 56 a) else s
    | none => s
  | .delayReq =>
    if t.ptpSlave then s
    else s.ptpEmit p 3 (m.seq.toNat :: s.ptpTime arrival ++ [ofSigned 64 m.correction, m.source.toNat])
  | .delayResp =>
    match t.ptpT1, t.ptpT3 with
    | some (t1, t2, diff), some (q, t3) => if !mine || q != m.seq.toNat then s else s.ptpExchange p t1 t2 t3 diff m
    | _, _ => s
  | .management | .signalling => s

def execPtpMessageReceive (port : Fin 48) (msg : PtpMsg) (arrival : Time56) (s : State) : Host.Outcome State Fault Refusal :=
  run s (·.ptpIn port msg arrival)

/-- PORT_TIME_FLAGS as read: SOURCE and ALTERNATE are live (R188). -/
def State.timeFlags (s : State) (p : Nat) : Nat :=
  s.obj O.PORT_TIME_FLAGS (p + 1) + 2 * b2n (s.obj O.UPSTREAM_ALT == p) + b2n (s.source == p)

end Sys2Proof.Machine
end

