-- ==== Sys2Proof/Machine/Hierarchy.lean ====
section
/-! DEFINITION. The hierarchy (R399 to R412): advertisements, root keys and ranks, provisional roots, discovery and device
IDs, DEV_PORT, the endpoint registry and the table entries that E9 keeps from it. -/

namespace Sys2Proof.Machine

/-- A manager that counts as root: active, standby, syncing, fenced or alone (R403). -/
def State.managerRoot (s : State) : Bool := s.manager && s.obj O.TWIN_STATE != 1

/-- A root key as one number, the lower the better; class 3 stands for none (R402). -/
def rootKey (cls id : Nat) : Nat := cls * 2 ^ 64 + id % 2 ^ 64

/-- The part's own root key (R401, R405). -/
def State.ownKey (s : State) : Nat :=
  if s.manager then rootKey 0 s.twin.pair else if s.hier.prov then rootKey 1 s.fuses.serial else rootKey 3 0

/-- The root key that an advertisement carries (R401). -/
def advKey (b : Bytes) : Nat := if advField b 0 1 = 3 then rootKey 3 0 else rootKey (advField b 0 1) (advField b 8 8)

/-- The ports with a fresh advertisement (R400). -/
def State.freshPorts (s : State) : List Nat := (List.range 48).filter fun p => s.advert p != []

/-- The least of a list of keys and `k`. -/
def minKey (k : Nat) (l : List Nat) : Nat := l.foldl min k

/-- The best root key seen (R402). -/
def State.bestKey (s : State) : Nat := minKey s.ownKey (s.freshPorts.map fun p => advKey (s.advert p))

/-- The adopted root key. -/
def State.adoptedKey (s : State) : Nat := rootKey s.hier.rootClass s.hier.rootId

/-- ELIGIBLE (R404). A servo that has not started counts as FREE (log entry 15). -/
def State.eligibleUp (s : State) : Bool :=
  !s.observer && s.rank != 0xFF && !((s.hearth.state == .free || s.hearth.state == .off) && s.rank != 0)

/-- HIER_ADVERT (R401). An unranked part advertises ROOT_CLASS 3 (R403). -/
def State.advertOwn (s : State) : Bytes :=
  let ranked := s.rank != 0xFF
  beBytes 1 (if ranked then s.hier.rootClass else 3) ++ beBytes 1 s.rank ++ beBytes 1 s.hearth.state.code ++
    beBytes 1 s.roleCode ++ beBytes 2 s.deviceId ++ beBytes 1 (s.obj O.TWIN_STATE) ++
    beBytes 1 (2 * b2n s.traceable + b2n s.eligibleUp) ++ beBytes 8 (if ranked then s.hier.rootId else 0) ++
    beBytes 8 s.fuses.serial ++ beBytes 4 (s.obj O.EP_REG_VER) ++ [0, 0, 0, 0]

/-- HIER_NEIGH (R431). -/
def State.neighBlob (s : State) : Bytes :=
  (List.range 48).flatMap fun p => if s.advert p = [] then List.replicate 32 0 else s.advert p

/-- The ports that the poll reads (R400). -/
def State.polled (s : State) (p : Nat) : Bool := s.native p && (s.lport p).up && !s.epPort p

/-- What a poll finds at one port: the advertisement read, or one more poll without an answer; three in a row make the peer
stale (R400). -/
def State.pollPort (s : State) (p : Nat) (a : Option Bytes) : State :=
  s.modHier fun h =>
    match a with
    | some b => { h with neigh := Tab.set h.neigh [] p b, missed := Tab.set h.missed 0 p 0 }
    | none =>
      let m := min 3 (Tab.get h.missed 0 p + 1)
      { h with missed := Tab.set h.missed 0 p m, neigh := if m = 3 then Tab.set h.neigh [] p [] else h.neigh }

/-- The advertisements that a poll read, in ascending order of the ports that answered. -/
def State.pollAll (s : State) (answered : Nat) : List Nat → List Bytes → State
  | [], _ => s
  | p :: ps, l =>
    if bit answered p ∧ s.polled p then
      match l with
      | b :: r => (s.pollPort p (if b.length = 32 then some b else none)).pollAll answered ps r
      | [] => (s.pollPort p none).pollAll answered ps []
    else (s.pollPort p none).pollAll answered ps l

/-- The rank (R403). -/
def State.rankNow (s : State) : Nat :=
  if s.managerRoot || s.hier.prov then 0 else
  let rs := (s.freshPorts.filter fun p =>
    advKey (s.advert p) == s.adoptedKey && bit (advField (s.advert p) 7 1) 0 && decide (advField (s.advert p) 1 1 ≤ 7)).map
      fun p => advField (s.advert p) 1 1
  if s.hier.rootClass = 3 ∨ rs = [] then 0xFF else 1 + minKey 7 rs

/-- The rank takes a value, with RANK_CHANGE where it differs (R403). -/
def State.setRank (s : State) (r : Nat) : State :=
  if s.rank = r then s else (s.setObj O.HIER_RANK r).raise O.HIER_FLAGS 1

/-- A root key is adopted, with ROOT_CHANGE where it differs (R405). -/
def State.adopt (s : State) (k : Nat) : State :=
  if s.adoptedKey = k then s
  else (s.modHier fun h => { h with rootClass := k / 2 ^ 64, rootId := k % 2 ^ 64 }).raise O.HIER_FLAGS 2

/-- The role of provisional root is given up, the best key is adopted and the rank follows (R402, R403, R405). -/
def State.rerank (s : State) : State :=
  let s := if s.hier.prov && decide (s.bestKey < s.ownKey) then s.modHier fun h => { h with prov := false } else s
  let s := s.adopt s.bestKey
  s.setRank s.rankNow

/-- The key of an endpoint's entry (R328). -/
def epKey (v e : Nat) : Nat := bits v 14 7 * 2 ^ 17 + e

/-- Ring 0 may change the entry at a location: its bucket is not locked by another ring, and it reads without an uncorrectable error
(R352, R358). -/
def State.epMay (s : State) (l : Nat) : Bool := s.locTest 0 l false true == 0 && !s.tables.emBad.contains l

/-- A table entry is deleted, if it is there (R336). -/
def State.epDelete (s : State) (key : Nat) : State :=
  match s.emFind 1 key with
  | some l => if s.epMay l then ((s.setEm l 0).drainBack l).tableCommit else s
  | none => s

/-- The UNICAST port of an endpoint's entry (R412). -/
def State.epOut (s : State) (v : Nat) : Option Nat :=
  if s.deviceId ≠ 0 ∧ bits v 30 21 = s.deviceId then some (bits v 20 15)
  else if s.devPort (bits v 30 21) < 48 then some (s.devPort (bits v 30 21)) else s.upstream

/-- The entry of one endpoint is brought up to date, through ring 0 (R412). `old` is the registry word it was made from. An entry that
stands as it should is no difference, and raises nothing. -/
def State.epSync (s : State) (old v e : Nat) : State :=
  let s := if bit old 31 ∧ (¬ bit v 31 ∨ epKey old e ≠ epKey v e) then s.epDelete (epKey old e) else s
  if !bit v 31 then s else
  let same := match s.epOut v, s.emFind 1 (epKey v e) with
    | some p, some l => decide (emResult (s.em l) = p) && bit (s.em l) 125
    | none, none => true
    | _, _ => false
  let here := decide (s.deviceId ≠ 0) && bits v 30 21 == s.deviceId
  let s := if (!same || old != v) && here && (!(s.lport (bits v 20 15)).up || !s.epPort (bits v 20 15)) then s.raise O.HIER_FLAGS 3 else s
  if same then s else
  match s.epOut v with
  | none => s.epDelete (epKey v e)
  | some p =>
    match s.emFind 1 (epKey v e) with
    | some l => if s.epMay l then (s.setEm l (setBit (setBit (emSetResult (s.em l) p) 125 true) 124 false)).tableCommit else s
    | none =>
      match s.emPlace 0 s.placeSet (setBit (emMake 1 (epKey v e) p) 125 true) true with
      | (some _, s) => s.tableCommit
      | (none, s) => (s.raise O.TABLE_FLAGS 2).raise O.TABLE_FLAGS 3

/-- E9 applies the difference between the table and the registry (R412): `old` is the registry before. -/
def State.regSync (s : State) (old : Tab Nat) : State :=
  forEach (dedup (old.map (·.1) ++ s.hier.registry.map (·.1)))
    (fun s e => s.epSync (Tab.get old 0 e) (Tab.get s.hier.registry 0 e) e) s

/-- The registry as a table from the octets of EP_REGISTRY (R410). -/
def registryFrom : Nat → Bytes → Tab Nat → Tab Nat
  | e, b0 :: b1 :: b2 :: b3 :: r, t =>
    registryFrom (e + 1) r (Tab.set t 0 e (let v := ofBe [b0, b1, b2, b3]; v - v % 128))
  | _, _, t => t

/-- EP_REGISTRY takes a new value, and E9 follows (R410, R412). -/
def State.setRegistry (s : State) (v : Bytes) : State :=
  let old := s.hier.registry
  (s.modHier fun h => { h with registry := registryFrom 0 v [] }).regSync old

/-- EP_REGISTRY as a BLOB of 524,288 octets (R410). -/
def State.registryBlob (s : State) : Blob :=
  ⟨524288, s.hier.registry.foldl (fun t e => Tab.setRun t 0 (4 * e.1) (beBytes 4 e.2)) []⟩

/-- HIER_ID_MAP as a table from its octets (R431). -/
def idMapFrom : Nat → Bytes → Tab Nat → Tab Nat
  | d, b0 :: b1 :: b2 :: b3 :: b4 :: b5 :: b6 :: b7 :: r, t =>
    idMapFrom (d + 1) r (Tab.set t 0 d (ofBe [b0, b1, b2, b3, b4, b5, b6, b7]))
  | _, _, t => t

/-- HIER_ID_MAP as a BLOB of 8,192 octets (R431). -/
def State.idMapBlob (s : State) : Blob :=
  ⟨8192, s.hier.idMap.foldl (fun t e => Tab.setRun t 0 (8 * e.1) (beBytes 8 e.2)) []⟩

/-- DEV_PORT as a BLOB (R431). -/
def State.devPortBytes (s : State) : Bytes := (List.range 1024).map fun d => BitVec.ofNat 8 (s.devPort d)

/-- A transfer of the registry is due where the upstream holds another version; a manager's changes only by writes and by its
twin's streams (R411). -/
def State.maybeFetch (s : State) : State :=
  match s.upstream with
  | none => s
  | some p =>
    let v := advField (s.advert p) 24 4
    if s.manager ∨ s.advert p = [] ∨ v = s.obj O.EP_REG_VER then s
    else (s.modHier fun h => { h with fetching := true, fetchVer := v }).request [p] 5 addrHere 1
      (BlockReadItem.bytes ⟨BitVec.ofNat 16 O.EP_REGISTRY.index, 0, 0, 1000⟩)

/-- No fresh neighbour advertises a ranked root, nor a root key better than the part's own provisional one (R405). -/
def State.alone (s : State) : Bool :=
  !s.freshPorts.any fun p =>
    (advField (s.advert p) 0 1 != 3 && decide (advField (s.advert p) 1 1 ≤ 8)) || decide (advKey (s.advert p) < rootKey 1 s.fuses.serial)

/-- The time since which the conditions of R405 hold, as the polls see them. -/
def State.noteAlone (s : State) : State :=
  s.modHier fun h => { h with aloneAt := if s.alone then h.aloneAt.or (some s.hearth.cycles) else none }

/-- The neighbour poll (R400 to R405, R411): the READs go out with DST HERE, what answered is taken, key and rank are
recomputed, and E9 follows changes of UPSTREAM_PORT (log entry 15). -/
def State.neighbourPoll (s : State) (answered : Nat) (adverts : List Bytes) : State :=
  let s := s.request ((List.range 48).filter s.polled) 1 addrHere 1
    (FalriItem.bytes ⟨BitVec.ofNat 16 O.HIER_ADVERT.index, 0, []⟩)
  let s := ((s.pollAll answered (List.range 48) adverts).rerank).noteAlone.maybeFetch
  let up := s.upstream.getD 0xFF
  if up = s.hier.upSeen then s else (s.modHier fun h => { h with upSeen := up }).regSync s.hier.registry

def execNeighbourPoll (answered : BitVec 48) (adverts : List Bytes) (s : State) : Host.Outcome State Fault Refusal :=
  runKeep s fun s => if s.engUp 9 then s.neighbourPoll answered.toNat adverts else s

/-- The whole transfer has completed (R411). -/
def State.registryFetched (s : State) (v : Bytes) : State :=
  if !s.hier.fetching then s else
  ((s.setRegistry v).setObj O.EP_REG_VER s.hier.fetchVer).modHier fun h => { h with fetching := false }

def execRegistryFetchDone (registry : Bytes) (s : State) : Host.Outcome State Fault Refusal := runKeep s (·.registryFetched registry)

/-- An AUTO part becomes a provisional root once the conditions of R405 have held for 3 s. -/
def State.provRoot (s : State) : State :=
  let held := match s.hier.aloneAt with | some t => s.elapsed t 3000000000 | none => false
  if s.modeStrap = 2 ∧ ¬ s.hier.prov ∧ s.alone ∧ held = true then
    ((s.modHier fun h => { h with prov := true }).adopt (rootKey 1 s.fuses.serial)).setRank 0
  else s

def execProvRoot (s : State) : Host.Outcome State Fault Refusal := runKeep s (·.provRoot)

/-- DISCOVER with DST ALL, from the active manager (R406, R418). -/
def State.discoverSend (s : State) : State := if s.activeManager then s.request s.lowerPorts 8 addrAll 0 [] else s

def execDiscoverSend (s : State) : Host.Outcome State Fault Refusal :=
  runKeep s fun s => if s.engUp 9 then s.discoverSend else s

/-- The payload of a DISCOVER response (R378). -/
def State.discoverPayload (s : State) : Bytes :=
  beBytes 8 s.fuses.serial ++ beBytes 8 (s.obj O.MAC_ACT) ++ beBytes 4 0x485000A2 ++ beBytes 2 s.deviceId ++
    beBytes 1 (s.obj O.CHAIN_ADDR_ACT) ++ beBytes 1 s.modeStrap

/-- The ID that HIER_ID_MAP holds for a SERIAL, else the lowest free one from 3 to 1,023 (R408). -/
def State.idFor (s : State) (serial : Nat) : Option Nat :=
  match ((List.range 1021).map (· + 3)).find? fun d => Tab.get s.hier.idMap 0 d == serial with
  | some d => some d
  | none => ((List.range 1021).map (· + 3)).find? fun d => Tab.get s.hier.idMap 0 d == 0

/-- An ID is assigned to a SERIAL, recorded in the map, and ASSIGN_ID goes out with DST ALL; ID_FULL where none is free
(R408). -/
def State.assignFor (s : State) (serial : Nat) : State :=
  match s.idFor serial with
  | none => s.raise O.HIER_FLAGS 5
  | some d =>
    (s.modHier fun h => { h with idMap := Tab.set h.idMap 0 d serial }).request s.lowerPorts 9 addrAll 1
      (beBytes 8 serial ++ beBytes 2 d)

/-- The manager receives a DISCOVER response (R408, R409). Where two report one ID, each SERIAL that the map does not hold for
it is assigned anew. -/
def State.discovered (s : State) (serial dev : Nat) : State :=
  if !s.activeManager then s
  else if dev = 0 then s.assignFor serial
  else
    let prev := Tab.get s.hier.reports 0 dev
    let s := s.modHier fun h => { h with reports := Tab.set h.reports 0 dev serial }
    if prev = 0 ∨ prev = serial then s else
    forEach ([prev, serial].filter fun q => Tab.get s.hier.idMap 0 dev != q) (fun s q => s.assignFor q) (s.raise O.HIER_FLAGS 4)

def execDiscoverResponse (serial : BitVec 64) (device : BitVec 16) (s : State) : Host.Outcome State Fault Refusal :=
  runKeep s (·.discovered serial.toNat device.toNat)

/-- DEV_PORT of a device takes a value, and E9 follows the change (R407, R412). -/
def State.setDevPort (s : State) (d p : Nat) : State :=
  if Tab.get s.hier.devPort 0xFF d = p then s
  else (s.modHier fun h => { h with devPort := Tab.set h.devPort 0xFF d p }).regSync s.hier.registry

/-- A Falri message with SRC of KIND DEVICE from a peer of higher rank teaches its port (R407). -/
def State.learnDev (s : State) (path src : Nat) : State :=
  if path < 48 ∧ s.native path ∧ s.peerHigher path ∧ addrKind src = 0 ∧ addrValue src ≠ 0 then
    (s.modHier fun h => { h with devAt := Tab.set h.devAt 0 (addrValue src) s.hearth.cycles }).setDevPort (addrValue src) path
  else s

/-- An entry that was not refreshed within 3 × DISC_INTERVAL returns to 0xFF (R407). -/
def execDevPortExpire (device : BitVec 10) (s : State) : Host.Outcome State Fault Refusal :=
  runKeep s fun s =>
    if s.elapsed (Tab.get s.hier.devAt 0 device.toNat) (3000000 * s.obj O.DISC_INTERVAL) then s.setDevPort device.toNat 0xFF else s

/-- The part takes a device ID (R408). Its own DEV_PORT byte follows, and E9 with it (R412). -/
def State.takeId (s : State) (d : Nat) : State := ((s.setObj O.DEVICE_ID d).raise O.HIER_FLAGS 0).regSync s.hier.registry

end Sys2Proof.Machine
end

