-- ==== Sys2Proof/Machine/Observation.lean ====
section
/-! DEFINITION. Observation (R486 to R505): SNAP_CMD, the snapshots' events, precise samples, the Lantern port's sending, and the
test access port. -/

namespace Sys2Proof.Machine

/-- SNAP_CMD ARM (R486, R504). -/
def State.snapArm (s : State) : State :=
  if s.status O.SNAP_STATUS = 1 then s
  else if tdiff56 (BitVec.ofNat 56 (s.obj O.SNAP_AT / 256)) s.now < 1000 * 2 ^ 24 then s.cmdStatus O.SNAP_STATUS 0 1 6
  else (s.modSnap fun q => { q with armed := true }).cmdStatus O.SNAP_STATUS 0 1 1

def execSnapArm (s : State) : Host.Outcome State Fault Refusal := runKeep s (·.snapArm)

/-- The armed lattice edge is reached: that of the own F0 edge nearest SNAP_AT − F0_SKEW (R486). One that lies back is not waited for. -/
def State.toSnapEdge (s : State) : State :=
  let e := s.nearestOwn (s.nearNow (BitVec.ofNat 56 (s.obj O.SNAP_AT / 256)) - s.objI O.F0_SKEW)
  s.runToF0 (max e (s.obj O.F0_CNT)).toNat

/-- SNAP_CMD CANCEL (R490): `coincident` says that it is recorded in the HEARTH cycle that contains S. -/
def State.snapCancel (s : State) (coincident : Bool) : State :=
  if !s.snap.armed then s.cmdStatus O.SNAP_STATUS 0 2 4
  else if coincident then
    ((s.toSnapEdge.cmdStatus O.SNAP_STATUS 0 2 1).takeSnap 1 0).modSnap fun q => { q with late := q.gathering.isSome }
  else (s.modSnap fun q => { q with armed := false }).cmdStatus O.SNAP_STATUS 0 2 3

def execSnapCancel (coincident : Bool) (s : State) : Host.Outcome State Fault Refusal := runKeep s (·.snapCancel coincident)

/-- Another code of SNAP_CMD: refused (log entry 18). -/
def State.snapOther (s : State) (code : Nat) : State :=
  if s.status O.SNAP_STATUS = 1 then s else s.cmdStatus O.SNAP_STATUS 0 code 4

/-- The armed lattice edge is reached (R486): the time runs to it. -/
def execLocalSnapshot (s : State) : Host.Outcome State Fault Refusal :=
  runKeep s fun s => if s.snap.armed then s.toSnapEdge.takeSnap 1 0 else s

/-- SNAPSHOT, a fast command (R244, R487). -/
def execSnapshot (body : Body) (s : State) : Host.Outcome State Fault Refusal :=
  runKeep s fun s => s.execFast body 6 fun _ s => s.takeSnap 2 (cmdArg body)

/-- The gathering is complete (R489, R490). -/
def State.snapComplete (s : State) : State :=
  match s.snap.gathering with
  | none => s
  | some (img, t) =>
    let late := s.snap.late
    let s := (s.modSnap fun q => { q with gathering := none, late := false }).setBlob O.SNAP_DATA (Blob.of img)
    let s := ((s.setObj O.SNAP_TIME t).setObj O.SNAP_TAG (octets img 20 4)).setObj O.SNAP_COUNT (s.obj O.SNAP_COUNT + 1)
    let s := (s.raise O.OBS_FLAGS 0).lanternPush 5 (img.take 32)
    if late then s.abortLate O.SNAP_STATUS 0 2 O.OBS_FLAGS 2
    else s.endStatus O.SNAP_STATUS 0 (if s.snap.armed then 1 else 2)

def execSnapComplete (s : State) : Host.Outcome State Fault Refusal := runKeep s (·.snapComplete)

/-- A sample record (R495). -/
def State.sampleRecord (s : State) (e : Nat) (v : Sample) : Bytes :=
  beBytes 4 v.pc.toNat ++ beBytes 4 s.ns ++ beBytes 2 v.lat.toNat ++ beBytes 1 v.cat.toNat ++
    beBytes 1 (e * 16 + 8 * b2n v.mispred + 4 * b2n v.trap + 2 * b2n v.irq) ++ beBytes 4 v.addr.toNat

/-- A precise sample (R494): none where sampling is disabled, or the engine does not run. -/
def State.preciseSample (s : State) (e : Nat) (v : Sample) : State :=
  if s.obj O.SAMPLE_PERIOD (e + 1) = 0 ∨ s.engState e ≠ 1 then s else
  let r := s.sampleRecord e v
  let d := s.obj O.SAMPLE_DEST (e + 1)
  let s :=
    if d = 1 then s
    else if (s.eng e).samples.length < 256 then s.modEng e fun g => { g with samples := g.samples ++ [r] }
    else (s.count O.SAMPLE_LOST (e + 1)).raise O.OBS_FLAGS 3
  if d = 0 then s else s.lanternPush 2 r

def execPreciseSample (e : Fin 12) (sample : Sample) (s : State) : Host.Outcome State Fault Refusal :=
  runKeep s (·.preciseSample e sample)

/-- A read of SAMPLE_BUF removes every queued record and returns them, oldest first (R494). -/
def State.sampleRead (s : State) (e : Nat) : Bytes × State :=
  ((s.eng e).samples.flatten, s.modEng e fun g => { g with samples := [] })

def execSampleBufRead (e : Fin 12) (s : State) : Host.Outcome State Fault Refusal :=
  runKeep s fun s => (s.sampleRead e).2.emit (.bytes (s.sampleRead e).1)

/-- The next packet leaves on LT_D; after losses it is a LOSS packet (R496 to R499). -/
def State.lanternSend (s : State) : State :=
  if s.obj O.LANTERN_EN = 0 ∨ s.power.thermtrip then s
  else if s.lantern.lost ≠ 0 then
    let b : Bytes := [0x0F, 4] ++ beBytes 4 s.lantern.lost
    ({ s with lantern := { s.lantern with lost := 0 } } : State).emit (.lantern (b ++ beBytes 1 (crc8 b)))
  else match s.lantern.fifo with
    | [] => s
    | p :: r => ({ s with lantern := { s.lantern with fifo := r } } : State).emit (.lantern p)

def execLanternSend (s : State) : Host.Outcome State Fault Refusal := runKeep s (·.lanternSend)

/-- The instruction register of the TAP takes a code; the TAP does not stand still while the part is held in reset (R500). -/
def State.setIr (s : State) (ir : Nat) : State := { s with jtag := { s.jtag with ir := ir } }

/-- BYPASS (R500): the one-bit bypass register captures 0. -/
def State.jtagBypass (s : State) : State := (s.setIr 0).emit (.jtag [false])

def execBypass (s : State) : Host.Outcome State Fault Refusal := .next s.jtagBypass

/-- IDCODE (R501): bit 0 first. -/
def execIdcode (s : State) : Host.Outcome State Fault Refusal :=
  .next ((s.setIr 1).emit (.jtag ((List.range 32).map fun i => (0x24850C27).testBit i)))

/-- SAMPLE/PRELOAD (R500): the boundary register takes what is shifted in. What is sampled depends on the pins and on the order of
the cells, which the BSDL description gives and the spec does not (log entry 3). -/
def execSamplePreload (preload : List Bool) (s : State) : Host.Outcome State Fault Refusal :=
  .next ((({ s with jtag := { ir := 2, boundary := preload }, free := s.free + preload.length } : State)).emit
    (.jtag ((List.range preload.length).map fun i => (Config.openValue (s.free + i)).getLsbD 0)))

/-- An instruction that takes effect only with RST_N low, and acts as BYPASS otherwise (R500). -/
def State.jtagTest (s : State) (ir : Nat) (rstLow drives : Bool) : State :=
  if rstLow then (s.setIr ir).emit (.pins ir (if drives then s.jtag.boundary else [])) else s.jtagBypass

def execExtest (rstLow : Bool) (s : State) : Host.Outcome State Fault Refusal := .next (s.jtagTest 3 rstLow true)

def execExtestPulse (rstLow : Bool) (s : State) : Host.Outcome State Fault Refusal := .next (s.jtagTest 4 rstLow true)

def execExtestTrain (rstLow : Bool) (s : State) : Host.Outcome State Fault Refusal := .next (s.jtagTest 5 rstLow true)

def execClamp (rstLow : Bool) (s : State) : Host.Outcome State Fault Refusal := .next (s.jtagTest 6 rstLow true)

def execHighz (rstLow : Bool) (s : State) : Host.Outcome State Fault Refusal := .next (s.jtagTest 7 rstLow false)

end Sys2Proof.Machine
end

