-- ==== Sys2Proof/Machine/Twins.lean ====
section
/-! DEFINITION. Twins (R413 to R434): heartbeats, the lease, start-up, epochs and the journal, takeover and handover. -/

namespace Sys2Proof.Machine

/-- ROLE that the twin sends (R413, R429). -/
def State.hbRole (s : State) : Nat :=
  match s.obj O.TWIN_STATE with
  | 1 => 0
  | 2 => 1
  | 3 => 2
  | 4 => if s.twin.handover then 5 else 3
  | _ => 4

/-- The HB body (R413). -/
def State.hbBody (s : State) : Nat :=
  let ep := if s.obj O.TWIN_STATE = 2 ∨ s.twin.handover then s.obj O.TWIN_EPOCH_TX else s.obj O.TWIN_EPOCH_COMMIT
  fld 117 3 s.hbRole + fld 107 10 s.deviceId + fld 91 16 s.twin.pair + fld 75 16 s.twin.leaseSeq + fld 43 32 s.ns + fld 16 27 ep

/-- One HB on TWIN_PORT and on the pins (R414, R415). From an active twin it is a renewal with the next number. -/
def State.hbSend (s : State) : State :=
  if s.twin.pair = 0 ∨ s.obj O.TWIN_STATE = 0 then s else
  let s := if s.obj O.TWIN_STATE = 2 then s.modTwin fun t =>
      { t with leaseSeq := (t.leaseSeq + 1) % 65536, sent := (((t.leaseSeq + 1) % 65536, s.hearth.cycles) :: t.sent).take 32768 } else s
  let b := s.hbBody
  let o := beBytes 13 b
  let p := s.twin.port
  let s := if p < 48 ∧ s.activeLanes p ≠ [] then (s.modLPort p fun l => { l with hb := l.hb ++ [b] }).stream p [] else s
  s.emit (.pinsHb (o ++ beBytes 2 (crc16 o)))

def execHbSend (s : State) : Host.Outcome State Fault Refusal :=
  runKeep s fun s => if s.engUp 9 then s.hbSend else s

/-- The twin becomes ACTIVE and may act (R417). -/
def State.becomeActive (s : State) : State :=
  (s.setObj O.TWIN_STATE 2).modTwin fun t =>
    { t with acting := true, ackSeq := none, sent := [], claimed := false, handover := false, lastSeg := [],
             epochNum := if 0 < tdiff t.epochNum (s.obj O.TWIN_EPOCH_COMMIT) then t.epochNum else s.obj O.TWIN_EPOCH_COMMIT }

/-- The twin stops acting in another state (R417, R418). A command that waits in its issue queue is lost (R235); CMD_ISSUE_STATUS then reads
REFUSED (log entry 59). -/
def State.twinTo (s : State) (st : Nat) : State :=
  let s := if s.tio.issueQ.isSome then (s.modTio fun x => { x with issueQ := none }).endStatus O.CMD_ISSUE_STATUS 0 4 else s
  (s.setObj O.TWIN_STATE st).modTwin fun t => { t with acting := false, lastSeg := [] }

/-- The twin becomes SYNCING (R419, R420): no epoch has committed since, and no renewal has been received. -/
def State.becomeSyncing (s : State) : State :=
  (s.twinTo 3).modTwin fun t =>
    { t with heard := false, leaseAt := s.hearth.cycles, committed := false, journal := [], handover := false }

/-- Start-up of the twin (R408, R420, R431): the objects take effect at reset, and a twinned part starts in STARTING. -/
def State.twinBoot (s : State) : State :=
  let pair := s.obj O.PAIR_ID
  let slot := s.obj O.TWIN_SLOT
  let s := s.modTwin fun t => { t with pair := pair, slot := slot, port := s.obj O.TWIN_PORT }
  let s := if s.manager then s.setObj O.DEVICE_ID (if pair = 0 then 1 else slot + 1) else s
  s.setObj O.TWIN_STATE (if pair = 0 then 0 else 1)

/-- The DEVICE of a manager's twin (R408). -/
def State.twinDevice (s : State) : Nat := if s.twin.slot = 0 then 2 else 1

/-- The shared objects as records (R422, R431). -/
def State.sharedBody (s : State) : Bytes :=
  recordBytes O.TWIN_EPOCH_MS.index 0 2 (beBytes 2 (s.obj O.TWIN_EPOCH_MS)) ++
  recordBytes O.HIER_ID_MAP.index 0 10 s.idMapBlob.bytes ++
  recordBytes O.DISC_INTERVAL.index 0 3 (beBytes 4 (s.obj O.DISC_INTERVAL)) ++
  recordBytes O.EP_REGISTRY.index 0 10 s.registryBlob.bytes ++
  recordBytes O.EP_REG_VER.index 0 3 (beBytes 4 (s.obj O.EP_REG_VER))

/-- An epoch's octets: the header of R422 and the body. -/
def epochBytes (num jseq : Nat) (body : Bytes) : Bytes :=
  let h := beBytes 4 num ++ beBytes 4 jseq ++ beBytes 4 body.length
  h ++ beBytes 4 (crc32 (h ++ body)) ++ body

/-- The BLOCK_WRITE items of a transfer to TWIN_EPOCH_RX, in segments of 1,000 octets (R376, R422). -/
def epochSegments (total : Nat) : Nat → Nat → Bytes → List Bytes
  | 0, _, _ => []
  | n + 1, off, l =>
    let last := decide (l.length ≤ 1000)
    BlockWriteItem.bytes ⟨BitVec.ofNat 16 O.TWIN_EPOCH_RX.index, 0, BitVec.ofNat 8 (b2n (off == 0) + 2 * b2n last),
      BitVec.ofNat 32 off, BitVec.ofNat 32 total, l.take 1000⟩ ::
    (if last then [] else epochSegments total n (off + 1000) (l.drop 1000))

/-- The last segment is handed to the carriage: the epoch has been sent whole (R425). -/
def State.epochFinish (s : State) : State :=
  if s.twin.lastSeg = [] then s else
  ((s.request [s.twin.port] 6 s.twinDevice 1 s.twin.lastSeg).setObj O.TWIN_EPOCH_TX s.twin.epochNum).modTwin
    fun t => { t with lastSeg := [] }

/-- An epoch is begun: every segment but the last goes out (R422). The last follows in a later DICT cycle, the decision point
of R425 (log entry 16). -/
def State.epochBegin (s : State) : State :=
  let s := s.epochFinish
  let n := (s.twin.epochNum + 1) % 2 ^ 32
  let b := epochBytes n s.twin.jseq s.sharedBody
  let segs := epochSegments b.length b.length 0 b
  let s := forEach segs.dropLast (fun s g => s.request [s.twin.port] 6 s.twinDevice 1 g) s
  s.modTwin fun t => { t with epochNum := n, lastSeg := segs.getLast?.getD [] }

/-- The streams run: a manager is ACTIVE and acting, and its twin has answered as SYNCING or STANDBY (R418, R426). -/
def State.streaming (s : State) : Bool :=
  s.manager && s.obj O.TWIN_STATE == 2 && s.twin.acting && (s.twin.peerRole == 2 || s.twin.peerRole == 3) && decide (s.twin.port < 48)

/-- The epoch that is due every TWIN_EPOCH_MS (R422). -/
def State.epochSend (s : State) : State := if s.streaming then s.epochBegin else s

def execEpochSend (s : State) : Host.Outcome State Fault Refusal :=
  runKeep s fun s => if s.engUp 9 then s.epochSend else s

/-- A shared object was written: it takes the next JSEQ and goes to the twin's TWIN_JOURNAL_RX; a BLOB longer than 1,000 octets
starts an epoch instead (R423). -/
def State.sharedWritten (s : State) (index type : Nat) (v : Bytes) : State :=
  if s.twin.pair = 0 ∨ ¬ s.manager ∨ s.obj O.TWIN_STATE ≠ 2 then s
  else if type = 10 ∧ 1000 < v.length then s.epochSend
  else
    let n := (s.twin.jseq + 1) % 2 ^ 32
    let s := s.modTwin fun t => { t with jseq := n }
    if !s.streaming then s else
    s.request [s.twin.port] 2 s.twinDevice 1
      (FalriItem.bytes ⟨BitVec.ofNat 16 O.TWIN_JOURNAL_RX.index, 0, beBytes 4 n ++ recordBytes index 0 type v⟩)

/-- A record of a stream is applied to the shared object that it names (R424). -/
def State.sharedApply (s : State) (r : Nat × Nat × Nat × Bytes) : State :=
  let v := r.2.2.2
  if r.1 = O.TWIN_EPOCH_MS.index then s.setObj O.TWIN_EPOCH_MS (ofBe v)
  else if r.1 = O.DISC_INTERVAL.index then s.setObj O.DISC_INTERVAL (ofBe v)
  else if r.1 = O.EP_REG_VER.index then s.setObj O.EP_REG_VER (ofBe v)
  else if r.1 = O.HIER_ID_MAP.index then s.modHier fun h => { h with idMap := idMapFrom 0 v [] }
  else if r.1 = O.EP_REGISTRY.index then s.setRegistry v
  else s

/-- `a` comes after `b` in 32-bit serial arithmetic. -/
def later32 (a b : Nat) : Bool := decide (0 < tdiff a b)

/-- Journal entries are applied in order up to the first gap (R424). An applied entry stays until an epoch's JSEQ_AT passes it, since a
commit starts from JSEQ_AT + 1. -/
def State.journalRun (s : State) : Nat → State
  | 0 => s
  | n + 1 =>
    let next := (s.twin.jseq + 1) % 2 ^ 32
    match s.twin.journal.find? fun e => e.1 == next with
    | none => s
    | some e =>
      let s := forEach (recordsOf e.2) (fun s r => s.sharedApply r) s
      (s.modTwin fun t => { t with jseq := next }).journalRun n

/-- A journal entry arrives at a standby or syncing twin (R424). -/
def State.journalIn (s : State) (v : Bytes) : State :=
  let q := octets v 0 4
  let st := s.obj O.TWIN_STATE
  if ¬ s.manager ∨ (st ≠ 3 ∧ st ≠ 4) ∨ v.length < 4 then s
  else if s.twin.committed ∧ !later32 q s.twin.jseq then s
  else
    let s := s.modTwin fun t => { t with journal := t.journal.filter (fun e => e.1 != q) ++ [(q, v.drop 4)] }
    if s.twin.committed then s.journalRun s.twin.journal.length else s

def execJournalReceive (value : Bytes) (s : State) : Host.Outcome State Fault Refusal := runKeep s (·.journalIn value)

/-- A complete epoch is held in TWIN_EPOCH_RX: it is committed whole if its CRC checks, else EPOCH_BAD is raised and it is
discarded (R424). -/
def State.epochCommit (s : State) : State :=
  let b := s.blob O.TWIN_EPOCH_RX
  let st := s.obj O.TWIN_STATE
  if ¬ s.manager ∨ (st ≠ 3 ∧ st ≠ 4) ∨ b.len = 0 then s else
  let l := b.bytes
  let s := s.setBlob O.TWIN_EPOCH_RX Dflt.blob
  let body := (l.drop 16).take (octets l 8 4)
  if l.length < 16 + octets l 8 4 ∨ octets l 12 4 ≠ crc32 (l.take 12 ++ body) then s.raise O.TWIN_FLAGS 6 else
  let at_ := octets l 4 4
  let s := forEach (recordsOf body) (fun s r => s.sharedApply r) s
  let s := (s.setObj O.TWIN_EPOCH_COMMIT (octets l 0 4)).modTwin fun t =>
    { t with committed := true, jseq := at_, journal := t.journal.filter fun e => later32 e.1 at_ }
  let s := s.journalRun s.twin.journal.length
  if st = 3 then s.setObj O.TWIN_STATE 4 else s

def execEpochCommit (s : State) : Host.Outcome State Fault Refusal := runKeep s (·.epochCommit)

/-- A renewal arrives at a standby or syncing twin: the newest one is kept, and an HB answers it on both paths (R415, R417). -/
def State.renewalIn (s : State) (q : Nat) : State :=
  if s.twin.heard ∧ toSigned 16 ((q + 65536 - s.twin.leaseSeq) % 65536) ≤ 0 then s
  else (s.modTwin fun t => { t with leaseSeq := q, heard := true, leaseAt := s.hearth.cycles }).hbSend

/-- An HB of a standby or syncing twin acknowledges the renewal whose number it carries, and every earlier one (R415). -/
def State.ackIn (s : State) (q : Nat) : State :=
  let behind (a b : Nat) : Bool := decide (0 ≤ toSigned 16 ((b + 65536 - a) % 65536))
  match s.twin.sent.find? fun e => behind e.1 q with
  | none => s
  | some e => s.modTwin fun t => { t with ackSeq := some e.1, leaseAt := e.2, sent := t.sent.takeWhile (· != e) }

/-- What the role of a valid HB does (R419, R420, R429). `first` says whether the twin became ACTIVE first, `none` for equal
times: nothing in a HB tells it, so it comes with the event (log entry 17). -/
def State.hbAct (s : State) (role : Nat) (b : Body) (first : Option Bool) : State :=
  match s.obj O.TWIN_STATE with
  | 1 =>
    if role = 1 then s.becomeSyncing.renewalIn (blk b 90 75)
    else if role = 5 then s.becomeSyncing
    else if role = 0 then (if s.twin.slot = 0 then s.becomeActive else s.becomeSyncing) else s
  | 2 =>
    if role = 1 then
      let s := s.raise O.TWIN_FLAGS 8
      let yields := match first with | some x => x | none => s.twin.slot == 1
      if yields then s.becomeSyncing else s
    else if role = 2 ∨ role = 3 then
      let s := s.ackIn (blk b 90 75)
      if s.twin.handover ∧ role = 3 ∧ s.twin.lastSeg = [] ∧ blk b 42 16 = s.twin.epochNum % 2 ^ 27 then
        ((s.twinTo 4).modTwin fun t =>
          { t with committed := true, journal := [], heard := false, leaseAt := s.hearth.cycles }).hbSend
      else s
    else s
  | 3 => if role = 1 then s.renewalIn (blk b 90 75) else s
  | 4 =>
    if role = 1 then
      let s := s.renewalIn (blk b 90 75)
      if s.twin.handover then (s.modTwin fun t => { t with handover := false }).endStatus O.TWIN_STATUS 0 2 else s
    else if role = 5 ∧ s.twin.committed ∧ blk b 42 16 = s.obj O.TWIN_EPOCH_COMMIT % 2 ^ 27 then s.becomeActive.hbSend
    else s
  | 5 => if role = 1 then s.becomeSyncing.renewalIn (blk b 90 75) else s.becomeSyncing
  | _ => s

/-- A HB arrives (R413 to R421). -/
def State.hbIn (s : State) (pins : Bool) (b : Body) (first : Option Bool) : State :=
  let role := blk b 119 117
  if blk b 106 91 ≠ s.twin.pair then s.count O.TWIN_HB_FOREIGN
  else if s.twin.pair = 0 ∨ 6 ≤ role then s
  else
    let s := s.setObj O.TWIN_PATH_STATE (setBit (s.obj O.TWIN_PATH_STATE) (b2n pins) true)
    if blk b 116 107 = s.deviceId ∧ s.deviceId ≠ 0 then
      let s := (s.raise O.TWIN_FLAGS 9).modTwin fun t => { t with conflict := true }
      if s.twin.claimed then s else s.twinTo 5
    else
      let was := s.twin.peerRole
      let s := (s.modTwin fun t => { t with conflict := false, peerRole := role }).hbAct role b first
      if role = 2 ∧ was ≠ 2 ∧ was ≠ 3 then s.epochSend else s

def execHbReceive (path : HbPath) (body : Body) (twinFirst : Option Bool) (s : State) : Host.Outcome State Fault Refusal :=
  runKeep s fun s =>
    (if path = .inBand ∧ s.twin.port < 48 then s.rxPort s.twin.port 1 else s).hbIn (path == .pins) body twinFirst

/-- One path has delivered no valid HB for 50 ms while the other has (R416). -/
def State.pathDegraded (s : State) (pins : Bool) : State :=
  let v := s.obj O.TWIN_PATH_STATE
  if bit v (b2n !pins) ∧ bit v (b2n pins) then (s.setObj O.TWIN_PATH_STATE (setBit v (b2n pins) false)).raise O.TWIN_FLAGS 1 else s

def execPathDegraded (path : HbPath) (s : State) : Host.Outcome State Fault Refusal := runKeep s (·.pathDegraded (path == .pins))

/-- The lease runs out at an active that has had an acknowledged renewal since it claimed, 50 ms after it sent the newest such one
(R417). -/
def State.leaseExpire (s : State) : State :=
  if s.obj O.TWIN_STATE = 2 ∧ s.twin.ackSeq.isSome ∧ s.elapsed s.twin.leaseAt 50000000 then (s.twinTo 5).raise O.TWIN_FLAGS 3 else s

def execLeaseExpire (s : State) : Host.Outcome State Fault Refusal := runKeep s (·.leaseExpire)

/-- Takeover, 60 ms after the newest renewal was received (R417, R426, R427). A part whose source was its twin's port loses it. -/
def State.takeover (s : State) : State :=
  if (s.obj O.TWIN_STATE ≠ 3 ∧ s.obj O.TWIN_STATE ≠ 4) ∨ ¬ s.elapsed s.twin.leaseAt 60000000 then s else
  let gap := s.twin.committed && s.twin.journal.any fun e => later32 e.1 s.twin.jseq
  let fresh := s.manager && !s.twin.committed
  let s := (s.setBlob O.TWIN_EPOCH_RX Dflt.blob).modTwin fun t => { t with journal := [] }
  let s := if gap then s.raise O.TWIN_FLAGS 4 else s
  let s := if fresh then s.raise O.TWIN_FLAGS 5 else s
  let s := ((s.becomeActive).raise O.TWIN_FLAGS 2).count O.TWIN_TAKEOVERS
  let s := (s.modTwin fun t => { t with peerRole := 7 }).hbSend.discoverSend
  if s.manager ∧ s.source = s.twin.port ∧ s.twin.port < 48 then s.sourceLost else s

def execTakeover (s : State) : Host.Outcome State Fault Refusal := run s (·.takeover)

/-- The start-up wait ends with nothing heard (R420). -/
def State.startingEnds (s : State) : State := if s.obj O.TWIN_STATE = 1 then s.becomeActive else s

def execStartingWaitExpire (s : State) : Host.Outcome State Fault Refusal := runKeep s (·.startingEnds)

/-- A command of TWIN_CMD is refused, with REASON 1 on a part with PAIR_ID 0 (R433). -/
def State.twinRefuse (s : State) (cmd reason : Nat) : State :=
  s.cmdStatus O.TWIN_STATUS 0 cmd 4 (if s.twin.pair = 0 then 1 else reason)

/-- TWIN_STATUS reads BUSY. -/
def State.twinBusy (s : State) : Bool := s.status O.TWIN_STATUS == 1

/-- CLAIM (R419, R421, R433). -/
def State.twinClaim (s : State) : State :=
  if s.twinBusy then s
  else if s.twin.pair ≠ 0 ∧ (s.obj O.TWIN_STATE = 1 ∨ s.obj O.TWIN_STATE = 5) then
    ((s.becomeActive).modTwin fun t => { t with claimed := s.twin.conflict || bit (s.obj O.TWIN_FLAGS) 9 }).cmdStatus O.TWIN_STATUS 0 1 2
  else s.twinRefuse 1 0

def execClaim (s : State) : Host.Outcome State Fault Refusal := runKeep s (·.twinClaim)

/-- HANDOVER (R429, R433): the active stops acting and sends a final epoch. -/
def State.twinHandover (s : State) : State :=
  if s.twinBusy then s
  else if s.twin.pair = 0 ∨ s.obj O.TWIN_STATE ≠ 2 then s.twinRefuse 2 2
  else if s.twin.peerRole ≠ 3 then s.twinRefuse 2 3
  else
    let s := s.cmdStatus O.TWIN_STATUS 0 2 1
    (s.epochSend).modTwin fun t => { t with acting := false, handover := true }

def execHandover (s : State) : Host.Outcome State Fault Refusal := runKeep s (·.twinHandover)

/-- The standby has not become ACTIVE within 100 ms (R429). -/
def State.handoverTimeout (s : State) : State :=
  if s.twin.handover then (s.becomeActive).cmdStatus O.TWIN_STATUS 0 2 5 3 else s

def execHandoverTimeout (s : State) : Host.Outcome State Fault Refusal := runKeep s (·.handoverTimeout)

/-- ABORT_COPY (R425): `coincident` says that it is recorded in the cycle that hands over the last segment. -/
def State.abortCopy (s : State) (coincident : Bool) : State :=
  if s.twin.lastSeg = [] then s.twinRefuse 3 0
  else if coincident then (s.epochFinish).abortLate O.TWIN_STATUS 0 3 O.TWIN_FLAGS 7
  else (s.modTwin fun t => { t with lastSeg := [] }).cmdStatus O.TWIN_STATUS 0 3 3

def execAbortCopy (coincident : Bool) (s : State) : Host.Outcome State Fault Refusal := runKeep s (·.abortCopy coincident)

/-- Another code written to TWIN_CMD: no command of the table, refused (log entry 18). -/
def State.twinCmdOther (s : State) (code : Nat) : State := s.cmdStatus O.TWIN_STATUS 0 code 4 (if s.twin.pair = 0 then 1 else 0)

/-- TWIN_FLAGS as read: LEASE_HELD is live (R434). -/
def State.twinFlags (s : State) : Nat := s.obj O.TWIN_FLAGS + b2n s.twin.acting

end Sys2Proof.Machine
end

