-- ==== Sys2Proof/Machine/Views.lean ====
section
/-! DEFINITION. Reading the dictionary (R7 to R10, R363, R364): finding an object, the value that it reads as, and what a read
clears. Values that other state determines are views of it. -/

namespace Sys2Proof.Machine

/-- What an index and a subindex name (R7, R363): no object, no subindex in use, the highest subindex in use at subindex 0 of an
array or record, or an object. An object that stands at several indices is taken at the one named. -/
inductive Found where
  | noObject
  | noSub
  | highest (n : Nat)
  | obj (o : Obj)
  deriving DecidableEq, Repr

/-- The object rows at an index. -/
def objsAt (index : Nat) : List Obj := O.all.filter fun o => decide (o.index ≤ index) && decide (index ≤ o.last)

/-- What an index and a subindex name (R7, R363). -/
def findObj (index sub : Nat) : Found :=
  match objsAt index with
  | [] => .noObject
  | l =>
    match l.find? fun o => decide (o.lo ≤ sub) && decide (sub ≤ o.hi) with
    | some o => .obj { o with index := index, last := index }
    | none => if sub = 0 then .highest ((l.map (·.hi)).foldl max 0) else .noSub

/-- The whole seconds left of EXPERT_SESSION, rounded up, 0 when it is closed (R365). -/
def State.sessionLeft (s : State) : Nat :=
  if !s.falri.session then 0
  else max 1 (60 - (s.hearth.cycles - s.falri.sessionAt) * s.obj O.HEARTH_INC / 2 ^ 40 / 1000000000)

/-- DICT_FLAGS as read (R397). -/
def State.dictFlags (s : State) : Nat := s.obj O.DICT_FLAGS + b2n s.falri.session

/-- RESET_CAUSE (R531). -/
def State.resetCause (s : State) : Nat := s.power.warm * 256 + s.power.cause

/-- MAC_ACT as PART_MAC and the fuses give it (R396). -/
def State.macFrom (s : State) : Nat := if s.obj O.PART_MAC = 0 then s.fuses.mac else s.obj O.PART_MAC

/-- The value that a numeric object of the range 0x1000 to 0x3FFF reads as, where other state determines it. -/
def State.viewLow (s : State) (o : Obj) (sub : Nat) : Option Nat :=
  let n := sub - 1
  match o.index with
  | 0x1001 => some s.fuses.serial                                          -- SERIAL
  | 0x1003 => some s.fuses.mac                                             -- FACTORY_MAC
  | 0x1010 => some s.sessionLeft                                           -- EXPERT_SESSION
  | 0x1036 => some s.dictFlags                                             -- DICT_FLAGS
  | 0x1043 => some (bits s.power.straps.toNat 2 2)                         -- CHAIN_HEAD
  | 0x2010 =>
    if sub = 1 then some s.stamp                                           -- HEARTH_TIME
    else if sub = 4 then some s.hearth.state.code                          -- HEARTH_STATE
    else if sub = 5 then some s.hearthFlags                                -- HEARTH_FLAGS
    else none
  | 0x2107 => some (ofSigned 64 (s.alpha n))                               -- PORT_ALPHA
  | 0x213A => some (s.timeFlags n)                                         -- PORT_TIME_FLAGS
  | 0x3033 => some (s.laneFlags n)                                         -- LANE_FLAGS
  | 0x3408 => some (s.linkFlags n)                                         -- LINK_FLAGS
  | 0x3814 => some (bits s.power.straps.toNat 4 4)                         -- HOUSE_RATE_ACT
  | 0x3823 => some (s.shareFree .shared)                                   -- CELLS_FREE
  | 0x3825 => some s.lossless                                              -- LOSSLESS_ALLOC
  | 0x3836 => some s.drainOldest                                           -- DRAIN_OLDEST
  | 0x3837 => some s.cellarFlags                                           -- CELLAR_FLAGS
  | _ => none

/-- The value that a numeric object from 0x4000 on reads as, where other state determines it. -/
def State.viewHigh (s : State) (o : Obj) (sub : Nat) : Option Nat :=
  let n := sub - 1
  match o.index with
  | 0x4006 => some s.caravanFlags                                          -- CARAVAN_FLAGS
  | 0x4009 => some s.caravan.bay.length                                    -- CARAVAN_BAY_USE
  | 0x4012 => some (s.caravanBlocks n)                                     -- CARAVAN_BLOCKS
  | 0x4805 => some s.emUsed                                                -- EM_USED
  | 0x4806 => some s.emLearned                                             -- EM_LEARNED
  | 0x4807 => some s.stashUsed                                             -- STASH_USED
  | 0x480B => some s.migrateLeft                                           -- MIGRATE_LEFT
  | 0x480D => some s.tableFlags                                            -- TABLE_FLAGS
  | 0x4821 => some s.tcamUsed                                              -- TCAM_USED
  | 0x4836 => some (s.locksOf n)                                           -- TDMA_LOCKS
  | 0x500A => some (s.tioStatus n)                                         -- TIO_STATUS
  | 0x500F => some (s.tdc n).recs.length                                   -- TIO_CAP_FILL
  | 0x5011 => some (s.tioFlags n)                                          -- TIO_FLAGS
  | 0x5103 => some s.mcPhase                                               -- MC_PHASE
  | 0x5104 => some s.mcCount                                               -- MC_COUNT
  | 0x5106 => some s.tioSysFlags                                           -- TIO_SYS_FLAGS
  | 0x5802 => some (bits s.power.straps.toNat 3 3)                         -- XO_FREQ
  | 0x5813 => some (s.pllFlags n)                                          -- PLL_FLAGS
  | 0x6000 => some s.roleCode                                              -- HIER_ROLE
  | 0x6016 => some s.twinFlags                                             -- TWIN_FLAGS
  | 0x601B => some s.twin.jseq                                             -- TWIN_JSEQ
  | 0x7087 => some (s.counterNow o sub)                                    -- ENG_SLOT_IDLE
  | 0x7810 => some (s.health n)                                            -- LANE_HEALTH
  | 0x7811 => some (s.freeSpares n).length                                 -- LANE_SPARES_LEFT
  | 0x7812 => some (16 - s.cellsFailed n)                                  -- TDC_SPARES_LEFT
  | 0x8010 => some s.resetCause                                            -- RESET_CAUSE
  | 0x8012 => some s.power.straps.toNat                                    -- STRAPS
  | _ => none

/-- The value that a numeric object reads as, in its width (R8, R9). -/
def State.viewNat (s : State) (o : Obj) (sub : Nat) : Nat :=
  (((s.viewLow o sub).or (s.viewHigh o sub)).getD (s.obj o sub)) % 2 ^ (8 * o.ty.bytes)

/-- Seven counts of cells as the octets of QUEUE_CELLS and QUEUE_PEAK (R293). -/
def cellBytes (f : Nat → Nat) : Bytes := (List.range 7).flatMap fun q => beBytes 4 (f q)

/-- CFG_HEADERS (R396). -/
def State.cfgHeaders (s : State) : Bytes := Tab.getRun s.flash 0xFF 0x1000000 32 ++ Tab.getRun s.flash 0xFF 0x1800000 32

/-- The value that a BLOB or STRING object reads as. -/
def State.viewBlob (s : State) (o : Obj) (sub : Nat) : Blob :=
  let n := sub - 1
  match o.index with
  | 0x3030 => .of (eqBytes (s.lane n).eq)                                  -- RX_EQ
  | 0x3031 => .of (eqBytes (s.lane n).trained)                             -- RX_EQ_TRAINED
  | 0x3840 => .of (cellBytes (s.queueCells n))                             -- QUEUE_CELLS
  | 0x3841 => .of (cellBytes fun q => Tab.get s.cellar.peak 0 (8 * n + q)) -- QUEUE_PEAK
  | 0x4013 => .of (s.latBlob n)                                            -- CARAVAN_LAT
  | 0x500E => .of (s.capRead n).1                                          -- TIO_CAP
  | 0x6002 => .of s.advertOwn                                              -- HIER_ADVERT
  | 0x6003 => .of s.neighBlob                                              -- HIER_NEIGH
  | 0x6030 => s.idMapBlob                                                  -- HIER_ID_MAP
  | 0x6031 => .of s.devPortBytes                                           -- DEV_PORT
  | 0x6033 => s.registryBlob                                               -- EP_REGISTRY
  | 0x6810 => .of s.sharedCfgBytes                                         -- IRQ_SHARED_CFG
  | 0x6811 => .of s.pendingBytes                                           -- IRQ_PENDING
  | 0x7092 => .of (s.sampleRead n).1                                       -- SAMPLE_BUF
  | 0x7802 => .of s.calTable                                               -- CAL_TABLE
  | 0x3808 => ⟨32768, (s.blob o sub).cells⟩                                -- MC_GROUP
  | 0x3809 => ⟨65536, (s.blob o sub).cells⟩                                -- NEXTHOP
  | 0x4014 => ⟨256, (s.blob o sub).cells⟩                                  -- CARAVAN_SINK_SHADOW
  | 0x4015 => ⟨256, (s.blob o sub).cells⟩                                  -- CARAVAN_SINK
  | 0x780A => ⟨484, (s.blob o sub).cells⟩                                  -- CAL_STORE
  | 0x9007 => .of s.cfgHeaders                                             -- CFG_HEADERS
  | _ => s.blob o sub

/-- The object is a BLOB or a STRING. -/
def Obj.isBlob (o : Obj) : Bool := o.ty == .blob || o.ty == .string

/-- The octets that a read returns (R8). -/
def State.valueBytes (s : State) (o : Obj) (sub : Nat) : Bytes :=
  if o.isBlob then (s.viewBlob o sub).bytes else beBytes o.ty.bytes (s.viewNat o sub)

/-- What a read clears (R9): an RC object reads 0, or is emptied, from then on. -/
def State.readClears (s : State) (o : Obj) (sub : Nat) : State :=
  if o.acc ≠ .rc then s
  else if o.index = O.TIO_CAP.index then (s.capRead (sub - 1)).2
  else if o.index = O.SAMPLE_BUF.index then (s.sampleRead (sub - 1)).2
  else if o.index = O.QUEUE_PEAK.index then
    forEach [0, 1, 2, 3, 4, 5, 6] (fun s q => s.modCellar fun c => { c with peak := Tab.set c.peak 0 (8 * (sub - 1) + q) 0 }) s
  else if o.index = O.TEMP_PEAK.index then
    (s.setObj o 0 sub).modPower fun w => { w with peakSeen := setBit w.peakSeen (sub - 1) false }
  else if o.isBlob then s.setBlob o Dflt.blob sub
  else s.counterClear o sub

/-- The length of a BLOB or STRING object. -/
def State.blobLen (s : State) (o : Obj) (sub : Nat) : Nat := (s.viewBlob o sub).len

end Sys2Proof.Machine
end

