-- ==== Sys2Proof/Machine/Store.lean ====
section
/-! DEFINITION. The configuration store (R390 to R394): the flash's layout, valid copies and the choice between them, and what
COMMIT, INSTALL and ERASE_BOTH write. Applying an image stands in Boot.lean. -/

namespace Sys2Proof.Machine

/-- Where a configuration copy begins (R390). -/
def cfgBase (c : Nat) : Nat := 0x1000000 + c * 0x800000

/-- Where a firmware copy begins (R390). -/
def fwBase (c : Nat) : Nat := c * 0x800000

/-- MAGIC of a configuration copy (R390). -/
def cfgMagic : Nat := 0x535A4346

/-- MAGIC of a firmware copy (R390). -/
def fwMagic : Nat := 0x535A4657

/-- The greatest body, 8 MiB less the header (R390). -/
def bodyMax : Nat := 0x800000 - 32

/-- Octets of the flash; an erased octet reads 0xFF. -/
def State.flashRead (s : State) (a n : Nat) : Bytes := Tab.getRun s.flash 0xFF a n

/-- Sectors of 64 KiB from `a` on are erased. -/
def State.flashErase (s : State) (a sectors : Nat) : State :=
  { s with flash := s.flash.filter fun e => decide (e.1 < a) || decide (a + 65536 * sectors ≤ e.1) }

/-- Erased flash is programmed. -/
def State.flashProgram (s : State) (a : Nat) (l : Bytes) : State := { s with flash := Tab.setRun s.flash 0xFF a l }

/-- The sectors that 32 + LEN octets need (R393). -/
def sectorsOf (len : Nat) : Nat := (32 + len + 65535) / 65536

/-- CRC of a copy: over bytes 0 to 11 and 16 to 31 of the header, and the body (R390). -/
def imageCrc (hdr body : Bytes) : Nat := crc32 (hdr.take 12 ++ (hdr.drop 16).take 16 ++ body)

/-- MAGIC, FORMAT, PART and LEN of a header are right (R391). -/
def headerOk (magic : Nat) (hdr : Bytes) : Bool :=
  octets hdr 0 4 == magic && octets hdr 16 2 == 1 && octets hdr 20 4 == 0x485000A2 && decide (octets hdr 8 4 ≤ bodyMax)

/-- An image is valid: MAGIC, FORMAT, PART, LEN and CRC are right (R391). What follows its body does not count. -/
def imageOkFor (magic : Nat) (b : Bytes) : Bool :=
  let len := octets b 8 4
  headerOk magic b && decide (32 + len ≤ b.length) && octets b 12 4 == imageCrc (b.take 32) ((b.drop 32).take len)

/-- The body of a copy in flash, as long as its header says. -/
def State.copyBody (s : State) (base : Nat) : Bytes := s.flashRead (base + 32) (octets (s.flashRead base 32) 8 4)

/-- SEQ of a copy in flash. -/
def State.copySeq (s : State) (base : Nat) : Nat := octets (s.flashRead base 32) 4 4

/-- A copy in flash is valid (R391). -/
def State.copyValid (s : State) (magic base : Nat) : Bool :=
  headerOk magic (s.flashRead base 32) && imageOkFor magic (s.flashRead base 32 ++ s.copyBody base)

/-- SEQ `a` is later than SEQ `b` (R391). -/
def seqLater (a b : Nat) : Bool := let d := (a + 2 ^ 32 - b % 2 ^ 32) % 2 ^ 32; decide (1 ≤ d ∧ d < 2 ^ 31)

/-- The choice between two copies (R391): the later of two valid ones, copy 0 where neither is later. -/
def chooseCopy (ok0 ok1 : Bool) (seq0 seq1 : Nat) : Option Nat :=
  match ok0, ok1 with
  | true, true => some (if seqLater seq1 seq0 then 1 else 0)
  | true, false => some 0
  | false, true => some 1
  | false, false => none

/-- One record of an object's value (R390). -/
def State.objRecord (s : State) (o : Obj) (sub : Nat) : Bytes := recordBytes o.index sub o.ty.code (s.valueBytes o sub)

/-- The indices of an object. -/
def Obj.indices (o : Obj) : List Nat := (List.range (o.last + 1 - o.index)).map (o.index + ·)

/-- The body of a commit: every RWS object, in ascending INDEX and SUB order (R393). -/
def State.commitBody (s : State) : Bytes :=
  (O.all.filter fun o => o.acc == .rws).flatMap fun o =>
    o.indices.flatMap fun i => o.subs.flatMap fun sub => s.objRecord { o with index := i, last := i } sub

/-- A header with its CRC (R390). -/
def headerFor (seq : Nat) (build : Bytes) (body : Bytes) : Bytes :=
  let a := beBytes 4 cfgMagic ++ beBytes 4 seq ++ beBytes 4 body.length
  let z := beBytes 2 1 ++ [0, 0] ++ beBytes 4 0x485000A2 ++ build
  a ++ beBytes 4 (crc32 (a ++ z ++ body)) ++ z

/-- The copy that a commit or an install writes: the one that is not loaded, copy 0 when the defaults are (R393, R394). -/
def State.nextCopy (s : State) : Nat := if s.obj O.CFG_LOADED = 0 then 1 else 0

/-- The SEQ that it writes (R393, R394). -/
def State.nextCfgSeq (s : State) : Nat := if s.obj O.CFG_LOADED = 0xFF then 1 else (s.obj O.CFG_SEQ + 1) % 2 ^ 32

/-- CFG_STATUS reads BUSY. -/
def State.cfgBusy (s : State) : Bool := s.status O.CFG_STATUS == 1

/-- A job begins: the sectors it needs are erased, and CFG_STATUS reads BUSY (R393, R394). -/
def State.beginJob (s : State) (kind : Nat) (hdr body : Bytes) : State :=
  let c := s.nextCopy
  let q := s.nextCfgSeq
  ((s.flashErase (cfgBase c) (sectorsOf body.length)).cmdStatus O.CFG_STATUS 0 kind 1).modFalri fun f =>
    { f with jobKind := kind, job := some { copy := c, seq := q, body := body, hdr := hdr } }

/-- COMMIT (R393). The writer's tag of a commit is not stated (log entry 3). A body that no copy can hold fails as TOO_LONG
(R398). -/
def State.cfgCommit (s : State) : State :=
  if s.cfgBusy then s else
  let body := s.commitBody
  if bodyMax < body.length then s.cmdStatus O.CFG_STATUS 0 1 5 3
  else s.fresh.beginJob 1 (headerFor s.nextCfgSeq (beBytes 8 (Config.lineBits s.free).toNat) body) body

def execCfgCommit (s : State) : Host.Outcome State Fault Refusal := runKeep s (·.cfgCommit)

/-- Octets that no rule states, one free value each (log entry 3). -/
def State.freeBytes (s : State) (n : Nat) : Bytes × State :=
  ((List.range n).map fun i => BitVec.ofNat 8 (Config.lineBits (s.free + i)).toNat, { s with free := s.free + n })

/-- The body and then the header are programmed (R393). What a copy holds that does not verify is not stated. -/
def State.programCopy (s : State) (j : FlashJob) (verified : Bool) : State :=
  if verified then (s.flashProgram (cfgBase j.copy + 32) j.body).flashProgram (cfgBase j.copy) j.hdr
  else let r := s.freeBytes (32 + j.body.length); r.2.flashProgram (cfgBase j.copy) r.1

/-- No job is left. -/
def State.endJob (s : State) : State := s.modFalri fun f => { f with job := none, jobKind := 0 }

/-- A commit completes (R393). -/
def State.commitDone (s : State) (verified : Bool) : State :=
  match s.falri.job with
  | none => s
  | some j =>
    if s.falri.jobKind ≠ 1 then s else
    let s := (s.programCopy j verified).endJob
    if verified then
      (((s.setObj O.CFG_LOADED j.copy).setObj O.CFG_SEQ j.seq).endStatus O.CFG_STATUS 0 2).raise O.DICT_FLAGS 6
    else (s.endStatus O.CFG_STATUS 0 5 1).raise O.DICT_FLAGS 7

def execCommitComplete (verified : Bool) (s : State) : Host.Outcome State Fault Refusal := runKeep s (·.commitDone verified)

/-- INSTALL (R394). -/
def State.cfgInstall (s : State) : State :=
  if s.cfgBusy then s else
  let b := (s.blob O.CFG_UPLOAD).bytes
  if !imageOkFor cfgMagic b then s.cmdStatus O.CFG_STATUS 0 2 5 2
  else
    let body := (b.drop 32).take (octets b 8 4)
    s.beginJob 2 (headerFor s.nextCfgSeq ((b.drop 24).take 8) body) body

def execInstall (s : State) : Host.Outcome State Fault Refusal := runKeep s (·.cfgInstall)

/-- An install completes; its copy loads at the next reset (R394). -/
def State.installDone (s : State) (verified : Bool) : State :=
  match s.falri.job with
  | none => s
  | some j =>
    if s.falri.jobKind ≠ 2 then s else
    let s := (s.programCopy j verified).endJob
    if verified then s.endStatus O.CFG_STATUS 0 2 else s.endStatus O.CFG_STATUS 0 5 1

def execInstallComplete (verified : Bool) (s : State) : Host.Outcome State Fault Refusal := runKeep s (·.installDone verified)

/-- ERASE_BOTH (R394). -/
def State.cfgErase (s : State) : State :=
  if s.cfgBusy then s else
  (((s.flashErase (cfgBase 0) 1).flashErase (cfgBase 1) 1).cmdStatus O.CFG_STATUS 0 3 1).modFalri fun f =>
    { f with jobKind := 3, job := none }

def execEraseBoth (s : State) : Host.Outcome State Fault Refusal := runKeep s (·.cfgErase)

/-- ERASE_BOTH completes. -/
def State.eraseDone (s : State) : State := if s.falri.jobKind = 3 then s.endJob.endStatus O.CFG_STATUS 0 2 else s

def execEraseComplete (s : State) : Host.Outcome State Fault Refusal := runKeep s (·.eraseDone)

/-- Any other code of CFG_CMD (R394). -/
def State.cfgOther (s : State) (code : Nat) : State := if s.cfgBusy then s else s.cmdStatus O.CFG_STATUS 0 code 4

def execCfgCmdOther (code : Byte) (s : State) : Host.Outcome State Fault Refusal :=
  runKeep s fun s => if 1 ≤ code.toNat ∧ code.toNat ≤ 3 then s else s.cfgOther code.toNat

end Sys2Proof.Machine
end

