-- ==== Sys2Proof/Machine/Dictionary.lean ====
section
/-! DEFINITION. Writing the dictionary: the tests of R558 with every object's own rules, and what each write does (R9, R11,
R365 to R367, R387, R388), together with the commands that are writes of one object. -/

namespace Sys2Proof.Machine

/-- Status codes (R372). -/
def stGatehouse : Nat := 9
/-- NOT_APPLIED (R372). -/
def stNotApplied : Nat := 10

/-- The value that octets give an object's type, as a number (R8). -/
def valueOf (o : Obj) (v : Bytes) : Int := if o.ty.signed then toSigned (8 * o.ty.bytes) (ofBe v) else ofBe v

/-- VLEN suits the type (R370). -/
def typeOk (o : Obj) (v : Bytes) : Bool :=
  match o.ty with
  | .blob => true
  | .string => decide (v.length ≤ 252)
  | _ => v.length == o.ty.bytes

/-- The value lies in the object's stated range (R8, R372). A BLOB longer than its greatest length lies outside it. -/
def statedRange (o : Obj) (v : Bytes) : Bool :=
  if o.isBlob then decide (v.length ≤ o.maxLen)
  else
    let z := valueOf o v
    (o.ty != .bool || decide (z ≤ 1)) && (o.range == [] || o.range.any fun r => decide (r.1 ≤ z ∧ z ≤ r.2))

/-- The value stands in the object, without any effect. -/
def State.rawSet (s : State) (o : Obj) (sub : Nat) (v : Bytes) : State :=
  if o.isBlob then s.setBlob o (Blob.of v) sub else s.setObj o (ofBe v) sub

/-- The OPLL whose settings an object belongs to: OPLL_MULT, CLKOUT_EN, CLKOUT_DIV, CLKOUT_STD (R207). -/
def opllOf (o : Obj) (sub : Nat) : Option Nat :=
  if o.index = 0x5820 then some (sub - 1)
  else if o.index = 0x5830 ∨ o.index = 0x5831 ∨ o.index = 0x5832 then some ((sub - 1) / 2)
  else none

/-- The tests of R207 pass. `fin` holds every value of the message. -/
def State.opllTest (fin : State) (o : Obj) (sub : Nat) : Bool :=
  match opllOf o sub with
  | some k => fin.opllOk k
  | none => true

/-- A two-lane or a four-lane port starts where R93 lets it. -/
def widthPlaced (p w : Nat) : Bool := w == 1 || (w == 2 && p % 6 % 2 == 0) || (w == 4 && (p % 6 == 0 || p % 6 == 2))

/-- Rules of single objects that give RANGE. `t` holds the values of the message's earlier items (R374). -/
def State.ownRange (t : State) (o : Obj) (sub : Nat) (v : Bytes) : Bool :=
  let n := sub - 1
  let x := ofBe v
  match o.index with
  | 0x3001 => t.groupNOk x                                                            -- GROUP_N (R111)
  | 0x3021 => bits x 31 24 == 0 && tapsOk (tapAt x 23 16) (tapAt x 15 8) (tapAt x 7 0)                     -- TX_TAP_INIT (R119, R140)
  | 0x3030 => t.rxEqOk n v                                                            -- RX_EQ (R128)
  | 0x3410 => widthPlaced n x                                                         -- PORT_WIDTH (R93)
  | 0x3807 => v.length == 65536                                                       -- VLAN_MEMBERS
  | 0x3808 => v.length == 32768                                                       -- MC_GROUP
  | 0x3809 => v.length == 65536                                                       -- NEXTHOP
  | 0x3831 => (List.range 7).all fun q => decide (1 ≤ bits x (8 * q + 7) (8 * q) ∧ bits x (8 * q + 7) (8 * q) ≤ 127)  -- SCHED_WEIGHT
  | 0x4014 => v.length == 256                                                         -- CARAVAN_SINK_SHADOW
  | 0x4820 => v.length == 66                                                          -- TCAM_ZONE
  | 0x4830 => x % 32 == 0 && decide (x < pantrySize)                                  -- TDMA_BASE
  | 0x500D => decide (n < 16) || x == 1                                               -- TIO_EDGE (R239)
  | 0x5112 => x == 1                                                                  -- MARK_CMD
  | 0x5200 => issueOk v                                                               -- CMD_ISSUE (R248)
  | 0x5833 => decide (x < t.phaseUnits n)                                             -- CLKOUT_PHASE (R213)
  | 0x6030 => v.length == 8192                                                        -- HIER_ID_MAP
  | 0x6033 => v.length == 524288                                                      -- EP_REGISTRY
  | 0x6810 => sharedCfgOk v                                                           -- IRQ_SHARED_CFG (R453)
  | 0x70A1 => x % 2 == 0                                                              -- LANTERN_MASK (R503)
  | 0x780A => v.length == 484                                                         -- CAL_STORE (R475)
  | 0xA000 => imageLenOk v                                                            -- USER_IMAGE (R444)
  | _ => true

/-- The object's command is BUSY, so that the write is answered BUSY (R42, R103, R207, R324, R361, R393, R460, R479). -/
def State.busyWrite (s : State) (o : Obj) (sub : Nat) (v : Bytes) : Bool :=
  let x := ofBe v
  match o.index with
  | 0x2030 => s.hearthBusy                                                            -- HEARTH_CMD
  | 0x3406 => s.status O.LINK_CMD_STATUS sub == 1 && x != 2                           -- LINK_CMD
  | 0x4004 => s.status O.CARAVAN_STATUS == 1 && x != 2                                -- CARAVAN_CMD
  | 0x4803 => s.status O.EM_STATUS == 1 && x != 3                                     -- EM_CMD
  | 0x5200 => s.status O.CMD_ISSUE_STATUS == 1                                        -- CMD_ISSUE
  | 0x6014 => s.twinBusy && x != 3                                                    -- TWIN_CMD
  | 0x7041 => s.status O.SNAP_STATUS == 1 && x != 2                                   -- SNAP_CMD
  | 0x7800 => s.status O.CAL_STATUS == 1 && bits x 31 24 != 2                         -- CAL_CMD
  | 0x9000 => s.cfgBusy                                                               -- CFG_CMD
  | 0xA001 => s.status O.USER_STATUS sub == 1                                         -- USER_CMD
  | _ => match opllOf o sub with | some k => s.opllBusy k | none => false

/-- An object that the twins share (R422). -/
def sharedObj (o : Obj) : Bool :=
  o.index == 0x6018 || o.index == 0x6030 || o.index == 0x6032 || o.index == 0x6033

/-- A standby or syncing twin refuses writes of the shared objects (R422). -/
def State.sharedLocked (s : State) : Bool := s.manager && (s.obj O.TWIN_STATE == 3 || s.obj O.TWIN_STATE == 4)

/-- A path may write (R387). -/
def State.mayWritePath (s : State) (path : Nat) : Bool :=
  path == hbusPath || (path == chainPath && s.obj O.GATE_CHAIN == 1) || (decide (path < 49) && bit (s.obj O.GATE_PORTS) path)

/-- Rules of single objects that give REFUSED. `s` is the part, `t` the same with the values of the message's earlier items
(R374), `path` where the request came in. -/
def State.ownRefuse (s t : State) (path : Nat) (o : Obj) (sub : Nat) (v : Bytes) : Bool :=
  let n := sub - 1
  let x := ofBe v
  match o.index with
  | 0x1002 => bit x 40                                                                -- PART_MAC: a group address
  | 0x1020 => decide (path < 49) && !bit x path                                       -- GATE_PORTS (R388)
  | 0x1021 => path == chainPath && x == 0                                             -- GATE_CHAIN (R388)
  | 0x2010 => sub == 3 && s.hearth.state != .free                                     -- HEARTH_RATE (R25)
  | 0x2049 => decide (t.obj O.JUMP_LIMIT < x)                                         -- STEP_MIN (R157)
  | 0x2109 => !s.asymRouteOk n                                                        -- PORT_ASYM_ROUTE (R178)
  | 0x2138 => !t.rangeModeOk n x                                                      -- PORT_RANGE_MODE (R174)
  | 0x2150 => t.native n && x != 0 && x != 0xFF                                       -- PORT_PTP_MODE (R182)
  | 0x3010 => !t.fecOk n x                                                            -- PORT_FEC (R114)
  | 0x3030 => t.obj O.ADAPT_MODE sub != 1                                             -- RX_EQ (R128)
  | 0x3051 => !t.prbsOk n x                                                           -- LANE_PRBS (R139)
  | 0x3410 => let m := t.portMode n; decide (1 ≤ m ∧ m ≤ 3) && fecChoices m x == []   -- PORT_WIDTH (R113)
  | 0x3802 => (List.range 8).any fun k => bits x (3 * k + 2) (3 * k) == 7             -- PORT_PCP_MAP (R259)
  | 0x3826 => decide (65536 < (t.rawSet o sub v).lossless)                            -- NATIVE_CREDIT (R268)
  | 0x3827 => decide (65536 < (t.rawSet o sub v).lossless)                            -- NATIVE_LOSSLESS
  | 0x3828 => decide (65536 < (t.rawSet o sub v).lossless)                            -- PFC_ENABLE
  | 0x3829 => decide (65536 < (t.rawSet o sub v).lossless) || decide (x ≤ t.obj O.PFC_XON sub)   -- PFC_XOFF (R272)
  | 0x382A => decide (t.obj O.PFC_XOFF sub ≤ x)                                       -- PFC_XON (R272)
  | 0x382B => decide (65536 < (t.rawSet o sub v).lossless)                            -- PFC_HEADROOM
  | 0x3834 => !s.fenceOk x                                                            -- DRAIN_FENCE (R265)
  | 0x4003 => s.status O.CARAVAN_STATUS == 1                                          -- CARAVAN_LOAD_AT (R303)
  | 0x4010 => s.status O.CARAVAN_STATUS == 1 || v.length % 8 != 0                     -- CARAVAN_SHADOW
  | 0x4014 => s.status O.CARAVAN_STATUS == 1                                          -- CARAVAN_SINK_SHADOW
  | 0x4801 => x / 2 ^ 32 == x % 2 ^ 32 || s.obj O.EM_STATE != 1                       -- EM_SEED_A (R331)
  | 0x4802 => x / 2 ^ 32 == x % 2 ^ 32 || s.obj O.EM_STATE != 0                       -- EM_SEED_B (R331)
  | 0x4820 => !s.zoneOk v                                                             -- TCAM_ZONE (R346)
  | 0x4830 => n == 0 || bit (s.obj O.TDMA_STATUS sub) 9 || decide (x < 0x80000)       -- TDMA_BASE (R347, R441)
  | 0x4831 => n == 0 || bit (s.obj O.TDMA_STATUS sub) 9                               -- TDMA_SIZE
  | 0x4832 => n == 0                                                                  -- TDMA_HEAD
  | 0x4834 => n == 0                                                                  -- TDMA_CMD
  | 0x5000 => s.genBusy n                                                             -- TIO_MODE (R226)
  | 0x5002 => s.genBusy n                                                             -- TIO_TIMEBASE (R229)
  | 0x5003 => s.genBusy n                                                             -- TIO_T0
  | 0x5004 => s.genBusy n                                                             -- TIO_PERIOD
  | 0x5005 => s.genBusy n                                                             -- TIO_F0_PHASE
  | 0x5006 => s.genBusy n                                                             -- TIO_OFFSET
  | 0x5007 => s.genBusy n                                                             -- TIO_WIDTH
  | 0x5008 => s.genBusy n                                                             -- TIO_COUNT
  | 0x5200 => !s.activeManager                                                        -- CMD_ISSUE (R248)
  | 0x6018 => s.sharedLocked                                                          -- TWIN_EPOCH_MS
  | 0x6030 => s.sharedLocked || (s.manager && !s.activeManager)                       -- HIER_ID_MAP (R418)
  | 0x6032 => s.sharedLocked                                                          -- DISC_INTERVAL
  | 0x6033 => s.sharedLocked || !s.activeManager                                      -- EP_REGISTRY (R410, R418)
  | 0x7809 => decide (x ≤ t.obj O.LANE_Q_FLOOR)                                       -- LANE_Q_WARN (R471)
  | _ => false

/-- The tests 3 to 8 of R558 on one write, by the object's own access code and rules: the status, 0 when all pass. -/
def State.checkObj (s t fin : State) (path : Nat) (expert : Bool) (o : Obj) (sub : Nat) (v : Bytes) : Nat :=
  if o.acc = .ro ∨ o.acc = .rol ∨ o.acc = .rc ∨ o.acc = .const then 3
  else if o.exp && !expert then 4
  else if !typeOk o v then 6
  else if !(statedRange o v && t.ownRange o sub v && fin.opllTest o sub) then 5
  else if s.busyWrite o sub v then 7
  else if s.ownRefuse t path o sub v then 8
  else 0

/-- The tests 2 to 8 of R558 on one write. -/
def State.checkWrite (s t fin : State) (path : Nat) (expert : Bool) (i : FalriItem) : Nat :=
  match findObj i.index.toNat i.sub.toNat with
  | .noObject => 1
  | .noSub => 2
  | .highest _ => 3
  | .obj o => s.checkObj t fin path expert o i.sub.toNat i.value

/-- A write that R207 refuses while the OPLL is not BUSY sets OPLL_STATUS to REFUSED (R221). -/
def State.noteOpll (s : State) (fin : State) (i : FalriItem) (st : Nat) : State :=
  match findObj i.index.toNat i.sub.toNat with
  | .obj o =>
    match opllOf o i.sub.toNat with
    | some k => if st = 5 ∧ statedRange o i.value ∧ ¬ s.opllBusy k ∧ ¬ fin.opllOk k then s.opllRefuse k else s
    | none => s
  | _ => s

/-- EXPERT_SESSION is opened or restarted for 60 s, or closed (R365). -/
def State.setSession (s : State) (x : Nat) : State :=
  s.modFalri fun f => { f with session := x == 0xE7, sessionAt := s.hearth.cycles }

/-- TIO_CMD (R228). The arming edge is the first lattice edge after the cycle of the command. -/
def State.tioCmd (s : State) (n x : Nat) : State :=
  match x with
  | 1 => s.armGen n s.nextLattice s.ns
  | 2 => s.disarmGen n (s.launches n s.now.toNat)
  | 3 => s.capFlush n
  | _ => s.cmdStatus O.TIO_STATUS (n + 1) x 4

/-- CAL_CMD (R473). Whether the lane is quiet at that instant does not come with a write: it is a free value (log entry 3). -/
def State.calCmd (s : State) (x : Nat) : State :=
  let kind := bits x 15 8
  let inst := bits x 7 0
  match bits x 31 24 with
  | 1 => s.fresh.calRunCmd kind inst (bit (Config.lineBits s.free).toNat 0)
  | 2 => s.calAbort kind inst false
  | 3 => s.clearDefer kind inst
  | c => s.calStatus kind inst c 4 0

/-- The commands of the dictionary but HEARTH_CMD and SYS_RESET: a WO object of codes is written. -/
def State.writeCmd (s : State) (o : Obj) (sub x : Nat) : State :=
  let n := sub - 1
  match o.index with
  | 0x2136 =>                                                                         -- PORT_ROUTE_CMD (R178)
    match x with
    | 1 => s.cmdSplit n | 2 => s.cmdForward n | 3 => s.cmdResume n | 4 => s.cmdRouteAbort n false | _ => s.cmdRouteOther n x
  | 0x3406 =>                                                                         -- LINK_CMD (R103)
    match x with
    | 1 => s.retrain n | 2 => s.linkAbort n false | _ => s.cmdStatus O.LINK_CMD_STATUS sub x 4
  | 0x3834 => s.fenceWrite x                                                          -- DRAIN_FENCE (R265)
  | 0x4004 =>                                                                         -- CARAVAN_CMD (R324)
    match x with
    | 1 => s.caravanLoad | 2 => s.caravanCancel false | 3 => s.caravanRearm | _ => s.cmdStatus O.CARAVAN_STATUS 0 x 4
  | 0x4803 =>                                                                         -- EM_CMD (R341, R361)
    match x with
    | 1 => s.migrate 0 | 2 => s.migrate 1 | 3 => s.emAbort false | _ => s.cmdStatus O.EM_STATUS 0 x 4
  | 0x4834 =>                                                                         -- TDMA_CMD (R353)
    match x with
    | 1 => s.tdmaStart n | 2 => s.tdmaStop n | 3 => s.tdmaAbort n false | 4 => s.tdmaReset n
    | _ => s.cmdStatus O.TDMA_STATUS sub x 4
  | 0x5009 => s.tioCmd n x                                                            -- TIO_CMD (R228)
  | 0x5112 => s.realign                                                               -- MARK_CMD (R242)
  | 0x6014 =>                                                                         -- TWIN_CMD (R420, R429)
    match x with
    | 1 => s.twinClaim | 2 => s.twinHandover | 3 => s.abortCopy false | _ => s.twinCmdOther x
  | 0x7041 =>                                                                         -- SNAP_CMD (R486)
    match x with
    | 1 => s.snapArm | 2 => s.snapCancel false | _ => s.snapOther x
  | 0x7800 => s.calCmd x                                                              -- CAL_CMD (R473)
  | 0x9000 =>                                                                         -- CFG_CMD (R394)
    match x with
    | 1 => s.cfgCommit | 2 => s.cfgInstall | 3 => s.cfgErase | _ => s.cfgOther x
  | 0xA001 =>                                                                         -- USER_CMD (R445)
    match x with
    | 1 => s.userLoad (9 + sub) | 2 => s.userStart (9 + sub) | 3 => s.userStop (9 + sub) | _ => s.userCmdOther (9 + sub) x
  | _ => s

/-- EP_REGISTRY is written: each accepted write increments EP_REG_VER (R410). -/
def State.writeRegistry (s : State) (v : Bytes) : State := (s.setRegistry v).setObj O.EP_REG_VER (s.obj O.EP_REG_VER + 1)

/-- What an accepted write does to an object that is no command and no setting of an OPLL. -/
def State.writeValue (s : State) (o : Obj) (sub : Nat) (v : Bytes) : State :=
  let n := sub - 1
  let x := ofBe v
  match o.index with
  | 0x1002 => let s := s.rawSet o sub v; s.setObj O.MAC_ACT s.macFrom                 -- PART_MAC
  | 0x1010 => s.setSession x                                                          -- EXPERT_SESSION (R365)
  | 0x2020 =>                                                                         -- JUMP_LIMIT (R157)
    let s := s.rawSet o sub v
    if sub = 1 ∧ x < s.obj O.STEP_MIN then s.setObj O.STEP_MIN x else s
  | 0x204A => (s.rawSet o sub v).modServo fun m => { m with epochSet := true }        -- PTP_EPOCH (R185)
  | 0x3000 => s.writeGroupMode n x (s.obj O.GROUP_N sub)                              -- GROUP_MODE (R108)
  | 0x3001 => s.writeGroupMode n (s.obj O.GROUP_MODE sub) x                           -- GROUP_N (R112)
  | 0x3010 => s.writeFec n x                                                          -- PORT_FEC (R114)
  | 0x3030 => s.writeRxEq n v                                                         -- RX_EQ (R128)
  | 0x3050 => s.writeLoop n x                                                         -- LANE_LOOP (R136)
  | 0x3051 => s.writePrbs n x                                                         -- LANE_PRBS (R139)
  | 0x3807 => s.tableBlob o v                                                         -- VLAN_MEMBERS (R337)
  | 0x3808 => s.tableBlob o v                                                         -- MC_GROUP
  | 0x3809 => s.tableBlob o v                                                         -- NEXTHOP
  | 0x4820 => s.tableBlob o v                                                         -- TCAM_ZONE
  | 0x5000 => s.writeTioMode n x                                                      -- TIO_MODE (R226)
  | 0x5001 => (s.rawSet o sub v).repolarise s n                                       -- TIO_POL (R226)
  | 0x500B => s.setLevel n x                                                          -- TIO_LEVEL (R235)
  | 0x5200 => s.cmdIssue v                                                            -- CMD_ISSUE (R248)
  | 0x5833 => s.writeClkoutPhase n x                                                  -- CLKOUT_PHASE (R213)
  | 0x6020 => s.journalIn v                                                           -- TWIN_JOURNAL_RX (R424)
  | 0x6030 => s.modHier fun h => { h with idMap := idMapFrom 0 v [] }                 -- HIER_ID_MAP
  | 0x6033 => s.writeRegistry v                                                       -- EP_REGISTRY (R410)
  | 0x6810 => s.writeSharedCfg v                                                      -- IRQ_SHARED_CFG (R453)
  | 0xA000 => s.writeImage (9 + sub) v                                                -- USER_IMAGE (R444)
  | _ => s.rawSet o sub v

/-- An accepted write of one object, HEARTH_CMD and SYS_RESET apart: a W1C object loses the bits written as 1 (R9), and a shared
object goes to the twin (R423). -/
def State.writePlain (s : State) (o : Obj) (sub : Nat) (v : Bytes) : State :=
  if o.acc = .w1c then s.clear o (ofBe v) sub
  else if o.acc = .wo ∧ ¬ o.isBlob then s.writeCmd o sub (ofBe v)
  else
    let s := s.writeValue o sub v
    if sharedObj o then s.sharedWritten o.index o.ty.code v else s

/-- HEARTH_CMD (R39). -/
def State.hearthCmd (s : State) (x : Nat) : State :=
  match x with
  | 1 => s.cmdReepoch
  | 2 => s.abortAcq false
  | 3 => s.accept
  | _ => s.hearthCmdOther x

/-- An accepted write of one object. Only HEARTH_CMD and REF_RETURN_POLICY reach the servo's state (R37, R39). -/
def State.writeObj (s : State) (o : Obj) (sub : Nat) (v : Bytes) : State :=
  if o.index = 0x2030 then s.hearthCmd (ofBe v)
  else
    let t := s.keeping (·.writePlain o sub v)
    if o.index = 0x2020 ∧ sub = 3 then t.policyWritten else t

/-- One accepted item of a message is applied; the settings of an OPLL only stand, until the message is through (R207). -/
def State.applyItem (s : State) (i : FalriItem) : State :=
  match findObj i.index.toNat i.sub.toNat with
  | .obj o => if (opllOf o i.sub.toNat).isSome then s.keeping (·.rawSet o i.sub.toNat i.value) else s.writeObj o i.sub.toNat i.value
  | _ => s

/-- The OPLL that an item sets, and whether it writes OPLL_MULT. -/
def itemOpll (i : FalriItem) : Option (Nat × Bool) :=
  match findObj i.index.toNat i.sub.toNat with
  | .obj o => (opllOf o i.sub.toNat).map fun k => (k, o.index == 0x5820)
  | _ => none

/-- An item that writes SYS_RESET. -/
def itemReset (i : FalriItem) : Bool := i.index.toNat == O.SYS_RESET.index

/-- The accepted items of one message are applied in item order (R374); the settings of an OPLL are taken in one sequence
(R207), and a write of SYS_RESET acts at the end of the cycle (R509). -/
def State.applyItems (s : State) (items : List FalriItem) : State :=
  let t := items.foldl State.applyItem s
  let touched := items.filterMap itemOpll
  let t := t.keeping (forEach [0, 1, 2, 3] fun t k =>
    if touched.any fun e => e.1 == k then t.opllCommit s k (touched.contains (k, true)) else t)
  if items.any itemReset then t.sysReset else t

/-- The session after every EXPERT_SESSION item of a message (R366). -/
def sessionAfter (open_ : Bool) (items : List FalriItem) : Bool :=
  items.foldl (fun e i =>
    if i.index.toNat = 0x1010 ∧ i.sub.toNat = 0 ∧ i.value = [0xE7] then true
    else if i.index.toNat = 0x1010 ∧ i.sub.toNat = 0 ∧ i.value = [0x00] then false else e) open_

/-- An item's value stands in the object it names, without effect: what later items of the message are tested against. -/
def State.stageItem (t : State) (i : FalriItem) : State :=
  match findObj i.index.toNat i.sub.toNat with
  | .obj o => if typeOk o i.value && o.acc != .wo && o.acc != .w1c then t.rawSet o i.sub.toNat i.value else t
  | _ => t

/-- The statuses of a message's items, in order, each tested with the values of those before it (R374, R558). -/
def State.checkItems (s fin : State) (path : Nat) (expert : Bool) : State → List FalriItem → List Nat
  | _, [] => []
  | t, i :: r =>
    let st := s.checkWrite t fin path expert i
    st :: s.checkItems fin path expert (if st = 0 then t.stageItem i else t) r

/-- The statuses of a WRITE or WRITE_MULTI on a path that may write (R374, R558). -/
def State.checkAll (s : State) (path : Nat) (items : List FalriItem) : List Nat :=
  s.checkItems (items.foldl State.stageItem s) path (sessionAfter s.falri.session items) s items

/-- OPLL_STATUS after the tests of a message (R221). -/
def State.noteItems (s : State) (items : List FalriItem) (sts : List Nat) : State :=
  let fin := items.foldl State.stageItem s
  (items.zip sts).foldl (fun t e => t.noteOpll fin e.1 e.2) s

/-- The Gatehouse refuses (R387, R397). -/
def State.denied (s : State) (path : Nat) : State :=
  ((s.count O.GATE_DENIED).setObj O.GATE_LAST_DENIED (if path < 49 then path else 0x40)).raise O.DICT_FLAGS 1

/-- The items of a message as a WRITE or WRITE_MULTI: all or none (R374). -/
def State.writeItems (s : State) (path : Nat) (items : List FalriItem) : State :=
  let sts := s.checkAll path items
  if sts.all (· == 0) then s.applyItems items else s.keeping (·.noteItems items sts)

/-- A write of one object by a path, Gatehouse first; no response is sent. -/
def State.objectWrite (s : State) (path : Nat) (index sub : Nat) (v : Bytes) : State :=
  if !s.mayWritePath path then s.keeping (·.denied path)
  else s.writeItems path [⟨BitVec.ofNat 16 index, BitVec.ofNat 8 sub, v⟩]

def execObjectWrite (path : Path) (index : BitVec 16) (sub : BitVec 8) (value : Bytes) (s : State) :
    Host.Outcome State Fault Refusal := run s (·.objectWrite (pathCode path) index.toNat sub.toNat value)

/-- A write of EP_REGISTRY (R410). -/
def execEpRegistryWrite (path : Path) (value : Bytes) (s : State) : Host.Outcome State Fault Refusal :=
  run s (·.objectWrite (pathCode path) O.EP_REGISTRY.index 0 value)

/-- A write of GATE_PORTS and then GATE_CHAIN (R387, R388). -/
def execGateWrite (path : Path) (ports : BitVec 64) (chain : Byte) (s : State) : Host.Outcome State Fault Refusal :=
  run s fun s =>
    (s.objectWrite (pathCode path) O.GATE_PORTS.index 0 (beBytes 8 ports.toNat)).objectWrite (pathCode path) O.GATE_CHAIN.index 0 [chain]

/-- A write of SYS_RESET (R509, R387). -/
def execSysReset (path : Path) (value : Byte) (s : State) : Host.Outcome State Fault Refusal :=
  run s (·.objectWrite (pathCode path) O.SYS_RESET.index 0 [value])

/-- A write of EXPERT_SESSION that has passed the Gatehouse (R365): 0xE7 or 0x00. -/
def execExpertSessionWrite (value : Byte) (s : State) : Host.Outcome State Fault Refusal :=
  run s (·.objectWrite hbusPath O.EXPERT_SESSION.index 0 [value])

/-- 60 s ± 0.1 s have passed since the session was last opened or restarted (R365). -/
def execExpertSessionExpire (s : State) : Host.Outcome State Fault Refusal :=
  runKeep s fun s => if s.elapsed s.falri.sessionAt 59900000000 then s.modFalri fun f => { f with session := false } else s

/-- The object that a window address reaches: INDEX and SUB, and its word (R439). -/
def windowAt (a : Nat) : Nat × Nat × Nat := let d := a - 0x60000000; (d / 4096, d / 16 % 256, d / 4 % 4)

/-- The engine's WIN_STATUS (R439, R441). -/
def State.winStatus (s : State) (e st : Nat) : State := s.modEng e fun g => { g with winStatus := st }

/-- A read of an object: the status, the value's octets, and the state after (R7, R9, R372). A WO object is refused. -/
def State.readAt (s : State) (index sub : Nat) : Nat × Bytes × State :=
  match findObj index sub with
  | .noObject => (1, [], s)
  | .noSub => (2, [], s)
  | .highest n => (0, [BitVec.ofNat 8 n], s)
  | .obj o => if o.acc = .wo then (3, [], s) else (0, s.valueBytes o sub, s.readClears o sub)

/-- The object that an index and a subindex name is a BLOB or STRING. -/
def blobAt (index sub : Nat) : Bool := match findObj index sub with | .obj o => o.isBlob | _ => false

/-- A load through the dictionary window (R439): a refused load returns 0. A BLOB or STRING cannot be reached. -/
def State.windowLoad (s : State) (e a : Nat) : State :=
  let (index, sub, w) := windowAt a
  if w = 1 then (s.winStatus e 0).emit (.value (s.eng e).winHeld)
  else if 2 ≤ w then (s.winStatus e 0).emit (.value 0)
  else
    let (st, v, t) := s.readAt index sub
    if st ≠ 0 then (s.winStatus e st).emit (.value 0)
    else if blobAt index sub then (s.winStatus e 6).emit (.value 0)
    else (t.modEng e fun g => { g with winHeld := ofBe v / 2 ^ 32, winStatus := 0 }).emit (.value (ofBe v % 2 ^ 32))

def execDictWindowLoad (e : Fin 12) (address : Word32) (s : State) : Host.Outcome State Fault Refusal :=
  runKeep s fun s => if s.engState e = 1 ∧ address.toNat / 2 ^ 28 = 6 ∧ address.toNat % 4 = 0 then (s.retire e).windowLoad e address.toNat else s

/-- A store through the dictionary window (R439), judged as an HBUS write: word 1 stages a high half, word 0 writes the object. -/
def State.windowStore (s : State) (e a v : Nat) : State :=
  let (index, sub, w) := windowAt a
  if w = 1 then s.keeping fun s => s.modEng e fun g => { g with winHi := v, winStatus := 0 }
  else if 2 ≤ w then s.keeping (·.winStatus e 0)
  else
    let width := match findObj index sub with | .obj o => if o.isBlob then 0 else o.ty.bytes | _ => 4
    let item : FalriItem :=
      ⟨BitVec.ofNat 16 index, BitVec.ofNat 8 sub, beBytes width (v + (s.eng e).winHi * 2 ^ 32)⟩
    let st := (s.checkAll hbusPath [item]).headD 0
    let s := s.keeping fun s => s.modEng e fun g =>
      { g with winHi := 0, winStatus := if blobAt index sub && st != 3 && st != 4 then 6 else st }
    if blobAt index sub then s else s.writeItems hbusPath [item]

def execDictWindowStore (e : Fin 12) (address value : Word32) (s : State) : Host.Outcome State Fault Refusal :=
  run s fun s =>
    if s.engState e = 1 ∧ address.toNat / 2 ^ 28 = 6 ∧ address.toNat % 4 = 0 then
      (s.keeping (·.retire e)).windowStore e address.toNat value.toNat else s

end Sys2Proof.Machine
end

