-- ==== Sys2Proof/Machine/Falri.lean ====
section
/-! DEFINITION. The Falri service of E8 (R366 to R388): taking a message, duplicates, relaying and proxy records, the ten
requests, responses, NOTIFY, the mailbox and the chain. -/

namespace Sys2Proof.Machine

/-- The BLOCK_WRITE items of a payload fill it exactly (R368, R376). -/
def blockWritesFill : Nat → Bytes → Bool
  | 0, b => b == []
  | n + 1, b => let v := 14 + octets b 12 2; decide (14 ≤ b.length ∧ v ≤ b.length) && blockWritesFill n (b.drop v)

/-- LEN is at most 1,024 and the items fill it exactly (R368), for the opcodes whose items have a layout. -/
def bodyOk (m : Msg) : Bool :=
  decide (m.payload.length ≤ 1024) &&
    match m.op with
    | 1 | 2 | 3 | 4 => (parseItems m.count m.payload).isSome
    | 5 => m.payload.length == 10 * m.count
    | 6 => blockWritesFill m.count m.payload
    | 7 | 8 => m.count != 0 || m.payload == []
    | 9 => m.payload.length == 10 * m.count
    | 10 => m.payload.length == 16 * m.count
    | _ => true

/-- The message status: the first ISTAT that is neither OK nor NOT_APPLIED (R372). -/
def firstBad (l : List Nat) : Nat := (l.find? fun x => x != 0 && x != stNotApplied).getD 0

/-- A response item without a value (R370). -/
def itemBytes (i : FalriItem) (st : Nat) (v : Bytes) : Bytes :=
  beBytes 2 i.index.toNat ++ beBytes 1 i.sub.toNat ++ beBytes 1 st ++ beBytes 2 v.length ++ v

/-- What a request is answered: STATUS, COUNT and items. -/
structure Reply where
  status  : Nat
  count   : Nat
  payload : Bytes
  deriving DecidableEq, Repr

/-- READ and READ_MULTI (R370, R373), item by item: the response so far, the statuses, and whether it is full. Each item that
follows needs its own six octets. -/
def State.readItems : State → Nat → Bool → List FalriItem → Bytes × List Nat × State
  | s, _, _, [] => ([], [], s)
  | s, room, full, i :: r =>
    let (st, v, t) := s.readAt i.index.toNat i.sub.toNat
    if full then let (p, l, u) := s.readItems room true r; (itemBytes i 13 [] ++ p, 13 :: l, u)
    else if st ≠ 0 then
      let (p, l, u) := s.readItems (room - 6) false r; (itemBytes i st [] ++ p, st :: l, u)
    else if room < 6 + v.length + 6 * r.length then
      let (p, l, u) := s.readItems room true r; (itemBytes i 13 [] ++ p, 13 :: l, u)
    else
      let (p, l, u) := t.readItems (room - 6 - v.length) false r; (itemBytes i 0 v ++ p, 0 :: l, u)

/-- READ and READ_MULTI (R371, R373). -/
def State.serveRead (s : State) (items : List FalriItem) : Reply × State :=
  let (p, l, t) := s.readItems 1024 false items
  (⟨firstBad l, items.length, p⟩, s.keeping fun _ => t)

/-- The ISTATs of a WRITE or WRITE_MULTI in its response (R374). -/
def appliedStatuses (sts : List Nat) : List Nat :=
  if sts.all (· == 0) then sts else sts.map fun x => if x = 0 then stNotApplied else x

/-- WRITE and WRITE_MULTI (R371, R374). A write that resets the part is not answered (R509). -/
def State.serveWrite (s : State) (path : Nat) (items : List FalriItem) : Option Reply × State :=
  let sts := s.checkAll path items
  let l := appliedStatuses sts
  let reply : Reply := ⟨firstBad l, items.length, (items.zip l).flatMap fun e => itemBytes e.1 e.2 []⟩
  (if sts.all (· == 0) && items.any itemReset then none else some reply, s.writeItems path items)

/-- A response item of BLOCK_READ (R375). -/
def blockReadItem (p : Bytes) (st total : Nat) (data : Bytes) : Bytes :=
  p.take 3 ++ beBytes 1 st ++ (p.drop 4).take 4 ++ beBytes 2 data.length ++ beBytes 4 total ++ data

/-- The read buffer of a requester for an object (R375). -/
def State.readBuf (s : State) (path src key : Nat) : Option ReadBuf :=
  s.falri.bufs.find? fun b => b.path == path && b.src == src && b.key == key

/-- A read buffer is used: it becomes the newest of at most four; the one used least recently goes (R375). -/
def State.useBuf (s : State) (path src key : Nat) (data : Bytes) : State :=
  s.modFalri fun f =>
    { f with bufs := (⟨path, src, key, data, s.hearth.cycles⟩ :: f.bufs.filter fun b => !(b.path == path && b.src == src)).take 4 }

/-- BLOCK_READ of a BLOB (R375). -/
def State.blockReadBlob (s : State) (path src : Nat) (o : Obj) (sub : Nat) (p : Bytes) : Reply × State :=
  let off := octets p 4 4
  let dlen := octets p 8 2
  let buf := s.readBuf path src (o.key sub)
  let total := match buf with | some b => if off = 0 then s.blobLen o sub else b.data.length | none => s.blobLen o sub
  let bad (st : Nat) : Reply × State := (⟨st, 1, blockReadItem p st total []⟩, s)
  if dlen = 0 ∨ 1000 < dlen ∨ total < off then bad 5
  else if off = 0 then
    let v := s.valueBytes o sub
    (⟨0, 1, blockReadItem p 0 v.length (v.take dlen)⟩, (s.readClears o sub).useBuf path src (o.key sub) v)
  else
    match buf with
    | none => bad 11
    | some b => (⟨0, 1, blockReadItem p 0 b.data.length ((b.data.drop off).take dlen)⟩, s.useBuf path src (o.key sub) b.data)

/-- BLOCK_READ (R375, R558). -/
def State.serveBlockRead (s : State) (path src : Nat) (p : Bytes) : Reply × State :=
  let bad (st total : Nat) : Reply × State := (⟨st, 1, blockReadItem p st total []⟩, s)
  match findObj (octets p 0 2) (octets p 2 1) with
  | .noObject => bad 1 0
  | .noSub => bad 2 0
  | .highest _ => bad 6 0
  | .obj o =>
    let sub := octets p 2 1
    if o.acc = .wo then bad 3 (if o.ty = .blob then s.blobLen o sub else 0)
    else if o.ty ≠ .blob then bad 6 0
    else let r := s.blockReadBlob path src o sub p; (r.1, s.keeping fun _ => r.2)

/-- The tests of a BLOCK_WRITE segment up to TOO_LONG (R376, R558); the expert session counts at the segment with FINAL (R366). -/
def State.segmentStatus (s : State) (p : Bytes) : Nat :=
  let flags := octets p 3 1
  let off := octets p 4 4
  let total := octets p 8 4
  let dlen := octets p 12 2
  match findObj (octets p 0 2) (octets p 2 1) with
  | .noObject => 1
  | .noSub => 2
  | .highest _ => 3
  | .obj o =>
    if o.acc = .ro ∨ o.acc = .rol ∨ o.acc = .rc ∨ o.acc = .const then 3
    else if o.exp ∧ bit flags 1 ∧ ¬ s.falri.session then 4
    else if o.ty ≠ .blob then 6
    else if dlen = 0 ∨ 1000 < dlen ∨ 4 ≤ flags ∨ total < off + dlen then 5
    else if o.maxLen < total ∨ 1048576 < total then 13
    else 0

/-- The staging buffer that a segment finds or opens, or the status that refuses it: 11 BLOCK_LOST, 12 BLOCK_SEQ (R376). -/
def State.stagingFor (s : State) (path src : Nat) (p : Bytes) : Except Nat Staging :=
  let flags := octets p 3 1
  let off := octets p 4 4
  let total := octets p 8 4
  let key := octets p 0 2 * 256 + octets p 2 1
  if bit flags 0 then
    if off ≠ 0 then .error 12 else .ok { path := path, src := src, key := key, total := total, data := [], at_ := 0 }
  else if s.falri.lostFrom.contains (path, src) then .error 11
  else
    match s.falri.staging with
    | none => .error 11
    | some g =>
      if g.path = path ∧ g.src = src ∧ g.key = key ∧ g.total = total ∧ off = g.data.length then .ok g else .error 12

/-- The staging buffer is opened, replaced or closed. A requester that loses an open one is remembered (R376). -/
def State.setStaging (s : State) (path src : Nat) (g : Option Staging) : State :=
  s.modFalri fun f =>
    let lost := f.lostFrom.filter (· != (path, src))
    { f with staging := g,
             lostFrom := match f.staging with
               | some q => if q.path = path ∧ q.src = src then lost else (q.path, q.src) :: lost
               | none => lost }

/-- A requester has been told BLOCK_LOST. -/
def State.forgetLost (s : State) (path src : Nat) : State :=
  s.modFalri fun f => { f with lostFrom := f.lostFrom.filter (· != (path, src)) }

/-- A response item of BLOCK_WRITE (R376). -/
def blockWriteItem (p : Bytes) (st : Nat) : Bytes := p.take 3 ++ beBytes 1 st ++ (p.drop 4).take 8 ++ [0, 0]

/-- BLOCK_WRITE on a path that may write (R376). -/
def State.serveBlockWrite (s : State) (path src : Nat) (p : Bytes) : Reply × State :=
  let flags := octets p 3 1
  let total := octets p 8 4
  let data := (p.drop 14).take (octets p 12 2)
  let answer (st : Nat) (t : State) : Reply × State := (⟨st, 1, blockWriteItem p st⟩, t)
  let st := s.segmentStatus p
  if st ≠ 0 then answer st s else
  match s.stagingFor path src p with
  | .error e => answer e (if e = 11 then s.keeping (·.forgetLost path src) else s)
  | .ok g =>
    let v := g.data ++ data
    if bit flags 1 then
      if v.length ≠ total then answer 12 s
      else
        let i : FalriItem := ⟨BitVec.ofNat 16 (octets p 0 2), BitVec.ofNat 8 (octets p 2 1), v⟩
        let t := s.keeping (·.setStaging path src none)
        answer ((t.checkAll path [i]).headD 0) (t.writeItems path [i])
    else answer 0 (s.keeping (·.setStaging path src (some { g with data := v, at_ := s.hearth.cycles })))

/-- COMMIT (R380, R393). -/
def State.serveCommit (s : State) : Reply × State :=
  if s.cfgBusy then (⟨7, 0, []⟩, s) else (⟨17, 0, []⟩, s.keeping (·.cfgCommit))

/-- ASSIGN_ID (R378, R408): a foreign SERIAL is ignored. IDs 1 and 2 are never assigned. -/
def State.serveAssign (s : State) (may : Bool) (path : Nat) (p : Bytes) : Option Reply × State :=
  let d := octets p 8 2
  if octets p 0 8 ≠ s.fuses.serial then (none, s)
  else if !may then (some ⟨stGatehouse, 0, []⟩, s.keeping (·.denied path))
  else if s.manager ∨ d < 3 ∨ 1023 < d then (some ⟨8, 1, p⟩, s)
  else (some ⟨0, 1, p⟩, s.keeping (·.takeId d))

/-- The Gatehouse refuses a request: every item, or the message where it has none (R387, R558). A BLOCK_WRITE's staging buffer
is discarded (R376). -/
def State.serveDenied (s : State) (path : Nat) (m : Msg) : Reply × State :=
  let t := s.keeping fun s =>
    let s := s.denied path
    match m.op, s.falri.staging with
    | 6, some g => if g.path = path ∧ g.src = m.src then s.modFalri fun f => { f with staging := none } else s
    | _, _ => s
  match m.op with
  | 2 | 4 =>
    let l := (parseItems m.count m.payload).getD []
    (⟨stGatehouse, l.length, l.flatMap fun i => itemBytes i stGatehouse []⟩, t)
  | 6 => (⟨stGatehouse, 1, blockWriteItem m.payload stGatehouse⟩, t)
  | _ => (⟨stGatehouse, 0, []⟩, t)

/-- COUNT lies in the column of R371. -/
def countOk (op count : Nat) : Bool :=
  match op with
  | 3 | 4 => decide (1 ≤ count ∧ count ≤ 64)
  | 7 | 8 => count == 0
  | _ => count == 1

/-- A request is executed (R371). A DISCOVER with DST ALL waits for its delay (R380, R406). -/
def State.serveRequest (s : State) (path : Path) (hdr : FalriHdr) (m : Msg) : Option Reply × State :=
  let p := pathCode path
  let may := s.mayWritePath p
  let some' (r : Reply × State) : Option Reply × State := (some r.1, r.2)
  if m.op = 0 ∨ 10 ≤ m.op then (some ⟨14, 0, []⟩, s)
  else if !countOk m.op m.count then (some ⟨15, 0, []⟩, s)
  else if m.op = 9 then s.serveAssign may p m.payload
  else if !may ∧ (m.op = 2 ∨ m.op = 4 ∨ m.op = 6 ∨ m.op = 7) then some' (s.serveDenied p m)
  else
    let items := (parseItems m.count m.payload).getD []
    match m.op with
    | 1 | 3 => some' (s.serveRead items)
    | 2 | 4 => s.serveWrite p items
    | 5 => some' (s.serveBlockRead p m.src m.payload)
    | 6 => some' (s.serveBlockWrite p m.src m.payload)
    | 7 => some' s.serveCommit
    | _ =>
      if addrKind m.dst = 2 then
        (none, if s.falri.deferred.contains (hdr, path) then s
               else s.keeping (·.modFalri fun f => { f with deferred := f.deferred ++ [(hdr, path)] }))
      else (some ⟨0, 0, s.discoverPayload⟩, s)

/-- The response to a request (R368, R369). -/
def State.responseTo (s : State) (m : Msg) (r : Reply) : Msg :=
  { op := m.op + 128, seq := m.seq, dst := m.src, src := s.ownAddr, hops := 16, status := r.status, count := r.count,
    payload := r.payload }

/-- The response leaves on the path of its request, and is kept (R377, R381). -/
def State.answer (s : State) (path : Path) (hdr : FalriHdr) (m : Msg) (r : Reply) : State :=
  let b := (s.responseTo m r).bytes
  let d : DupRec :=
    { path := pathCode path, src := m.src, seq := m.seq, op := m.op, crc := m.crc, at_ := s.hearth.cycles, resp := b }
  (s.sendPath (pathCode path) hdr.sa.toNat hdr.tag b).modFalri fun f => { f with dups := (d :: f.dups).take 16 }

/-- The stored response of a request that repeats one of the last 1 s (R377). -/
def State.duplicate (s : State) (path : Nat) (m : Msg) : Option DupRec :=
  s.falri.dups.find? fun d =>
    d.path == path && d.src == m.src && d.seq == m.seq && d.op == m.op && d.crc == m.crc && !s.elapsed d.at_ 1000000000

/-- A message one relay further (R383). -/
def Msg.relayed (m : Msg) : Msg := { m with hops := m.hops - 1 }

/-- A request with DST ALL goes on: down the tree, or is counted where its HOPS is used up (R383). OBSERVE relays nothing (R399). -/
def State.relayAll (s : State) (path : Nat) (m : Msg) : State :=
  if m.hops = 0 then s.count O.FALRI_ERR
  else if s.observer then s
  else forEach (s.lowerPorts.filter (· != path)) (fun s p => s.sendPort p 0 none m.relayed.bytes) s

/-- The path is one from which requests enter the hierarchy: Ethernet, the chain or HBUS (R383). -/
def State.entry (s : State) (path : Nat) : Bool := path == chainPath || path == hbusPath || !s.native path

/-- A proxy record, if there is room among 64 (R383). -/
def State.addProxy (s : State) (path : Nat) (hdr : FalriHdr) (m : Msg) : State :=
  if s.falri.proxies.length < 64 then
    s.modFalri fun f => { f with proxies := f.proxies ++
      [{ path := path, src := m.src, seq := m.seq, dst := m.dst, mac := hdr.sa.toNat, tag := hdr.tag, at_ := s.hearth.cycles }] }
  else s

/-- A message with DST DEVICE naming another part is relayed into the native hierarchy (R383). -/
def State.relayDevice (s : State) (path : Nat) (hdr : FalriHdr) (m : Msg) (record : Bool) : State :=
  if m.hops = 0 then (if path = chainPath then s else s.count O.FALRI_ERR)
  else if s.observer then s
  else
    match s.routePort (addrValue m.dst) with
    | none => s
    | some q =>
      let s := if record && s.entry path then s.addProxy path hdr m else s
      s.sendPort q 0 none m.relayed.bytes

/-- A message that this part does not take as its own (R383, R384; log entry 23). -/
def State.forwardOn (s : State) (path : Nat) (hdr : FalriHdr) (m : Msg) (record : Bool) : State :=
  let s := if path = chainPath then s.emit (.message chainPath m.bytes) else s
  match addrKind m.dst with
  | 0 => if addrValue m.dst = 0 then s else s.relayDevice path hdr m record
  | 1 =>
    if path = chainPath ∨ ¬ bit s.power.straps.toNat 2 then s
    else (if record then s.addProxy path hdr m else s).emit (.message chainPath m.bytes)
  | _ => s

/-- The head removes a message whose SRC is its own chain address (R384). -/
def State.headRemoves (s : State) (path src : Nat) : Bool :=
  path == chainPath && bit s.power.straps.toNat 2 && addrKind src == 1 && addrValue src == s.obj O.CHAIN_ADDR_ACT

/-- A request that this part takes as its own (R369, R377, R383). -/
def State.ownRequest (s : State) (path : Path) (hdr : FalriHdr) (m : Msg) : State :=
  match s.duplicate (pathCode path) m with
  | some d => s.keeping fun s => (s.count O.FALRI_DUP).sendPath (pathCode path) hdr.sa.toNat hdr.tag d.resp
  | none =>
    let s := s.keeping fun s =>
      let s := s.count O.FALRI_RX
      if addrKind m.dst ≠ 2 then s
      else
        let s := s.relayAll (pathCode path) m
        if path = .chain then s.emit (.message chainPath m.bytes) else s
    match s.serveRequest path hdr m with
    | (some r, t) => t.keeping (·.answer path hdr m r)
    | (none, t) => t

/-- A request arrives (R369, R383, R384). -/
def State.requestIn (s : State) (path : Path) (hdr : FalriHdr) (m : Msg) : State :=
  let p := pathCode path
  if s.headRemoves p m.src then s
  else if s.ownDst p m.dst then s.ownRequest path hdr m
  else s.keeping (·.forwardOn p hdr m true)

/-- The proxy record that a response belongs to (R383). -/
def State.proxyFor (s : State) (m : Msg) : Option Proxy :=
  s.falri.proxies.find? fun q => q.src == m.dst && q.seq == m.seq && (addrKind q.dst == 1 || q.dst == m.src)

/-- A response returns along its proxy record, or is routed by its DST (R383). -/
def State.responseIn (s : State) (path : Nat) (hdr : FalriHdr) (m : Msg) : State :=
  if s.headRemoves path m.src then s
  else
    match s.proxyFor m with
    | some q => s.sendPath q.path q.mac q.tag m.bytes
    | none =>
      if s.ownDst path m.dst then
        (if path = chainPath ∧ bit s.power.straps.toNat 2 then s.mbDeliver m.bytes false else s)
      else s.forwardOn path hdr m false

/-- A NOTIFY arrives: it goes toward its DST, or to this part's host through the mailbox (R379, R386). It is never answered. -/
def State.notifyIn (s : State) (path : Nat) (hdr : FalriHdr) (m : Msg) : State :=
  if s.headRemoves path m.src then s
  else if s.ownDst path m.dst then (if s.falri.mbNotify then s.mbDeliver m.bytes true else s)
  else s.forwardOn path hdr m false

/-- A message that fails R368 is discarded and counted; REQ_ERR tells the host of its own (R386). -/
def State.discardMsg (s : State) (path : Nat) : State :=
  (s.count O.FALRI_ERR).modFalri fun f => { f with mbErr := f.mbErr || path == hbusPath }

/-- A message arrives (R368, R407). -/
def State.messageIn (s : State) (path : Path) (hdr : FalriHdr) (m : Msg) : State :=
  let p := pathCode path
  if !bodyOk m then s.keeping (·.discardMsg p) else
  let s := s.keeping (·.learnDev p m.src)
  if 128 ≤ m.op then s.keeping (·.responseIn p hdr m)
  else if m.op = 10 then s.keeping (·.notifyIn p hdr m)
  else s.requestIn path hdr m

/-- A message made of the requester's header fields (R368). -/
def msgOf (hdr : FalriHdr) (op count : Nat) (payload : Bytes) : Msg :=
  { op := op, seq := hdr.seq.toNat, dst := hdr.dst.toNat, src := hdr.src.toNat, hops := hdr.hops.toNat, status := 0,
    count := count, payload := payload }

/-- The header fields of a message that came as octets. -/
def hdrOf (m : Msg) : FalriHdr :=
  ⟨BitVec.ofNat 16 m.seq, BitVec.ofNat 16 m.dst, BitVec.ofNat 16 m.src, BitVec.ofNat 8 m.hops, 0, none⟩

def execRead (path : Path) (hdr : FalriHdr) (item : FalriItem) (s : State) : Host.Outcome State Fault Refusal :=
  run s (·.messageIn path hdr (msgOf hdr 1 1 (FalriItem.bytes item)))

def execWrite (path : Path) (hdr : FalriHdr) (item : FalriItem) (s : State) : Host.Outcome State Fault Refusal :=
  run s (·.messageIn path hdr (msgOf hdr 2 1 (FalriItem.bytes item)))

def execReadMulti (path : Path) (hdr : FalriHdr) (items : List FalriItem) (s : State) : Host.Outcome State Fault Refusal :=
  run s (·.messageIn path hdr (msgOf hdr 3 items.length (items.flatMap FalriItem.bytes)))

def execWriteMulti (path : Path) (hdr : FalriHdr) (items : List FalriItem) (s : State) : Host.Outcome State Fault Refusal :=
  run s (·.messageIn path hdr (msgOf hdr 4 items.length (items.flatMap FalriItem.bytes)))

def execBlockRead (path : Path) (hdr : FalriHdr) (item : BlockReadItem) (s : State) : Host.Outcome State Fault Refusal :=
  run s (·.messageIn path hdr (msgOf hdr 5 1 (BlockReadItem.bytes item)))

def execBlockWrite (path : Path) (hdr : FalriHdr) (item : BlockWriteItem) (s : State) : Host.Outcome State Fault Refusal :=
  run s (·.messageIn path hdr (msgOf hdr 6 1 (BlockWriteItem.bytes item)))

def execCommit (path : Path) (hdr : FalriHdr) (s : State) : Host.Outcome State Fault Refusal :=
  run s (·.messageIn path hdr (msgOf hdr 7 0 []))

def execDiscover (path : Path) (hdr : FalriHdr) (s : State) : Host.Outcome State Fault Refusal :=
  run s (·.messageIn path hdr (msgOf hdr 8 0 []))

def execAssignId (path : Path) (hdr : FalriHdr) (serial : BitVec 64) (device : BitVec 16) (s : State) :
    Host.Outcome State Fault Refusal :=
  run s (·.messageIn path hdr (msgOf hdr 9 1 (beBytes 8 serial.toNat ++ beBytes 2 device.toNat)))

/-- A response arrives as octets (R383). -/
def execFalriResponse (path : Path) (message : Bytes) (s : State) : Host.Outcome State Fault Refusal :=
  runKeep s fun s =>
    match parseMsg message with
    | none => s.discardMsg (pathCode path)
    | some m => if 128 ≤ m.op then (s.learnDev (pathCode path) m.src).responseIn (pathCode path) (hdrOf m) m else s

/-- A message arrives that may fail R368, or has an unknown opcode or a bad COUNT (R368, R371). -/
def execFalriErr (path : Path) (message : Bytes) (s : State) : Host.Outcome State Fault Refusal :=
  run s fun s =>
    match parseMsg message with
    | none => s.keeping (·.discardMsg (pathCode path))
    | some m => s.messageIn path (hdrOf m) m

def execNotifyReceive (path : Path) (hdr : FalriHdr) (index : BitVec 16) (sub : BitVec 8) (bits : BitVec 32) (time : BitVec 64)
    (s : State) : Host.Outcome State Fault Refusal :=
  run s (·.messageIn path hdr (msgOf hdr 10 1 (beBytes 2 index.toNat ++ beBytes 1 sub.toNat ++ [0] ++ beBytes 4 bits.toNat ++
    beBytes 8 time.toNat)))

/-- After its random delay the part answers a DISCOVER that was addressed to ALL (R406). -/
def State.discoverAnswer (s : State) (hdr : FalriHdr) : State :=
  match s.falri.deferred.find? fun d => d.1 == hdr with
  | none => s
  | some d =>
    let s := s.modFalri fun f => { f with deferred := f.deferred.erase d }
    s.answer d.2 hdr (msgOf hdr 8 0 []) ⟨0, 0, s.discoverPayload⟩

def execDiscoverAnswer (hdr : FalriHdr) (s : State) : Host.Outcome State Fault Refusal := runKeep s (·.discoverAnswer hdr)

/-- Where a NOTIFY goes (R379, R396): the mailbox while it delivers NOTIFYs, the house port, or the port toward device 1. -/
inductive NotifyWay where
  | mailbox
  | house
  | up (p : Nat)
  deriving DecidableEq, Repr

/-- The way of NOTIFY_PATH that is open, if one is. -/
def State.notifyWay (s : State) : Option NotifyWay :=
  match s.obj O.NOTIFY_PATH with
  | 1 => if s.falri.mbNotify then some .mailbox else none
  | 2 => some .house
  | 3 => (s.routePort 1).map .up
  | _ => none

/-- The NOTIFYs that left within the last 1 s (R379). -/
def State.notifyRecent (s : State) : List Nat := s.falri.notifyAt.filter fun t => !s.elapsed t 1000000000

/-- A NOTIFY leaves with the bits newly raised in one object, unless NOTIFY_RATE of them left in the last 1 s: then the bits wait and
merge (R379, log entry 62). The DST of one that no relay carries is not stated (log entry 3). -/
def State.notifySend (s : State) (index sub : Nat) : State :=
  let key := index * 256 + sub
  let b := Tab.get s.falri.notify 0 key
  match s.notifyWay with
  | none => s
  | some w =>
    if b = 0 ∨ s.obj O.NOTIFY_RATE ≤ s.notifyRecent.length then s else
    let (q, s) := s.nextSeq
    let s := s.modFalri fun f => { f with notify := Tab.set f.notify 0 key 0, notifyAt := s.hearth.cycles :: s.notifyRecent }
    let payload := beBytes 2 index ++ beBytes 1 sub ++ [0] ++ beBytes 4 b ++ beBytes 8 s.stamp
    let m : Msg := { op := 10, seq := q, dst := 1, src := s.ownAddr, hops := 16, status := 0, count := 1, payload := payload }
    let local_ : Msg := { m with dst := (Config.openValue s.free).toNat % 65536 }
    match w with
    | .up p => s.sendPort p 0 none m.bytes
    | .house => s.fresh.sendPort housePort (s.obj O.HOUSE_HOST_MAC) none local_.bytes
    | .mailbox => s.fresh.mbDeliver local_.bytes true

def execNotifySend (index : BitVec 16) (sub : BitVec 8) (s : State) : Host.Outcome State Fault Refusal :=
  runKeep s (·.notifySend index.toNat sub.toNat)

/-- Proxy records of requests that lie 1 s back lapse (R383). -/
def execProxyExpire (s : State) : Host.Outcome State Fault Refusal :=
  runKeep s fun s => s.modFalri fun f => { f with proxies := f.proxies.filter fun q => !s.elapsed q.at_ 1000000000 }

/-- The read buffer that stands at a place of the list, newest first, lapses 10 s after its last use (R375). -/
def execReadBufferLapse (slot : Fin 4) (s : State) : Host.Outcome State Fault Refusal :=
  runKeep s fun s =>
    match s.falri.bufs[slot.val]? with
    | some b => if s.elapsed b.at_ 10000000000 then s.modFalri fun f => { f with bufs := f.bufs.eraseIdx slot } else s
    | none => s

/-- The staging buffer lapses 10 s after its last segment (R376): its requester's next segment finds it gone. -/
def execStagingLapse (s : State) : Host.Outcome State Fault Refusal :=
  runKeep s fun s =>
    match s.falri.staging with
    | none => s
    | some g =>
      if !s.elapsed g.at_ 10000000000 then s else
      s.modFalri fun f => { f with staging := none, lostFrom := (g.path, g.src) :: f.lostFrom.filter (· != (g.path, g.src)) }

/-- The host submits a request through the mailbox (R386). The write of GO carries NOTIFY_EN. -/
def State.mailboxGo (s : State) (request : Bytes) (en : Bool) : State :=
  let s := s.keeping fun s => s.modFalri fun f =>
    { f with mbReq := Tab.setRun f.mbReq 0 0 (request.take 2048), mbLen := request.length % 2048, mbNotify := en }
  if request.length < 18 ∨ 1042 < request.length then s.keeping (·.discardMsg hbusPath) else
  match parseMsg request with
  | none => s.keeping (·.discardMsg hbusPath)
  | some m => s.messageIn .hbus (hdrOf m) m

def execMailboxGo (request : Bytes) (notifyEn : Bool) (s : State) : Host.Outcome State Fault Refusal :=
  run s (·.mailboxGo request notifyEn)

/-- The part is the head of its chain (R384, R511). -/
def State.chainHead (s : State) : Bool := bit s.power.straps.toNat 2

/-- The head sends an enumeration frame (R385). -/
def State.enumerate (s : State) : State :=
  if !s.chainHead then s else
  let a := if s.obj O.CHAIN_ADDR = 0 then 1 else s.obj O.CHAIN_ADDR
  ((s.setObj O.CHAIN_ADDR_ACT a).modFalri fun f => { f with enumOut := true }).emit (.chainFrame (beBytes 1 (a + 1)))

def execChainEnumerate (s : State) : Host.Outcome State Fault Refusal := runKeep s (·.enumerate)

/-- An enumeration frame arrives (R385): at the head it ends the enumeration, elsewhere it gives the address and goes on. -/
def State.enumFrame (s : State) (v : Nat) : State :=
  if s.chainHead then (s.setObj O.CHAIN_LEN (v + 255)).modFalri fun f => { f with enumOut := false }
  else
    let fixed := s.obj O.CHAIN_ADDR
    let over_ := fixed = 0 ∧ 64 ≤ v
    let a := if fixed ≠ 0 then fixed else if 64 ≤ v then 0 else v
    let s := if over_ then s.raise O.DICT_FLAGS 2 else s
    (s.setObj O.CHAIN_ADDR_ACT a).emit (.chainFrame (beBytes 1 (a + 1)))

def execChainEnumFrame (value : Byte) (s : State) : Host.Outcome State Fault Refusal := runKeep s (·.enumFrame value.toNat)

/-- The frame has not returned within 1 ms (R385). -/
def execChainBreak (s : State) : Host.Outcome State Fault Refusal :=
  runKeep s fun s =>
    if s.chainHead ∧ s.falri.enumOut then (s.modFalri fun f => { f with enumOut := false }).raise O.DICT_FLAGS 3 else s

end Sys2Proof.Machine
end

