-- ==== Sys2Proof/Machine/Boot.lean ====
section
/-! DEFINITION. Resets and first light (R201, R391, R392, R509 to R513): the resets as commands, the boot loader's choice of
firmware, its segments, the configuration load, and the start of the Hearth. -/

namespace Sys2Proof.Machine

/-- One segment of a firmware body (R513). -/
structure Segment where
  target : Nat
  space  : Nat
  offset : Nat
  data   : Bytes
  deriving DecidableEq, Repr

/-- A segment names no user engine and lies within its space (R513). -/
def segmentOk (target space offset len : Nat) : Bool :=
  if space = 2 then target == 0x8000 && decide (offset + len ≤ 0x80000)
  else decide (space < 2 ∧ target < 1024 ∧ offset + len ≤ 0x10000)

/-- The segments of a firmware body; none where one of them invalidates the copy, or the body does not end as R513 says. -/
def segmentsFrom : Nat → Bytes → Option (List Segment)
  | 0, _ => none
  | n + 1, b =>
    let target := octets b 0 2
    let len := octets b 8 4
    if b.length < 12 then none
    else if len = 0 ∧ target = 0 then some []
    else if ¬ segmentOk target (octets b 2 1) (octets b 4 4) len ∨ b.length < 12 + len then none
    else
      (segmentsFrom n (b.drop (12 + (len + 3) / 4 * 4))).map
        (⟨target, octets b 2 1, octets b 4 4, (b.drop 12).take len⟩ :: ·)

/-- The segments of a body. -/
def segments (b : Bytes) : Option (List Segment) := segmentsFrom (b.length + 1) b

/-- A segment is loaded (R513). -/
def State.loadSegment (s : State) (g : Segment) : State :=
  match g.space with
  | 2 => s.pantryWrite g.offset g.data
  | 1 => forEach (bitsOf g.target 10) (fun s e => s.modEng e fun x => { x with dtcm := Tab.setRun x.dtcm 0 g.offset g.data }) s
  | _ => forEach (bitsOf g.target 10) (fun s e => s.modEng e fun x => { x with itcm := Tab.setRun x.itcm 0 g.offset g.data }) s

/-- A firmware copy may be started (R391, R513). -/
def State.firmwareOk (s : State) (c : Nat) : Bool :=
  s.copyValid fwMagic (fwBase c) && (segments (s.copyBody (fwBase c))).isSome

/-- The loader chooses and loads a firmware copy, the resident firmware where neither is valid, and starts E0 to E9 (R512, R513).
FW_VERSION is the firmware's, which the spec leaves open. -/
def State.firmwareLoad (s : State) : State :=
  let c := chooseCopy (s.firmwareOk 0) (s.firmwareOk 1) (s.copySeq (fwBase 0)) (s.copySeq (fwBase 1))
  let s :=
    match c with
    | none => s.setObj O.FW_LOADED 0xFE
    | some c => forEach ((segments (s.copyBody (fwBase c))).getD []) State.loadSegment (s.setObj O.FW_LOADED c)
  let s := (s.setObj O.FW_VERSION (Config.openValue s.free).toNat).fresh
  forEach (List.range 10) (fun s e => s.startEngine e) s

/-- One record is tested (R392): the status with which it is skipped, 0 when it is applied. -/
def State.recordCheck (s : State) (r : Nat × Nat × Nat × Bytes) : Nat :=
  match findObj r.1 r.2.1 with
  | .obj o =>
    if o.acc ≠ .rws then 3
    else if r.2.2.1 ≠ o.ty.code then 6
    else s.checkObj s (s.rawSet o r.2.1 r.2.2.2) hbusPath true o r.2.1 r.2.2.2
  | .noObject => 1
  | _ => 2

/-- One record is applied (R392). What it sets for clocks, groups and lanes acts when those start (R512). -/
def State.recordApply (s : State) (r : Nat × Nat × Nat × Bytes) : State :=
  match findObj r.1 r.2.1 with
  | .obj o =>
    if o.index = O.CLK_F0.index then
      let s := s.rawSet o r.2.1 r.2.2.2
      { s with clk := { s.clk with f0 := ofBe r.2.2.2 } }
    else if o.index = O.GROUP_MODE.index ∨ o.index = O.GROUP_N.index ∨ o.index = O.PORT_FEC.index ∨
        o.index = O.CLKOUT_PHASE.index ∨ (opllOf o r.2.1).isSome then
      s.rawSet o r.2.1 r.2.2.2
    else s.writePlain o r.2.1 r.2.2.2
  | _ => s

/-- A pass over records: each is applied or skipped, and those that are skipped are answered with their statuses, in order. -/
def State.recordPass (s : State) : List (Nat × Nat × Nat × Bytes) → List (Nat × Nat × Nat × Nat × Bytes) × State
  | [] => ([], s)
  | r :: rs =>
    let st := s.recordCheck r
    if st = 0 then (s.recordApply r).recordPass rs
    else
      let (l, s) := s.recordPass rs
      ((st, r) :: l, s)

/-- The records skipped for RANGE or REFUSED are tried once more, in body order (R392). -/
def State.recordRetry (s : State) : List (Nat × Nat × Nat × Nat × Bytes) → List (Nat × Nat × Nat × Nat × Bytes) × State
  | [] => ([], s)
  | (st, r) :: rs =>
    let again := if st = 5 ∨ st = 8 then s.recordCheck r else st
    if again = 0 then (s.recordApply r).recordRetry rs
    else
      let (l, s) := s.recordRetry rs
      ((again, r) :: l, s)

/-- The records of a configuration are loaded (R392). -/
def State.loadRecords (s : State) (rs : List (Nat × Nat × Nat × Bytes)) : State :=
  let (skipped, s) := s.recordPass rs
  let (left, s) := s.recordRetry skipped
  match left with
  | [] => s
  | (st, r) :: _ =>
    ((s.setObj O.CFG_SKIPPED left.length).setObj O.CFG_SKIP_FIRST (st * 2 ^ 24 + r.1 * 256 + r.2.1)).raise O.DICT_FLAGS 4

/-- The configuration that start-up loads (R391). -/
def State.configChoice (s : State) : Option Nat :=
  chooseCopy (s.copyValid cfgMagic (cfgBase 0)) (s.copyValid cfgMagic (cfgBase 1)) (s.copySeq (cfgBase 0)) (s.copySeq (cfgBase 1))

/-- The configuration loads, or the defaults stay (R391). -/
def State.configLoad (s : State) : State :=
  match s.configChoice with
  | none => (s.setObj O.CFG_LOADED 0xFF).raise O.DICT_FLAGS 5
  | some c =>
    ((s.setObj O.CFG_LOADED c).setObj O.CFG_SEQ (s.copySeq (cfgBase c))).loadRecords (recordsOf (s.copyBody (cfgBase c)))

/-- The Hearth starts at 0 in FREE, HEARTH_RATE taken from FREE_RATE (R20, R25). -/
def State.hearthStart (s : State) : State :=
  (s.modHearth fun _ => { Dflt.hearth with state := .free, running := true }).setObjI O.HEARTH_RATE (s.objI O.FREE_RATE)

/-- First light (R512): firmware, configuration, clocks, the Hearth, and what starts with them. `ms` is the time since the
release from reset (BOOT_MS). -/
def State.boot (s : State) (ms : Nat) : State :=
  if s.power.booted ∨ s.pllState 0 ≠ 2 then s
  else
    let s := (s.firmwareLoad.configLoad).setObj O.BOOT_MS (min ms (2 ^ 32 - 1))
    let s := (s.setObj O.MAC_ACT s.macFrom).clockStart.hearthStart
    let s := s.twinBoot.calBoot.caravanBoot
    let s := (s.userBoot 10).userBoot 11
    s.modPower fun w => { w with booted := true }

def execBootLoaderStart (ms : Nat) (s : State) : Host.Outcome State Fault Refusal := run s (·.boot ms)

/-- POR_N deasserts: the whole part is reset (R509). -/
def execPowerOnReset (straps : BitVec 5) (s : State) : Host.Outcome State Fault Refusal := .next (s.resetTo 2 true straps)

/-- A pulse on RST_N (R509). -/
def execWarmReset (straps : BitVec 5) (s : State) : Host.Outcome State Fault Refusal := .next (s.resetTo 4 false straps)

/-- VDD_CORE, VDD_SRAM or VDDIO falls below 90 %: the part holds itself in reset (R509). -/
def execRailUndervoltage (_rail : WatchedRail) (s : State) : Host.Outcome State Fault Refusal := .next (if s.power.railDown then s else s.holdReset true 2)

/-- The watched rails are back: the part releases itself (R509, R511). -/
def execRailRestore (straps : BitVec 5) (s : State) : Host.Outcome State Fault Refusal :=
  .next (if s.power.railDown then s.release true straps else s)

/-- The SPLL is lost or XO is absent: internal reset, with its cause (R201, R531). -/
def execXoLoss (cause : XoFailure) (s : State) : Host.Outcome State Fault Refusal :=
  .next (if s.power.xoDown then s else s.holdReset false (match cause with | .spllLost => 16 | .xoAbsent => 8))

/-- XO has been present for 10 ms: the part starts as after RST_N (R201, R511). -/
def execXoRestore (straps : BitVec 5) (s : State) : Host.Outcome State Fault Refusal :=
  .next (if s.power.xoDown then s.release false straps else s)

/-- What the block does on its own when no command waits (log entry 25): one HEARTH cycle passes (R15), and the last segment of an
epoch is handed over (R425, log entry 16). -/
def State.idle (s : State) : State := if s.held then s else s.keeping fun s => (s.hearthRun 1).epochFinish

end Sys2Proof.Machine
end

