-- ==== Sys2Proof/Machine/Hbus.lean ====
section
/-! DEFINITION. The registers as the host sees them over HBUS (R47, R386, R442, R458, R548), and as an engine sees them in its
device window (R441, R443). The table has rows for the accesses that do something at a moment of their own (HBUS_TIME_READ,
HOST_CLAIM, MAILBOX_GO ...); these operations give every register at its address, those rows' registers through the same
operations. -/

namespace Sys2Proof.Machine

/-- Four octets of a table as a little-endian word (R5). -/
def wordLe (t : Memory) (a : Nat) : Nat := ofLe (Tab.getRun t 0 a 4)

/-- HOST_EN of one word: ENABLE of its shared sources (R458). -/
def State.hostEn (s : State) (w : Nat) : Nat :=
  ((List.range 32).map fun b => bits (s.srcCfg (32 * w + b)) 31 31 * 2 ^ b).sum

/-- The value of an HBUS register that a read leaves as it is (R47, R386, R458, R548). -/
def State.hbusValue (s : State) (a : Nat) : Nat :=
  if a % 4 ≠ 0 then 0
  else if a < 0x10 then s.hearthWindow a
  else if a = 0x200 then s.falri.mbLen % 2048 * 65536 + 2 * b2n s.falri.mbNotify
  else if a = 0x204 then
    (match s.falri.mbHeld with
     | some (m, note) => m.length % 2048 * 65536 + 4 * b2n note + 2
     | none => 0) + b2n s.falri.mbErr
  else if a = 0x300 then s.irq.page
  else if a = 0x408 then s.irq.hostThr
  else if a = 0x40C then s.irq.hostCount
  else if 0x420 ≤ a ∧ a < 0x440 then s.pendWord ((a - 0x420) / 4)
  else if 0x440 ≤ a ∧ a < 0x460 then s.hostEn ((a - 0x440) / 4)
  else if 0x1000 ≤ a ∧ a < 0x1800 then wordLe s.falri.mbReq (a - 0x1000)
  else if 0x1800 ≤ a ∧ a < 0x2000 then
    (match s.falri.mbHeld with | some (m, _) => ofLe ((m.drop (a - 0x1800)).take 4) | none => 0)
  else if 0x8000 ≤ a ∧ a < 0x10000 then wordLe s.pantry (s.irq.page * 0x8000 + (a - 0x8000))
  else 0

/-- A read over HBUS: the shadow capture of 0x0000 (R47), the claim (R455) and the semaphores (R442) act; the others only read. A
transfer off its word boundary has no effect and reads 0 (R548). -/
def State.hbusRead (s : State) (a : Nat) : State :=
  if a % 4 ≠ 0 then s.emit (.value 0)
  else if a = 0 then
    (s.modHearth fun h => { h with shadowFrac := s.stamp % 2 ^ 32, shadowWrap := s.obj O.HEARTH_WRAP }).emit (.value s.ns)
  else if a = 0x400 then (s.claim 12).2.emit (.value (s.claim 12).1)
  else if 0x600 ≤ a ∧ a < 0x700 then s.semRead 12 ((a - 0x600) / 4)
  else s.emit (.value (s.hbusValue a))

/-- A write over HBUS (R386, R442, R458, R548): pages 0 to 15 of the Pantry are read-only. -/
def State.hbusWrite (s : State) (a v : Nat) : State :=
  if a % 4 ≠ 0 then s
  else if a = 0x200 then
    let len := bits v 26 16
    if bit v 0 then s.mailboxGo (Tab.getRun s.falri.mbReq 0 0 len) (bit v 1)
    else s.modFalri fun f => { f with mbLen := len, mbNotify := bit v 1 }
  else if a = 0x204 then
    let s := s.modFalri fun f => { f with mbErr := f.mbErr && !bit v 0 }
    if bit v 1 then s.mbRelease else s
  else if a = 0x300 then s.modIrq fun q => { q with page := v % 32 }
  else if a = 0x404 then s.complete 12 (v % 1024)
  else if a = 0x408 then (s.modIrq fun q => { q with hostThr := v % 16 }).irqPresent
  else if a = 0x410 then s.swiSet (v % 16)
  else if 0x440 ≤ a ∧ a < 0x460 then s.setHostEn ((a - 0x440) / 4) v
  else if 0x600 ≤ a ∧ a < 0x700 then s.semWrite 12 ((a - 0x600) / 4) v
  else if 0x1000 ≤ a ∧ a < 0x1800 then
    s.modFalri fun f => { f with mbReq := Tab.setRun f.mbReq 0 (a - 0x1000) (leBytes 4 v) }
  else if 0x8000 ≤ a ∧ a < 0x10000 ∧ 16 ≤ s.irq.page then
    s.pantryWrite (s.irq.page * 0x8000 + (a - 0x8000)) (leBytes 4 v)
  else s

/-- A word of a sink or local mailbox as an engine loads it (R443). -/
def State.mailboxWord (s : State) (sink : Bool) (m off : Nat) : Nat :=
  let b := if sink then s.smbox m else s.lmbox m
  if off < 64 then ofLe (((beBytes 64 b.payload).drop off).take 4)
  else if off = 64 then (if sink then b.user % 2 ^ 32 else b.user % 256)
  else if off = 68 then (if sink then b.user / 2 ^ 32 % 2 ^ 32 else 2 * b2n b.mark + b2n b.full)
  else if sink ∧ off = 72 then b.ns % 2 ^ 32
  else if sink ∧ off = 76 then 2 * b2n b.mark + b2n b.full
  else 0

/-- A device register as engine `e` loads it, the semaphores apart, whose load acts (R441 to R443). -/
def State.deviceValue (s : State) (e a : Nat) : Nat :=
  let d := a - 0x40000000
  if d < 0x400 then s.srcCfg (d / 4)
  else if d < 0x450 then s.pendWord ((d - 0x400) / 4)
  else if 0x480 ≤ d ∧ d < 0x500 then s.srcCfg (256 + 32 * e + (d - 0x480) / 4)
  else if (d = 0x800 ∨ d = 0x804 ∨ d = 0x808) ∧ (e = 10 ∨ e = 11) then
    (match d with
     | 0x800 => s.obj O.TDMA_HEAD (e - 8)
     | 0x804 => s.obj O.TDMA_TAIL (e - 8)
     | _ => s.obj O.TDMA_STATUS (e - 8))
  else if d = 0x900 then (s.eng e).winStatus
  else if 0x2000 ≤ d ∧ d < 0x4000 then s.mailboxWord false ((d - 0x2000) / 128) (d % 128)
  else if 0x4000 ≤ d ∧ d < 0x6000 then s.mailboxWord true ((d - 0x4000) / 128) (d % 128)
  else 0

/-- A store to a device register by engine `e` (R441 to R443, R453): SRC_CFG takes the writes of E10 and E11, PRIV_CFG those of its own
engine, a ring's registers those of the engine whose ring it is. -/
def State.deviceWrite (s : State) (e a v : Nat) : State :=
  let d := a - 0x40000000
  if d < 0x400 then (if 10 ≤ e then s.engSrcCfg (d / 4) v else s)
  else if 0x480 ≤ d ∧ d < 0x500 then
    (s.setSrcCfg (256 + 32 * e + (d - 0x480) / 4) (bits v 31 31 * 2 ^ 31 + bits v 27 24 * 2 ^ 24 + bits v 15 0)).irqPresent
  else if d = 0x500 then s.doorbell v
  else if d = 0x504 then s.swiSet v
  else if 0x600 ≤ d ∧ d < 0x700 then s.semWrite e ((d - 0x600) / 4) v
  else if d = 0x800 ∧ 10 ≤ e then s.setObj O.TDMA_HEAD (v % 65536) (e - 8)
  else if d = 0x80C ∧ 10 ≤ e then
    (match v % 256 with
     | 1 => s.tdmaStart (e - 9)
     | 2 => s.tdmaStop (e - 9)
     | 3 => s.tdmaAbort (e - 9) false
     | 4 => s.tdmaReset (e - 9)
     | c => s.cmdStatus O.TDMA_STATUS (e - 8) c 4)
  else s

/-- A load of a device register (R441). -/
def State.deviceRead (s : State) (e a : Nat) : State :=
  let d := a - 0x40000000
  if 0x600 ≤ d ∧ d < 0x700 then s.semRead e ((d - 0x600) / 4) else s.emit (.value (s.deviceValue e a))

end Sys2Proof.Machine
end

