-- ==== Sys2Proof/Machine/Package.lean ====
section
/-! DEFINITION. The ball map (R533 to R540): what stands at each of the 2,809 balls, from the rules of the spec. Nothing of the
machine's state depends on it. -/

namespace Sys2Proof.Machine

/-- The use of a ball. -/
inductive BallUse where
  | vss | vddCore | vddSram | avddLane | avddLaneH | avddPll | vddio | vddio3v3
  | lane (n : Nat) (tx : Bool) (p : Bool)     -- LTXn or LRXn, P or N
  | pair (name : String) (p : Bool)           -- a differential pair of R538
  | signal (name : String)
  | bus (name : String) (i : Nat)
  deriving DecidableEq, Repr

/-- The letters that name rows (R533). -/
def rowLetters : String := "ABCDEFGHJKLMNPTUVWY"

/-- The name of a row index, 1 to 53 (R533). From 39 on the second letters run through B to H, J to N, P and T. -/
def rowName (r : Nat) : String :=
  let at_ (l : String) (i : Nat) : String := String.ofList ((l.toList.drop i).take 1)
  if r < 20 then at_ rowLetters (r - 1)
  else if r < 39 then "A" ++ at_ rowLetters (r - 20)
  else "B" ++ at_ rowLetters (r - 39)

/-- A ball of a lane strip at depth `d` and along-coordinate `a` (R535, R536). -/
def stripBall (e d a : Nat) : BallUse :=
  let j := (a - 9) / 3
  let on := decide (9 ≤ a ∧ j < 12 ∧ (a - 9) % 3 < 2)
  if !on then .vss
  else match d with
    | 2 => .lane (12 * e + j) true ((a - 9) % 3 == 0)
    | 5 => .lane (12 * e + j) false ((a - 9) % 3 == 0)
    | 4 => .avddLaneH
    | 7 => .avddLane
    | _ => .vss

/-- A pair of R538 whose P ball stands at (r, c). -/
def cornerPair (r c : Nat) : Option String :=
  match r, c with
  | 2, 2 => some "XO" | 2, 5 => some "REFIN"
  | 2, 48 => some "CLKOUT0" | 2, 51 => some "CLKOUT1" | 5, 48 => some "CLKOUT2" | 5, 51 => some "CLKOUT3"
  | 52, 48 => some "CLKOUT4" | 52, 51 => some "CLKOUT5" | 49, 48 => some "CLKOUT6" | 49, 51 => some "CLKOUT7"
  | 52, 2 => some "HPTX" | 52, 5 => some "HPRX" | 50, 2 => some "MCH_IN" | 50, 5 => some "MCH_OUT"
  | 48, 2 => some "TWIN_HB_IN" | 48, 5 => some "TWIN_HB_OUT"
  | _, _ => none

/-- A ball of a corner (R538). -/
def cornerBall (r c : Nat) : BallUse :=
  match cornerPair r c, cornerPair r (c - 1) with
  | some n, _ => .pair n true
  | none, some n => .pair n false
  | none, none =>
    if (r = 4 ∨ r = 6) ∧ (c = 2 ∨ c = 3 ∨ c = 5 ∨ c = 6) then .avddPll
    else if (r = 4 ∨ r = 51) ∧ (c = 48 ∨ c = 49 ∨ c = 51 ∨ c = 52) then .avddLaneH
    else if r = 51 ∧ (c = 2 ∨ c = 3 ∨ c = 5 ∨ c = 6) then .avddLane
    else if r = 47 ∧ (c = 2 ∨ c = 3 ∨ c = 5 ∨ c = 6) then .vddio
    else .vss

/-- A signal of the I/O band (R539). -/
def bandSignal (r c : Nat) : Option BallUse :=
  if r = 8 ∧ 9 ≤ c ∧ c ≤ 40 then some (.bus "HBUS_D" (c - 9))
  else if r = 10 ∧ 9 ≤ c ∧ c ≤ 24 then some (.bus "HBUS_A" (c - 9))
  else if r = 10 ∧ 34 ≤ c ∧ c ≤ 37 then some (.bus "EXTIRQ" (c - 34))
  else if c = 8 ∧ 12 ≤ r ∧ r ≤ 42 ∧ r % 2 = 0 then some (.bus "TIO" ((r - 12) / 2))
  else if r = 46 ∧ 14 ≤ c ∧ c ≤ 20 ∧ c % 2 = 0 then some (.bus "FL_IO" ((c - 14) / 2))
  else if r = 44 ∧ 12 ≤ c ∧ c ≤ 26 ∧ c % 2 = 0 then some (.bus "LT_D" ((c - 12) / 2))
  else match r, c with
    | 10, 26 => some (.signal "HBUS_CLK") | 10, 28 => some (.signal "HBUS_CS_N")
    | 10, 29 => some (.signal "HBUS_WE_N") | 10, 30 => some (.signal "HBUS_WAIT_N") | 10, 32 => some (.signal "INT_N")
    | 14, 10 => some (.signal "PPS_IN") | 18, 10 => some (.signal "PPS_OUT") | 22, 10 => some (.signal "MARK_IN")
    | 46, 10 => some (.signal "FL_CLK") | 46, 12 => some (.signal "FL_CS_N")
    | 44, 10 => some (.signal "LT_CLK") | 44, 28 => some (.signal "LT_VALID")
    | 12, 46 => some (.signal "POR_N") | 14, 46 => some (.signal "RST_N") | 16, 46 => some (.bus "MODE" 0)
    | 18, 46 => some (.bus "MODE" 1) | 20, 46 => some (.signal "MCH_HEAD") | 22, 46 => some (.signal "XO_SEL")
    | 24, 46 => some (.signal "THERMTRIP_N") | 26, 46 => some (.signal "TCK") | 28, 46 => some (.signal "TMS")
    | 30, 46 => some (.signal "TDI") | 32, 46 => some (.signal "TDO") | 34, 46 => some (.signal "TRST_N")
    | _, _ => none

/-- A ball of the I/O band (R539): the depth-9 line of each side is a supply line. -/
def bandBall (r c : Nat) : BallUse :=
  match bandSignal r c with
  | some u => u
  | none =>
    if c = 45 ∧ (r = 24 ∨ r = 26 ∨ r = 28 ∨ r = 30 ∨ r = 32 ∨ r = 34) then .vddio3v3
    else if min (min r (54 - r)) (min c (54 - c)) = 9 then
      (if (if min r (54 - r) = 9 then c else r) % 2 = 0 then .vddio else .vss)
    else .vss

/-- A core ball (R537). -/
def coreBall (r c : Nat) : BallUse :=
  if (r + c) % 2 = 0 then .vss
  else if r ≤ 14 ∨ 40 ≤ r then .vddSram
  else .vddCore

/-- The ball at row index `r` and column `c`, both from 1 to 53 (R534, R540). -/
def ballAt (r c : Nat) : BallUse :=
  let dr := min r (54 - r)
  let dc := min c (54 - c)
  if dr ≤ 7 ∧ dc ≤ 7 then cornerBall r c
  else if dr ≤ 7 ∧ dr ≤ dc then stripBall (if r ≤ 7 then 0 else 2) dr c
  else if dc ≤ 7 then stripBall (if c ≤ 7 then 3 else 1) dc r
  else if dr ≤ 10 ∨ dc ≤ 10 then bandBall r c
  else coreBall r c

end Sys2Proof.Machine
end

