-- ==== Sys2Proof/Machine/Power.lean ====
section
/-! DEFINITION. Temperature, power and the two governors (R518 to R527). Temperatures are in 0.1 °C, powers in mW. -/

namespace Sys2Proof.Machine

/-- A sensor's reading (R518). -/
def State.sensor (s : State) (i : Nat) : Int := s.objI O.TEMP (i + 1)

/-- The readings of the lane groups' valid sensors. -/
def State.groupTemps (s : State) : List Int :=
  ((List.range 8).filter fun i => !bit s.power.sensorOut i).map s.sensor

/-- The readings that the governor uses: a failed sensor is left out, and in place of the core's it takes the highest of the lane
groups plus 5 °C (R518). -/
def State.govTemps (s : State) : List Int :=
  if bit s.power.sensorOut 8 then (if s.groupTemps = [] then [] else [maxI s.groupTemps + 50]) else s.sensor 8 :: s.groupTemps

/-- T_j, if any sensor is valid (R520). -/
def State.tj (s : State) : Option Int := if s.govTemps = [] then none else some (maxI s.govTemps)

/-- The failed sensors among nine readings, as a mask (R518). -/
def failedSensors (l : List Int) : Nat :=
  let m := medianI l
  (List.range 9).foldl (fun k i =>
    let t := l.getD i 0
    if t < -500 ∨ 1500 < t ∨ 150 < mag (t - m) then k + 2 ^ i else k) 0

/-- A reading of one sensor stands in TEMP; TEMP_PEAK is the highest since it was read (R529). -/
def State.takeTemp (s : State) (i : Nat) (t : Int) : State :=
  let s := s.setObjI O.TEMP t (i + 1)
  if bit s.power.peakSeen i && decide (t ≤ s.objI O.TEMP_PEAK (i + 1)) then s
  else (s.setObjI O.TEMP_PEAK t (i + 1)).modPower fun w => { w with peakSeen := setBit w.peakSeen i true }

/-- The native ports that keep their timing lane at THERM_CRIT (R524). -/
def State.retained (s : State) (p : Nat) : Bool :=
  s.native p && s.portOf p == p &&
    (s.source == p || s.obj O.UPSTREAM_ALT == p || (s.twin.pair != 0 && s.twin.port == p) || bit (s.obj O.THERM_KEEP_PORTS) p)

/-- The lanes that THERM_CRIT idles: every one but the timing lane of each retained port (R524). -/
def State.critLanes (s : State) : List Nat :=
  let keep := ((List.range 48).filter s.retained).map s.timingLane
  (List.range 48).filter fun n => !keep.contains n

/-- Lanes go to electrical idle. -/
def State.idleLanes (s : State) (l : List Nat) : State := forEach l State.idleLane s

/-- Idled lanes may train again, unless the THERMTRIP_N latch still holds them (R521, R525). -/
def State.wakeLanes (s : State) : State :=
  s.modPower fun w => { w with idled := if w.thermtrip then w.idled else [] }

/-- SHED begins: calibration and adaptation are deferred at once (R521). The admission loop follows in the next period. -/
def State.enterShed (s : State) : State := s.raise O.PWR_FLAGS 1

/-- CRIT begins, with SHED in force (R521, R524). -/
def State.enterCrit (s : State) : State :=
  let s := if s.obj O.GOV_STATE = 0 then s.enterShed else s
  ((s.setObj O.GOV_STATE 2).idleLanes s.critLanes).raise O.PWR_FLAGS 4

/-- T_j decides on CRIT (R521). -/
def State.critCheck (s : State) : State :=
  match s.tj with
  | none => s
  | some t =>
    if s.obj O.GOV_STATE ≠ 2 ∧ 1150 ≤ t then s.enterCrit
    else if s.obj O.GOV_STATE = 2 ∧ t ≤ 1100 then (s.setObj O.GOV_STATE 1).wakeLanes
    else s

/-- The nine sensors are read (R518): TEMP and TEMP_PEAK, SENSOR_FAIL where a sensor newly fails, CRIT, and what a temperature does
to calibration (R464). A sensor that the list does not reach keeps its reading. -/
def State.tempSample (s : State) (l : List Int) : State :=
  let was := s.power.sensorOut
  let s := forEach (List.range 9) (fun s i => match l[i]? with | some t => s.takeTemp i t | none => s) s
  let m := failedSensors ((List.range 9).map s.sensor)
  let s := s.modPower fun w => { w with sensorOut := m }
  let s := if m = m &&& was then s else s.raise O.PWR_FLAGS 5
  s.critCheck.calTemps

def execTempSample (readings : List Int) (s : State) : Host.Outcome State Fault Refusal := runKeep s (·.tempSample readings)

/-- (1 − e^(−num/den)) × 2^40, by its series; num/den is at most 1/10 (R520). -/
def decay (num den : Nat) : Int :=
  let step := fun (a : Int × Int) (k : Nat) =>
    let t := -(a.1 * num) / ((den * (k + 2) : Nat) : Int)
    (t, a.2 + t)
  if den = 0 then 0
  else
    let t0 : Int := ((2 ^ 40 * num / den : Nat) : Int)
    ((List.range 8).foldl step (t0, t0)).2

/-- P_avg, a first-order low pass of P with time constant GOV_TAU, 1 ms on (R520). -/
def State.lowPass (s : State) : State :=
  let p : Int := (s.obj O.PWR_TOTAL : Int) * 2 ^ 40
  s.modPower fun w => { w with pAvg := w.pAvg + roundDiv ((p - w.pAvg) * decay 1 (1000 * s.obj O.GOV_TAU)) (2 ^ 40) }

/-- T_pred in millionths of a degree (R520). -/
def State.tPred (s : State) (tj : Int) : Int :=
  let dp : Int := (s.obj O.PWR_TOTAL : Int) * 2 ^ 40 - s.power.pAvg
  tj * 100000 + roundDiv ((s.obj O.GOV_THETA : Int) * dp * decay (s.obj O.GOV_HORIZON) (1000 * s.obj O.GOV_TAU)) (2 ^ 80)

/-- GOV_TJ_LIMIT less `d` tenths of a degree, in millionths of a degree. -/
def State.govLimit (s : State) (d : Int) : Int := ((s.obj O.GOV_TJ_LIMIT : Int) - d) * 100000

/-- One period of the admission loop (R522). -/
def State.admitLoop (s : State) (pred : Int) : State :=
  let p : Int := (s.obj O.PWR_TOTAL : Int) * 1000
  let target : Int := (s.obj O.GOV_P_SUSTAIN : Int) * 1000 - s.power.fall
  let a := s.obj O.GOV_ADMIT
  let s := if target + 500000 < p then s.setObj O.GOV_ADMIT (a - 2)
    else if p < target - 500000 then s.setObj O.GOV_ADMIT (min 100 (a + 1)) else s
  if s.govLimit 0 < pred ∧ s.obj O.GOV_ADMIT ≠ 0 ∧ 500 ≤ target then s.modPower fun w => { w with fall := w.fall + 500 } else s

/-- What a prediction does in FREE (R521): GOV_WARN once per approach, and SHED at the limit. -/
def State.govFree (s : State) (pred : Int) : State :=
  let s :=
    if pred < s.govLimit 30 then s.modPower fun w => { w with warned := false }
    else if s.power.warned then s
    else (s.modPower fun w => { w with warned := true }).raise O.PWR_FLAGS 0
  if s.govLimit 0 ≤ pred then (s.setObj O.GOV_STATE 1).enterShed else s

/-- A period of the admission loop in SHED and CRIT: it begins to run with GOV_SHED, and then works (R521, R522). The periods that meet both
conditions of leaving SHED are counted. -/
def State.govShed (s : State) (pred : Int) : State :=
  let s := s.count O.GOV_SHED_TIME
  let s := if s.power.loopOn then s.admitLoop pred
    else ((s.modPower fun w => { w with loopOn := true, fall := 0 }).raise O.PWR_FLAGS 2).admitLoop pred
  let ok := decide (pred ≤ s.govLimit 20) && s.obj O.GOV_ADMIT == 100
  s.modPower fun w => { w with calm := if ok then w.calm + 1 else 0 }

/-- Every 1 ms (R519 to R522): the rails' powers, then P_avg, with it the prediction (log entry 64), the state of the governor, and a new period
of admission. -/
def State.govTick (s : State) (rails : List Nat) : State :=
  let s := forEach (List.range 7) (fun s i => s.setObj O.RAIL_POWER (rails.getD i 0) (i + 1)) s
  let s := (s.setObj O.PWR_TOTAL ((List.range 7).map fun i => s.obj O.RAIL_POWER (i + 1)).sum).lowPass
  let s := if s.obj O.GOV_STATE = 0 then s.modCellar fun c => { c with ref := c.passed } else s
  let s :=
    match s.tj with
    | none => s
    | some t =>
      let pred := s.tPred t
      let s := s.setObjI O.GOV_TPRED (roundDiv pred 100000)
      if s.obj O.GOV_STATE = 0 then s.govFree pred else s.govShed pred
  s.newPeriod.critCheck

def execGovTick (rails : List Nat) (s : State) : Host.Outcome State Fault Refusal := runKeep s (·.govTick rails)

/-- SHED returns to FREE (R521): T_pred has been 2 °C below the limit and GOV_ADMIT 100 % for 1 s, a thousand periods. -/
def State.govRelease (s : State) : State :=
  if s.obj O.GOV_STATE = 1 ∧ 1000 ≤ s.power.calm then
    ((s.setObj O.GOV_STATE 0).modPower fun w => { w with loopOn := false, fall := 0, calm := 0 }).newPeriod
  else s

def execGovRelease (s : State) : Host.Outcome State Fault Refusal := runKeep s (·.govRelease)

/-- A comparator latches THERMTRIP_N (R525): the outputs are held as in reset, and every lane is idle. The latch sets whatever else
holds the part. -/
def execThermtrip (_sensor : Fin 9) (s : State) : Host.Outcome State Fault Refusal :=
  .next (s.keeping fun s =>
    let s := if s.held then s else s.idleLanes ((List.range 48).filter fun n => !s.laneIdled n)
    s.modPower fun w => { w with thermtrip := true, idled := List.range 48 })

/-- VDDIO_3V3 falls below 1 V and the latch clears (R525). In CRIT the lanes of R524 stay idle. -/
def execThermtripLatchClear (s : State) : Host.Outcome State Fault Refusal :=
  .next (if s.power.thermtrip then
    s.modPower fun w => { w with thermtrip := false, idled := if s.obj O.GOV_STATE = 2 then s.critLanes else [] }
  else s)

/-- The credit bucket's capacity, 180 A·ms in mA·µs (R527). -/
def bucketMax : Nat := 180000000

/-- Idle LOOKUP cycles are inserted: in each pipeline the headers that wait stay for them (R254, R527). -/
def State.idleLookups (s : State) (cycles : Nat) : State :=
  if cycles = 0 then s else
  forEach [0, 1, 2, 3] (fun s k => s.modCellar fun c =>
    { c with fifo := Tab.set c.fifo [] k (s.fifoNow k),
             fifoAt := Tab.set c.fifoAt 0 k (max s.lookupCycle (Tab.get c.fifoAt 0 k) + cycles) }) s

/-- One microsecond of the core current governor (R527): the bucket drains above 70 A and refills below, CUR_LIMIT as it empties, and
the idle LOOKUP cycles that were inserted hold the pipelines and are counted. -/
def State.curgovTick (s : State) (ma cycles : Nat) : State :=
  let c := s.power.credit
  let c' := if 70000 < ma then c - (ma - 70000) else min bucketMax (c + (70000 - ma))
  let s := s.modPower fun w => { w with credit := c' }
  let s := if 0 < c ∧ c' = 0 then s.raise O.PWR_FLAGS 3 else s
  (s.idleLookups cycles).count O.CURGOV_PACED O.CURGOV_PACED.lo cycles

def execCurgovTick (milliamps : Nat) (idleCycles : Nat) (s : State) : Host.Outcome State Fault Refusal :=
  runKeep s (·.curgovTick milliamps idleCycles)

end Sys2Proof.Machine
end

