-- ==== Sys2Proof/Machine/Dispatch.lean ====
section
/-! DEFINITION. One arm per command: each is one direct call of its meaning. -/

namespace Sys2Proof.Machine

def exec (i : Instr) (s : State) : Host.Outcome State Fault Refusal :=
  match i with
  -- power and reset
  | .powerOnReset straps => Sys2Proof.Machine.execPowerOnReset straps s
  | .warmReset straps => Sys2Proof.Machine.execWarmReset straps s
  | .sysReset path value => Sys2Proof.Machine.execSysReset path value s
  | .railUndervoltage rail => Sys2Proof.Machine.execRailUndervoltage rail s
  | .bootLoaderStart ms => Sys2Proof.Machine.execBootLoaderStart ms s
  -- Hearth
  | .abortAcq coincident => Sys2Proof.Machine.execAbortAcq coincident s
  -- Efrov link
  | .superframeStart g => Sys2Proof.Machine.execSuperframeStart g s
  | .superReceive lane body arrival => Sys2Proof.Machine.execSuperReceive lane body arrival s
  | .lanemapReceive lane body => Sys2Proof.Machine.execLanemapReceive lane body s
  | .trainReceive lane body rx => Sys2Proof.Machine.execTrainReceive lane body rx s
  | .creditReceive port type body => Sys2Proof.Machine.execCreditReceive port type body s
  | .blockError lane block => Sys2Proof.Machine.execBlockError lane block s
  | .timeReqSend port => Sys2Proof.Machine.execTimeReqSend port s
  | .timeReqReceive port body arrival => Sys2Proof.Machine.execTimeReqReceive port body arrival s
  | .timeRespSend port => Sys2Proof.Machine.execTimeRespSend port s
  | .timeReqDrop port => Sys2Proof.Machine.execTimeReqDrop port s
  | .timeRespReceive port body arrival => Sys2Proof.Machine.execTimeRespReceive port body arrival s
  | .setSend port => Sys2Proof.Machine.execSetSend port s
  | .bitslipDecision lane slip => Sys2Proof.Machine.execBitslipDecision lane slip s
  | .blockLockConfirm lane bad => Sys2Proof.Machine.execBlockLockConfirm lane bad s
  | .superSearchTimeout lane => Sys2Proof.Machine.execSuperSearchTimeout lane s
  | .trainTimeout lane => Sys2Proof.Machine.execTrainTimeout lane s
  | .trainingRetry lane => Sys2Proof.Machine.execTrainingRetry lane s
  | .trainingComplete lane => Sys2Proof.Machine.execTrainingComplete lane s
  | .skewMeasureDone port theta0 theta1 theta2 theta3 => Sys2Proof.Machine.execSkewMeasureDone port theta0 theta1 theta2 theta3 s
  | .blockLockLoss lane cause => Sys2Proof.Machine.execBlockLockLoss lane cause s
  | .laneReadmit lane => Sys2Proof.Machine.execLaneReadmit lane s
  | .readmitForceExpire port => Sys2Proof.Machine.execReadmitForceExpire port s
  | .retrain lane => Sys2Proof.Machine.execRetrain lane s
  | .linkAbort lane coincident => Sys2Proof.Machine.execLinkAbort lane coincident s
  -- lanes
  | .groupModeWrite g mode n => Sys2Proof.Machine.execGroupModeWrite g mode n s
  | .autoProbePhase g => Sys2Proof.Machine.execAutoProbePhase g s
  | .portLock port aligns deskew eq => Sys2Proof.Machine.execPortLock port aligns deskew eq s
  | .adaptUpdate lane moves => Sys2Proof.Machine.execAdaptUpdate lane moves s
  | .divFreeze windows => Sys2Proof.Machine.execDivFreeze windows s
  | .divResume windows => Sys2Proof.Machine.execDivResume windows s
  | .eyeSweepDone lane phases thresholds => Sys2Proof.Machine.execEyeSweepDone lane phases thresholds s
  | .rxEqWrite lane value => Sys2Proof.Machine.execRxEqWrite lane value s
  | .autoPolarity lane => Sys2Proof.Machine.execAutoPolarity lane s
  | .laneLoopWrite lane value => Sys2Proof.Machine.execLaneLoopWrite lane value s
  | .lanePrbsWrite lane value => Sys2Proof.Machine.execLanePrbsWrite lane value s
  | .loopSlip move => Sys2Proof.Machine.execLoopSlip move s
  -- locking and delay
  | .dgdAverage port dgd => Sys2Proof.Machine.execDgdAverage port dgd s
  | .routeHoldExpire port => Sys2Proof.Machine.execRouteHoldExpire port s
  | .applySplit port => Sys2Proof.Machine.execApplySplit port s
  | .applyForward port => Sys2Proof.Machine.execApplyForward port s
  | .resume port => Sys2Proof.Machine.execResume port s
  | .routeAbort port coincident => Sys2Proof.Machine.execRouteAbort port coincident s
  | .ppsInEdge t => Sys2Proof.Machine.execPpsInEdge t s
  | .refinWindow deviationPpb => Sys2Proof.Machine.execRefinWindow deviationPpb s
  | .portAsymCalWrite port value => Sys2Proof.Machine.execPortAsymCalWrite port value s
  | .portAsymRouteWrite port value => Sys2Proof.Machine.execPortAsymRouteWrite port value s
  | .portRangeModeWrite port value => Sys2Proof.Machine.execPortRangeModeWrite port value s
  | .ptpSyncSend port => Sys2Proof.Machine.execPtpSyncSend port s
  | .ptpAnnounceSend port => Sys2Proof.Machine.execPtpAnnounceSend port s
  | .ptpMessageReceive port msg arrival => Sys2Proof.Machine.execPtpMessageReceive port msg arrival s
  -- clock synthesis
  | .lockWindowEnd pll count => Sys2Proof.Machine.execLockWindowEnd pll count s
  | .pllLoss pll cause => Sys2Proof.Machine.execPllLoss pll cause s
  | .acqFail pll => Sys2Proof.Machine.execAcqFail pll s
  | .bandLimitCheck pll count => Sys2Proof.Machine.execBandLimitCheck pll count s
  | .clockSwitch island => Sys2Proof.Machine.execClockSwitch island s
  | .opllMultWrite k value => Sys2Proof.Machine.execOpllMultWrite k value s
  | .clkoutEnWrite n value => Sys2Proof.Machine.execClkoutEnWrite n value s
  | .clkoutDivWrite n div std => Sys2Proof.Machine.execClkoutDivWrite n div std s
  | .clkoutPhaseWrite n value => Sys2Proof.Machine.execClkoutPhaseWrite n value s
  | .clkoutStepEveryWrite n value => Sys2Proof.Machine.execClkoutStepEveryWrite n value s
  | .clkoutGateClose n => Sys2Proof.Machine.execClkoutGateClose n s
  | .clkoutOpen n => Sys2Proof.Machine.execClkoutOpen n s
  | .clkoutPhaseStep step => Sys2Proof.Machine.execClkoutPhaseStep step s
  | .xoLoss cause => Sys2Proof.Machine.execXoLoss cause s
  | .xoRestore straps => Sys2Proof.Machine.execXoRestore straps s
  -- timed I/O
  | .tioModeWrite t value => Sys2Proof.Machine.execTioModeWrite t value s
  | .tioLevelWrite t value => Sys2Proof.Machine.execTioLevelWrite t value s
  | .tioArm t => Sys2Proof.Machine.execTioArm t s
  | .disarm t coincident => Sys2Proof.Machine.execDisarm t coincident s
  | .capFlush t => Sys2Proof.Machine.execCapFlush t s
  | .tioRisingEdge t => Sys2Proof.Machine.execTioRisingEdge t s
  | .tioFallingEdge t => Sys2Proof.Machine.execTioFallingEdge t s
  | .tioCapture c t rising => Sys2Proof.Machine.execTioCapture c t rising s
  | .tioCapRead c => Sys2Proof.Machine.execTioCapRead c s
  | .markInEdge t => Sys2Proof.Machine.execMarkInEdge t s
  -- fast commands
  | .cmdReceive port body => Sys2Proof.Machine.execCmdReceive port body s
  | .slot0Cmd port => Sys2Proof.Machine.execSlot0Cmd port s
  | .cmdIssue value => Sys2Proof.Machine.execCmdIssue value s
  | .lastSeqLapse iss => Sys2Proof.Machine.execLastSeqLapse iss s
  | .resync body => Sys2Proof.Machine.execResync body s
  | .pulse body => Sys2Proof.Machine.execPulse body s
  | .levelSet body => Sys2Proof.Machine.execLevelSet body s
  | .fastArm body => Sys2Proof.Machine.execFastArm body s
  | .fastStop body => Sys2Proof.Machine.execFastStop body s
  | .snapshot body => Sys2Proof.Machine.execSnapshot body s
  | .user body => Sys2Proof.Machine.execUser body s
  | .reservedOpcode body => Sys2Proof.Machine.execReservedOpcode body s
  -- Cellar
  | .frameReceive port frame => Sys2Proof.Machine.execFrameReceive port frame s
  | .egressStart port tOut => Sys2Proof.Machine.execEgressStart port tOut s
  | .egressEnd port => Sys2Proof.Machine.execEgressEnd port s
  | .ctUnderrun port => Sys2Proof.Machine.execCtUnderrun port s
  | .frameStartDeadline port cls => Sys2Proof.Machine.execFrameStartDeadline port cls s
  | .frameEndDeadline port => Sys2Proof.Machine.execFrameEndDeadline port s
  | .pfcRefresh port cls => Sys2Proof.Machine.execPfcRefresh port cls s
  | .pfcReceive port enable quanta => Sys2Proof.Machine.execPfcReceive port enable quanta s
  | .drainFenceWrite value => Sys2Proof.Machine.execDrainFenceWrite value s
  -- Caravan
  | .caravanSlot port slot lag => Sys2Proof.Machine.execCaravanSlot port slot lag s
  | .caravanReadPoint port slot => Sys2Proof.Machine.execCaravanReadPoint port slot s
  | .caravanCellReceive port body payload arrival => Sys2Proof.Machine.execCaravanCellReceive port body payload arrival s
  | .bayEntryFree srcPort srcSlot => Sys2Proof.Machine.execBayEntryFree srcPort srcSlot s
  | .caravanCancel coincident => Sys2Proof.Machine.execCaravanCancel coincident s
  | .lmboxValidWrite m payload userByte => Sys2Proof.Machine.execLmboxValidWrite m payload userByte s
  | .smboxRelease m => Sys2Proof.Machine.execSmboxRelease m s
  -- tables
  | .lookup r => Sys2Proof.Machine.execLookup r s
  | .insert r => Sys2Proof.Machine.execInsert r s
  | .update r => Sys2Proof.Machine.execUpdate r s
  | .delete r => Sys2Proof.Machine.execDelete r s
  | .delIfClear r => Sys2Proof.Machine.execDelIfClear r s
  | .readBucket r => Sys2Proof.Machine.execReadBucket r s
  | .lock r => Sys2Proof.Machine.execLock r s
  | .unlock r => Sys2Proof.Machine.execUnlock r s
  | .fence r => Sys2Proof.Machine.execFence r s
  | .tcamWrite r => Sys2Proof.Machine.execTcamWrite r s
  | .tcamRead r => Sys2Proof.Machine.execTcamRead r s
  | .tcamClear r => Sys2Proof.Machine.execTcamClear r s
  | .unknownOp r => Sys2Proof.Machine.execUnknownOp r s
  | .tdmaHeadWrite r value => Sys2Proof.Machine.execTdmaHeadWrite r value s
  | .tdmaStart r => Sys2Proof.Machine.execTdmaStart r s
  | .tdmaStop r => Sys2Proof.Machine.execTdmaStop r s
  | .tdmaAbort r coincident => Sys2Proof.Machine.execTdmaAbort r coincident s
  | .tdmaReset r => Sys2Proof.Machine.execTdmaReset r s
  | .lockExpire r sub1 bucket => Sys2Proof.Machine.execLockExpire r sub1 bucket s
  | .emAbort coincident => Sys2Proof.Machine.execEmAbort coincident s
  | .emScrub area index slot finding => Sys2Proof.Machine.execEmScrub area index slot finding s
  | .tcamScrub row badParity => Sys2Proof.Machine.execTcamScrub row badParity s
  | .tableBlobWrite index value => Sys2Proof.Machine.execTableBlobWrite index value s
  -- dictionary
  | .read path hdr item => Sys2Proof.Machine.execRead path hdr item s
  | .write path hdr item => Sys2Proof.Machine.execWrite path hdr item s
  | .readMulti path hdr items => Sys2Proof.Machine.execReadMulti path hdr items s
  | .writeMulti path hdr items => Sys2Proof.Machine.execWriteMulti path hdr items s
  | .blockRead path hdr item => Sys2Proof.Machine.execBlockRead path hdr item s
  | .blockWrite path hdr item => Sys2Proof.Machine.execBlockWrite path hdr item s
  | .commit path hdr => Sys2Proof.Machine.execCommit path hdr s
  | .discover path hdr => Sys2Proof.Machine.execDiscover path hdr s
  | .assignId path hdr serial device => Sys2Proof.Machine.execAssignId path hdr serial device s
  | .falriResponse path message => Sys2Proof.Machine.execFalriResponse path message s
  | .notifySend index sub => Sys2Proof.Machine.execNotifySend index sub s
  | .expertSessionWrite value => Sys2Proof.Machine.execExpertSessionWrite value s
  | .readBufferLapse slot => Sys2Proof.Machine.execReadBufferLapse slot s
  | .mailboxGo request notifyEn => Sys2Proof.Machine.execMailboxGo request notifyEn s
  | .mailboxRelease clearErr => Sys2Proof.Machine.execMailboxRelease clearErr s
  | .chainEnumFrame value => Sys2Proof.Machine.execChainEnumFrame value s
  | .gateWrite path ports chain => Sys2Proof.Machine.execGateWrite path ports chain s
  | .commitComplete verified => Sys2Proof.Machine.execCommitComplete verified s
  | .installComplete verified => Sys2Proof.Machine.execInstallComplete verified s
  | .cfgCmdOther code => Sys2Proof.Machine.execCfgCmdOther code s
  | .objectWrite path index sub value => Sys2Proof.Machine.execObjectWrite path index sub value s
  -- hierarchy and twins
  | .neighbourPoll answered adverts => Sys2Proof.Machine.execNeighbourPoll answered adverts s
  | .registryFetchDone registry => Sys2Proof.Machine.execRegistryFetchDone registry s
  | .discoverAnswer hdr => Sys2Proof.Machine.execDiscoverAnswer hdr s
  | .discoverResponse serial device => Sys2Proof.Machine.execDiscoverResponse serial device s
  | .devPortExpire device => Sys2Proof.Machine.execDevPortExpire device s
  | .epRegistryWrite path value => Sys2Proof.Machine.execEpRegistryWrite path value s
  | .hbReceive path body twinFirst => Sys2Proof.Machine.execHbReceive path body twinFirst s
  | .pathDegraded path => Sys2Proof.Machine.execPathDegraded path s
  | .abortCopy coincident => Sys2Proof.Machine.execAbortCopy coincident s
  | .journalReceive value => Sys2Proof.Machine.execJournalReceive value s
  -- engines and interrupts
  | .ecall e => Sys2Proof.Machine.execEcall e s
  | .ebreak e => Sys2Proof.Machine.execEbreak e s
  | .wfi e => Sys2Proof.Machine.execWfi e s
  | .trap e event => Sys2Proof.Machine.execTrap e event s
  | .machineExternalInterrupt e => Sys2Proof.Machine.execMachineExternalInterrupt e s
  | .htimeNsRead e => Sys2Proof.Machine.execHtimeNsRead e s
  | .f0cntLoRead e => Sys2Proof.Machine.execF0cntLoRead e s
  | .userPop e => Sys2Proof.Machine.execUserPop e s
  | .irqClaim e => Sys2Proof.Machine.execIrqClaim e s
  | .irqComplete e source => Sys2Proof.Machine.execIrqComplete e source s
  | .hostComplete source => Sys2Proof.Machine.execHostComplete source s
  | .hostEnWrite word value => Sys2Proof.Machine.execHostEnWrite word value s
  | .modIntervalEnd source => Sys2Proof.Machine.execModIntervalEnd source s
  | .hcmpWrite e ns en => Sys2Proof.Machine.execHcmpWrite e ns en s
  | .hcmpTimer e => Sys2Proof.Machine.execHcmpTimer e s
  | .wdogKick e => Sys2Proof.Machine.execWdogKick e s
  | .wdogWarn e => Sys2Proof.Machine.execWdogWarn e s
  | .wdogBite e => Sys2Proof.Machine.execWdogBite e s
  | .engineRestart e => Sys2Proof.Machine.execEngineRestart e s
  | .engScrub place word finding => Sys2Proof.Machine.execEngScrub place word finding s
  | .parityError e => Sys2Proof.Machine.execParityError e s
  | .dictWindowLoad e address => Sys2Proof.Machine.execDictWindowLoad e address s
  | .dictWindowStore e address value => Sys2Proof.Machine.execDictWindowStore e address value s
  | .doorbell value => Sys2Proof.Machine.execDoorbell value s
  | .swiSet value => Sys2Proof.Machine.execSwiSet value s
  | .semRead requester k => Sys2Proof.Machine.execSemRead requester k s
  | .semWrite requester k value => Sys2Proof.Machine.execSemWrite requester k value s
  | .userLoad u => Sys2Proof.Machine.execUserLoad u s
  | .userStart u => Sys2Proof.Machine.execUserStart u s
  | .userStop u => Sys2Proof.Machine.execUserStop u s
  | .userImageWrite u value => Sys2Proof.Machine.execUserImageWrite u value s
  | .preciseSample e sample => Sys2Proof.Machine.execPreciseSample e sample s
  | .sampleBufRead e => Sys2Proof.Machine.execSampleBufRead e s
  -- calibration
  | .calPeriodExpire x => Sys2Proof.Machine.execCalPeriodExpire x s
  | .slicerMismatch lane => Sys2Proof.Machine.execSlicerMismatch lane s
  | .calRunStart x quiet => Sys2Proof.Machine.execCalRunStart x quiet s
  | .calBoundary x result => Sys2Proof.Machine.execCalBoundary x result s
  | .calRetry x quiet => Sys2Proof.Machine.execCalRetry x quiet s
  | .calRun x quiet => Sys2Proof.Machine.execCalRun x quiet s
  | .calAbort x coincident => Sys2Proof.Machine.execCalAbort x coincident s
  | .clearDefer x => Sys2Proof.Machine.execClearDefer x s
  -- observation
  | .snapCancel coincident => Sys2Proof.Machine.execSnapCancel coincident s
  -- JTAG
  | .samplePreload preload => Sys2Proof.Machine.execSamplePreload preload s
  | .extest rstLow => Sys2Proof.Machine.execExtest rstLow s
  | .extestPulse rstLow => Sys2Proof.Machine.execExtestPulse rstLow s
  | .extestTrain rstLow => Sys2Proof.Machine.execExtestTrain rstLow s
  | .clamp rstLow => Sys2Proof.Machine.execClamp rstLow s
  | .highz rstLow => Sys2Proof.Machine.execHighz rstLow s
  -- thermal and power
  | .tempSample readings => Sys2Proof.Machine.execTempSample readings s
  | .govTick rails => Sys2Proof.Machine.execGovTick rails s
  | .thermtrip sensor => Sys2Proof.Machine.execThermtrip sensor s
  | .curgovTick milliamps idleCycles => Sys2Proof.Machine.execCurgovTick milliamps idleCycles s
  -- more commands of the chapters above
  | .cdrLock lane => Sys2Proof.Machine.execCdrLock lane s
  | .railRestore straps => Sys2Proof.Machine.execRailRestore straps s
  | .extirqEdge x level => Sys2Proof.Machine.execExtirqEdge x level s
  | .pfcPauseExpiry port priorities => Sys2Proof.Machine.execPfcPauseExpiry port priorities s
  | .ptpDelayReqSend port => Sys2Proof.Machine.execPtpDelayReqSend port s
  | .autoProbeResume g => Sys2Proof.Machine.execAutoProbeResume g s
  | .falriErr path message => Sys2Proof.Machine.execFalriErr path message s
  | .notifyReceive path hdr index sub bits time => Sys2Proof.Machine.execNotifyReceive path hdr index sub bits time s
  -- commands without operands
  | .nsWrap => Sys2Proof.Machine.execNsWrap s
  | .conditionerUpdate => Sys2Proof.Machine.execConditionerUpdate s
  | .stepCommit => Sys2Proof.Machine.execStepCommit s
  | .acquireComplete => Sys2Proof.Machine.execAcquireComplete s
  | .servoUpdate => Sys2Proof.Machine.execServoUpdate s
  | .sourceLost => Sys2Proof.Machine.execSourceLost s
  | .qualShortExpire => Sys2Proof.Machine.execQualShortExpire s
  | .qualLongExpire => Sys2Proof.Machine.execQualLongExpire s
  | .reepoch => Sys2Proof.Machine.execReepoch s
  | .accept => Sys2Proof.Machine.execAccept s
  | .hbusTimeRead => Sys2Proof.Machine.execHbusTimeRead s
  | .sourceRevert => Sys2Proof.Machine.execSourceRevert s
  | .refinEdgeMissing => Sys2Proof.Machine.execRefinEdgeMissing s
  | .refinQualified => Sys2Proof.Machine.execRefinQualified s
  | .markRealign => Sys2Proof.Machine.execMarkRealign s
  | .ppsOutRise => Sys2Proof.Machine.execPpsOutRise s
  | .ppsOutFall => Sys2Proof.Machine.execPpsOutFall s
  | .safeTimeout => Sys2Proof.Machine.execSafeTimeout s
  | .scheduleCycleStart => Sys2Proof.Machine.execScheduleCycleStart s
  | .caravanLoad => Sys2Proof.Machine.execCaravanLoad s
  | .caravanCheckDone => Sys2Proof.Machine.execCaravanCheckDone s
  | .caravanSwap => Sys2Proof.Machine.execCaravanSwap s
  | .rearm => Sys2Proof.Machine.execRearm s
  | .learn => Sys2Proof.Machine.execLearn s
  | .migrateToA => Sys2Proof.Machine.execMigrateToA s
  | .migrateToB => Sys2Proof.Machine.execMigrateToB s
  | .migrationStep => Sys2Proof.Machine.execMigrationStep s
  | .autoRehash => Sys2Proof.Machine.execAutoRehash s
  | .proxyExpire => Sys2Proof.Machine.execProxyExpire s
  | .expertSessionExpire => Sys2Proof.Machine.execExpertSessionExpire s
  | .stagingLapse => Sys2Proof.Machine.execStagingLapse s
  | .chainEnumerate => Sys2Proof.Machine.execChainEnumerate s
  | .chainBreak => Sys2Proof.Machine.execChainBreak s
  | .cfgCommit => Sys2Proof.Machine.execCfgCommit s
  | .install => Sys2Proof.Machine.execInstall s
  | .eraseBoth => Sys2Proof.Machine.execEraseBoth s
  | .eraseComplete => Sys2Proof.Machine.execEraseComplete s
  | .provRoot => Sys2Proof.Machine.execProvRoot s
  | .discoverSend => Sys2Proof.Machine.execDiscoverSend s
  | .hbSend => Sys2Proof.Machine.execHbSend s
  | .leaseExpire => Sys2Proof.Machine.execLeaseExpire s
  | .takeover => Sys2Proof.Machine.execTakeover s
  | .startingWaitExpire => Sys2Proof.Machine.execStartingWaitExpire s
  | .claim => Sys2Proof.Machine.execClaim s
  | .handover => Sys2Proof.Machine.execHandover s
  | .handoverTimeout => Sys2Proof.Machine.execHandoverTimeout s
  | .epochSend => Sys2Proof.Machine.execEpochSend s
  | .epochCommit => Sys2Proof.Machine.execEpochCommit s
  | .hostClaim => Sys2Proof.Machine.execHostClaim s
  | .snapArm => Sys2Proof.Machine.execSnapArm s
  | .localSnapshot => Sys2Proof.Machine.execLocalSnapshot s
  | .snapComplete => Sys2Proof.Machine.execSnapComplete s
  | .lanternSend => Sys2Proof.Machine.execLanternSend s
  | .bypass => Sys2Proof.Machine.execBypass s
  | .idcode => Sys2Proof.Machine.execIdcode s
  | .govRelease => Sys2Proof.Machine.execGovRelease s
  | .thermtripLatchClear => Sys2Proof.Machine.execThermtripLatchClear s

end Sys2Proof.Machine
end

