-- ==== Sys2Proof/WellFormed.lean ====
section
/-! DEFINITION. Which commands are well formed: the bounds that the types of `Instr` leave to a check, each under a name of its own.
`exec` is total on the others too. -/

namespace Sys2Proof

/-- The octets that an item takes in a message: INDEX, SUB, ISTAT, VLEN and the value (R370). -/
def itemSize (i : FalriItem) : Nat := 6 + i.value.length

/-- A payload is at most 1,024 octets (R368). -/
def itemsFit (l : List FalriItem) : Bool := decide ((l.map itemSize).sum ≤ 1024)

/-- An item of a read carries no value (R370). -/
def itemsBare (l : List FalriItem) : Bool := l.all fun i => i.value.isEmpty

/-- A segment of a block write fits into a message: its item's fields take 14 octets (R376). -/
def segmentFits (i : BlockWriteItem) : Bool := decide (14 + i.data.length ≤ 1024)

/-- A frame comes in octets or in rounds, as its port is; never in both. -/
def frameOk (f : Frame) : Bool := f.octets.isEmpty || f.rounds.isEmpty

/-- The search judges 64 headers at each position, or up to the first invalid one (R87). -/
def searchOk (l : List (List (BitVec 2))) : Bool := l.all fun h => decide (h.length ≤ 64)

/-- A confirmation looks at 4,096 blocks (R87). -/
def confirmOk (l : List (BitVec 2)) : Bool := l.length == 4096

/-- A measurement of skew takes 4,096 exchanges of each lane (R96). -/
def skewOk (l : List SkewEx) : Bool := l.isEmpty || l.length == 4096

/-- The codes of an equaliser: CTLE, VGA and twelve taps (R123). -/
def eqOk (l : List Int) : Bool := l.length == 14

/-- One move of at most one code for each element of the equaliser (R125). -/
def movesOk (l : List Int) : Bool := l.length == 14 && l.all fun z => decide (-1 ≤ z ∧ z ≤ 1)

/-- A port of one, two or four lanes locks them together (R93). -/
def lockOk (aligns : List (BitVec 16)) (eq : List (List Int)) : Bool :=
  (aligns.length == 1 || aligns.length == 2 || aligns.length == 4) && eq.length == aligns.length && eq.all eqOk

/-- One advertisement for each port that answered (R400). -/
def pollOk (answered : BitVec 48) (adverts : List Bytes) : Bool :=
  ((List.range 48).filter fun p => answered.getLsbD p).length == adverts.length

/-- Nine sensors (R518). -/
def readingsOk (l : List Int) : Bool := l.length == 9

/-- Seven rails (R506). -/
def railsOk (l : List Nat) : Bool := l.length == 7

/-- A request fits into the mailbox's buffer (R386). -/
def requestOk (l : Bytes) : Bool := decide (l.length ≤ 2048)

/-- The width of an access of an engine: an octet, a half word or a word (R436). -/
def accessOk : EngEvent → Bool
  | .load _ w => w.val == 1 || w.val == 2 || w.val == 4
  | .store _ w => w.val == 1 || w.val == 2 || w.val == 4
  | _ => true

/-- A command is well formed. -/
def Instr.wellFormed : Instr → Bool
  | .read _ _ i => itemsBare [i]
  | .write _ _ i => itemsFit [i]
  | .readMulti _ _ l => itemsBare l && itemsFit l
  | .writeMulti _ _ l => itemsFit l
  | .blockWrite _ _ i => segmentFits i
  | .frameReceive _ f => frameOk f
  | .bitslipDecision _ l => searchOk l
  | .blockLockConfirm _ l => confirmOk l
  | .skewMeasureDone _ a b c d => skewOk a && skewOk b && skewOk c && skewOk d
  | .trainReceive _ _ rx => eqOk rx.eq
  | .adaptUpdate _ moves => movesOk moves
  | .portLock _ aligns _ eq => lockOk aligns eq
  | .neighbourPoll answered adverts => pollOk answered adverts
  | .tempSample l => readingsOk l
  | .govTick l => railsOk l
  | .mailboxGo l _ => requestOk l
  | .trap _ v => accessOk v
  | _ => true

end Sys2Proof
end

