-- ==== Sys2Proof/Machine/Operands.lean ====
section
/-! DEFINITION. The operands of commands as the block's queue gives them: the command at the front, and the queue's rest. Every command
names its lane, port or engine by an operand of its own type (log entry 2); what else an operand must be, WellFormed says. -/

namespace Sys2Proof.Machine

/-- The command at the front of the queue. -/
def State.front (s : State) : Option Instr := s.pending.head?

/-- The state with the queue's rest. -/
def State.popped (s : State) : State := { s with pending := s.pending.tail }

/-- A command is put at the front of the queue. -/
def State.push (s : State) (c : Instr) : State := { s with pending := c :: s.pending }

end Sys2Proof.Machine
end

