-- ==== Sys2Proof/Safety.lean ====
section
/-! DEFINITION. What a safe run keeps, in the terms that claims use: the rule of the single step, the canonical form of memories, and
the frame of a change (which parts of the state and which objects it may touch). -/

namespace Sys2Proof.Machine

/-- The rule of the single step (R29, R35): in TRACK, HOLDOVER and QUALIFY, and in REFUSED unless it was entered from ALIGN, the one
permitted step has been used. -/
def State.stepRule (s : State) : Prop :=
  match s.hearth.state with
  | .track | .holdover | .qualify => s.hearth.stepUsed = true
  | .refused => s.hearth.fromAlign = true ∨ s.hearth.stepUsed = true
  | _ => True

/-- Memories stand in their canonical form: addresses rise strictly, and nothing is listed that an unlisted address reads as. -/
def State.memoryOk (s : State) : Prop :=
  Memory.wf 0 s.pantry = true ∧ Memory.wf 0xFF s.flash = true ∧
    ∀ e, Memory.wf 0 (s.eng e).itcm = true ∧ Memory.wf 0 (s.eng e).dtcm = true

/-- The commands that act on a part held in reset as well (R201, R500, R509, R525): the resets and rails, the crystal, the comparators
and the test access port. -/
def actsWhileHeld : Instr → Bool
  | .powerOnReset .. | .warmReset .. | .railUndervoltage .. | .railRestore .. | .xoLoss .. | .xoRestore .. | .thermtrip ..
  | .thermtripLatchClear | .bypass | .idcode | .samplePreload .. | .extest .. | .extestPulse .. | .extestTrain .. | .clamp .. | .highz .. => true
  | _ => false

/-- The commands that may move the servo or STEP_USED (R20, R29, R30, R34, R39): the measurements and timers of the Hearth, its commands,
the writes that reach HEARTH_CMD or SYS_RESET, the loss of the source or of the SPLL, a handover between twins, and every reset. -/
def mayMoveServo : Instr → Bool
  | .powerOnReset .. | .warmReset .. | .railUndervoltage .. | .railRestore .. | .xoLoss .. | .xoRestore .. | .bootLoaderStart ..
  | .read .. | .write .. | .readMulti .. | .writeMulti .. | .blockRead .. | .blockWrite .. | .commit ..
  | .discover .. | .assignId .. | .falriErr .. | .notifyReceive .. | .mailboxGo .. | .objectWrite ..
  | .epRegistryWrite .. | .gateWrite .. | .sysReset .. | .expertSessionWrite .. | .dictWindowStore ..
  | .timeRespReceive .. | .servoUpdate | .ppsInEdge .. | .ptpMessageReceive .. | .conditionerUpdate | .stepCommit
  | .acquireComplete | .sourceLost | .qualShortExpire | .qualLongExpire | .reepoch | .abortAcq .. | .accept | .takeover => true
  | .tioCapture c .. => c.val == 16
  | .lockWindowEnd p _ => p.val == 0
  | .pllLoss p _ => p.val == 0
  | _ => false

/-- The parts of the state, but for the values of the dictionary's numeric objects. `notify` is the bits of the next NOTIFY of each
flag object (R379); `falri` is the rest of the management service. -/
inductive Part where
  | pending | out | free | blobs | power | fuses | hearth | servo | ports | lanes | groups | lports | plls | clkouts | clk | gens
  | tdcs | tio | cellar | tables | caravan | cal | irq | engines | sems | snap | lantern | jtag | falri | notify | hier | twin
  | flash | pantry
  deriving DecidableEq, Repr

/-- A part stands in `t` as in `s`. -/
def Part.same : Part → State → State → Prop
  | .pending, s, t => t.pending = s.pending
  | .out, s, t => t.out = s.out
  | .free, s, t => t.free = s.free
  | .blobs, s, t => t.blobs = s.blobs
  | .power, s, t => t.power = s.power
  | .fuses, s, t => t.fuses = s.fuses
  | .hearth, s, t => t.hearth = s.hearth
  | .servo, s, t => t.servo = s.servo
  | .ports, s, t => t.ports = s.ports
  | .lanes, s, t => t.lanes = s.lanes
  | .groups, s, t => t.groups = s.groups
  | .lports, s, t => t.lports = s.lports
  | .plls, s, t => t.plls = s.plls
  | .clkouts, s, t => t.clkouts = s.clkouts
  | .clk, s, t => t.clk = s.clk
  | .gens, s, t => t.gens = s.gens
  | .tdcs, s, t => t.tdcs = s.tdcs
  | .tio, s, t => t.tio = s.tio
  | .cellar, s, t => t.cellar = s.cellar
  | .tables, s, t => t.tables = s.tables
  | .caravan, s, t => t.caravan = s.caravan
  | .cal, s, t => t.cal = s.cal
  | .irq, s, t => t.irq = s.irq
  | .engines, s, t => t.engines = s.engines
  | .sems, s, t => t.sems = s.sems
  | .snap, s, t => t.snap = s.snap
  | .lantern, s, t => t.lantern = s.lantern
  | .jtag, s, t => t.jtag = s.jtag
  | .falri, s, t => { t.falri with notify := [] } = { s.falri with notify := [] }
  | .notify, s, t => t.falri.notify = s.falri.notify
  | .hier, s, t => t.hier = s.hier
  | .twin, s, t => t.twin = s.twin
  | .flash, s, t => t.flash = s.flash
  | .pantry, s, t => t.pantry = s.pantry

/-- The frame of a change: `t` differs from `s` at most in the parts `l` and in the objects whose keys stand in `ks`. -/
def State.only (t s : State) (l : List Part) (ks : List Nat) : Prop :=
  (∀ p, p ∉ l → p.same s t) ∧ ∀ k, k ∉ ks → ∀ d, Tab.get t.objs d k = Tab.get s.objs d k

/-- The key of an object, of its lowest subindex where none is named. -/
abbrev keyOf (o : Obj) (sub : Nat := o.lo) : Nat := o.key sub

/-- The keys of every subindex of some objects. -/
def allOf (os : List Obj) : List Nat := os.flatMap fun o => (List.range 256).map o.key

/-- The parts that raising a flag may touch beside its object: the interrupt controller, the Lantern's FIFO, the NOTIFY bits. -/
def flagParts : List Part := [.irq, .lantern, .notify]

/-- The objects that an interrupt event and a FLAG packet may touch: the state of an engine that WFI holds and the slots
that it idled (R436, R492), and the loss of a Lantern packet (R499). -/
def wakeKeys : List Nat :=
  [O.LT_LOST.key 0, O.OBS_FLAGS.key 0, O.ENG_STATE.key 1, O.ENG_STATE.key 2, O.ENG_STATE.key 3, O.ENG_STATE.key 4,
   O.ENG_STATE.key 5, O.ENG_STATE.key 6, O.ENG_STATE.key 7, O.ENG_STATE.key 8, O.ENG_STATE.key 9, O.ENG_STATE.key 10,
   O.ENG_STATE.key 11, O.ENG_STATE.key 12, O.ENG_SLOT_IDLE.key 1, O.ENG_SLOT_IDLE.key 2, O.ENG_SLOT_IDLE.key 3,
   O.ENG_SLOT_IDLE.key 4, O.ENG_SLOT_IDLE.key 5, O.ENG_SLOT_IDLE.key 6, O.ENG_SLOT_IDLE.key 7, O.ENG_SLOT_IDLE.key 8,
   O.ENG_SLOT_IDLE.key 9, O.ENG_SLOT_IDLE.key 10, O.ENG_SLOT_IDLE.key 11, O.ENG_SLOT_IDLE.key 12]

/-- The objects that raising a bit of a flag object may touch. -/
def flagKeys (o : Obj) (sub : Nat := o.lo) : List Nat := o.key sub :: wakeKeys

/-- The update unit is to perform operation `op` for ring `r`: the part runs, and the descriptor at the tail is owned and names it
(R348, R350). -/
def State.dmaDue (s : State) (r op : Nat) : Prop :=
  s.held = false ∧ s.dmaReady r = true ∧ bits (s.dmaWord r 0) 23 16 = op

/-- The descriptor that stood at the tail of ring `r` of `s` is completed in `t` with a status: OWN is 0, COMMIT stands in it, and the
tail has advanced (R348, R349). -/
def State.dmaDone (t s : State) (r st : Nat) : Prop :=
  bit (ofLe (t.pantryRead (s.dmaAddr r) 4)) 31 = false ∧ bits (ofLe (t.pantryRead (s.dmaAddr r) 4)) 15 8 = st ∧
    ofLe (t.pantryRead (s.dmaAddr r + 12) 4) = t.obj O.TABLE_COMMIT % 2 ^ 32 ∧
    t.obj O.TDMA_TAIL (r + 1) = (s.obj O.TDMA_TAIL (r + 1) + 1) % 2 ^ s.obj O.TDMA_SIZE (r + 1) % 2 ^ 16

/-- What the completion of a descriptor may touch: the Pantry, the interrupt and its FLAG packet. -/
def dmaParts : List Part := .pantry :: .free :: flagParts

/-- A message that this part alone takes as its own, and that repeats none of the last second (R368, R369, R377, R383). -/
def State.takes (s : State) (path : Path) (m : Msg) : Prop :=
  s.held = false ∧ bodyOk m = true ∧ s.ownDst (pathCode path) m.dst = true ∧ addrKind m.dst ≠ 2 ∧
    s.headRemoves (pathCode path) m.src = false ∧ s.learnDev (pathCode path) m.src = s ∧
    s.duplicate (pathCode path) m = none

/-- In `t` a request has been answered: its response is kept as the newest, has left on the chain, or waits in the mailbox that was
free (R377, R381, R386). -/
def State.answered (t s : State) (path : Path) (m : Msg) (r : Reply) : Prop :=
  t.falri.dups.head?.map (fun d => (d.path, d.src, d.seq, d.op, d.resp)) =
      some (pathCode path, m.src, m.seq, m.op, (t.responseTo m r).bytes) ∧
    (path = .chain → t.out.head? = some (.message chainPath (t.responseTo m r).bytes)) ∧
    (path = .hbus → s.falri.mbHeld = none → t.falri.mbHeld = some ((t.responseTo m r).bytes, false))

/-- What answering a request may touch: the service, what leaves, the stream of a native port, and the event of the mailbox. -/
def falriParts : List Part := .falri :: .out :: .free :: .lanes :: .lports :: flagParts

/-- The image of the descriptor at the tail of a ring (R349). -/
def State.dmaImage (s : State) (r : Nat) : Nat := ofLe (s.pantryRead (s.dmaAddr r + 16) 16)

/-- Engine `e` of `s` has been reset in `t` (R445, R448): its registers and its USER queue stand as after power-on, its memories and
its image as before; it is ACTIVE for no source and holds no semaphore; what its firmware had under way is lost. -/
def State.engCleared (t s : State) (e : Nat) : Prop :=
  t.eng e = { Dflt.engine with itcm := (s.eng e).itcm, dtcm := (s.eng e).dtcm, loaded := (s.eng e).loaded,
                               entry := (s.eng e).entry, samples := (s.eng e).samples } ∧
    (∀ j, j ≠ e → t.eng j = s.eng j) ∧ (∀ n, (t.src n).st = .active → (t.src n).owner ≠ e) ∧ (∀ k, t.sem k ≠ e + 1) ∧
    (∀ k, s.sem k ≠ e + 1 → t.sem k = s.sem k) ∧
    (∀ n ∈ groupLanes e, e < 8 → s.training n = true → t.linkState n = 0 ∧ ((s.lane n).abortWait = false → (t.lane n).failed = true)) ∧
    (∀ n ∈ groupLanes e, e < 8 → (s.calRec 0 n).state = 2 → (t.calRec 0 n).state = 1) ∧
    (e = 8 → t.falri.bufs = [] ∧ t.falri.staging = none) ∧ (e = 9 → t.hier.fetching = false)

/-- Engine `e` has faulted with a cause (R447, R449): it is reset, stands in FAULT, and the fault is recorded and counted. -/
def State.engFaulted (t s : State) (e cause : Nat) : Prop :=
  t.engCleared s e ∧ t.engState e = 4 ∧ t.obj O.ENG_LAST_CAUSE (e + 1) = cause ∧
    t.obj O.ENG_RESETS (e + 1) = (s.count O.ENG_RESETS (e + 1)).obj O.ENG_RESETS (e + 1) ∧
    t.obj O.ENG_FAULTS = (s.obj O.ENG_FAULTS ||| 2 ^ e) % 2 ^ 32

/-- What the reset of an engine may touch beside interrupts: a steward's lanes and calibrations, E8's transfers, E9's registry
transfer, the ring of E9 to E11. -/
def engineParts (e : Nat) : List Part :=
  .engines :: .sems :: flagParts ++ (if e < 8 then [.lanes, .cal] else if e = 8 then [.falri] else if e = 9 then [.hier] else [])

/-- The objects that the reset of an engine may touch. -/
def engineKeys (e : Nat) : List Nat :=
  wakeKeys ++ (if e < 8 then (groupLanes e).flatMap fun n => [O.LINK_STATE.key (n + 1), O.LINK_CMD_STATUS.key (n + 1)]
    else if e = 8 then [] else [O.TDMA_STATUS.key (e - 8)])

/-- The objects of an engine's fault (R447). -/
def faultKeys (e : Nat) : List Nat :=
  O.ENG_LAST_CAUSE.key (e + 1) :: O.ENG_RESETS.key (e + 1) :: O.ENG_FAULTS.key 0 :: engineKeys e

/-- An engine behind an instruction that has retired (R437). -/
def Engine.retired (g : Engine) : Engine := { g with minstret := (g.minstret + 1) % 2 ^ 64 }

/-- In `t` the slot of the instruction that engine `e` of `s` has retired is counted (R492). -/
def State.slotRetired (t s : State) (e : Nat) : Prop :=
  t.obj O.ENG_SLOT_RETIRE (e + 1) = (s.count O.ENG_SLOT_RETIRE (e + 1)).obj O.ENG_SLOT_RETIRE (e + 1)

/-- The image `b` stands in an engine's memories, the rest of them 0 (R445). -/
def Engine.holds (g : Engine) (b : Bytes) : Prop :=
  g.loaded = true ∧ g.entry = octets b 12 4 ∧
    (∀ i, Tab.get g.itcm 0 i = if i < octets b 4 4 then b.getD (32 + i) 0 else 0) ∧
    ∀ i, Tab.get g.dtcm 0 i = if i < octets b 8 4 then b.getD (32 + octets b 4 4 + i) 0 else 0

/-- An event has reached source `n` (R454): IDLE becomes PENDING, EVCNT counts it up to 255, and an ACTIVE edge source notes a
re-pend. -/
def State.hasEvent (t s : State) (n : Nat) : Prop :=
  (t.src n).st = (if (s.src n).st = .idle then .pending else (s.src n).st) ∧ (t.src n).ev = min 255 ((s.src n).ev + 1) ∧
    (t.src n).repend = ((s.src n).repend || (decide ((s.src n).st = .active) && !s.levelSrc n))

end Sys2Proof.Machine
end

