-- ==== Sys2Proof/Certificates/Slice0/Obligations.lean ====
section
/-! DEFINITION. The statements for the provers: what each command of the block does and leaves alone, family by family in the order of the
command table, and then what holds of every command and every step. A frame reads `t.only s parts keys`: `t` differs from `s` at most
in those parts and those objects. -/

set_option maxRecDepth 4000

open Sys2Proof Sys2Proof.Machine

/-- The block takes its commands first in, first out: a step with `c` at the front of the queue is `exec c` with the queue's rest. -/
def Obligations.StepRunsFrontCommand : Prop :=
  ∀ (c : Instr) (rest : List Instr) (s : State), step { s with pending := c :: rest } = exec c { s with pending := rest }

/-- A step on an empty queue (the model's choice, log entry 25): nothing while the part is held in reset; else, where the Hearth
runs and the count does not wrap, HEARTH_INC is added (R15) and one more cycle is counted. -/
def Obligations.IdleStepAddsHearthInc : Prop :=
  (∀ s : State, s.pending = [] → s.held = true → step s = .next s) ∧
  (∀ s : State, s.pending = [] → s.held = false → s.hearth.running = true →
    s.hearth.count.toNat + s.obj O.HEARTH_INC < 2 ^ 72 →
    ∃ t, step s = .next t ∧ t.hearth.count.toNat = s.hearth.count.toNat + s.obj O.HEARTH_INC ∧
      t.hearth.cycles = s.hearth.cycles + 1 ∧ t.hearth.state = s.hearth.state ∧ t.hearth.stepUsed = s.hearth.stepUsed)

/-- What reset leaves (R20, R363, R453, R454, R509, R512, R531; log entries 4, 9 and 28 name what the spec does not give): every
object reads its default, the Hearth does not run and its quality code reads 0xEF (R18), no lane trains, no interrupt source is
pending, the queue is empty, the cause is a power-on reset, memories are in canonical form and the rule of the single step holds. -/
def Obligations.ResetLeavesDefaults : Prop :=
  (∀ (o : Obj) (sub : Nat), State.reset.obj o sub = o.dflt ∧ State.reset.blob o sub = blobDflt o) ∧
  State.reset.hearth.running = false ∧ State.reset.quality = 0xEF ∧ (∀ n, (State.reset.src n).st = .idle) ∧
  State.reset.pending = [] ∧ State.reset.power.cause = 2 ∧ State.reset.power.booted = false ∧ State.reset.held = false ∧
  State.reset.stepRule ∧ State.reset.memoryOk

/-- Resets of the part (R201, R509, R511, R531). POR_N and RST_N reset it whatever it did: every object but TEMP and TEMP_PEAK on a
warm reset reads its default, and every other part of the state stands as State.reset has it, but for the queue, the record of what
left, the model's counter, the fuses, the flash, the levels of EXTIRQ (and, warm, the test access port); the straps are
sampled and the cause recorded. A watched rail that falls, or the crystal that goes, holds the part in reset; the return of
either clears its own hold, samples the straps and touches nothing else. -/
def Obligations.ResetsClearThePart : Prop :=
  (∀ (s : State) (straps : BitVec 5), ∃ t, exec (.powerOnReset straps) s = .next t ∧
    (∀ (o : Obj) (sub : Nat), t.obj o sub = o.dflt) ∧
    (∀ p : Part, p ∉ [.pending, .out, .free, .fuses, .flash, .irq, .power] → p.same State.reset t) ∧
    t.irq = { State.reset.irq with extirq := s.irq.extirq } ∧
    t.pending = s.pending ∧ t.out = s.out ∧ t.fuses = s.fuses ∧ t.flash = s.flash ∧
    t.power.straps = straps ∧ t.power.cause = 2 ∧ t.power.warm = 0 ∧ t.held = false ∧ t.power.thermtrip = s.power.thermtrip) ∧
  (∀ (s : State) (straps : BitVec 5), ∃ t, exec (.warmReset straps) s = .next t ∧
    (∀ (o : Obj) (sub : Nat), sub < 256 →
      t.obj o sub = if o.index = O.TEMP.index ∨ o.index = O.TEMP_PEAK.index then s.obj o sub else o.dflt) ∧
    (∀ p : Part, p ∉ [.pending, .out, .free, .fuses, .flash, .irq, .power, .jtag] → p.same State.reset t) ∧
    t.irq = { State.reset.irq with extirq := s.irq.extirq } ∧
    t.pending = s.pending ∧ t.out = s.out ∧ t.fuses = s.fuses ∧ t.flash = s.flash ∧ t.jtag = s.jtag ∧
    t.power.straps = straps ∧ t.power.cause = 4 ∧ t.power.warm = min 255 (s.power.warm + 1) ∧ t.held = s.held ∧
    t.power.thermtrip = s.power.thermtrip) ∧
  (∀ (s : State) (rail : WatchedRail), s.power.railDown = false → ∃ t, exec (.railUndervoltage rail) s = .next t ∧
    t.held = true ∧ t.power.cause = 2 ∧ (∀ (o : Obj) (sub : Nat), t.obj o sub = o.dflt) ∧ t.flash = s.flash ∧
    (∀ p : Part, p ∉ [.pending, .out, .free, .fuses, .flash, .irq, .power] → p.same State.reset t)) ∧
  (∀ (s : State) (cause : XoFailure), s.power.xoDown = false → ∃ t, exec (.xoLoss cause) s = .next t ∧
    t.held = true ∧ t.power.cause = (if cause = .spllLost then 16 else 8) ∧ t.flash = s.flash ∧
    (∀ p : Part, p ∉ [.pending, .out, .free, .fuses, .flash, .irq, .power, .jtag] → p.same State.reset t)) ∧
  (∀ (s : State) (straps : BitVec 5), s.power.railDown = true → ∃ t, exec (.railRestore straps) s = .next t ∧
    t.power.railDown = false ∧ t.power.xoDown = s.power.xoDown ∧ t.power.straps = straps ∧ t.only s [.power] []) ∧
  (∀ (s : State) (straps : BitVec 5), s.power.xoDown = true → ∃ t, exec (.xoRestore straps) s = .next t ∧
    t.power.xoDown = false ∧ t.power.railDown = s.power.railDown ∧ t.power.straps = straps ∧ t.only s [.power] [])

/-- First light and the reset by software (R20, R509, R512, R529). The boot loader runs once per reset, once the SPLL is LOCKED: the Hearth then runs in FREE
from count 0, no step used. A write of 0xA5 to SYS_RESET on a path that may write acts as a pulse on RST_N with cause 32; on a path
that the Gatehouse closes it only counts a denial. -/
def Obligations.BootStartsTheHearth : Prop :=
  (∀ (s : State) (ms : Nat), s.held = false → s.power.booted = false → s.pllState 0 = 2 → ∃ t, exec (.bootLoaderStart ms) s = .next t ∧
    t.power.booted = true ∧ t.hearth.state = .free ∧ t.hearth.running = true ∧ t.hearth.count = 0 ∧ t.hearth.cycles = 0 ∧
    t.hearth.stepUsed = false ∧ t.hearth.phase = .none) ∧
  (∀ (s : State) (ms : Nat), s.power.booted = true → exec (.bootLoaderStart ms) s = .next s) ∧
  (∀ (s : State) (path : Path), s.held = false → s.mayWritePath (pathCode path) = true →
    ∃ t, exec (.sysReset path 0xA5) s = .next t ∧ t.power.cause = 32 ∧ t.power.straps = s.power.pins ∧ t.power.booted = false ∧
      t.out = .resetPulse :: s.out ∧ t.flash = s.flash ∧ t.fuses = s.fuses ∧ t.jtag = s.jtag ∧
      (∀ (o : Obj) (sub : Nat), sub < 256 →
        t.obj o sub = if o.index = O.TEMP.index ∨ o.index = O.TEMP_PEAK.index then s.obj o sub else o.dflt) ∧
      (∀ p : Part, p ∉ [.pending, .out, .free, .fuses, .flash, .irq, .power, .jtag] → p.same State.reset t)) ∧
  (∀ (s : State) (path : Path) (v : Byte), s.held = false → s.mayWritePath (pathCode path) = false →
    ∃ t, exec (.sysReset path v) s = .next t ∧ t.obj O.GATE_DENIED = min (s.obj O.GATE_DENIED + 1) (2 ^ 32 - 1) ∧
      t.only s flagParts (O.GATE_DENIED.key 0 :: O.GATE_LAST_DENIED.key 0 :: flagKeys O.DICT_FLAGS))

/-- The counter of the Hearth (R15, R20, R23, R24, R26, R29, R32, R43, R47). The wrap of the nanosecond field counts one wrap, raises
WRAP_TICK and leaves the counter less than one increment past zero. A read of 0x0000 takes the shadow and changes no time. A
conditioner update takes the new rate, what the interval that ends has applied leaves the correction, and the next interval applies at
most what is left, so that a correction is never passed. The commit cycle of a
step adds the increment and k whole F0 periods at once, and sets STEP_USED. -/
def Obligations.HearthCounterRuns : Prop :=
  (∀ s : State, s.held = false → s.hearth.running = true → 0 < s.obj O.HEARTH_INC → s.obj O.HEARTH_INC < 2 ^ 64 →
    ∃ t, exec .nsWrap s = .next t ∧
      t.obj O.HEARTH_WRAP = (s.obj O.HEARTH_WRAP + 1) % 2 ^ 32 ∧ (t.obj O.HEARTH_FLAGS).testBit 6 = true ∧
      t.hearth.count.toNat < s.obj O.HEARTH_INC ∧ t.hearth.cycles = s.hearth.cycles + s.toWrap ∧
      t.only s (.hearth :: flagParts) (keyOf O.HEARTH_WRAP :: keyOf O.F0_CNT :: flagKeys O.HEARTH_FLAGS)) ∧
  (∀ s : State, s.held = false → ∃ t, exec .hbusTimeRead s = .next t ∧
      t.hearth = { s.hearth with shadowFrac := s.stamp % 2 ^ 32, shadowWrap := s.obj O.HEARTH_WRAP } ∧
      t.out = .value s.ns :: s.out ∧ t.hearthWindow 4 = s.stamp % 2 ^ 32 ∧ t.hearthWindow 8 = s.obj O.HEARTH_WRAP ∧
      t.only s [.hearth, .out] []) ∧
  (∀ s : State, s.held = false → s.hearth.running = true → s.hearth.acceptWait = false → s.hearth.phase ≠ .committed →
    ∃ t, exec .conditionerUpdate s = .next t ∧
      t.hearth.rate = s.objI O.HEARTH_RATE ∧ t.hearth.count = s.hearth.count ∧ t.hearth.state = s.hearth.state ∧
      t.hearth.slewLeft = s.hearth.slewLeft - s.hearth.slewNow ∧
      t.hearth.slewNow.natAbs ≤ t.hearth.slewLeft.natAbs ∧ 0 ≤ t.hearth.slewNow * t.hearth.slewLeft ∧
      (t.hearth.slewLeft = 0 → t.obj O.HEARTH_SLEW = 0) ∧ t.only s [.hearth] [keyOf O.HEARTH_SLEW]) ∧
  (∀ s : State, s.held = false → s.hearth.phase = .computed → s.hearth.running = true →
      s.hearth.cycles = s.hearth.stepAt + 127 →
    ∃ t, exec .stepCommit s = .next t ∧ t.hearth.stepUsed = true ∧ t.hearth.phase ≠ .computed ∧
      t.hearth.cycles = s.hearth.cycles + 1 ∧
      t.hearth.count = BitVec.ofInt 72 (s.hearth.count.toNat + s.obj O.HEARTH_INC + s.hearth.stepK * s.f0Period))

/-- How the servo changes state (R25 to R30, R34, R35, R36, R166, R168). ACQUIRE ends in ALIGN with the step computed in that cycle, or
in REFUSED with MASTER_JUMP and STEP_USED clear where R28 forbids it. A lost source takes ACQUIRE to FREE with no step used, and TRACK
without an alternate to HOLDOVER at the mean of the rates of TRACK. QUAL_SHORT takes QUALIFY, and QUAL_LONG a HOLDOVER after
REF_JUMP, to TRACK, slewing the offset in. -/
def Obligations.ServoChangesState : Prop :=
  (∀ s : State, s.held = false → s.hearth.state = .acquire → s.freqHeld = true → s.hearth.phase = .none →
    (0 ≤ s.stepFor (s.thetaOf s.source) ∨ s.obj O.REEPOCH_ALLOW_BACK ≠ 0) →
    ∃ t, exec .acquireComplete s = .next t ∧ t.hearth.state = .align ∧ t.hearth.phase = .computed ∧
      t.hearth.step = s.stepFor (s.thetaOf s.source) ∧ t.hearth.stepAt = s.hearth.cycles ∧
      t.hearth.stepUsed = s.hearth.stepUsed ∧ t.hearth.count = s.hearth.count ∧ t.only s [.hearth] []) ∧
  (∀ s : State, s.held = false → s.hearth.state = .acquire → s.freqHeld = true → s.hearth.phase = .none →
    s.stepFor (s.thetaOf s.source) < 0 → s.obj O.REEPOCH_ALLOW_BACK = 0 →
    ∃ t, exec .acquireComplete s = .next t ∧ t.hearth.state = .refused ∧ t.hearth.fromAlign = true ∧
      t.hearth.stepUsed = s.hearth.stepUsed ∧ t.hearth.count = s.hearth.count ∧ (t.obj O.HEARTH_FLAGS).testBit 2 = true ∧
      t.only s (.hearth :: flagParts) (flagKeys O.HEARTH_FLAGS)) ∧
  (∀ s : State, s.held = false → s.hearth.state = .acquire → s.source ≠ noSource → s.sourceGone = true →
    ∃ t, exec .sourceLost s = .next t ∧ t.hearth.state = .free ∧ t.hearth.stepUsed = s.hearth.stepUsed ∧
      t.hearth.count = s.hearth.count ∧ t.obj O.UPSTREAM_PORT = noSource ∧ t.obj O.HEARTH_RATE 3 = s.obj O.HEARTH_RATE 3 ∧
      t.only s [.hearth, .servo, .ports]
        [keyOf O.UPSTREAM_PORT, keyOf O.UPSTREAM_ALT, keyOf O.PORT_ROUTE_STATE (s.source + 1)]) ∧
  (∀ s : State, s.held = false → s.hearth.state = .track → s.frozen = false → s.source ≠ noSource → s.sourceGone = true →
    s.firstSource (· != s.source) = noSource → s.servo.rates ≠ [] →
    ∃ t, exec .sourceLost s = .next t ∧ t.hearth.state = .holdover ∧ t.hearth.count = s.hearth.count ∧
      t.obj O.UPSTREAM_PORT = noSource ∧ t.obj O.HOLD_RATE = ofSigned 64 (meanI s.servo.rates) ∧
      t.obj O.HEARTH_RATE = ofSigned 64 (meanI s.servo.rates) ∧ t.servo.b0 = s.trackBound ∧ t.servo.leftAt = s.hearth.cycles ∧
      t.only s [.hearth, .servo, .ports, .tio] [keyOf O.UPSTREAM_PORT, keyOf O.UPSTREAM_ALT, keyOf O.HOLD_RATE,
        keyOf O.HEARTH_RATE, keyOf O.PORT_ROUTE_STATE (s.source + 1)]) ∧
  (∀ s : State, s.held = false → s.hearth.state = .qualify → s.servo.qOn = true → s.inJump s.source = true →
    ∃ t, exec .qualShortExpire s = .next t ∧ t.hearth.state = .track ∧ t.hearth.count = s.hearth.count ∧
      (s.thetaOf s.source ≠ 0 → t.hearth.slewLeft = -(s.thetaOf s.source * 2 ^ 64)) ∧
      t.hearth.stepUsed = s.hearth.stepUsed ∧ t.only s [.hearth, .servo, .tio] []) ∧
  (∀ s : State, s.held = false → s.hearth.state = .holdover → s.hearth.refJump = true → s.servo.qOn = true →
    s.obj O.REF_RETURN_POLICY = 0 →
    ∃ t, exec .qualLongExpire s = .next t ∧ t.hearth.state = .track ∧ t.hearth.count = s.hearth.count ∧
      (s.thetaOf s.source ≠ 0 → t.hearth.slewLeft = -(s.thetaOf s.source * 2 ^ 64)) ∧
      t.hearth.stepUsed = s.hearth.stepUsed ∧ t.only s [.hearth, .servo, .tio] [])

/-- The commands of the Hearth (R30, R39, R40, R42). REEPOCH returns the part to FREE, clears STEP_USED and stops the slew; HEARTH_RATE
stays. ABORT_ACQ returns ACQUIRE to FREE with STATUS ABORTED and is REFUSED once the step of ALIGN has been committed. ACCEPT takes a
REFUSED that was entered from TRACK back to TRACK. While one is BUSY, another changes nothing. -/
def Obligations.HearthCommandsAct : Prop :=
  (∀ s : State, s.held = false → s.hearthBusy = false → s.hearth.state ≠ .off →
    ∃ t, exec .reepoch s = .next t ∧ t.hearth.state = .free ∧ t.hearth.stepUsed = false ∧ t.hearth.slewLeft = 0 ∧
      t.hearth.reepoched = true ∧ t.hearth.count = s.hearth.count ∧ t.obj O.HEARTH_SLEW = 0 ∧
      t.obj O.HEARTH_RATE = s.obj O.HEARTH_RATE ∧ t.status O.HEARTH_CMD_STATUS = 2 ∧
      t.only s [.hearth, .servo] [keyOf O.HEARTH_SLEW, keyOf O.ACC_BOUND, keyOf O.HEARTH_CMD_STATUS]) ∧
  (∀ (s : State) (c : Bool), s.held = false → s.hearthBusy = false → s.hearth.state = .acquire →
    ∃ t, exec (.abortAcq c) s = .next t ∧ t.hearth.state = .free ∧ t.hearth.stepUsed = s.hearth.stepUsed ∧
      t.hearth.count = s.hearth.count ∧ t.status O.HEARTH_CMD_STATUS = 3 ∧
      t.only s [.hearth, .servo] [keyOf O.HEARTH_CMD_STATUS]) ∧
  (∀ s : State, s.held = false → s.hearthBusy = false → s.hearth.state = .align → s.hearth.stepUsed = true →
    ∃ t, exec (.abortAcq false) s = .next t ∧ t.hearth = s.hearth ∧ t.status O.HEARTH_CMD_STATUS = 4 ∧
      t.only s [] [keyOf O.HEARTH_CMD_STATUS]) ∧
  (∀ s : State, s.held = false → s.hearthBusy = false → s.hearth.state = .refused → s.hearth.fromAlign = false →
    ∃ t, exec .accept s = .next t ∧ t.hearth.state = .track ∧ t.hearth.count = s.hearth.count ∧
      t.hearth.stepUsed = s.hearth.stepUsed ∧
      t.status O.HEARTH_CMD_STATUS = (if s.thetaOf s.source = 0 then 2 else 1) ∧
      (s.thetaOf s.source ≠ 0 → t.hearth.slewLeft = -(s.thetaOf s.source * 2 ^ 64) ∧ t.hearth.acceptWait = true) ∧
      t.only s [.hearth, .servo, .tio] [keyOf O.HEARTH_CMD_STATUS]) ∧
  (∀ (s : State) (b : Bool), s.held = false → s.hearthBusy = true →
    exec .reepoch s = .next s ∧ exec (.abortAcq b) s = .next s ∧ exec .accept s = .next s)

/-- One servo update in TRACK with no route change pending and no asymmetry just written (R21, R158, R160, R168; the loop's own value is a free one, log entry 3): the
average of the ordinary offsets becomes HEARTH_OFFSET, HEARTH_RATE stays within ±200 ppm, its value joins the rates of TRACK, the sums
start again, and time itself does not change. SEL_REVERT makes the better source a candidate, which a servo update in TRACK takes and whose
difference it slews in once its θ lies within JUMP_LIMIT (R165, R166). -/
def Obligations.ServoUpdateSteers : Prop :=
  (∀ s : State, s.held = false → s.hearth.running = true → s.hearth.state = .track → s.frozen = false →
    (∀ p < 48, s.objI O.PORT_ASYM_CAL (p + 1) = (s.port p).calAct ∧ s.objI O.PORT_ASYM_ROUTE (p + 1) = (s.port p).routeAct ∧
      (s.port p).settled = false) →
    s.servo.revert = none → s.servo.altWait = none → 0 < s.servo.acceptN → 0 < s.servo.thN →
    ∃ t, exec .servoUpdate s = .next t ∧
      t.obj O.HEARTH_OFFSET = ofSigned 64 (roundDiv s.servo.thSum s.servo.thN) ∧
      -rateMax ≤ t.objI O.HEARTH_RATE ∧ t.objI O.HEARTH_RATE ≤ rateMax ∧
      t.servo.rates = (t.objI O.HEARTH_RATE :: s.servo.rates).take s.holdUpdates ∧
      t.servo.thSum = 0 ∧ t.servo.thN = 0 ∧ t.servo.acceptN = 0 ∧ t.servo.missed = 0 ∧
      t.only s (.servo :: .free :: flagParts)
        (keyOf O.HEARTH_OFFSET :: keyOf O.HEARTH_RATE :: keyOf O.ACC_BOUND :: keyOf O.UPSTREAM_ALT :: wakeKeys)) ∧
  (∀ s : State, s.held = false → s.obj O.SEL_REVERT = 1 → s.hearth.state = .track → s.source ≠ noSource →
    s.firstSource (fun _ => true) ≠ noSource → s.firstSource (fun _ => true) ≠ s.source →
    ∃ t, exec .sourceRevert s = .next t ∧ t.servo = { s.servo with revert := some (s.firstSource fun _ => true) } ∧
      t.only s [.servo] []) ∧
  (∀ (s : State) (q : Nat), s.held = false → s.hearth.state = .track → s.frozen = false → s.servo.altWait = none →
    s.servo.revert = some q → s.obj O.SEL_REVERT = 1 → s.sourceKeys.any (fun k => keySource k == q) = true →
    s.firstSource (fun r => r == q || r == s.source) = q → s.inJump q = true →
    (s.switchWaiting).obj O.UPSTREAM_PORT = q % 256 ∧
      (s.switchWaiting).obj O.UPSTREAM_SWITCH = min (s.obj O.UPSTREAM_SWITCH + 1) (2 ^ 32 - 1) ∧
      (s.switchWaiting).hearth.slewLeft = -(s.thetaOf q * 2 ^ 64) ∧ (s.switchWaiting).hearth.state = .track ∧
      (s.switchWaiting).only s [.hearth, .servo] [keyOf O.UPSTREAM_PORT, keyOf O.UPSTREAM_SWITCH])

/-- A lane in training moves through its search (R82, R83, R87, R89, R120). CDR lock starts the bit-slip search; the 64th valid header
at a position is its decision point, and where no position of the 130 shows it the training fails; at most 16 invalid headers of 4,096 fix
the slip count and give block lock, more send the search on at the next position, and at position 129 fail the training; a SUPER seeds the descrambler; the time limits fail the training with their reasons; a retry starts it anew. -/
def Obligations.TrainingSearches : Prop :=
  (∀ (s : State) (n : Fin 48), s.held = false → s.training n = true → s.linkState n = 0 → (s.group (groupOf n)).mode ≠ 0xFF →
    (s.lane n).abortWait = false → (s.calRec 1 n).direct = false → (s.calRec 0 n).state ≠ 2 →
    ∃ t, exec (.cdrLock n) s = .next t ∧ t.linkState n = 1 ∧
      t.lane n = { s.lane n with slip := 0, decided := false } ∧ (∀ m, m ≠ n.val → t.lane m = s.lane m) ∧
      t.only s [.lanes] [keyOf O.LINK_STATE (n + 1)]) ∧
  (∀ (s : State) (n : Fin 48) (l : List (List (BitVec 2))) (i : Nat), s.held = false → s.training n = true → s.linkState n = 1 →
    (s.lane n).decided = false → (l.take (130 - (s.lane n).slip)).findIdx? positionOk = some i →
    ∃ t, exec (.bitslipDecision n l) s = .next t ∧ t.lane n = { s.lane n with decided := true, slip := (s.lane n).slip + i } ∧
      (∀ m, m ≠ n.val → t.lane m = s.lane m) ∧ t.only s [.lanes] []) ∧
  (∀ (s : State) (n : Fin 48) (l : List (List (BitVec 2))), s.held = false → s.training n = true → s.linkState n = 1 →
    (s.lane n).decided = false → (s.lane n).abortWait = false → 130 ≤ (s.lane n).slip + l.length →
    (∀ x ∈ l, positionOk x = false) →
    ∃ t, exec (.bitslipDecision n l) s = .next t ∧ t.linkState n = 0 ∧ (t.lane n).failed = true ∧
      t.status O.LINK_CMD_STATUS (n + 1) = 5 ∧ bits (t.obj O.LINK_CMD_STATUS (n + 1)) 15 12 = 1 ∧
      t.only s [.lanes] [keyOf O.LINK_STATE (n + 1), keyOf O.LINK_CMD_STATUS (n + 1)]) ∧
  (∀ (s : State) (n : Fin 48) (hs : List (BitVec 2)), s.held = false → s.training n = true → s.linkState n = 1 →
    (s.lane n).decided = true → (s.lane n).abortWait = false → (s.lane n).slip ≤ 129 → hs.countP (fun h => !headerValid h) ≤ 16 →
    ∃ t, exec (.blockLockConfirm n hs) s = .next t ∧ t.linkState n = 2 ∧ t.obj O.LINK_SLIP (n + 1) = (s.lane n).slip ∧
      (t.group (groupOf n)).settled = true ∧ (∀ m, m ≠ n.val → t.lane m = s.lane m) ∧
      t.only s [.lanes, .groups] [keyOf O.LINK_STATE (n + 1), keyOf O.LINK_SLIP (n + 1)]) ∧
  (∀ (s : State) (n : Fin 48) (hs : List (BitVec 2)), s.held = false → s.training n = true → s.linkState n = 1 →
    (s.lane n).decided = true → (s.lane n).abortWait = false → (s.lane n).slip < 129 → 16 < hs.countP (fun h => !headerValid h) →
    ∃ t, exec (.blockLockConfirm n hs) s = .next t ∧ t.lane n = { s.lane n with decided := false, slip := (s.lane n).slip + 1 } ∧
      (∀ m, m ≠ n.val → t.lane m = s.lane m) ∧ t.only s [.lanes] []) ∧
  (∀ (s : State) (n : Fin 48) (hs : List (BitVec 2)), s.held = false → s.training n = true → s.linkState n = 1 →
    (s.lane n).decided = true → (s.lane n).abortWait = false → (s.lane n).slip = 129 → 16 < hs.countP (fun h => !headerValid h) →
    ∃ t, exec (.blockLockConfirm n hs) s = .next t ∧ t.linkState n = 0 ∧ (t.lane n).failed = true ∧
      t.status O.LINK_CMD_STATUS (n + 1) = 5 ∧ bits (t.obj O.LINK_CMD_STATUS (n + 1)) 15 12 = 1 ∧
      t.only s [.lanes] [keyOf O.LINK_STATE (n + 1), keyOf O.LINK_CMD_STATUS (n + 1)]) ∧
  (∀ (s : State) (n : Fin 48) (b : Body) (a : LineTime), s.held = false → s.native n = true → s.linkState n = 2 →
    (s.lane n).test = false → (s.lane n).abortWait = false → blk b 63 16 = 0xC3A55A3C96E1 →
    ∃ t, exec (.superReceive n b a) s = .next t ∧ t.linkState n = 3 ∧
      t.lane n = { s.lane n with cdr := ((s.sampled n a.codes).lane n).cdr, descr := scrSeed (blk b 119 88) (blk b 71 70),
                                 sfcRx := blk b 119 88, superN := (s.lane n).superN + 1, superAt := a.tw } ∧
      t.only s [.lanes] [keyOf O.LINK_STATE (n + 1)]) ∧
  (∀ (s : State) (n : Fin 48), s.held = false → s.training n = true → s.linkState n = 2 → (s.lane n).abortWait = false →
    ∃ t, exec (.superSearchTimeout n) s = .next t ∧ t.linkState n = 0 ∧ (t.lane n).failed = true ∧
      t.status O.LINK_CMD_STATUS (n + 1) = 5 ∧ bits (t.obj O.LINK_CMD_STATUS (n + 1)) 15 12 = 2 ∧
      t.only s [.lanes] [keyOf O.LINK_STATE (n + 1), keyOf O.LINK_CMD_STATUS (n + 1)]) ∧
  (∀ (s : State) (n : Fin 48), s.held = false → s.training n = true → (s.lane n).abortWait = false →
    ∃ t, exec (.trainTimeout n) s = .next t ∧ t.linkState n = 0 ∧ (t.lane n).failed = true ∧
      t.status O.LINK_CMD_STATUS (n + 1) = 5 ∧ bits (t.obj O.LINK_CMD_STATUS (n + 1)) 15 12 = 4 ∧
      t.only s [.lanes] [keyOf O.LINK_STATE (n + 1), keyOf O.LINK_CMD_STATUS (n + 1)]) ∧
  (∀ (s : State) (n : Fin 48), s.held = false → (s.lane n).failed = true → (s.lane n).aborted = false →
    ∃ t, exec (.trainingRetry n) s = .next t ∧ t.linkState n = 0 ∧ (t.lane n).failed = false ∧ (t.lane n).decided = false ∧
      t.obj O.TX_TAPS (n + 1) = s.obj O.TX_TAP_INIT (n + 1) % 2 ^ 32 ∧
      t.only s [.lanes, .cal] [keyOf O.LINK_STATE (n + 1), keyOf O.TX_TAPS (n + 1)])

/-- The handshake, the end of training and the skew measurement (R83 to R86, R88, R91, R93 to R97). A TRAIN block moves the lane on by
one state and its INIT PRESET sets the taps; a RATE_N that is not the lane's own fails the training with reason 3. Eight ready blocks
end the training: the lane of a one-lane port is READY, a lane of a bonded port measures its skew, and the means of that measurement
become LINK_LANE_SKEW. A LANEMAP fixes the peer's position and identity. -/
def Obligations.HandshakeAndSkew : Prop :=
  (∀ (s : State) (n : Fin 48) (b : Body) (rx : RxFinding), s.held = false → s.training n = true → s.linkState n = 3 →
    (s.lane n).abortWait = false → blk b 99 88 = s.portN n → blk b 115 113 = 1 →
    ∃ t, exec (.trainReceive n b rx) s = .next t ∧ t.linkState n = 4 ∧ t.obj O.TX_TAPS (n + 1) = 0x3F00 ∧
      (t.lane n).stCm1 = 1 ∧ (t.lane n).stC0 = 1 ∧ (t.lane n).stCp1 = 1 ∧ (t.lane n).peerRx = blk b 119 116 ∧
      (∀ m, m ≠ n.val → t.lane m = s.lane m) ∧
      t.out = .train n (t.trainBody n) :: s.out ∧
      t.only s [.lanes, .out] [keyOf O.LINK_STATE (n + 1), keyOf O.TX_TAPS (n + 1)]) ∧
  (∀ (s : State) (n : Fin 48) (b : Body) (rx : RxFinding), s.held = false → s.training n = true → 3 ≤ s.linkState n →
    s.linkState n ≤ 6 → (s.lane n).abortWait = false → blk b 99 88 ≠ s.portN n →
    ∃ t, exec (.trainReceive n b rx) s = .next t ∧ t.linkState n = 0 ∧ (t.lane n).failed = true ∧
      t.status O.LINK_CMD_STATUS (n + 1) = 5 ∧ bits (t.obj O.LINK_CMD_STATUS (n + 1)) 15 12 = 3 ∧
      t.obj O.LINK_FLAGS (n + 1) = (s.obj O.LINK_FLAGS (n + 1) ||| 8) % 2 ^ 32 ∧
      t.only s (.lanes :: flagParts) (keyOf O.LINK_STATE (n + 1) :: keyOf O.LINK_CMD_STATUS (n + 1) :: flagKeys O.LINK_FLAGS (n + 1))) ∧
  (∀ (s : State) (n : Fin 48), s.held = false → s.training n = true → s.linkState n = 6 → 8 ≤ (s.lane n).readyRun →
    (s.lane n).abortWait = false → s.width (s.portOf n) = 1 → s.status O.LINK_CMD_STATUS (n + 1) ≠ 1 →
    ∃ t, exec (.trainingComplete n) s = .next t ∧ t.linkState n = 8 ∧ t.obj O.LINK_DESKEW (n + 1) = 0 ∧
      t.obj O.LINK_LANE_SKEW (n + 1) = 0 ∧
      t.obj O.LINK_TX_LAT (n + 1) = s.latUnits n 390 (s.lane n).anaTx % 2 ^ 64 ∧
      t.obj O.LINK_RX_LAT (n + 1) = s.latUnits n (390 + s.obj O.LINK_SLIP (n + 1)) (s.lane n).anaRx % 2 ^ 64 ∧
      t.only s [.lanes] [keyOf O.LINK_STATE (n + 1), keyOf O.LINK_DESKEW (n + 1), keyOf O.LINK_LANE_SKEW (n + 1),
        keyOf O.LINK_TX_LAT (n + 1), keyOf O.LINK_RX_LAT (n + 1)]) ∧
  (∀ (s : State) (n : Fin 48), s.held = false → s.training n = true → s.linkState n = 6 → 8 ≤ (s.lane n).readyRun →
    (s.lane n).abortWait = false → s.width (s.portOf n) ≠ 1 → (s.lport (s.portOf n)).up = true →
    ∃ t, exec (.trainingComplete n) s = .next t ∧ t.linkState n = 7 ∧ t.obj O.LINK_DESKEW (n + 1) = 0 ∧
      t.lane n = { s.lane n with superN := 0, deskIn := none } ∧
      t.only s [.lanes] [keyOf O.LINK_STATE (n + 1), keyOf O.LINK_DESKEW (n + 1), keyOf O.LINK_TX_LAT (n + 1),
        keyOf O.LINK_RX_LAT (n + 1)]) ∧
  (∀ (s : State) (p : Fin 48) (e0 e1 e2 e3 : List SkewEx), s.held = false → s.native p = true → (s.lport p).up = false → p.val < 47 →
    s.width p = 2 → s.skewLanes p = [p.val, p.val + 1] → e0 ≠ [] → e1 ≠ [] →
    (∀ n, n = p.val ∨ n = p.val + 1 → (s.lane n).aligned = true ∧ (s.lane n).abortWait = false ∧
      s.status O.LINK_CMD_STATUS (n + 1) ≠ 1) →
    ∃ t, exec (.skewMeasureDone p e0 e1 e2 e3) s = .next t ∧ t.linkState p = 8 ∧ t.linkState (p + 1) = 8 ∧
      t.obj O.LINK_LANE_SKEW (p + 1) = 0 ∧ t.obj O.LINK_LANE_SKEW (p + 2) = ofSigned 64 ((s.skewMeans p 0 [e0, e1, e2, e3]).1.getD 1 0 -
        (s.skewMeans p 0 [e0, e1, e2, e3]).1.getD 0 0) % 2 ^ 64 ∧
      (t.lane p).skewDone = true ∧ (t.lane (p + 1)).skewDone = true ∧
      t.only s [.lanes] [keyOf O.LINK_STATE (p + 1), keyOf O.LINK_STATE (p + 2), keyOf O.LINK_LANE_SKEW (p + 1),
        keyOf O.LINK_LANE_SKEW (p + 2)]) ∧
  (∀ (s : State) (n : Fin 48) (c : LockLoss), s.held = false → s.native n = true → s.training n = true → 2 ≤ s.linkState n →
    s.linkState n < 8 → (s.lane n).abortWait = false →
    ∃ t, exec (.blockLockLoss n c) s = .next t ∧ t.linkState n = 0 ∧ (t.lane n).decided = false ∧
      t.obj O.TX_TAPS (n + 1) = s.obj O.TX_TAP_INIT (n + 1) % 2 ^ 32 ∧
      t.only s [.lanes, .cal] [keyOf O.LINK_STATE (n + 1), keyOf O.TX_TAPS (n + 1)]) ∧
  (∀ (s : State) (n : Fin 48) (b : Body), s.held = false → s.native n = true → s.linkState n = 6 → (s.lane n).test = false →
    (s.lane n).removed = false → s.portOf n = n → s.width n = 1 → s.obj O.PORT_ACTIVE (n + 1) = 0 →
    ∃ t, exec (.lanemapReceive n b) s = .next t ∧ (t.lane n).posRx = blk b 119 118 ∧
      (t.lane n).deskIn = some (blk b 105 96, blk b 117 116, blk b 89 89) ∧ (t.lport n).peerAct = blk b 115 112 ∧
      (t.lport n).peerOk = blk b 111 108 ∧ t.obj O.PORT_PEER (n + 1) = blk b 89 89 * 2 ^ 31 + blk b 105 96 ∧
      t.linkState n = 6 ∧ t.only s [.lanes, .lports] [keyOf O.PORT_PEER (n + 1), keyOf O.PORT_ACTIVE (n + 1)])

/-- A lane joins, leaves or is stopped (R83, R89, R98, R100, R102, R103). Readmission at an idle boundary adds the lane's position to PORT_ACTIVE; READMIT_FORCE holds
the next START; RETRAIN starts a training, after the lane has left ACTIVE where its port is bonded and in service, and one that is BUSY
changes nothing; ABORT stops a search at once, loses against a decision of the same cycle, stops training at its next state change
once the decision point has passed, takes back a RETRAIN that waits for its round 1, and is refused where there is nothing to stop. -/
def Obligations.LaneServices : Prop :=
  (∀ (s : State) (n : Fin 48), s.held = false → (s.lport (s.portOf n)).up = true → s.width (s.portOf n) ≤ 4 →
    bit (s.usable (s.portOf n)) (n - s.portOf n) = true →
    (s.lane n).skewDone = true → bit (s.txAct (s.portOf n)) (n - s.portOf n) = false →
    s.idleBoundary (s.portOf n) (s.txWidth (s.portOf n) + 1) = true →
    ∃ t, exec (.laneReadmit n) s = .next t ∧
      t.obj O.PORT_ACTIVE (s.portOf n + 1) =
        s.rxAct (s.portOf n) * 16 + (s.txAct (s.portOf n) ||| 2 ^ (n - s.portOf n)) % 16 ∧
      t.only s [.lports, .caravan] (keyOf O.PORT_ACTIVE (s.portOf n + 1) :: keyOf O.PORT_TIMING_POS (s.portOf n + 1) ::
        (s.portLanes (s.portOf n)).map fun m => keyOf O.LINK_STATE (m + 1))) ∧
  (∀ (s : State) (p : Fin 48), s.held = false → (s.lport p).widen = true →
    ∃ t, exec (.readmitForceExpire p) s = .next t ∧ t.lport p = { s.lport p with forced := true } ∧
      (∀ q, q ≠ p.val → t.lport q = s.lport q) ∧ t.only s [.lports] []) ∧
  (∀ (s : State) (n : Fin 48), s.held = false → s.status O.LINK_CMD_STATUS (n + 1) ≠ 1 → (s.lport (s.portOf n)).up = false →
    ∃ t, exec (.retrain n) s = .next t ∧ t.linkState n = 0 ∧ t.status O.LINK_CMD_STATUS (n + 1) = 1 ∧
      bits (t.obj O.LINK_CMD_STATUS (n + 1)) 7 4 = 1 ∧ (t.lane n).removed = false ∧ (t.lane n).aborted = false ∧
      t.obj O.TX_TAPS (n + 1) = s.obj O.TX_TAP_INIT (n + 1) % 2 ^ 32 ∧
      t.only s [.lanes, .cal] [keyOf O.LINK_STATE (n + 1), keyOf O.TX_TAPS (n + 1), keyOf O.LINK_CMD_STATUS (n + 1)]) ∧
  (∀ (s : State) (n : Fin 48), s.held = false → s.status O.LINK_CMD_STATUS (n + 1) ≠ 1 → (s.lport (s.portOf n)).up = true →
    s.native n = true → s.width (s.portOf n) ≠ 1 → bit (s.txAct (s.portOf n)) (n - s.portOf n) = true →
    ∃ t, exec (.retrain n) s = .next t ∧ t.linkState n = s.linkState n ∧ (t.lane n).leave = 1 ∧
      t.status O.LINK_CMD_STATUS (n + 1) = 1 ∧ t.only s [.lanes] [keyOf O.LINK_CMD_STATUS (n + 1)]) ∧
  (∀ (s : State) (n : Fin 48), s.held = false → s.status O.LINK_CMD_STATUS (n + 1) = 1 → exec (.retrain n) s = .next s) ∧
  (∀ (s : State) (n : Fin 48), s.held = false → (s.lane n).decided = true → s.linkState n = 1 →
    ∃ t, exec (.linkAbort n true) s = .next t ∧ t.linkState n = 1 ∧ t.lane n = s.lane n ∧
      t.status O.LINK_CMD_STATUS (n + 1) = 2 ∧ bit (t.obj O.LINK_CMD_STATUS (n + 1)) 8 = true ∧
      t.obj O.LINK_FLAGS (n + 1) = (s.obj O.LINK_FLAGS (n + 1) ||| 32) % 2 ^ 32 ∧
      t.only s flagParts (keyOf O.LINK_CMD_STATUS (n + 1) :: flagKeys O.LINK_FLAGS (n + 1))) ∧
  (∀ (s : State) (n : Fin 48) (c : Bool), s.held = false → s.training n = true → (s.lane n).leave = 0 → (s.lane n).decided = false →
    s.linkState n ≤ 1 →
    ∃ t, exec (.linkAbort n c) s = .next t ∧ t.linkState n = 0 ∧ (t.lane n).aborted = true ∧ (t.lane n).failed = false ∧
      t.status O.LINK_CMD_STATUS (n + 1) = 3 ∧ bits (t.obj O.LINK_CMD_STATUS (n + 1)) 7 4 = 2 ∧
      t.only s [.lanes] [keyOf O.LINK_STATE (n + 1), keyOf O.LINK_CMD_STATUS (n + 1)]) ∧
  (∀ (s : State) (n : Fin 48) (c : Bool), s.held = false → s.training n = true → (s.lane n).leave = 0 → 2 ≤ s.linkState n →
    ∃ t, exec (.linkAbort n c) s = .next t ∧ t.linkState n = s.linkState n ∧ (t.lane n).abortWait = true ∧
      t.status O.LINK_CMD_STATUS (n + 1) = 1 ∧ t.only s [.lanes] [keyOf O.LINK_CMD_STATUS (n + 1)]) ∧
  (∀ (s : State) (n : Fin 48), s.held = false → (s.lane n).leave = 1 →
    ∃ t, exec (.linkAbort n false) s = .next t ∧ t.lane n = { s.lane n with leave := 0 } ∧ t.status O.LINK_CMD_STATUS (n + 1) = 3 ∧
      t.only s [.lanes] [keyOf O.LINK_CMD_STATUS (n + 1)]) ∧
  (∀ (s : State) (n : Fin 48), s.held = false → s.training n = false → (s.lane n).failed = false → (s.lane n).leave = 0 →
    s.status O.LINK_CMD_STATUS (n + 1) ≠ 1 →
    ∃ t, exec (.linkAbort n false) s = .next t ∧ t.status O.LINK_CMD_STATUS (n + 1) = 4 ∧
      t.only s [] [keyOf O.LINK_CMD_STATUS (n + 1)])

/-- Blocks of a native link (R52, R53, R57, R58, R62 to R64, R69, R78 to R81, R97, R101). A credit field replaces the last CR_COUNT of its class; a
header that is no header and a false CHK are counted, and the open frame is dropped; a reserved type is counted, and so is a block that the
peer still places on a lost lane; REQ, RESP and SET carry the time of their departure, and a RESP that comes too late is not sent. -/
def Obligations.LinkBlocks : Prop :=
  (∀ (s : State) (p : Fin 48) (b : Body), s.held = false → s.native p = true → (s.lport p).up = true → blk b 31 29 ≠ 7 →
    ∃ t, exec (.creditReceive p 0x1E b) s = .next t ∧
      t.lport p = { s.lport p with crIn := Tab.set (s.lport p).crIn 0 (blk b 31 29) (blk b 28 16), rxPos := (t.lport p).rxPos } ∧
      (∀ q, q ≠ p.val → t.lport q = s.lport q) ∧ t.only s [.lports, .lanes] []) ∧
  (∀ (s : State) (n : Fin 48) (v : BitVec 130), s.held = false → s.native n = true → (s.lane n).test = false → 2 ≤ s.linkState n →
    s.erases n = false → s.inRx n = true → s.received n v.toNat / 2 ^ 128 = 0 ∨ s.received n v.toNat / 2 ^ 128 = 3 →
    ∃ t, exec (.blockError n v) s = .next t ∧
      t.obj O.HDR_ERR (n + 1) = (s.count O.HDR_ERR (n + 1)).obj O.HDR_ERR (n + 1) ∧
      (t.lport (s.portOf n)).rxOpen = none ∧ t.only s [.lports, .lanes] [keyOf O.HDR_ERR (n + 1)]) ∧
  (∀ (s : State) (n : Fin 48) (v : BitVec 130), s.held = false → s.native n = true → (s.lane n).test = false → 2 ≤ s.linkState n →
    s.erases n = false → s.inRx n = true → s.received n v.toNat / 2 ^ 128 = 2 →
    chk (bits (s.received n v.toNat) 127 120) (bits (s.received n v.toNat) 119 16) ≠ bits (s.received n v.toNat) 15 0 →
    ∃ t, exec (.blockError n v) s = .next t ∧
      t.obj O.CHK_ERR (n + 1) = (s.count O.CHK_ERR (n + 1)).obj O.CHK_ERR (n + 1) ∧
      (t.lport (s.portOf n)).rxOpen = none ∧ t.only s [.lports, .lanes] [keyOf O.CHK_ERR (n + 1)]) ∧
  (∀ (s : State) (n : Fin 48) (v : BitVec 130), s.held = false → s.native n = true → (s.lane n).test = false → 2 ≤ s.linkState n →
    s.erases n = false → s.inRx n = false → s.received n v.toNat / 2 ^ 128 = 2 →
    chk (bits (s.received n v.toNat) 127 120) (bits (s.received n v.toNat) 119 16) = bits (s.received n v.toNat) 15 0 →
    bits (s.received n v.toNat) 127 120 = 0xD2 ∨ bits (s.received n v.toNat) 127 120 = 0xE1 →
    ∃ t, exec (.blockError n v) s = .next t ∧
      t.obj O.UNKNOWN_TYPE (n + 1) = (s.count O.UNKNOWN_TYPE (n + 1)).obj O.UNKNOWN_TYPE (n + 1) ∧
      t.only s [.lanes] [keyOf O.UNKNOWN_TYPE (n + 1)]) ∧
  (∀ (s : State) (n : Fin 48) (v : BitVec 130), s.held = false → s.native n = true → (s.lane n).test = false → s.erases n = true →
    ∃ t, exec (.blockError n v) s = .next t ∧
      t.obj O.ERASED (n + 1) = (s.count O.ERASED (n + 1)).obj O.ERASED (n + 1) ∧
      (t.lport (s.portOf n)).rxOpen = none ∧ t.only s [.lports] [keyOf O.ERASED (n + 1)]) ∧
  (∀ (s : State) (p : Fin 48), s.held = false → s.engUp (groupOf p) = true → s.native p = true → (s.lport p).up = true →
    s.reqDue p = true → s.skewLanes p = [] → s.obj O.PORT_TIME_ROLE (p + 1) ≠ 2 →
    ∃ t, exec (.timeReqSend p) s = .next t ∧
      (∃ v, Emit.block p (s.timingLane p) 0x55 (timeBody 0 ((s.port p).reqSeq % 64) (s.departs (s.timingLane p)) 0) v ∈ t.out) ∧
      (t.port p).req = some ((s.port p).reqSeq % 64, s.departs (s.timingLane p), s.timingLane p) ∧
      (t.port p).reqSeq = ((s.port p).reqSeq % 64 + 1) % 64 ∧ (t.lport p).sfSince = 0 ∧
      (t.lport p).setDue = bit (s.obj O.PORT_PEER (p + 1)) 31 ∧
      (∀ q, q ≠ p.val → t.port q = s.port q ∧ t.lport q = s.lport q) ∧ t.only s [.out, .ports, .lports, .lanes] []) ∧
  (∀ (s : State) (p : Fin 48) (b : Body) (a : Arrival), s.held = false → s.native p = true → (s.lport p).up = true →
    blk b 119 118 = 0 → s.linkState (p + a.lane) ≠ 7 →
    ∃ t, exec (.timeReqReceive p b a) s = .next t ∧ t.port p = { s.port p with peer := some (blk b 117 112,
        ((s.rxLane (p + a.lane)).sampled (p + a.lane) a.codes).arrival (p + a.lane) a.tw) } ∧
      (∀ q, q ≠ p.val → t.port q = s.port q) ∧ t.only s [.ports, .lanes] []) ∧
  (∀ (s : State) (p : Fin 48) (seq : Nat) (t2 : Time56), s.held = false → s.askedLanes p = [] → (s.port p).peer = some (seq, t2) →
    0 ≤ tdiff56 (s.departs (s.timingLane p)) t2 → tdiff56 (s.departs (s.timingLane p)) t2 ≤ 65536 * 2 ^ 24 →
    ∃ t, exec (.timeRespSend p) s = .next t ∧ t.port p = { s.port p with peer := none } ∧
      (∃ v, Emit.block p (s.timingLane p) 0x55 (timeBody 1 seq (s.departs (s.timingLane p))
        (tdiff56 (s.departs (s.timingLane p)) t2).toNat) v ∈ t.out) ∧
      (∀ q, q ≠ p.val → t.port q = s.port q) ∧ t.only s [.out, .ports, .lports, .lanes] []) ∧
  (∀ (s : State) (p : Fin 48) (seq : Nat) (t2 : Time56), s.held = false → s.askedLanes p = [] → (s.port p).peer = some (seq, t2) →
    65536 * 2 ^ 24 < tdiff56 (s.departs (s.timingLane p)) t2 →
    ∃ t, exec (.timeRespSend p) s = .next t ∧ t.port p = { s.port p with peer := none } ∧
      (∀ q, q ≠ p.val → t.port q = s.port q) ∧ t.only s [.ports] []) ∧
  (∀ (s : State) (p : Fin 48), s.held = false → s.askedLanes p = [] →
    ∃ t, exec (.timeReqDrop p) s = .next t ∧ t.port p = { s.port p with peer := none } ∧
      (∀ q, q ≠ p.val → t.port q = s.port q) ∧ t.only s [.ports] []) ∧
  (∀ (s : State) (p : Fin 48), s.held = false → s.native p = true → (s.lport p).up = true → (s.lport p).setDue = true →
    s.epAllowed p = true → (s.port p).complete = true →
    ∃ t, exec (.setSend p) s = .next t ∧ (t.lport p).setDue = false ∧
      (∃ v, Emit.block p (s.timingLane p) 0x55 (timeBody 2 0 (s.departs (s.timingLane p) +
        BitVec.ofInt 56 (roundDiv (s.objI O.PORT_DELTA (p + 1) - s.objI O.PORT_ASYM (p + 1)) 2)) 0) v ∈ t.out) ∧
      t.only s [.out, .lports, .lanes] [])

/-- A receiver adapts and is judged (R11, R124 to R131, R133, R134, R138, R471). An update boundary takes up ADAPT_MODE and a waiting write of
RX_EQ; then no element moves by more than one code and the CTLE holds, and a held receiver does not move at all. The diversity monitor
freezes and frees by its windows. An eye sweep leaves its width, its height and the quality made of them, and the fourth in a row below
LANE_Q_WARN degrades the lane. RX_EQ is written in an expert session only. The FIFO of FAR_RETIMED is recentred outside 16 to 112 bits. -/
def Obligations.ReceiversAdapt : Prop :=
  (∀ (s : State) (n : Fin 48) (m : List Int), s.held = false →
    s.rxReady n = false ∨ s.obj O.ADAPT_MODE (n + 1) ≠ 0 ∨ (s.lane n).divFrozen = true ∨ s.govDefer = true ∨ Tab.get s.cal.lost 0 n ≠ 0 →
    ∃ t, exec (.adaptUpdate n m) s = .next t ∧ t.lane n = { s.lane n with
      mode := s.obj O.ADAPT_MODE (n + 1), eq := (s.lane n).eqNext.getD (s.lane n).eq,
      trained := (s.lane n).eqNext.getD (s.lane n).trained, eqNext := none } ∧
      (∀ k, k ≠ n.val → t.lane k = s.lane k) ∧ t.only s [.lanes] []) ∧
  (∀ (s : State) (n : Fin 48) (m : List Int), s.held = false → s.rxReady n = true → s.obj O.ADAPT_MODE (n + 1) = 0 →
    (s.lane n).divFrozen = false → s.govDefer = false → Tab.get s.cal.lost 0 n = 0 →
    ∃ t, exec (.adaptUpdate n m) s = .next t ∧
      (∀ i, ((t.lane n).eq.getD i 0 - ((s.lane n).eqNext.getD (s.lane n).eq).getD i 0).natAbs ≤ 1) ∧
      (t.lane n).eq.getD 0 0 = ((s.lane n).eqNext.getD (s.lane n).eq).getD 0 0 ∧
      (t.lane n).trained = (s.lane n).eqNext.getD (s.lane n).trained ∧ (t.lane n).eqNext = none ∧ (t.lane n).mode = 0 ∧
      t.only s (.lanes :: flagParts) (flagKeys O.LANE_FLAGS (n + 1))) ∧
  (∀ (s : State) (w : Windows), s.held = false →
    ∃ t, exec (.divFreeze w) s = .next t ∧
      t.lane w.lane = w.runs.foldl (fun l r => l.monitor (lowDiversity (s.pam4 w.lane) r.1.toNat) r.2) (s.lane w.lane) ∧
      (∀ k, k ≠ w.lane.val → t.lane k = s.lane k) ∧ t.only s [.lanes] []) ∧
  (∀ (s : State) (w : Windows), s.held = false →
    ∃ t, exec (.divResume w) s = .next t ∧
      t.lane w.lane = w.runs.foldl (fun l r => l.monitor (lowDiversity (s.pam4 w.lane) r.1.toNat) r.2) (s.lane w.lane) ∧
      (∀ k, k ≠ w.lane.val → t.lane k = s.lane k) ∧ t.only s [.lanes] []) ∧
  (∀ (s : State) (n : Fin 48) (b : BitVec 130) (k : Nat), s.held = false → lowDiversity (s.pam4 n) b.toNat = true → k ≠ 0 →
    65536 ≤ (s.lane n).lowRun + k →
    ∃ t, exec (.divFreeze ⟨n, [(b, k)]⟩) s = .next t ∧
      t.lane n = { s.lane n with lowRun := (s.lane n).lowRun + k, okRun := 0, divFrozen := true } ∧ t.only s [.lanes] []) ∧
  (∀ (s : State) (n : Fin 48) (b : BitVec 130) (k : Nat), s.held = false → lowDiversity (s.pam4 n) b.toNat = false → k ≠ 0 →
    256 ≤ (s.lane n).okRun + k →
    ∃ t, exec (.divResume ⟨n, [(b, k)]⟩) s = .next t ∧
      t.lane n = { s.lane n with lowRun := 0, okRun := (s.lane n).okRun + k, divFrozen := false } ∧ t.only s [.lanes] []) ∧
  (∀ (s : State) (n : Fin 48) (ph th : List EyeRow), s.held = false → s.rxReady n = true →
    s.obj O.LANE_Q_WARN ≤ qualityOf (s.pam4 n) (s.eyeFigures ph th).1 (s.eyeFigures ph th).2 →
    s.obj O.LANE_Q_FLOOR ≤ qualityOf (s.pam4 n) (s.eyeFigures ph th).1 (s.eyeFigures ph th).2 →
    ∃ t, exec (.eyeSweepDone n ph th) s = .next t ∧ t.obj O.LANE_EYE_W (n + 1) = (s.eyeFigures ph th).1 % 2 ^ 8 ∧
      t.obj O.LANE_EYE_H (n + 1) = (s.eyeFigures ph th).2 % 2 ^ 16 ∧
      t.obj O.LANE_QUALITY (n + 1) = qualityOf (s.pam4 n) (s.eyeFigures ph th).1 (s.eyeFigures ph th).2 ∧
      t.lane n = { s.lane n with lowWarn := 0, lowFloor := 0 } ∧
      t.only s [.lanes] [keyOf O.LANE_EYE_W (n + 1), keyOf O.LANE_EYE_H (n + 1), keyOf O.LANE_QUALITY (n + 1)]) ∧
  (∀ (s : State) (n : Fin 48) (ph th : List EyeRow), s.held = false → s.rxReady n = true →
    qualityOf (s.pam4 n) (s.eyeFigures ph th).1 (s.eyeFigures ph th).2 < s.obj O.LANE_Q_WARN →
    s.obj O.LANE_Q_FLOOR ≤ qualityOf (s.pam4 n) (s.eyeFigures ph th).1 (s.eyeFigures ph th).2 →
    3 ≤ (s.lane n).lowWarn → (s.lane n).degraded = false →
    ∃ t, exec (.eyeSweepDone n ph th) s = .next t ∧ (t.lane n).degraded = true ∧ (t.lane n).removed = (s.lane n).removed ∧
      t.obj O.LANE_FLAGS (n + 1) = (s.obj O.LANE_FLAGS (n + 1) ||| 64) % 2 ^ 32 ∧
      t.obj O.CAL_FLAGS = (s.obj O.CAL_FLAGS ||| 64) % 2 ^ 32 ∧
      t.only s (.lanes :: flagParts) (keyOf O.LANE_EYE_W (n + 1) :: keyOf O.LANE_EYE_H (n + 1) :: keyOf O.LANE_QUALITY (n + 1) ::
        keyOf O.CAL_FLAGS :: flagKeys O.LANE_FLAGS (n + 1))) ∧
  (∀ (s : State) (n : Fin 48) (ph th : List EyeRow), s.held = false → s.rxReady n = false →
    ∃ t, exec (.eyeSweepDone n ph th) s = .next t ∧
      t.obj O.LANE_QUALITY (n + 1) = qualityOf (s.pam4 n) (s.eyeFigures ph th).1 (s.eyeFigures ph th).2 ∧
      t.only s [] [keyOf O.LANE_EYE_W (n + 1), keyOf O.LANE_EYE_H (n + 1), keyOf O.LANE_QUALITY (n + 1)]) ∧
  (∀ (s : State) (n : Fin 48) (v : Bytes), s.held = false → s.falri.session = true → s.obj O.ADAPT_MODE (n + 1) = 1 →
    s.rxEqOk n v = true →
    ∃ t, exec (.rxEqWrite n v) s = .next t ∧
      t.lane n = { s.lane n with eqNext := some ((List.range 14).map fun i => (v.getD i 0).toInt) } ∧
      (∀ k, k ≠ n.val → t.lane k = s.lane k) ∧ t.only s [.lanes] []) ∧
  (∀ (s : State) (n : Fin 48) (v : Bytes), s.held = false →
    s.falri.session = false ∨ s.obj O.ADAPT_MODE (n + 1) ≠ 1 ∨ s.rxEqOk n v = false → exec (.rxEqWrite n v) s = .next s) ∧
  (∀ (s : State) (n : Fin 48), s.held = false → s.native n = true → 2 ≤ s.linkState n →
    bit (s.obj O.LANE_POLARITY (n + 1)) 2 = true →
    ∃ t, exec (.autoPolarity n) s = .next t ∧ t.lane n = { s.lane n with rxInv := true } ∧
      (∀ k, k ≠ n.val → t.lane k = s.lane k) ∧ t.only s [.lanes] []) ∧
  (∀ (s : State) (m : FifoMove), s.held = false → s.obj O.LANE_LOOP (m.lane + 1) = 3 → (s.lane m.lane).test = true →
    (s.lane m.lane).fill + m.written - m.read < 16 →
    ∃ t, exec (.loopSlip m) s = .next t ∧ (t.lane m.lane).fill = (s.lane m.lane).fill + m.written - m.read + 64 ∧
      t.obj O.LANE_FLAGS (m.lane + 1) = (s.obj O.LANE_FLAGS (m.lane + 1) ||| 16) % 2 ^ 32 ∧
      t.only s (.lanes :: flagParts) (flagKeys O.LANE_FLAGS (m.lane + 1))) ∧
  (∀ (s : State) (m : FifoMove), s.held = false → s.obj O.LANE_LOOP (m.lane + 1) = 3 → (s.lane m.lane).test = true →
    112 < (s.lane m.lane).fill + m.written - m.read →
    ∃ t, exec (.loopSlip m) s = .next t ∧ (t.lane m.lane).fill = (s.lane m.lane).fill + m.written - m.read - 64 ∧
      t.obj O.LANE_FLAGS (m.lane + 1) = (s.obj O.LANE_FLAGS (m.lane + 1) ||| 16) % 2 ^ 32 ∧
      t.only s (.lanes :: flagParts) (flagKeys O.LANE_FLAGS (m.lane + 1))) ∧
  (∀ (s : State) (m : FifoMove), s.held = false → s.obj O.LANE_LOOP (m.lane + 1) = 3 → (s.lane m.lane).test = true →
    16 ≤ (s.lane m.lane).fill + m.written - m.read → (s.lane m.lane).fill + m.written - m.read ≤ 112 →
    ∃ t, exec (.loopSlip m) s = .next t ∧ t.lane m.lane = { s.lane m.lane with fill := (s.lane m.lane).fill + m.written - m.read } ∧
      t.only s [.lanes] [])

/-- Tests, locks and the modes of groups (R108, R109, R112, R113, R117, R118, R136 to R139, R150, R517). LANE_LOOP and LANE_PRBS take a lane that is
not in service into its test at once, and out of it into a training; a value outside its range changes nothing. An Ethernet port of one
lane comes up with its lock. GROUP_MODE and GROUP_N together retune the group; with the values in force nothing but the objects
changes. The probe of AUTO goes from NATIVE to ETH_25G, and resumes in NATIVE. -/
def Obligations.GroupsAndTests : Prop :=
  (∀ (s : State) (n : Fin 48) (v : Byte), s.held = false → 1 ≤ v.toNat → v.toNat ≤ 3 → (s.lport (s.portOf n)).up = false →
    (s.lane n).test = false → (s.lane n).leave ≠ 2 →
    ∃ t, exec (.laneLoopWrite n v) s = .next t ∧ t.obj O.LANE_LOOP (n + 1) = v.toNat ∧ (t.lane n).test = true ∧ t.linkState n = 0 ∧
      (t.lane n).fill = 64 ∧ (∀ k, k ≠ n.val → t.lane k = s.lane k) ∧ t.out = t.testSource n :: s.out ∧
      t.only s [.lanes, .out] [keyOf O.LANE_LOOP (n + 1), keyOf O.LINK_STATE (n + 1)]) ∧
  (∀ (s : State) (n : Fin 48), s.held = false → s.obj O.LANE_PRBS (n + 1) < 64 → (s.lane n).test = true →
    ∃ t, exec (.laneLoopWrite n 0) s = .next t ∧ t.obj O.LANE_LOOP (n + 1) = 0 ∧ (t.lane n).test = false ∧ t.linkState n = 0 ∧
      t.obj O.TX_TAPS (n + 1) = s.obj O.TX_TAP_INIT (n + 1) % 2 ^ 32 ∧
      t.only s [.lanes, .cal, .out] [keyOf O.LANE_LOOP (n + 1), keyOf O.LINK_STATE (n + 1), keyOf O.TX_TAPS (n + 1)]) ∧
  (∀ (s : State) (n : Fin 48) (v : Byte), s.held = false → 3 < v.toNat → exec (.laneLoopWrite n v) s = .next s) ∧
  (∀ (s : State) (n : Fin 48) (v : Byte), s.held = false → s.prbsOk n v.toNat = true → 64 ≤ v.toNat →
    (s.lport (s.portOf n)).up = false → (s.lane n).test = false → (s.lane n).leave ≠ 2 →
    ∃ t, exec (.lanePrbsWrite n v) s = .next t ∧ t.obj O.LANE_PRBS (n + 1) = v.toNat ∧ (t.lane n).test = true ∧ t.linkState n = 0 ∧
      (t.lane n).seenN = 0 ∧ (∀ k, k ≠ n.val → t.lane k = s.lane k) ∧ t.out = t.testSource n :: s.out ∧
      t.only s [.lanes, .out] [keyOf O.LANE_PRBS (n + 1), keyOf O.LINK_STATE (n + 1)]) ∧
  (∀ (s : State) (n : Fin 48) (v : Byte), s.held = false → s.prbsOk n v.toNat = false → exec (.lanePrbsWrite n v) s = .next s) ∧
  (∀ (s : State) (p : Fin 48) (al : List (BitVec 16)) (d : BitVec 16) (eq : List (List Int)), s.held = false →
    (s.lport p).up = false → s.portOf p = p → s.width p = 1 → (s.group (groupOf p)).mode = 2 → s.mayLock p = true →
    al.all (alignOk 2) = true →
    ∃ t, exec (.portLock p al d eq) s = .next t ∧ t.linkState p = 9 ∧ t.obj O.LANE_RX_ALIGN (p + 1) = (al.getD 0 0).toNat ∧
      t.obj O.PORT_ACTIVE (p + 1) = 17 ∧ (t.lport p).up = true ∧ (t.group (groupOf p)).settled = true ∧
      t.obj O.LINK_TX_LAT (p + 1) = ethUnits (s.groupRate (groupOf p)) (2 * (ethLatency 2 1 (s.portFec p)).1) (t.lane p).anaTx % 2 ^ 64 ∧
      ((t.lane p).eq, (t.lane p).trained) = (if s.linkState p = 6 ∨ s.linkState p = 2 then ((s.lane p).eq, (s.lane p).trained)
        else (s.eqCodes p (eq.getD 0 []), s.eqCodes p (eq.getD 0 []))) ∧
      t.only s (.lanes :: .lports :: .groups :: flagParts) (keyOf O.LANE_RX_ALIGN (p + 1) :: keyOf O.LINK_STATE (p + 1) ::
        keyOf O.LINK_CMD_STATUS (p + 1) :: keyOf O.LINK_TX_LAT (p + 1) :: keyOf O.LINK_RX_LAT (p + 1) ::
        keyOf O.PORT_ACTIVE (p + 1) :: flagKeys O.LANE_FLAGS (p + 1))) ∧
  (∀ (s : State) (g : Fin 8) (m : Byte) (v : BitVec 16), s.held = false → groupModeOk m.toNat = true → s.groupNOk v.toNat = true →
    m.toNat = s.obj O.GROUP_MODE (g + 1) → v.toNat = s.obj O.GROUP_N (g + 1) ∨ s.effN v.toNat = (s.group g).n →
    ∃ t, exec (.groupModeWrite g m v) s = .next t ∧ t.obj O.GROUP_N (g + 1) = v.toNat ∧
      t.obj O.GROUP_MODE (g + 1) = s.obj O.GROUP_MODE (g + 1) ∧ t.only s [] [keyOf O.GROUP_MODE (g + 1), keyOf O.GROUP_N (g + 1)]) ∧
  (∀ (s : State) (g : Fin 8) (m : Byte) (v : BitVec 16), s.held = false → (∀ p < 48, s.width p ≤ 4) → groupModeOk m.toNat = true →
    s.groupNOk v.toNat = true →
    m.toNat ≠ s.obj O.GROUP_MODE (g + 1) ∨ (v.toNat ≠ s.obj O.GROUP_N (g + 1) ∧ s.effN v.toNat ≠ (s.group g).n) →
    ∃ t, exec (.groupModeWrite g m v) s = .next t ∧ t.obj O.GROUP_MODE (g + 1) = m.toNat ∧ t.obj O.GROUP_N (g + 1) = v.toNat ∧
      (t.group g).mode = (if m.toNat = 0xFE then 0 else m.toNat) ∧ (t.group g).n = s.effN v.toNat ∧
      (t.group g).settled = false ∧ (∀ h, h ≠ g.val → t.group h = s.group h) ∧
      t.only s (.cellar :: .caravan :: .lports :: .ports :: .out :: .lanes :: .cal :: .groups :: .plls :: .clk :: flagParts)
        (keyOf O.GROUP_MODE (g + 1) :: keyOf O.GROUP_N (g + 1) :: keyOf O.DRAIN_STATE :: keyOf O.GROUP_RATE_ACT (g + 1) ::
          keyOf O.PLL_STATE (g + 2) :: keyOf O.PLL_DIV (g + 2) :: keyOf O.PLL_VCO_KHZ (g + 2) ::
          (flagKeys O.CELLAR_FLAGS ++ allOf [O.LINK_STATE, O.PORT_ACTIVE, O.PORT_TIMING_POS, O.DROP_DOWN, O.TX_TAPS]))) ∧
  (∀ (s : State) (g : Fin 8) (m : Byte) (v : BitVec 16), s.held = false → groupModeOk m.toNat = false ∨ s.groupNOk v.toNat = false →
    exec (.groupModeWrite g m v) s = .next s) ∧
  (∀ (s : State) (g : Fin 8), s.held = false → s.obj O.GROUP_MODE (g + 1) = 0xFE → (s.group g).settled = false →
    s.tpllOk g = true → (s.group g).probe = 1 →
    ∃ t, exec (.autoProbePhase g) s = .next t ∧ t.group g = { s.group g with probe := 2 } ∧
      (∀ h, h ≠ g.val → t.group h = s.group h) ∧ t.only s [.groups] []) ∧
  (∀ (s : State) (g : Fin 8), s.held = false → s.obj O.GROUP_MODE (g + 1) = 0xFE → (s.group g).settled = true →
    (∀ n ∈ groupLanes g, s.linkState n = 0) → (s.group g).mode = 0 →
    ∃ t, exec (.autoProbeResume g) s = .next t ∧ t.group g = { s.group g with settled := false, probe := 0 } ∧
      (∀ h, h ≠ g.val → t.group h = s.group h) ∧ t.only s [.groups] [])

/-- The PLLs (R198 to R200, R202, R204, R206, R207, R219, R220). A window within 20 ppm counts towards the four that lock, any other starts the
count anew; the fourth locks, and an OPLL that was BUSY is DONE; a window beyond 100 ppm, a slip or a missing edge loses a LOCKED PLL,
which puts its islands on FBCLK; the loss of the SPLL puts the part into internal reset. An acquisition that is not LOCKED in 50 ms raises
ACQ_FAIL, recalibrates the VCO band and loads the dividers again. -/
def Obligations.PllsLockAndLose : Prop :=
  (∀ (s : State) (c : Nat), s.held = false → s.pllState 0 = 1 ∨ s.pllState 0 = 3 → (s.pll 0).good < 3 →
    max c (65536 * (s.planOf 0).fb) - min c (65536 * (s.planOf 0).fb) ≤ 65536 * (s.planOf 0).fb * 20 / 1000000 →
    ∃ t, exec (.lockWindowEnd 0 c) s = .next t ∧ t.pll 0 = { s.pll 0 with good := (s.pll 0).good + 1 } ∧
      (∀ q, q ≠ 0 → t.pll q = s.pll q) ∧ t.only s [.plls] [keyOf O.PLL_VCO_KHZ 1]) ∧
  (∀ (s : State) (c : Nat), s.held = false → s.pllState 0 = 1 ∨ s.pllState 0 = 3 → 3 ≤ (s.pll 0).good →
    max c (65536 * (s.planOf 0).fb) - min c (65536 * (s.planOf 0).fb) ≤ 65536 * (s.planOf 0).fb * 20 / 1000000 →
    ∃ t, exec (.lockWindowEnd 0 c) s = .next t ∧ t.pllState 0 = 2 ∧ (t.pll 0).good = 0 ∧
      t.only s [.plls] [keyOf O.PLL_VCO_KHZ 1, keyOf O.PLL_STATE 1]) ∧
  (∀ (s : State) (p : Fin 15) (c : Nat), s.held = false → 0 < p.val → s.pllState p = 1 ∨ s.pllState p = 3 → (s.pll p).good < 3 →
    max c (65536 * s.feedback p) - min c (65536 * s.feedback p) ≤ 65536 * s.feedback p * 20 / 1000000 →
    ∃ t, exec (.lockWindowEnd p c) s = .next t ∧ t.pll p = { s.pll p with good := (s.pll p).good + 1 } ∧
      t.obj O.PLL_VCO_KHZ (p + 1) = (2 * c * s.pfd p + 65536 * 10 ^ 6) / (2 * 65536 * 10 ^ 6) % 2 ^ 32 ∧
      (∀ q, q ≠ p.val → t.pll q = s.pll q) ∧ t.only s [.plls] [keyOf O.PLL_VCO_KHZ (p + 1)]) ∧
  (∀ (s : State) (p : Fin 15) (c : Nat), s.held = false → 0 < p.val → s.pllState p = 1 ∨ s.pllState p = 3 →
    65536 * s.feedback p * 20 / 1000000 < max c (65536 * s.feedback p) - min c (65536 * s.feedback p) →
    ∃ t, exec (.lockWindowEnd p c) s = .next t ∧ t.pll p = { s.pll p with good := 0 } ∧
      t.obj O.PLL_STATE (p + 1) = s.obj O.PLL_STATE (p + 1) ∧ t.only s [.plls] [keyOf O.PLL_VCO_KHZ (p + 1)]) ∧
  (∀ (s : State) (k : Fin 4) (c : Nat), s.held = false → s.pllState (k + 9) = 1 ∨ s.pllState (k + 9) = 3 →
    3 ≤ (s.pll (k + 9)).good → s.status O.OPLL_STATUS (k + 1) = 1 →
    max c (65536 * s.feedback (k + 9)) - min c (65536 * s.feedback (k + 9)) ≤ 65536 * s.feedback (k + 9) * 20 / 1000000 →
    ∃ t, exec (.lockWindowEnd ⟨k + 9, by omega⟩ c) s = .next t ∧ t.obj O.PLL_STATE (k + 10) = 2 ∧ t.status O.OPLL_STATUS (k + 1) = 2 ∧
      (t.pll (k + 9)).good = 0 ∧
      t.only s [.plls, .clkouts] [keyOf O.PLL_VCO_KHZ (k + 10), keyOf O.PLL_STATE (k + 10), keyOf O.OPLL_STATUS (k + 1)]) ∧
  (∀ (s : State) (c : PllLossCause), s.held = false → s.pllState 13 = 2 →
    ∃ t, exec (.pllLoss 13 c) s = .next t ∧ t.obj O.PLL_STATE 14 = 3 ∧
      t.obj O.PLL_FLAGS 14 = (s.obj O.PLL_FLAGS 14 ||| (if c = .cycleSlip then 4 else 8)) % 2 ^ 32 ∧
      t.obj O.PLL_UNLOCKS 14 = min (s.obj O.PLL_UNLOCKS 14 + 1) (2 ^ 32 - 1) ∧
      t.clk = { s.clk with want := setBit s.clk.want 0 true } ∧ (t.pll 13).good = 0 ∧
      t.only s (.plls :: .clk :: .cal :: flagParts)
        (keyOf O.PLL_STATE 14 :: keyOf O.PLL_UNLOCKS 14 :: flagKeys O.PLL_FLAGS 14)) ∧
  (∀ (s : State) (c : PllLossCause), s.held = false → s.pllState 0 = 2 →
    ∃ t, exec (.pllLoss 0 c) s = .next t ∧ t.held = true ∧ t.power.cause = 16 ∧ t.hearth.state = .off) ∧
  (∀ (s : State) (p : Fin 15) (c : PllLossCause), s.held = false → s.pllState p ≠ 2 → exec (.pllLoss p c) s = .next s) ∧
  (∀ (s : State) (p : Fin 15), s.held = false → s.pllState p = 1 ∨ s.pllState p = 3 →
    ∃ t, exec (.acqFail p) s = .next t ∧ t.obj O.PLL_FLAGS (p + 1) = (s.obj O.PLL_FLAGS (p + 1) ||| 16) % 2 ^ 32 ∧
      t.obj O.PLL_DIV (p + 1) = (if p.val = 0 then s.planOf 0 else planOfWord (s.obj O.PLL_DIV (p + 1))).word ∧
      (t.calRec 2 p).state = (if (s.calRec 2 p).state = 0 then 1 else (s.calRec 2 p).state) ∧
      t.pll p = { s.pll p with good := 0, change := false, forced := false,
                               eth := decide (1 ≤ p.val ∧ p.val ≤ 8) && s.ethGroup (p - 1) } ∧
      t.only s (.plls :: .cal :: flagParts) (keyOf O.PLL_DIV (p + 1) :: flagKeys O.PLL_FLAGS (p + 1))) ∧
  (∀ (s : State) (p : Fin 15) (c : Nat), s.held = false → 0 < p.val → s.pllState p ≠ 0 →
    ∃ t, exec (.bandLimitCheck p c) s = .next t ∧
      t.pll p = { s.pll p with forced := decide (103 * 1024 * s.feedback p < 100 * c) } ∧
      (∀ q, q ≠ p.val → t.pll q = s.pll q) ∧ t.only s [.plls] []) ∧
  (∀ (s : State) (i : Island), s.held = false → (s.pll (islandPll i).1).change = false →
    ∃ t, exec (.clockSwitch i) s = .next t ∧
      t.obj O.CLK_FALLBACK = setBit (s.obj O.CLK_FALLBACK) (islandPll i).2 (bit s.clk.want (islandPll i).2) % 2 ^ 16 ∧
      t.only s [] [keyOf O.CLK_FALLBACK])

/-- Clock outputs and REFIN (R203, R205, R207, R209 to R214, R218, R221). While OPLL_STATUS is BUSY a write changes nothing; settings that fail the
tests of R207 are refused with the settings in force kept; enabling an output of an OPLL that is OFF starts it; a gate closes, and opens on
the boundary of CLKOUT_SYNC with its first edge CLKOUT_PHASE later; a phase walk moves one step at every CLKOUT_STEP_EVERY-th rising edge;
REFIN is absent, present or qualified by its whole windows. -/
def Obligations.ClockOutputsFollow : Prop :=
  (∀ (s : State) (k : Fin 4) (v : BitVec 16), s.held = false → s.opllBusy k = true → exec (.opllMultWrite k v) s = .next s) ∧
  (∀ (s : State) (k : Fin 4) (v : BitVec 16), s.held = false → s.opllBusy k = false →
    (s.setObj O.OPLL_MULT v.toNat (k + 1)).opllOk k = false →
    ∃ t, exec (.opllMultWrite k v) s = .next t ∧ t.status O.OPLL_STATUS (k + 1) = 4 ∧
      t.obj O.OPLL_MULT (k + 1) = s.obj O.OPLL_MULT (k + 1) ∧ t.only s [] [keyOf O.OPLL_STATUS (k + 1)]) ∧
  (∀ (s : State) (k : Fin 4) (v : BitVec 16), s.held = false → s.obj O.OPLL_STATUS (k + 1) = 0 →
    (s.setObj O.OPLL_MULT v.toNat (k + 1)).opllOk k = true → s.obj O.PLL_STATE (k + 10) = 0 →
    s.obj O.CLKOUT_EN (2 * k + 1) = 0 → s.obj O.CLKOUT_EN (2 * k + 2) = 0 →
    ∃ t, exec (.opllMultWrite k v) s = .next t ∧ t.obj O.OPLL_MULT (k + 1) = v.toNat ∧ t.only s [] [keyOf O.OPLL_MULT (k + 1)]) ∧
  (∀ (s : State) (k : Fin 4) (b : Bool), s.held = false → s.obj O.OPLL_STATUS (k + 1) = 0 → s.obj O.PLL_STATE (k + 10) = 0 →
    s.obj O.CLKOUT_EN (2 * k + 1) = 0 → s.obj O.CLKOUT_EN (2 * k + 2) = 0 → s.gate (2 * k + b2n b) ≠ 2 →
    (s.setObj O.CLKOUT_EN 1 (2 * k + b2n b + 1)).opllOk k = true →
    ∃ t, exec (.clkoutEnWrite ⟨2 * k + b2n b, by cases b <;> simp [b2n] <;> omega⟩ 1) s = .next t ∧
      t.obj O.CLKOUT_EN (2 * k + b2n b + 1) = 1 ∧ t.gate (2 * k + b2n b) = 1 ∧ t.obj O.PLL_STATE (k + 10) = 1 ∧
      t.status O.OPLL_STATUS (k + 1) = 1 ∧ (t.pll (k + 9)).good = 0 ∧
      t.only s [.clkouts, .plls, .cal] [keyOf O.CLKOUT_EN (2 * k + b2n b + 1), keyOf O.CLKOUT_GATE (2 * k + b2n b + 1),
        keyOf O.PLL_STATE (k + 10), keyOf O.PLL_DIV (k + 10), keyOf O.OPLL_STATUS (k + 1)]) ∧
  (∀ (s : State) (k : Fin 4) (b : Bool) (d : BitVec 16) (std : Byte), s.held = false → s.obj O.OPLL_STATUS (k + 1) = 0 →
    d.toNat ≤ 4096 → std.toNat ≤ 2 → s.obj O.PLL_STATE (k + 10) = 0 →
    s.obj O.CLKOUT_EN (2 * k + 1) = 0 → s.obj O.CLKOUT_EN (2 * k + 2) = 0 → s.gate (2 * k + b2n b) = 0 →
    ((s.setObj O.CLKOUT_DIV d.toNat (2 * k + b2n b + 1)).setObj O.CLKOUT_STD std.toNat (2 * k + b2n b + 1)).opllOk k = true →
    ∃ t, exec (.clkoutDivWrite ⟨2 * k + b2n b, by cases b <;> simp [b2n] <;> omega⟩ d std) s = .next t ∧
      t.obj O.CLKOUT_DIV (2 * k + b2n b + 1) = d.toNat ∧ t.obj O.CLKOUT_STD (2 * k + b2n b + 1) = std.toNat ∧
      t.only s [] [keyOf O.CLKOUT_DIV (2 * k + b2n b + 1), keyOf O.CLKOUT_STD (2 * k + b2n b + 1)]) ∧
  (∀ (s : State) (n : Fin 8) (v : BitVec 32), s.held = false → s.phaseUnits n ≤ v.toNat →
    exec (.clkoutPhaseWrite n v) s = .next s) ∧
  (∀ (s : State) (n : Fin 8) (v : BitVec 32), s.held = false → v.toNat < s.phaseUnits n → s.gate n ≠ 2 →
    ∃ t, exec (.clkoutPhaseWrite n v) s = .next t ∧ t.obj O.CLKOUT_PHASE (n + 1) = v.toNat ∧
      t.only s [] [keyOf O.CLKOUT_PHASE (n + 1)]) ∧
  (∀ (s : State) (n : Fin 8) (v : BitVec 32), s.held = false → v.toNat < s.phaseUnits n → s.gate n = 2 →
    ∃ t, exec (.clkoutPhaseWrite n v) s = .next t ∧ t.obj O.CLKOUT_PHASE (n + 1) = v.toNat ∧
      t.clkout n = (let u := s.phaseUnits n
        let d := (v.toNat + u - s.obj O.CLKOUT_PHASE_ACT (n + 1) % u) % u
        { s.clkout n with walk := d != 0, fwd := decide (2 * d ≤ u), edges := if (s.clkout n).walk then (s.clkout n).edges else 0 }) ∧
      (∀ m, m ≠ n.val → t.clkout m = s.clkout m) ∧ t.only s [.clkouts] [keyOf O.CLKOUT_PHASE (n + 1)]) ∧
  (∀ (s : State) (n : Fin 8) (v : BitVec 16), s.held = false → v.toNat ≠ 0 →
    ∃ t, exec (.clkoutStepEveryWrite n v) s = .next t ∧ t.obj O.CLKOUT_STEP_EVERY (n + 1) = v.toNat ∧
      t.clkout n = { s.clkout n with edges := 0 } ∧ (∀ m, m ≠ n.val → t.clkout m = s.clkout m) ∧
      t.only s [.clkouts] [keyOf O.CLKOUT_STEP_EVERY (n + 1)]) ∧
  (∀ (s : State) (n : Fin 8), s.held = false → (s.clkout n).closing = true → (s.clkout n).off = false →
    (s.pll (n / 2 + 9)).change = false → s.obj O.PLL_STATE (n / 2 + 10) ≠ 2 →
    ∃ t, exec (.clkoutGateClose n) s = .next t ∧ t.gate n = 1 ∧ t.obj O.CLKOUT_FREQ_ACT (n + 1) = 0 ∧
      t.clkout n = { s.clkout n with closing := false, off := false, walk := false } ∧
      t.out = .pin 2 n false s.now.toNat :: s.out ∧
      t.only s [.clkouts, .out] [keyOf O.CLKOUT_GATE (n + 1), keyOf O.CLKOUT_FREQ_ACT (n + 1)]) ∧
  (∀ (s : State) (n : Fin 8) (first every : Nat), s.held = false → (s.clkout n).ready = true → s.outHold = false → s.outOff = false →
    s.gate n = 1 → s.boundary n = some (first, every) → s.phaseUnits n ≠ 0 →
    ∃ t, exec (.clkoutOpen n) s = .next t ∧ t.gate n = 2 ∧
      t.obj O.CLKOUT_PHASE_ACT (n + 1) = s.obj O.CLKOUT_PHASE (n + 1) % s.phaseUnits n % 2 ^ 32 ∧
      t.obj O.CLKOUT_FREQ_ACT (n + 1) = (2 * (s.outFreq n).1 + 1000 * (s.outFreq n).2) / (2000 * (s.outFreq n).2) % 2 ^ 32 ∧
      t.clkout n = { s.clkout n with ready := false, walk := false, edges := 0, trim := (s.clkout n).trim + (s.clkout n).trimIn, trimIn := 0 } ∧
      t.out = .pin 2 n true (BitVec.ofInt 56 (s.f0Edge40 (s.nextBoundary first every) / 2 ^ 16 +
        roundDiv ((s.obj O.CLKOUT_PHASE (n + 1) % s.phaseUnits n : Nat) * 2 ^ 24) 2000)).toNat :: s.out ∧
      t.only s [.clkouts, .out] [keyOf O.CLKOUT_GATE (n + 1), keyOf O.CLKOUT_FREQ_ACT (n + 1), keyOf O.CLKOUT_PHASE (n + 1),
        keyOf O.CLKOUT_PHASE_ACT (n + 1)]) ∧
  (∀ (s : State) (n : Fin 8) (e : Nat), s.held = false → s.gate n = 2 → (s.clkout n).walk = true → s.phaseUnits n ≠ 0 →
    ((s.clkout n).edges + e) / max 1 (s.obj O.CLKOUT_STEP_EVERY (n + 1)) = 1 → (s.clkout n).trimIn = 0 →
    s.obj O.CLKOUT_PHASE (n + 1) % s.phaseUnits n ≠ s.obj O.CLKOUT_PHASE_ACT (n + 1) % s.phaseUnits n →
    ∃ t, exec (.clkoutPhaseStep ⟨n, e⟩) s = .next t ∧
      t.obj O.CLKOUT_PHASE_ACT (n + 1) = (let a := s.obj O.CLKOUT_PHASE_ACT (n + 1) % s.phaseUnits n
        if (s.clkout n).fwd then (a + 1) % s.phaseUnits n else (a + s.phaseUnits n - 1) % s.phaseUnits n) % 2 ^ 32 ∧
      (t.clkout n).edges = ((s.clkout n).edges + e) % max 1 (s.obj O.CLKOUT_STEP_EVERY (n + 1)) ∧
      t.only s [.clkouts] [keyOf O.CLKOUT_PHASE_ACT (n + 1)]) ∧
  (∀ (s : State) (n : Fin 8) (e : Nat), s.held = false → s.gate n = 2 → (s.clkout n).walk = true → s.phaseUnits n ≠ 0 →
    (s.clkout n).edges + e < max 1 (s.obj O.CLKOUT_STEP_EVERY (n + 1)) →
    s.obj O.CLKOUT_PHASE_ACT (n + 1) < s.phaseUnits n →
    ∃ t, exec (.clkoutPhaseStep ⟨n, e⟩) s = .next t ∧ t.obj O.CLKOUT_PHASE_ACT (n + 1) = s.obj O.CLKOUT_PHASE_ACT (n + 1) % 2 ^ 32 ∧
      (t.clkout n).edges = (s.clkout n).edges + e ∧ t.only s [.clkouts] [keyOf O.CLKOUT_PHASE_ACT (n + 1)]) ∧
  (∀ s : State, s.held = false → ∃ t, exec .refinEdgeMissing s = .next t ∧ t.obj O.REFIN_STATE = 0 ∧
    t.clk = { s.clk with refGood := 0, refSeen := false } ∧ t.only s [.clk] [keyOf O.REFIN_STATE]) ∧
  (∀ (s : State) (d : Int), s.held = false → 1000000 < d.natAbs → ∃ t, exec (.refinWindow d) s = .next t ∧ t.obj O.REFIN_STATE = 0 ∧
    t.clk = { s.clk with refGood := 0, refSeen := true } ∧ t.only s [.clk] [keyOf O.REFIN_STATE]) ∧
  (∀ (s : State) (d : Int), s.held = false → d.natAbs ≤ 1000000 → s.clk.refSeen = false → ∃ t, exec (.refinWindow d) s = .next t ∧
    t.clk = { s.clk with refSeen := true } ∧ t.only s [.clk] []) ∧
  (∀ (s : State) (d : Int), s.held = false → d.natAbs ≤ 1000000 → s.clk.refSeen = true → ∃ t, exec (.refinWindow d) s = .next t ∧
    t.obj O.REFIN_STATE = (if s.obj O.REFIN_STATE = 2 ∧ d.natAbs ≤ s.obj O.REFIN_TOL * 1000 then 2 else 1) ∧
    t.clk = { s.clk with refGood := if s.obj O.REFIN_STATE ≠ 0 ∧ d.natAbs ≤ s.obj O.REFIN_TOL * 1000 then s.clk.refGood + 1 else 0 } ∧
    t.only s [.clk] [keyOf O.REFIN_STATE]) ∧
  (∀ s : State, s.held = false → s.obj O.REFIN_STATE = 1 → s.obj O.REFIN_QUAL ≤ s.clk.refGood * 100 →
    ∃ t, exec .refinQualified s = .next t ∧ t.obj O.REFIN_STATE = 2 ∧ t.servo = { s.servo with ppsSince := false } ∧
      t.only s [.servo] [keyOf O.REFIN_STATE])

/-- Exchanges and route changes (R79, R80, R99, R143, R144, R147, R155, R171 to R181, R186, R187, R559). A RESP that answers the REQ sent gives one
exchange, its arrival refined by the phase reading of the lane that received it; it joins the first measurement or is accepted as an
ordinary one. The policies and the commands of a route change settle it, or are refused outside the states that take them; the average
of DGD is the mean over its rounds; the asymmetries and the range mode are written under their conditions only. -/
def Obligations.RouteChangesSettle : Prop :=
  (∀ (s : State) (p : Fin 48) (b : Body) (a : Arrival), s.held = false → (s.port p).req = none →
    exec (.timeRespReceive p b a) s = .next s) ∧
  (∀ (s : State) (p : Fin 48) (b : Body) (a : Arrival) (seq n : Nat) (t1 t3 t4 : Time56) (fwd back : Int), s.held = false →
    (s.port p).req = some (seq, t1, n) → s.native p = true → (s.lport p).up = true → blk b 119 118 = 1 → blk b 117 112 = seq →
    s.hearth.state = .track → (s.port p).complete = false → (s.port p).run.length < 7 →
    t3 = BitVec.ofNat 56 (blk b 111 56) → t4 = (s.sampled (p + a.lane) a.codes).arrival (p + a.lane) a.tw →
    fwd = tdiff56 (t3 - BitVec.ofNat 56 (blk b 55 16)) t1 → back = tdiff56 t4 t3 →
    ∃ t, exec (.timeRespReceive p b a) s = .next t ∧
      t.port p = { s.port p with req := none, run := (back + fwd,
        roundDiv (back - fwd - s.asymOf p (back + fwd)) 2 - s.objI O.LINK_LANE_SKEW (n + 1)) :: (s.port p).run } ∧
      (∀ q, q ≠ p.val → t.port q = s.port q) ∧ t.lanes = (s.sampled (p + a.lane) a.codes).lanes ∧
      t.only s [.ports, .lanes] [keyOf O.UPSTREAM_ALT]) ∧
  (∀ (s : State) (p : Fin 48) (b : Body) (a : Arrival) (seq n : Nat) (t1 t3 t4 : Time56) (fwd back theta : Int), s.held = false →
    (s.port p).req = some (seq, t1, n) → s.native p = true → (s.lport p).up = true → blk b 119 118 = 1 → blk b 117 112 = seq →
    s.hearth.state = .track → s.source ≠ p → s.routeState p = 0 → (s.port p).complete = true → (s.port p).cand = none →
    t3 = BitVec.ofNat 56 (blk b 111 56) → t4 = (s.sampled (p + a.lane) a.codes).arrival (p + a.lane) a.tw →
    fwd = tdiff56 (t3 - BitVec.ofNat 56 (blk b 55 16)) t1 → back = tdiff56 t4 t3 →
    theta = roundDiv (back - fwd - s.asymOf p (back + fwd)) 2 - s.objI O.LINK_LANE_SKEW (n + 1) →
    within (back + fwd - s.deltaRef p) (s.obj O.ROUTE_LIMIT) = true →
    (s.port p).settled = true ∨ within (theta - ((s.port p).bias + roundDiv s.hearth.moved (2 ^ 64))) (s.obj O.STEP_MIN) = true →
    ∃ t, exec (.timeRespReceive p b a) s = .next t ∧
      t.obj O.PORT_DELTA (p + 1) = ofSigned 64 (back + fwd) % 2 ^ 64 ∧ t.obj O.PORT_OFFSET (p + 1) = ofSigned 64 theta % 2 ^ 64 ∧
      t.port p = { s.port p with req := none, acc := ((back + fwd) :: (s.port p).acc).take 256,
                                 bias := theta - roundDiv s.hearth.moved (2 ^ 64) } ∧
      t.only s [.ports, .lanes] [keyOf O.PORT_DELTA (p + 1), keyOf O.PORT_OFFSET (p + 1), keyOf O.PORT_ASYM (p + 1),
        keyOf O.UPSTREAM_ALT]) ∧
  (∀ (s : State) (p : Fin 48), s.held = false → s.routeState p = 3 → s.obj O.ROUTE_POLICY = 0 →
    ∃ t, exec (.routeHoldExpire p) s = .next t ∧ t.routeState p = 0 ∧
      t.port p = { s.port p with refSet := false, settled := true, newSum := 0, newN := 0 } ∧
      (∀ q, q ≠ p.val → t.port q = s.port q) ∧ t.only s [.ports] [keyOf O.PORT_ROUTE_STATE (p + 1)]) ∧
  (∀ (s : State) (p : Fin 48), s.held = false → s.routeState p = 3 → s.obj O.ROUTE_POLICY = 1 →
    ∃ t, exec (.routeHoldExpire p) s = .next t ∧ t.routeState p = 4 ∧ t.only s [] [keyOf O.PORT_ROUTE_STATE (p + 1)]) ∧
  (∀ (s : State) (p : Fin 48), s.held = false → s.routeState p = 3 → 2 ≤ s.obj O.ROUTE_POLICY →
    ∃ t, exec (.routeHoldExpire p) s = .next t ∧ t.routeState p = 0 ∧ (t.port p).settled = true ∧
      t.obj O.PORT_ASYM_ROUTE (p + 1) = ofSigned 64 (s.objI O.PORT_ASYM_ROUTE (p + 1) +
        uToPs (s.forwardSign p * ratRound (s.routeDelta p * 2 ^ 49) (2 ^ 49 + s.alpha p))) % 2 ^ 64 ∧
      t.only s [.ports] [keyOf O.PORT_ROUTE_STATE (p + 1), keyOf O.PORT_ASYM_ROUTE (p + 1)]) ∧
  (∀ (s : State) (p : Fin 48), s.held = false → s.routeState p ≠ 3 → exec (.routeHoldExpire p) s = .next s) ∧
  (∀ (s : State) (p : Fin 48), s.held = false → s.routeState p = 3 ∨ s.routeState p = 4 →
    ∃ t, exec (.applySplit p) s = .next t ∧ t.routeState p = 0 ∧ t.status O.PORT_ROUTE_STATUS (p + 1) = 2 ∧
      t.port p = { s.port p with refSet := false, settled := true, newSum := 0, newN := 0 } ∧
      t.only s [.ports] [keyOf O.PORT_ROUTE_STATE (p + 1), keyOf O.PORT_ROUTE_STATUS (p + 1)]) ∧
  (∀ (s : State) (p : Fin 48), s.held = false → s.routeState p = 3 ∨ s.routeState p = 4 →
    ∃ t, exec (.applyForward p) s = .next t ∧ t.routeState p = 0 ∧ t.status O.PORT_ROUTE_STATUS (p + 1) = 2 ∧
      t.port p = { s.port p with refSet := false, settled := true, newSum := 0, newN := 0 } ∧
      t.obj O.PORT_ASYM_ROUTE (p + 1) = ofSigned 64 (s.objI O.PORT_ASYM_ROUTE (p + 1) +
        uToPs (s.forwardSign p * ratRound (s.routeDelta p * 2 ^ 49) (2 ^ 49 + s.alpha p))) % 2 ^ 64 ∧
      t.only s [.ports] [keyOf O.PORT_ROUTE_STATE (p + 1), keyOf O.PORT_ROUTE_STATUS (p + 1), keyOf O.PORT_ASYM_ROUTE (p + 1)]) ∧
  (∀ (s : State) (p : Fin 48), s.held = false → s.routeState p = 4 →
    ∃ t, exec (.resume p) s = .next t ∧ t.routeState p = 0 ∧ t.status O.PORT_ROUTE_STATUS (p + 1) = 2 ∧
      t.port p = { s.port p with refSet := false, settled := true, newSum := 0, newN := 0 } ∧
      t.only s [.ports] [keyOf O.PORT_ROUTE_STATE (p + 1), keyOf O.PORT_ROUTE_STATUS (p + 1)]) ∧
  (∀ (s : State) (p : Fin 48), s.held = false → s.routeState p ≠ 3 → s.routeState p ≠ 4 →
    (∃ t, exec (.applySplit p) s = .next t ∧ t.status O.PORT_ROUTE_STATUS (p + 1) = 4 ∧ t.only s [] [keyOf O.PORT_ROUTE_STATUS (p + 1)]) ∧
    (∃ t, exec (.applyForward p) s = .next t ∧ t.status O.PORT_ROUTE_STATUS (p + 1) = 4 ∧
      t.only s [] [keyOf O.PORT_ROUTE_STATUS (p + 1)]) ∧
    (∃ t, exec (.resume p) s = .next t ∧ t.status O.PORT_ROUTE_STATUS (p + 1) = 4 ∧ t.only s [] [keyOf O.PORT_ROUTE_STATUS (p + 1)])) ∧
  (∀ (s : State) (p : Fin 48) (c : Bool), s.held = false → c = false ∨ (s.port p).rangedAt ≠ some s.hearth.cycles → s.routeState p = 2 →
    ∃ t, exec (.routeAbort p c) s = .next t ∧ t.routeState p = 3 ∧ t.status O.PORT_ROUTE_STATUS (p + 1) = 3 ∧
      t.only s [] [keyOf O.PORT_ROUTE_STATE (p + 1), keyOf O.PORT_ROUTE_STATUS (p + 1)]) ∧
  (∀ (s : State) (p : Fin 48) (c : Bool), s.held = false → c = false ∨ (s.port p).rangedAt ≠ some s.hearth.cycles → s.routeState p ≠ 2 →
    ∃ t, exec (.routeAbort p c) s = .next t ∧ t.status O.PORT_ROUTE_STATUS (p + 1) = 4 ∧
      t.only s [] [keyOf O.PORT_ROUTE_STATUS (p + 1)]) ∧
  (∀ (s : State) (p : Fin 48), s.held = false → (s.port p).rangedAt = some s.hearth.cycles →
    ∃ t, exec (.routeAbort p true) s = .next t ∧ t.routeState p = s.routeState p ∧ t.status O.PORT_ROUTE_STATUS (p + 1) = 2 ∧
      bit (t.obj O.PORT_ROUTE_STATUS (p + 1)) 8 = true ∧
      t.obj O.PORT_TIME_FLAGS (p + 1) = (s.obj O.PORT_TIME_FLAGS (p + 1) ||| 32) % 2 ^ 32 ∧
      t.only s flagParts (keyOf O.PORT_ROUTE_STATUS (p + 1) :: flagKeys O.PORT_TIME_FLAGS (p + 1))) ∧
  (∀ (s : State) (p : Fin 48) (r : List (LineTime × LineTime)), s.held = false → s.routeState p ≠ 2 →
    s.obj O.PORT_RANGE_MODE (p + 1) = 1 → s.native p = true → bit (s.rxAct p) 0 = true → bit (s.rxAct p) 1 = true → r ≠ [] →
    ∃ t, exec (.dgdAverage p r) s = .next t ∧
      t.port p = { s.port p with dgd := some (meanI (s.dgdRun (s.laneAt p 0) (s.laneAt p 1) r).2) } ∧
      t.obj O.PORT_DGD (p + 1) = ofSigned 64 (meanI (s.dgdRun (s.laneAt p 0) (s.laneAt p 1) r).2) % 2 ^ 64 ∧
      t.only s [.ports, .lanes] [keyOf O.PORT_DGD (p + 1)]) ∧
  (∀ (s : State) (p : Fin 48) (r : List (LineTime × LineTime)), s.held = false → s.routeState p = 2 →
    s.elapsed (s.port p).confirmAt (10 ^ 9) = true → s.obj O.PORT_RANGE_MODE (p + 1) ≠ 1 →
    ∃ t, exec (.dgdAverage p r) s = .next t ∧ t.routeState p = 3 ∧ bits (t.obj O.PORT_ROUTE_STATUS (p + 1)) 15 12 = 2 ∧
      t.obj O.PORT_TIME_FLAGS (p + 1) = (s.obj O.PORT_TIME_FLAGS (p + 1) ||| 16) % 2 ^ 32 ∧
      t.port p = { s.port p with rangedAt := some s.hearth.cycles } ∧
      t.only s (.ports :: flagParts) (keyOf O.PORT_ROUTE_STATE (p + 1) :: keyOf O.PORT_ROUTE_STATUS (p + 1) ::
        flagKeys O.PORT_TIME_FLAGS (p + 1))) ∧
  (∀ (s : State) (p : Fin 48) (v : BitVec 32), s.held = false →
    ∃ t, exec (.portAsymCalWrite p v) s = .next t ∧
      t.obj O.PORT_ASYM_CAL (p + 1) = (if v.toInt.natAbs ≤ 1000000 then v.toNat else s.obj O.PORT_ASYM_CAL (p + 1)) ∧
      t.only s [] [keyOf O.PORT_ASYM_CAL (p + 1)]) ∧
  (∀ (s : State) (p : Fin 48) (v : BitVec 64), s.held = false →
    ∃ t, exec (.portAsymRouteWrite p v) s = .next t ∧
      t.obj O.PORT_ASYM_ROUTE (p + 1) = (if s.routeState p = 4 ∨ (s.routeState p = 0 ∧ s.source ≠ p) then v.toNat
        else s.obj O.PORT_ASYM_ROUTE (p + 1)) ∧
      t.only s [] [keyOf O.PORT_ASYM_ROUTE (p + 1)]) ∧
  (∀ (s : State) (p : Fin 48) (v : Byte), s.held = false →
    ∃ t, exec (.portRangeModeWrite p v) s = .next t ∧
      t.obj O.PORT_RANGE_MODE (p + 1) = (if v = 0 ∨ (v = 1 ∧ s.rangeOk p) then v.toNat else s.obj O.PORT_RANGE_MODE (p + 1)) ∧
      t.only s [] [keyOf O.PORT_RANGE_MODE (p + 1)])

/-- PPS_IN and PTP (R163, R167, R182 to R185, R241, R559). An edge on PPS_IN is captured on channel 16, and under EXTREF_MODE PPS_REFIN the capture
gives θ; a boundary clock sends Sync, Announce and Delay_Req in its roles, in PTP_DOMAIN and on its transport, and answers a Delay_Req
with its arrival time; it follows the master that BMCA recommends; a part that is not a boundary clock on the port, and one whose domain
or transport the message does not have, takes no PTP message. While PTP_EPOCH has never been set the Announce carries class, accuracy
and timeSource 0xA0. -/
def Obligations.PpsAndPtp : Prop :=
  (∀ (s : State) (e : Time56), s.held = false → s.watches 16 true = false → exec (.ppsInEdge e) s = .next s) ∧
  (∀ (s : State) (e : Time56), s.held = false → s.captured 16 e true = true → s.obj O.EXTREF_MODE ≠ 1 →
    ∃ t, exec (.ppsInEdge e) s = .next t ∧ t.servo = { s.servo with ppsAt := some s.hearth.cycles, ppsSince := true } ∧
      t.obj O.PPS_IN_LAST = s.stampOf (BitVec.ofInt 56 (s.capTime 16 e)) ∧
      t.only s (.servo :: .tdcs :: .cal :: flagParts) (keyOf O.PPS_IN_LAST :: keyOf O.TIO_MISSED 17 :: keyOf O.CAL_LAST_PRECOND ::
        keyOf O.CAL_ABORTS :: keyOf O.CAL_STATUS :: keyOf O.CAL_FLAGS :: flagKeys O.TIO_FLAGS 17)) ∧
  (∀ (s : State) (e : Time56), s.held = false → s.captured 16 e true = true → s.obj O.EXTREF_MODE = 1 → s.source ≠ extref →
    s.hearth.state = .track →
    ∃ t, exec (.ppsInEdge e) s = .next t ∧
      t.servo = { s.servo with ppsAt := some s.hearth.cycles, ppsSince := true,
                               extTh := s.ppsTheta (BitVec.ofInt 56 (s.capTime 16 e)) } ∧
      t.only s (.servo :: .tdcs :: .cal :: flagParts) (keyOf O.UPSTREAM_ALT :: keyOf O.PPS_IN_LAST :: keyOf O.TIO_MISSED 17 ::
        keyOf O.CAL_LAST_PRECOND :: keyOf O.CAL_ABORTS :: keyOf O.CAL_STATUS :: keyOf O.CAL_FLAGS :: flagKeys O.TIO_FLAGS 17)) ∧
  (∀ (s : State) (p : Fin 48), s.held = false → s.bcPort p = true → (s.port p).ptpSlave = false →
    ∃ t, exec (.ptpSyncSend p) s = .next t ∧ t.out = .ptp p 0 (s.obj O.PTP_DOMAIN) (s.obj O.PTP_TRANSPORT (p + 1))
        ((s.port p).ptpSeq :: s.ptpTime (s.departs p)) :: s.out ∧
      t.port p = { s.port p with ptpSeq := ((s.port p).ptpSeq + 1) % 65536 } ∧ (∀ q, q ≠ p.val → t.port q = s.port q) ∧
      t.only s [.out, .ports] []) ∧
  (∀ (s : State) (p : Fin 48), s.held = false → s.bcPort p = false ∨ (s.port p).ptpSlave = true →
    exec (.ptpSyncSend p) s = .next s ∧ exec (.ptpAnnounceSend p) s = .next s) ∧
  (∀ (s : State) (p : Fin 48), s.held = false → s.bcPort p = true → (s.port p).ptpSlave = false → s.servo.epochSet = false →
    ∃ t, exec (.ptpAnnounceSend p) s = .next t ∧
      t.out = .ptp p 4 (s.obj O.PTP_DOMAIN) (s.obj O.PTP_TRANSPORT (p + 1)) [(s.port p).ptpSeq, s.clockClass,
        clockAccuracy (s.obj O.ACC_BOUND), s.obj O.PTP_PRIORITY1, s.obj O.PTP_PRIORITY2, 0, 0xA0] :: s.out ∧
      t.port p = { s.port p with ptpSeq := ((s.port p).ptpSeq + 1) % 65536 } ∧ t.only s [.out, .ports] []) ∧
  (∀ (s : State) (p : Fin 48), s.held = false → s.bcPort p = true → (s.port p).ptpSlave = true →
    ∃ t, exec (.ptpDelayReqSend p) s = .next t ∧
      t.out = .ptp p 2 (s.obj O.PTP_DOMAIN) (s.obj O.PTP_TRANSPORT (p + 1)) [(s.port p).ptpSeq] :: s.out ∧
      t.port p = { s.port p with ptpT3 := some ((s.port p).ptpSeq, (s.departs p).toNat), ptpSeq := ((s.port p).ptpSeq + 1) % 65536 } ∧
      t.only s [.out, .ports] []) ∧
  (∀ (s : State) (p : Fin 48) (m : PtpMsg) (a : Time56), s.held = false →
    s.bcPort p = false ∨ m.domain.toNat ≠ s.obj O.PTP_DOMAIN ∨ m.transport.toNat ≠ s.obj O.PTP_TRANSPORT (p + 1) ∨
      m.kind = .management ∨ m.kind = .signalling →
    exec (.ptpMessageReceive p m a) s = .next s) ∧
  (∀ (s : State) (p : Fin 48) (m : PtpMsg) (a : Time56), s.held = false → s.bcPort p = true → m.domain.toNat = s.obj O.PTP_DOMAIN →
    m.transport.toNat = s.obj O.PTP_TRANSPORT (p + 1) → m.kind = .announce → m.slave = true → s.hearth.state = .track →
    ∃ t, exec (.ptpMessageReceive p m a) s = .next t ∧
      t.port p = (if (s.port p).ptpSlave ∧ (s.port p).ptpMaster = m.source.toNat then s.port p
        else { s.port p with ptpSlave := true, ptpMaster := m.source.toNat, complete := false, run := [], cand := none, ptpT1 := none,
                             ptpSync := none, ptpT3 := none }) ∧
      (∀ q, q ≠ p.val → t.port q = s.port q) ∧ t.only s [.ports] [keyOf O.UPSTREAM_ALT]) ∧
  (∀ (s : State) (p : Fin 48) (m : PtpMsg) (a : Time56), s.held = false → s.bcPort p = true → m.domain.toNat = s.obj O.PTP_DOMAIN →
    m.transport.toNat = s.obj O.PTP_TRANSPORT (p + 1) → m.kind = .announce → m.slave = false → s.hearth.state = .track →
    ∃ t, exec (.ptpMessageReceive p m a) s = .next t ∧
      t.port p = { s.port p with ptpSlave := (s.port p).ptpSlave && (s.port p).ptpMaster != m.source.toNat } ∧
      (∀ q, q ≠ p.val → t.port q = s.port q) ∧ t.only s [.ports] [keyOf O.UPSTREAM_ALT]) ∧
  (∀ (s : State) (p : Fin 48) (m : PtpMsg) (a : Time56), s.held = false → s.bcPort p = true → m.domain.toNat = s.obj O.PTP_DOMAIN →
    m.transport.toNat = s.obj O.PTP_TRANSPORT (p + 1) → m.kind = .sync → m.twoStep = true →
    (s.port p).ptpSlave = true → m.source.toNat = (s.port p).ptpMaster →
    ∃ t, exec (.ptpMessageReceive p m a) s = .next t ∧
      t.port p = { s.port p with ptpSync := some (m.seq.toNat, (a - BitVec.ofNat 56 (s.obj O.LINK_RX_LAT (p + 1))).toNat, m.correction) } ∧
      t.only s [.ports] []) ∧
  (∀ (s : State) (p : Fin 48) (m : PtpMsg) (a : Time56) (r : Nat) (c : Int), s.held = false → s.bcPort p = true →
    m.domain.toNat = s.obj O.PTP_DOMAIN → m.transport.toNat = s.obj O.PTP_TRANSPORT (p + 1) → m.kind = .followUp →
    (s.port p).ptpSlave = true → m.source.toNat = (s.port p).ptpMaster → (s.port p).ptpSync = some (m.seq.toNat, r, c) →
    ∃ t, exec (.ptpMessageReceive p m a) s = .next t ∧
      (let t1 : Int := (m.origin : Int) * 2 ^ 24 + (c + m.correction) * 2 ^ 8
       t.port p = { s.port p with
         ptpT1 := some ((t1 % (2 ^ 56 : Int)).toNat, (BitVec.ofNat 56 r).toNat, s.extended (BitVec.ofNat 56 r) - t1), ptpSync := none }) ∧
      t.only s [.ports] []) ∧
  (∀ (s : State) (p : Fin 48) (m : PtpMsg) (a : Time56), s.held = false → s.bcPort p = true → m.domain.toNat = s.obj O.PTP_DOMAIN →
    m.transport.toNat = s.obj O.PTP_TRANSPORT (p + 1) → m.kind = .delayReq → (s.port p).ptpSlave = false →
    ∃ t, exec (.ptpMessageReceive p m a) s = .next t ∧
      t.out = .ptp p 3 (s.obj O.PTP_DOMAIN) (s.obj O.PTP_TRANSPORT (p + 1)) (m.seq.toNat ::
        s.ptpTime (a - BitVec.ofNat 56 (s.obj O.LINK_RX_LAT (p + 1))) ++ [ofSigned 64 m.correction, m.source.toNat]) :: s.out ∧
      t.only s [.out] [])

/-- Pulse generators and levels (R223, R226 to R228, R230, R231, R233 to R236). A mode outside 0 to 5, or one written while the generator runs, changes
nothing; ARM is refused on a pin that is no generator, on a running one and where R227 does not hold, late where the time is less than
100 ns ahead, and BUSY otherwise; DISARM ends a running generator ABORTED and loses against the last edge; a due edge rises at its own
time, to 1 ps, and counts, one that falls into a pulse, or while the EPLL is unlocked, is missed; a pulse falls its width after it rose;
a safe timeout takes LEVEL outputs to their safe levels. -/
def Obligations.GeneratorsPulse : Prop :=
  (∀ (s : State) (t : Fin 16) (v : Byte), s.held = false → s.tioModeOk t v.toNat = false → exec (.tioModeWrite t v) s = .next s) ∧
  (∀ (s : State) (t : Fin 16), s.held = false → s.tioModeOk t 1 = true → s.tioMode t = 0 →
    ∃ u, exec (.tioModeWrite t 1) s = .next u ∧ u.tioMode t = 1 ∧ u.gen t = { s.gen t with high := false, width := 0 } ∧
      (∀ q, q ≠ t.val → u.gen q = s.gen q) ∧ u.only s [.gens, .cal] [keyOf O.TIO_MODE (t + 1)]) ∧
  (∀ (s : State) (t : Fin 16) (v : Byte), s.held = false → s.tioModeOk t v.toNat = true → s.tioMode t ≠ 0 → s.tioMode t ≠ v.toNat →
    2 ≤ v.toNat → v.toNat ≠ 4 → s.outOff = false →
    ∃ u, exec (.tioModeWrite t v) s = .next u ∧ u.tioMode t = v.toNat ∧ u.gen t = { s.gen t with high := false, width := 0 } ∧
      u.out = .pin 0 t (s.obj O.TIO_POL (t + 1) == 1) (BitVec.ofInt 56 (toPs s.now.toNat)).toNat :: s.out ∧
      u.only s [.gens, .out] [keyOf O.TIO_MODE (t + 1)]) ∧
  (∀ (s : State) (t : Fin 16) (v : Byte), s.held = false → v.toNat ≤ 1 → s.tioMode t = 4 → s.outOff = false → s.outHold = false →
    ∃ u, exec (.tioLevelWrite t v) s = .next u ∧ u.obj O.TIO_LEVEL (t + 1) = v.toNat ∧
      u.out = .pin 0 t (Bool.xor (v.toNat == 1) (s.obj O.TIO_POL (t + 1) == 1)) (BitVec.ofInt 56 (toPs s.now.toNat)).toNat :: s.out ∧
      u.only s [.out] [keyOf O.TIO_LEVEL (t + 1)]) ∧
  (∀ (s : State) (t : Fin 16) (v : Byte), s.held = false → v.toNat ≤ 1 → s.tioMode t ≠ 4 →
    ∃ u, exec (.tioLevelWrite t v) s = .next u ∧ u.obj O.TIO_LEVEL (t + 1) = v.toNat ∧ u.only s [] [keyOf O.TIO_LEVEL (t + 1)]) ∧
  (∀ (s : State) (t : Fin 16) (v : Byte), s.held = false → 1 < v.toNat → exec (.tioLevelWrite t v) s = .next s) ∧
  (∀ (s : State) (t : Fin 16), s.held = false → s.isGen t = true → s.genBusy t = false → s.genOk t = true →
    s.obj O.TIO_TIMEBASE (t + 1) ≠ 0 ∨ 100 ≤ tdiff (s.obj O.TIO_T0 (t + 1) / 2 ^ 32) s.ns →
    ∃ u, exec (.tioArm t) s = .next u ∧ u.status O.TIO_STATUS (t + 1) = 1 ∧
      u.gen t = { s.gen t with on := true, k := 0, fromF0 := s.nextLattice,
                               due := s.extended (BitVec.ofNat 56 (s.obj O.TIO_T0 (t + 1) / 256)) } ∧
      (∀ q, q ≠ t.val → u.gen q = s.gen q) ∧ u.only s [.gens] [keyOf O.TIO_STATUS (t + 1)]) ∧
  (∀ (s : State) (t : Fin 16), s.held = false → s.isGen t = true → s.genBusy t = false → s.genOk t = true →
    s.obj O.TIO_TIMEBASE (t + 1) = 0 → tdiff (s.obj O.TIO_T0 (t + 1) / 2 ^ 32) s.ns < 100 →
    ∃ u, exec (.tioArm t) s = .next u ∧ u.status O.TIO_STATUS (t + 1) = 6 ∧
      u.obj O.TIO_FLAGS (t + 1) = (s.obj O.TIO_FLAGS (t + 1) ||| 16) % 2 ^ 32 ∧
      u.only s flagParts (keyOf O.TIO_STATUS (t + 1) :: flagKeys O.TIO_FLAGS (t + 1))) ∧
  (∀ (s : State) (t : Fin 16), s.held = false → s.isGen t = false ∨ s.genBusy t = true ∨ s.genOk t = false →
    ∃ u, exec (.tioArm t) s = .next u ∧ u.status O.TIO_STATUS (t + 1) = 4 ∧ u.only s [] [keyOf O.TIO_STATUS (t + 1)]) ∧
  (∀ (s : State) (t : Fin 16) (c : Bool), s.held = false → s.genBusy t = true →
    c = false ∨ s.isGen t = false ∨ s.lastEdge t (s.gen t).k = false ∨ s.tio.suspended = true →
    ∃ u, exec (.disarm t c) s = .next u ∧ u.status O.TIO_STATUS (t + 1) = 3 ∧ bits (u.obj O.TIO_STATUS (t + 1)) 7 4 = 2 ∧
      u.gen t = { s.gen t with on := false } ∧ u.only s [.gens] [keyOf O.TIO_STATUS (t + 1)]) ∧
  (∀ (s : State) (t : Fin 16), s.held = false → s.genBusy t = true → s.isGen t = true → s.lastEdge t (s.gen t).k = true →
    s.tio.suspended = false →
    ∃ u, exec (.disarm t true) s = .next u ∧ u.status O.TIO_STATUS (t + 1) = 2 ∧ bit (u.obj O.TIO_STATUS (t + 1)) 8 = true ∧
      u.obj O.TIO_FLAGS (t + 1) = (s.obj O.TIO_FLAGS (t + 1) ||| 4) % 2 ^ 32 ∧ (u.gen t).on = false ∧ (u.gen t).k = (s.gen t).k + 1 ∧
      u.only s (.gens :: .out :: .cal :: flagParts) (keyOf O.TIO_STATUS (t + 1) :: keyOf O.TIO_MISSED (t + 1) :: keyOf O.CAL_LAST_PRECOND :: keyOf O.CAL_ABORTS :: keyOf O.CAL_STATUS :: keyOf O.CAL_FLAGS ::
        flagKeys O.TIO_FLAGS (t + 1))) ∧
  (∀ (s : State) (t : Fin 16), s.held = false → s.genBusy t = false → s.isGen t = true → s.status O.TIO_STATUS (t + 1) = 2 →
    bits (s.obj O.TIO_STATUS (t + 1)) 7 4 = 1 →
    ∃ u, exec (.disarm t true) s = .next u ∧ u.status O.TIO_STATUS (t + 1) = 2 ∧ bit (u.obj O.TIO_STATUS (t + 1)) 8 = true ∧
      u.obj O.TIO_FLAGS (t + 1) = (s.obj O.TIO_FLAGS (t + 1) ||| 4) % 2 ^ 32 ∧
      u.only s flagParts (keyOf O.TIO_STATUS (t + 1) :: flagKeys O.TIO_FLAGS (t + 1))) ∧
  (∀ (s : State) (t : Fin 16) (c : Bool), s.held = false → s.genBusy t = false →
    c = false ∨ s.isGen t = false ∨ s.status O.TIO_STATUS (t + 1) ≠ 2 ∨ bits (s.obj O.TIO_STATUS (t + 1)) 7 4 ≠ 1 →
    ∃ u, exec (.disarm t c) s = .next u ∧ u.status O.TIO_STATUS (t + 1) = 4 ∧ u.only s [] [keyOf O.TIO_STATUS (t + 1)]) ∧
  (∀ (s : State) (t : Fin 16), s.held = false → s.isGen t = true → s.genBusy t = true → s.tio.suspended = false →
    (s.gen t).high = false → s.lastEdge t (s.gen t).k = false → s.outOff = false → s.outHold = false →
    (s.calRec 5 t).state ≠ 2 → (s.calRec 6 t).state ≠ 2 →
    ∃ u, exec (.tioRisingEdge t) s = .next u ∧
      u.gen t = { s.gen t with high := true, width := s.obj O.TIO_WIDTH (t + 1), rose := BitVec.ofInt 56 (s.riseTime t),
                               k := (s.gen t).k + 1, fromF0 := s.nextF0 t + 1, due := (s.gen t).due + s.obj O.TIO_PERIOD (t + 1) } ∧
      u.out = .pin 0 t (!(s.obj O.TIO_POL (t + 1) == 1)) (BitVec.ofInt 56 (toPs (s.riseTime t))).toNat :: s.out ∧
      (∀ q, q ≠ t.val → u.gen q = s.gen q) ∧ u.only s [.gens, .out] []) ∧
  (∀ (s : State) (t : Fin 16), s.held = false → s.isGen t = true → s.genBusy t = true → s.tio.suspended = false →
    (s.gen t).high = true → tdiff56 (BitVec.ofInt 56 (s.riseTime t)) ((s.gen t).rose + BitVec.ofInt 56 (psToU (s.gen t).width)) < 0 →
    s.lastEdge t (s.gen t).k = true → (s.calRec 5 t).state ≠ 2 → (s.calRec 6 t).state ≠ 2 →
    ∃ u, exec (.tioRisingEdge t) s = .next u ∧ u.status O.TIO_STATUS (t + 1) = 2 ∧
      u.obj O.TIO_MISSED (t + 1) = min (s.obj O.TIO_MISSED (t + 1) + 1) (2 ^ 32 - 1) ∧ (u.gen t).k = (s.gen t).k + 1 ∧
      (u.gen t).on = false ∧ (u.gen t).high = true ∧
      u.only s [.gens] [keyOf O.TIO_STATUS (t + 1), keyOf O.TIO_MISSED (t + 1)]) ∧
  (∀ (s : State) (t : Fin 16), s.held = false → s.isGen t = true → s.genBusy t = true → s.tio.suspended = true →
    s.tioMode t = 3 ∨ (s.gen t).k = 0 → (s.calRec 5 t).state ≠ 2 → (s.calRec 6 t).state ≠ 2 →
    ∃ u, exec (.tioRisingEdge t) s = .next u ∧
      u.obj O.TIO_MISSED (t + 1) = min (s.obj O.TIO_MISSED (t + 1) + 1) (2 ^ 32 - 1) ∧
      u.gen t = { s.gen t with k := (s.gen t).k + 1, fromF0 := s.nextF0 t + 1, due := (s.gen t).due + s.obj O.TIO_PERIOD (t + 1) } ∧
      u.only s [.gens] [keyOf O.TIO_MISSED (t + 1)]) ∧
  (∀ (s : State) (t : Fin 16), s.held = false → (s.gen t).high = true → s.outOff = false → s.tio.suspended = false →
    ∃ u, exec (.tioFallingEdge t) s = .next u ∧ u.gen t = { s.gen t with high := false, width := 0 } ∧
      u.out = .pin 0 t (s.obj O.TIO_POL (t + 1) == 1)
        (BitVec.ofInt 56 (toPs ((s.gen t).rose + BitVec.ofInt 56 (psToU (s.gen t).width)).toNat)).toNat :: s.out ∧
      u.only s [.gens, .out] []) ∧
  (∀ s : State, s.held = false → s.obj O.TIO_SAFE_TIMEOUT ≠ 0 → s.obj O.HIER_RANK ≠ 0 →
    ∃ u, exec .safeTimeout s = .next u ∧ (∀ t < 16,
      if s.tioMode t = 4 ∧ s.obj O.TIO_SAFE_LEVEL (t + 1) < 2 then
        u.obj O.TIO_LEVEL (t + 1) = s.obj O.TIO_SAFE_LEVEL (t + 1) ∧
        u.obj O.TIO_FLAGS (t + 1) = (s.obj O.TIO_FLAGS (t + 1) ||| 32) % 2 ^ 32
      else u.obj O.TIO_LEVEL (t + 1) = s.obj O.TIO_LEVEL (t + 1)) ∧
      u.only s (.out :: flagParts) (wakeKeys ++ allOf [O.TIO_LEVEL, O.TIO_FLAGS])) ∧
  (∀ s : State, s.held = false → s.obj O.TIO_SAFE_TIMEOUT = 0 ∨ s.obj O.HIER_RANK = 0 → exec .safeTimeout s = .next s)

/-- Captures, MARK_IN and PPS_OUT (R228, R237 to R242). An edge that a channel watches joins its queue with its record and raises CAP_READY when the
queue was empty; one too close to the last is missed; a full queue drops it and notes the overflow; a read takes the oldest record;
CAP_FLUSH empties the queue of a CAPTURE pin; an edge on channel 16 is one of PPS_IN and on channel 17 one of MARK_IN, rising edges alone;
a MARK_IN capture is held against the lattice; REALIGN arms the first alignment anew; PPS_OUT rises at the next PTP second and falls its
width later while it is enabled. -/
def Obligations.CapturesAndMarks : Prop :=
  (∀ (s : State) (c : Fin 16) (e : Time56) (r : Bool), s.held = false → s.watches c r = true → s.tooClose c e = false →
    (s.calRec 5 c).state ≠ 2 → (s.calRec 6 c).state ≠ 2 → (s.tdc c).recs ≠ [] → (s.tdc c).recs.length < 64 →
    ∃ t, exec (.tioCapture ⟨c, by omega⟩ e r) s = .next t ∧
      t.tdc c = { recs := (s.tdc c).recs ++ [s.capRecord c e r], seq := ((s.tdc c).seq + 1) % 256, ovf := false,
                  last := some (e, s.hearth.cycles) } ∧
      (∀ d, d ≠ c.val → t.tdc d = s.tdc d) ∧ t.only s [.tdcs] []) ∧
  (∀ (s : State) (c : Fin 16) (e : Time56) (r : Bool), s.held = false → s.watches c r = true → s.tooClose c e = false →
    (s.calRec 5 c).state ≠ 2 → (s.calRec 6 c).state ≠ 2 → (s.tdc c).recs = [] →
    ∃ t, exec (.tioCapture ⟨c, by omega⟩ e r) s = .next t ∧ (t.tdc c).recs = [s.capRecord c e r] ∧
      (t.src (72 + c)).ev = min 255 ((s.src (72 + c)).ev + 1) ∧ t.only s (.tdcs :: flagParts) wakeKeys) ∧
  (∀ (s : State) (c : Fin 16) (e : Time56) (r : Bool), s.held = false → s.watches c r = true → s.tooClose c e = true →
    (s.calRec 5 c).state ≠ 2 → (s.calRec 6 c).state ≠ 2 →
    ∃ t, exec (.tioCapture ⟨c, by omega⟩ e r) s = .next t ∧ t.tdc c = { s.tdc c with last := some (e, s.hearth.cycles) } ∧
      t.obj O.TIO_MISSED (c + 1) = min (s.obj O.TIO_MISSED (c + 1) + 1) (2 ^ 32 - 1) ∧
      t.only s [.tdcs] [keyOf O.TIO_MISSED (c + 1)]) ∧
  (∀ (s : State) (c : Fin 16) (e : Time56) (r : Bool), s.held = false → s.watches c r = true → s.tooClose c e = false →
    (s.calRec 5 c).state ≠ 2 → (s.calRec 6 c).state ≠ 2 → 64 ≤ (s.tdc c).recs.length →
    ∃ t, exec (.tioCapture ⟨c, by omega⟩ e r) s = .next t ∧
      t.tdc c = { s.tdc c with last := some (e, s.hearth.cycles), ovf := true } ∧
      t.obj O.TIO_MISSED (c + 1) = min (s.obj O.TIO_MISSED (c + 1) + 1) (2 ^ 32 - 1) ∧
      t.obj O.TIO_FLAGS (c + 1) = (s.obj O.TIO_FLAGS (c + 1) ||| 64) % 2 ^ 32 ∧
      t.only s (.tdcs :: flagParts) (keyOf O.TIO_MISSED (c + 1) :: flagKeys O.TIO_FLAGS (c + 1))) ∧
  (∀ (s : State) (c : Fin 16) (e : Time56) (r : Bool), s.held = false → s.watches c r = false →
    exec (.tioCapture ⟨c, by omega⟩ e r) s = .next s) ∧
  (∀ (s : State) (e : Time56), s.held = false →
    exec (.tioCapture 16 e true) s = exec (.ppsInEdge e) s ∧ exec (.tioCapture 16 e false) s = .next s ∧
    exec (.tioCapture 17 e true) s = exec (.markInEdge e) s ∧ exec (.tioCapture 17 e false) s = .next s) ∧
  (∀ (s : State) (c : Fin 18) (e : Time56) (r : Bool), s.held = false → s.tio.suspended = true →
    exec (.tioCapture c e r) s = .next s) ∧
  (∀ (s : State) (c : Fin 18) (x : Bytes) (xs : List Bytes), s.held = false → (s.tdc c).recs = x :: xs →
    ∃ t, exec (.tioCapRead c) s = .next t ∧ t.tdc c = { s.tdc c with recs := xs } ∧ t.out = .bytes x :: s.out ∧
      (∀ d, d ≠ c.val → t.tdc d = s.tdc d) ∧ t.only s [.tdcs, .out] []) ∧
  (∀ (s : State) (c : Fin 18), s.held = false → (s.tdc c).recs = [] →
    ∃ t, exec (.tioCapRead c) s = .next t ∧ t.out = .bytes [] :: s.out ∧ t.only s [.out] []) ∧
  (∀ (s : State) (t : Fin 16), s.held = false → s.tioMode t = 1 →
    ∃ u, exec (.capFlush t) s = .next u ∧ u.tdc t = { s.tdc t with recs := [] } ∧ u.status O.TIO_STATUS (t + 1) = 2 ∧
      bits (u.obj O.TIO_STATUS (t + 1)) 7 4 = 3 ∧ u.only s [.tdcs] [keyOf O.TIO_STATUS (t + 1)]) ∧
  (∀ (s : State) (t : Fin 16), s.held = false → s.tioMode t ≠ 1 →
    ∃ u, exec (.capFlush t) s = .next u ∧ u.status O.TIO_STATUS (t + 1) = 4 ∧ u.only s [] [keyOf O.TIO_STATUS (t + 1)]) ∧
  (∀ (s : State) (e : Time56), s.held = false → s.watches 17 true = false → exec (.markInEdge e) s = .next s) ∧
  (∀ (s : State) (e : Time56), s.held = false → s.captured 17 e true = true → 0 < s.f0Period → s.obj O.MARK_MODE = 0 →
    3 * (s.f0Period : Int) ≤ 8 * (s.markOwn e - nearestEdge s.f0Period (s.markOwn e) * s.f0Period).natAbs →
    ∃ t, exec (.markInEdge e) s = .next t ∧ t.obj O.TIO_SYS_FLAGS = (s.obj O.TIO_SYS_FLAGS ||| 32) % 2 ^ 32 ∧
      t.obj O.MARK_LAST = s.stampOf (BitVec.ofInt 56 (s.capTime 17 e)) ∧
      t.only s (.tdcs :: .cal :: flagParts) (keyOf O.TIO_SYS_FLAGS :: keyOf O.MARK_LAST :: keyOf O.TIO_MISSED 18 :: keyOf O.CAL_LAST_PRECOND :: keyOf O.CAL_ABORTS :: keyOf O.CAL_STATUS :: keyOf O.CAL_FLAGS ::
        flagKeys O.TIO_FLAGS 18)) ∧
  (∀ (s : State) (e : Time56), s.held = false → s.captured 17 e true = true → 0 < s.f0Period →
    s.obj O.MARK_MODE = 1 ∨ (s.obj O.MARK_MODE = 2 ∧ s.tio.aligned = true) →
    ((s.obj O.F0_CNT : Int) + nearestEdge s.f0Period (s.markOwn e)) % s.obj O.MC_LEN_ACT ≠ 0 →
    ∃ t, exec (.markInEdge e) s = .next t ∧ t.obj O.MARK_SLIPS = (s.count O.MARK_SLIPS).obj O.MARK_SLIPS ∧
      bit (t.obj O.TIO_SYS_FLAGS) 4 = true ∧
      t.only s (.tdcs :: .cal :: flagParts) (keyOf O.TIO_SYS_FLAGS :: keyOf O.MARK_LAST :: keyOf O.MARK_SLIPS :: keyOf O.TIO_MISSED 18 ::
        keyOf O.CAL_LAST_PRECOND :: keyOf O.CAL_ABORTS :: keyOf O.CAL_STATUS :: keyOf O.CAL_FLAGS :: flagKeys O.TIO_FLAGS 18)) ∧
  (∀ (s : State) (e : Time56), s.held = false → s.captured 17 e true = true → 0 < s.f0Period →
    s.obj O.MARK_MODE = 2 → s.tio.aligned = false → s.tio.markLast = none →
    8 * ((s.markOwn e - nearestEdge s.f0Period (s.markOwn e) * s.f0Period).natAbs : Int) < 3 * s.f0Period →
    ∃ t, exec (.markInEdge e) s = .next t ∧ t.tio = { s.tio with
      markRun := 1, markLast := some ((s.obj O.F0_CNT : Int) + nearestEdge s.f0Period (s.markOwn e)).toNat } ∧
      t.only s (.tio :: .tdcs :: .cal :: flagParts) (keyOf O.MARK_LAST :: keyOf O.TIO_MISSED 18 :: keyOf O.CAL_LAST_PRECOND :: keyOf O.CAL_ABORTS :: keyOf O.CAL_STATUS :: keyOf O.CAL_FLAGS :: flagKeys O.TIO_FLAGS 18)) ∧
  (∀ s : State, s.held = false → ∃ t, exec .markRealign s = .next t ∧
    t.tio = { s.tio with aligned := false, markRun := 0, markLast := none } ∧ t.only s [.tio] []) ∧
  (∀ s : State, s.held = false → s.obj O.PPS_OUT_EN ≠ 0 → s.tio.ppsHigh = false → s.outOff = false →
    ∃ t, exec .ppsOutRise s = .next t ∧
      t.tio = { s.tio with ppsHigh := true, ppsSec := some s.ppsNext, ppsRose := BitVec.ofInt 56 (s.ppsTime s.ppsNext) } ∧
      t.out = .pin 1 0 true (BitVec.ofInt 56 (s.ppsTime s.ppsNext)).toNat :: s.out ∧ t.only s [.tio, .out] []) ∧
  (∀ s : State, s.held = false → s.obj O.PPS_OUT_EN = 0 → exec .ppsOutRise s = .next s) ∧
  (∀ s : State, s.held = false → s.tio.ppsHigh = true →
    ∃ t, exec .ppsOutFall s = .next t ∧ t.tio = { s.tio with ppsHigh := false } ∧
      t.out = .pin 1 0 false (s.tio.ppsRose + BitVec.ofNat 56 (s.obj O.PPS_OUT_WIDTH * 2 ^ 24)).toNat :: s.out ∧
      t.only s [.tio, .out] [])

/-- Superframes and fast commands on their way (R57, R72, R75, R243 to R248, R299). A superframe counts up the group's superframe count, the first
with count 0; a CMD body with OP 0, or from a port that may not command, is no command; a repeated one counts in CMD_DUP; one within 200 ns of
its time counts in CMD_LATE; a timely one of this part waits in the execution queue in its order. Slot 0 carries the first command
of the port's relay queue or an empty body, and ends a waiting issue of the active manager DONE. -/
def Obligations.CommandsTravel : Prop :=
  (∀ (s : State) (g : Fin 8), s.held = false → (∀ p, s.width p ≤ 4) →
    (s.group g).sfcOn = true → s.tpllOk g = true → (s.group g).mode = 0 →
    ∃ t, exec (.superframeStart g) s = .next t ∧
      t.group g = { s.group g with sfc := if (s.group g).sfRun then (s.group g).sfc + 1 else (s.group g).sfc, sfRun := true,
                                   sfAt := s.hearth.cycles } ∧
      ∀ h, h ≠ g.val → t.group h = s.group h) ∧
  (∀ (s : State) (g : Fin 8), s.held = false → (s.group g).sfcOn = false ∨ s.tpllOk g = false ∨ (s.group g).mode ≠ 0 →
    exec (.superframeStart g) s = .next s) ∧
  (∀ (s : State) (p : Fin 48) (b : Body), s.held = false → s.cmdFrom p = false ∨ cmdOp b = 0 →
    exec (.cmdReceive p b) s = .next (if s.native p && (s.lport p).up then s.rxPort p 1 else s)) ∧
  (∀ (s : State) (p : Fin 48) (b : Body) (l : Nat), s.held = false → s.cmdFrom p = true → cmdOp b ≠ 0 →
    s.lastSeq (cmdIss b) = some l → (cmdSeq b + 256 - l) % 256 = 0 ∨ 128 ≤ (cmdSeq b + 256 - l) % 256 →
    ∃ t, exec (.cmdReceive p b) s = .next t ∧ t.obj O.CMD_DUP = (s.count O.CMD_DUP).obj O.CMD_DUP ∧
      t.only s [.lanes, .lports] [keyOf O.CMD_DUP]) ∧
  (∀ (s : State) (p : Fin 48) (b : Body), s.held = false → s.cmdFrom p = true → cmdOp b ≠ 0 → s.cmdNew b = true →
    s.cmdLate b = true →
    ∃ t, exec (.cmdReceive p b) s = .next t ∧ t.lastSeq (cmdIss b) = some (cmdSeq b) ∧
      t.obj O.CMD_LATE = (s.count O.CMD_LATE).obj O.CMD_LATE ∧
      t.obj O.TIO_SYS_FLAGS = (s.obj O.TIO_SYS_FLAGS ||| 4) % 2 ^ 32 ∧ t.tio.execQ = s.tio.execQ ∧ t.tio.relayQ = s.tio.relayQ ∧
      t.only s (.tio :: .lanes :: .lports :: flagParts) (keyOf O.CMD_LATE :: flagKeys O.TIO_SYS_FLAGS)) ∧
  (∀ (s : State) (p : Fin 48) (b : Body), s.held = false → s.cmdFrom p = true → cmdOp b ≠ 0 → s.cmdNew b = true →
    s.cmdLate b = false → s.cmdMine b = true → s.tio.execQ.length < 32 →
    (∀ q ∈ s.relayPorts b, (Tab.get s.tio.relayQ [] q).length < 16) →
    ∃ t, exec (.cmdReceive p b) s = .next t ∧ t.lastSeq (cmdIss b) = some (cmdSeq b) ∧
      t.tio.execQ = insertCmd (fun c => s.execEdge (BitVec.ofNat 104 c)) b.toNat s.tio.execQ ∧
      (∀ q, Tab.get t.tio.relayQ [] q = Tab.get s.tio.relayQ [] q ++ if q ∈ s.relayPorts b then [b.toNat] else []) ∧
      t.only s [.tio, .lanes, .lports] []) ∧
  (∀ (s : State) (p : Fin 48), s.held = false → s.native p = true → (s.lport p).up = true → s.tio.issueQ = none →
    s.epPort p = false → s.activeLanes p ≠ [] →
    ∃ t, exec (.slot0Cmd p) s = .next t ∧
      (∃ v, Emit.block p ((s.activeLanes p).headD 0) 0x66 ((Tab.get s.tio.relayQ [] p).headD 0) v ∈ t.out) ∧
      t.tio.relayQ = Tab.set s.tio.relayQ [] p (Tab.get s.tio.relayQ [] p).tail ∧ t.tio.execQ = s.tio.execQ ∧
      t.only s [.out, .tio, .lanes, .lports] []) ∧
  (∀ (s : State) (p : Fin 48) (b : Nat), s.held = false → s.native p = true → (s.lport p).up = true → s.tio.issueQ = some b →
    s.activeManager = true → s.issuePorts (BitVec.ofNat 104 b) = [] → s.cmdMine (BitVec.ofNat 104 b) = true → s.tio.execQ.length < 32 →
    ∃ t, exec (.slot0Cmd p) s = .next t ∧ t.tio.issueQ = none ∧
      t.tio.execQ = insertCmd (fun c => s.execEdge (BitVec.ofNat 104 c)) b s.tio.execQ ∧
      t.status O.CMD_ISSUE_STATUS 0 = 2 ∧ t.only s [.out, .tio, .lanes, .lports] [keyOf O.CMD_ISSUE_STATUS]) ∧
  (∀ (s : State) (v : Bytes), s.held = false → s.cmdIssueOk v = false → exec (.cmdIssue v) s = .next s) ∧
  (∀ (s : State) (v : Bytes), s.held = false → s.cmdIssueOk v = true →
    s.issueTarget (ofBe ((v.drop 5).take 1)) (ofBe ((v.drop 6).take 4)) (ofBe ((v.drop 10).take 2)) = none →
    ∃ t, exec (.cmdIssue v) s = .next t ∧ t.status O.CMD_ISSUE_STATUS 0 = 4 ∧ t.only s [] [keyOf O.CMD_ISSUE_STATUS]) ∧
  (∀ (s : State) (v : Bytes) (d : Int), s.held = false → s.cmdIssueOk v = true → ofBe ((v.drop 5).take 1) = 0 →
    s.issueTarget 0 (ofBe ((v.drop 6).take 4)) (ofBe ((v.drop 10).take 2)) = some d → d < (s.obj O.CMD_LEAD : Int) * 2 ^ 40 →
    ∃ t, exec (.cmdIssue v) s = .next t ∧ t.status O.CMD_ISSUE_STATUS 0 = 6 ∧ t.only s [] [keyOf O.CMD_ISSUE_STATUS]) ∧
  (∀ (s : State) (v : Bytes) (d : Int), s.held = false → s.cmdIssueOk v = true →
    s.issueTarget (ofBe ((v.drop 5).take 1)) (ofBe ((v.drop 6).take 4)) (ofBe ((v.drop 10).take 2)) = some d →
    ofBe ((v.drop 5).take 1) ≠ 0 ∨ (s.obj O.CMD_LEAD : Int) * 2 ^ 40 ≤ d →
    ∃ t, exec (.cmdIssue v) s = .next t ∧ t.status O.CMD_ISSUE_STATUS 0 = 1 ∧
      t.obj O.CMD_NEXT_SEQ = (s.obj O.CMD_NEXT_SEQ + 1) % 256 ∧ t.tio.issueQ.isSome = true ∧
      t.tio.execQ = s.tio.execQ ∧ t.tio.relayQ = s.tio.relayQ ∧
      t.only s [.tio] [keyOf O.CMD_ISSUE_STATUS, keyOf O.CMD_NEXT_SEQ, keyOf O.CMD_LAST_TARGET]) ∧
  (∀ (s : State) (i : Bool), s.held = false →
    ∃ t, exec (.lastSeqLapse i) s = .next t ∧ t.lastSeq (b2n i) = none ∧ t.lastSeq (b2n !i) = s.lastSeq (b2n !i) ∧
      t.tio.execQ = s.tio.execQ ∧ t.tio.relayQ = s.tio.relayQ ∧ t.tio.issueQ = s.tio.issueQ ∧ t.only s [.tio] [])

/-- Fast commands act at their execution edge (R222 to R225, R228, R231, R233, R234, R244, R247, R440, R452, R487, R498). The first command of the
execution queue acts, under its own opcode, and time passes up to its edge; while the EPLL is unlocked it leaves the queue with no other
effect and counts in CMD_LATE. Otherwise it has its effect there, counts in CMD_EXEC, stands in CMD_LAST and raises CMD_EXECUTED. A
reserved opcode counts in CMD_UNKNOWN. That a command acts only where the queue holds it is the model's reading (log entry 31), and so is
that the command lets time pass (log entry 12). -/
def Obligations.FastCommandsAct : Prop :=
  (∀ (s : State) (b : Body), s.held = false →
    ∀ c ∈ [(Instr.resync b, 1), (.pulse b, 2), (.levelSet b, 3), (.fastArm b, 4), (.fastStop b, 5), (.snapshot b, 6), (.user b, 7)],
      (s.tio.execQ.head? ≠ some b.toNat ∨ cmdOp b ≠ c.2 → exec c.1 s = .next s) ∧
      (s.tio.execQ.head? = some b.toNat → cmdOp b = c.2 → s.tio.suspended = true →
        ∃ t, exec c.1 s = .next t ∧ t.tio = { s.tio with execQ := s.tio.execQ.tail } ∧
          t.obj O.CMD_LATE = (s.count O.CMD_LATE).obj O.CMD_LATE ∧
          t.obj O.TIO_SYS_FLAGS = (s.obj O.TIO_SYS_FLAGS ||| 4) % 2 ^ 32 ∧
          t.only s (.tio :: .hearth :: flagParts) (keyOf O.CMD_LATE :: keyOf O.F0_CNT :: keyOf O.HEARTH_WRAP :: keyOf O.HEARTH_FLAGS :: flagKeys O.TIO_SYS_FLAGS)) ∧
      (s.tio.execQ.head? = some b.toNat → cmdOp b = c.2 → s.tio.suspended = false →
        ∃ t, exec c.1 s = .next t ∧ t.tio.execQ = s.tio.execQ.tail ∧
          (s.obj O.SNAP_MODE ≠ 1 → t.obj O.CMD_EXEC = (s.count O.CMD_EXEC).obj O.CMD_EXEC) ∧ t.blob O.CMD_LAST = Blob.of (bodyBytes b) ∧
          bit (t.obj O.TIO_SYS_FLAGS) 1 = true)) ∧
  (∀ (s : State) (b : Body), s.held = false → s.tio.execQ.head? = some b.toNat →
    (∀ u, u = s.takeCmd b → s.hearth.running = true → s.hearthM ≠ 0 → s.obj O.HEARTH_INC ≠ 0 → (s.obj O.F0_CNT : Int) < s.execEdge b →
      s.execEdge b < 2 ^ 64 → (u.obj O.F0_CNT : Int) = s.execEdge b ∧ u.hearth.f0Div = 0)) ∧
  (∀ (s u : State) (b : Body), s.held = false → s.tio.execQ.head? = some b.toNat → cmdOp b = 1 → s.tio.suspended = false →
    u = s.takeCmd b → u.obj O.CARAVAN_CYCLE = u.cycleLen → (cmdArg b * u.obj O.MC_LEN) % u.cycleLen = u.obj O.F0_CNT % u.cycleLen →
    ∃ t, exec (.resync b) s = .next t ∧ t.obj O.F0_CNT = cmdArg b * s.obj O.MC_LEN % 2 ^ 64 ∧
      t.objI O.F0_SKEW = toSigned 64 (ofSigned 64 (u.skewAt (cmdTarget b))) ∧ t.obj O.MC_LEN_ACT = s.obj O.MC_LEN % 2 ^ 32 ∧
      t.obj O.CARAVAN_CYCLE_ACT = s.obj O.CARAVAN_CYCLE % 2 ^ 32 ∧ t.tio.synced = true ∧ bit (t.obj O.TIO_SYS_FLAGS) 6 = true ∧
      t.only s (.tio :: .gens :: .caravan :: .hearth :: .blobs :: flagParts) (keyOf O.F0_SKEW :: keyOf O.MC_LEN_ACT ::
        keyOf O.CARAVAN_CYCLE_ACT :: keyOf O.CARAVAN_CYCLE_NUM :: keyOf O.CMD_EXEC :: keyOf O.F0_CNT :: keyOf O.HEARTH_WRAP :: keyOf O.HEARTH_FLAGS :: flagKeys O.TIO_SYS_FLAGS)) ∧
  (∀ (s u : State) (b : Body) (at_ : Nat → Time56), s.held = false → s.tio.execQ.head? = some b.toNat → cmdOp b = 2 →
    s.tio.suspended = false → u = s.takeCmd b →
    (∀ q, at_ q = BitVec.ofInt 56 (u.latticeTime (s.execEdge b) + psToU (s.obj O.TIO_OFFSET (q + 1)))) →
    ∃ t, exec (.pulse b) s = .next t ∧
      (∀ q < 16, if q ∈ s.maskPins b (· == 5) then
          if (s.gen q).high = true ∧ tdiff56 (at_ q) ((s.gen q).rose + BitVec.ofInt 56 (psToU (s.gen q).width)) < 0 then
            t.gen q = s.gen q ∧ t.obj O.TIO_MISSED (q + 1) = (s.count O.TIO_MISSED (q + 1)).obj O.TIO_MISSED (q + 1)
          else t.gen q = { s.gen q with high := true, rose := at_ q, width := if blk b 39 32 = 0 then s.obj O.TIO_WIDTH (q + 1)
            else (roundDiv (blk b 39 32 * s.f0Period * 1000) (2 ^ 40)).toNat }
        else t.gen q = s.gen q ∧ t.obj O.TIO_MISSED (q + 1) = s.obj O.TIO_MISSED (q + 1)) ∧
      t.only s (.tio :: .gens :: .out :: .hearth :: .blobs :: flagParts)
        (keyOf O.CMD_EXEC :: keyOf O.F0_CNT :: keyOf O.HEARTH_WRAP :: keyOf O.HEARTH_FLAGS :: flagKeys O.TIO_SYS_FLAGS ++ allOf [O.TIO_MISSED])) ∧
  (∀ (s : State) (b : Body), s.held = false → s.tio.execQ.head? = some b.toNat → cmdOp b = 3 → s.tio.suspended = false →
    ∃ t, exec (.levelSet b) s = .next t ∧
      (∀ q < 16, t.obj O.TIO_LEVEL (q + 1) =
        if q ∈ s.maskPins b (· == 4) then b2n (bit (cmdArg b) 16) else s.obj O.TIO_LEVEL (q + 1)) ∧
      t.only s (.tio :: .out :: .hearth :: .blobs :: flagParts) (keyOf O.CMD_EXEC :: keyOf O.F0_CNT :: keyOf O.HEARTH_WRAP :: keyOf O.HEARTH_FLAGS :: flagKeys O.TIO_SYS_FLAGS ++ allOf [O.TIO_LEVEL])) ∧
  (∀ (s u : State) (b : Body), s.held = false → s.tio.execQ.head? = some b.toNat → cmdOp b = 4 → s.tio.suspended = false →
    u = s.takeCmd b →
    ∃ t, exec (.fastArm b) s = .next t ∧
      (∀ q < 16, q ∈ s.maskPins b (fun m => m == 2 || m == 3) → s.genBusy q = false → s.genOk q = true →
        s.obj O.TIO_TIMEBASE (q + 1) ≠ 0 →
        t.status O.TIO_STATUS (q + 1) = 1 ∧ t.gen q =
          { s.gen q with on := true, k := 0, fromF0 := (s.execEdge b).toNat, due := u.extended (BitVec.ofNat 56 (s.obj O.TIO_T0 (q + 1) / 256)) }) ∧
      (∀ q < 16, q ∉ s.maskPins b (fun m => m == 2 || m == 3) → t.gen q = s.gen q ∧
        t.obj O.TIO_STATUS (q + 1) = s.obj O.TIO_STATUS (q + 1) ∧ t.obj O.TIO_FLAGS (q + 1) = s.obj O.TIO_FLAGS (q + 1)) ∧
      t.only s (.tio :: .gens :: .hearth :: .blobs :: flagParts)
        (keyOf O.CMD_EXEC :: keyOf O.F0_CNT :: keyOf O.HEARTH_WRAP :: keyOf O.HEARTH_FLAGS :: flagKeys O.TIO_SYS_FLAGS ++ allOf [O.TIO_STATUS, O.TIO_FLAGS])) ∧
  (∀ (s u : State) (b : Body), s.held = false → s.tio.execQ.head? = some b.toNat → cmdOp b = 5 → s.tio.suspended = false →
    u = s.takeCmd b →
    ∃ t, exec (.fastStop b) s = .next t ∧
      (∀ q < 16, if q ∈ s.maskPins b (fun m => m == 2 || m == 3) then
          u.launches q (u.latticeTime (s.execEdge b)) = false →
            t.status O.TIO_STATUS (q + 1) = (if s.genBusy q = true then 3 else 4) ∧ bits (t.obj O.TIO_STATUS (q + 1)) 7 4 = 2 ∧
              t.gen q = { s.gen q with on := false }
        else t.obj O.TIO_STATUS (q + 1) = s.obj O.TIO_STATUS (q + 1) ∧ t.gen q = s.gen q) ∧
      t.only s (.tio :: .gens :: .out :: .cal :: .hearth :: .blobs :: flagParts) (keyOf O.CAL_LAST_PRECOND :: keyOf O.CAL_ABORTS :: keyOf O.CAL_STATUS :: keyOf O.CAL_FLAGS :: keyOf O.CMD_EXEC :: keyOf O.F0_CNT :: keyOf O.HEARTH_WRAP :: keyOf O.HEARTH_FLAGS ::
        flagKeys O.TIO_SYS_FLAGS ++ allOf [O.TIO_STATUS, O.TIO_FLAGS, O.TIO_MISSED])) ∧
  (∀ (s u : State) (b : Body), s.held = false → s.tio.execQ.head? = some b.toNat → cmdOp b = 6 → s.tio.suspended = false →
    s.snap.gathering = none → s.obj O.SNAP_MODE ≠ 1 → u = s.takeCmd b →
    ∃ t, exec (.snapshot b) s = .next t ∧ t.snap = { s.snap with gathering := some (u.snapImage 2 (cmdArg b), u.stamp) } ∧
      t.status O.SNAP_STATUS 0 = 1 ∧
      t.only s (.tio :: .snap :: .hearth :: .blobs :: flagParts) (keyOf O.SNAP_STATUS :: keyOf O.CMD_EXEC :: keyOf O.F0_CNT :: keyOf O.HEARTH_WRAP :: keyOf O.HEARTH_FLAGS ::
        flagKeys O.TIO_SYS_FLAGS)) ∧
  (∀ (s u : State) (b : Body), s.held = false → s.tio.execQ.head? = some b.toNat → cmdOp b = 7 → s.tio.suspended = false →
    u = s.takeCmd b →
    ∃ t, exec (.user b) s = .next t ∧
      (∀ e, (e = 10 ∨ e = 11) → if (s.eng e).userQ.length < 8
        then (t.eng e).userQ = (s.eng e).userQ ++ [(cmdArg b, u.latticeNs (s.execEdge b))] ∧
          t.obj O.USER_CMD_DROP (e - 9) = s.obj O.USER_CMD_DROP (e - 9)
        else (t.eng e).userQ = (s.eng e).userQ ∧
          t.obj O.USER_CMD_DROP (e - 9) = (s.count O.USER_CMD_DROP (e - 9)).obj O.USER_CMD_DROP (e - 9)) ∧
      t.only s (.tio :: .engines :: .hearth :: .blobs :: flagParts)
        (keyOf O.USER_CMD_DROP 1 :: keyOf O.USER_CMD_DROP 2 :: keyOf O.CMD_EXEC :: keyOf O.F0_CNT :: keyOf O.HEARTH_WRAP :: keyOf O.HEARTH_FLAGS :: flagKeys O.TIO_SYS_FLAGS)) ∧
  (∀ (s : State) (b : Body), s.held = false → s.tio.execQ.head? = some b.toNat → 8 ≤ cmdOp b → s.tio.suspended = false →
    ∃ t, exec (.reservedOpcode b) s = .next t ∧ t.tio = { s.tio with execQ := s.tio.execQ.tail } ∧
      t.obj O.CMD_UNKNOWN = (s.count O.CMD_UNKNOWN).obj O.CMD_UNKNOWN ∧
      t.only s (.tio :: .hearth :: flagParts) (keyOf O.CMD_UNKNOWN :: keyOf O.F0_CNT :: keyOf O.HEARTH_WRAP :: keyOf O.HEARTH_FLAGS :: wakeKeys)) ∧
  (∀ (s : State) (b : Body), s.held = false → s.tio.execQ.head? = some b.toNat → 8 ≤ cmdOp b → s.tio.suspended = true →
    ∃ t, exec (.reservedOpcode b) s = .next t ∧ t.tio = { s.tio with execQ := s.tio.execQ.tail } ∧
      t.obj O.CMD_LATE = (s.count O.CMD_LATE).obj O.CMD_LATE ∧
      t.only s (.tio :: .hearth :: flagParts) (keyOf O.CMD_LATE :: keyOf O.F0_CNT :: keyOf O.HEARTH_WRAP :: keyOf O.HEARTH_FLAGS :: flagKeys O.TIO_SYS_FLAGS)) ∧
  (∀ (s : State) (b : Body), s.held = false → s.tio.execQ.head? ≠ some b.toNat ∨ cmdOp b < 8 →
    exec (.reservedOpcode b) s = .next s)

/-- Snapshots, samples and the Lantern port (R486 to R499). ARM is late within 1,000 ns of its time and arms otherwise; CANCEL is refused
with nothing armed and disarms otherwise; a snapshot that falls captures its image, or is missed while another is gathered; its completion
publishes image, time, tag and count. A precise sample queues its record, of which a full queue loses one; a read empties the queue. LT_D sends
the oldest packet, and after losses a LOSS packet first. -/
def Obligations.SnapshotsAndSamples : Prop :=
  (∀ s : State, s.held = false → s.status O.SNAP_STATUS = 1 → exec .snapArm s = .next s) ∧
  (∀ s : State, s.held = false → s.status O.SNAP_STATUS ≠ 1 →
    tdiff56 (BitVec.ofNat 56 (s.obj O.SNAP_AT / 256)) s.now < 1000 * 2 ^ 24 →
    ∃ t, exec .snapArm s = .next t ∧ t.status O.SNAP_STATUS = 6 ∧ t.only s [] [keyOf O.SNAP_STATUS]) ∧
  (∀ s : State, s.held = false → s.status O.SNAP_STATUS ≠ 1 →
    1000 * 2 ^ 24 ≤ tdiff56 (BitVec.ofNat 56 (s.obj O.SNAP_AT / 256)) s.now →
    ∃ t, exec .snapArm s = .next t ∧ t.status O.SNAP_STATUS = 1 ∧ t.snap = { s.snap with armed := true } ∧
      t.only s [.snap] [keyOf O.SNAP_STATUS]) ∧
  (∀ (s : State) (c : Bool), s.held = false → s.snap.armed = false →
    ∃ t, exec (.snapCancel c) s = .next t ∧ t.status O.SNAP_STATUS = 4 ∧ t.only s [] [keyOf O.SNAP_STATUS]) ∧
  (∀ s : State, s.held = false → s.snap.armed = true →
    ∃ t, exec (.snapCancel false) s = .next t ∧ t.status O.SNAP_STATUS = 3 ∧ t.snap = { s.snap with armed := false } ∧
      t.only s [.snap] [keyOf O.SNAP_STATUS]) ∧
  (∀ s u : State, s.held = false → s.snap.armed = true → s.snap.gathering = none → s.obj O.SNAP_MODE ≠ 1 → u = s.toSnapEdge →
    ∃ t, exec (.snapCancel true) s = .next t ∧ t.status O.SNAP_STATUS = 1 ∧
      t.snap = { armed := false, gathering := some (u.snapImage 1 0, u.stamp), late := true } ∧
      t.only s (.snap :: .hearth :: flagParts) (keyOf O.SNAP_STATUS :: keyOf O.F0_CNT :: keyOf O.HEARTH_WRAP ::
        flagKeys O.HEARTH_FLAGS)) ∧
  (∀ s : State, s.held = false → s.snap.armed = false → exec .localSnapshot s = .next s) ∧
  (∀ s u : State, s.held = false → s.snap.armed = true → s.snap.gathering = none → s.obj O.SNAP_MODE ≠ 1 → u = s.toSnapEdge →
    ∃ t, exec .localSnapshot s = .next t ∧ t.status O.SNAP_STATUS = 1 ∧
      t.snap = { s.snap with armed := false, gathering := some (u.snapImage 1 0, u.stamp) } ∧
      t.only s (.snap :: .hearth :: flagParts) (keyOf O.SNAP_STATUS :: keyOf O.F0_CNT :: keyOf O.HEARTH_WRAP ::
        flagKeys O.HEARTH_FLAGS)) ∧
  (∀ s u : State, s.held = false → s.snap.armed = true → s.snap.gathering = none → s.obj O.SNAP_MODE = 1 → u = s.toSnapEdge →
    ∃ t, exec .localSnapshot s = .next t ∧ (∀ o ∈ counterObjs, ∀ k ∈ o.subs, t.counterNow o k = 0) ∧
      t.snap = { s.snap with armed := false, gathering := some (u.snapImage 1 0, u.stamp) } ∧
      t.only s (.snap :: .hearth :: flagParts) (keyOf O.SNAP_STATUS :: keyOf O.F0_CNT :: keyOf O.HEARTH_WRAP ::
        flagKeys O.HEARTH_FLAGS ++ counterObjs.flatMap fun o => o.subs.map o.key)) ∧
  (∀ (s u : State) (i : Bytes) (w : Nat), s.held = false → s.snap.armed = true → s.snap.gathering = some (i, w) → u = s.toSnapEdge →
    ofBe ((i.drop 8).take 8) ≠ u.obj O.F0_CNT →
    ∃ t, exec .localSnapshot s = .next t ∧ t.snap = { s.snap with armed := false } ∧
      t.obj O.SNAP_MISSED = (s.count O.SNAP_MISSED).obj O.SNAP_MISSED ∧ bit (t.obj O.OBS_FLAGS) 1 = true ∧
      t.only s (.snap :: .hearth :: flagParts) (keyOf O.SNAP_MISSED :: keyOf O.F0_CNT :: keyOf O.HEARTH_WRAP :: keyOf O.HEARTH_FLAGS ::
        flagKeys O.OBS_FLAGS)) ∧
  (∀ s : State, s.held = false → s.snap.gathering = none → exec .snapComplete s = .next s) ∧
  (∀ (s : State) (i : Bytes) (w : Nat), s.held = false → s.snap.gathering = some (i, w) → s.snap.late = false →
    ∃ t, exec .snapComplete s = .next t ∧ t.snap = { s.snap with gathering := none } ∧ t.blob O.SNAP_DATA = Blob.of i ∧
      t.obj O.SNAP_TIME = w % 2 ^ 64 ∧ t.obj O.SNAP_TAG = octets i 20 4 % 2 ^ 32 ∧
      t.obj O.SNAP_COUNT = (s.obj O.SNAP_COUNT + 1) % 2 ^ 32 ∧ bit (t.obj O.OBS_FLAGS) 0 = true ∧
      t.status O.SNAP_STATUS = (if s.snap.armed = true then 1 else 2) ∧
      t.only s (.snap :: .blobs :: flagParts)
        (keyOf O.SNAP_STATUS :: keyOf O.SNAP_TIME :: keyOf O.SNAP_TAG :: keyOf O.SNAP_COUNT :: flagKeys O.OBS_FLAGS)) ∧
  (∀ (s : State) (i : Bytes) (w : Nat), s.held = false → s.snap.gathering = some (i, w) → s.snap.late = true →
    ∃ t, exec .snapComplete s = .next t ∧ t.snap = { s.snap with gathering := none, late := false } ∧
      t.blob O.SNAP_DATA = Blob.of i ∧ t.status O.SNAP_STATUS = 2 ∧ bit (t.obj O.SNAP_STATUS) 8 = true ∧
      bit (t.obj O.OBS_FLAGS) 2 = true) ∧
  (∀ (s : State) (e : Fin 12) (v : Sample), s.held = false → s.obj O.SAMPLE_PERIOD (e + 1) = 0 ∨ s.engState e ≠ 1 →
    exec (.preciseSample e v) s = .next s) ∧
  (∀ (s : State) (e : Fin 12) (v : Sample), s.held = false → s.obj O.SAMPLE_PERIOD (e + 1) ≠ 0 → s.engState e = 1 →
    s.obj O.SAMPLE_DEST (e + 1) = 0 → (s.eng e).samples.length < 256 →
    ∃ t, exec (.preciseSample e v) s = .next t ∧
      t.eng e = { s.eng e with samples := (s.eng e).samples ++ [s.sampleRecord e v] } ∧
      (∀ d, d ≠ e.val → t.eng d = s.eng d) ∧ t.only s [.engines] []) ∧
  (∀ (s : State) (e : Fin 12) (v : Sample), s.held = false → s.obj O.SAMPLE_PERIOD (e + 1) ≠ 0 → s.engState e = 1 →
    s.obj O.SAMPLE_DEST (e + 1) = 0 → 256 ≤ (s.eng e).samples.length →
    ∃ t, exec (.preciseSample e v) s = .next t ∧
      t.obj O.SAMPLE_LOST (e + 1) = (s.count O.SAMPLE_LOST (e + 1)).obj O.SAMPLE_LOST (e + 1) ∧
      bit (t.obj O.OBS_FLAGS) 3 = true ∧
      t.only s flagParts (keyOf O.SAMPLE_LOST (e + 1) :: flagKeys O.OBS_FLAGS)) ∧
  (∀ (s : State) (e : Fin 12) (v : Sample), s.held = false → s.obj O.SAMPLE_PERIOD (e + 1) ≠ 0 → s.engState e = 1 →
    s.obj O.SAMPLE_DEST (e + 1) = 1 →
    ∃ t, exec (.preciseSample e v) s = .next t ∧ t.lantern = (s.lanternPush 2 (s.sampleRecord e v)).lantern ∧
      t.only s flagParts wakeKeys) ∧
  (∀ (s : State) (e : Fin 12), s.held = false →
    ∃ t, exec (.sampleBufRead e) s = .next t ∧ t.out = .bytes (s.eng e).samples.flatten :: s.out ∧
      t.eng e = { s.eng e with samples := [] } ∧ (∀ d, d ≠ e.val → t.eng d = s.eng d) ∧ t.only s [.engines, .out] []) ∧
  (∀ (s : State) (p : Bytes) (r : List Bytes), s.held = false → s.obj O.LANTERN_EN ≠ 0 → s.power.thermtrip = false →
    s.lantern.lost = 0 → s.lantern.fifo = p :: r →
    ∃ t, exec .lanternSend s = .next t ∧ t.out = .lantern p :: s.out ∧ t.lantern = { s.lantern with fifo := r } ∧
      t.only s [.lantern, .out] []) ∧
  (∀ s : State, s.held = false → s.obj O.LANTERN_EN ≠ 0 → s.power.thermtrip = false → s.lantern.lost ≠ 0 →
    ∃ t, exec .lanternSend s = .next t ∧ t.out = .lantern ([0x0F, 4] ++ beBytes 4 s.lantern.lost ++
        beBytes 1 (crc8 ([0x0F, 4] ++ beBytes 4 s.lantern.lost))) :: s.out ∧
      t.lantern = { s.lantern with lost := 0 } ∧ t.only s [.lantern, .out] []) ∧
  (∀ s : State, s.held = false → s.obj O.LANTERN_EN = 0 ∨ s.power.thermtrip = true ∨ (s.lantern.lost = 0 ∧ s.lantern.fifo = []) →
    exec .lanternSend s = .next s)

/-- The test access port (R500, R501). BYPASS captures 0, IDCODE shifts out 0x24850C27 with bit 0 first, SAMPLE/PRELOAD takes the boundary
register, and EXTEST, EXTEST_PULSE, EXTEST_TRAIN, CLAMP and HIGHZ take effect with RST_N low and act as BYPASS otherwise. The port works
in internal reset too (log entry 10). -/
def Obligations.TestAccessPort : Prop :=
  (∀ s : State, ∃ t, exec .bypass s = .next t ∧ t.jtag = { s.jtag with ir := 0 } ∧ t.out = .jtag [false] :: s.out ∧
    t.only s [.jtag, .out] []) ∧
  (∀ s : State, ∃ t, exec .idcode s = .next t ∧ t.jtag = { s.jtag with ir := 1 } ∧
    t.out = .jtag ((List.range 32).map fun i => (0x24850C27).testBit i) :: s.out ∧ t.only s [.jtag, .out] []) ∧
  (∀ (s : State) (l : List Bool), ∃ t, exec (.samplePreload l) s = .next t ∧ t.jtag = { ir := 2, boundary := l } ∧
    (∃ o : List Bool, o.length = l.length ∧ t.out = .jtag o :: s.out) ∧ t.only s [.jtag, .out, .free] []) ∧
  (∀ s : State, ∀ c ∈ [(Instr.extest true, 3, s.jtag.boundary), (.extestPulse true, 4, s.jtag.boundary),
      (.extestTrain true, 5, s.jtag.boundary), (.clamp true, 6, s.jtag.boundary), (.highz true, 7, [])],
    ∃ t, exec c.1 s = .next t ∧ t.jtag = { s.jtag with ir := c.2.1 } ∧ t.out = .pins c.2.1 c.2.2 :: s.out ∧
      t.only s [.jtag, .out] []) ∧
  (∀ s : State, ∀ c ∈ [Instr.extest false, .extestPulse false, .extestTrain false, .clamp false, .highz false],
    exec c s = exec .bypass s)

/-- IDCODE (R501): the data register gives 0x2485_0C27, bit 0 first, with VERSION 2, PART 0x4850 and MANUFACTURER 0x613. -/
def Obligations.IdcodeNamesThePart : Prop :=
  ∀ s : State, ∃ t, exec .idcode s = .next t ∧ t.out = .jtag ((List.range 32).map fun i => bit 0x24850C27 i) :: s.out ∧
    t.only s [.jtag, .out] [] ∧ bits 0x24850C27 31 28 = 2 ∧ bits 0x24850C27 27 12 = 0x4850 ∧ bits 0x24850C27 11 1 = 0x613 ∧
    bits 0x24850C27 0 0 = 1

/-- Frames enter (R65 to R67, R254, R255, R257 to R260, R262 to R264, R266, R269, R270, R279, R283). A frame without an entry in the header FIFO
of its pipeline is dropped in DROP_OVERRUN; one too short is dropped and counted in DROP_FORMAT, one too long is counted there and is bad from
the limit on; a bad FCS and a tail mark are counted at the ingress; an accepted frame counts in RX_FRAMES and RX_BYTES; one outside its VLAN
is dropped; a FILTER result drops it; a UNICAST result queues one copy, bound to TABLE_COMMIT. The guarantee of 16 cells of a port is used
first. On a native port only what follows a START is a frame: its blocks give the octets, and END closes it. -/
def Obligations.FramesEnter : Prop :=
  (∀ (s : State) (p : Fin 49) (f : Frame), s.held = false → f.fin = .good → (p.val < 48 → s.native p = false) → (p.val = 48 → beAt (f.octets.take 128) 12 2 ≠ 0x88B6) →
    s.fifoRoom (pipelineOf p) (isMgmt (f.octets.take 128)) = false →
    ∃ t, exec (.frameReceive p f) s = .next t ∧ t.obj O.DROP_OVERRUN (p + 1) = (s.count O.DROP_OVERRUN (p + 1)).obj O.DROP_OVERRUN (p + 1) ∧
      t.only s [.lanes] [keyOf O.DROP_OVERRUN (p + 1)]) ∧
  (∀ (s : State) (p : Fin 49) (f : Frame), s.held = false → f.fin = .good → (p.val < 48 → s.native p = false) → (p.val = 48 → beAt (f.octets.take 128) 12 2 ≠ 0x88B6) →
    s.fifoRoom (pipelineOf p) (isMgmt (f.octets.take 128)) = true → f.octets.length < 60 →
    ∃ t, exec (.frameReceive p f) s = .next t ∧ t.obj O.DROP_FORMAT (p + 1) = (s.count O.DROP_FORMAT (p + 1)).obj O.DROP_FORMAT (p + 1) ∧
      t.cellar.frames = s.cellar.frames ∧ t.cellar.copies = s.cellar.copies ∧ t.only s [.lanes, .cellar] [keyOf O.DROP_FORMAT (p + 1)]) ∧
  (∀ (s : State) (p : Fin 49) (f : Frame), s.held = false → (p.val < 48 → s.native p = false) → (p.val = 48 → beAt (f.octets.take 128) 12 2 ≠ 0x88B6) →
    s.fifoRoom (pipelineOf p) (isMgmt (f.octets.take 128)) = true → 60 ≤ f.octets.length →
    ∃ t, exec (.frameReceive p f) s = .next t ∧
      (f.fin = .fcsError → t.obj O.FCS_ERR (p + 1) = (s.count O.FCS_ERR (p + 1)).obj O.FCS_ERR (p + 1)) ∧
      (f.fin = .stomped → t.obj O.STOMPED (p + 1) = (s.count O.STOMPED (p + 1)).obj O.STOMPED (p + 1)) ∧
      t.obj O.RX_FRAMES (p + 1) = (s.count O.RX_FRAMES (p + 1)).obj O.RX_FRAMES (p + 1) ∧
      t.obj O.RX_BYTES (p + 1) = (s.count O.RX_BYTES (p + 1) (min f.octets.length (s.obj O.PORT_MTU (p + 1) - 4) + 4)).obj O.RX_BYTES (p + 1) ∧
      (s.obj O.PORT_MTU (p + 1) - 4 < f.octets.length → t.obj O.DROP_FORMAT (p + 1) = (s.count O.DROP_FORMAT (p + 1)).obj O.DROP_FORMAT (p + 1))) ∧
  (∀ (s : State) (p : Fin 48) (f : Frame), s.held = false → f.fin = .good → s.native p = false → s.fifoRoom (pipelineOf p) (isMgmt (f.octets.take 128)) = true →
    60 ≤ f.octets.length → f.octets.length + 4 ≤ s.obj O.PORT_MTU (p + 1) → isTag (f.octets.take 128) 12 = false →
    s.obj O.PORT_VLAN_FILTER (p + 1) = 1 → bit (s.vlanMember (s.obj O.PORT_PVID (p + 1))) p = false →
    ∃ t, exec (.frameReceive ⟨p, by omega⟩ f) s = .next t ∧ t.obj O.DROP_VLAN (p + 1) = (s.count O.DROP_VLAN (p + 1)).obj O.DROP_VLAN (p + 1) ∧
      t.cellar.frames = s.cellar.frames ∧ t.cellar.copies = s.cellar.copies ∧
      t.only s [.lanes, .cellar] [keyOf O.DROP_VLAN (p + 1), keyOf O.RX_FRAMES (p + 1), keyOf O.RX_BYTES (p + 1)]) ∧
  (∀ (s : State) (p : Fin 48) (f : Frame) (e : Nat), s.held = false → f.fin = .good → s.native p = false → s.fifoRoom (pipelineOf p) (isMgmt (f.octets.take 128)) = true →
    60 ≤ f.octets.length → f.octets.length + 4 ≤ s.obj O.PORT_MTU (p + 1) → isTag (f.octets.take 128) 12 = false → s.obj O.PORT_VLAN_FILTER (p + 1) ≠ 1 →
    s.obj O.PORT_LEARN (p + 1) ≠ 1 → s.obj O.PORT_PTP_MODE (p + 1) = 0 → ptpAt (f.octets.take 128) = none →
    etherType (f.octets.take 128) ≠ 0x88B5 → etherType (f.octets.take 128) ≠ 0x88B6 → etherType (f.octets.take 128) ≠ 0x0800 →
    s.emLookup 0 (s.obj O.PORT_PVID (p + 1) * 2 ^ 48 + beAt (f.octets.take 128) 6 6) = none →
    s.emLookup 0 (s.obj O.PORT_PVID (p + 1) * 2 ^ 48 + beAt (f.octets.take 128) 0 6) = some e →
    bits (emResult (s.em e)) 15 14 = 3 →
    ∃ t, exec (.frameReceive ⟨p, by omega⟩ f) s = .next t ∧ t.obj O.DROP_FILTER (p + 1) = (s.count O.DROP_FILTER (p + 1)).obj O.DROP_FILTER (p + 1) ∧
      t.cellar.frames = s.cellar.frames ∧ t.cellar.copies = s.cellar.copies ∧
      t.only s [.lanes, .cellar] [keyOf O.DROP_FILTER (p + 1), keyOf O.RX_FRAMES (p + 1), keyOf O.RX_BYTES (p + 1)]) ∧
  (∀ (s : State) (p v : Fin 48) (f : Frame) (e q : Nat), s.held = false → f.fin = .good → s.native p = false → s.fifoRoom (pipelineOf p) (isMgmt (f.octets.take 128)) = true →
    60 ≤ f.octets.length → f.octets.length + 4 ≤ s.obj O.PORT_MTU (p + 1) → isTag (f.octets.take 128) 12 = false → s.obj O.PORT_VLAN_FILTER (p + 1) ≠ 1 →
    s.obj O.PORT_LEARN (p + 1) ≠ 1 → s.obj O.PORT_PTP_MODE (p + 1) = 0 → ptpAt (f.octets.take 128) = none →
    etherType (f.octets.take 128) ≠ 0x88B5 → etherType (f.octets.take 128) ≠ 0x88B6 → etherType (f.octets.take 128) ≠ 0x0800 →
    s.emLookup 0 (s.obj O.PORT_PVID (p + 1) * 2 ^ 48 + beAt (f.octets.take 128) 6 6) = none →
    s.emLookup 0 (s.obj O.PORT_PVID (p + 1) * 2 ^ 48 + beAt (f.octets.take 128) 0 6) = some e →
    bits (emResult (s.em e)) 15 14 = 0 → bits (emResult (s.em e)) 11 0 = v → v ≠ p → (s.lport v).up = true →
    q = s.obj O.PORT_DEFAULT_CLASS (p + 1) → bit (s.obj O.CT_ENABLE (v + 1)) q = false →
    s.cellar.copies.length < 262144 → s.losslessIn p q = false → s.govFull = false →
    s.cellsWhere (fun d => d.outPort == v && d.share == .guarantee) < 16 → s.frame s.cellar.nextId = none →
    (∀ d ∈ s.cellar.copies, d.fid ≠ s.cellar.nextId) → cellsOf f.octets.length ≤ s.shareFree .guarantee →
    ∃ t, exec (.frameReceive ⟨p, by omega⟩ f) s = .next t ∧
      (∃ d, t.cellar.copies = s.cellar.copies ++ [d] ∧ d.outPort = v.val ∧ d.cls = q ∧ d.fid = s.cellar.nextId ∧
        d.commit = s.obj O.TABLE_COMMIT ∧ d.share = .guarantee ∧ d.started = false) ∧
      t.frame s.cellar.nextId = some ⟨f.octets, p, q, .guarantee, 1, none⟩ ∧
      t.only s [.lanes, .cellar, .out] [keyOf O.RX_FRAMES (p + 1), keyOf O.RX_BYTES (p + 1)]) ∧
  (∀ (s : State) (p : Fin 48) (f : Frame), s.held = false → s.native p = true → (s.lport p).rxOpen = none → (s.lport p).rxLost = none →
    ∃ t, exec (.frameReceive ⟨p, by omega⟩ f) s = .next t ∧ t.only s [.lanes] []) ∧
  (∀ (s : State) (p : Fin 48) (f : Frame) (key : Nat) (b : Bytes), s.held = false → s.native p = true → (s.lport p).rxOpen = some key →
    rxFrame (portStream (s.rxAct p) f.rounds) [] false 0 = (b, .good) → s.fifoRoom (pipelineOf p) (isMgmt (b.take 128)) = true →
    ∃ t, exec (.frameReceive ⟨p, by omega⟩ f) s = .next t ∧ (t.lport p).rxOpen = none ∧ (t.lport p).rxLost = (s.lport p).rxLost ∧
      (b.length < 60 ∨ s.obj O.PORT_MTU (p + 1) - 4 < b.length → t.obj O.DROP_FORMAT (p + 1) = (s.count O.DROP_FORMAT (p + 1)).obj O.DROP_FORMAT (p + 1)) ∧
      (60 ≤ b.length → t.obj O.RX_FRAMES (p + 1) = (s.count O.RX_FRAMES (p + 1)).obj O.RX_FRAMES (p + 1)) ∧
      (60 ≤ b.length → s.obj O.PORT_MTU (p + 1) - 4 < b.length → 9212 < b.length →
        t.obj O.OVERSIZE (p + 1) = (s.count O.OVERSIZE (p + 1)).obj O.OVERSIZE (p + 1)))

/-- Frames leave (R62 to R65, R67, R265, R274, R277 to R280, R285, R295). At a frame boundary the highest strict class that may send starts its
oldest copy; a busy port, a port that is down and a port with nothing queued start nothing. On a native port a START with class and tag opens
it. A copy that completes is counted and leaves the Cellar, on a native port once its END has left, for which credit may be wanting; one
found bad is marked at its tail; an Ethernet port that runs out of data ends with a mark, a native one sends IDLE, behind which CONT resumes;
a copy that misses a deadline counts in DROP_TIMEOUT. -/
def Obligations.FramesLeave : Prop :=
  (∀ (s : State) (p : Fin 49) (o : Time56), s.held = false →
    (s.sending p).isSome = true ∨ s.portUp p = false ∨ (∀ q < 7, s.queueHead p q = none) → exec (.egressStart p o) s = .next s) ∧
  (∀ (s : State) (p : Fin 49) (o : Time56) (q : Nat) (d : Desc) (f : Stored), s.held = false → s.sending p = none →
    s.portUp p = true → q < 7 → bit (s.obj O.SCHED_STRICT (p + 1)) q = true → s.queueHead p q = some d → s.maySend p q = true →
    (∀ r, q < r → r < 7 → bit (s.obj O.SCHED_STRICT (p + 1)) r = true → s.queueHead p r = none ∨ s.maySend p r = false) →
    s.frame d.fid = some f → (s.edited d f o).length ≤ 9212 → (p.val < 48 → s.native p = false) → d.ptp = false →
    ∃ t, exec (.egressStart p o) s = .next t ∧ t.out = .frame p (s.edited d f o) false :: s.out ∧
      t.cellar.copies = s.cellar.copies.map (fun x => if x = d then { d with started := true, ct := false } else x) ∧
      t.only s [.cellar, .out] []) ∧
  (∀ (s : State) (p : Fin 48) (o : Time56) (q n : Nat) (ns : List Nat) (d : Desc) (f : Stored), s.held = false → s.sending p = none →
    s.portUp p = true → q < 7 → bit (s.obj O.SCHED_STRICT (p + 1)) q = true → s.queueHead p q = some d → s.maySend p q = true →
    (∀ r, q < r → r < 7 → bit (s.obj O.SCHED_STRICT (p + 1)) r = true → s.queueHead p r = none ∨ s.maySend p r = false) →
    s.frame d.fid = some f → (s.edited d f o).length ≤ 9212 → s.native p = true → d.ptp = false →
    s.activeLanes p = n :: ns → (s.lport p).hb = [] → (s.lport p).mgmt = [] →
    ∃ t, exec (.egressStart ⟨p, by omega⟩ o) s = .next t ∧ .frame p (s.edited d f o) false ∈ t.out ∧
      (∃ v, .block p n 0x2D (fld 117 3 d.cls + fld 116 1 0 + fld 104 12 (s.lport p).tag +
        (fld 29 3 (s.lport p).crNext + fld 16 13 (Tab.get (s.lport p).crOut 0 (s.lport p).crNext))) v ∈ t.out) ∧
      (t.lport p).tag = ((s.lport p).tag + 1) % 4096 ∧
      t.cellar.copies = s.cellar.copies.map (fun x => if x = d then { d with started := true, ct := false } else x) ∧
      t.only s [.cellar, .lanes, .lports, .out] []) ∧
  (∀ (s : State) (p : Fin 49), s.held = false → s.sending p = none →
    exec (.egressEnd p) s = .next s ∧ exec (.frameEndDeadline p) s = .next s) ∧
  (∀ (s : State) (p : Fin 49) (d : Desc) (f : Stored), s.held = false → s.sending p = some d → s.frame d.fid = some f →
    d.bad = false → (p.val < 48 → s.native p = false) →
    ∃ t, exec (.egressEnd p) s = .next t ∧ t.cellar.copies = s.cellar.copies.erase d ∧
      t.obj O.TX_FRAMES (p + 1) = (s.count O.TX_FRAMES (p + 1)).obj O.TX_FRAMES (p + 1) ∧
      t.obj O.TX_BYTES (p + 1) = (s.count O.TX_BYTES (p + 1) ((s.edited d f 0).length + 4)).obj O.TX_BYTES (p + 1) ∧
      t.only s (.cellar :: .lports :: .out :: flagParts)
        (keyOf O.TX_FRAMES (p + 1) :: keyOf O.TX_BYTES (p + 1) :: keyOf O.DRAIN_STATE :: flagKeys O.CELLAR_FLAGS)) ∧
  (∀ (s : State) (p : Fin 49) (d : Desc) (f : Stored), s.held = false → s.sending p = some d → s.frame d.fid = some f →
    d.bad = true → (p.val < 48 → s.native p = false) →
    ∃ t, exec (.egressEnd p) s = .next t ∧ t.cellar.copies = s.cellar.copies.erase d ∧
      .frame p [] true ∈ t.out ∧ bit (t.obj O.CELLAR_FLAGS) 3 = true ∧ t.obj O.CT_STOMP (p + 1) = (s.count O.CT_STOMP (p + 1)).obj O.CT_STOMP (p + 1)) ∧
  (∀ (s : State) (p : Fin 48) (d : Desc), s.held = false → s.sending p = some d → s.native p = true →
    ∃ t, exec (.egressEnd ⟨p, by omega⟩) s = .next t ∧
      if (t.lport p).frame = none then t.cellar.copies = s.cellar.copies.erase d ∧ t.obj O.TX_FRAMES (p + 1) = (s.count O.TX_FRAMES (p + 1)).obj O.TX_FRAMES (p + 1)
      else t.cellar.copies = s.cellar.copies ∧ t.obj O.TX_FRAMES (p + 1) = s.obj O.TX_FRAMES (p + 1) ∧
        t.only s [.lanes, .lports, .out] []) ∧
  (∀ (s : State) (p : Fin 48), s.held = false → s.sending p = none → exec (.ctUnderrun p) s = .next s) ∧
  (∀ (s : State) (p : Fin 48) (d : Desc), s.held = false → s.sending p = some d → d.ct = false →
    exec (.ctUnderrun p) s = .next s) ∧
  (∀ (s : State) (p : Fin 48) (d : Desc), s.held = false → s.sending p = some d → d.ct = true → s.native p = true →
    s.activeLanes p ≠ [] →
    ∃ t, exec (.ctUnderrun p) s = .next t ∧ (∀ n ∈ s.activeLanes p, ∃ w v, .block p n 0x1E w v ∈ t.out) ∧
      (t.lport p).interrupted = (s.lport p).frame.any (·.start.isNone) ∧
      (∀ q, q ≠ p.val → t.lport q = s.lport q) ∧ t.only s [.lanes, .lports, .out] []) ∧
  (∀ (s : State) (p : Fin 48) (d : Desc), s.held = false → s.sending p = some d → d.ct = true → s.native p = false →
    ∃ t, exec (.ctUnderrun p) s = .next t ∧ t.cellar.copies = s.cellar.copies.erase d ∧
      t.obj O.CT_UNDERRUN (p + 1) = (s.count O.CT_UNDERRUN (p + 1)).obj O.CT_UNDERRUN (p + 1) ∧
      t.obj O.CT_STOMP (p + 1) = (s.count O.CT_STOMP (p + 1)).obj O.CT_STOMP (p + 1) ∧
      bit (t.obj O.CELLAR_FLAGS) 3 = true ∧
      t.only s (.cellar :: .lports :: .out :: flagParts) (keyOf O.TX_FRAMES (p + 1) :: keyOf O.TX_BYTES (p + 1) ::
        keyOf O.CT_UNDERRUN (p + 1) :: keyOf O.CT_STOMP (p + 1) :: keyOf O.DRAIN_STATE :: flagKeys O.CELLAR_FLAGS)) ∧
  (∀ (s : State) (p : Fin 49) (q : Fin 7), s.held = false → s.queueHead p q = none →
    exec (.frameStartDeadline p q) s = .next s) ∧
  (∀ (s : State) (p : Fin 49) (q : Fin 7) (d : Desc), s.held = false → s.queueHead p q = some d →
    ∃ t, exec (.frameStartDeadline p q) s = .next t ∧ t.cellar.copies = s.cellar.copies.erase d ∧
      t.obj O.DROP_TIMEOUT (p + 1) = (s.count O.DROP_TIMEOUT (p + 1)).obj O.DROP_TIMEOUT (p + 1) ∧
      bit (t.obj O.CELLAR_FLAGS) 2 = true ∧
      t.only s (.cellar :: .lports :: .out :: flagParts)
        (keyOf O.DROP_TIMEOUT (p + 1) :: keyOf O.DRAIN_STATE :: flagKeys O.CELLAR_FLAGS)) ∧
  (∀ (s : State) (p : Fin 49) (d : Desc), s.held = false → s.sending p = some d →
    ∃ t, exec (.frameEndDeadline p) s = .next t ∧ t.cellar.copies = s.cellar.copies.erase d ∧
      t.obj O.DROP_TIMEOUT (p + 1) = (s.count O.DROP_TIMEOUT (p + 1)).obj O.DROP_TIMEOUT (p + 1) ∧
      t.obj O.CT_STOMP (p + 1) = (s.count O.CT_STOMP (p + 1)).obj O.CT_STOMP (p + 1) ∧
      bit (t.obj O.CELLAR_FLAGS) 2 = true ∧ bit (t.obj O.CELLAR_FLAGS) 3 = true)

/-- Pauses and the drain fence (R264, R265, R272, R273). A pause frame is repeated while the count stays above PFC_XON; a received one stops the
priorities with quanta and frees those with quanta 0, on Ethernet ports; a pause time that runs out frees its priorities; DRAIN_FENCE is PENDING
while a descriptor with an earlier COMMIT remains, and DONE at once with none. -/
def Obligations.PausesAndFence : Prop :=
  (∀ (s : State) (p : Fin 48) (q : Fin 7), s.held = false → bit (Tab.get s.cellar.xoff 0 p) q = true →
    s.obj O.PFC_XON (p + 1) < s.heldCells p q ∨ s.govHolds q = true →
    ∃ t, exec (.pfcRefresh p q) s = .next t ∧
      t.out = .frame p (pfcFrame (s.obj O.MAC_ACT) (s.pfcPriorities p q) 0xFFFF) false :: s.out ∧ t.only s [.out] []) ∧
  (∀ (s : State) (p : Fin 48) (q : Fin 7), s.held = false →
    bit (Tab.get s.cellar.xoff 0 p) q = false ∨ (s.heldCells p q ≤ s.obj O.PFC_XON (p + 1) ∧ s.govHolds q = false) →
    exec (.pfcRefresh p q) s = .next s) ∧
  (∀ (s : State) (p : Fin 48) (e : BitVec 8) (v : BitVec 128), s.held = false → s.native p = true →
    exec (.pfcReceive p e v) s = .next s) ∧
  (∀ (s : State) (p : Fin 48) (e : BitVec 8) (v : BitVec 128), s.held = false → s.native p = false →
    ∃ t, exec (.pfcReceive p e v) s = .next t ∧
      (∀ k < 8, bit (Tab.get t.cellar.paused 0 p) k = if e.getLsbD k then
        decide (bits v.toNat (127 - 16 * k) (112 - 16 * k) ≠ 0) else bit (Tab.get s.cellar.paused 0 p) k) ∧
      (∀ r, r ≠ p.val → Tab.get t.cellar.paused 0 r = Tab.get s.cellar.paused 0 r) ∧
      t.cellar.copies = s.cellar.copies ∧ t.only s [.cellar] []) ∧
  (∀ (s : State) (p : Fin 48) (m : BitVec 8), s.held = false →
    ∃ t, exec (.pfcPauseExpiry p m) s = .next t ∧
      (∀ k < 8, bit (Tab.get t.cellar.paused 0 p) k = (bit (Tab.get s.cellar.paused 0 p) k && !m.getLsbD k)) ∧
      (∀ r, r ≠ p.val → Tab.get t.cellar.paused 0 r = Tab.get s.cellar.paused 0 r) ∧
      t.cellar.copies = s.cellar.copies ∧ t.only s [.cellar] []) ∧
  (∀ (s : State) (v : BitVec 32), s.held = false → s.fenceOk v.toNat = false → exec (.drainFenceWrite v) s = .next s) ∧
  (∀ (s : State) (v : BitVec 32), s.held = false → s.fenceOk v.toNat = true →
    (∃ d ∈ s.cellar.copies, commitBefore d.commit v.toNat = true) →
    ∃ t, exec (.drainFenceWrite v) s = .next t ∧ t.cellar = { s.cellar with fence := v.toNat } ∧ t.obj O.DRAIN_STATE = 1 ∧
      t.only s [.cellar] [keyOf O.DRAIN_STATE]) ∧
  (∀ (s : State) (v : BitVec 32), s.held = false → s.fenceOk v.toNat = true →
    (∀ d ∈ s.cellar.copies, commitBefore d.commit v.toNat = false) →
    ∃ t, exec (.drainFenceWrite v) s = .next t ∧ t.cellar = { s.cellar with fence := v.toNat } ∧ t.obj O.DRAIN_STATE = 2 ∧
      t.obj O.CELLAR_FLAGS = (s.obj O.CELLAR_FLAGS ||| 128) % 2 ^ 32 ∧
      t.only s (.cellar :: flagParts) (keyOf O.DRAIN_STATE :: flagKeys O.CELLAR_FLAGS))

/-- CARAVAN_CMD and the schedule cycle (R296, R303 to R306, R312, R324, R443). LOAD begins a check; the check refuses with its reason, is LATE, or
waits for its cycle; at that cycle every shadow table and the sinks become active at once and the bay is emptied; CANCEL ends a BUSY load, and loses
to the swap; REARM re-establishes every entry at the next cycle start, which counts the cycle and empties the local mailboxes. -/
def Obligations.CaravanTablesSwap : Prop :=
  (∀ s : State, s.held = false → s.status O.CARAVAN_STATUS = 1 →
    exec .caravanLoad s = .next s ∧ exec .rearm s = .next s) ∧
  (∀ s : State, s.held = false → s.status O.CARAVAN_STATUS ≠ 1 →
    ∃ t, exec .caravanLoad s = .next t ∧ t.status O.CARAVAN_STATUS 0 = 1 ∧ t.caravan = { s.caravan with checking := true } ∧
      t.only s [.caravan] [keyOf O.CARAVAN_STATUS]) ∧
  (∀ s : State, s.held = false → s.status O.CARAVAN_STATUS ≠ 1 →
    ∃ t, exec .rearm s = .next t ∧ t.status O.CARAVAN_STATUS 0 = 1 ∧ t.caravan = { s.caravan with rearm := true } ∧
      t.only s [.caravan] [keyOf O.CARAVAN_STATUS]) ∧
  (∀ s : State, s.held = false → s.caravan.checking = false → exec .caravanCheckDone s = .next s) ∧
  (∀ s : State, s.held = false → s.caravan.checking = true → s.caravanCheck ≠ 0 →
    ∃ t, exec .caravanCheckDone s = .next t ∧ t.caravan = { s.caravan with checking := false } ∧
      t.status O.CARAVAN_STATUS 0 = 4 ∧ bits (t.obj O.CARAVAN_STATUS 0) 15 12 = s.caravanCheck % 16 ∧
      t.only s [.caravan] [keyOf O.CARAVAN_STATUS]) ∧
  (∀ s : State, s.held = false → s.caravan.checking = true → s.caravanCheck = 0 →
    (2 ^ 24 + s.obj O.CARAVAN_LOAD_AT - s.obj O.CARAVAN_CYCLE_NUM) % 2 ^ 24 = 0 ∨
      2 ^ 23 < (2 ^ 24 + s.obj O.CARAVAN_LOAD_AT - s.obj O.CARAVAN_CYCLE_NUM) % 2 ^ 24 →
    ∃ t, exec .caravanCheckDone s = .next t ∧ t.caravan = { s.caravan with checking := false } ∧
      t.status O.CARAVAN_STATUS 0 = 6 ∧ t.only s [.caravan] [keyOf O.CARAVAN_STATUS]) ∧
  (∀ s : State, s.held = false → s.caravan.checking = true → s.caravanCheck = 0 →
    (2 ^ 24 + s.obj O.CARAVAN_LOAD_AT - s.obj O.CARAVAN_CYCLE_NUM) % 2 ^ 24 ≠ 0 →
    (2 ^ 24 + s.obj O.CARAVAN_LOAD_AT - s.obj O.CARAVAN_CYCLE_NUM) % 2 ^ 24 ≤ 2 ^ 23 →
    ∃ t, exec .caravanCheckDone s = .next t ∧ t.caravan = { s.caravan with checking := false, waiting := true } ∧
      t.only s [.caravan] []) ∧
  (∀ s : State, s.held = false → s.caravan.waiting = false → exec .caravanSwap s = .next s) ∧
  (∀ s : State, s.held = false → s.caravan.waiting = true →
    ∃ t, exec .caravanSwap s = .next t ∧ t.status O.CARAVAN_STATUS 0 = 2 ∧
      (∀ p < 48, t.blob O.CARAVAN_ACTIVE (p + 1) = s.blob O.CARAVAN_SHADOW (p + 1)) ∧
      t.blob O.CARAVAN_SINK = s.blob O.CARAVAN_SINK_SHADOW ∧ t.caravan.bay = [] ∧ t.caravan.waiting = false ∧
      t.caravan.swapCycle = some (s.obj O.CARAVAN_LOAD_AT) ∧ bit (t.obj O.CARAVAN_FLAGS) 4 = true ∧
      t.only s (.caravan :: .blobs :: flagParts)
        (keyOf O.CARAVAN_STATUS :: flagKeys O.CARAVAN_FLAGS ++ allOf [O.CARAVAN_DISCARD])) ∧
  (∀ (s : State) (c : Bool), s.held = false →
    s.status O.CARAVAN_STATUS ≠ 1 ∨ (s.caravan.waiting = false ∧ s.caravan.checking = false) →
    ∃ t, exec (.caravanCancel c) s = .next t ∧ t.status O.CARAVAN_STATUS 0 = 4 ∧ t.only s [] [keyOf O.CARAVAN_STATUS]) ∧
  (∀ (s : State) (c : Bool), s.held = false → s.status O.CARAVAN_STATUS = 1 →
    s.caravan.waiting = true ∨ s.caravan.checking = true → c = false ∨ s.caravan.waiting = false →
    ∃ t, exec (.caravanCancel c) s = .next t ∧ t.status O.CARAVAN_STATUS 0 = 3 ∧
      t.caravan = { s.caravan with waiting := false, checking := false } ∧ t.only s [.caravan] [keyOf O.CARAVAN_STATUS]) ∧
  (∀ s : State, s.held = false → s.status O.CARAVAN_STATUS = 1 → s.caravan.waiting = true →
    ∃ t, exec (.caravanCancel true) s = .next t ∧ t.status O.CARAVAN_STATUS 0 = 2 ∧
      bit (t.obj O.CARAVAN_STATUS 0) 8 = true ∧ bit (t.obj O.CARAVAN_FLAGS) 3 = true ∧
      ∀ p < 48, t.blob O.CARAVAN_ACTIVE (p + 1) = s.blob O.CARAVAN_SHADOW (p + 1)) ∧
  (∀ s : State, s.held = false →
    ∃ t, exec .scheduleCycleStart s = .next t ∧ t.caravan.cycleF0 = s.nextCycleF0 ∧ t.caravan.began = true ∧
      t.caravan.rearm = false ∧ t.caravan.cycleAt = t.now ∧
      ∀ m < 64, t.lmbox m = if (s.lmbox m).full = true
        then { s.lmbox m with full := false, mark := (s.lmbox m).mark || !(s.lmbox m).taken, taken := false } else s.lmbox m) ∧
  (∀ s : State, s.held = false → s.hearth.running = false → s.caravan.rearm = false → s.caravan.initial = false →
    ∃ t, exec .scheduleCycleStart s = .next t ∧
      t.obj O.CARAVAN_CYCLE_NUM = s.nextCycleF0 / max 1 s.cycleLen % 2 ^ 24 ∧ t.obj O.F0_CNT = s.nextCycleF0 % 2 ^ 64 ∧
      t.only s (.caravan :: flagParts) (keyOf O.CARAVAN_CYCLE_NUM :: keyOf O.F0_CNT :: wakeKeys))

/-- Caravan cells and mailboxes (R71, R77, R97, R306 to R315, R317, R318, R321, R443). A cell with an erased block is dropped; without CPLL lock a
received cell is dropped and counted; so is one that was in progress when the receive width changed, and one whose CRC fails, and one that no
entry and no sink names counts as unmapped; an entry's read point takes the cell held for it; at its ROUND the cell is sent, its CARAVAN block
with header, SLOT and PCRC first and its 64 octets behind, or the slot counts as empty; an entry of the bay is freed, and counted if unread;
a local mailbox takes one cell at a time, a sink mailbox is released. -/
def Obligations.CaravanCellsPass : Prop :=
  (∀ (s : State) (p : Fin 48) (b : Body) (d : CellBlocks) (a : Arrival), s.held = false → s.native p = false →
    exec (.caravanCellReceive p b d a) s = .next s) ∧
  (∀ (s : State) (p : Fin 48) (b : Body) (d : CellBlocks) (a : Arrival), s.held = false → s.native p = true → cellOctets d = none →
    ∃ t, exec (.caravanCellReceive p b d a) s = .next t ∧ t.only s [.lanes, .lports] []) ∧
  (∀ (s : State) (p : Fin 48) (b : Body) (d : CellBlocks) (a : Arrival) (x : Nat), s.held = false → s.native p = true → cellOctets d = some x →
    s.cpllLocked = false →
    ∃ t, exec (.caravanCellReceive p b d a) s = .next t ∧
      t.obj O.CARAVAN_DROP_CLK (p + 1) = (s.count O.CARAVAN_DROP_CLK (p + 1)).obj O.CARAVAN_DROP_CLK (p + 1) ∧
      t.only s [.lanes, .lports] [keyOf O.CARAVAN_DROP_CLK (p + 1)]) ∧
  (∀ (s : State) (p : Fin 48) (b : Body) (d : CellBlocks) (a : Arrival) (x : Nat), s.held = false → s.native p = true → cellOctets d = some x →
    s.cpllLocked = true → s.cellSplit p a.tw = true →
    ∃ t, exec (.caravanCellReceive p b d a) s = .next t ∧
      t.obj O.CARAVAN_WIDTH_DROP (p + 1) = (s.count O.CARAVAN_WIDTH_DROP (p + 1)).obj O.CARAVAN_WIDTH_DROP (p + 1) ∧
      t.only s [.lanes, .lports] [keyOf O.CARAVAN_WIDTH_DROP (p + 1)]) ∧
  (∀ (s : State) (p : Fin 48) (b : Body) (d : CellBlocks) (a : Arrival) (x : Nat), s.held = false → s.native p = true → cellOctets d = some x →
    s.cpllLocked = true → s.cellSplit p a.tw = false → crc16 (beBytes 64 x) ≠ blk b 31 16 →
    ∃ t, exec (.caravanCellReceive p b d a) s = .next t ∧
      t.obj O.CARAVAN_CRC (p + 1) = (s.count O.CARAVAN_CRC (p + 1)).obj O.CARAVAN_CRC (p + 1) ∧
      t.only s [.lanes, .lports] [keyOf O.CARAVAN_CRC (p + 1)]) ∧
  (∀ (s : State) (p : Fin 48) (b : Body) (d : CellBlocks) (a : Arrival) (x : Nat), s.held = false → s.native p = true → cellOctets d = some x →
    s.cpllLocked = true → s.cellSplit p a.tw = false → crc16 (beBytes 64 x) = blk b 31 16 →
    bits (blk b 119 56) 63 62 = 3 ∨ (s.entriesOf p (blk b 55 44) = [] ∧ s.sinksOf p (blk b 55 44) = []) →
    ∃ t, exec (.caravanCellReceive p b d a) s = .next t ∧
      t.obj O.CARAVAN_RX_CELLS (p + 1) = (s.count O.CARAVAN_RX_CELLS (p + 1)).obj O.CARAVAN_RX_CELLS (p + 1) ∧
      t.obj O.CARAVAN_UNMAPPED (p + 1) = (s.count O.CARAVAN_UNMAPPED (p + 1)).obj O.CARAVAN_UNMAPPED (p + 1) ∧
      t.only s [.lanes, .lports] [keyOf O.CARAVAN_RX_CELLS (p + 1), keyOf O.CARAVAN_UNMAPPED (p + 1)]) ∧
  (∀ (s : State) (p : Fin 48) (b : Body) (d : CellBlocks) (a : Arrival) (x k : Nat), s.held = false → s.native p = true → cellOctets d = some x →
    s.cpllLocked = true → s.cellSplit p a.tw = false → crc16 (beBytes 64 x) = blk b 31 16 → bits (blk b 119 56) 63 62 ≠ 3 →
    s.entriesOf p (blk b 55 44) = [] → s.sinksOf p (blk b 55 44) = [k] →
    s.crossedSwap (s.sendCycle (bits (blk b 119 56) 61 50)) = false → s.sinkReady = true →
    ∃ t, exec (.caravanCellReceive p b d a) s = .next t ∧ (t.smbox k).payload = x ∧
      (t.smbox k).user = blk b 119 56 ∧ (t.smbox k).full = true ∧
      (t.smbox k).mark = ((s.smbox k).mark || (s.smbox k).full) ∧ (∀ j, j ≠ k → t.smbox j = s.smbox j) ∧
      t.caravan.bay = s.caravan.bay ∧ t.only s [.lanes, .lports, .caravan] [keyOf O.CARAVAN_RX_CELLS (p + 1)]) ∧
  (∀ (s : State) (p : Fin 48) (w : BitVec 12), s.held = false →
    s.cpllLocked = false ∨ (s.plan p).find? (fun e => e.slot == w.toNat) = none → exec (.caravanReadPoint p w) s = .next s) ∧
  (∀ (s : State) (p : Fin 48) (w : BitVec 12) (e : SchedEntry), s.held = false → s.cpllLocked = true →
    (s.plan p).find? (fun e => e.slot == w.toNat) = some e → e.srcPort = srcLocal → 4 ≤ e.round → (s.lmbox e.srcSlot).full = true →
    ∃ t, exec (.caravanReadPoint p w) s = .next t ∧ t.lmbox e.srcSlot = { s.lmbox e.srcSlot with taken := true } ∧
      Tab.get t.caravan.taken none (4096 * p + w.toNat) = some ⟨s.obj O.DEVICE_ID % 2 ^ 17 * 2 ^ 33 +
        s.obj O.CARAVAN_CYCLE_NUM * 256 + (s.lmbox e.srcSlot).user % 256, (s.lmbox e.srcSlot).payload,
        s.obj O.CARAVAN_CYCLE_NUM, none⟩ ∧
      t.caravan.bay = s.caravan.bay ∧ t.only s [.caravan] []) ∧
  (∀ (s : State) (p : Fin 48) (w : BitVec 12) (l : Fin 3) (x : Taken) (n : Nat) (ns : List Nat), s.held = false →
    s.cpllLocked = true → Tab.get s.caravan.taken none (4096 * p + w.toNat) = some x → x.src = none → s.activeLanes p = n :: ns →
    ∃ t, exec (.caravanSlot p w l) s = .next t ∧ Tab.get t.caravan.taken none (4096 * p + w.toNat) = none ∧
      (∃ v, .block p n 0x78 (fld 56 64 (l.val % 4 * 2 ^ 62 + x.cycle % 4096 * 2 ^ 50 + x.hdr % 2 ^ 50) + fld 44 12 w.toNat +
        fld 16 16 (crc16 (beBytes 64 x.payload))) v ∈ t.out) ∧
      (∀ i < 4, ∃ m v, .data p m (bits x.payload (128 * i + 127) (128 * i)) v ∈ t.out) ∧
      t.obj O.CARAVAN_TX_CELLS (p + 1) = (s.count O.CARAVAN_TX_CELLS (p + 1)).obj O.CARAVAN_TX_CELLS (p + 1) ∧
      t.only s [.caravan, .lanes, .lports, .out] [keyOf O.CARAVAN_TX_CELLS (p + 1)]) ∧
  (∀ (s : State) (p : Fin 48) (w : BitVec 12) (l : Fin 3) (e : SchedEntry), s.held = false → s.cpllLocked = true →
    Tab.get s.caravan.taken none (4096 * p + w.toNat) = none → (s.plan p).find? (fun e => e.slot == w.toNat) = some e →
    ∃ t, exec (.caravanSlot p w l) s = .next t ∧
      t.obj O.CARAVAN_EMPTY (p + 1) = (s.count O.CARAVAN_EMPTY (p + 1)).obj O.CARAVAN_EMPTY (p + 1) ∧
      t.only s [] [keyOf O.CARAVAN_EMPTY (p + 1)]) ∧
  (∀ (s : State) (p : Fin 48) (w : BitVec 12), s.held = false →
    (∀ c ∈ s.caravan.bay, c.srcPort = p.val → c.srcSlot = w.toNat → c.read = true) →
    ∃ t, exec (.bayEntryFree p w) s = .next t ∧
      t.caravan = { s.caravan with bay := s.caravan.bay.filter fun c => !(c.srcPort == p.val && c.srcSlot == w.toNat) } ∧
      t.only s [.caravan] []) ∧
  (∀ (s : State) (p : Fin 48) (w : BitVec 12) (c : BayCell), s.held = false →
    (s.caravan.bay.filter fun c => c.srcPort == p.val && c.srcSlot == w.toNat) = [c] → c.read = false →
    ∃ t, exec (.bayEntryFree p w) s = .next t ∧
      t.caravan = { s.caravan with bay := s.caravan.bay.filter fun c => !(c.srcPort == p.val && c.srcSlot == w.toNat) } ∧
      t.obj O.CARAVAN_DISCARD (p + 1) = (s.count O.CARAVAN_DISCARD (p + 1)).obj O.CARAVAN_DISCARD (p + 1) ∧
      t.obj O.CARAVAN_FLAGS = (s.obj O.CARAVAN_FLAGS ||| 4) % 2 ^ 32 ∧
      t.only s (.caravan :: flagParts) (keyOf O.CARAVAN_DISCARD (p + 1) :: flagKeys O.CARAVAN_FLAGS)) ∧
  (∀ (s : State) (m : Fin 64) (d : BitVec 512) (u : Byte), s.held = false →
    ∃ t, exec (.lmboxValidWrite m d u) s = .next t ∧ (t.lmbox m = if (s.lmbox m).full = true then s.lmbox m else
        { s.lmbox m with payload := d.toNat, user := u.toNat, full := true, taken := false }) ∧
      (∀ k, k ≠ m.val → t.lmbox k = s.lmbox k) ∧ t.caravan.smbox = s.caravan.smbox ∧ t.only s [.caravan] []) ∧
  (∀ (s : State) (m : Fin 64), s.held = false →
    ∃ t, exec (.smboxRelease m) s = .next t ∧ t.smbox m = { s.smbox m with full := false } ∧
      (∀ k, k ≠ m.val → t.smbox k = s.smbox k) ∧ t.caravan.lmbox = s.caravan.lmbox ∧ t.only s [.caravan] [])

/-- The table operations (R334, R336, R337, R340, R345 to R354). A ring with nothing to perform, or whose next operation is another, changes nothing. Every
operation completes its descriptor with its status and TABLE_COMMIT and advances the tail. LOOKUP returns the entry; INSERT places it in a free slot of
its first bucket; UPDATE replaces its RESULT; DELETE and DEL_IF_CLEAR remove it; LOCK and UNLOCK work on a bucket's lock; the TCAM operations work on one
row; an unknown operation gives BAD_OP. -/
def Obligations.TableDmaWorks : Prop :=
  (∀ (s : State) (r : Fin 4), s.held = false →
    ∀ c ∈ [(Instr.lookup r, 1), (.insert r, 2), (.update r, 3), (.delete r, 4), (.delIfClear r, 5), (.readBucket r, 6),
        (.lock r, 7), (.unlock r, 8), (.fence r, 9), (.tcamWrite r, 0x10), (.tcamRead r, 0x11), (.tcamClear r, 0x12)],
      (s.dmaReady r = false ∨ bits (s.dmaWord r 0) 23 16 ≠ c.2 → exec c.1 s = .next s) ∧
      (s.dmaReady r = true → bits (s.dmaWord r 0) 23 16 = c.2 →
        ∃ t st, exec c.1 s = .next t ∧ t.dmaDone s r st ∧
          t.only s (.tables :: dmaParts) (keyOf O.TDMA_TAIL (r + 1) :: keyOf O.TABLE_COMMIT :: flagKeys O.TABLE_FLAGS))) ∧
  (∀ (s : State) (r : Fin 4), s.held = false → s.dmaReady r = false ∨ bits (s.dmaWord r 0) 23 16 ∈ dmaOps →
    exec (.unknownOp r) s = .next s) ∧
  (∀ (s : State) (r : Fin 4) (op : Nat), s.dmaDue r op → op ∉ dmaOps →
    ∃ t, exec (.unknownOp r) s = .next t ∧ t.dmaDone s r 0x0C ∧
      t.only s dmaParts (keyOf O.TDMA_TAIL (r + 1) :: wakeKeys)) ∧
  (∀ (s : State) (r : Fin 4), s.dmaDue r 1 → keyOk (s.dmaImage r) = true →
    s.emFind (emType (s.dmaImage r)) (emKey (s.dmaImage r)) = none →
    ∃ t, exec (.lookup r) s = .next t ∧ t.dmaDone s r 2 ∧ t.only s dmaParts (keyOf O.TDMA_TAIL (r + 1) :: wakeKeys)) ∧
  (∀ (s : State) (r : Fin 4) (l : Nat), s.dmaDue r 1 → keyOk (s.dmaImage r) = true →
    s.emFind (emType (s.dmaImage r)) (emKey (s.dmaImage r)) = some l → bit (s.dmaWord r 0) 29 = false →
    s.tables.emBad.contains l = false →
    ∃ t, exec (.lookup r) s = .next t ∧ t.dmaDone s r 1 ∧
      ofLe (t.pantryRead (s.dmaAddr r + 16) 16) = emImage (s.em l) % 2 ^ 128 ∧
      ofLe (t.pantryRead (s.dmaAddr r + 4) 4) = locW1 l ∧ t.only s dmaParts (keyOf O.TDMA_TAIL (r + 1) :: wakeKeys)) ∧
  (∀ (s : State) (r : Fin 4) (l : Nat), s.dmaDue r 2 → imageOk (s.dmaImage r) = true → bit (s.dmaWord r 0) 29 = false →
    s.emFind (emType (s.dmaImage r)) (emKey (s.dmaImage r)) = none →
    s.mayWrite r (s.bucketOf s.placeSet 0 (emType (s.dmaImage r)) (emKey (s.dmaImage r))) = true →
    s.freeSlot 0 (s.bucketOf s.placeSet 0 (emType (s.dmaImage r)) (emKey (s.dmaImage r))) = some l →
    ∃ t, exec (.insert r) s = .next t ∧ t.dmaDone s r 1 ∧ t.em l = withGen (imageEntry (s.dmaImage r)) s.placeSet ∧
      (∀ k, k ≠ l → t.em k = s.em k) ∧ t.obj O.TABLE_COMMIT = (s.obj O.TABLE_COMMIT + 1) % 2 ^ 32) ∧
  (∀ (s : State) (r : Fin 4) (l : Nat), s.dmaDue r 2 → imageOk (s.dmaImage r) = true → bit (s.dmaWord r 0) 29 = false →
    s.emFind (emType (s.dmaImage r)) (emKey (s.dmaImage r)) = some l → s.tables.emBad.contains l = false →
    ∃ t, exec (.insert r) s = .next t ∧ t.dmaDone s r 3 ∧ t.only s dmaParts (keyOf O.TDMA_TAIL (r + 1) :: wakeKeys)) ∧
  (∀ (s : State) (r : Fin 4) (l : Nat), s.dmaDue r 3 → imageOk (s.dmaImage r) = true →
    s.emFind (emType (s.dmaImage r)) (emKey (s.dmaImage r)) = some l → s.locTest r l (bit (s.dmaWord r 0) 29) true = 0 →
    s.tables.emBad.contains l = false →
    ∃ t, exec (.update r) s = .next t ∧ t.dmaDone s r 1 ∧ emResult (t.em l) = emResult (s.dmaImage r) ∧
      emKey (t.em l) = emKey (s.em l) ∧ bit (t.em l) 126 = bit (s.em l) 126 ∧
      bit (t.em l) 125 = bit (s.dmaImage r) 125 ∧ bit (t.em l) 124 = false ∧ (∀ k, k ≠ l → t.em k = s.em k) ∧
      t.obj O.TABLE_COMMIT = (s.obj O.TABLE_COMMIT + 1) % 2 ^ 32) ∧
  (∀ (s : State) (r : Fin 4) (l : Nat), s.held = false → s.dmaReady r = true →
    bits (s.dmaWord r 0) 23 16 = 4 ∨ (bits (s.dmaWord r 0) 23 16 = 5 ∧ bit (s.em l) 126 = false) → keyOk (s.dmaImage r) = true →
    s.emFind (emType (s.dmaImage r)) (emKey (s.dmaImage r)) = some l → s.locTest r l (bit (s.dmaWord r 0) 29) true = 0 →
    s.tables.emBad.contains l = false → (∀ q ∈ stashLocs, bit (s.em q) 127 = false) →
    ∃ t, exec (if bits (s.dmaWord r 0) 23 16 = 4 then .delete r else .delIfClear r) s = .next t ∧ t.dmaDone s r 1 ∧
      t.em l = 0 ∧ (∀ k, k ≠ l → t.em k = s.em k) ∧ t.obj O.TABLE_COMMIT = (s.obj O.TABLE_COMMIT + 1) % 2 ^ 32) ∧
  (∀ (s : State) (r : Fin 4) (l : Nat), s.dmaDue r 5 → keyOk (s.dmaImage r) = true →
    s.emFind (emType (s.dmaImage r)) (emKey (s.dmaImage r)) = some l → s.locTest r l (bit (s.dmaWord r 0) 29) true = 0 →
    s.tables.emBad.contains l = false → bit (s.em l) 126 = true →
    ∃ t, exec (.delIfClear r) s = .next t ∧ t.dmaDone s r 5 ∧
      t.only s dmaParts (keyOf O.TDMA_TAIL (r + 1) :: wakeKeys)) ∧
  (∀ (s : State) (r : Fin 4), s.dmaDue r 6 → bits (s.dmaWord r 1) 17 16 < 3 → w1Ok (s.dmaWord r 1) = true →
    bufOk (s.dmaWord r 2) 64 = true → s.dmaWord r 2 + 64 ≤ s.dmaAddr r ∨ s.dmaAddr r + 32 ≤ s.dmaWord r 2 →
    bit (s.dmaWord r 0) 29 = false → bit (s.dmaWord r 0) 28 = false →
    (∀ l ∈ slotsOf (bits (s.dmaWord r 1) 17 16) (bits (s.dmaWord r 1) 14 0), s.tables.emBad.contains l = false) →
    ∃ t, exec (.readBucket r) s = .next t ∧ t.dmaDone s r 1 ∧
      t.pantryRead (s.dmaWord r 2) 64 = (slotsOf (bits (s.dmaWord r 1) 17 16) (bits (s.dmaWord r 1) 14 0)).flatMap
        (fun l => leBytes 16 (emImage (s.em l))) ∧
      t.only s dmaParts (keyOf O.TDMA_TAIL (r + 1) :: wakeKeys)) ∧
  (∀ (s : State) (r : Fin 4) (b : Nat), s.dmaDue r 7 → w1Bucket (s.dmaWord r 1) = some b → s.lockOf b = none →
    s.locksOf r < 16 →
    ∃ t, exec (.lock r) s = .next t ∧ t.dmaDone s r 1 ∧ t.lockOf b = some r.val ∧
      (∀ c, c ≠ b → t.lockOf c = s.lockOf c) ∧
      t.only s (.tables :: dmaParts) (keyOf O.TDMA_TAIL (r + 1) :: wakeKeys)) ∧
  (∀ (s : State) (r : Fin 4) (b q : Nat), s.dmaDue r 7 → w1Bucket (s.dmaWord r 1) = some b → s.lockOf b = some q → q ≠ r →
    ∃ t, exec (.lock r) s = .next t ∧ t.dmaDone s r 6 ∧ t.tables.locks = s.tables.locks ∧
      t.only s (.tables :: dmaParts) (keyOf O.TDMA_TAIL (r + 1) :: wakeKeys)) ∧
  (∀ (s : State) (r : Fin 4) (b : Nat), s.dmaDue r 8 → w1Bucket (s.dmaWord r 1) = some b →
    s.tables.expired.contains (r.val, b) = false → s.lockOf b = some r.val →
    ∃ t, exec (.unlock r) s = .next t ∧ t.dmaDone s r 1 ∧ t.lockOf b = none ∧
      (∀ c, c ≠ b → t.lockOf c = s.lockOf c) ∧
      t.only s (.tables :: dmaParts) (keyOf O.TDMA_TAIL (r + 1) :: wakeKeys)) ∧
  (∀ (s : State) (r : Fin 4) (b : Nat), s.dmaDue r 8 → w1Bucket (s.dmaWord r 1) = some b →
    s.tables.expired.contains (r.val, b) = false → s.lockOf b ≠ some r.val →
    ∃ t, exec (.unlock r) s = .next t ∧ t.dmaDone s r 8 ∧ t.only s dmaParts (keyOf O.TDMA_TAIL (r + 1) :: wakeKeys)) ∧
  (∀ (s : State) (r : Fin 4), s.dmaDue r 9 →
    ∃ t, exec (.fence r) s = .next t ∧ t.dmaDone s r 1 ∧ t.only s dmaParts (keyOf O.TDMA_TAIL (r + 1) :: wakeKeys)) ∧
  (∀ (s : State) (r : Fin 4) (v m x : Nat), s.dmaDue r 0x10 → bits (s.dmaWord r 1) 17 16 = 3 → bit (s.dmaWord r 1) 14 = false →
    bufOk (s.dmaWord r 2) 48 = true → v < 2 ^ 160 → m < 2 ^ 160 → x < 2 ^ 16 →
    s.pantryRead (s.dmaWord r 2) 48 = leBytes 20 v ++ leBytes 20 m ++ leBytes 2 x ++ leBytes 6 1 → tcamOk v m = true →
    resultOk 3 x = true → inZone (s.blob O.TCAM_ZONE).bytes (bits (s.dmaWord r 1) 13 0) (maskLen m) = true →
    ∃ t, exec (.tcamWrite r) s = .next t ∧ t.dmaDone s r 1 ∧ t.tcam (bits (s.dmaWord r 1) 13 0) = ⟨v, m, x, true⟩ ∧
      (∀ i < 16384, i ≠ bits (s.dmaWord r 1) 13 0 → t.tcam i = s.tcam i) ∧
      t.obj O.TABLE_COMMIT = (s.obj O.TABLE_COMMIT + 1) % 2 ^ 32) ∧
  (∀ (s : State) (r : Fin 4), s.dmaDue r 0x11 → bits (s.dmaWord r 1) 17 16 = 3 → bit (s.dmaWord r 1) 14 = false →
    bufOk (s.dmaWord r 2) 48 = true → s.dmaWord r 2 + 48 ≤ s.dmaAddr r ∨ s.dmaAddr r + 32 ≤ s.dmaWord r 2 →
    ∃ t, exec (.tcamRead r) s = .next t ∧ t.dmaDone s r 1 ∧
      t.pantryRead (s.dmaWord r 2) 20 = leBytes 20 (s.tcam (bits (s.dmaWord r 1) 13 0)).value ∧
      t.pantryRead (s.dmaWord r 2 + 20) 20 = leBytes 20 (s.tcam (bits (s.dmaWord r 1) 13 0)).mask ∧
      t.pantryRead (s.dmaWord r 2 + 40) 2 = leBytes 2 (s.tcam (bits (s.dmaWord r 1) 13 0)).result ∧
      t.only s dmaParts (keyOf O.TDMA_TAIL (r + 1) :: wakeKeys)) ∧
  (∀ (s : State) (r : Fin 4), s.dmaDue r 0x12 → bits (s.dmaWord r 1) 17 16 = 3 → bit (s.dmaWord r 1) 14 = false →
    ∃ t, exec (.tcamClear r) s = .next t ∧ t.dmaDone s r 1 ∧
      t.tcam (bits (s.dmaWord r 1) 13 0) = { s.tcam (bits (s.dmaWord r 1) 13 0) with valid := false } ∧
      (∀ i < 16384, i ≠ bits (s.dmaWord r 1) 13 0 → t.tcam i = s.tcam i) ∧
      t.obj O.TABLE_COMMIT = (s.obj O.TABLE_COMMIT + 1) % 2 ^ 32)

/-- Rings, locks, scrubbing and table objects (R337, R346, R348, R353, R354, R358, R362). A write of TDMA_HEAD sets it; START runs the ring, STOP and
ABORT stop it, RESET is refused while it runs and empties it with its locks otherwise; a lock that times out is released and recorded; an
uncorrectable entry is deleted and counted, a corrected one counted; a TCAM row whose copies differ or fail parity takes in all four what most of
the good ones hold, and is counted; a table object's write takes
effect whole and advances TABLE_COMMIT. That STOP is immediate is the model's reading (log entry 11). -/
def Obligations.RingsLocksAndScrubs : Prop :=
  (∀ (s : State) (r : Fin 4) (v : BitVec 16), s.held = false →
    ∃ t, exec (.tdmaHeadWrite r v) s = .next t ∧ t.obj O.TDMA_HEAD (r + 1) = v.toNat ∧
      t.only s [] [keyOf O.TDMA_HEAD (r + 1)]) ∧
  (∀ (s : State) (r : Fin 4), s.held = false →
    ∃ t, exec (.tdmaStart r) s = .next t ∧ t.status O.TDMA_STATUS (r + 1) = 2 ∧ bit (t.obj O.TDMA_STATUS (r + 1)) 9 = true ∧
      t.only s [] [keyOf O.TDMA_STATUS (r + 1)]) ∧
  (∀ (s : State) (r : Fin 4), s.held = false →
    ∃ t, exec (.tdmaStop r) s = .next t ∧ t.status O.TDMA_STATUS (r + 1) = 2 ∧ bit (t.obj O.TDMA_STATUS (r + 1)) 9 = false ∧
      t.only s [] [keyOf O.TDMA_STATUS (r + 1)]) ∧
  (∀ (s : State) (r : Fin 4) (c : Bool), s.held = false → s.dmaReady r = false →
    ∃ t, exec (.tdmaAbort r c) s = .next t ∧ t.status O.TDMA_STATUS (r + 1) = 2 ∧
      bit (t.obj O.TDMA_STATUS (r + 1)) 9 = false ∧ t.only s [] [keyOf O.TDMA_STATUS (r + 1)]) ∧
  (∀ (s : State) (r : Fin 4), s.held = false → s.dmaReady r = true →
    ∃ t, exec (.tdmaAbort r false) s = .next t ∧ t.dmaDone s r 0x0D ∧ t.status O.TDMA_STATUS (r + 1) = 3 ∧
      bit (t.obj O.TDMA_STATUS (r + 1)) 9 = false ∧
      t.only s dmaParts (keyOf O.TDMA_STATUS (r + 1) :: keyOf O.TDMA_TAIL (r + 1) :: wakeKeys)) ∧
  (∀ (s : State) (r : Fin 4), s.held = false → s.dmaReady r = true →
    ∃ t, exec (.tdmaAbort r true) s = .next t ∧ t.status O.TDMA_STATUS (r + 1) = 2 ∧
      bit (t.obj O.TDMA_STATUS (r + 1)) 8 = true ∧ bit (t.obj O.TDMA_STATUS (r + 1)) 9 = false ∧
      bit (t.obj O.TABLE_FLAGS) 5 = true) ∧
  (∀ (s : State) (r : Fin 4), s.held = false → bit (s.obj O.TDMA_STATUS (r + 1)) 9 = true →
    ∃ t, exec (.tdmaReset r) s = .next t ∧ t.status O.TDMA_STATUS (r + 1) = 4 ∧ t.only s [] [keyOf O.TDMA_STATUS (r + 1)]) ∧
  (∀ (s : State) (r : Fin 4), s.held = false → bit (s.obj O.TDMA_STATUS (r + 1)) 9 = false →
    ∃ t, exec (.tdmaReset r) s = .next t ∧ t.status O.TDMA_STATUS (r + 1) = 2 ∧ t.obj O.TDMA_HEAD (r + 1) = 0 ∧
      t.obj O.TDMA_TAIL (r + 1) = 0 ∧
      t.tables = { s.tables with locks := s.tables.locks.filter fun l => l.ring != r.val } ∧
      t.only s [.tables] [keyOf O.TDMA_STATUS (r + 1), keyOf O.TDMA_HEAD (r + 1), keyOf O.TDMA_TAIL (r + 1)]) ∧
  (∀ (s : State) (r : Fin 4) (x : Bool) (b : BitVec 15), s.held = false → s.tables.locks.any (fun l => l.bucket == 32768 * b2n x + b.toNat && l.ring == r.val && s.elapsed l.at_ (s.obj O.LOCK_TIMEOUT * 1000000)) = false →
    exec (.lockExpire r x b) s = .next s) ∧
  (∀ (s : State) (r : Fin 4) (x : Bool) (b : BitVec 15), s.held = false → s.tables.locks.any (fun l => l.bucket == 32768 * b2n x + b.toNat && l.ring == r.val && s.elapsed l.at_ (s.obj O.LOCK_TIMEOUT * 1000000)) = true →
    ∃ t, exec (.lockExpire r x b) s = .next t ∧ t.lockOf (32768 * b2n x + b.toNat) = none ∧
      (r.val, 32768 * b2n x + b.toNat) ∈ t.tables.expired ∧ t.tables.em = s.tables.em ∧
      t.obj O.TABLE_FLAGS = (s.obj O.TABLE_FLAGS ||| 16) % 2 ^ 32 ∧
      t.only s (.tables :: flagParts) (flagKeys O.TABLE_FLAGS)) ∧
  (∀ (s : State) (a : BitVec 2) (i : BitVec 15) (c : BitVec 2) (f : ScrubFinding), s.held = false →
    f ≠ .struck → s.tables.emBad.contains (emLoc a.toNat i.toNat c.toNat) = true ∨ f = .uncorrectable →
    ∃ t, exec (.emScrub a i c f) s = .next t ∧ t.em (emLoc a.toNat i.toNat c.toNat) = 0 ∧
      t.tables.emBad.contains (emLoc a.toNat i.toNat c.toNat) = false ∧
      t.obj O.EM_ECC_LOSS = (s.count O.EM_ECC_LOSS).obj O.EM_ECC_LOSS ∧
      t.obj O.EM_ECC_LAST = locW1 (emLoc a.toNat i.toNat c.toNat) ∧
      t.obj O.TABLE_FLAGS = (s.obj O.TABLE_FLAGS ||| 64) % 2 ^ 32 ∧
      t.only s (.tables :: flagParts) (keyOf O.EM_ECC_LOSS :: keyOf O.EM_ECC_LAST :: flagKeys O.TABLE_FLAGS)) ∧
  (∀ (s : State) (a : BitVec 2) (i : BitVec 15) (c : BitVec 2), s.held = false →
    s.tables.emBad.contains (emLoc a.toNat i.toNat c.toNat) = false →
    ∃ t, exec (.emScrub a i c .corrected) s = .next t ∧ t.obj O.EM_ECC_CORR = (s.count O.EM_ECC_CORR).obj O.EM_ECC_CORR ∧
      t.only s [] [keyOf O.EM_ECC_CORR]) ∧
  (∀ (s : State) (a : BitVec 2) (i : BitVec 15) (c : BitVec 2), s.held = false → bit (s.em (emLoc a.toNat i.toNat c.toNat)) 127 = true →
    ∃ t, exec (.emScrub a i c .struck) s = .next t ∧ t.tables.emBad.contains (emLoc a.toNat i.toNat c.toNat) = true ∧
      t.tables.em = s.tables.em ∧ t.only s [.tables] []) ∧
  (∀ (s : State) (i : BitVec 14), s.held = false → (∀ k < 4, s.tcamCopy k i.toNat = s.tcam i.toNat) → exec (.tcamScrub i 0) s = .next s) ∧
  (∀ (s : State) (i : BitVec 14) (m : BitVec 4) (x : Prefix), s.held = false →
    m ≠ 0 ∨ (∃ k < 4, s.tcamCopy k i.toNat ≠ s.tcam i.toNat) →
    mostHeld (([0, 1, 2, 3].filter fun k => !m.getLsbD k).map fun k => s.tcamCopy k i.toNat) = some x →
    ∃ t, exec (.tcamScrub i m) s = .next t ∧ (∀ k < 4, t.tcamCopy k i.toNat = x) ∧
      (∀ j < 16384, j ≠ i.toNat → t.tcam j = s.tcam j) ∧ t.tables.em = s.tables.em ∧
      t.obj O.TCAM_REPAIR = (s.count O.TCAM_REPAIR).obj O.TCAM_REPAIR ∧
      t.obj O.TABLE_FLAGS = (s.obj O.TABLE_FLAGS ||| 128) % 2 ^ 32 ∧
      t.only s (.tables :: flagParts) (keyOf O.TCAM_REPAIR :: flagKeys O.TABLE_FLAGS)) ∧
  (∀ (s : State) (i : BitVec 16) (v : Bytes) (o : Obj), s.held = false → tableObj i.toNat = some o → s.tableBlobOk o v = true →
    ∃ t, exec (.tableBlobWrite i v) s = .next t ∧ t.blob o = Blob.of v ∧
      t.obj O.TABLE_COMMIT = (s.obj O.TABLE_COMMIT + 1) % 2 ^ 32 ∧ t.only s [.blobs] [keyOf O.TABLE_COMMIT]) ∧
  (∀ (s : State) (i : BitVec 16) (v : Bytes), s.held = false →
    tableObj i.toNat = none ∨ (∃ o, tableObj i.toNat = some o ∧ s.tableBlobOk o v = false) →
    exec (.tableBlobWrite i v) s = .next s)

/-- Learning and live rehash (R338, R339, R341, R343, R344). The oldest learn request is served: an entry that already points at its port stays, a static one
is not moved and counts in LEARN_BLOCKED, another of a port moves and counts in LEARN_MOVE, and a new address beyond LEARN_MAX counts in LEARN_FULL. A
migration is refused for the active set and for equal seeds, and otherwise enters DUAL; ABORT without a migration is refused, else it ends ABORTED in
DUAL; a walk with nothing left ends DONE under the target set; E9 starts a migration on EM_REHASH_REQ alone. -/
def Obligations.LearningAndRehash : Prop :=
  (∀ s : State, s.held = false → s.tables.learnQ = [] → exec .learn s = .next s) ∧
  (∀ (s : State) (q : LearnReq) (l : List LearnReq) (e : Nat), s.held = false → s.tables.learnQ = q :: l →
    s.emLookup 0 q.key = some e →
    ∃ t, exec .learn s = .next t ∧ t.tables.learnQ = l ∧
      (if emResult (s.em e) = q.port then t.em e = s.em e ∧ t.only s [.tables] []
       else if bit (s.em e) 125 = true then t.em e = s.em e ∧
         t.obj O.LEARN_BLOCKED = (s.count O.LEARN_BLOCKED).obj O.LEARN_BLOCKED ∧ t.only s [.tables] [keyOf O.LEARN_BLOCKED]
       else if bits (emResult (s.em e)) 15 14 ≠ 0 then t.em e = s.em e ∧ t.only s [.tables] []
       else t.only s [.tables] [keyOf O.LEARN_BLOCKED, keyOf O.LEARN_MOVE])) ∧
  (∀ (s : State) (q : LearnReq) (l : List LearnReq) (e : Nat), s.held = false → s.tables.learnQ = q :: l → q.port < 2 ^ 16 →
    s.emLookup 0 q.key = some e → emResult (s.em e) ≠ q.port → bit (s.em e) 125 = false → bits (emResult (s.em e)) 15 14 = 0 →
    (∀ b, locBucket e = some b → s.lockOf b = none) →
    ∃ t, exec .learn s = .next t ∧ emResult (t.em e) = q.port ∧ emKey (t.em e) = emKey (s.em e) ∧ bit (t.em e) 124 = true ∧
      (∀ k, k ≠ e → t.em k = s.em k) ∧ t.obj O.LEARN_MOVE = (s.count O.LEARN_MOVE).obj O.LEARN_MOVE) ∧
  (∀ (s : State) (q : LearnReq) (l : List LearnReq), s.held = false → s.tables.learnQ = q :: l → s.emLookup 0 q.key = none →
    s.obj O.LEARN_MAX ≤ s.emLearned →
    ∃ t, exec .learn s = .next t ∧ t.tables = { s.tables with learnQ := l } ∧
      t.obj O.LEARN_FULL = (s.count O.LEARN_FULL).obj O.LEARN_FULL ∧ t.only s [.tables] [keyOf O.LEARN_FULL]) ∧
  (∀ s : State, s.held = false → ∀ c ∈ [(Instr.migrateToA, 0), (.migrateToB, 1)],
    (s.status O.EM_STATUS = 1 → exec c.1 s = .next s) ∧
    (s.status O.EM_STATUS ≠ 1 → s.obj O.EM_STATE = c.2 ∨ (s.obj O.EM_STATE ≠ c.2 ∧ s.seedsOk c.2 = false) →
      ∃ t, exec c.1 s = .next t ∧ t.status O.EM_STATUS 0 = 4 ∧
        bits (t.obj O.EM_STATUS 0) 15 12 = (if s.obj O.EM_STATE = c.2 then 0 else 2) ∧ t.only s [] [keyOf O.EM_STATUS]) ∧
    (s.status O.EM_STATUS ≠ 1 → s.obj O.EM_STATE ≠ c.2 → s.seedsOk c.2 = true →
      ∃ t, exec c.1 s = .next t ∧ t.status O.EM_STATUS 0 = 1 ∧ t.obj O.EM_STATE = 2 + c.2 ∧
        (s.obj O.EM_STATE ≠ 2 + c.2 → t.tables = { s.tables with walk := 0, skipped := [], rehash := false }) ∧
        t.only s [.tables] [keyOf O.EM_STATUS, keyOf O.EM_STATE])) ∧
  (∀ (s : State) (c : Bool), s.held = false → s.status O.EM_STATUS ≠ 1 →
    ∃ t, exec (.emAbort c) s = .next t ∧ t.status O.EM_STATUS 0 = 4 ∧ t.only s [] [keyOf O.EM_STATUS]) ∧
  (∀ s : State, s.held = false → s.status O.EM_STATUS = 1 →
    ∃ t, exec (.emAbort false) s = .next t ∧ t.status O.EM_STATUS 0 = 3 ∧ t.only s [] [keyOf O.EM_STATUS]) ∧
  (∀ s : State, s.held = false → s.status O.EM_STATUS ≠ 1 → exec .migrationStep s = .next s) ∧
  (∀ s : State, s.held = false → s.status O.EM_STATUS = 1 → 65552 ≤ s.tables.walk → s.tables.skipped = [] → s.migrateLeft = 0 →
    s.tables.rehash = false →
    ∃ t, exec .migrationStep s = .next t ∧ t.status O.EM_STATUS 0 = 2 ∧ t.obj O.EM_STATE = s.placeSet ∧
      t.tables = { s.tables with walk := 0, skipped := [], rehash := false } ∧
      t.only s [.tables] [keyOf O.EM_STATUS, keyOf O.EM_STATE]) ∧
  (∀ s : State, s.held = false → s.engUp 9 = false ∨ s.obj O.EM_AUTO_REHASH ≠ 1 ∨ bit (s.obj O.TABLE_FLAGS) 2 = false ∨ 2 ≤ s.obj O.EM_STATE ∨
      s.status O.EM_STATUS = 1 ∨ s.status O.EM_STATUS = 5 → exec .autoRehash s = .next s) ∧
  (∀ s : State, s.held = false → s.engUp 9 = true → s.obj O.EM_AUTO_REHASH = 1 → bit (s.obj O.TABLE_FLAGS) 2 = true → s.obj O.EM_STATE < 2 →
    s.status O.EM_STATUS ≠ 1 → s.status O.EM_STATUS ≠ 5 →
    ∃ t, exec .autoRehash s = .next t ∧ t.status O.EM_STATUS 0 = 1 ∧ t.obj O.EM_STATE = 3 - s.obj O.EM_STATE ∧
      t.seedsOk (1 - s.obj O.EM_STATE) = true ∧
      t.tables = { s.tables with walk := 0, skipped := [], rehash := true } ∧
      t.only s [.tables, .free] [keyOf O.EM_STATUS, keyOf O.EM_STATE,
        keyOf (if s.obj O.EM_STATE = 1 then O.EM_SEED_A else O.EM_SEED_B)])

/-- READ, WRITE and their multiple forms (R7, R9, R370 to R374, R387, R397, R558). A READ is answered with the value, and clears an RC object; an
unreadable object is answered with its status. On a path that the Gatehouse closes nothing is written, and the refusal is counted. A WRITE or
WRITE_MULTI with an item that fails its tests writes nothing. A write of GATE_PORTS and GATE_CHAIN sets both; EXPERT_SESSION opens and closes the
session, which 60 s end. -/
def Obligations.FalriReadsAndWrites : Prop :=
  (∀ (s : State) (p : Path) (h : FalriHdr) (i : FalriItem) (o : Obj), s.takes p (msgOf h 1 1 (FalriItem.bytes i)) →
    findObj i.index.toNat i.sub.toNat = .obj o → o.acc ≠ .wo →
    ((s.count O.FALRI_RX).valueBytes o i.sub.toNat).length ≤ 1018 →
    ∃ t, exec (.read p h i) s = .next t ∧
      t.answered s p (msgOf h 1 1 (FalriItem.bytes i)) ⟨0, 1, itemBytes i 0 ((s.count O.FALRI_RX).valueBytes o i.sub.toNat)⟩ ∧
      (o.acc ≠ .rc → t.only s falriParts (keyOf O.FALRI_RX :: wakeKeys)) ∧
      (o.acc = .rc → o.isBlob = false → o.index ≠ O.QUEUE_PEAK.index → p ≠ .hbus → t.obj o i.sub.toNat = 0)) ∧
  (∀ (s : State) (p : Path) (h : FalriHdr) (i : FalriItem), s.takes p (msgOf h 1 1 (FalriItem.bytes i)) →
    (s.readAt i.index.toNat i.sub.toNat).1 ≠ 0 →
    ∃ t, exec (.read p h i) s = .next t ∧
      t.answered s p (msgOf h 1 1 (FalriItem.bytes i)) ⟨(s.readAt i.index.toNat i.sub.toNat).1, 1,
        itemBytes i (s.readAt i.index.toNat i.sub.toNat).1 []⟩ ∧
      t.only s falriParts (keyOf O.FALRI_RX :: wakeKeys)) ∧
  (∀ (s : State) (p : Path) (h : FalriHdr) (l : List FalriItem), s.takes p (msgOf h 3 l.length (l.flatMap FalriItem.bytes)) →
    1 ≤ l.length → l.length ≤ 64 →
    (∀ i ∈ l, ∃ o, findObj i.index.toNat i.sub.toNat = .obj o ∧ o.acc ≠ .wo ∧ o.acc ≠ .rc) →
    (l.flatMap fun i => itemBytes i 0 ((s.count O.FALRI_RX).readAt i.index.toNat i.sub.toNat).2.1).length ≤ 1024 →
    ∃ t, exec (.readMulti p h l) s = .next t ∧
      t.answered s p (msgOf h 3 l.length (l.flatMap FalriItem.bytes)) ⟨0, l.length,
        l.flatMap fun i => itemBytes i 0 ((s.count O.FALRI_RX).readAt i.index.toNat i.sub.toNat).2.1⟩ ∧
      t.only s falriParts (keyOf O.FALRI_RX :: wakeKeys)) ∧
  (∀ (s : State) (p : Path) (h : FalriHdr) (l : List FalriItem),
    ∀ c ∈ (Instr.writeMulti p h l, msgOf h 4 l.length (l.flatMap FalriItem.bytes), l) ::
      l.map (fun i => (Instr.write p h i, msgOf h 2 1 (FalriItem.bytes i), [i])),
    s.takes p c.2.1 → 1 ≤ l.length → l.length ≤ 64 → s.mayWritePath (pathCode p) = false →
    ∃ t, exec c.1 s = .next t ∧
      t.answered s p c.2.1 ⟨stGatehouse, c.2.2.length, c.2.2.flatMap fun i => itemBytes i stGatehouse []⟩ ∧
      t.obj O.GATE_DENIED = (s.count O.GATE_DENIED).obj O.GATE_DENIED ∧
      t.obj O.GATE_LAST_DENIED = (if pathCode p < 49 then pathCode p else 0x40) ∧ bit (t.obj O.DICT_FLAGS) 1 = true ∧
      t.only s falriParts (keyOf O.FALRI_RX :: keyOf O.GATE_DENIED :: keyOf O.GATE_LAST_DENIED :: flagKeys O.DICT_FLAGS)) ∧
  (∀ (s : State) (p : Path) (h : FalriHdr) (l : List FalriItem),
    ∀ c ∈ (Instr.writeMulti p h l, msgOf h 4 l.length (l.flatMap FalriItem.bytes), l) ::
      l.map (fun i => (Instr.write p h i, msgOf h 2 1 (FalriItem.bytes i), [i])),
    s.takes p c.2.1 → 1 ≤ l.length → l.length ≤ 64 → s.mayWritePath (pathCode p) = true →
    (∀ i ∈ l, itemOpll i = none) → (∃ x ∈ (s.count O.FALRI_RX).checkAll (pathCode p) c.2.2, x ≠ 0) →
    ∃ t, exec c.1 s = .next t ∧
      t.answered s p c.2.1 ⟨firstBad (appliedStatuses ((s.count O.FALRI_RX).checkAll (pathCode p) c.2.2)), c.2.2.length,
        (c.2.2.zip (appliedStatuses ((s.count O.FALRI_RX).checkAll (pathCode p) c.2.2))).flatMap fun e => itemBytes e.1 e.2 []⟩ ∧
      t.only s falriParts (keyOf O.FALRI_RX :: wakeKeys)) ∧
  (∀ (s : State) (p : Path) (h : FalriHdr) (o : Obj) (v : Byte), o ∈ [O.SNAP_MODE, O.LANTERN_EN] → v.toNat ≤ 1 →
    s.takes p (msgOf h 2 1 (FalriItem.bytes ⟨BitVec.ofNat 16 o.index, 0, [v]⟩)) → s.mayWritePath (pathCode p) = true →
    ∃ t, exec (.write p h ⟨BitVec.ofNat 16 o.index, 0, [v]⟩) s = .next t ∧ t.obj o = v.toNat ∧
      t.answered s p (msgOf h 2 1 (FalriItem.bytes ⟨BitVec.ofNat 16 o.index, 0, [v]⟩))
        ⟨0, 1, itemBytes ⟨BitVec.ofNat 16 o.index, 0, [v]⟩ 0 []⟩ ∧
      t.only s falriParts (keyOf O.FALRI_RX :: keyOf o :: wakeKeys)) ∧
  (∀ (s : State) (p : Path) (h : FalriHdr) (v w : Byte), v.toNat ≤ 1 → w.toNat ≤ 1 →
    s.takes p (msgOf h 4 2 ([⟨BitVec.ofNat 16 O.SNAP_MODE.index, 0, [v]⟩, ⟨BitVec.ofNat 16 O.LANTERN_EN.index, 0, [w]⟩].flatMap
      FalriItem.bytes)) → s.mayWritePath (pathCode p) = true →
    ∃ t, exec (.writeMulti p h [⟨BitVec.ofNat 16 O.SNAP_MODE.index, 0, [v]⟩, ⟨BitVec.ofNat 16 O.LANTERN_EN.index, 0, [w]⟩]) s =
        .next t ∧ t.obj O.SNAP_MODE = v.toNat ∧ t.obj O.LANTERN_EN = w.toNat) ∧
  (∀ (s : State) (p : Path) (i : BitVec 16) (j : BitVec 8) (v : Bytes), s.held = false → s.mayWritePath (pathCode p) = false →
    ∃ t, exec (.objectWrite p i j v) s = .next t ∧ t.obj O.GATE_DENIED = (s.count O.GATE_DENIED).obj O.GATE_DENIED ∧
      t.obj O.GATE_LAST_DENIED = (if pathCode p < 49 then pathCode p else 0x40) ∧
      t.obj O.DICT_FLAGS = (s.obj O.DICT_FLAGS ||| 2) % 2 ^ 32 ∧
      t.only s flagParts (keyOf O.GATE_DENIED :: keyOf O.GATE_LAST_DENIED :: flagKeys O.DICT_FLAGS)) ∧
  (∀ (s : State) (p : Path) (i : BitVec 16) (j : BitVec 8) (v : Bytes), s.held = false → s.mayWritePath (pathCode p) = true →
    itemOpll ⟨i, j, v⟩ = none → (∃ x ∈ s.checkAll (pathCode p) [⟨i, j, v⟩], x ≠ 0) →
    exec (.objectWrite p i j v) s = .next s) ∧
  (∀ (s : State) (p : Path) (o : Obj) (v : Byte), s.held = false → s.mayWritePath (pathCode p) = true →
    o ∈ [O.SNAP_MODE, O.LANTERN_EN] → v.toNat ≤ 1 →
    ∃ t, exec (.objectWrite p (BitVec.ofNat 16 o.index) 0 [v]) s = .next t ∧ t.obj o = v.toNat ∧ t.only s [] [keyOf o]) ∧
  (∀ (s : State) (p : Path) (v : BitVec 64) (c : Byte), s.held = false → s.mayWritePath (pathCode p) = true →
    (∀ q : Fin 49, p = .port q → v.getLsbD q = true) → (p = .chain → c.toNat = 1) → c.toNat ≤ 1 →
    ∃ t, exec (.gateWrite p v c) s = .next t ∧ t.obj O.GATE_PORTS = v.toNat ∧ t.obj O.GATE_CHAIN = c.toNat ∧
      t.only s [] [keyOf O.GATE_PORTS, keyOf O.GATE_CHAIN]) ∧
  (∀ (s : State) (p : Path) (v : Bytes), s.held = false → s.mayWritePath (pathCode p) = true →
    v.length ≠ 524288 ∨ s.sharedLocked = true ∨ s.activeManager = false → exec (.epRegistryWrite p v) s = .next s) ∧
  (∀ (s : State) (p : Path) (v : Bytes), s.held = false → s.mayWritePath (pathCode p) = true → v.length = 524288 →
    s.sharedLocked = false → s.activeManager = true →
    ∃ t, exec (.epRegistryWrite p v) s = .next t ∧ t.obj O.EP_REG_VER = (s.obj O.EP_REG_VER + 1) % 2 ^ 32) ∧
  (∀ s : State, s.held = false →
    ∃ t, exec (.expertSessionWrite 0xE7) s = .next t ∧ t.falri = { s.falri with session := true, sessionAt := s.hearth.cycles } ∧
      t.only s [.falri] []) ∧
  (∀ s : State, s.held = false →
    ∃ t, exec (.expertSessionWrite 0) s = .next t ∧ t.falri.session = false ∧ t.only s [.falri] []) ∧
  (∀ (s : State) (v : Byte), s.held = false → v ≠ 0 → v ≠ 0xE7 → exec (.expertSessionWrite v) s = .next s) ∧
  (∀ s : State, s.held = false → s.elapsed s.falri.sessionAt 59900000000 = true →
    ∃ t, exec .expertSessionExpire s = .next t ∧ t.falri = { s.falri with session := false } ∧ t.only s [.falri] []) ∧
  (∀ s : State, s.held = false → s.elapsed s.falri.sessionAt 59900000000 = false → exec .expertSessionExpire s = .next s)

/-- Blocks, COMMIT, DISCOVER and ASSIGN_ID (R371, R372, R375, R376, R378, R380, R387, R406, R408). BLOCK_READ at offset 0 returns the first octets of the
value; BLOCK_WRITE's FIRST opens a staging buffer, and a segment without one is BLOCK_LOST; COMMIT is refused while a job is BUSY and begins one
otherwise; DISCOVER is answered, one with DST ALL waits for its delay; ASSIGN_ID with this part's SERIAL gives it its ID, another is ignored. -/
def Obligations.FalriBlocksAndNames : Prop :=
  (∀ (s : State) (p : Path) (h : FalriHdr) (i : BlockReadItem) (o : Obj), s.takes p (msgOf h 5 1 (BlockReadItem.bytes i)) →
    findObj i.index.toNat i.sub.toNat = .obj o → o.acc ≠ .wo → o.ty = .blob → i.offset = 0 → 1 ≤ i.dlen.toNat →
    i.dlen.toNat ≤ 1000 →
    ∃ t, exec (.blockRead p h i) s = .next t ∧
      t.answered s p (msgOf h 5 1 (BlockReadItem.bytes i)) ⟨0, 1, blockReadItem (BlockReadItem.bytes i) 0
        ((s.count O.FALRI_RX).valueBytes o i.sub.toNat).length
        (((s.count O.FALRI_RX).valueBytes o i.sub.toNat).take i.dlen.toNat)⟩ ∧
      (o.acc ≠ .rc → t.only s falriParts (keyOf O.FALRI_RX :: wakeKeys))) ∧
  (∀ (s : State) (p : Path) (h : FalriHdr) (i : BlockReadItem) (st : Nat), s.takes p (msgOf h 5 1 (BlockReadItem.bytes i)) →
    (st = 1 ∧ findObj i.index.toNat i.sub.toNat = .noObject) ∨ (st = 2 ∧ findObj i.index.toNat i.sub.toNat = .noSub) ∨
      (st = 6 ∧ ∃ o, findObj i.index.toNat i.sub.toNat = .obj o ∧ o.acc ≠ .wo ∧ o.ty ≠ .blob) →
    ∃ t, exec (.blockRead p h i) s = .next t ∧
      t.answered s p (msgOf h 5 1 (BlockReadItem.bytes i)) ⟨st, 1, blockReadItem (BlockReadItem.bytes i) st 0 []⟩ ∧
      t.only s falriParts (keyOf O.FALRI_RX :: wakeKeys)) ∧
  (∀ (s : State) (p : Path) (h : FalriHdr) (i : BlockWriteItem), s.takes p (msgOf h 6 1 (BlockWriteItem.bytes i)) →
    s.mayWritePath (pathCode p) = true → s.segmentStatus (BlockWriteItem.bytes i) = 0 → i.flags = 1 → i.offset = 0 →
    ∃ t, exec (.blockWrite p h i) s = .next t ∧
      t.answered s p (msgOf h 6 1 (BlockWriteItem.bytes i)) ⟨0, 1, blockWriteItem (BlockWriteItem.bytes i) 0⟩ ∧
      t.falri.staging = some { path := pathCode p, src := h.src.toNat, key := i.index.toNat * 256 + i.sub.toNat,
                               total := i.total.toNat, data := i.data, at_ := s.hearth.cycles } ∧
      t.only s falriParts (keyOf O.FALRI_RX :: wakeKeys)) ∧
  (∀ (s : State) (p : Path) (h : FalriHdr) (i : BlockWriteItem), s.takes p (msgOf h 6 1 (BlockWriteItem.bytes i)) →
    s.mayWritePath (pathCode p) = true → s.segmentStatus (BlockWriteItem.bytes i) = 0 → i.flags.getLsbD 0 = false →
    s.falri.staging = none →
    ∃ t, exec (.blockWrite p h i) s = .next t ∧
      t.answered s p (msgOf h 6 1 (BlockWriteItem.bytes i)) ⟨11, 1, blockWriteItem (BlockWriteItem.bytes i) 11⟩ ∧
      t.only s falriParts (keyOf O.FALRI_RX :: wakeKeys)) ∧
  (∀ (s : State) (p : Path) (h : FalriHdr), s.takes p (msgOf h 7 0 []) → s.mayWritePath (pathCode p) = false →
    ∃ t, exec (.commit p h) s = .next t ∧ t.answered s p (msgOf h 7 0 []) ⟨stGatehouse, 0, []⟩ ∧
      t.obj O.GATE_DENIED = (s.count O.GATE_DENIED).obj O.GATE_DENIED ∧
      t.only s falriParts (keyOf O.FALRI_RX :: keyOf O.GATE_DENIED :: keyOf O.GATE_LAST_DENIED :: flagKeys O.DICT_FLAGS)) ∧
  (∀ (s : State) (p : Path) (h : FalriHdr), s.takes p (msgOf h 7 0 []) → s.mayWritePath (pathCode p) = true → s.cfgBusy = true →
    ∃ t, exec (.commit p h) s = .next t ∧ t.answered s p (msgOf h 7 0 []) ⟨7, 0, []⟩ ∧
      t.only s falriParts (keyOf O.FALRI_RX :: wakeKeys)) ∧
  (∀ (s : State) (p : Path) (h : FalriHdr), s.takes p (msgOf h 7 0 []) → s.mayWritePath (pathCode p) = true → s.cfgBusy = false →
    (s.count O.FALRI_RX).commitBody.length ≤ bodyMax →
    ∃ t, exec (.commit p h) s = .next t ∧ t.answered s p (msgOf h 7 0 []) ⟨17, 0, []⟩ ∧ t.status O.CFG_STATUS 0 = 1 ∧
      t.falri.jobKind = 1 ∧ t.only s (.flash :: falriParts) (keyOf O.FALRI_RX :: keyOf O.CFG_STATUS :: wakeKeys)) ∧
  (∀ (s : State) (p : Path) (h : FalriHdr), s.takes p (msgOf h 8 0 []) →
    ∃ t, exec (.discover p h) s = .next t ∧ t.answered s p (msgOf h 8 0 []) ⟨0, 0, s.discoverPayload⟩ ∧
      t.only s falriParts (keyOf O.FALRI_RX :: wakeKeys)) ∧
  (∀ (s : State) (p : Path) (h : FalriHdr), s.held = false → addrKind h.dst.toNat = 2 →
    s.headRemoves (pathCode p) h.src.toNat = false → s.learnDev (pathCode p) h.src.toNat = s →
    s.duplicate (pathCode p) (msgOf h 8 0 []) = none → s.falri.deferred.contains (h, p) = false →
    ∃ t, exec (.discover p h) s = .next t ∧ t.falri.deferred = s.falri.deferred ++ [(h, p)] ∧ t.falri.dups = s.falri.dups ∧
      t.only s falriParts (keyOf O.FALRI_RX :: keyOf O.FALRI_ERR :: wakeKeys)) ∧
  (∀ (s : State) (h : FalriHdr), s.held = false → s.falri.deferred.find? (fun d => d.1 == h) = none →
    exec (.discoverAnswer h) s = .next s) ∧
  (∀ (s : State) (h : FalriHdr) (d : FalriHdr × Path), s.held = false → s.falri.deferred.find? (fun d => d.1 == h) = some d →
    ∃ t, exec (.discoverAnswer h) s = .next t ∧ t.falri.deferred = s.falri.deferred.erase d ∧
      t.answered s d.2 (msgOf h 8 0 []) ⟨0, 0, s.discoverPayload⟩ ∧ t.only s falriParts wakeKeys) ∧
  (∀ (s : State) (p : Path) (h : FalriHdr) (x : BitVec 64) (d : BitVec 16),
    s.takes p (msgOf h 9 1 (beBytes 8 x.toNat ++ beBytes 2 d.toNat)) → x.toNat ≠ s.fuses.serial →
    ∃ t, exec (.assignId p h x d) s = .next t ∧ t.falri.dups = s.falri.dups ∧
      t.obj O.FALRI_RX = (s.count O.FALRI_RX).obj O.FALRI_RX ∧ t.only s [] [keyOf O.FALRI_RX]) ∧
  (∀ (s : State) (p : Path) (h : FalriHdr) (x : BitVec 64) (d : BitVec 16),
    s.takes p (msgOf h 9 1 (beBytes 8 x.toNat ++ beBytes 2 d.toNat)) → x.toNat = s.fuses.serial →
    s.mayWritePath (pathCode p) = true → s.manager = true ∨ d.toNat < 3 ∨ 1023 < d.toNat →
    ∃ t, exec (.assignId p h x d) s = .next t ∧ t.answered s p (msgOf h 9 1 (beBytes 8 x.toNat ++ beBytes 2 d.toNat))
        ⟨8, 1, beBytes 8 x.toNat ++ beBytes 2 d.toNat⟩ ∧ t.only s falriParts (keyOf O.FALRI_RX :: wakeKeys)) ∧
  (∀ (s : State) (p : Path) (h : FalriHdr) (x : BitVec 64) (d : BitVec 16),
    s.takes p (msgOf h 9 1 (beBytes 8 x.toNat ++ beBytes 2 d.toNat)) → x.toNat = s.fuses.serial →
    s.mayWritePath (pathCode p) = true → s.manager = false → 3 ≤ d.toNat → d.toNat ≤ 1023 →
    ∃ t, exec (.assignId p h x d) s = .next t ∧ t.answered s p (msgOf h 9 1 (beBytes 8 x.toNat ++ beBytes 2 d.toNat))
        ⟨0, 1, beBytes 8 x.toNat ++ beBytes 2 d.toNat⟩ ∧ t.obj O.DEVICE_ID = d.toNat ∧ bit (t.obj O.HIER_FLAGS) 0 = true ∧
      t.only s (.tables :: falriParts) (keyOf O.FALRI_RX :: keyOf O.DEVICE_ID :: keyOf O.TABLE_COMMIT :: keyOf O.TABLE_FLAGS ::
        flagKeys O.HIER_FLAGS))

/-- Responses, notifications, the mailbox and the chain (R368, R371, R375 to R377, R379, R383 to R386). A message that fails R368 is discarded and counted; an unknown
opcode and a bad COUNT are answered; a response follows its proxy record; a NOTIFY reaches the host through its mailbox while that takes
NOTIFYs; buffers and records lapse; the head enumerates its chain, and a frame that does not return raises CHAIN_BREAK. -/
def Obligations.FalriServicesRun : Prop :=
  (∀ (s : State) (p : Path) (b : Bytes), s.held = false → parseMsg b = none → ∀ c ∈ [Instr.falriErr p b, .falriResponse p b],
    ∃ t, exec c s = .next t ∧ t.falri = { s.falri with mbErr := s.falri.mbErr || decide (p = .hbus) } ∧
      t.obj O.FALRI_ERR = (s.count O.FALRI_ERR).obj O.FALRI_ERR ∧ t.only s [.falri] [keyOf O.FALRI_ERR]) ∧
  (∀ (s : State) (p : Path) (b : Bytes) (m : Msg), parseMsg b = some m → s.takes p m → m.op < 128 →
    m.op = 0 ∨ 11 ≤ m.op ∨ (m.op ≠ 10 ∧ countOk m.op m.count = false) →
    ∃ t, exec (.falriErr p b) s = .next t ∧
      t.answered s p m ⟨if m.op = 0 ∨ 11 ≤ m.op then 14 else 15, 0, []⟩ ∧
      t.only s falriParts (keyOf O.FALRI_RX :: wakeKeys)) ∧
  (∀ (s : State) (p : Path) (b : Bytes) (m : Msg), s.held = false → parseMsg b = some m → m.op < 128 →
    exec (.falriResponse p b) s = .next s) ∧
  (∀ (s : State) (p : Path) (b : Bytes) (m : Msg) (q : Proxy), s.held = false → parseMsg b = some m → 128 ≤ m.op →
    s.learnDev (pathCode p) m.src = s → s.headRemoves (pathCode p) m.src = false → s.proxyFor m = some q → q.path = chainPath →
    ∃ t, exec (.falriResponse p b) s = .next t ∧ t.out = .message chainPath m.bytes :: s.out ∧ t.only s [.out] []) ∧
  (∀ (s : State) (p : Path) (h : FalriHdr) (i : BitVec 16) (j : BitVec 8) (v : BitVec 32) (x : BitVec 64), s.held = false →
    s.learnDev (pathCode p) h.src.toNat = s → s.headRemoves (pathCode p) h.src.toNat = true ∨
      (s.ownDst (pathCode p) h.dst.toNat = true ∧ s.falri.mbNotify = false) →
    exec (.notifyReceive p h i j v x) s = .next s) ∧
  (∀ (s : State) (p : Path) (h : FalriHdr) (i : BitVec 16) (j : BitVec 8) (v : BitVec 32) (x : BitVec 64), s.held = false →
    s.learnDev (pathCode p) h.src.toNat = s → s.headRemoves (pathCode p) h.src.toNat = false →
    s.ownDst (pathCode p) h.dst.toNat = true → s.falri.mbNotify = true → s.falri.mbHeld = none →
    ∃ t, exec (.notifyReceive p h i j v x) s = .next t ∧
      t.falri.mbHeld = some ((msgOf h 10 1 (beBytes 2 i.toNat ++ beBytes 1 j.toNat ++ [0] ++
        beBytes 4 v.toNat ++ beBytes 8 x.toNat)).bytes, true) ∧
      t.only s falriParts wakeKeys) ∧
  (∀ (s : State) (i : BitVec 16) (j : BitVec 8), s.held = false →
    s.notifyWay = none ∨ Tab.get s.falri.notify 0 (i.toNat * 256 + j.toNat) = 0 ∨ s.obj O.NOTIFY_RATE ≤ s.notifyRecent.length →
    exec (.notifySend i j) s = .next s) ∧
  (∀ (s : State) (i : BitVec 16) (j : BitVec 8), s.held = false → s.obj O.NOTIFY_PATH = 2 →
    Tab.get s.falri.notify 0 (i.toNat * 256 + j.toNat) ≠ 0 → s.notifyRecent.length < s.obj O.NOTIFY_RATE →
    ∃ t f, exec (.notifySend i j) s = .next t ∧ Tab.get t.falri.notify 0 (i.toNat * 256 + j.toNat) = 0 ∧
      t.falri.notifySeq = (s.falri.notifySeq + 1) % 65536 ∧ t.falri.notifyAt = s.hearth.cycles :: s.notifyRecent ∧ t.out = .frame 48 f false :: s.out ∧
      t.only s [.falri, .notify, .out, .free] []) ∧
  (∀ s : State, s.held = false → ∃ t, exec .proxyExpire s = .next t ∧
    t.falri = { s.falri with proxies := s.falri.proxies.filter fun q => !s.elapsed q.at_ 1000000000 } ∧ t.only s [.falri] []) ∧
  (∀ (s : State) (k : Fin 4) (b : ReadBuf), s.held = false → s.falri.bufs[k.val]? = some b → s.elapsed b.at_ 10000000000 = true →
    ∃ t, exec (.readBufferLapse k) s = .next t ∧ t.falri = { s.falri with bufs := s.falri.bufs.eraseIdx k } ∧ t.only s [.falri] []) ∧
  (∀ (s : State) (k : Fin 4), s.held = false → (∀ b, s.falri.bufs[k.val]? = some b → s.elapsed b.at_ 10000000000 = false) →
    exec (.readBufferLapse k) s = .next s) ∧
  (∀ s : State, s.held = false → s.falri.staging = none → exec .stagingLapse s = .next s) ∧
  (∀ (s : State) (g : Staging), s.held = false → s.falri.staging = some g → s.elapsed g.at_ 10000000000 = false → exec .stagingLapse s = .next s) ∧
  (∀ (s : State) (g : Staging), s.held = false → s.falri.staging = some g → s.elapsed g.at_ 10000000000 = true →
    ∃ t, exec .stagingLapse s = .next t ∧ t.falri.staging = none ∧ t.falri.lostFrom.contains (g.path, g.src) = true ∧
      t.only s [.falri] []) ∧
  (∀ (s : State) (b : Bytes) (n : Bool), s.held = false → b.length < 18 ∨ 1042 < b.length ∨ parseMsg b = none →
    ∃ t, exec (.mailboxGo b n) s = .next t ∧ t.falri.mbErr = true ∧ t.falri.mbNotify = n ∧
      t.obj O.FALRI_ERR = (s.count O.FALRI_ERR).obj O.FALRI_ERR ∧ t.only s [.falri] [keyOf O.FALRI_ERR]) ∧
  (∀ (s : State) (b : Bytes) (n : Bool) (m : Msg), 18 ≤ b.length → b.length ≤ 1042 → parseMsg b = some m → m.op = 8 →
    m.count = 0 → s.takes .hbus m →
    ∃ t, exec (.mailboxGo b n) s = .next t ∧ t.falri.mbNotify = n ∧ t.answered s .hbus m ⟨0, 0, s.discoverPayload⟩ ∧
      t.only s falriParts (keyOf O.FALRI_RX :: wakeKeys)) ∧
  (∀ (s : State) (c : Bool), s.held = false → s.falri.mbHeld = none →
    ∃ t, exec (.mailboxRelease c) s = .next t ∧ t.falri = { s.falri with mbErr := s.falri.mbErr && !c } ∧
      t.only s [.falri] []) ∧
  (∀ (s : State) (c : Bool), s.held = false → s.falri.mbHeld ≠ none → s.falri.mbWait = [] → s.falri.mbNotes = [] →
    ∃ t, exec (.mailboxRelease c) s = .next t ∧ t.falri = { s.falri with mbErr := s.falri.mbErr && !c, mbHeld := none } ∧
      t.only s [.falri] []) ∧
  (∀ (s : State) (c : Bool) (m : Bytes) (r : List Bytes), s.held = false → s.falri.mbHeld ≠ none → s.falri.mbWait = m :: r →
    ∃ t, exec (.mailboxRelease c) s = .next t ∧
      t.falri.mbErr = (s.falri.mbErr && !c) ∧ t.falri.mbHeld = some (m, false) ∧ t.falri.mbWait = r ∧
      t.only s falriParts wakeKeys) ∧
  (∀ s : State, s.held = false → s.chainHead = true →
    ∃ t, exec .chainEnumerate s = .next t ∧ t.falri = { s.falri with enumOut := true } ∧
      t.obj O.CHAIN_ADDR_ACT = (if s.obj O.CHAIN_ADDR = 0 then 1 else s.obj O.CHAIN_ADDR) % 256 ∧
      t.out = .chainFrame (beBytes 1 ((if s.obj O.CHAIN_ADDR = 0 then 1 else s.obj O.CHAIN_ADDR) + 1)) :: s.out ∧
      t.only s [.falri, .out] [keyOf O.CHAIN_ADDR_ACT]) ∧
  (∀ s : State, s.held = false → s.chainHead = false → exec .chainEnumerate s = .next s) ∧
  (∀ (s : State) (v : Byte), s.held = false → s.chainHead = true →
    ∃ t, exec (.chainEnumFrame v) s = .next t ∧ t.falri = { s.falri with enumOut := false } ∧
      t.obj O.CHAIN_LEN = (v.toNat + 255) % 256 ∧ t.only s [.falri] [keyOf O.CHAIN_LEN]) ∧
  (∀ (s : State) (v : Byte), s.held = false → s.chainHead = false → s.obj O.CHAIN_ADDR = 0 → v.toNat < 64 →
    ∃ t, exec (.chainEnumFrame v) s = .next t ∧ t.obj O.CHAIN_ADDR_ACT = v.toNat ∧
      t.out = .chainFrame (beBytes 1 (v.toNat + 1)) :: s.out ∧ t.only s [.out] [keyOf O.CHAIN_ADDR_ACT]) ∧
  (∀ (s : State) (v : Byte), s.held = false → s.chainHead = false → s.obj O.CHAIN_ADDR = 0 → 64 ≤ v.toNat →
    ∃ t, exec (.chainEnumFrame v) s = .next t ∧ t.obj O.CHAIN_ADDR_ACT = 0 ∧
      t.obj O.DICT_FLAGS = (s.obj O.DICT_FLAGS ||| 4) % 2 ^ 32 ∧
      t.only s (.out :: flagParts) (keyOf O.CHAIN_ADDR_ACT :: flagKeys O.DICT_FLAGS)) ∧
  (∀ s : State, s.held = false → s.chainHead = true → s.falri.enumOut = true →
    ∃ t, exec .chainBreak s = .next t ∧ t.falri.enumOut = false ∧ t.obj O.DICT_FLAGS = (s.obj O.DICT_FLAGS ||| 8) % 2 ^ 32 ∧
      t.only s (.falri :: flagParts) (flagKeys O.DICT_FLAGS)) ∧
  (∀ s : State, s.held = false → s.chainHead = false ∨ s.falri.enumOut = false → exec .chainBreak s = .next s)

/-- The configuration store (R391, R393, R394, R398). COMMIT, INSTALL and ERASE_BOTH do nothing while a job is BUSY; a commit too long fails TOO_LONG, an install
of a bad image fails BAD_IMAGE; otherwise a job begins, BUSY. A commit that verifies is loaded under its SEQ and raises CFG_DONE; one that does
not fails VERIFY; ERASE_BOTH leaves both headers erased. Another code is refused. -/
def Obligations.ConfigStoreWorks : Prop :=
  (∀ s : State, s.held = false → s.cfgBusy = true →
    exec .cfgCommit s = .next s ∧ exec .install s = .next s ∧ exec .eraseBoth s = .next s ∧
      ∀ c, exec (.cfgCmdOther c) s = .next s) ∧
  (∀ s : State, s.held = false → s.cfgBusy = false → bodyMax < s.commitBody.length →
    ∃ t, exec .cfgCommit s = .next t ∧ t.status O.CFG_STATUS 0 = 5 ∧ bits (t.obj O.CFG_STATUS 0) 15 12 = 3 ∧
      t.only s [] [keyOf O.CFG_STATUS]) ∧
  (∀ s : State, s.held = false → s.cfgBusy = false → s.commitBody.length ≤ bodyMax →
    ∃ t h, exec .cfgCommit s = .next t ∧ t.status O.CFG_STATUS 0 = 1 ∧ t.falri = { s.falri with
        jobKind := 1, job := some { copy := s.nextCopy, seq := s.nextCfgSeq, body := s.commitBody, hdr := h } } ∧
      (∀ a, Tab.get t.flash 0xFF a = if cfgBase s.nextCopy ≤ a ∧
        a < cfgBase s.nextCopy + 65536 * sectorsOf s.commitBody.length then 0xFF else Tab.get s.flash 0xFF a) ∧
      t.only s [.falri, .flash, .free] [keyOf O.CFG_STATUS]) ∧
  (∀ s : State, s.held = false → s.cfgBusy = false → imageOkFor cfgMagic (s.blob O.CFG_UPLOAD).bytes = false →
    ∃ t, exec .install s = .next t ∧ t.status O.CFG_STATUS 0 = 5 ∧ bits (t.obj O.CFG_STATUS 0) 15 12 = 2 ∧
      t.only s [] [keyOf O.CFG_STATUS]) ∧
  (∀ s : State, s.held = false → s.cfgBusy = false → imageOkFor cfgMagic (s.blob O.CFG_UPLOAD).bytes = true →
    ∃ t h, exec .install s = .next t ∧ t.status O.CFG_STATUS 0 = 1 ∧ t.falri.jobKind = 2 ∧
      t.falri.job = some ⟨s.nextCopy, s.nextCfgSeq, ((s.blob O.CFG_UPLOAD).bytes.drop 32).take
        (octets (s.blob O.CFG_UPLOAD).bytes 8 4), h⟩ ∧
      t.only s [.falri, .flash] [keyOf O.CFG_STATUS]) ∧
  (∀ s : State, s.held = false → s.cfgBusy = false →
    ∃ t, exec .eraseBoth s = .next t ∧ t.status O.CFG_STATUS 0 = 1 ∧ t.falri = { s.falri with jobKind := 3, job := none } ∧
      (∀ c < 2, ∀ k < 65536, Tab.get t.flash 0xFF (cfgBase c + k) = 0xFF) ∧ t.only s [.falri, .flash] [keyOf O.CFG_STATUS]) ∧
  (∀ (s : State) (v : Bool), s.held = false → s.falri.job = none ∨ s.falri.jobKind ≠ 1 → exec (.commitComplete v) s = .next s) ∧
  (∀ (s : State) (v : Bool), s.held = false → s.falri.job = none ∨ s.falri.jobKind ≠ 2 → exec (.installComplete v) s = .next s) ∧
  (∀ s : State, s.held = false → s.falri.jobKind ≠ 3 → exec .eraseComplete s = .next s) ∧
  (∀ (s : State) (j : FlashJob), s.held = false → s.falri.job = some j → s.falri.jobKind = 1 → j.hdr.length = 32 →
    ∃ t, exec (.commitComplete true) s = .next t ∧ t.obj O.CFG_LOADED = j.copy % 256 ∧ t.obj O.CFG_SEQ = j.seq % 2 ^ 32 ∧
      t.status O.CFG_STATUS 0 = 2 ∧ t.obj O.DICT_FLAGS = (s.obj O.DICT_FLAGS ||| 64) % 2 ^ 32 ∧
      t.flashRead (cfgBase j.copy) 32 = j.hdr ∧ t.flashRead (cfgBase j.copy + 32) j.body.length = j.body ∧
      t.falri.job = none ∧ t.only s (.falri :: .flash :: flagParts)
        (keyOf O.CFG_LOADED :: keyOf O.CFG_SEQ :: keyOf O.CFG_STATUS :: flagKeys O.DICT_FLAGS)) ∧
  (∀ (s : State) (j : FlashJob), s.held = false → s.falri.job = some j → s.falri.jobKind = 1 →
    ∃ t, exec (.commitComplete false) s = .next t ∧ t.status O.CFG_STATUS 0 = 5 ∧ bits (t.obj O.CFG_STATUS 0) 15 12 = 1 ∧
      t.obj O.DICT_FLAGS = (s.obj O.DICT_FLAGS ||| 128) % 2 ^ 32 ∧ t.falri.job = none ∧
      t.only s (.falri :: .flash :: .free :: flagParts) (keyOf O.CFG_STATUS :: flagKeys O.DICT_FLAGS)) ∧
  (∀ (s : State) (j : FlashJob), s.held = false → s.falri.job = some j → s.falri.jobKind = 2 → j.hdr.length = 32 →
    ∃ t, exec (.installComplete true) s = .next t ∧ t.status O.CFG_STATUS 0 = 2 ∧ t.falri.job = none ∧
      t.flashRead (cfgBase j.copy) 32 = j.hdr ∧ t.flashRead (cfgBase j.copy + 32) j.body.length = j.body ∧
      t.only s [.falri, .flash] [keyOf O.CFG_STATUS]) ∧
  (∀ (s : State) (j : FlashJob), s.held = false → s.falri.job = some j → s.falri.jobKind = 2 →
    ∃ t, exec (.installComplete false) s = .next t ∧ t.status O.CFG_STATUS 0 = 5 ∧ t.falri.job = none ∧
      t.only s [.falri, .flash, .free] [keyOf O.CFG_STATUS]) ∧
  (∀ s : State, s.held = false → s.falri.jobKind = 3 →
    ∃ t, exec .eraseComplete s = .next t ∧ t.status O.CFG_STATUS 0 = 2 ∧
      t.falri = { s.falri with job := none, jobKind := 0 } ∧ t.only s [.falri] [keyOf O.CFG_STATUS]) ∧
  (∀ (s : State) (c : Byte), s.held = false → s.cfgBusy = false → c.toNat = 0 ∨ 3 < c.toNat →
    ∃ t, exec (.cfgCmdOther c) s = .next t ∧ t.status O.CFG_STATUS 0 = 4 ∧ t.only s [] [keyOf O.CFG_STATUS]) ∧
  (∀ (s : State) (c : Byte), s.held = false → 1 ≤ c.toNat → c.toNat ≤ 3 → exec (.cfgCmdOther c) s = .next s)

/-- The hierarchy forms (R400 to R412, R418). A poll without an answer is counted, three in a row make the peer stale, an advertisement that was read replaces
the last; a fetched registry takes the version that it was fetched for; the active manager assigns an ID to a part without one; DISCOVER goes out
with DST ALL, in MGMT blocks on a native port; DEV_PORT lapses to 0xFF after 3 × DISC_INTERVAL; an AUTO part that has heard no better root
for 3 s becomes a provisional root of rank 0. While E9 stands in FAULT nothing is polled or sent. -/
def Obligations.HierarchyForms : Prop :=
  (∀ (s : State) (a : BitVec 48) (l : List Bytes), s.held = false → s.engUp 9 = false →
    exec (.neighbourPoll a l) s = .next s ∧ exec .discoverSend s = .next s) ∧
  (∀ s : State, s.held = false → s.engUp 9 = true →
    ∃ t, exec (.neighbourPoll 0 []) s = .next t ∧
      (∀ p < 48, Tab.get t.hier.missed 0 p = min 3 (Tab.get s.hier.missed 0 p + 1)) ∧
      (∀ p < 48, t.advert p = if 2 ≤ Tab.get s.hier.missed 0 p then [] else s.advert p) ∧
      t.only s (.hier :: .falri :: .out :: .lanes :: .lports :: .tables :: flagParts)
        (keyOf O.HIER_RANK :: keyOf O.TABLE_COMMIT :: keyOf O.TABLE_FLAGS :: flagKeys O.HIER_FLAGS)) ∧
  (∀ (s : State) (p : Fin 48) (b : Bytes), s.held = false → s.engUp 9 = true → s.polled p = true → b.length = 32 →
    ∃ t, exec (.neighbourPoll (1#48 <<< p.val) [b]) s = .next t ∧ t.advert p = b ∧ Tab.get t.hier.missed 0 p = 0) ∧
  (∀ (s : State) (v : Bytes), s.held = false → s.hier.fetching = false → exec (.registryFetchDone v) s = .next s) ∧
  (∀ (s : State) (v : Bytes), s.held = false → s.hier.fetching = true →
    ∃ t, exec (.registryFetchDone v) s = .next t ∧ t.obj O.EP_REG_VER = s.hier.fetchVer % 2 ^ 32 ∧
      t.hier = { s.hier with fetching := false, registry := registryFrom 0 v [] } ∧
      t.only s (.hier :: .tables :: flagParts)
        (keyOf O.EP_REG_VER :: keyOf O.TABLE_COMMIT :: keyOf O.TABLE_FLAGS :: flagKeys O.HIER_FLAGS)) ∧
  (∀ (s : State) (x : BitVec 64) (d : BitVec 16), s.held = false → s.activeManager = false →
    exec (.discoverResponse x d) s = .next s ∧ exec .discoverSend s = .next s) ∧
  (∀ (s : State) (x : BitVec 64) (k : Nat), s.held = false → s.activeManager = true → s.idFor x.toNat = some k →
    ∃ t, exec (.discoverResponse x 0) s = .next t ∧ Tab.get t.hier.idMap 0 k = x.toNat ∧
      (∀ j, j ≠ k → Tab.get t.hier.idMap 0 j = Tab.get s.hier.idMap 0 j) ∧
      t.falri.notifySeq = (s.falri.notifySeq + 1) % 65536 ∧ t.only s [.hier, .falri, .out, .lanes, .lports] []) ∧
  (∀ (s : State) (x : BitVec 64), s.held = false → s.activeManager = true → s.idFor x.toNat = none →
    ∃ t, exec (.discoverResponse x 0) s = .next t ∧ t.obj O.HIER_FLAGS = (s.obj O.HIER_FLAGS ||| 32) % 2 ^ 32 ∧
      t.only s flagParts (flagKeys O.HIER_FLAGS)) ∧
  (∀ (s : State) (x : BitVec 64) (d : BitVec 16), s.held = false → s.activeManager = true → d ≠ 0 →
    Tab.get s.hier.reports 0 d.toNat = 0 ∨ Tab.get s.hier.reports 0 d.toNat = x.toNat →
    ∃ t, exec (.discoverResponse x d) s = .next t ∧
      t.hier = { s.hier with reports := Tab.set s.hier.reports 0 d.toNat x.toNat } ∧ t.only s [.hier] []) ∧
  (∀ (s : State) (p : Nat), s.held = false → s.engUp 9 = true → s.activeManager = true → s.lowerPorts = [p] → s.activeLanes p ≠ [] →
    (s.lport p).hb = [] → (s.lport p).mgmt = [] → s.frameWaits p = false →
    ∃ t, exec .discoverSend s = .next t ∧ t.falri.notifySeq = (s.falri.notifySeq + 1) % 65536 ∧
      (∀ m ∈ fragments (Msg.bytes ⟨8, s.falri.notifySeq, addrAll, s.ownAddr, 16, 0, 0, []⟩), ∃ n v, .block p n 0x87 m v ∈ t.out) ∧
      t.only s [.falri, .out, .lanes, .lports] []) ∧
  (∀ (s : State) (d : BitVec 10), s.held = false → Tab.get s.hier.devPort 0xFF d.toNat = 0xFF ∨
    s.elapsed (Tab.get s.hier.devAt 0 d.toNat) (3000000 * s.obj O.DISC_INTERVAL) = false → exec (.devPortExpire d) s = .next s) ∧
  (∀ (s : State) (d : BitVec 10), s.held = false → Tab.get s.hier.devPort 0xFF d.toNat ≠ 0xFF →
    s.elapsed (Tab.get s.hier.devAt 0 d.toNat) (3000000 * s.obj O.DISC_INTERVAL) = true →
    ∃ t, exec (.devPortExpire d) s = .next t ∧ t.hier = { s.hier with devPort := Tab.set s.hier.devPort 0xFF d.toNat 0xFF } ∧
      t.only s (.hier :: .tables :: flagParts) (keyOf O.TABLE_COMMIT :: keyOf O.TABLE_FLAGS :: flagKeys O.HIER_FLAGS)) ∧
  (∀ s : State, s.held = false → s.modeStrap ≠ 2 ∨ s.hier.prov = true ∨ (∃ p ∈ s.freshPorts,
      (advField (s.advert p) 0 1 ≠ 3 ∧ advField (s.advert p) 1 1 ≤ 8) ∨ advKey (s.advert p) < rootKey 1 s.fuses.serial) ∨
      (∀ a, s.hier.aloneAt = some a → s.elapsed a 3000000000 = false) →
    exec .provRoot s = .next s) ∧
  (∀ (s : State) (a : Nat), s.held = false → s.modeStrap = 2 → s.hier.prov = false →
    (∀ p ∈ s.freshPorts, (advField (s.advert p) 0 1 = 3 ∨ 8 < advField (s.advert p) 1 1) ∧
      rootKey 1 s.fuses.serial ≤ advKey (s.advert p)) → s.hier.aloneAt = some a → s.elapsed a 3000000000 = true →
    ∃ t, exec .provRoot s = .next t ∧ t.hier.prov = true ∧ t.adoptedKey = rootKey 1 s.fuses.serial ∧ t.rank = 0 ∧
      t.only s (.hier :: flagParts) (keyOf O.HIER_RANK :: flagKeys O.HIER_FLAGS))

/-- Heartbeats and the lease (R413 to R421, R429). An active twin's heartbeat is a renewal with the next number, on TWIN_PORT and on the pins; a
heartbeat of another pair is counted; one with this part's own ID is a conflict that fences it; a starting twin that hears an active one
synchronises; a standby or syncing twin keeps the newest renewal and answers it with a heartbeat, which acknowledges it at the active; a path
without heartbeats is degraded; 50 ms after the newest acknowledged renewal was sent the lease ends and fences the active; the start-up wait
ends ACTIVE; CLAIM makes an isolated twin active. -/
def Obligations.HeartbeatsAndLease : Prop :=
  (∀ s : State, s.held = false → s.twin.pair = 0 ∨ s.obj O.TWIN_STATE = 0 ∨ s.engUp 9 = false → exec .hbSend s = .next s) ∧
  (∀ (s : State) (n : Nat) (ns : List Nat), s.held = false → s.engUp 9 = true → s.twin.pair ≠ 0 → s.obj O.TWIN_STATE ≠ 0 →
    s.twin.port < 48 → s.activeLanes s.twin.port = n :: ns → (s.lport s.twin.port).hb = [] →
    ∃ t, exec .hbSend s = .next t ∧
      t.twin = (if s.obj O.TWIN_STATE = 2 then { s.twin with
          leaseSeq := (s.twin.leaseSeq + 1) % 65536,
          sent := (((s.twin.leaseSeq + 1) % 65536, s.hearth.cycles) :: s.twin.sent).take 32768 } else s.twin) ∧
      t.out.head? = some (.pinsHb (beBytes 13 t.hbBody ++ beBytes 2 (crc16 (beBytes 13 t.hbBody)))) ∧ (∃ v, .block s.twin.port n 0xB4 t.hbBody v ∈ t.out) ∧
      t.only s [.twin, .out, .lanes, .lports] []) ∧
  (∀ (s : State) (p : HbPath) (b : Body) (f : Option Bool), s.held = false → blk b 106 91 ≠ s.twin.pair →
    ∃ t, exec (.hbReceive p b f) s = .next t ∧
      t.obj O.TWIN_HB_FOREIGN = (s.count O.TWIN_HB_FOREIGN).obj O.TWIN_HB_FOREIGN ∧
      t.only s [.lanes, .lports] [keyOf O.TWIN_HB_FOREIGN]) ∧
  (∀ (s : State) (p : HbPath) (b : Body) (f : Option Bool), s.held = false → blk b 106 91 = s.twin.pair →
    s.twin.pair = 0 ∨ 6 ≤ blk b 119 117 → ∃ t, exec (.hbReceive p b f) s = .next t ∧ t.only s [.lanes, .lports] []) ∧
  (∀ (s : State) (p : HbPath) (b : Body) (f : Option Bool), s.held = false → blk b 106 91 = s.twin.pair → s.twin.pair ≠ 0 →
    blk b 119 117 < 6 → blk b 116 107 = s.deviceId → s.deviceId ≠ 0 → s.twin.claimed = false →
    ∃ t, exec (.hbReceive p b f) s = .next t ∧ t.obj O.TWIN_STATE = 5 ∧
      t.twin = { s.twin with conflict := true, acting := false, lastSeg := [] } ∧
      t.obj O.TWIN_FLAGS = (s.obj O.TWIN_FLAGS ||| 512) % 2 ^ 32 ∧ bit (t.obj O.TWIN_PATH_STATE) (b2n (p == .pins)) = true ∧
      t.only s (.twin :: .lanes :: .lports :: .tio :: flagParts)
        (keyOf O.TWIN_STATE :: keyOf O.TWIN_PATH_STATE :: keyOf O.CMD_ISSUE_STATUS :: flagKeys O.TWIN_FLAGS)) ∧
  (∀ (s : State) (p : HbPath) (b : Body) (f : Option Bool), s.held = false → blk b 106 91 = s.twin.pair → s.twin.pair ≠ 0 →
    blk b 119 117 = 1 → blk b 116 107 ≠ s.deviceId ∨ s.deviceId = 0 → s.obj O.TWIN_STATE = 1 →
    ∃ t, exec (.hbReceive p b f) s = .next t ∧ t.obj O.TWIN_STATE = 3 ∧
      t.twin = { s.twin with
        conflict := false, peerRole := 1, acting := false, lastSeg := [], committed := false, journal := [], handover := false,
        heard := true, leaseAt := s.hearth.cycles, leaseSeq := blk b 90 75 } ∧
      t.out.head? = some (.pinsHb (beBytes 13 t.hbBody ++ beBytes 2 (crc16 (beBytes 13 t.hbBody)))) ∧ bit (t.obj O.TWIN_PATH_STATE) (b2n (p == .pins)) = true ∧
      t.only s [.twin, .out, .lanes, .lports, .tio] [keyOf O.TWIN_STATE, keyOf O.TWIN_PATH_STATE, keyOf O.CMD_ISSUE_STATUS]) ∧
  (∀ (s : State) (p : HbPath) (b : Body) (f : Option Bool), s.held = false → blk b 106 91 = s.twin.pair → s.twin.pair ≠ 0 →
    blk b 119 117 = 1 → blk b 116 107 ≠ s.deviceId ∨ s.deviceId = 0 → s.obj O.TWIN_STATE = 3 →
    s.twin.heard = false ∨ 0 < toSigned 16 ((blk b 90 75 + 65536 - s.twin.leaseSeq) % 65536) →
    ∃ t, exec (.hbReceive p b f) s = .next t ∧
      t.twin = { s.twin with conflict := false, peerRole := 1, heard := true, leaseAt := s.hearth.cycles, leaseSeq := blk b 90 75 } ∧
      t.out.head? = some (.pinsHb (beBytes 13 t.hbBody ++ beBytes 2 (crc16 (beBytes 13 t.hbBody)))) ∧ t.only s [.twin, .out, .lanes, .lports] [keyOf O.TWIN_PATH_STATE]) ∧
  (∀ (s : State) (p : HbPath) (b : Body) (f : Option Bool), s.held = false → blk b 106 91 = s.twin.pair → s.twin.pair ≠ 0 →
    blk b 119 117 = 1 → blk b 116 107 ≠ s.deviceId ∨ s.deviceId = 0 → s.obj O.TWIN_STATE = 3 →
    s.twin.heard = true → toSigned 16 ((blk b 90 75 + 65536 - s.twin.leaseSeq) % 65536) ≤ 0 →
    ∃ t, exec (.hbReceive p b f) s = .next t ∧ t.twin = { s.twin with conflict := false, peerRole := 1 } ∧
      t.only s [.twin, .lanes, .lports] [keyOf O.TWIN_PATH_STATE]) ∧
  (∀ (s : State) (p : HbPath) (b : Body) (f : Option Bool) (a : Nat) (r : List (Nat × Nat)), s.held = false → blk b 106 91 = s.twin.pair → s.twin.pair ≠ 0 →
    blk b 119 117 = 3 → blk b 116 107 ≠ s.deviceId ∨ s.deviceId = 0 → s.obj O.TWIN_STATE = 2 → s.twin.handover = false →
    s.twin.sent = (blk b 90 75, a) :: r →
    ∃ t, exec (.hbReceive p b f) s = .next t ∧
      t.twin = { s.twin with conflict := false, peerRole := 3, ackSeq := some (blk b 90 75), leaseAt := a, sent := [] } ∧
      t.only s [.twin, .lanes, .lports] [keyOf O.TWIN_PATH_STATE]) ∧
  (∀ (s : State) (p : HbPath), s.held = false →
    bit (s.obj O.TWIN_PATH_STATE) 0 = false ∨ bit (s.obj O.TWIN_PATH_STATE) 1 = false → exec (.pathDegraded p) s = .next s) ∧
  (∀ (s : State) (p : HbPath), s.held = false → bit (s.obj O.TWIN_PATH_STATE) 0 = true → bit (s.obj O.TWIN_PATH_STATE) 1 = true →
    ∃ t, exec (.pathDegraded p) s = .next t ∧ bit (t.obj O.TWIN_PATH_STATE) (b2n (p == .pins)) = false ∧
      bit (t.obj O.TWIN_PATH_STATE) (b2n !(p == .pins)) = true ∧
      t.obj O.TWIN_FLAGS = (s.obj O.TWIN_FLAGS ||| 2) % 2 ^ 32 ∧
      t.only s flagParts (keyOf O.TWIN_PATH_STATE :: flagKeys O.TWIN_FLAGS)) ∧
  (∀ s : State, s.held = false → s.obj O.TWIN_STATE ≠ 2 ∨ s.twin.ackSeq = none ∨ s.elapsed s.twin.leaseAt 50000000 = false →
    exec .leaseExpire s = .next s) ∧
  (∀ s : State, s.held = false → s.obj O.TWIN_STATE = 2 → s.twin.ackSeq.isSome = true → s.elapsed s.twin.leaseAt 50000000 = true →
    ∃ t, exec .leaseExpire s = .next t ∧ t.obj O.TWIN_STATE = 5 ∧ t.twin = { s.twin with acting := false, lastSeg := [] } ∧
      t.obj O.TWIN_FLAGS = (s.obj O.TWIN_FLAGS ||| 8) % 2 ^ 32 ∧
      t.only s (.twin :: .tio :: flagParts) (keyOf O.TWIN_STATE :: keyOf O.CMD_ISSUE_STATUS :: flagKeys O.TWIN_FLAGS)) ∧
  (∀ s : State, s.held = false → s.obj O.TWIN_STATE ≠ 1 → exec .startingWaitExpire s = .next s) ∧
  (∀ s : State, s.held = false → s.obj O.TWIN_STATE = 1 →
    ∃ t, exec .startingWaitExpire s = .next t ∧ t.obj O.TWIN_STATE = 2 ∧ t.twin.acting = true ∧ t.twin.ackSeq = none ∧
      t.only s [.twin] [keyOf O.TWIN_STATE]) ∧
  (∀ s : State, s.held = false → s.twinBusy = true → exec .claim s = .next s ∧ exec .handover s = .next s) ∧
  (∀ s : State, s.held = false → s.twinBusy = false → s.twin.pair ≠ 0 → s.obj O.TWIN_STATE = 1 ∨ s.obj O.TWIN_STATE = 5 →
    ∃ t, exec .claim s = .next t ∧ t.obj O.TWIN_STATE = 2 ∧ t.twin.acting = true ∧ t.status O.TWIN_STATUS 0 = 2 ∧
      t.twin.claimed = (s.twin.conflict || bit (s.obj O.TWIN_FLAGS) 9) ∧ t.only s [.twin] [keyOf O.TWIN_STATE, keyOf O.TWIN_STATUS]) ∧
  (∀ s : State, s.held = false → s.twinBusy = false → s.twin.pair = 0 ∨ (s.obj O.TWIN_STATE ≠ 1 ∧ s.obj O.TWIN_STATE ≠ 5) →
    ∃ t, exec .claim s = .next t ∧ t.status O.TWIN_STATUS 0 = 4 ∧
      bits (t.obj O.TWIN_STATUS 0) 15 12 = (if s.twin.pair = 0 then 1 else 0) ∧ t.only s [] [keyOf O.TWIN_STATUS])

/-- Epochs, takeover and handover (R422 to R429, R433). An epoch is sent while the streams run; a complete epoch whose CRC checks is committed whole and makes a
syncing twin standby, another is discarded with EPOCH_BAD; a journal entry is held until an epoch has been committed, and is applied in its order; a
takeover makes the twin active; HANDOVER needs an active twin with a standby; ABORT_COPY drops the last segment, or loses to it. -/
def Obligations.TwinsHandOver : Prop :=
  (∀ s : State, s.held = false → s.streaming = false ∨ s.engUp 9 = false → exec .epochSend s = .next s) ∧
  (∀ s : State, s.held = false → s.streaming = true → s.engUp 9 = true →
    ∃ t, exec .epochSend s = .next t ∧ t.twin.epochNum = (s.twin.epochNum + 1) % 2 ^ 32 ∧ t.twin.lastSeg ≠ [] ∧
      t.only s [.twin, .falri, .out, .lanes, .lports] [keyOf O.TWIN_EPOCH_TX]) ∧
  (∀ s : State, s.held = false → s.manager = false ∨ (s.obj O.TWIN_STATE ≠ 3 ∧ s.obj O.TWIN_STATE ≠ 4) ∨
    (s.blob O.TWIN_EPOCH_RX).len = 0 → exec .epochCommit s = .next s) ∧
  (∀ (s : State) (l : Bytes), s.held = false → s.manager = true → s.obj O.TWIN_STATE = 3 ∨ s.obj O.TWIN_STATE = 4 →
    (s.blob O.TWIN_EPOCH_RX).bytes = l → (s.blob O.TWIN_EPOCH_RX).len ≠ 0 → l.length < 16 + octets l 8 4 ∨
      octets l 12 4 ≠ crc32 (l.take 12 ++ (l.drop 16).take (octets l 8 4)) →
    ∃ t, exec .epochCommit s = .next t ∧ t.blob O.TWIN_EPOCH_RX = Dflt.blob ∧
      t.obj O.TWIN_FLAGS = (s.obj O.TWIN_FLAGS ||| 64) % 2 ^ 32 ∧ t.only s (.blobs :: flagParts) (flagKeys O.TWIN_FLAGS)) ∧
  (∀ (s : State) (l : Bytes), s.held = false → s.manager = true → s.obj O.TWIN_STATE = 3 ∨ s.obj O.TWIN_STATE = 4 →
    (s.blob O.TWIN_EPOCH_RX).bytes = l → (s.blob O.TWIN_EPOCH_RX).len ≠ 0 → 16 + octets l 8 4 ≤ l.length →
    octets l 12 4 = crc32 (l.take 12 ++ (l.drop 16).take (octets l 8 4)) →
    ∃ t, exec .epochCommit s = .next t ∧ t.blob O.TWIN_EPOCH_RX = Dflt.blob ∧
      t.obj O.TWIN_EPOCH_COMMIT = octets l 0 4 % 2 ^ 32 ∧ t.twin.committed = true ∧ t.obj O.TWIN_STATE = 4) ∧
  (∀ (s : State) (v : Bytes), s.held = false → s.manager = false ∨ (s.obj O.TWIN_STATE ≠ 3 ∧ s.obj O.TWIN_STATE ≠ 4) ∨
    v.length < 4 ∨ (s.twin.committed = true ∧ later32 (octets v 0 4) s.twin.jseq = false) →
    exec (.journalReceive v) s = .next s) ∧
  (∀ (s : State) (v : Bytes), s.held = false → s.manager = true → s.obj O.TWIN_STATE = 3 ∨ s.obj O.TWIN_STATE = 4 →
    4 ≤ v.length → s.twin.committed = false →
    ∃ t, exec (.journalReceive v) s = .next t ∧ t.twin = { s.twin with
        journal := s.twin.journal.filter (fun e => e.1 != octets v 0 4) ++ [(octets v 0 4, v.drop 4)] } ∧ t.only s [.twin] []) ∧
  (∀ (s : State) (v : Bytes), s.held = false → s.manager = true → s.obj O.TWIN_STATE = 3 ∨ s.obj O.TWIN_STATE = 4 →
    4 ≤ v.length → s.twin.committed = true → s.twin.journal = [] → octets v 0 4 = (s.twin.jseq + 1) % 2 ^ 32 →
    later32 (octets v 0 4) s.twin.jseq = true →
    ∃ t, exec (.journalReceive v) s = .next t ∧ t.twin.jseq = octets v 0 4 ∧ t.twin.journal = [(octets v 0 4, v.drop 4)]) ∧
  (∀ s : State, s.held = false → (s.obj O.TWIN_STATE ≠ 3 ∧ s.obj O.TWIN_STATE ≠ 4) ∨ s.elapsed s.twin.leaseAt 60000000 = false →
    exec .takeover s = .next s) ∧
  (∀ s : State, s.held = false → s.obj O.TWIN_STATE = 3 ∨ s.obj O.TWIN_STATE = 4 → s.elapsed s.twin.leaseAt 60000000 = true →
    ∃ t, exec .takeover s = .next t ∧ t.obj O.TWIN_STATE = 2 ∧ t.twin.acting = true ∧ t.twin.journal = [] ∧
      t.blob O.TWIN_EPOCH_RX = Dflt.blob ∧ bit (t.obj O.TWIN_FLAGS) 2 = true ∧
      t.obj O.TWIN_TAKEOVERS = (s.count O.TWIN_TAKEOVERS).obj O.TWIN_TAKEOVERS) ∧
  (∀ s : State, s.held = false → s.twinBusy = false →
    s.twin.pair = 0 ∨ s.obj O.TWIN_STATE ≠ 2 ∨ s.twin.peerRole ≠ 3 →
    ∃ t, exec .handover s = .next t ∧ t.status O.TWIN_STATUS 0 = 4 ∧ bits (t.obj O.TWIN_STATUS 0) 15 12 =
      (if s.twin.pair = 0 then 1 else if s.obj O.TWIN_STATE ≠ 2 then 2 else 3) ∧ t.only s [] [keyOf O.TWIN_STATUS]) ∧
  (∀ s : State, s.held = false → s.twinBusy = false → s.twin.pair ≠ 0 → s.obj O.TWIN_STATE = 2 → s.twin.peerRole = 3 →
    ∃ t, exec .handover s = .next t ∧ t.status O.TWIN_STATUS 0 = 1 ∧ t.twin.acting = false ∧ t.twin.handover = true ∧
      t.only s [.twin, .falri, .out, .lanes, .lports] [keyOf O.TWIN_STATUS, keyOf O.TWIN_EPOCH_TX]) ∧
  (∀ s : State, s.held = false → s.twin.handover = false → exec .handoverTimeout s = .next s) ∧
  (∀ s : State, s.held = false → s.twin.handover = true →
    ∃ t, exec .handoverTimeout s = .next t ∧ t.obj O.TWIN_STATE = 2 ∧ t.twin.acting = true ∧ t.twin.handover = false ∧
      t.status O.TWIN_STATUS 0 = 5 ∧ bits (t.obj O.TWIN_STATUS 0) 15 12 = 3 ∧
      t.only s [.twin] [keyOf O.TWIN_STATE, keyOf O.TWIN_STATUS]) ∧
  (∀ (s : State) (c : Bool), s.held = false → s.twin.lastSeg = [] →
    ∃ t, exec (.abortCopy c) s = .next t ∧ t.status O.TWIN_STATUS 0 = 4 ∧ t.only s [] [keyOf O.TWIN_STATUS]) ∧
  (∀ s : State, s.held = false → s.twin.lastSeg ≠ [] →
    ∃ t, exec (.abortCopy false) s = .next t ∧ t.status O.TWIN_STATUS 0 = 3 ∧ t.twin = { s.twin with lastSeg := [] } ∧
      t.only s [.twin] [keyOf O.TWIN_STATUS]) ∧
  (∀ s : State, s.held = false → s.twin.lastSeg ≠ [] →
    ∃ t, exec (.abortCopy true) s = .next t ∧ t.status O.TWIN_STATUS 0 = 2 ∧ bit (t.obj O.TWIN_STATUS 0) 8 = true ∧
      t.obj O.TWIN_EPOCH_TX = s.twin.epochNum % 2 ^ 32 ∧ t.twin.lastSeg = [] ∧ bit (t.obj O.TWIN_FLAGS) 7 = true)

/-- The traps of the engines (R435 to R438, R449, R454, R492). ECALL, EBREAK, an illegal instruction, a CSR that is absent or read-only, and a bad fetch, load or
store enter the handler at mtvec: mepc holds the pc, mcause and mtval what the rules name, MIE goes to MPIE and is cleared. WFI sleeps unless a source is
presented. A trap entry loses three slots, a WFI retires. An engine that does not run executes nothing. The value of mtval that the spec leaves open is free (log entry 3). -/
def Obligations.EnginesTrap : Prop :=
  (∀ (s : State) (e : Fin 12) (v : EngEvent), s.held = false → s.engState e ≠ 1 →
    ∀ i ∈ [Instr.ecall e, .ebreak e, .wfi e, .trap e v, .machineExternalInterrupt e], exec i s = .next s) ∧
  (∀ (s : State) (e : Fin 12) (v : EngEvent), s.held = false → s.engState e = 1 →
    ∀ c ∈ [(Instr.ecall e, (true, 11, some 0)), (.ebreak e, (true, 3, none)),
        (.machineExternalInterrupt e, ((s.eng e).mie && (s.eng e).meie && (s.presented e).isSome, 0x8000000B, some 0)),
        (.trap e v, match trapCause e v with
          | some (k, a) => (!(eccEvent v && decide (e.val < 10)), k, a)
          | none => (false, 0, none))],
    c.2.1 = true →
    ∃ t, exec c.1 s = .next t ∧ (∀ j, j ≠ e.val → t.eng j = s.eng j) ∧
      (∃ tval, t.eng e = { s.eng e with mepc := (s.eng e).pc, mcause := c.2.2.1, mtval := tval, mpie := (s.eng e).mie,
                                        mie := false, pc := (s.eng e).mtvec } ∧ ∀ a, c.2.2.2 = some a → tval = a) ∧
      t.obj O.ENG_SLOT_BAD_SPEC (e + 1) = (s.count O.ENG_SLOT_BAD_SPEC (e + 1) 3).obj O.ENG_SLOT_BAD_SPEC (e + 1) ∧
      t.only s [.engines, .free] [O.ENG_SLOT_BAD_SPEC.key (e + 1)]) ∧
  (∀ (s : State) (e : Fin 12), s.held = false → s.engState e = 1 →
    ((s.eng e).mie && (s.eng e).meie && (s.presented e).isSome) = false → exec (.machineExternalInterrupt e) s = .next s) ∧
  (∀ (s : State) (e : Fin 12) (v : EngEvent), s.held = false → trapCause e v = none → exec (.trap e v) s = .next s) ∧
  (∀ (e : Nat) (a : Word32) (w : Fin 5), w.val ∈ [1, 2, 4] →
    trapCause e .illegal = some (2, none) ∧
    (∀ n : BitVec 12, n.toNat ∉ csrList → trapCause e (.csr n false) = some (2, none)) ∧
    (∀ n : BitVec 12, 0xC00 ≤ n.toNat → trapCause e (.csr n true) = some (2, none)) ∧
    (0x10000 ≤ a.toNat → trapCause e (.fetch a) = some (1, some a.toNat)) ∧
    (a.toNat < 0x10000 → trapCause e (.fetch a) = none) ∧
    (a.toNat % w.val ≠ 0 → trapCause e (.load a w) = some (4, some a.toNat) ∧ trapCause e (.store a w) = some (6, some a.toNat)) ∧
    (a.toNat % w.val = 0 → 0x20000 ≤ a.toNat → a.toNat < 0x20000000 ∨ 0x70000000 ≤ a.toNat →
      trapCause e (.load a w) = some (5, some a.toNat) ∧ trapCause e (.store a w) = some (7, some a.toNat)) ∧
    (a.toNat % w.val = 0 → a.toNat < 0x10000 → trapCause e (.store a w) = some (7, some a.toNat) ∧
      trapCause e (.load a w) = if w.val = 4 then none else some (5, some a.toNat)) ∧
    (a.toNat % w.val = 0 → 0x10000 ≤ a.toNat → a.toNat < 0x20000 → trapCause e (.load a w) = none ∧ trapCause e (.store a w) = none) ∧
    (a.toNat % w.val = 0 → 0x20000000 ≤ a.toNat → a.toNat < 0x20080000 → trapCause e (.load a w) = none ∧
      trapCause e (.store a w) = if e < 10 then none else some (7, some a.toNat)) ∧
    (a.toNat % w.val = 0 → 0x40000000 ≤ a.toNat → a.toNat < 0x40010000 → w.val < 4 →
      trapCause e (.load a w) = some (5, some a.toNat) ∧ trapCause e (.store a w) = some (7, some a.toNat))) ∧
  (∀ (s : State) (e : Fin 12) (a : Word32), s.held = false → s.engState e = 1 → e.val < 10 →
    ∀ c ∈ [(EngEvent.eccFetch a, 1), (.eccLoad a, 5)],
    ∃ t, exec (.trap e c.1) s = .next t ∧ t.engFaulted s e c.2 ∧ t.only s (engineParts e) (faultKeys e)) ∧
  (∀ (s : State) (e : Fin 12), s.held = false → s.engState e = 1 →
    ∃ t, exec (.wfi e) s = .next t ∧ t.slotRetired s e ∧
      t.eng e = { (s.eng e).retired with pc := ((s.eng e).pc + 4) % 2 ^ 32, wfiAt := s.engineCycle } ∧
      (∀ j, j ≠ e.val → t.eng j = s.eng j) ∧ ((s.presented e).isSome = true → t.engState e = 1) ∧
      ((∀ n, s.srcTarget n = e → (s.src n).st ≠ .pending) → t.engState e = 2) ∧
      t.only s [.engines, .irq] (O.ENG_SLOT_RETIRE.key (e + 1) :: wakeKeys))

/-- The engines' registers, timers, watchdogs and faults (R439, R440, R445 to R449). HTIME_NS and F0CNT_LO take the halves of one reading; USER_POP takes
the oldest USER command; either HCMP write re-arms the timer, which raises TIMER once; a kick clears the warning, half the period raises WDOG_WARN, the
full period resets the engine and stands it in FAULT, as a parity error does; each of these accesses is an instruction that retires; a vendor engine restarts at its entry, a user engine stops or, with
USER_RESTART, is loaded and started; the scrubber counts, or faults; the dictionary window reads and writes one object. -/
def Obligations.EngineDevicesWork : Prop :=
  (∀ (s : State) (e : Fin 12) (u : Fin 2) (n : Option Word32) (b : Option Bool) (a v : Word32), s.held = false →
    s.engState e ≠ 1 → s.engState (10 + u) ≠ 1 →
    ∀ i ∈ [Instr.htimeNsRead e, .f0cntLoRead e, .userPop u, .hcmpWrite e n b, .wdogKick e, .dictWindowLoad e a, .dictWindowStore e a v],
      exec i s = .next s) ∧
  (∀ (s : State) (e : Fin 12) (n : Option Word32) (b : Option Bool), s.held = false → s.engState e = 1 →
    ∀ c ∈ [(Instr.htimeNsRead e, ({ (s.eng e).retired with shFrac := s.stamp % 2 ^ 32, shWrap := s.obj O.HEARTH_WRAP } : Engine),
          [Emit.value s.ns]),
        (.f0cntLoRead e, { (s.eng e).retired with f0hi := s.obj O.F0_CNT / 2 ^ 32 }, [.value (s.obj O.F0_CNT % 2 ^ 32)]),
        (.hcmpWrite e n b, { (s.eng e).retired with
            hcmpNs := (n.map BitVec.toNat).getD (s.eng e).hcmpNs, hcmpEn := b.getD (s.eng e).hcmpEn,
            hcmpDone := (s.eng e).hcmpDone && n.isNone && b.isNone }, []),
        (.wdogKick e, { (s.eng e).retired with warned := false }, [])],
    ∃ t, exec c.1 s = .next t ∧ t.eng e = c.2.1 ∧ (∀ j, j ≠ e.val → t.eng j = s.eng j) ∧ t.out = c.2.2 ++ s.out ∧
      t.slotRetired s e ∧ t.only s [.engines, .out] [O.ENG_SLOT_RETIRE.key (e + 1)]) ∧
  (∀ (s : State) (u : Fin 2), s.held = false → s.engState (10 + u) = 1 → (s.eng (10 + u)).userQ = [] →
    ∃ t, exec (.userPop u) s = .next t ∧ t.out = .value 0 :: s.out ∧ t.slotRetired s (10 + u) ∧
      t.eng (10 + u) = (s.eng (10 + u)).retired ∧ t.only s [.engines, .out] [O.ENG_SLOT_RETIRE.key (11 + u)]) ∧
  (∀ (s : State) (u : Fin 2) (q : Nat × Nat) (l : List (Nat × Nat)), s.held = false → s.engState (10 + u) = 1 →
    (s.eng (10 + u)).userQ = q :: l →
    ∃ t, exec (.userPop u) s = .next t ∧ t.slotRetired s (10 + u) ∧
      t.eng (10 + u) = { (s.eng (10 + u)).retired with userQ := l, userT := q.2 } ∧
      (∀ j, j ≠ 10 + u.val → t.eng j = s.eng j) ∧ t.out = .value (2 ^ 31 + l.length * 2 ^ 27 + q.1) :: s.out ∧
      t.only s [.engines, .out] [O.ENG_SLOT_RETIRE.key (11 + u)]) ∧
  (∀ (s : State) (e : Fin 12), s.held = false →
    ((s.eng e).hcmpEn && !(s.eng e).hcmpDone && tdue (s.eng e).hcmpNs s.ns) = false → exec (.hcmpTimer e) s = .next s) ∧
  (∀ (s : State) (e : Fin 12), s.held = false → s.wdogOn e = false ∨ (s.eng e).warned = true → exec (.wdogWarn e) s = .next s) ∧
  (∀ (s : State) (e : Fin 12), s.held = false →
    ∀ c ∈ [(Instr.hcmpTimer e, (s.eng e).hcmpEn && !(s.eng e).hcmpDone && tdue (s.eng e).hcmpNs s.ns,
          ({ s.eng e with hcmpDone := true } : Engine), 256 + 32 * e.val),
        (.wdogWarn e, s.wdogOn e && !(s.eng e).warned, { s.eng e with warned := true }, 257 + 32 * e.val)],
    c.2.1 = true →
    ∃ t, exec c.1 s = .next t ∧ t.eng e = c.2.2.1 ∧ (∀ j, j ≠ e.val → t.eng j = s.eng j) ∧
      (t.src c.2.2.2).st = (if (s.src c.2.2.2).st = .idle then .pending else (s.src c.2.2.2).st) ∧
      (t.src c.2.2.2).ev = min 255 ((s.src c.2.2.2).ev + 1) ∧ t.only s [.engines, .irq] wakeKeys) ∧
  (∀ (s : State) (e : Fin 12), s.held = false → s.wdogOn e = false ∨ (s.eng e).warned = false → exec (.wdogBite e) s = .next s) ∧
  (∀ (s : State) (e : Fin 12), s.held = false → s.engState e ≠ 1 → s.engState e ≠ 2 → exec (.parityError e) s = .next s) ∧
  (∀ (s : State) (e : Fin 12), s.held = false →
    ∀ c ∈ [(Instr.wdogBite e, s.wdogOn e && (s.eng e).warned, 0x80000100),
      (.parityError e, decide (s.engState e = 1 ∨ s.engState e = 2), 0x80000200)],
    c.2.1 = true → ∃ t, exec c.1 s = .next t ∧ t.engFaulted s e c.2.2 ∧ t.only s (engineParts e) (faultKeys e)) ∧
  (∀ (s : State) (e : Fin 12), s.held = false → s.engState e ≠ 4 → exec (.engineRestart e) s = .next s) ∧
  (∀ (s : State) (e : Fin 12), s.held = false → s.engState e = 4 → e.val < 10 →
    ∃ t, exec (.engineRestart e) s = .next t ∧ t.engState e = 1 ∧ (∀ j, j ≠ e.val → t.eng j = s.eng j) ∧
      t.eng e = { Dflt.engine with itcm := (s.eng e).itcm, dtcm := (s.eng e).dtcm, loaded := (s.eng e).loaded,
                                   entry := (s.eng e).entry, samples := (s.eng e).samples, pc := (s.eng e).entry } ∧
      t.only s [.engines] [O.ENG_STATE.key (e + 1)]) ∧
  (∀ (s : State) (e : Fin 12), s.held = false → s.engState e = 4 → 10 ≤ e.val →
    ∃ t, exec (.engineRestart e) s = .next t ∧
      (if s.obj O.USER_RESTART (e - 9) = 1 ∧ imageValid (s.userImage e).bytes = true then
        t.engState e = 1 ∧ (t.eng e).holds (s.userImage e).bytes ∧
          (t.eng e).pc = octets (s.userImage e).bytes 12 4 ∧ (∀ j, j ≠ e.val → t.eng j = s.eng j)
       else t.engState e = 3 ∧ t.engines = s.engines) ∧
      t.only s [.engines] [O.ENG_STATE.key (e + 1)]) ∧
  (∀ (s : State) (p : EngMem) (w : Nat), s.held = false → exec (.engScrub p w .clean) s = .next s ∧ exec (.engScrub p w .struck) s = .next s) ∧
  (∀ (s : State) (w : Nat), s.held = false → exec (.engScrub .pantry w .corrected) s = .next s) ∧
  (∀ (s : State) (w : Nat) (e : Fin 12), s.held = false → ∀ p ∈ [EngMem.itcm e, .dtcm e],
    ∃ t, exec (.engScrub p w .corrected) s = .next t ∧
      t.obj O.ENG_ECC_CORR (e + 1) = (s.count O.ENG_ECC_CORR (e + 1)).obj O.ENG_ECC_CORR (e + 1) ∧
      t.only s [] [keyOf O.ENG_ECC_CORR (e + 1)]) ∧
  (∀ (s : State) (w : Nat) (e : Fin 12), s.held = false → ∀ p ∈ [(EngMem.pantry, 16), (.itcm e, e.val), (.dtcm e, e.val)],
    10 ≤ p.2 →
    ∃ t, exec (.engScrub p.1 w .uncorrectable) s = .next t ∧ t.obj O.ENG_FAULTS = (s.obj O.ENG_FAULTS ||| 2 ^ p.2) % 2 ^ 32 ∧
      t.only s flagParts (flagKeys O.ENG_FAULTS)) ∧
  (∀ (s : State) (w : Nat) (e : Fin 12), s.held = false → e.val < 10 → ∀ p ∈ [EngMem.itcm e, .dtcm e],
    ∃ t, exec (.engScrub p w .uncorrectable) s = .next t ∧ t.engCleared s e ∧ t.engState e = 4 ∧
      t.obj O.ENG_RESETS (e + 1) = (s.count O.ENG_RESETS (e + 1)).obj O.ENG_RESETS (e + 1) ∧
      t.obj O.ENG_FAULTS = (s.obj O.ENG_FAULTS ||| 2 ^ e.val) % 2 ^ 32 ∧ t.only s (engineParts e) (faultKeys e)) ∧
  (∀ (s : State) (e : Fin 12) (a : Word32) (o : Obj) (i : Nat), s.held = false → s.engState e = 1 →
    a.toNat = 0x60000000 + i * 4096 + o.lo * 16 → i < 65536 → findObj i o.lo = .obj o → o.acc ≠ .wo → o.isBlob = false →
    ∃ t, exec (.dictWindowLoad e a) s = .next t ∧ 
      t.out = .value (ofBe ((s.retire e).valueBytes o o.lo) % 2 ^ 32) :: s.out ∧
      t.eng e = { (s.eng e).retired with winHeld := ofBe ((s.retire e).valueBytes o o.lo) / 2 ^ 32, winStatus := 0 } ∧
      (o.acc ≠ .rc → t.slotRetired s e ∧ (∀ j, j ≠ e.val → t.eng j = s.eng j) ∧ t.only s [.engines, .out] [O.ENG_SLOT_RETIRE.key (e + 1)])) ∧
  (∀ (s : State) (e : Fin 12) (a : Word32) (i j : Nat), s.held = false → s.engState e = 1 → i < 65536 → j < 256 →
    a.toNat = 0x60000000 + i * 4096 + j * 16 → (s.readAt i j).1 ≠ 0 ∨ blobAt i j = true →
    ∃ t, exec (.dictWindowLoad e a) s = .next t ∧ t.out = .value 0 :: s.out ∧
      t.slotRetired s e ∧
      t.eng e = { (s.eng e).retired with winStatus := if (s.readAt i j).1 ≠ 0 then (s.readAt i j).1 else 6 } ∧
      (∀ j, j ≠ e.val → t.eng j = s.eng j) ∧ t.only s [.engines, .out] [O.ENG_SLOT_RETIRE.key (e + 1)]) ∧
  (∀ (s : State) (e : Fin 12) (a : Word32), s.held = false → s.engState e = 1 → a.toNat / 2 ^ 28 = 6 → a.toNat % 16 = 4 →
    ∃ t, exec (.dictWindowLoad e a) s = .next t ∧ t.out = .value (s.eng e).winHeld :: s.out ∧
      t.slotRetired s e ∧
      t.eng e = { (s.eng e).retired with winStatus := 0 } ∧ t.only s [.engines, .out] [O.ENG_SLOT_RETIRE.key (e + 1)]) ∧
  (∀ (s : State) (e : Fin 12) (a v : Word32), s.held = false → s.engState e = 1 → a.toNat / 2 ^ 28 = 6 → a.toNat % 16 = 4 →
    ∃ t, exec (.dictWindowStore e a v) s = .next t ∧ t.slotRetired s e ∧
      t.eng e = { (s.eng e).retired with winHi := v.toNat, winStatus := 0 } ∧
      (∀ j, j ≠ e.val → t.eng j = s.eng j) ∧ t.only s [.engines] [O.ENG_SLOT_RETIRE.key (e + 1)]) ∧
  (∀ (s : State) (e : Fin 12) (a v : Word32) (o : Obj), s.held = false → s.engState e = 1 → o ∈ [O.SNAP_MODE, O.LANTERN_EN] →
    a.toNat = 0x60000000 + o.index * 4096 → (s.eng e).winHi = 0 → v.toNat ≤ 1 →
    ∃ t, exec (.dictWindowStore e a v) s = .next t ∧ t.obj o = v.toNat ∧
      t.eng e = { (s.eng e).retired with winHi := 0, winStatus := 0 } ∧ t.slotRetired s e ∧
      t.only s [.engines] [keyOf o, O.ENG_SLOT_RETIRE.key (e + 1)]) ∧
  (∀ (s : State) (e : Fin 12) (a v : Word32) (i j : Nat), s.held = false → s.engState e = 1 → i < 65536 → j < 256 →
    a.toNat = 0x60000000 + i * 4096 + j * 16 → findObj i j = .noObject →
    ∃ t, exec (.dictWindowStore e a v) s = .next t ∧ t.eng e = { (s.eng e).retired with winHi := 0, winStatus := 1 } ∧
      t.slotRetired s e ∧ t.only s [.engines] [O.ENG_SLOT_RETIRE.key (e + 1)])

/-- The commands of the user engines (R442, R444 to R446, R460). An image that passes its length check is stored; LOAD copies a valid image and stops the
engine, refuses a bad one, and is refused while the engine runs; START needs a stopped engine with an image; STOP resets an engine that runs or has
faulted, and a refused STOP gives one of two reasons, free (log entry 3). A free semaphore goes to its reader, and its holder alone releases it. -/
def Obligations.UserImagesRun : Prop :=
  (∀ (s : State) (u : Fin 2) (v : Bytes), s.held = false →
    ∃ t, exec (.userImageWrite u v) s = .next t ∧
      (if v = [] ∨ (32 ≤ v.length ∧ v.length = 32 + octets v 4 4 + octets v 8 4) then
        t.blob O.USER_IMAGE (u + 1) = Blob.of v ∧ t.only s [.blobs] [] else t = s)) ∧
  (∀ (s : State) (u : Fin 2), s.held = false → s.engState (10 + u) ≠ 0 → s.engState (10 + u) ≠ 3 →
    ∃ t, exec (.userLoad u) s = .next t ∧ t.status O.USER_STATUS (u + 1) = 4 ∧ bits (t.obj O.USER_STATUS (u + 1)) 15 12 = 2 ∧
      t.only s [] [O.USER_STATUS.key (u + 1)]) ∧
  (∀ (s : State) (u : Fin 2), s.held = false → s.engState (10 + u) = 0 ∨ s.engState (10 + u) = 3 →
    imageValid (s.userImage (10 + u)).bytes = false →
    ∃ t, exec (.userLoad u) s = .next t ∧ t.status O.USER_STATUS (u + 1) = 5 ∧ bits (t.obj O.USER_STATUS (u + 1)) 15 12 = 1 ∧
      t.only s [] [O.USER_STATUS.key (u + 1)]) ∧
  (∀ (s : State) (u : Fin 2), s.held = false → s.engState (10 + u) = 0 ∨ s.engState (10 + u) = 3 →
    imageValid (s.userImage (10 + u)).bytes = true →
    ∃ t, exec (.userLoad u) s = .next t ∧ t.status O.USER_STATUS (u + 1) = 2 ∧ t.engState (10 + u) = 3 ∧
      (t.eng (10 + u)).holds (s.userImage (10 + u)).bytes ∧ (∀ j, j ≠ 10 + u.val → t.eng j = s.eng j) ∧
      t.only s [.engines] [O.USER_STATUS.key (u + 1), O.ENG_STATE.key (11 + u)]) ∧
  (∀ (s : State) (u : Fin 2), s.held = false → s.engState (10 + u) ≠ 3 ∨ (s.eng (10 + u)).loaded = false →
    ∃ t, exec (.userStart u) s = .next t ∧ t.status O.USER_STATUS (u + 1) = 4 ∧
      bits (t.obj O.USER_STATUS (u + 1)) 15 12 = (if (s.eng (10 + u)).loaded = true then 2 else 3) ∧
      t.only s [] [O.USER_STATUS.key (u + 1)]) ∧
  (∀ (s : State) (u : Fin 2), s.held = false → s.engState (10 + u) = 3 → (s.eng (10 + u)).loaded = true →
    ∃ t, exec (.userStart u) s = .next t ∧ t.status O.USER_STATUS (u + 1) = 2 ∧ t.engState (10 + u) = 1 ∧
      t.eng (10 + u) = { Dflt.engine with itcm := (s.eng (10 + u)).itcm, dtcm := (s.eng (10 + u)).dtcm, loaded := true,
                                          entry := (s.eng (10 + u)).entry, samples := (s.eng (10 + u)).samples,
                                          pc := (s.eng (10 + u)).entry } ∧
      (∀ j, j ≠ 10 + u.val → t.eng j = s.eng j) ∧ t.only s [.engines] [O.USER_STATUS.key (u + 1), O.ENG_STATE.key (11 + u)]) ∧
  (∀ (s : State) (u : Fin 2), s.held = false → s.engState (10 + u) ∈ [1, 2, 4] →
    ∃ t, exec (.userStop u) s = .next t ∧ t.status O.USER_STATUS (u + 1) = 2 ∧ t.engState (10 + u) = 3 ∧ t.engCleared s (10 + u) ∧
      t.only s (engineParts (10 + u)) (O.USER_STATUS.key (u + 1) :: engineKeys (10 + u))) ∧
  (∀ (s : State) (u : Fin 2), s.held = false → s.engState (10 + u) ∉ [1, 2, 4] →
    ∃ t, exec (.userStop u) s = .next t ∧ t.status O.USER_STATUS (u + 1) = 4 ∧ bits (t.obj O.USER_STATUS (u + 1)) 15 12 ∈ [2, 3] ∧
      t.only s [.free] [O.USER_STATUS.key (u + 1)]) ∧
  (∀ (s : State) (r : Fin 13) (k : Fin 64), s.held = false →
    ∃ t, exec (.semRead r k) s = .next t ∧
      t.out = .value (if s.sem k = 0 ∨ s.sem k = r + 1 then 0 else 0x80000000 + (s.sem k - 1)) :: s.out ∧
      t.sem k = (if s.sem k = 0 then r.val + 1 else s.sem k) ∧ (∀ j, j ≠ k.val → t.sem j = s.sem j) ∧ t.only s [.sems, .out] []) ∧
  (∀ (s : State) (r : Fin 13) (k : Fin 64) (v : Word32), s.held = false →
    ∃ t, exec (.semWrite r k v) s = .next t ∧ t.sem k = (if v = 0 ∧ s.sem k = r + 1 then 0 else s.sem k) ∧
      (∀ j, j ≠ k.val → t.sem j = s.sem j) ∧ t.only s [.sems] [])

/-- Claims (R455). A read of IRQ_CLAIM or of HOST_CLAIM returns the source presented, which becomes ACTIVE; its count goes to the claimant and its moderation
interval starts. With no source presented it returns 0, and SPURIOUS_CLAIM counts where one had been presented since the last claim, which the
note of presentations records. -/
def Obligations.ClaimReturnsThePresented : Prop :=
  (∀ (s : State) (e : Fin 12) (n : Nat), s.held = false → ∀ c ∈ [(Instr.hostClaim, 12), (.irqClaim e, e.val)],
    s.presented c.2 = some n → (c.2 = 12 ∨ s.engState e = 1) →
    ∃ t, exec c.1 s = .next t ∧ t.out = .value n :: s.out ∧ (t.src n).st = .active ∧ (t.src n).ev = 0 ∧
      (t.src n).repend = false ∧ (t.src n).owner = c.2 ∧ (t.src n).held = decide (bits (s.srcCfg n) 15 0 ≠ 0) ∧
      (∀ m, m ≠ n → (t.src m).st = (s.src m).st ∧ (t.src m).ev = (s.src m).ev) ∧
      (if c.2 = 12 then t.irq.hostCount = (s.src n).ev ∧ t.engines = s.engines
       else t.eng e = { (s.eng e).retired with irqCount := (s.src n).ev } ∧ t.irq.hostCount = s.irq.hostCount ∧
         t.slotRetired s e ∧ ∀ j, j ≠ e.val → t.eng j = s.eng j) ∧
      t.irq.presented.contains c.2 = (t.presented c.2).isSome ∧
      t.only s [.irq, .engines, .out] (O.ENG_SLOT_RETIRE.key (e + 1) :: wakeKeys)) ∧
  (∀ (s : State) (e : Fin 12), s.held = false → ∀ c ∈ [(Instr.hostClaim, 12), (.irqClaim e, e.val)],
    s.presented c.2 = none → (c.2 = 12 ∨ s.engState e = 1) →
    ∃ t, exec c.1 s = .next t ∧ t.out = .value 0 :: s.out ∧
      (t.obj O.SPURIOUS_CLAIM (c.2 + 1) = if s.irq.presented.contains c.2 = true
        then (s.count O.SPURIOUS_CLAIM (c.2 + 1)).obj O.SPURIOUS_CLAIM (c.2 + 1) else s.obj O.SPURIOUS_CLAIM (c.2 + 1)) ∧
      t.irq.src = s.irq.src ∧ t.irq.presented.contains c.2 = false ∧
      t.only s [.irq, .engines, .out] [O.SPURIOUS_CLAIM.key (c.2 + 1), O.ENG_SLOT_RETIRE.key (e + 1)]) ∧
  (∀ s : State, ∀ e < 13, s.irqPresent.irq.presented.contains e = (s.irq.presented.contains e || (s.irqPresent.presented e).isSome))

/-- Completions (R456). A write of a source number to IRQ_COMPLETE or HOST_COMPLETE completes the source that is ACTIVE for the writer, whatever its ENABLE: an edge
source ends in IDLE or, re-pended, in PENDING, and a level source as its level is. Any other write is ignored and counted. -/
def Obligations.CompletionEndsTheActive : Prop :=
  (∀ (s : State) (e : Fin 12) (w : Word32), s.held = false →
    ∀ c ∈ [(Instr.hostComplete w, 12, w.toNat % 1024), (.irqComplete e w, e.val, w.toNat)], (c.2.1 = 12 ∨ s.engState e = 1) →
    ((s.src c.2.2).st = .active → (s.src c.2.2).owner = c.2.1 →
      ∃ t, exec c.1 s = .next t ∧
        (t.src c.2.2).st = (if (if s.levelSrc c.2.2 = true then s.srcLevel c.2.2 else (s.src c.2.2).repend) = true then .pending
          else .idle) ∧ (t.src c.2.2).repend = false ∧ (∀ m, m ≠ c.2.2 → (t.src m).st = (s.src m).st ∧ (t.src m).ev = (s.src m).ev) ∧
        t.only s [.irq, .engines] (O.ENG_SLOT_RETIRE.key (e + 1) :: wakeKeys)) ∧
    ((s.src c.2.2).st ≠ .active ∨ (s.src c.2.2).owner ≠ c.2.1 →
      ∃ t, exec c.1 s = .next t ∧
        t.obj O.COMPLETE_ERR (c.2.1 + 1) = (s.count O.COMPLETE_ERR (c.2.1 + 1)).obj O.COMPLETE_ERR (c.2.1 + 1) ∧
        (c.2.1 ≠ 12 → t.slotRetired s e ∧ t.eng e = (s.eng e).retired) ∧
        t.only s [.engines] [O.COMPLETE_ERR.key (c.2.1 + 1), O.ENG_SLOT_RETIRE.key (e + 1)]))

/-- The interrupt controller (R441, R451 to R454, R457, R458). The source presented is the eligible one of highest PRIORITY and then lowest number. An engine that does
not run claims nothing. A DOORBELL, an SWI_SET and an edge of an EXTIRQ pin are events; HOST_EN masks the host's sources alone; a moderation interval
ends. -/
def Obligations.InterruptsArrive : Prop :=
  (∀ (s : State) (e n : Nat), s.presented e = some n →
    s.eligible n = true ∧ s.srcTarget n = e ∧
      ∀ m, s.eligible m = true → s.srcTarget m = e → bits (s.srcCfg m) 27 24 ≤ bits (s.srcCfg n) 27 24 ∧
        (Tab.wf Dflt.irqSrc s.irq.src = true → bits (s.srcCfg m) 27 24 = bits (s.srcCfg n) 27 24 → n ≤ m)) ∧
  (∀ (s : State) (e : Fin 12) (w : Word32), s.held = false → s.engState e ≠ 1 →
    exec (.irqClaim e) s = .next s ∧ exec (.irqComplete e w) s = .next s) ∧
  (∀ (s : State) (w : Fin 8) (v : Word32), s.held = false →
    ∃ t, exec (.hostEnWrite w v) s = .next t ∧
      (∀ n < 256, t.srcCfg n = if n / 32 = w ∧ s.srcTarget n = 12 then setBit (s.srcCfg n) 31 (v.toNat.testBit (n % 32)) % 2 ^ 32
        else s.srcCfg n) ∧ (∀ m, (t.src m).st = (s.src m).st ∧ (t.src m).ev = (s.src m).ev) ∧ t.only s [.irq] wakeKeys) ∧
  (∀ (s : State) (n : Fin 640), s.held = false →
    ∃ t, exec (.modIntervalEnd n) s = .next t ∧ (t.src n).held = false ∧
      (∀ m, (t.src m).st = (s.src m).st ∧ (t.src m).ev = (s.src m).ev) ∧ t.only s [.irq] wakeKeys) ∧
  (∀ (s : State) (v : Word32), s.held = false → v.toNat ≠ 10 → v.toNat ≠ 11 → exec (.doorbell v) s = .next s) ∧
  (∀ (s : State) (v : Word32), s.held = false → 16 ≤ v.toNat → exec (.swiSet v) s = .next s) ∧
  (∀ (s : State) (v : Word32), s.held = false →
    ∀ c ∈ [(Instr.doorbell v, decide (v.toNat = 10 ∨ v.toNat = 11), 258 + 32 * v.toNat), (.swiSet v, decide (v.toNat < 16), 240 + v.toNat)],
    c.2.1 = true →
    ∃ t, exec c.1 s = .next t ∧ t.hasEvent s c.2.2 ∧ t.only s (.free :: flagParts) wakeKeys) ∧
  (∀ (s : State) (i : Fin 4) (b : Bool), s.held = false →
    ∃ t, exec (.extirqEdge i b) s = .next t ∧ t.irq.extirq.getLsbD i = b ∧
      (∀ j < 4, j ≠ i.val → t.irq.extirq.getLsbD j = s.irq.extirq.getLsbD j) ∧
      (if s.irq.extirq.getLsbD i ≠ b ∧ b = decide (bits (s.srcCfg (160 + i)) 17 16 % 2 = 0) then
        t.hasEvent s (160 + i) ∧ t.only s (.free :: flagParts) wakeKeys
       else t.irq.src = s.irq.src ∧ t.only s [.irq] []))

/-- The plan of calibration (R463 to R467, R469, R473, R474). CAL_PERIOD after the last successful run and a slicer mismatch between runs make an instance
PENDING, once; a lane in service without a free spare waits for its next training. An instance's turn starts its run where its precondition
holds, and otherwise the run waits CAL_RETRY_GAP, is counted, and after eight failed retries is deferred; a forced run fails at once. RUN joins a
run in progress; RUN, ABORT and CLEAR_DEFER end with their status. -/
def Obligations.CalibrationsArePlanned : Prop :=
  (∀ (s : State) (i : CalInst), s.held = false →
    calExists i.kind.toNat i.inst.toNat = false ∨ i.kind.toNat = 2 ∨ s.obj O.CAL_PERIOD = 0 ∨ s.calAuto i.kind.toNat = false ∨
      ((s.calRec i.kind.toNat i.inst.toNat).okAt.any fun t => decide (s.obj O.CAL_PERIOD * 1000000000 ≤ s.upNs - t)) = false →
    exec (.calPeriodExpire i) s = .next s) ∧
  (∀ (s : State) (n : Fin 48), s.held = false → s.obj O.LANE_EYE_H (n + 1) = 0 ∨ (s.calRec 0 n).state = 2 →
    exec (.slicerMismatch n) s = .next s) ∧
  (∀ (s : State) (i : CalInst) (n : Fin 48), s.held = false →
    ∀ c ∈ [(Instr.calPeriodExpire i, i.kind.toNat, i.inst.toNat,
        calExists i.kind.toNat i.inst.toNat && i.kind.toNat != 2 && s.obj O.CAL_PERIOD != 0 && s.calAuto i.kind.toNat &&
          ((s.calRec i.kind.toNat i.inst.toNat).okAt.any fun t => decide (s.obj O.CAL_PERIOD * 1000000000 ≤ s.upNs - t)), true),
      (.slicerMismatch n, 0, n.val, s.obj O.LANE_EYE_H (n + 1) != 0 && (s.calRec 0 n).state != 2, false)], c.2.2.2.1 = true →
    ∃ t, exec c.1 s = .next t ∧
      (let r := s.calRec c.2.1 c.2.2.1
       let ends := r.state = 4 ∧ c.2.2.2.2 = true
       let r' : CalRec := if ends then { r with state := 0, retries := 0 } else r
       t.calRec c.2.1 c.2.2.1 =
         if c.2.1 = 0 ∧ 7 ≤ s.obj O.LINK_STATE (c.2.2.1 + 1) ∧ s.freeSpares c.2.2.1 = [] then { r' with waitTrain := true }
         else if r'.state = 2 then { r' with again := true }
         else if r'.state = 0 then { r' with state := 1, rerun := false } else r') ∧
      (∀ k j, 256 * k + j ≠ 256 * c.2.1 + c.2.2.1 → t.calRec k j = s.calRec k j) ∧ t.only s [.cal] []) ∧
  (∀ (s : State) (i : CalInst) (q : Bool), s.held = false → calExists i.kind.toNat i.inst.toNat = false ∨
      (s.govDefer = true ∧ i.kind.toNat ≠ 2) ∨ s.calSerial i.kind.toNat i.inst.toNat = true →
    exec (.calRunStart i q) s = .next s ∧ exec (.calRetry i q) s = .next s) ∧
  (∀ (s : State) (i : CalInst) (q : Bool), s.held = false →
    ((s.calRec i.kind.toNat i.inst.toNat).state ≠ 1 → exec (.calRunStart i q) s = .next s) ∧
    ((s.calRec i.kind.toNat i.inst.toNat).state ≠ 3 ∨ s.elapsed (s.calRec i.kind.toNat i.inst.toNat).waitAt (s.obj O.CAL_RETRY_GAP * 1000000) = false →
      exec (.calRetry i q) s = .next s)) ∧
  (∀ (s : State) (i : CalInst) (q : Bool), s.held = false → calExists i.kind.toNat i.inst.toNat = true →
    (s.govDefer = true → i.kind.toNat = 2) → s.calSerial i.kind.toNat i.inst.toNat = false → s.calSpareless i.kind.toNat i.inst.toNat = true →
    s.elapsed (s.calRec i.kind.toNat i.inst.toNat).waitAt (s.obj O.CAL_RETRY_GAP * 1000000) = true →
    ∀ c ∈ [(Instr.calRunStart i q, 1), (.calRetry i q, 3)], (s.calRec i.kind.toNat i.inst.toNat).state = c.2 →
      ∃ t, exec c.1 s = .next t ∧ t.calRec 0 i.inst.toNat = { s.calRec 0 i.inst.toNat with state := 0, waitTrain := true } ∧
        (∀ k j, 256 * k + j ≠ i.inst.toNat → t.calRec k j = s.calRec k j) ∧ t.only s [.cal] []) ∧
  (∀ (s : State) (i : CalInst) (q : Bool), s.held = false → calExists i.kind.toNat i.inst.toNat = true →
    (s.govDefer = true → i.kind.toNat = 2) → s.calSerial i.kind.toNat i.inst.toNat = false → s.calSpareless i.kind.toNat i.inst.toNat = false →
    s.elapsed (s.calRec i.kind.toNat i.inst.toNat).waitAt (s.obj O.CAL_RETRY_GAP * 1000000) = true →
    ∀ c ∈ [(Instr.calRunStart i q, 1, false), (.calRetry i q, 3, true)], (s.calRec i.kind.toNat i.inst.toNat).state = c.2.1 →
    (s.calCond i.kind.toNat i.inst.toNat q = none →
      ∃ t, exec c.1 s = .next t ∧
        t.calRec i.kind.toNat i.inst.toNat = { s.calRec i.kind.toNat i.inst.toNat with
          state := 2, retry := c.2.2, startTemp := s.calTemp i.kind.toNat i.inst.toNat, again := false } ∧
        (∀ k j, 256 * k + j ≠ 256 * i.kind.toNat + i.inst.toNat → t.calRec k j = s.calRec k j) ∧ t.only s [.cal] []) ∧
    (∀ k, s.calCond i.kind.toNat i.inst.toNat q = some k → c.2.2 = true ∨ (s.calRec i.kind.toNat i.inst.toNat).forced = false →
      ∃ t, exec c.1 s = .next t ∧
        t.obj O.CAL_LAST_PRECOND = i.kind.toNat * 2 ^ 24 + i.inst.toNat * 2 ^ 16 + k ∧
        t.obj O.CAL_ABORTS = (s.count O.CAL_ABORTS).obj O.CAL_ABORTS ∧ bit (t.obj O.CAL_FLAGS) 0 = true ∧
        (t.calRec i.kind.toNat i.inst.toNat).precond = k ∧
        (t.calRec i.kind.toNat i.inst.toNat).retries = (if c.2.2 = true then min 8 ((s.calRec i.kind.toNat i.inst.toNat).retries + 1)
          else (s.calRec i.kind.toNat i.inst.toNat).retries) ∧
        (t.calRec i.kind.toNat i.inst.toNat).state = (if (t.calRec i.kind.toNat i.inst.toNat).retries = 8 then 4 else 3) ∧
        ((t.calRec i.kind.toNat i.inst.toNat).retries = 8 → bit (t.obj O.CAL_FLAGS) 1 = true) ∧
        (t.calRec i.kind.toNat i.inst.toNat).waitAt = s.hearth.cycles ∧
        t.only s (.cal :: flagParts) (keyOf O.CAL_LAST_PRECOND :: keyOf O.CAL_ABORTS :: keyOf O.CAL_STATUS :: flagKeys O.CAL_FLAGS))) ∧
  (∀ (s : State) (i : CalInst) (q : Bool), s.held = false → s.status O.CAL_STATUS = 1 →
    exec (.calRun i q) s = .next s ∧ exec (.clearDefer i) s = .next s) ∧
  (∀ (s : State) (i : CalInst) (q b : Bool), s.held = false →
    ∀ c ∈ [(Instr.calRun i q, 1, decide (s.status O.CAL_STATUS ≠ 1)), (.calAbort i b, 2, true),
      (.clearDefer i, 3, decide (s.status O.CAL_STATUS ≠ 1))], c.2.2 = true → calExists i.kind.toNat i.inst.toNat = false →
    ∃ t, exec c.1 s = .next t ∧ t.status O.CAL_STATUS = 4 ∧ bits (t.obj O.CAL_STATUS) 15 12 = 3 ∧
      bits (t.obj O.CAL_STATUS) 7 4 = c.2.1 ∧ bits (t.obj O.CAL_STATUS) 31 24 = i.kind.toNat ∧
      bits (t.obj O.CAL_STATUS) 23 16 = i.inst.toNat ∧ t.only s [] [keyOf O.CAL_STATUS]) ∧
  (∀ (s : State) (j : BitVec 8) (q : Bool), s.held = false → s.status O.CAL_STATUS ≠ 1 → j.toNat < 15 →
    ∃ t, exec (.calRun ⟨2, j⟩ q) s = .next t ∧ t.status O.CAL_STATUS = 4 ∧ bits (t.obj O.CAL_STATUS) 15 12 = 0 ∧
      t.only s [] [keyOf O.CAL_STATUS]) ∧
  (∀ (s : State) (i : CalInst) (q : Bool), s.held = false → s.status O.CAL_STATUS ≠ 1 → i.kind.toNat ≠ 2 →
    calExists i.kind.toNat i.inst.toNat = true →
    ∃ t, exec (.calRun i q) s = .next t ∧ bits (t.obj O.CAL_STATUS) 7 4 = 1 ∧ bits (t.obj O.CAL_STATUS) 31 24 = i.kind.toNat ∧
      bits (t.obj O.CAL_STATUS) 23 16 = i.inst.toNat ∧ t.cal.command = some (i.kind.toNat, i.inst.toNat) ∧
      (if (s.calRec i.kind.toNat i.inst.toNat).state = 2 then t.status O.CAL_STATUS = 1 ∧
          t.calRec i.kind.toNat i.inst.toNat = s.calRec i.kind.toNat i.inst.toNat ∧ t.only s [.cal] [keyOf O.CAL_STATUS]
       else if s.govDefer = false ∧ s.calSerial i.kind.toNat i.inst.toNat = false ∧
          (s.calCond i.kind.toNat i.inst.toNat q).isSome = true then
        t.status O.CAL_STATUS = 5 ∧ bits (t.obj O.CAL_STATUS) 15 12 = 1 ∧ (t.calRec i.kind.toNat i.inst.toNat).forced = false ∧
          (some (t.calRec i.kind.toNat i.inst.toNat).precond = s.calCond i.kind.toNat i.inst.toNat q) ∧
          t.only s [.cal] [keyOf O.CAL_STATUS, keyOf O.CAL_LAST_PRECOND]
       else t.status O.CAL_STATUS = 1 ∧ (t.calRec i.kind.toNat i.inst.toNat).forced = true ∧
         (t.calRec i.kind.toNat i.inst.toNat).state = (if s.govDefer = true ∨ s.calSerial i.kind.toNat i.inst.toNat = true
           then 1 else 2) ∧
         t.only s [.cal] [keyOf O.CAL_STATUS])) ∧
  (∀ (s : State) (i : CalInst) (b : Bool), s.held = false → calExists i.kind.toNat i.inst.toNat = true →
    (s.calRec i.kind.toNat i.inst.toNat).state = 2 ∨
      ((s.calRec i.kind.toNat i.inst.toNat).state = 1 ∧ (s.calRec i.kind.toNat i.inst.toNat).forced = true) →
    ∃ t, exec (.calAbort i b) s = .next t ∧ t.status O.CAL_STATUS = 3 ∧ bits (t.obj O.CAL_STATUS) 7 4 = 2 ∧
      (t.calRec i.kind.toNat i.inst.toNat).forced = false ∧ (t.calRec i.kind.toNat i.inst.toNat).again = false ∧
      (t.calRec i.kind.toNat i.inst.toNat).state = (if (s.calRec i.kind.toNat i.inst.toNat).again = true then 1
        else if (s.calRec i.kind.toNat i.inst.toNat).forced = false ∨ (s.calRec i.kind.toNat i.inst.toNat).retries = 0 then 0
        else if (s.calRec i.kind.toNat i.inst.toNat).retries = 8 then 4 else 3) ∧ t.only s [.cal] [keyOf O.CAL_STATUS]) ∧
  (∀ (s : State) (i : CalInst) (b : Bool), s.held = false → calExists i.kind.toNat i.inst.toNat = true →
    (s.calRec i.kind.toNat i.inst.toNat).state ≠ 2 →
    ((s.calRec i.kind.toNat i.inst.toNat).state = 1 → (s.calRec i.kind.toNat i.inst.toNat).forced = false) →
    ∃ t, exec (.calAbort i b) s = .next t ∧
      (if b = true ∧ (s.calRec i.kind.toNat i.inst.toNat).doneAt = some s.hearth.cycles then t.status O.CAL_STATUS = 2 ∧
         bit (t.obj O.CAL_STATUS) 8 = true ∧ bit (t.obj O.CAL_FLAGS) 2 = true ∧
         t.only s flagParts (keyOf O.CAL_STATUS :: flagKeys O.CAL_FLAGS)
       else t.status O.CAL_STATUS = 4 ∧ t.only s [] [keyOf O.CAL_STATUS])) ∧
  (∀ (s : State) (i : CalInst), s.held = false → s.status O.CAL_STATUS ≠ 1 → calExists i.kind.toNat i.inst.toNat = true →
    ∃ t, exec (.clearDefer i) s = .next t ∧
      (if (s.calRec i.kind.toNat i.inst.toNat).state = 4 then t.status O.CAL_STATUS = 2 ∧
         t.calRec i.kind.toNat i.inst.toNat = { s.calRec i.kind.toNat i.inst.toNat with state := 3, retries := 0, waitAt := s.hearth.cycles } ∧
         t.only s [.cal] [keyOf O.CAL_STATUS]
       else t.status O.CAL_STATUS = 4 ∧ t.only s [] [keyOf O.CAL_STATUS]))

/-- The boundary of a calibration run (R461, R463, R468, R470, R472, R475). A run is graded by its figure; PASS and MARGINAL apply its coefficients and end the
retries, FAIL keeps the old ones and raises CAL_FAIL. A failed cell or slicer found by a run is put out of use once and for all, a spare takes its role,
in NATIVE modes at the next superframe boundary, and the run is repeated. -/
def Obligations.CalibrationBoundaries : Prop :=
  (∀ (s : State) (i : CalInst) (v : CalResult), s.held = false → calExists i.kind.toNat i.inst.toNat = false ∨
    (s.calRec i.kind.toNat i.inst.toNat).state ≠ 2 → exec (.calBoundary i v) s = .next s) ∧
  (∀ k ∈ [(0, 20, 60), (1, 50, 100), (3, 125, 250), (4, 100, 200), (5, 100, 300), (6, 300, 600)], ∀ f,
    calGrade k.1 f false = if f ≤ k.2.1 then 1 else if f ≤ k.2.2 then 2 else 3) ∧
  (∀ f b, calGrade 2 f b = (if 50 ≤ f then 1 else if 10 ≤ f then 2 else 3) ∧ calGrade 0 f true = 3) ∧
  (∀ (s : State) (i : CalInst) (v : CalResult), s.held = false → calExists i.kind.toNat i.inst.toNat = true →
    (s.calRec i.kind.toNat i.inst.toNat).state = 2 → calGrade i.kind.toNat v.figure.toNat v.outOfRange ≤ 2 → v.failed = none →
    ∃ t, exec (.calBoundary i v) s = .next t ∧ t.obj O.CAL_RUNS = (s.count O.CAL_RUNS).obj O.CAL_RUNS ∧
      t.calRec i.kind.toNat i.inst.toNat = { s.calRec i.kind.toNat i.inst.toNat with
        grade := calGrade i.kind.toNat v.figure.toNat v.outOfRange, figure := v.figure.toNat, retries := 0, okAt := some s.upNs,
        doneAt := some s.hearth.cycles,
        temp := s.calTemp i.kind.toNat i.inst.toNat, trims := (s.calRec i.kind.toNat i.inst.toNat).trims + 1,
        state := if (s.calRec i.kind.toNat i.inst.toNat).again = true then 1 else 0, again := false, forced := false, retry := false,
        rerun := false,
        direct := (s.calRec i.kind.toNat i.inst.toNat).again && (s.calRec i.kind.toNat i.inst.toNat).waitTrain && i.kind.toNat == 1,
        waitTrain := (s.calRec i.kind.toNat i.inst.toNat).waitTrain && i.kind.toNat == 0 } ∧
      (s.cal.command = some (i.kind.toNat, i.inst.toNat) → s.status O.CAL_STATUS = 1 → t.status O.CAL_STATUS = 2) ∧
      (i.kind.toNat ≠ 1 → i.kind.toNat ≠ 4 → t.only s [.cal] [keyOf O.CAL_RUNS, keyOf O.CAL_STATUS]) ∧
      (i.kind.toNat = 4 → (t.clkout i.inst.toNat).trimIn = (s.clkout i.inst.toNat).trimIn + v.delay.toInt ∧
        (∀ q, q ≠ i.inst.toNat → t.clkout q = s.clkout q) ∧ t.only s [.cal, .clkouts] [keyOf O.CAL_RUNS, keyOf O.CAL_STATUS]) ∧
      (i.kind.toNat = 1 →
        (if s.native i.inst.toNat = true then (t.lane i.inst.toNat).anaTx = v.txLat.toNat ∧ (t.lane i.inst.toNat).anaRx = v.rxLat.toNat
         else (t.lane i.inst.toNat).anaNext = some (v.txLat.toNat, v.rxLat.toNat)) ∧
        t.only s [.cal, .lanes, .blobs] [keyOf O.CAL_RUNS, keyOf O.CAL_STATUS, keyOf O.LINK_TX_LAT (i.inst.toNat + 1),
          keyOf O.LINK_RX_LAT (i.inst.toNat + 1)])) ∧
  (∀ (s : State) (i : CalInst) (v : CalResult), s.held = false → calExists i.kind.toNat i.inst.toNat = true →
    (s.calRec i.kind.toNat i.inst.toNat).state = 2 → 2 < calGrade i.kind.toNat v.figure.toNat v.outOfRange → v.failed = none →
    ∃ t, exec (.calBoundary i v) s = .next t ∧ t.obj O.CAL_RUNS = (s.count O.CAL_RUNS).obj O.CAL_RUNS ∧
      bit (t.obj O.CAL_FLAGS) 3 = true ∧ (i.kind.toNat = 2 → bit (t.obj O.PLL_FLAGS (i.inst.toNat + 1)) 4 = true) ∧
      (t.calRec i.kind.toNat i.inst.toNat).grade = 3 ∧ (t.calRec i.kind.toNat i.inst.toNat).figure = v.figure.toNat ∧
      (t.calRec i.kind.toNat i.inst.toNat).trims = (s.calRec i.kind.toNat i.inst.toNat).trims ∧
      (t.calRec i.kind.toNat i.inst.toNat).okAt = (s.calRec i.kind.toNat i.inst.toNat).okAt ∧
      (t.calRec i.kind.toNat i.inst.toNat).state = (if (s.calRec i.kind.toNat i.inst.toNat).again = true then 1
        else if (s.calRec i.kind.toNat i.inst.toNat).forced = false ∨ (s.calRec i.kind.toNat i.inst.toNat).retries = 0 then 0
        else if (s.calRec i.kind.toNat i.inst.toNat).retries = 8 then 4 else 3) ∧
      (s.cal.command = some (i.kind.toNat, i.inst.toNat) → s.status O.CAL_STATUS = 1 →
        t.status O.CAL_STATUS = 5 ∧ bits (t.obj O.CAL_STATUS) 15 12 = 2) ∧
      t.only s (.cal :: flagParts) (keyOf O.CAL_RUNS :: keyOf O.CAL_STATUS ::
        flagKeys O.CAL_FLAGS ++ flagKeys O.PLL_FLAGS (i.inst.toNat + 1))) ∧
  (∀ (s : State) (j : BitVec 8) (c : Fin 80) (v : CalResult), s.held = false → j.toNat < 18 →
    (s.calRec 5 j.toNat).state = 2 → (s.calRec 5 j.toNat).rerun = false → 300 < v.figure.toNat → v.failed = some (.cell c) →
    bit (Tab.get s.cal.cellFail 0 j.toNat) c = false →
    ∃ t, exec (.calBoundary ⟨5, j⟩ v) s = .next t ∧
      Tab.get t.cal.cellFail 0 j.toNat = setBit (Tab.get s.cal.cellFail 0 j.toNat) c true ∧
      (t.calRec 5 j.toNat).state = 1 ∧ (t.calRec 5 j.toNat).rerun = true ∧
      (t.cellsFailed j.toNat ≤ 16 → bit (t.obj O.CAL_FLAGS) 4 = true) ∧
      (t.cellsFailed j.toNat = 16 → bit (t.obj O.TIO_FLAGS (j.toNat + 1)) 8 = true ∧ bit (t.obj O.CAL_FLAGS) 5 = true) ∧
      (t.cellsFailed j.toNat = 17 → t.obj O.TIO_TDC_MODE (j.toNat + 1) = 1 ∧ bit (t.obj O.CAL_FLAGS) 7 = true) ∧
      t.only s (.cal :: .blobs :: flagParts) (keyOf O.CAL_RUNS :: keyOf O.TIO_TDC_MODE (j.toNat + 1) ::
        flagKeys O.CAL_FLAGS ++ flagKeys O.TIO_FLAGS (j.toNat + 1))) ∧
  (∀ (s : State) (j : BitVec 8) (b : Fin 10) (v : CalResult), s.held = false → j.toNat < 48 → s.native j.toNat = true →
    (s.calRec 0 j.toNat).state = 2 → (s.calRec 0 j.toNat).rerun = false → 60 < v.figure.toNat ∨ v.outOfRange = true →
    v.failed = some (.slicer b) → bit (Tab.get s.cal.slicerFail 0 j.toNat) b = false →
    ∃ t, exec (.calBoundary ⟨0, j⟩ v) s = .next t ∧ t.cal.subs = s.cal.subs ++ [(j.toNat, b.val, v.rxLat.toNat)] ∧
      Tab.get t.cal.slicerFail 0 j.toNat = setBit (Tab.get s.cal.slicerFail 0 j.toNat) b true ∧ t.cal.spareOf = s.cal.spareOf ∧
      (t.calRec 0 j.toNat).state = 1 ∧ (t.calRec 0 j.toNat).rerun = true ∧
      t.only s (.cal :: .blobs :: flagParts) (keyOf O.CAL_RUNS :: flagKeys O.CAL_FLAGS)) ∧
  (∀ (s : State) (j : BitVec 8) (b : Fin 10) (r k : Nat) (l : List Nat) (v : CalResult), s.held = false → j.toNat < 48 → s.native j.toNat = false →
    (s.calRec 0 j.toNat).state = 2 → (s.calRec 0 j.toNat).rerun = false → 60 < v.figure.toNat ∨ v.outOfRange = true →
    v.failed = some (.slicer b) → bit (Tab.get s.cal.slicerFail 0 j.toNat) b = false →
    (s.roles j.toNat).find? (fun r => s.slicerOf j.toNat r == b.val) = some r → r ≠ 3 →
    ((s.freeSpares j.toNat).filter (· != b.val)) = k :: l →
    ∃ t, exec (.calBoundary ⟨0, j⟩ v) s = .next t ∧ t.slicerOf j.toNat r = k ∧
      Tab.get t.cal.slicerFail 0 j.toNat = setBit (Tab.get s.cal.slicerFail 0 j.toNat) b true ∧
      (t.calRec 0 j.toNat).state = 1 ∧ (t.calRec 0 j.toNat).rerun = true ∧ bit (t.obj O.CAL_FLAGS) 4 = true ∧
      (l = [] → bit (t.obj O.LANE_FLAGS (j.toNat + 1)) 7 = true ∧ bit (t.obj O.CAL_FLAGS) 5 = true) ∧
      t.only s (.cal :: .blobs :: flagParts) (keyOf O.CAL_RUNS :: flagKeys O.CAL_FLAGS ++ flagKeys O.LANE_FLAGS (j.toNat + 1)))

/-- Temperature and power (R518 to R525, R527). Nine readings stand in TEMP and TEMP_PEAK, a failed sensor raises SENSOR_FAIL; 115 °C enters CRIT and
idles every lane but the retained timing lanes, 110 °C leaves it. Each period the governor predicts the junction, sheds at the limit, and moves GOV_ADMIT;
1 s of 1 ms periods at 100 percent, 2 °C below the limit, returns it to FREE. The comparator latches THERMTRIP_N whatever else holds the part; the bucket of the current governor drains and
refills. The readings of idled lanes and rounding follow log entries 5 and 27. -/
def Obligations.PowerIsGoverned : Prop :=
  (∀ (s : State) (l : List Int), s.held = false → l.length = 9 → (∀ x ∈ l, -10000 ≤ x ∧ x < 1100) → s.obj O.GOV_STATE ≠ 2 →
    ∃ t, exec (.tempSample l) s = .next t ∧
      (∀ i < 9, t.sensor i = l.getD i 0 ∧ t.objI O.TEMP_PEAK (i + 1) =
        if bit s.power.peakSeen i = true ∧ l.getD i 0 ≤ s.objI O.TEMP_PEAK (i + 1) then s.objI O.TEMP_PEAK (i + 1) else l.getD i 0) ∧
      t.power.sensorOut = failedSensors l ∧
      (failedSensors l ≠ failedSensors l &&& s.power.sensorOut → bit (t.obj O.PWR_FLAGS) 5 = true) ∧
      t.obj O.GOV_STATE = s.obj O.GOV_STATE ∧ t.power.idled = s.power.idled ∧
      t.only s (.power :: .cal :: flagParts) (allOf [O.TEMP, O.TEMP_PEAK] ++ keyOf O.CAL_LAST_PRECOND :: keyOf O.CAL_ABORTS ::
        keyOf O.CAL_STATUS :: flagKeys O.CAL_FLAGS ++ flagKeys O.PWR_FLAGS)) ∧
  (∀ (s : State) (l : List Int), s.held = false → l.length = 9 → failedSensors l = 0 → (∃ x ∈ l, 1150 ≤ x) → s.obj O.GOV_STATE ≠ 2 →
    ∃ t, exec (.tempSample l) s = .next t ∧ t.obj O.GOV_STATE = 2 ∧ bit (t.obj O.PWR_FLAGS) 4 = true ∧
      (s.obj O.GOV_STATE = 0 → bit (t.obj O.PWR_FLAGS) 1 = true) ∧ (∀ n ∈ s.critLanes, n ∈ t.power.idled) ∧
      ((∀ n < 48, s.linkState n < 8) → (∀ n ∈ s.critLanes, t.linkState n = 0) ∧
        t.only s (.power :: .cal :: .lanes :: flagParts) (allOf [O.TEMP, O.TEMP_PEAK, O.LINK_STATE, O.TX_TAPS] ++ keyOf O.GOV_STATE ::
          keyOf O.CAL_LAST_PRECOND :: keyOf O.CAL_ABORTS :: keyOf O.CAL_STATUS :: flagKeys O.CAL_FLAGS ++ flagKeys O.PWR_FLAGS))) ∧
  (∀ (s : State) (l : List Int), s.held = false → l.length = 9 → failedSensors l = 0 → (∀ x ∈ l, x ≤ 1100) → s.obj O.GOV_STATE = 2 →
    ∃ t, exec (.tempSample l) s = .next t ∧ t.obj O.GOV_STATE = 1 ∧
      t.power.idled = (if s.power.thermtrip = true then s.power.idled else []) ∧
      t.only s (.power :: .cal :: flagParts) (allOf [O.TEMP, O.TEMP_PEAK] ++ keyOf O.GOV_STATE :: keyOf O.CAL_LAST_PRECOND ::
        keyOf O.CAL_ABORTS :: keyOf O.CAL_STATUS :: flagKeys O.CAL_FLAGS ++ flagKeys O.PWR_FLAGS)) ∧
  (∀ (s : State) (l : List Nat), s.held = false → l.length = 7 → l.sum < 2 ^ 32 → s.tj = none →
    ∃ t, exec (.govTick l) s = .next t ∧ t.obj O.PWR_TOTAL = l.sum ∧ (∀ i < 7, t.obj O.RAIL_POWER (i + 1) = l.getD i 0) ∧
      t.power = { s.power with
        pAvg := s.power.pAvg + roundDiv (((l.sum : Int) * 2 ^ 40 - s.power.pAvg) * decay 1 (1000 * s.obj O.GOV_TAU)) (2 ^ 40) } ∧
      t.cellar.passed = 0 ∧
      t.only s [.power, .cellar, .lports, .out] (keyOf O.PWR_TOTAL :: allOf [O.RAIL_POWER])) ∧
  (∀ (s : State) (l : List Nat) (j pred : Int), s.held = false → l.length = 7 → l.sum < 2 ^ 32 → s.tj = some j → j < 1150 →
    s.obj O.GOV_STATE ≤ 1 →
    pred = j * 100000 + roundDiv ((s.obj O.GOV_THETA : Int) * ((l.sum : Int) * 2 ^ 40 - (s.power.pAvg +
        roundDiv (((l.sum : Int) * 2 ^ 40 - s.power.pAvg) * decay 1 (1000 * s.obj O.GOV_TAU)) (2 ^ 40))) *
      decay (s.obj O.GOV_HORIZON) (1000 * s.obj O.GOV_TAU)) (2 ^ 80) →
    -(2 ^ 31) ≤ roundDiv pred 100000 → roundDiv pred 100000 < 2 ^ 31 →
    ∃ t, exec (.govTick l) s = .next t ∧ t.obj O.PWR_TOTAL = l.sum ∧ t.objI O.GOV_TPRED = roundDiv pred 100000 ∧ t.cellar.passed = 0 ∧
      (let lim : Int := (s.obj O.GOV_TJ_LIMIT : Int) * 100000
       let target : Int := (s.obj O.GOV_P_SUSTAIN : Int) * 1000 - (if s.power.loopOn = true then (s.power.fall : Int) else 0)
       (s.obj O.GOV_STATE = 0 → t.obj O.GOV_STATE = (if lim ≤ pred then 1 else 0) ∧ (lim ≤ pred → bit (t.obj O.PWR_FLAGS) 1 = true) ∧
         (lim - 3000000 ≤ pred → s.power.warned = false → bit (t.obj O.PWR_FLAGS) 0 = true) ∧
         t.power.warned = decide (lim - 3000000 ≤ pred) ∧ t.cellar.ref = s.cellar.passed ∧
         t.obj O.GOV_ADMIT = s.obj O.GOV_ADMIT) ∧
       (s.obj O.GOV_STATE = 1 → t.obj O.GOV_STATE = 1 ∧ t.power.loopOn = true ∧
         t.power.calm = (if pred ≤ lim - 2000000 ∧ t.obj O.GOV_ADMIT = 100 then s.power.calm + 1 else 0) ∧
         (s.power.loopOn = false → bit (t.obj O.PWR_FLAGS) 2 = true) ∧
         t.obj O.GOV_SHED_TIME = (s.count O.GOV_SHED_TIME).obj O.GOV_SHED_TIME ∧
         (target + 500000 < (l.sum : Int) * 1000 → t.obj O.GOV_ADMIT = (s.obj O.GOV_ADMIT - 2) % 256) ∧
         ((l.sum : Int) * 1000 < target - 500000 → t.obj O.GOV_ADMIT = min 100 (s.obj O.GOV_ADMIT + 1)) ∧
         (target - 500000 ≤ (l.sum : Int) * 1000 → (l.sum : Int) * 1000 ≤ target + 500000 →
           t.obj O.GOV_ADMIT = s.obj O.GOV_ADMIT))) ∧
      t.only s (.power :: .cellar :: .lports :: .out :: flagParts) (keyOf O.PWR_TOTAL :: keyOf O.GOV_TPRED :: keyOf O.GOV_STATE ::
        keyOf O.GOV_ADMIT :: keyOf O.GOV_SHED_TIME :: allOf [O.RAIL_POWER] ++ flagKeys O.PWR_FLAGS)) ∧
  (∀ s : State, s.held = false → s.obj O.GOV_STATE ≠ 1 ∨ s.power.calm < 1000 → exec .govRelease s = .next s) ∧
  (∀ s : State, s.held = false → s.obj O.GOV_STATE = 1 → 1000 ≤ s.power.calm →
    ∃ t, exec .govRelease s = .next t ∧ t.obj O.GOV_STATE = 0 ∧ t.govDefer = false ∧
      t.power = { s.power with loopOn := false, fall := 0, calm := 0 } ∧ t.cellar.withheld = [] ∧
      t.only s [.power, .cellar, .lports, .out] [keyOf O.GOV_STATE]) ∧
  (∀ (s : State) (i : Fin 9), ∃ t, exec (.thermtrip i) s = .next t ∧ t.power.thermtrip = true ∧ t.power.idled = List.range 48 ∧
    t.intN = true ∧ t.hearth.state = s.hearth.state ∧ (s.held = true → t.only s [.power] []) ∧
    ((∀ n < 48, s.linkState n < 8) → t.only s [.power, .cal, .lanes] (allOf [O.LINK_STATE, O.TX_TAPS]))) ∧
  (∀ s : State, ∃ t, exec .thermtripLatchClear s = .next t ∧
    t.power = (if s.power.thermtrip = true then
        { s.power with thermtrip := false, idled := if s.obj O.GOV_STATE = 2 then s.critLanes else [] } else s.power) ∧
    t.only s [.power] []) ∧
  (∀ (s : State) (m c : Nat), s.held = false →
    ∃ t, exec (.curgovTick m c) s = .next t ∧
      t.power = { s.power with
        credit := if 70000 < m then s.power.credit - (m - 70000) else min 180000000 (s.power.credit + (70000 - m)) } ∧
      (0 < s.power.credit → t.power.credit = 0 → bit (t.obj O.PWR_FLAGS) 3 = true) ∧
      t.obj O.CURGOV_PACED = (s.obj O.CURGOV_PACED + c) % 2 ^ 64 ∧ (c = 0 → t.cellar = s.cellar) ∧
      t.cellar.copies = s.cellar.copies ∧ t.cellar.frames = s.cellar.frames ∧
      t.only s (.power :: .cellar :: flagParts) (keyOf O.CURGOV_PACED :: flagKeys O.PWR_FLAGS))

/-- The state after reset obeys the rule of the single step, its memories are canonical and its queue is empty (R20, R29, R35). -/
def Obligations.ResetStateIsSound : Prop :=
  State.reset.stepRule ∧ State.reset.memoryOk ∧ State.reset.pending = [] ∧ State.reset.out = []

/-- Every step keeps the rule of the single step (R29, R34, R35): TRACK, HOLDOVER and QUALIFY, and REFUSED when it was not entered from ALIGN, are states in which
the one permitted step has been used. -/
def Obligations.StepKeepsStepRule : Prop := ∀ s t : State, s.stepRule → step s = .next t → t.stepRule

/-- Every step keeps the Pantry, the flash and the engines' memories in their canonical form, so that equal memories are equal data. -/
def Obligations.StepKeepsMemoryCanonical : Prop := ∀ s t : State, s.memoryOk → step s = .next t → t.memoryOk

/-- No command stops the block: every command has an effect in every state, and so has every step. -/
def Obligations.EveryCommandAnswers : Prop :=
  (∀ (c : Instr) (s : State), ∃ t, exec c s = .next t) ∧ ∀ s : State, ∃ t, step s = .next t

/-- A part held in internal reset does nothing (R201, R509): of all commands only the resets, the rails, the crystal, the comparators and the test access port
change it. That the test access port works during internal reset is the model's reading (log entry 10). -/
def Obligations.HeldPartIgnoresCommands : Prop :=
  ∀ (c : Instr) (s : State), s.held = true → actsWhileHeld c = false → exec c s = .next s

/-- Only the Hearth's own rules move the servo (R29, R34): every other command, and the idle step, leaves the servo's state and STEP_USED as they are. -/
def Obligations.OtherCommandsKeepTheServo : Prop :=
  (∀ (c : Instr) (s t : State), mayMoveServo c = false → exec c s = .next t →
    t.hearth.state = s.hearth.state ∧ t.hearth.stepUsed = s.hearth.stepUsed ∧ t.hearth.fromAlign = s.hearth.fromAlign) ∧
  ∀ s t : State, s.pending = [] → step s = .next t →
    t.hearth.state = s.hearth.state ∧ t.hearth.stepUsed = s.hearth.stepUsed

/-- STEP_USED stays set until a re-epoch or a reset (R29, R30). -/
def Obligations.StepUsedStaysUntilReepoch : Prop :=
  ∀ (c : Instr) (s t : State), exec c s = .next t → s.hearth.stepUsed = true →
    t.hearth.stepUsed = true ∨ t.hearth.reepoched = true ∨ t.hearth.state = .off ∨ ∃ ms, c = .bootLoaderStart ms

/-- Memory reads back what was written (R390, R438): a write of the Pantry or a program of the flash gives each octet written and leaves every other, and an erase
leaves 0xFF in its sectors alone. -/
def Obligations.MemoryReadsBack : Prop :=
  (∀ (s : State) (a : Nat) (l : Bytes), (s.pantryWrite a l).pantryRead a l.length = l ∧ (s.pantryWrite a l).only s [.pantry] [] ∧
    ∀ i, i < a ∨ a + l.length ≤ i → Tab.get (s.pantryWrite a l).pantry 0 i = Tab.get s.pantry 0 i) ∧
  (∀ (s : State) (a : Nat) (l : Bytes), Tab.getRun (s.flashProgram a l).flash 0xFF a l.length = l ∧ (s.flashProgram a l).only s [.flash] [] ∧
    ∀ i, i < a ∨ a + l.length ≤ i → Tab.get (s.flashProgram a l).flash 0xFF i = Tab.get s.flash 0xFF i) ∧
  ∀ (s : State) (a k : Nat), (s.flashErase a k).only s [.flash] [] ∧
    ∀ i, Tab.get (s.flashErase a k).flash 0xFF i = if a ≤ i ∧ i < a + 65536 * k then 0xFF else Tab.get s.flash 0xFF i
end

