-- ==== Sys2Proof/Laws/Tab.lean ====
section
/-! SUPPORT. Laws of sparse maps: reading after writing, and the canonical form that every operation keeps. -/

namespace Sys2Proof.Machine

variable {α : Type}

@[simp] theorem Tab.get_nil (d : α) (k : Nat) : Tab.get ([] : Tab α) d k = d := rfl

theorem Tab.get_erase_same (t : Tab α) (d : α) (k : Nat) : (t.erase k).get d k = d := by
  induction t with
  | nil => rfl
  | cons e r ih => by_cases h : e.1 = k <;> simp [Tab.erase, Tab.get, h, ih]

theorem Tab.get_erase_ne (t : Tab α) (d : α) {k k' : Nat} (h : k' ≠ k) : (t.erase k).get d k' = t.get d k' := by
  induction t with
  | nil => rfl
  | cons e r ih =>
    by_cases he : e.1 = k
    · have : k ≠ k' := fun h' => h h'.symm
      simp [Tab.erase, Tab.get, he, ih, this]
    · simp [Tab.erase, Tab.get, he, ih]

theorem Tab.get_insert_ne (t : Tab α) (d v : α) {k k' : Nat} (h : k' ≠ k) : (t.insert k v).get d k' = t.get d k' := by
  have hk : k ≠ k' := fun h' => h h'.symm
  induction t with
  | nil => simp [Tab.insert, Tab.get, hk]
  | cons e r ih =>
    by_cases hl : k < e.1
    · simp [Tab.insert, hl, Tab.get, hk]
    · simp [Tab.insert, Tab.get, hl, ih]

theorem Tab.get_insert_erase (t : Tab α) (d v : α) (k : Nat) : ((t.erase k).insert k v).get d k = v := by
  induction t with
  | nil => simp [Tab.erase, Tab.insert, Tab.get]
  | cons e r ih =>
    by_cases he : e.1 = k
    · simpa [Tab.erase, he] using ih
    · by_cases hl : k < e.1 <;> simp [Tab.erase, Tab.insert, Tab.get, he, hl, ih]

/-- What was written is read. -/
@[simp] theorem Tab.get_set_same [DecidableEq α] (t : Tab α) (d : α) (k : Nat) (v : α) : (t.set d k v).get d k = v := by
  by_cases h : v = d
  · simp [Tab.set, h, Tab.get_erase_same]
  · simp [Tab.set, h, Tab.get_insert_erase]

/-- Every other key reads as before, whatever an unlisted key reads as. -/
theorem Tab.get_set_ne [DecidableEq α] (t : Tab α) (d d' v : α) {k k' : Nat} (h : k' ≠ k) :
    (t.set d k v).get d' k' = t.get d' k' := by
  by_cases hv : v = d
  · simp [Tab.set, hv, Tab.get_erase_ne t d' h]
  · simp [Tab.set, hv, Tab.get_insert_ne _ d' v h, Tab.get_erase_ne t d' h]

/-- A read after a write. -/
theorem Tab.get_set [DecidableEq α] (t : Tab α) (d : α) (k k' : Nat) (v : α) :
    (t.set d k v).get d k' = if k' = k then v else t.get d k' := by
  by_cases h : k' = k
  · simp [h]
  · simp [h, Tab.get_set_ne t d d v h]

/-- Octets outside a written run read as before. -/
theorem Tab.get_setRun_out [DecidableEq α] (t : Tab α) (d d' : α) (k : Nat) (l : List α) {k' : Nat}
    (h : k' < k ∨ k + l.length ≤ k') : (t.setRun d k l).get d' k' = t.get d' k' := by
  induction l generalizing t k with
  | nil => rfl
  | cons v vs ih =>
    have h1 : k' < k + 1 ∨ k + 1 + vs.length ≤ k' := by simp at h; omega
    have h2 : k' ≠ k := by simp at h; omega
    rw [Tab.setRun, ih _ _ h1, Tab.get_set_ne t d d' v h2]

/-- A written run is read back octet for octet. -/
theorem Tab.get_setRun_in [DecidableEq α] (t : Tab α) (d : α) (k : Nat) (l : List α) {i : Nat} (h : i < l.length) :
    (t.setRun d k l).get d (k + i) = l[i] := by
  induction l generalizing t k i with
  | nil => simp at h
  | cons v vs ih =>
    cases i with
    | zero =>
      rw [Tab.setRun, Tab.get_setRun_out _ d d (k + 1) vs (by omega)]
      simp
    | succ j =>
      have h' : j < vs.length := by simpa using h
      have e : k + (j + 1) = k + 1 + j := by omega
      rw [Tab.setRun, e, ih _ _ h']
      simp

/-- A run is as long as was asked. -/
@[simp] theorem Tab.length_getRun (t : Tab α) (d : α) (k n : Nat) : (t.getRun d k n).length = n := by
  induction n generalizing k with
  | zero => rfl
  | succ n ih => simp [Tab.getRun, ih]

theorem Tab.wfFrom_mono [DecidableEq α] {d : α} {lo lo' : Nat} {t : Tab α} (h : t.wfFrom d lo = true) (hl : lo' ≤ lo) :
    t.wfFrom d lo' = true := by
  cases t with
  | nil => rfl
  | cons e r =>
    simp only [Tab.wfFrom, Bool.and_eq_true, decide_eq_true_eq] at h ⊢
    exact ⟨⟨by omega, h.1.2⟩, h.2⟩

theorem Tab.wfFrom_erase [DecidableEq α] {d : α} {lo : Nat} {t : Tab α} (h : t.wfFrom d lo = true) (k : Nat) :
    (t.erase k).wfFrom d lo = true := by
  induction t generalizing lo with
  | nil => rfl
  | cons e r ih =>
    simp only [Tab.wfFrom, Bool.and_eq_true, decide_eq_true_eq] at h
    by_cases he : e.1 = k
    · simpa [Tab.erase, he] using Tab.wfFrom_mono (ih h.2) (by omega)
    · simp [Tab.erase, he, Tab.wfFrom, h.1, ih h.2]

theorem Tab.wfFrom_insert [DecidableEq α] {d : α} {lo k : Nat} {t : Tab α} {v : α} (h : t.wfFrom d lo = true)
    (hk : ∀ e ∈ t, e.1 ≠ k) (hl : lo ≤ k) (hv : v ≠ d) : (t.insert k v).wfFrom d lo = true := by
  induction t generalizing lo with
  | nil => simp [Tab.insert, Tab.wfFrom, hl, hv]
  | cons e r ih =>
    simp only [Tab.wfFrom, Bool.and_eq_true, decide_eq_true_eq] at h
    have hne : e.1 ≠ k := hk e (by simp)
    by_cases hlt : k < e.1
    · have : k + 1 ≤ e.1 := by omega
      simp [Tab.insert, hlt, Tab.wfFrom, hl, hv, h.1.2, h.2, this]
    · have : e.1 + 1 ≤ k := by omega
      simp [Tab.insert, hlt, Tab.wfFrom, h.1, ih h.2 (fun x hx => hk x (by simp [hx])) this]

theorem Tab.erase_ne (t : Tab α) (k : Nat) : ∀ e ∈ t.erase k, e.1 ≠ k := by
  induction t with
  | nil => simp [Tab.erase]
  | cons e r ih =>
    by_cases he : e.1 = k
    · simpa [Tab.erase, he] using ih
    · simpa [Tab.erase, he] using ih

/-- A write keeps the canonical form. -/
theorem Tab.wf_set [DecidableEq α] {t : Tab α} {d : α} (h : t.wf d = true) (k : Nat) (v : α) : (t.set d k v).wf d = true := by
  by_cases hv : v = d
  · simpa [Tab.set, hv, Tab.wf] using Tab.wfFrom_erase h k
  · simpa [Tab.set, hv, Tab.wf] using
      Tab.wfFrom_insert (Tab.wfFrom_erase h k) (Tab.erase_ne t k) (Nat.zero_le _) hv

/-- A written run keeps the canonical form. -/
theorem Tab.wf_setRun [DecidableEq α] {t : Tab α} {d : α} (h : t.wf d = true) (k : Nat) (l : List α) :
    (t.setRun d k l).wf d = true := by
  induction l generalizing t k with
  | nil => exact h
  | cons v vs ih => exact ih (Tab.wf_set h k v) (k + 1)

theorem Tab.wfFrom_filter [DecidableEq α] {d : α} {lo : Nat} {t : Tab α} (h : t.wfFrom d lo = true) (p : Nat × α → Bool) :
    Tab.wfFrom d lo (t.filter p) = true := by
  induction t generalizing lo with
  | nil => rfl
  | cons e r ih =>
    simp only [Tab.wfFrom, Bool.and_eq_true, decide_eq_true_eq] at h
    by_cases hp : p e = true
    · simp [hp, Tab.wfFrom, h.1, ih h.2]
    · simpa [hp] using Tab.wfFrom_mono (ih h.2) (by omega)

/-- Forgetting entries keeps the canonical form. -/
theorem Tab.wf_filter [DecidableEq α] {d : α} {t : Tab α} (h : t.wf d = true) (p : Nat × α → Bool) :
    Tab.wf d (t.filter p) = true := Tab.wfFrom_filter h p

end Sys2Proof.Machine
end

