-- ==== Sys2Proof/Laws/State.lean ====
section
/-! SUPPORT. What each update of the state leaves alone and what it sets: one lemma per field per update, each true by rfl, and one per
instance accessor. The proofs read (rfl), so that simp rewrites with them and leaves the kernel no state to compute. -/

namespace Sys2Proof.Machine

variable (s : State)

/-! Updates by `setObj`. -/
@[simp] theorem State.setObj_pending (o : Obj) (v sub : Nat) : (s.setObj o v sub).pending = s.pending := (rfl)
@[simp] theorem State.setObj_out (o : Obj) (v sub : Nat) : (s.setObj o v sub).out = s.out := (rfl)
@[simp] theorem State.setObj_free (o : Obj) (v sub : Nat) : (s.setObj o v sub).free = s.free := (rfl)
@[simp] theorem State.setObj_objs (o : Obj) (v sub : Nat) : (s.setObj o v sub).objs = Tab.set s.objs o.dflt (o.key sub) (v % 2 ^ (8 * o.ty.bytes)) := (rfl)
@[simp] theorem State.setObj_blobs (o : Obj) (v sub : Nat) : (s.setObj o v sub).blobs = s.blobs := (rfl)
@[simp] theorem State.setObj_power (o : Obj) (v sub : Nat) : (s.setObj o v sub).power = s.power := (rfl)
@[simp] theorem State.setObj_fuses (o : Obj) (v sub : Nat) : (s.setObj o v sub).fuses = s.fuses := (rfl)
@[simp] theorem State.setObj_hearth (o : Obj) (v sub : Nat) : (s.setObj o v sub).hearth = s.hearth := (rfl)
@[simp] theorem State.setObj_servo (o : Obj) (v sub : Nat) : (s.setObj o v sub).servo = s.servo := (rfl)
@[simp] theorem State.setObj_ports (o : Obj) (v sub : Nat) : (s.setObj o v sub).ports = s.ports := (rfl)
@[simp] theorem State.setObj_lanes (o : Obj) (v sub : Nat) : (s.setObj o v sub).lanes = s.lanes := (rfl)
@[simp] theorem State.setObj_groups (o : Obj) (v sub : Nat) : (s.setObj o v sub).groups = s.groups := (rfl)
@[simp] theorem State.setObj_lports (o : Obj) (v sub : Nat) : (s.setObj o v sub).lports = s.lports := (rfl)
@[simp] theorem State.setObj_plls (o : Obj) (v sub : Nat) : (s.setObj o v sub).plls = s.plls := (rfl)
@[simp] theorem State.setObj_clkouts (o : Obj) (v sub : Nat) : (s.setObj o v sub).clkouts = s.clkouts := (rfl)
@[simp] theorem State.setObj_clk (o : Obj) (v sub : Nat) : (s.setObj o v sub).clk = s.clk := (rfl)
@[simp] theorem State.setObj_gens (o : Obj) (v sub : Nat) : (s.setObj o v sub).gens = s.gens := (rfl)
@[simp] theorem State.setObj_tdcs (o : Obj) (v sub : Nat) : (s.setObj o v sub).tdcs = s.tdcs := (rfl)
@[simp] theorem State.setObj_tio (o : Obj) (v sub : Nat) : (s.setObj o v sub).tio = s.tio := (rfl)
@[simp] theorem State.setObj_cellar (o : Obj) (v sub : Nat) : (s.setObj o v sub).cellar = s.cellar := (rfl)
@[simp] theorem State.setObj_tables (o : Obj) (v sub : Nat) : (s.setObj o v sub).tables = s.tables := (rfl)
@[simp] theorem State.setObj_caravan (o : Obj) (v sub : Nat) : (s.setObj o v sub).caravan = s.caravan := (rfl)
@[simp] theorem State.setObj_cal (o : Obj) (v sub : Nat) : (s.setObj o v sub).cal = s.cal := (rfl)
@[simp] theorem State.setObj_irq (o : Obj) (v sub : Nat) : (s.setObj o v sub).irq = s.irq := (rfl)
@[simp] theorem State.setObj_engines (o : Obj) (v sub : Nat) : (s.setObj o v sub).engines = s.engines := (rfl)
@[simp] theorem State.setObj_sems (o : Obj) (v sub : Nat) : (s.setObj o v sub).sems = s.sems := (rfl)
@[simp] theorem State.setObj_snap (o : Obj) (v sub : Nat) : (s.setObj o v sub).snap = s.snap := (rfl)
@[simp] theorem State.setObj_lantern (o : Obj) (v sub : Nat) : (s.setObj o v sub).lantern = s.lantern := (rfl)
@[simp] theorem State.setObj_jtag (o : Obj) (v sub : Nat) : (s.setObj o v sub).jtag = s.jtag := (rfl)
@[simp] theorem State.setObj_falri (o : Obj) (v sub : Nat) : (s.setObj o v sub).falri = s.falri := (rfl)
@[simp] theorem State.setObj_hier (o : Obj) (v sub : Nat) : (s.setObj o v sub).hier = s.hier := (rfl)
@[simp] theorem State.setObj_twin (o : Obj) (v sub : Nat) : (s.setObj o v sub).twin = s.twin := (rfl)
@[simp] theorem State.setObj_flash (o : Obj) (v sub : Nat) : (s.setObj o v sub).flash = s.flash := (rfl)
@[simp] theorem State.setObj_pantry (o : Obj) (v sub : Nat) : (s.setObj o v sub).pantry = s.pantry := (rfl)
@[simp] theorem State.setObj_lane (o : Obj) (v sub : Nat) (m : Nat) : (s.setObj o v sub).lane m = s.lane m := (rfl)
@[simp] theorem State.setObj_lport (o : Obj) (v sub : Nat) (m : Nat) : (s.setObj o v sub).lport m = s.lport m := (rfl)
@[simp] theorem State.setObj_port (o : Obj) (v sub : Nat) (m : Nat) : (s.setObj o v sub).port m = s.port m := (rfl)
@[simp] theorem State.setObj_group (o : Obj) (v sub : Nat) (m : Nat) : (s.setObj o v sub).group m = s.group m := (rfl)
@[simp] theorem State.setObj_pll (o : Obj) (v sub : Nat) (m : Nat) : (s.setObj o v sub).pll m = s.pll m := (rfl)
@[simp] theorem State.setObj_clkout (o : Obj) (v sub : Nat) (m : Nat) : (s.setObj o v sub).clkout m = s.clkout m := (rfl)
@[simp] theorem State.setObj_gen (o : Obj) (v sub : Nat) (m : Nat) : (s.setObj o v sub).gen m = s.gen m := (rfl)
@[simp] theorem State.setObj_tdc (o : Obj) (v sub : Nat) (m : Nat) : (s.setObj o v sub).tdc m = s.tdc m := (rfl)
@[simp] theorem State.setObj_eng (o : Obj) (v sub : Nat) (m : Nat) : (s.setObj o v sub).eng m = s.eng m := (rfl)
@[simp] theorem State.setObj_blob (o : Obj) (v sub : Nat) (o' : Obj) (j : Nat) : (s.setObj o v sub).blob o' j = s.blob o' j := (rfl)
@[simp] theorem State.setObj_calRec (o : Obj) (v sub : Nat) (j m : Nat) : (s.setObj o v sub).calRec j m = s.calRec j m := (rfl)
@[simp] theorem State.setObj_held (o : Obj) (v sub : Nat) : (s.setObj o v sub).held = s.held := (rfl)

/-! Updates by `setBlob`. -/
@[simp] theorem State.setBlob_pending (o : Obj) (b : Blob) (sub : Nat) : (s.setBlob o b sub).pending = s.pending := (rfl)
@[simp] theorem State.setBlob_out (o : Obj) (b : Blob) (sub : Nat) : (s.setBlob o b sub).out = s.out := (rfl)
@[simp] theorem State.setBlob_free (o : Obj) (b : Blob) (sub : Nat) : (s.setBlob o b sub).free = s.free := (rfl)
@[simp] theorem State.setBlob_objs (o : Obj) (b : Blob) (sub : Nat) : (s.setBlob o b sub).objs = s.objs := (rfl)
@[simp] theorem State.setBlob_blobs (o : Obj) (b : Blob) (sub : Nat) : (s.setBlob o b sub).blobs = Tab.set s.blobs (blobDflt o) (o.key sub) b := (rfl)
@[simp] theorem State.setBlob_power (o : Obj) (b : Blob) (sub : Nat) : (s.setBlob o b sub).power = s.power := (rfl)
@[simp] theorem State.setBlob_fuses (o : Obj) (b : Blob) (sub : Nat) : (s.setBlob o b sub).fuses = s.fuses := (rfl)
@[simp] theorem State.setBlob_hearth (o : Obj) (b : Blob) (sub : Nat) : (s.setBlob o b sub).hearth = s.hearth := (rfl)
@[simp] theorem State.setBlob_servo (o : Obj) (b : Blob) (sub : Nat) : (s.setBlob o b sub).servo = s.servo := (rfl)
@[simp] theorem State.setBlob_ports (o : Obj) (b : Blob) (sub : Nat) : (s.setBlob o b sub).ports = s.ports := (rfl)
@[simp] theorem State.setBlob_lanes (o : Obj) (b : Blob) (sub : Nat) : (s.setBlob o b sub).lanes = s.lanes := (rfl)
@[simp] theorem State.setBlob_groups (o : Obj) (b : Blob) (sub : Nat) : (s.setBlob o b sub).groups = s.groups := (rfl)
@[simp] theorem State.setBlob_lports (o : Obj) (b : Blob) (sub : Nat) : (s.setBlob o b sub).lports = s.lports := (rfl)
@[simp] theorem State.setBlob_plls (o : Obj) (b : Blob) (sub : Nat) : (s.setBlob o b sub).plls = s.plls := (rfl)
@[simp] theorem State.setBlob_clkouts (o : Obj) (b : Blob) (sub : Nat) : (s.setBlob o b sub).clkouts = s.clkouts := (rfl)
@[simp] theorem State.setBlob_clk (o : Obj) (b : Blob) (sub : Nat) : (s.setBlob o b sub).clk = s.clk := (rfl)
@[simp] theorem State.setBlob_gens (o : Obj) (b : Blob) (sub : Nat) : (s.setBlob o b sub).gens = s.gens := (rfl)
@[simp] theorem State.setBlob_tdcs (o : Obj) (b : Blob) (sub : Nat) : (s.setBlob o b sub).tdcs = s.tdcs := (rfl)
@[simp] theorem State.setBlob_tio (o : Obj) (b : Blob) (sub : Nat) : (s.setBlob o b sub).tio = s.tio := (rfl)
@[simp] theorem State.setBlob_cellar (o : Obj) (b : Blob) (sub : Nat) : (s.setBlob o b sub).cellar = s.cellar := (rfl)
@[simp] theorem State.setBlob_tables (o : Obj) (b : Blob) (sub : Nat) : (s.setBlob o b sub).tables = s.tables := (rfl)
@[simp] theorem State.setBlob_caravan (o : Obj) (b : Blob) (sub : Nat) : (s.setBlob o b sub).caravan = s.caravan := (rfl)
@[simp] theorem State.setBlob_cal (o : Obj) (b : Blob) (sub : Nat) : (s.setBlob o b sub).cal = s.cal := (rfl)
@[simp] theorem State.setBlob_irq (o : Obj) (b : Blob) (sub : Nat) : (s.setBlob o b sub).irq = s.irq := (rfl)
@[simp] theorem State.setBlob_engines (o : Obj) (b : Blob) (sub : Nat) : (s.setBlob o b sub).engines = s.engines := (rfl)
@[simp] theorem State.setBlob_sems (o : Obj) (b : Blob) (sub : Nat) : (s.setBlob o b sub).sems = s.sems := (rfl)
@[simp] theorem State.setBlob_snap (o : Obj) (b : Blob) (sub : Nat) : (s.setBlob o b sub).snap = s.snap := (rfl)
@[simp] theorem State.setBlob_lantern (o : Obj) (b : Blob) (sub : Nat) : (s.setBlob o b sub).lantern = s.lantern := (rfl)
@[simp] theorem State.setBlob_jtag (o : Obj) (b : Blob) (sub : Nat) : (s.setBlob o b sub).jtag = s.jtag := (rfl)
@[simp] theorem State.setBlob_falri (o : Obj) (b : Blob) (sub : Nat) : (s.setBlob o b sub).falri = s.falri := (rfl)
@[simp] theorem State.setBlob_hier (o : Obj) (b : Blob) (sub : Nat) : (s.setBlob o b sub).hier = s.hier := (rfl)
@[simp] theorem State.setBlob_twin (o : Obj) (b : Blob) (sub : Nat) : (s.setBlob o b sub).twin = s.twin := (rfl)
@[simp] theorem State.setBlob_flash (o : Obj) (b : Blob) (sub : Nat) : (s.setBlob o b sub).flash = s.flash := (rfl)
@[simp] theorem State.setBlob_pantry (o : Obj) (b : Blob) (sub : Nat) : (s.setBlob o b sub).pantry = s.pantry := (rfl)
@[simp] theorem State.setBlob_lane (o : Obj) (b : Blob) (sub : Nat) (m : Nat) : (s.setBlob o b sub).lane m = s.lane m := (rfl)
@[simp] theorem State.setBlob_lport (o : Obj) (b : Blob) (sub : Nat) (m : Nat) : (s.setBlob o b sub).lport m = s.lport m := (rfl)
@[simp] theorem State.setBlob_port (o : Obj) (b : Blob) (sub : Nat) (m : Nat) : (s.setBlob o b sub).port m = s.port m := (rfl)
@[simp] theorem State.setBlob_group (o : Obj) (b : Blob) (sub : Nat) (m : Nat) : (s.setBlob o b sub).group m = s.group m := (rfl)
@[simp] theorem State.setBlob_pll (o : Obj) (b : Blob) (sub : Nat) (m : Nat) : (s.setBlob o b sub).pll m = s.pll m := (rfl)
@[simp] theorem State.setBlob_clkout (o : Obj) (b : Blob) (sub : Nat) (m : Nat) : (s.setBlob o b sub).clkout m = s.clkout m := (rfl)
@[simp] theorem State.setBlob_gen (o : Obj) (b : Blob) (sub : Nat) (m : Nat) : (s.setBlob o b sub).gen m = s.gen m := (rfl)
@[simp] theorem State.setBlob_tdc (o : Obj) (b : Blob) (sub : Nat) (m : Nat) : (s.setBlob o b sub).tdc m = s.tdc m := (rfl)
@[simp] theorem State.setBlob_eng (o : Obj) (b : Blob) (sub : Nat) (m : Nat) : (s.setBlob o b sub).eng m = s.eng m := (rfl)
@[simp] theorem State.setBlob_obj (o : Obj) (b : Blob) (sub : Nat) (o' : Obj) (j : Nat) : (s.setBlob o b sub).obj o' j = s.obj o' j := (rfl)
@[simp] theorem State.setBlob_calRec (o : Obj) (b : Blob) (sub : Nat) (j m : Nat) : (s.setBlob o b sub).calRec j m = s.calRec j m := (rfl)
@[simp] theorem State.setBlob_held (o : Obj) (b : Blob) (sub : Nat) : (s.setBlob o b sub).held = s.held := (rfl)

/-! Updates by `emit`. -/
@[simp] theorem State.emit_pending (e : Emit) : (s.emit e).pending = s.pending := (rfl)
@[simp] theorem State.emit_out (e : Emit) : (s.emit e).out = e :: s.out := (rfl)
@[simp] theorem State.emit_free (e : Emit) : (s.emit e).free = s.free := (rfl)
@[simp] theorem State.emit_objs (e : Emit) : (s.emit e).objs = s.objs := (rfl)
@[simp] theorem State.emit_blobs (e : Emit) : (s.emit e).blobs = s.blobs := (rfl)
@[simp] theorem State.emit_power (e : Emit) : (s.emit e).power = s.power := (rfl)
@[simp] theorem State.emit_fuses (e : Emit) : (s.emit e).fuses = s.fuses := (rfl)
@[simp] theorem State.emit_hearth (e : Emit) : (s.emit e).hearth = s.hearth := (rfl)
@[simp] theorem State.emit_servo (e : Emit) : (s.emit e).servo = s.servo := (rfl)
@[simp] theorem State.emit_ports (e : Emit) : (s.emit e).ports = s.ports := (rfl)
@[simp] theorem State.emit_lanes (e : Emit) : (s.emit e).lanes = s.lanes := (rfl)
@[simp] theorem State.emit_groups (e : Emit) : (s.emit e).groups = s.groups := (rfl)
@[simp] theorem State.emit_lports (e : Emit) : (s.emit e).lports = s.lports := (rfl)
@[simp] theorem State.emit_plls (e : Emit) : (s.emit e).plls = s.plls := (rfl)
@[simp] theorem State.emit_clkouts (e : Emit) : (s.emit e).clkouts = s.clkouts := (rfl)
@[simp] theorem State.emit_clk (e : Emit) : (s.emit e).clk = s.clk := (rfl)
@[simp] theorem State.emit_gens (e : Emit) : (s.emit e).gens = s.gens := (rfl)
@[simp] theorem State.emit_tdcs (e : Emit) : (s.emit e).tdcs = s.tdcs := (rfl)
@[simp] theorem State.emit_tio (e : Emit) : (s.emit e).tio = s.tio := (rfl)
@[simp] theorem State.emit_cellar (e : Emit) : (s.emit e).cellar = s.cellar := (rfl)
@[simp] theorem State.emit_tables (e : Emit) : (s.emit e).tables = s.tables := (rfl)
@[simp] theorem State.emit_caravan (e : Emit) : (s.emit e).caravan = s.caravan := (rfl)
@[simp] theorem State.emit_cal (e : Emit) : (s.emit e).cal = s.cal := (rfl)
@[simp] theorem State.emit_irq (e : Emit) : (s.emit e).irq = s.irq := (rfl)
@[simp] theorem State.emit_engines (e : Emit) : (s.emit e).engines = s.engines := (rfl)
@[simp] theorem State.emit_sems (e : Emit) : (s.emit e).sems = s.sems := (rfl)
@[simp] theorem State.emit_snap (e : Emit) : (s.emit e).snap = s.snap := (rfl)
@[simp] theorem State.emit_lantern (e : Emit) : (s.emit e).lantern = s.lantern := (rfl)
@[simp] theorem State.emit_jtag (e : Emit) : (s.emit e).jtag = s.jtag := (rfl)
@[simp] theorem State.emit_falri (e : Emit) : (s.emit e).falri = s.falri := (rfl)
@[simp] theorem State.emit_hier (e : Emit) : (s.emit e).hier = s.hier := (rfl)
@[simp] theorem State.emit_twin (e : Emit) : (s.emit e).twin = s.twin := (rfl)
@[simp] theorem State.emit_flash (e : Emit) : (s.emit e).flash = s.flash := (rfl)
@[simp] theorem State.emit_pantry (e : Emit) : (s.emit e).pantry = s.pantry := (rfl)
@[simp] theorem State.emit_lane (e : Emit) (m : Nat) : (s.emit e).lane m = s.lane m := (rfl)
@[simp] theorem State.emit_lport (e : Emit) (m : Nat) : (s.emit e).lport m = s.lport m := (rfl)
@[simp] theorem State.emit_port (e : Emit) (m : Nat) : (s.emit e).port m = s.port m := (rfl)
@[simp] theorem State.emit_group (e : Emit) (m : Nat) : (s.emit e).group m = s.group m := (rfl)
@[simp] theorem State.emit_pll (e : Emit) (m : Nat) : (s.emit e).pll m = s.pll m := (rfl)
@[simp] theorem State.emit_clkout (e : Emit) (m : Nat) : (s.emit e).clkout m = s.clkout m := (rfl)
@[simp] theorem State.emit_gen (e : Emit) (m : Nat) : (s.emit e).gen m = s.gen m := (rfl)
@[simp] theorem State.emit_tdc (e : Emit) (m : Nat) : (s.emit e).tdc m = s.tdc m := (rfl)
@[simp] theorem State.emit_eng (e : Emit) (m : Nat) : (s.emit e).eng m = s.eng m := (rfl)
@[simp] theorem State.emit_obj (e : Emit) (o' : Obj) (j : Nat) : (s.emit e).obj o' j = s.obj o' j := (rfl)
@[simp] theorem State.emit_blob (e : Emit) (o' : Obj) (j : Nat) : (s.emit e).blob o' j = s.blob o' j := (rfl)
@[simp] theorem State.emit_calRec (e : Emit) (j m : Nat) : (s.emit e).calRec j m = s.calRec j m := (rfl)
@[simp] theorem State.emit_held (e : Emit) : (s.emit e).held = s.held := (rfl)

/-! Updates by `fresh`. -/
@[simp] theorem State.fresh_pending : (s.fresh).pending = s.pending := (rfl)
@[simp] theorem State.fresh_out : (s.fresh).out = s.out := (rfl)
@[simp] theorem State.fresh_free : (s.fresh).free = s.free + 1 := (rfl)
@[simp] theorem State.fresh_objs : (s.fresh).objs = s.objs := (rfl)
@[simp] theorem State.fresh_blobs : (s.fresh).blobs = s.blobs := (rfl)
@[simp] theorem State.fresh_power : (s.fresh).power = s.power := (rfl)
@[simp] theorem State.fresh_fuses : (s.fresh).fuses = s.fuses := (rfl)
@[simp] theorem State.fresh_hearth : (s.fresh).hearth = s.hearth := (rfl)
@[simp] theorem State.fresh_servo : (s.fresh).servo = s.servo := (rfl)
@[simp] theorem State.fresh_ports : (s.fresh).ports = s.ports := (rfl)
@[simp] theorem State.fresh_lanes : (s.fresh).lanes = s.lanes := (rfl)
@[simp] theorem State.fresh_groups : (s.fresh).groups = s.groups := (rfl)
@[simp] theorem State.fresh_lports : (s.fresh).lports = s.lports := (rfl)
@[simp] theorem State.fresh_plls : (s.fresh).plls = s.plls := (rfl)
@[simp] theorem State.fresh_clkouts : (s.fresh).clkouts = s.clkouts := (rfl)
@[simp] theorem State.fresh_clk : (s.fresh).clk = s.clk := (rfl)
@[simp] theorem State.fresh_gens : (s.fresh).gens = s.gens := (rfl)
@[simp] theorem State.fresh_tdcs : (s.fresh).tdcs = s.tdcs := (rfl)
@[simp] theorem State.fresh_tio : (s.fresh).tio = s.tio := (rfl)
@[simp] theorem State.fresh_cellar : (s.fresh).cellar = s.cellar := (rfl)
@[simp] theorem State.fresh_tables : (s.fresh).tables = s.tables := (rfl)
@[simp] theorem State.fresh_caravan : (s.fresh).caravan = s.caravan := (rfl)
@[simp] theorem State.fresh_cal : (s.fresh).cal = s.cal := (rfl)
@[simp] theorem State.fresh_irq : (s.fresh).irq = s.irq := (rfl)
@[simp] theorem State.fresh_engines : (s.fresh).engines = s.engines := (rfl)
@[simp] theorem State.fresh_sems : (s.fresh).sems = s.sems := (rfl)
@[simp] theorem State.fresh_snap : (s.fresh).snap = s.snap := (rfl)
@[simp] theorem State.fresh_lantern : (s.fresh).lantern = s.lantern := (rfl)
@[simp] theorem State.fresh_jtag : (s.fresh).jtag = s.jtag := (rfl)
@[simp] theorem State.fresh_falri : (s.fresh).falri = s.falri := (rfl)
@[simp] theorem State.fresh_hier : (s.fresh).hier = s.hier := (rfl)
@[simp] theorem State.fresh_twin : (s.fresh).twin = s.twin := (rfl)
@[simp] theorem State.fresh_flash : (s.fresh).flash = s.flash := (rfl)
@[simp] theorem State.fresh_pantry : (s.fresh).pantry = s.pantry := (rfl)
@[simp] theorem State.fresh_lane (m : Nat) : (s.fresh).lane m = s.lane m := (rfl)
@[simp] theorem State.fresh_lport (m : Nat) : (s.fresh).lport m = s.lport m := (rfl)
@[simp] theorem State.fresh_port (m : Nat) : (s.fresh).port m = s.port m := (rfl)
@[simp] theorem State.fresh_group (m : Nat) : (s.fresh).group m = s.group m := (rfl)
@[simp] theorem State.fresh_pll (m : Nat) : (s.fresh).pll m = s.pll m := (rfl)
@[simp] theorem State.fresh_clkout (m : Nat) : (s.fresh).clkout m = s.clkout m := (rfl)
@[simp] theorem State.fresh_gen (m : Nat) : (s.fresh).gen m = s.gen m := (rfl)
@[simp] theorem State.fresh_tdc (m : Nat) : (s.fresh).tdc m = s.tdc m := (rfl)
@[simp] theorem State.fresh_eng (m : Nat) : (s.fresh).eng m = s.eng m := (rfl)
@[simp] theorem State.fresh_obj (o' : Obj) (j : Nat) : (s.fresh).obj o' j = s.obj o' j := (rfl)
@[simp] theorem State.fresh_blob (o' : Obj) (j : Nat) : (s.fresh).blob o' j = s.blob o' j := (rfl)
@[simp] theorem State.fresh_calRec (j m : Nat) : (s.fresh).calRec j m = s.calRec j m := (rfl)
@[simp] theorem State.fresh_held : (s.fresh).held = s.held := (rfl)

/-! Updates by `pantryWrite`. -/
@[simp] theorem State.pantryWrite_pending (a : Nat) (b : Bytes) : (s.pantryWrite a b).pending = s.pending := (rfl)
@[simp] theorem State.pantryWrite_out (a : Nat) (b : Bytes) : (s.pantryWrite a b).out = s.out := (rfl)
@[simp] theorem State.pantryWrite_free (a : Nat) (b : Bytes) : (s.pantryWrite a b).free = s.free := (rfl)
@[simp] theorem State.pantryWrite_objs (a : Nat) (b : Bytes) : (s.pantryWrite a b).objs = s.objs := (rfl)
@[simp] theorem State.pantryWrite_blobs (a : Nat) (b : Bytes) : (s.pantryWrite a b).blobs = s.blobs := (rfl)
@[simp] theorem State.pantryWrite_power (a : Nat) (b : Bytes) : (s.pantryWrite a b).power = s.power := (rfl)
@[simp] theorem State.pantryWrite_fuses (a : Nat) (b : Bytes) : (s.pantryWrite a b).fuses = s.fuses := (rfl)
@[simp] theorem State.pantryWrite_hearth (a : Nat) (b : Bytes) : (s.pantryWrite a b).hearth = s.hearth := (rfl)
@[simp] theorem State.pantryWrite_servo (a : Nat) (b : Bytes) : (s.pantryWrite a b).servo = s.servo := (rfl)
@[simp] theorem State.pantryWrite_ports (a : Nat) (b : Bytes) : (s.pantryWrite a b).ports = s.ports := (rfl)
@[simp] theorem State.pantryWrite_lanes (a : Nat) (b : Bytes) : (s.pantryWrite a b).lanes = s.lanes := (rfl)
@[simp] theorem State.pantryWrite_groups (a : Nat) (b : Bytes) : (s.pantryWrite a b).groups = s.groups := (rfl)
@[simp] theorem State.pantryWrite_lports (a : Nat) (b : Bytes) : (s.pantryWrite a b).lports = s.lports := (rfl)
@[simp] theorem State.pantryWrite_plls (a : Nat) (b : Bytes) : (s.pantryWrite a b).plls = s.plls := (rfl)
@[simp] theorem State.pantryWrite_clkouts (a : Nat) (b : Bytes) : (s.pantryWrite a b).clkouts = s.clkouts := (rfl)
@[simp] theorem State.pantryWrite_clk (a : Nat) (b : Bytes) : (s.pantryWrite a b).clk = s.clk := (rfl)
@[simp] theorem State.pantryWrite_gens (a : Nat) (b : Bytes) : (s.pantryWrite a b).gens = s.gens := (rfl)
@[simp] theorem State.pantryWrite_tdcs (a : Nat) (b : Bytes) : (s.pantryWrite a b).tdcs = s.tdcs := (rfl)
@[simp] theorem State.pantryWrite_tio (a : Nat) (b : Bytes) : (s.pantryWrite a b).tio = s.tio := (rfl)
@[simp] theorem State.pantryWrite_cellar (a : Nat) (b : Bytes) : (s.pantryWrite a b).cellar = s.cellar := (rfl)
@[simp] theorem State.pantryWrite_tables (a : Nat) (b : Bytes) : (s.pantryWrite a b).tables = s.tables := (rfl)
@[simp] theorem State.pantryWrite_caravan (a : Nat) (b : Bytes) : (s.pantryWrite a b).caravan = s.caravan := (rfl)
@[simp] theorem State.pantryWrite_cal (a : Nat) (b : Bytes) : (s.pantryWrite a b).cal = s.cal := (rfl)
@[simp] theorem State.pantryWrite_irq (a : Nat) (b : Bytes) : (s.pantryWrite a b).irq = s.irq := (rfl)
@[simp] theorem State.pantryWrite_engines (a : Nat) (b : Bytes) : (s.pantryWrite a b).engines = s.engines := (rfl)
@[simp] theorem State.pantryWrite_sems (a : Nat) (b : Bytes) : (s.pantryWrite a b).sems = s.sems := (rfl)
@[simp] theorem State.pantryWrite_snap (a : Nat) (b : Bytes) : (s.pantryWrite a b).snap = s.snap := (rfl)
@[simp] theorem State.pantryWrite_lantern (a : Nat) (b : Bytes) : (s.pantryWrite a b).lantern = s.lantern := (rfl)
@[simp] theorem State.pantryWrite_jtag (a : Nat) (b : Bytes) : (s.pantryWrite a b).jtag = s.jtag := (rfl)
@[simp] theorem State.pantryWrite_falri (a : Nat) (b : Bytes) : (s.pantryWrite a b).falri = s.falri := (rfl)
@[simp] theorem State.pantryWrite_hier (a : Nat) (b : Bytes) : (s.pantryWrite a b).hier = s.hier := (rfl)
@[simp] theorem State.pantryWrite_twin (a : Nat) (b : Bytes) : (s.pantryWrite a b).twin = s.twin := (rfl)
@[simp] theorem State.pantryWrite_flash (a : Nat) (b : Bytes) : (s.pantryWrite a b).flash = s.flash := (rfl)
@[simp] theorem State.pantryWrite_pantry (a : Nat) (b : Bytes) : (s.pantryWrite a b).pantry = Tab.setRun s.pantry 0 a b := (rfl)
@[simp] theorem State.pantryWrite_lane (a : Nat) (b : Bytes) (m : Nat) : (s.pantryWrite a b).lane m = s.lane m := (rfl)
@[simp] theorem State.pantryWrite_lport (a : Nat) (b : Bytes) (m : Nat) : (s.pantryWrite a b).lport m = s.lport m := (rfl)
@[simp] theorem State.pantryWrite_port (a : Nat) (b : Bytes) (m : Nat) : (s.pantryWrite a b).port m = s.port m := (rfl)
@[simp] theorem State.pantryWrite_group (a : Nat) (b : Bytes) (m : Nat) : (s.pantryWrite a b).group m = s.group m := (rfl)
@[simp] theorem State.pantryWrite_pll (a : Nat) (b : Bytes) (m : Nat) : (s.pantryWrite a b).pll m = s.pll m := (rfl)
@[simp] theorem State.pantryWrite_clkout (a : Nat) (b : Bytes) (m : Nat) : (s.pantryWrite a b).clkout m = s.clkout m := (rfl)
@[simp] theorem State.pantryWrite_gen (a : Nat) (b : Bytes) (m : Nat) : (s.pantryWrite a b).gen m = s.gen m := (rfl)
@[simp] theorem State.pantryWrite_tdc (a : Nat) (b : Bytes) (m : Nat) : (s.pantryWrite a b).tdc m = s.tdc m := (rfl)
@[simp] theorem State.pantryWrite_eng (a : Nat) (b : Bytes) (m : Nat) : (s.pantryWrite a b).eng m = s.eng m := (rfl)
@[simp] theorem State.pantryWrite_obj (a : Nat) (b : Bytes) (o' : Obj) (j : Nat) : (s.pantryWrite a b).obj o' j = s.obj o' j := (rfl)
@[simp] theorem State.pantryWrite_blob (a : Nat) (b : Bytes) (o' : Obj) (j : Nat) : (s.pantryWrite a b).blob o' j = s.blob o' j := (rfl)
@[simp] theorem State.pantryWrite_calRec (a : Nat) (b : Bytes) (j m : Nat) : (s.pantryWrite a b).calRec j m = s.calRec j m := (rfl)
@[simp] theorem State.pantryWrite_held (a : Nat) (b : Bytes) : (s.pantryWrite a b).held = s.held := (rfl)

/-! Updates by `modHearth`. -/
@[simp] theorem State.modHearth_pending (f : Hearth → Hearth) : (s.modHearth f).pending = s.pending := (rfl)
@[simp] theorem State.modHearth_out (f : Hearth → Hearth) : (s.modHearth f).out = s.out := (rfl)
@[simp] theorem State.modHearth_free (f : Hearth → Hearth) : (s.modHearth f).free = s.free := (rfl)
@[simp] theorem State.modHearth_objs (f : Hearth → Hearth) : (s.modHearth f).objs = s.objs := (rfl)
@[simp] theorem State.modHearth_blobs (f : Hearth → Hearth) : (s.modHearth f).blobs = s.blobs := (rfl)
@[simp] theorem State.modHearth_power (f : Hearth → Hearth) : (s.modHearth f).power = s.power := (rfl)
@[simp] theorem State.modHearth_fuses (f : Hearth → Hearth) : (s.modHearth f).fuses = s.fuses := (rfl)
@[simp] theorem State.modHearth_hearth (f : Hearth → Hearth) : (s.modHearth f).hearth = f s.hearth := (rfl)
@[simp] theorem State.modHearth_servo (f : Hearth → Hearth) : (s.modHearth f).servo = s.servo := (rfl)
@[simp] theorem State.modHearth_ports (f : Hearth → Hearth) : (s.modHearth f).ports = s.ports := (rfl)
@[simp] theorem State.modHearth_lanes (f : Hearth → Hearth) : (s.modHearth f).lanes = s.lanes := (rfl)
@[simp] theorem State.modHearth_groups (f : Hearth → Hearth) : (s.modHearth f).groups = s.groups := (rfl)
@[simp] theorem State.modHearth_lports (f : Hearth → Hearth) : (s.modHearth f).lports = s.lports := (rfl)
@[simp] theorem State.modHearth_plls (f : Hearth → Hearth) : (s.modHearth f).plls = s.plls := (rfl)
@[simp] theorem State.modHearth_clkouts (f : Hearth → Hearth) : (s.modHearth f).clkouts = s.clkouts := (rfl)
@[simp] theorem State.modHearth_clk (f : Hearth → Hearth) : (s.modHearth f).clk = s.clk := (rfl)
@[simp] theorem State.modHearth_gens (f : Hearth → Hearth) : (s.modHearth f).gens = s.gens := (rfl)
@[simp] theorem State.modHearth_tdcs (f : Hearth → Hearth) : (s.modHearth f).tdcs = s.tdcs := (rfl)
@[simp] theorem State.modHearth_tio (f : Hearth → Hearth) : (s.modHearth f).tio = s.tio := (rfl)
@[simp] theorem State.modHearth_cellar (f : Hearth → Hearth) : (s.modHearth f).cellar = s.cellar := (rfl)
@[simp] theorem State.modHearth_tables (f : Hearth → Hearth) : (s.modHearth f).tables = s.tables := (rfl)
@[simp] theorem State.modHearth_caravan (f : Hearth → Hearth) : (s.modHearth f).caravan = s.caravan := (rfl)
@[simp] theorem State.modHearth_cal (f : Hearth → Hearth) : (s.modHearth f).cal = s.cal := (rfl)
@[simp] theorem State.modHearth_irq (f : Hearth → Hearth) : (s.modHearth f).irq = s.irq := (rfl)
@[simp] theorem State.modHearth_engines (f : Hearth → Hearth) : (s.modHearth f).engines = s.engines := (rfl)
@[simp] theorem State.modHearth_sems (f : Hearth → Hearth) : (s.modHearth f).sems = s.sems := (rfl)
@[simp] theorem State.modHearth_snap (f : Hearth → Hearth) : (s.modHearth f).snap = s.snap := (rfl)
@[simp] theorem State.modHearth_lantern (f : Hearth → Hearth) : (s.modHearth f).lantern = s.lantern := (rfl)
@[simp] theorem State.modHearth_jtag (f : Hearth → Hearth) : (s.modHearth f).jtag = s.jtag := (rfl)
@[simp] theorem State.modHearth_falri (f : Hearth → Hearth) : (s.modHearth f).falri = s.falri := (rfl)
@[simp] theorem State.modHearth_hier (f : Hearth → Hearth) : (s.modHearth f).hier = s.hier := (rfl)
@[simp] theorem State.modHearth_twin (f : Hearth → Hearth) : (s.modHearth f).twin = s.twin := (rfl)
@[simp] theorem State.modHearth_flash (f : Hearth → Hearth) : (s.modHearth f).flash = s.flash := (rfl)
@[simp] theorem State.modHearth_pantry (f : Hearth → Hearth) : (s.modHearth f).pantry = s.pantry := (rfl)
@[simp] theorem State.modHearth_lane (f : Hearth → Hearth) (m : Nat) : (s.modHearth f).lane m = s.lane m := (rfl)
@[simp] theorem State.modHearth_lport (f : Hearth → Hearth) (m : Nat) : (s.modHearth f).lport m = s.lport m := (rfl)
@[simp] theorem State.modHearth_port (f : Hearth → Hearth) (m : Nat) : (s.modHearth f).port m = s.port m := (rfl)
@[simp] theorem State.modHearth_group (f : Hearth → Hearth) (m : Nat) : (s.modHearth f).group m = s.group m := (rfl)
@[simp] theorem State.modHearth_pll (f : Hearth → Hearth) (m : Nat) : (s.modHearth f).pll m = s.pll m := (rfl)
@[simp] theorem State.modHearth_clkout (f : Hearth → Hearth) (m : Nat) : (s.modHearth f).clkout m = s.clkout m := (rfl)
@[simp] theorem State.modHearth_gen (f : Hearth → Hearth) (m : Nat) : (s.modHearth f).gen m = s.gen m := (rfl)
@[simp] theorem State.modHearth_tdc (f : Hearth → Hearth) (m : Nat) : (s.modHearth f).tdc m = s.tdc m := (rfl)
@[simp] theorem State.modHearth_eng (f : Hearth → Hearth) (m : Nat) : (s.modHearth f).eng m = s.eng m := (rfl)
@[simp] theorem State.modHearth_obj (f : Hearth → Hearth) (o' : Obj) (j : Nat) : (s.modHearth f).obj o' j = s.obj o' j := (rfl)
@[simp] theorem State.modHearth_blob (f : Hearth → Hearth) (o' : Obj) (j : Nat) : (s.modHearth f).blob o' j = s.blob o' j := (rfl)
@[simp] theorem State.modHearth_calRec (f : Hearth → Hearth) (j m : Nat) : (s.modHearth f).calRec j m = s.calRec j m := (rfl)
@[simp] theorem State.modHearth_held (f : Hearth → Hearth) : (s.modHearth f).held = s.held := (rfl)

/-! Updates by `modServo`. -/
@[simp] theorem State.modServo_pending (f : ServoMem → ServoMem) : (s.modServo f).pending = s.pending := (rfl)
@[simp] theorem State.modServo_out (f : ServoMem → ServoMem) : (s.modServo f).out = s.out := (rfl)
@[simp] theorem State.modServo_free (f : ServoMem → ServoMem) : (s.modServo f).free = s.free := (rfl)
@[simp] theorem State.modServo_objs (f : ServoMem → ServoMem) : (s.modServo f).objs = s.objs := (rfl)
@[simp] theorem State.modServo_blobs (f : ServoMem → ServoMem) : (s.modServo f).blobs = s.blobs := (rfl)
@[simp] theorem State.modServo_power (f : ServoMem → ServoMem) : (s.modServo f).power = s.power := (rfl)
@[simp] theorem State.modServo_fuses (f : ServoMem → ServoMem) : (s.modServo f).fuses = s.fuses := (rfl)
@[simp] theorem State.modServo_hearth (f : ServoMem → ServoMem) : (s.modServo f).hearth = s.hearth := (rfl)
@[simp] theorem State.modServo_servo (f : ServoMem → ServoMem) : (s.modServo f).servo = f s.servo := (rfl)
@[simp] theorem State.modServo_ports (f : ServoMem → ServoMem) : (s.modServo f).ports = s.ports := (rfl)
@[simp] theorem State.modServo_lanes (f : ServoMem → ServoMem) : (s.modServo f).lanes = s.lanes := (rfl)
@[simp] theorem State.modServo_groups (f : ServoMem → ServoMem) : (s.modServo f).groups = s.groups := (rfl)
@[simp] theorem State.modServo_lports (f : ServoMem → ServoMem) : (s.modServo f).lports = s.lports := (rfl)
@[simp] theorem State.modServo_plls (f : ServoMem → ServoMem) : (s.modServo f).plls = s.plls := (rfl)
@[simp] theorem State.modServo_clkouts (f : ServoMem → ServoMem) : (s.modServo f).clkouts = s.clkouts := (rfl)
@[simp] theorem State.modServo_clk (f : ServoMem → ServoMem) : (s.modServo f).clk = s.clk := (rfl)
@[simp] theorem State.modServo_gens (f : ServoMem → ServoMem) : (s.modServo f).gens = s.gens := (rfl)
@[simp] theorem State.modServo_tdcs (f : ServoMem → ServoMem) : (s.modServo f).tdcs = s.tdcs := (rfl)
@[simp] theorem State.modServo_tio (f : ServoMem → ServoMem) : (s.modServo f).tio = s.tio := (rfl)
@[simp] theorem State.modServo_cellar (f : ServoMem → ServoMem) : (s.modServo f).cellar = s.cellar := (rfl)
@[simp] theorem State.modServo_tables (f : ServoMem → ServoMem) : (s.modServo f).tables = s.tables := (rfl)
@[simp] theorem State.modServo_caravan (f : ServoMem → ServoMem) : (s.modServo f).caravan = s.caravan := (rfl)
@[simp] theorem State.modServo_cal (f : ServoMem → ServoMem) : (s.modServo f).cal = s.cal := (rfl)
@[simp] theorem State.modServo_irq (f : ServoMem → ServoMem) : (s.modServo f).irq = s.irq := (rfl)
@[simp] theorem State.modServo_engines (f : ServoMem → ServoMem) : (s.modServo f).engines = s.engines := (rfl)
@[simp] theorem State.modServo_sems (f : ServoMem → ServoMem) : (s.modServo f).sems = s.sems := (rfl)
@[simp] theorem State.modServo_snap (f : ServoMem → ServoMem) : (s.modServo f).snap = s.snap := (rfl)
@[simp] theorem State.modServo_lantern (f : ServoMem → ServoMem) : (s.modServo f).lantern = s.lantern := (rfl)
@[simp] theorem State.modServo_jtag (f : ServoMem → ServoMem) : (s.modServo f).jtag = s.jtag := (rfl)
@[simp] theorem State.modServo_falri (f : ServoMem → ServoMem) : (s.modServo f).falri = s.falri := (rfl)
@[simp] theorem State.modServo_hier (f : ServoMem → ServoMem) : (s.modServo f).hier = s.hier := (rfl)
@[simp] theorem State.modServo_twin (f : ServoMem → ServoMem) : (s.modServo f).twin = s.twin := (rfl)
@[simp] theorem State.modServo_flash (f : ServoMem → ServoMem) : (s.modServo f).flash = s.flash := (rfl)
@[simp] theorem State.modServo_pantry (f : ServoMem → ServoMem) : (s.modServo f).pantry = s.pantry := (rfl)
@[simp] theorem State.modServo_lane (f : ServoMem → ServoMem) (m : Nat) : (s.modServo f).lane m = s.lane m := (rfl)
@[simp] theorem State.modServo_lport (f : ServoMem → ServoMem) (m : Nat) : (s.modServo f).lport m = s.lport m := (rfl)
@[simp] theorem State.modServo_port (f : ServoMem → ServoMem) (m : Nat) : (s.modServo f).port m = s.port m := (rfl)
@[simp] theorem State.modServo_group (f : ServoMem → ServoMem) (m : Nat) : (s.modServo f).group m = s.group m := (rfl)
@[simp] theorem State.modServo_pll (f : ServoMem → ServoMem) (m : Nat) : (s.modServo f).pll m = s.pll m := (rfl)
@[simp] theorem State.modServo_clkout (f : ServoMem → ServoMem) (m : Nat) : (s.modServo f).clkout m = s.clkout m := (rfl)
@[simp] theorem State.modServo_gen (f : ServoMem → ServoMem) (m : Nat) : (s.modServo f).gen m = s.gen m := (rfl)
@[simp] theorem State.modServo_tdc (f : ServoMem → ServoMem) (m : Nat) : (s.modServo f).tdc m = s.tdc m := (rfl)
@[simp] theorem State.modServo_eng (f : ServoMem → ServoMem) (m : Nat) : (s.modServo f).eng m = s.eng m := (rfl)
@[simp] theorem State.modServo_obj (f : ServoMem → ServoMem) (o' : Obj) (j : Nat) : (s.modServo f).obj o' j = s.obj o' j := (rfl)
@[simp] theorem State.modServo_blob (f : ServoMem → ServoMem) (o' : Obj) (j : Nat) : (s.modServo f).blob o' j = s.blob o' j := (rfl)
@[simp] theorem State.modServo_calRec (f : ServoMem → ServoMem) (j m : Nat) : (s.modServo f).calRec j m = s.calRec j m := (rfl)
@[simp] theorem State.modServo_held (f : ServoMem → ServoMem) : (s.modServo f).held = s.held := (rfl)

/-! Updates by `modCellar`. -/
@[simp] theorem State.modCellar_pending (f : Cellar → Cellar) : (s.modCellar f).pending = s.pending := (rfl)
@[simp] theorem State.modCellar_out (f : Cellar → Cellar) : (s.modCellar f).out = s.out := (rfl)
@[simp] theorem State.modCellar_free (f : Cellar → Cellar) : (s.modCellar f).free = s.free := (rfl)
@[simp] theorem State.modCellar_objs (f : Cellar → Cellar) : (s.modCellar f).objs = s.objs := (rfl)
@[simp] theorem State.modCellar_blobs (f : Cellar → Cellar) : (s.modCellar f).blobs = s.blobs := (rfl)
@[simp] theorem State.modCellar_power (f : Cellar → Cellar) : (s.modCellar f).power = s.power := (rfl)
@[simp] theorem State.modCellar_fuses (f : Cellar → Cellar) : (s.modCellar f).fuses = s.fuses := (rfl)
@[simp] theorem State.modCellar_hearth (f : Cellar → Cellar) : (s.modCellar f).hearth = s.hearth := (rfl)
@[simp] theorem State.modCellar_servo (f : Cellar → Cellar) : (s.modCellar f).servo = s.servo := (rfl)
@[simp] theorem State.modCellar_ports (f : Cellar → Cellar) : (s.modCellar f).ports = s.ports := (rfl)
@[simp] theorem State.modCellar_lanes (f : Cellar → Cellar) : (s.modCellar f).lanes = s.lanes := (rfl)
@[simp] theorem State.modCellar_groups (f : Cellar → Cellar) : (s.modCellar f).groups = s.groups := (rfl)
@[simp] theorem State.modCellar_lports (f : Cellar → Cellar) : (s.modCellar f).lports = s.lports := (rfl)
@[simp] theorem State.modCellar_plls (f : Cellar → Cellar) : (s.modCellar f).plls = s.plls := (rfl)
@[simp] theorem State.modCellar_clkouts (f : Cellar → Cellar) : (s.modCellar f).clkouts = s.clkouts := (rfl)
@[simp] theorem State.modCellar_clk (f : Cellar → Cellar) : (s.modCellar f).clk = s.clk := (rfl)
@[simp] theorem State.modCellar_gens (f : Cellar → Cellar) : (s.modCellar f).gens = s.gens := (rfl)
@[simp] theorem State.modCellar_tdcs (f : Cellar → Cellar) : (s.modCellar f).tdcs = s.tdcs := (rfl)
@[simp] theorem State.modCellar_tio (f : Cellar → Cellar) : (s.modCellar f).tio = s.tio := (rfl)
@[simp] theorem State.modCellar_cellar (f : Cellar → Cellar) : (s.modCellar f).cellar = f s.cellar := (rfl)
@[simp] theorem State.modCellar_tables (f : Cellar → Cellar) : (s.modCellar f).tables = s.tables := (rfl)
@[simp] theorem State.modCellar_caravan (f : Cellar → Cellar) : (s.modCellar f).caravan = s.caravan := (rfl)
@[simp] theorem State.modCellar_cal (f : Cellar → Cellar) : (s.modCellar f).cal = s.cal := (rfl)
@[simp] theorem State.modCellar_irq (f : Cellar → Cellar) : (s.modCellar f).irq = s.irq := (rfl)
@[simp] theorem State.modCellar_engines (f : Cellar → Cellar) : (s.modCellar f).engines = s.engines := (rfl)
@[simp] theorem State.modCellar_sems (f : Cellar → Cellar) : (s.modCellar f).sems = s.sems := (rfl)
@[simp] theorem State.modCellar_snap (f : Cellar → Cellar) : (s.modCellar f).snap = s.snap := (rfl)
@[simp] theorem State.modCellar_lantern (f : Cellar → Cellar) : (s.modCellar f).lantern = s.lantern := (rfl)
@[simp] theorem State.modCellar_jtag (f : Cellar → Cellar) : (s.modCellar f).jtag = s.jtag := (rfl)
@[simp] theorem State.modCellar_falri (f : Cellar → Cellar) : (s.modCellar f).falri = s.falri := (rfl)
@[simp] theorem State.modCellar_hier (f : Cellar → Cellar) : (s.modCellar f).hier = s.hier := (rfl)
@[simp] theorem State.modCellar_twin (f : Cellar → Cellar) : (s.modCellar f).twin = s.twin := (rfl)
@[simp] theorem State.modCellar_flash (f : Cellar → Cellar) : (s.modCellar f).flash = s.flash := (rfl)
@[simp] theorem State.modCellar_pantry (f : Cellar → Cellar) : (s.modCellar f).pantry = s.pantry := (rfl)
@[simp] theorem State.modCellar_lane (f : Cellar → Cellar) (m : Nat) : (s.modCellar f).lane m = s.lane m := (rfl)
@[simp] theorem State.modCellar_lport (f : Cellar → Cellar) (m : Nat) : (s.modCellar f).lport m = s.lport m := (rfl)
@[simp] theorem State.modCellar_port (f : Cellar → Cellar) (m : Nat) : (s.modCellar f).port m = s.port m := (rfl)
@[simp] theorem State.modCellar_group (f : Cellar → Cellar) (m : Nat) : (s.modCellar f).group m = s.group m := (rfl)
@[simp] theorem State.modCellar_pll (f : Cellar → Cellar) (m : Nat) : (s.modCellar f).pll m = s.pll m := (rfl)
@[simp] theorem State.modCellar_clkout (f : Cellar → Cellar) (m : Nat) : (s.modCellar f).clkout m = s.clkout m := (rfl)
@[simp] theorem State.modCellar_gen (f : Cellar → Cellar) (m : Nat) : (s.modCellar f).gen m = s.gen m := (rfl)
@[simp] theorem State.modCellar_tdc (f : Cellar → Cellar) (m : Nat) : (s.modCellar f).tdc m = s.tdc m := (rfl)
@[simp] theorem State.modCellar_eng (f : Cellar → Cellar) (m : Nat) : (s.modCellar f).eng m = s.eng m := (rfl)
@[simp] theorem State.modCellar_obj (f : Cellar → Cellar) (o' : Obj) (j : Nat) : (s.modCellar f).obj o' j = s.obj o' j := (rfl)
@[simp] theorem State.modCellar_blob (f : Cellar → Cellar) (o' : Obj) (j : Nat) : (s.modCellar f).blob o' j = s.blob o' j := (rfl)
@[simp] theorem State.modCellar_calRec (f : Cellar → Cellar) (j m : Nat) : (s.modCellar f).calRec j m = s.calRec j m := (rfl)
@[simp] theorem State.modCellar_held (f : Cellar → Cellar) : (s.modCellar f).held = s.held := (rfl)

/-! Updates by `modCaravan`. -/
@[simp] theorem State.modCaravan_pending (f : Caravan → Caravan) : (s.modCaravan f).pending = s.pending := (rfl)
@[simp] theorem State.modCaravan_out (f : Caravan → Caravan) : (s.modCaravan f).out = s.out := (rfl)
@[simp] theorem State.modCaravan_free (f : Caravan → Caravan) : (s.modCaravan f).free = s.free := (rfl)
@[simp] theorem State.modCaravan_objs (f : Caravan → Caravan) : (s.modCaravan f).objs = s.objs := (rfl)
@[simp] theorem State.modCaravan_blobs (f : Caravan → Caravan) : (s.modCaravan f).blobs = s.blobs := (rfl)
@[simp] theorem State.modCaravan_power (f : Caravan → Caravan) : (s.modCaravan f).power = s.power := (rfl)
@[simp] theorem State.modCaravan_fuses (f : Caravan → Caravan) : (s.modCaravan f).fuses = s.fuses := (rfl)
@[simp] theorem State.modCaravan_hearth (f : Caravan → Caravan) : (s.modCaravan f).hearth = s.hearth := (rfl)
@[simp] theorem State.modCaravan_servo (f : Caravan → Caravan) : (s.modCaravan f).servo = s.servo := (rfl)
@[simp] theorem State.modCaravan_ports (f : Caravan → Caravan) : (s.modCaravan f).ports = s.ports := (rfl)
@[simp] theorem State.modCaravan_lanes (f : Caravan → Caravan) : (s.modCaravan f).lanes = s.lanes := (rfl)
@[simp] theorem State.modCaravan_groups (f : Caravan → Caravan) : (s.modCaravan f).groups = s.groups := (rfl)
@[simp] theorem State.modCaravan_lports (f : Caravan → Caravan) : (s.modCaravan f).lports = s.lports := (rfl)
@[simp] theorem State.modCaravan_plls (f : Caravan → Caravan) : (s.modCaravan f).plls = s.plls := (rfl)
@[simp] theorem State.modCaravan_clkouts (f : Caravan → Caravan) : (s.modCaravan f).clkouts = s.clkouts := (rfl)
@[simp] theorem State.modCaravan_clk (f : Caravan → Caravan) : (s.modCaravan f).clk = s.clk := (rfl)
@[simp] theorem State.modCaravan_gens (f : Caravan → Caravan) : (s.modCaravan f).gens = s.gens := (rfl)
@[simp] theorem State.modCaravan_tdcs (f : Caravan → Caravan) : (s.modCaravan f).tdcs = s.tdcs := (rfl)
@[simp] theorem State.modCaravan_tio (f : Caravan → Caravan) : (s.modCaravan f).tio = s.tio := (rfl)
@[simp] theorem State.modCaravan_cellar (f : Caravan → Caravan) : (s.modCaravan f).cellar = s.cellar := (rfl)
@[simp] theorem State.modCaravan_tables (f : Caravan → Caravan) : (s.modCaravan f).tables = s.tables := (rfl)
@[simp] theorem State.modCaravan_caravan (f : Caravan → Caravan) : (s.modCaravan f).caravan = f s.caravan := (rfl)
@[simp] theorem State.modCaravan_cal (f : Caravan → Caravan) : (s.modCaravan f).cal = s.cal := (rfl)
@[simp] theorem State.modCaravan_irq (f : Caravan → Caravan) : (s.modCaravan f).irq = s.irq := (rfl)
@[simp] theorem State.modCaravan_engines (f : Caravan → Caravan) : (s.modCaravan f).engines = s.engines := (rfl)
@[simp] theorem State.modCaravan_sems (f : Caravan → Caravan) : (s.modCaravan f).sems = s.sems := (rfl)
@[simp] theorem State.modCaravan_snap (f : Caravan → Caravan) : (s.modCaravan f).snap = s.snap := (rfl)
@[simp] theorem State.modCaravan_lantern (f : Caravan → Caravan) : (s.modCaravan f).lantern = s.lantern := (rfl)
@[simp] theorem State.modCaravan_jtag (f : Caravan → Caravan) : (s.modCaravan f).jtag = s.jtag := (rfl)
@[simp] theorem State.modCaravan_falri (f : Caravan → Caravan) : (s.modCaravan f).falri = s.falri := (rfl)
@[simp] theorem State.modCaravan_hier (f : Caravan → Caravan) : (s.modCaravan f).hier = s.hier := (rfl)
@[simp] theorem State.modCaravan_twin (f : Caravan → Caravan) : (s.modCaravan f).twin = s.twin := (rfl)
@[simp] theorem State.modCaravan_flash (f : Caravan → Caravan) : (s.modCaravan f).flash = s.flash := (rfl)
@[simp] theorem State.modCaravan_pantry (f : Caravan → Caravan) : (s.modCaravan f).pantry = s.pantry := (rfl)
@[simp] theorem State.modCaravan_lane (f : Caravan → Caravan) (m : Nat) : (s.modCaravan f).lane m = s.lane m := (rfl)
@[simp] theorem State.modCaravan_lport (f : Caravan → Caravan) (m : Nat) : (s.modCaravan f).lport m = s.lport m := (rfl)
@[simp] theorem State.modCaravan_port (f : Caravan → Caravan) (m : Nat) : (s.modCaravan f).port m = s.port m := (rfl)
@[simp] theorem State.modCaravan_group (f : Caravan → Caravan) (m : Nat) : (s.modCaravan f).group m = s.group m := (rfl)
@[simp] theorem State.modCaravan_pll (f : Caravan → Caravan) (m : Nat) : (s.modCaravan f).pll m = s.pll m := (rfl)
@[simp] theorem State.modCaravan_clkout (f : Caravan → Caravan) (m : Nat) : (s.modCaravan f).clkout m = s.clkout m := (rfl)
@[simp] theorem State.modCaravan_gen (f : Caravan → Caravan) (m : Nat) : (s.modCaravan f).gen m = s.gen m := (rfl)
@[simp] theorem State.modCaravan_tdc (f : Caravan → Caravan) (m : Nat) : (s.modCaravan f).tdc m = s.tdc m := (rfl)
@[simp] theorem State.modCaravan_eng (f : Caravan → Caravan) (m : Nat) : (s.modCaravan f).eng m = s.eng m := (rfl)
@[simp] theorem State.modCaravan_obj (f : Caravan → Caravan) (o' : Obj) (j : Nat) : (s.modCaravan f).obj o' j = s.obj o' j := (rfl)
@[simp] theorem State.modCaravan_blob (f : Caravan → Caravan) (o' : Obj) (j : Nat) : (s.modCaravan f).blob o' j = s.blob o' j := (rfl)
@[simp] theorem State.modCaravan_calRec (f : Caravan → Caravan) (j m : Nat) : (s.modCaravan f).calRec j m = s.calRec j m := (rfl)
@[simp] theorem State.modCaravan_held (f : Caravan → Caravan) : (s.modCaravan f).held = s.held := (rfl)

/-! Updates by `modTables`. -/
@[simp] theorem State.modTables_pending (f : Tables → Tables) : (s.modTables f).pending = s.pending := (rfl)
@[simp] theorem State.modTables_out (f : Tables → Tables) : (s.modTables f).out = s.out := (rfl)
@[simp] theorem State.modTables_free (f : Tables → Tables) : (s.modTables f).free = s.free := (rfl)
@[simp] theorem State.modTables_objs (f : Tables → Tables) : (s.modTables f).objs = s.objs := (rfl)
@[simp] theorem State.modTables_blobs (f : Tables → Tables) : (s.modTables f).blobs = s.blobs := (rfl)
@[simp] theorem State.modTables_power (f : Tables → Tables) : (s.modTables f).power = s.power := (rfl)
@[simp] theorem State.modTables_fuses (f : Tables → Tables) : (s.modTables f).fuses = s.fuses := (rfl)
@[simp] theorem State.modTables_hearth (f : Tables → Tables) : (s.modTables f).hearth = s.hearth := (rfl)
@[simp] theorem State.modTables_servo (f : Tables → Tables) : (s.modTables f).servo = s.servo := (rfl)
@[simp] theorem State.modTables_ports (f : Tables → Tables) : (s.modTables f).ports = s.ports := (rfl)
@[simp] theorem State.modTables_lanes (f : Tables → Tables) : (s.modTables f).lanes = s.lanes := (rfl)
@[simp] theorem State.modTables_groups (f : Tables → Tables) : (s.modTables f).groups = s.groups := (rfl)
@[simp] theorem State.modTables_lports (f : Tables → Tables) : (s.modTables f).lports = s.lports := (rfl)
@[simp] theorem State.modTables_plls (f : Tables → Tables) : (s.modTables f).plls = s.plls := (rfl)
@[simp] theorem State.modTables_clkouts (f : Tables → Tables) : (s.modTables f).clkouts = s.clkouts := (rfl)
@[simp] theorem State.modTables_clk (f : Tables → Tables) : (s.modTables f).clk = s.clk := (rfl)
@[simp] theorem State.modTables_gens (f : Tables → Tables) : (s.modTables f).gens = s.gens := (rfl)
@[simp] theorem State.modTables_tdcs (f : Tables → Tables) : (s.modTables f).tdcs = s.tdcs := (rfl)
@[simp] theorem State.modTables_tio (f : Tables → Tables) : (s.modTables f).tio = s.tio := (rfl)
@[simp] theorem State.modTables_cellar (f : Tables → Tables) : (s.modTables f).cellar = s.cellar := (rfl)
@[simp] theorem State.modTables_tables (f : Tables → Tables) : (s.modTables f).tables = f s.tables := (rfl)
@[simp] theorem State.modTables_caravan (f : Tables → Tables) : (s.modTables f).caravan = s.caravan := (rfl)
@[simp] theorem State.modTables_cal (f : Tables → Tables) : (s.modTables f).cal = s.cal := (rfl)
@[simp] theorem State.modTables_irq (f : Tables → Tables) : (s.modTables f).irq = s.irq := (rfl)
@[simp] theorem State.modTables_engines (f : Tables → Tables) : (s.modTables f).engines = s.engines := (rfl)
@[simp] theorem State.modTables_sems (f : Tables → Tables) : (s.modTables f).sems = s.sems := (rfl)
@[simp] theorem State.modTables_snap (f : Tables → Tables) : (s.modTables f).snap = s.snap := (rfl)
@[simp] theorem State.modTables_lantern (f : Tables → Tables) : (s.modTables f).lantern = s.lantern := (rfl)
@[simp] theorem State.modTables_jtag (f : Tables → Tables) : (s.modTables f).jtag = s.jtag := (rfl)
@[simp] theorem State.modTables_falri (f : Tables → Tables) : (s.modTables f).falri = s.falri := (rfl)
@[simp] theorem State.modTables_hier (f : Tables → Tables) : (s.modTables f).hier = s.hier := (rfl)
@[simp] theorem State.modTables_twin (f : Tables → Tables) : (s.modTables f).twin = s.twin := (rfl)
@[simp] theorem State.modTables_flash (f : Tables → Tables) : (s.modTables f).flash = s.flash := (rfl)
@[simp] theorem State.modTables_pantry (f : Tables → Tables) : (s.modTables f).pantry = s.pantry := (rfl)
@[simp] theorem State.modTables_lane (f : Tables → Tables) (m : Nat) : (s.modTables f).lane m = s.lane m := (rfl)
@[simp] theorem State.modTables_lport (f : Tables → Tables) (m : Nat) : (s.modTables f).lport m = s.lport m := (rfl)
@[simp] theorem State.modTables_port (f : Tables → Tables) (m : Nat) : (s.modTables f).port m = s.port m := (rfl)
@[simp] theorem State.modTables_group (f : Tables → Tables) (m : Nat) : (s.modTables f).group m = s.group m := (rfl)
@[simp] theorem State.modTables_pll (f : Tables → Tables) (m : Nat) : (s.modTables f).pll m = s.pll m := (rfl)
@[simp] theorem State.modTables_clkout (f : Tables → Tables) (m : Nat) : (s.modTables f).clkout m = s.clkout m := (rfl)
@[simp] theorem State.modTables_gen (f : Tables → Tables) (m : Nat) : (s.modTables f).gen m = s.gen m := (rfl)
@[simp] theorem State.modTables_tdc (f : Tables → Tables) (m : Nat) : (s.modTables f).tdc m = s.tdc m := (rfl)
@[simp] theorem State.modTables_eng (f : Tables → Tables) (m : Nat) : (s.modTables f).eng m = s.eng m := (rfl)
@[simp] theorem State.modTables_obj (f : Tables → Tables) (o' : Obj) (j : Nat) : (s.modTables f).obj o' j = s.obj o' j := (rfl)
@[simp] theorem State.modTables_blob (f : Tables → Tables) (o' : Obj) (j : Nat) : (s.modTables f).blob o' j = s.blob o' j := (rfl)
@[simp] theorem State.modTables_calRec (f : Tables → Tables) (j m : Nat) : (s.modTables f).calRec j m = s.calRec j m := (rfl)
@[simp] theorem State.modTables_held (f : Tables → Tables) : (s.modTables f).held = s.held := (rfl)

/-! Updates by `modTio`. -/
@[simp] theorem State.modTio_pending (f : Tio → Tio) : (s.modTio f).pending = s.pending := (rfl)
@[simp] theorem State.modTio_out (f : Tio → Tio) : (s.modTio f).out = s.out := (rfl)
@[simp] theorem State.modTio_free (f : Tio → Tio) : (s.modTio f).free = s.free := (rfl)
@[simp] theorem State.modTio_objs (f : Tio → Tio) : (s.modTio f).objs = s.objs := (rfl)
@[simp] theorem State.modTio_blobs (f : Tio → Tio) : (s.modTio f).blobs = s.blobs := (rfl)
@[simp] theorem State.modTio_power (f : Tio → Tio) : (s.modTio f).power = s.power := (rfl)
@[simp] theorem State.modTio_fuses (f : Tio → Tio) : (s.modTio f).fuses = s.fuses := (rfl)
@[simp] theorem State.modTio_hearth (f : Tio → Tio) : (s.modTio f).hearth = s.hearth := (rfl)
@[simp] theorem State.modTio_servo (f : Tio → Tio) : (s.modTio f).servo = s.servo := (rfl)
@[simp] theorem State.modTio_ports (f : Tio → Tio) : (s.modTio f).ports = s.ports := (rfl)
@[simp] theorem State.modTio_lanes (f : Tio → Tio) : (s.modTio f).lanes = s.lanes := (rfl)
@[simp] theorem State.modTio_groups (f : Tio → Tio) : (s.modTio f).groups = s.groups := (rfl)
@[simp] theorem State.modTio_lports (f : Tio → Tio) : (s.modTio f).lports = s.lports := (rfl)
@[simp] theorem State.modTio_plls (f : Tio → Tio) : (s.modTio f).plls = s.plls := (rfl)
@[simp] theorem State.modTio_clkouts (f : Tio → Tio) : (s.modTio f).clkouts = s.clkouts := (rfl)
@[simp] theorem State.modTio_clk (f : Tio → Tio) : (s.modTio f).clk = s.clk := (rfl)
@[simp] theorem State.modTio_gens (f : Tio → Tio) : (s.modTio f).gens = s.gens := (rfl)
@[simp] theorem State.modTio_tdcs (f : Tio → Tio) : (s.modTio f).tdcs = s.tdcs := (rfl)
@[simp] theorem State.modTio_tio (f : Tio → Tio) : (s.modTio f).tio = f s.tio := (rfl)
@[simp] theorem State.modTio_cellar (f : Tio → Tio) : (s.modTio f).cellar = s.cellar := (rfl)
@[simp] theorem State.modTio_tables (f : Tio → Tio) : (s.modTio f).tables = s.tables := (rfl)
@[simp] theorem State.modTio_caravan (f : Tio → Tio) : (s.modTio f).caravan = s.caravan := (rfl)
@[simp] theorem State.modTio_cal (f : Tio → Tio) : (s.modTio f).cal = s.cal := (rfl)
@[simp] theorem State.modTio_irq (f : Tio → Tio) : (s.modTio f).irq = s.irq := (rfl)
@[simp] theorem State.modTio_engines (f : Tio → Tio) : (s.modTio f).engines = s.engines := (rfl)
@[simp] theorem State.modTio_sems (f : Tio → Tio) : (s.modTio f).sems = s.sems := (rfl)
@[simp] theorem State.modTio_snap (f : Tio → Tio) : (s.modTio f).snap = s.snap := (rfl)
@[simp] theorem State.modTio_lantern (f : Tio → Tio) : (s.modTio f).lantern = s.lantern := (rfl)
@[simp] theorem State.modTio_jtag (f : Tio → Tio) : (s.modTio f).jtag = s.jtag := (rfl)
@[simp] theorem State.modTio_falri (f : Tio → Tio) : (s.modTio f).falri = s.falri := (rfl)
@[simp] theorem State.modTio_hier (f : Tio → Tio) : (s.modTio f).hier = s.hier := (rfl)
@[simp] theorem State.modTio_twin (f : Tio → Tio) : (s.modTio f).twin = s.twin := (rfl)
@[simp] theorem State.modTio_flash (f : Tio → Tio) : (s.modTio f).flash = s.flash := (rfl)
@[simp] theorem State.modTio_pantry (f : Tio → Tio) : (s.modTio f).pantry = s.pantry := (rfl)
@[simp] theorem State.modTio_lane (f : Tio → Tio) (m : Nat) : (s.modTio f).lane m = s.lane m := (rfl)
@[simp] theorem State.modTio_lport (f : Tio → Tio) (m : Nat) : (s.modTio f).lport m = s.lport m := (rfl)
@[simp] theorem State.modTio_port (f : Tio → Tio) (m : Nat) : (s.modTio f).port m = s.port m := (rfl)
@[simp] theorem State.modTio_group (f : Tio → Tio) (m : Nat) : (s.modTio f).group m = s.group m := (rfl)
@[simp] theorem State.modTio_pll (f : Tio → Tio) (m : Nat) : (s.modTio f).pll m = s.pll m := (rfl)
@[simp] theorem State.modTio_clkout (f : Tio → Tio) (m : Nat) : (s.modTio f).clkout m = s.clkout m := (rfl)
@[simp] theorem State.modTio_gen (f : Tio → Tio) (m : Nat) : (s.modTio f).gen m = s.gen m := (rfl)
@[simp] theorem State.modTio_tdc (f : Tio → Tio) (m : Nat) : (s.modTio f).tdc m = s.tdc m := (rfl)
@[simp] theorem State.modTio_eng (f : Tio → Tio) (m : Nat) : (s.modTio f).eng m = s.eng m := (rfl)
@[simp] theorem State.modTio_obj (f : Tio → Tio) (o' : Obj) (j : Nat) : (s.modTio f).obj o' j = s.obj o' j := (rfl)
@[simp] theorem State.modTio_blob (f : Tio → Tio) (o' : Obj) (j : Nat) : (s.modTio f).blob o' j = s.blob o' j := (rfl)
@[simp] theorem State.modTio_calRec (f : Tio → Tio) (j m : Nat) : (s.modTio f).calRec j m = s.calRec j m := (rfl)
@[simp] theorem State.modTio_held (f : Tio → Tio) : (s.modTio f).held = s.held := (rfl)

/-! Updates by `modFalri`. -/
@[simp] theorem State.modFalri_pending (f : Falri → Falri) : (s.modFalri f).pending = s.pending := (rfl)
@[simp] theorem State.modFalri_out (f : Falri → Falri) : (s.modFalri f).out = s.out := (rfl)
@[simp] theorem State.modFalri_free (f : Falri → Falri) : (s.modFalri f).free = s.free := (rfl)
@[simp] theorem State.modFalri_objs (f : Falri → Falri) : (s.modFalri f).objs = s.objs := (rfl)
@[simp] theorem State.modFalri_blobs (f : Falri → Falri) : (s.modFalri f).blobs = s.blobs := (rfl)
@[simp] theorem State.modFalri_power (f : Falri → Falri) : (s.modFalri f).power = s.power := (rfl)
@[simp] theorem State.modFalri_fuses (f : Falri → Falri) : (s.modFalri f).fuses = s.fuses := (rfl)
@[simp] theorem State.modFalri_hearth (f : Falri → Falri) : (s.modFalri f).hearth = s.hearth := (rfl)
@[simp] theorem State.modFalri_servo (f : Falri → Falri) : (s.modFalri f).servo = s.servo := (rfl)
@[simp] theorem State.modFalri_ports (f : Falri → Falri) : (s.modFalri f).ports = s.ports := (rfl)
@[simp] theorem State.modFalri_lanes (f : Falri → Falri) : (s.modFalri f).lanes = s.lanes := (rfl)
@[simp] theorem State.modFalri_groups (f : Falri → Falri) : (s.modFalri f).groups = s.groups := (rfl)
@[simp] theorem State.modFalri_lports (f : Falri → Falri) : (s.modFalri f).lports = s.lports := (rfl)
@[simp] theorem State.modFalri_plls (f : Falri → Falri) : (s.modFalri f).plls = s.plls := (rfl)
@[simp] theorem State.modFalri_clkouts (f : Falri → Falri) : (s.modFalri f).clkouts = s.clkouts := (rfl)
@[simp] theorem State.modFalri_clk (f : Falri → Falri) : (s.modFalri f).clk = s.clk := (rfl)
@[simp] theorem State.modFalri_gens (f : Falri → Falri) : (s.modFalri f).gens = s.gens := (rfl)
@[simp] theorem State.modFalri_tdcs (f : Falri → Falri) : (s.modFalri f).tdcs = s.tdcs := (rfl)
@[simp] theorem State.modFalri_tio (f : Falri → Falri) : (s.modFalri f).tio = s.tio := (rfl)
@[simp] theorem State.modFalri_cellar (f : Falri → Falri) : (s.modFalri f).cellar = s.cellar := (rfl)
@[simp] theorem State.modFalri_tables (f : Falri → Falri) : (s.modFalri f).tables = s.tables := (rfl)
@[simp] theorem State.modFalri_caravan (f : Falri → Falri) : (s.modFalri f).caravan = s.caravan := (rfl)
@[simp] theorem State.modFalri_cal (f : Falri → Falri) : (s.modFalri f).cal = s.cal := (rfl)
@[simp] theorem State.modFalri_irq (f : Falri → Falri) : (s.modFalri f).irq = s.irq := (rfl)
@[simp] theorem State.modFalri_engines (f : Falri → Falri) : (s.modFalri f).engines = s.engines := (rfl)
@[simp] theorem State.modFalri_sems (f : Falri → Falri) : (s.modFalri f).sems = s.sems := (rfl)
@[simp] theorem State.modFalri_snap (f : Falri → Falri) : (s.modFalri f).snap = s.snap := (rfl)
@[simp] theorem State.modFalri_lantern (f : Falri → Falri) : (s.modFalri f).lantern = s.lantern := (rfl)
@[simp] theorem State.modFalri_jtag (f : Falri → Falri) : (s.modFalri f).jtag = s.jtag := (rfl)
@[simp] theorem State.modFalri_falri (f : Falri → Falri) : (s.modFalri f).falri = f s.falri := (rfl)
@[simp] theorem State.modFalri_hier (f : Falri → Falri) : (s.modFalri f).hier = s.hier := (rfl)
@[simp] theorem State.modFalri_twin (f : Falri → Falri) : (s.modFalri f).twin = s.twin := (rfl)
@[simp] theorem State.modFalri_flash (f : Falri → Falri) : (s.modFalri f).flash = s.flash := (rfl)
@[simp] theorem State.modFalri_pantry (f : Falri → Falri) : (s.modFalri f).pantry = s.pantry := (rfl)
@[simp] theorem State.modFalri_lane (f : Falri → Falri) (m : Nat) : (s.modFalri f).lane m = s.lane m := (rfl)
@[simp] theorem State.modFalri_lport (f : Falri → Falri) (m : Nat) : (s.modFalri f).lport m = s.lport m := (rfl)
@[simp] theorem State.modFalri_port (f : Falri → Falri) (m : Nat) : (s.modFalri f).port m = s.port m := (rfl)
@[simp] theorem State.modFalri_group (f : Falri → Falri) (m : Nat) : (s.modFalri f).group m = s.group m := (rfl)
@[simp] theorem State.modFalri_pll (f : Falri → Falri) (m : Nat) : (s.modFalri f).pll m = s.pll m := (rfl)
@[simp] theorem State.modFalri_clkout (f : Falri → Falri) (m : Nat) : (s.modFalri f).clkout m = s.clkout m := (rfl)
@[simp] theorem State.modFalri_gen (f : Falri → Falri) (m : Nat) : (s.modFalri f).gen m = s.gen m := (rfl)
@[simp] theorem State.modFalri_tdc (f : Falri → Falri) (m : Nat) : (s.modFalri f).tdc m = s.tdc m := (rfl)
@[simp] theorem State.modFalri_eng (f : Falri → Falri) (m : Nat) : (s.modFalri f).eng m = s.eng m := (rfl)
@[simp] theorem State.modFalri_obj (f : Falri → Falri) (o' : Obj) (j : Nat) : (s.modFalri f).obj o' j = s.obj o' j := (rfl)
@[simp] theorem State.modFalri_blob (f : Falri → Falri) (o' : Obj) (j : Nat) : (s.modFalri f).blob o' j = s.blob o' j := (rfl)
@[simp] theorem State.modFalri_calRec (f : Falri → Falri) (j m : Nat) : (s.modFalri f).calRec j m = s.calRec j m := (rfl)
@[simp] theorem State.modFalri_held (f : Falri → Falri) : (s.modFalri f).held = s.held := (rfl)

/-! Updates by `modTwin`. -/
@[simp] theorem State.modTwin_pending (f : Twin → Twin) : (s.modTwin f).pending = s.pending := (rfl)
@[simp] theorem State.modTwin_out (f : Twin → Twin) : (s.modTwin f).out = s.out := (rfl)
@[simp] theorem State.modTwin_free (f : Twin → Twin) : (s.modTwin f).free = s.free := (rfl)
@[simp] theorem State.modTwin_objs (f : Twin → Twin) : (s.modTwin f).objs = s.objs := (rfl)
@[simp] theorem State.modTwin_blobs (f : Twin → Twin) : (s.modTwin f).blobs = s.blobs := (rfl)
@[simp] theorem State.modTwin_power (f : Twin → Twin) : (s.modTwin f).power = s.power := (rfl)
@[simp] theorem State.modTwin_fuses (f : Twin → Twin) : (s.modTwin f).fuses = s.fuses := (rfl)
@[simp] theorem State.modTwin_hearth (f : Twin → Twin) : (s.modTwin f).hearth = s.hearth := (rfl)
@[simp] theorem State.modTwin_servo (f : Twin → Twin) : (s.modTwin f).servo = s.servo := (rfl)
@[simp] theorem State.modTwin_ports (f : Twin → Twin) : (s.modTwin f).ports = s.ports := (rfl)
@[simp] theorem State.modTwin_lanes (f : Twin → Twin) : (s.modTwin f).lanes = s.lanes := (rfl)
@[simp] theorem State.modTwin_groups (f : Twin → Twin) : (s.modTwin f).groups = s.groups := (rfl)
@[simp] theorem State.modTwin_lports (f : Twin → Twin) : (s.modTwin f).lports = s.lports := (rfl)
@[simp] theorem State.modTwin_plls (f : Twin → Twin) : (s.modTwin f).plls = s.plls := (rfl)
@[simp] theorem State.modTwin_clkouts (f : Twin → Twin) : (s.modTwin f).clkouts = s.clkouts := (rfl)
@[simp] theorem State.modTwin_clk (f : Twin → Twin) : (s.modTwin f).clk = s.clk := (rfl)
@[simp] theorem State.modTwin_gens (f : Twin → Twin) : (s.modTwin f).gens = s.gens := (rfl)
@[simp] theorem State.modTwin_tdcs (f : Twin → Twin) : (s.modTwin f).tdcs = s.tdcs := (rfl)
@[simp] theorem State.modTwin_tio (f : Twin → Twin) : (s.modTwin f).tio = s.tio := (rfl)
@[simp] theorem State.modTwin_cellar (f : Twin → Twin) : (s.modTwin f).cellar = s.cellar := (rfl)
@[simp] theorem State.modTwin_tables (f : Twin → Twin) : (s.modTwin f).tables = s.tables := (rfl)
@[simp] theorem State.modTwin_caravan (f : Twin → Twin) : (s.modTwin f).caravan = s.caravan := (rfl)
@[simp] theorem State.modTwin_cal (f : Twin → Twin) : (s.modTwin f).cal = s.cal := (rfl)
@[simp] theorem State.modTwin_irq (f : Twin → Twin) : (s.modTwin f).irq = s.irq := (rfl)
@[simp] theorem State.modTwin_engines (f : Twin → Twin) : (s.modTwin f).engines = s.engines := (rfl)
@[simp] theorem State.modTwin_sems (f : Twin → Twin) : (s.modTwin f).sems = s.sems := (rfl)
@[simp] theorem State.modTwin_snap (f : Twin → Twin) : (s.modTwin f).snap = s.snap := (rfl)
@[simp] theorem State.modTwin_lantern (f : Twin → Twin) : (s.modTwin f).lantern = s.lantern := (rfl)
@[simp] theorem State.modTwin_jtag (f : Twin → Twin) : (s.modTwin f).jtag = s.jtag := (rfl)
@[simp] theorem State.modTwin_falri (f : Twin → Twin) : (s.modTwin f).falri = s.falri := (rfl)
@[simp] theorem State.modTwin_hier (f : Twin → Twin) : (s.modTwin f).hier = s.hier := (rfl)
@[simp] theorem State.modTwin_twin (f : Twin → Twin) : (s.modTwin f).twin = f s.twin := (rfl)
@[simp] theorem State.modTwin_flash (f : Twin → Twin) : (s.modTwin f).flash = s.flash := (rfl)
@[simp] theorem State.modTwin_pantry (f : Twin → Twin) : (s.modTwin f).pantry = s.pantry := (rfl)
@[simp] theorem State.modTwin_lane (f : Twin → Twin) (m : Nat) : (s.modTwin f).lane m = s.lane m := (rfl)
@[simp] theorem State.modTwin_lport (f : Twin → Twin) (m : Nat) : (s.modTwin f).lport m = s.lport m := (rfl)
@[simp] theorem State.modTwin_port (f : Twin → Twin) (m : Nat) : (s.modTwin f).port m = s.port m := (rfl)
@[simp] theorem State.modTwin_group (f : Twin → Twin) (m : Nat) : (s.modTwin f).group m = s.group m := (rfl)
@[simp] theorem State.modTwin_pll (f : Twin → Twin) (m : Nat) : (s.modTwin f).pll m = s.pll m := (rfl)
@[simp] theorem State.modTwin_clkout (f : Twin → Twin) (m : Nat) : (s.modTwin f).clkout m = s.clkout m := (rfl)
@[simp] theorem State.modTwin_gen (f : Twin → Twin) (m : Nat) : (s.modTwin f).gen m = s.gen m := (rfl)
@[simp] theorem State.modTwin_tdc (f : Twin → Twin) (m : Nat) : (s.modTwin f).tdc m = s.tdc m := (rfl)
@[simp] theorem State.modTwin_eng (f : Twin → Twin) (m : Nat) : (s.modTwin f).eng m = s.eng m := (rfl)
@[simp] theorem State.modTwin_obj (f : Twin → Twin) (o' : Obj) (j : Nat) : (s.modTwin f).obj o' j = s.obj o' j := (rfl)
@[simp] theorem State.modTwin_blob (f : Twin → Twin) (o' : Obj) (j : Nat) : (s.modTwin f).blob o' j = s.blob o' j := (rfl)
@[simp] theorem State.modTwin_calRec (f : Twin → Twin) (j m : Nat) : (s.modTwin f).calRec j m = s.calRec j m := (rfl)
@[simp] theorem State.modTwin_held (f : Twin → Twin) : (s.modTwin f).held = s.held := (rfl)

/-! Updates by `modHier`. -/
@[simp] theorem State.modHier_pending (f : Hier → Hier) : (s.modHier f).pending = s.pending := (rfl)
@[simp] theorem State.modHier_out (f : Hier → Hier) : (s.modHier f).out = s.out := (rfl)
@[simp] theorem State.modHier_free (f : Hier → Hier) : (s.modHier f).free = s.free := (rfl)
@[simp] theorem State.modHier_objs (f : Hier → Hier) : (s.modHier f).objs = s.objs := (rfl)
@[simp] theorem State.modHier_blobs (f : Hier → Hier) : (s.modHier f).blobs = s.blobs := (rfl)
@[simp] theorem State.modHier_power (f : Hier → Hier) : (s.modHier f).power = s.power := (rfl)
@[simp] theorem State.modHier_fuses (f : Hier → Hier) : (s.modHier f).fuses = s.fuses := (rfl)
@[simp] theorem State.modHier_hearth (f : Hier → Hier) : (s.modHier f).hearth = s.hearth := (rfl)
@[simp] theorem State.modHier_servo (f : Hier → Hier) : (s.modHier f).servo = s.servo := (rfl)
@[simp] theorem State.modHier_ports (f : Hier → Hier) : (s.modHier f).ports = s.ports := (rfl)
@[simp] theorem State.modHier_lanes (f : Hier → Hier) : (s.modHier f).lanes = s.lanes := (rfl)
@[simp] theorem State.modHier_groups (f : Hier → Hier) : (s.modHier f).groups = s.groups := (rfl)
@[simp] theorem State.modHier_lports (f : Hier → Hier) : (s.modHier f).lports = s.lports := (rfl)
@[simp] theorem State.modHier_plls (f : Hier → Hier) : (s.modHier f).plls = s.plls := (rfl)
@[simp] theorem State.modHier_clkouts (f : Hier → Hier) : (s.modHier f).clkouts = s.clkouts := (rfl)
@[simp] theorem State.modHier_clk (f : Hier → Hier) : (s.modHier f).clk = s.clk := (rfl)
@[simp] theorem State.modHier_gens (f : Hier → Hier) : (s.modHier f).gens = s.gens := (rfl)
@[simp] theorem State.modHier_tdcs (f : Hier → Hier) : (s.modHier f).tdcs = s.tdcs := (rfl)
@[simp] theorem State.modHier_tio (f : Hier → Hier) : (s.modHier f).tio = s.tio := (rfl)
@[simp] theorem State.modHier_cellar (f : Hier → Hier) : (s.modHier f).cellar = s.cellar := (rfl)
@[simp] theorem State.modHier_tables (f : Hier → Hier) : (s.modHier f).tables = s.tables := (rfl)
@[simp] theorem State.modHier_caravan (f : Hier → Hier) : (s.modHier f).caravan = s.caravan := (rfl)
@[simp] theorem State.modHier_cal (f : Hier → Hier) : (s.modHier f).cal = s.cal := (rfl)
@[simp] theorem State.modHier_irq (f : Hier → Hier) : (s.modHier f).irq = s.irq := (rfl)
@[simp] theorem State.modHier_engines (f : Hier → Hier) : (s.modHier f).engines = s.engines := (rfl)
@[simp] theorem State.modHier_sems (f : Hier → Hier) : (s.modHier f).sems = s.sems := (rfl)
@[simp] theorem State.modHier_snap (f : Hier → Hier) : (s.modHier f).snap = s.snap := (rfl)
@[simp] theorem State.modHier_lantern (f : Hier → Hier) : (s.modHier f).lantern = s.lantern := (rfl)
@[simp] theorem State.modHier_jtag (f : Hier → Hier) : (s.modHier f).jtag = s.jtag := (rfl)
@[simp] theorem State.modHier_falri (f : Hier → Hier) : (s.modHier f).falri = s.falri := (rfl)
@[simp] theorem State.modHier_hier (f : Hier → Hier) : (s.modHier f).hier = f s.hier := (rfl)
@[simp] theorem State.modHier_twin (f : Hier → Hier) : (s.modHier f).twin = s.twin := (rfl)
@[simp] theorem State.modHier_flash (f : Hier → Hier) : (s.modHier f).flash = s.flash := (rfl)
@[simp] theorem State.modHier_pantry (f : Hier → Hier) : (s.modHier f).pantry = s.pantry := (rfl)
@[simp] theorem State.modHier_lane (f : Hier → Hier) (m : Nat) : (s.modHier f).lane m = s.lane m := (rfl)
@[simp] theorem State.modHier_lport (f : Hier → Hier) (m : Nat) : (s.modHier f).lport m = s.lport m := (rfl)
@[simp] theorem State.modHier_port (f : Hier → Hier) (m : Nat) : (s.modHier f).port m = s.port m := (rfl)
@[simp] theorem State.modHier_group (f : Hier → Hier) (m : Nat) : (s.modHier f).group m = s.group m := (rfl)
@[simp] theorem State.modHier_pll (f : Hier → Hier) (m : Nat) : (s.modHier f).pll m = s.pll m := (rfl)
@[simp] theorem State.modHier_clkout (f : Hier → Hier) (m : Nat) : (s.modHier f).clkout m = s.clkout m := (rfl)
@[simp] theorem State.modHier_gen (f : Hier → Hier) (m : Nat) : (s.modHier f).gen m = s.gen m := (rfl)
@[simp] theorem State.modHier_tdc (f : Hier → Hier) (m : Nat) : (s.modHier f).tdc m = s.tdc m := (rfl)
@[simp] theorem State.modHier_eng (f : Hier → Hier) (m : Nat) : (s.modHier f).eng m = s.eng m := (rfl)
@[simp] theorem State.modHier_obj (f : Hier → Hier) (o' : Obj) (j : Nat) : (s.modHier f).obj o' j = s.obj o' j := (rfl)
@[simp] theorem State.modHier_blob (f : Hier → Hier) (o' : Obj) (j : Nat) : (s.modHier f).blob o' j = s.blob o' j := (rfl)
@[simp] theorem State.modHier_calRec (f : Hier → Hier) (j m : Nat) : (s.modHier f).calRec j m = s.calRec j m := (rfl)
@[simp] theorem State.modHier_held (f : Hier → Hier) : (s.modHier f).held = s.held := (rfl)

/-! Updates by `modPower`. -/
@[simp] theorem State.modPower_pending (f : Power → Power) : (s.modPower f).pending = s.pending := (rfl)
@[simp] theorem State.modPower_out (f : Power → Power) : (s.modPower f).out = s.out := (rfl)
@[simp] theorem State.modPower_free (f : Power → Power) : (s.modPower f).free = s.free := (rfl)
@[simp] theorem State.modPower_objs (f : Power → Power) : (s.modPower f).objs = s.objs := (rfl)
@[simp] theorem State.modPower_blobs (f : Power → Power) : (s.modPower f).blobs = s.blobs := (rfl)
@[simp] theorem State.modPower_power (f : Power → Power) : (s.modPower f).power = f s.power := (rfl)
@[simp] theorem State.modPower_fuses (f : Power → Power) : (s.modPower f).fuses = s.fuses := (rfl)
@[simp] theorem State.modPower_hearth (f : Power → Power) : (s.modPower f).hearth = s.hearth := (rfl)
@[simp] theorem State.modPower_servo (f : Power → Power) : (s.modPower f).servo = s.servo := (rfl)
@[simp] theorem State.modPower_ports (f : Power → Power) : (s.modPower f).ports = s.ports := (rfl)
@[simp] theorem State.modPower_lanes (f : Power → Power) : (s.modPower f).lanes = s.lanes := (rfl)
@[simp] theorem State.modPower_groups (f : Power → Power) : (s.modPower f).groups = s.groups := (rfl)
@[simp] theorem State.modPower_lports (f : Power → Power) : (s.modPower f).lports = s.lports := (rfl)
@[simp] theorem State.modPower_plls (f : Power → Power) : (s.modPower f).plls = s.plls := (rfl)
@[simp] theorem State.modPower_clkouts (f : Power → Power) : (s.modPower f).clkouts = s.clkouts := (rfl)
@[simp] theorem State.modPower_clk (f : Power → Power) : (s.modPower f).clk = s.clk := (rfl)
@[simp] theorem State.modPower_gens (f : Power → Power) : (s.modPower f).gens = s.gens := (rfl)
@[simp] theorem State.modPower_tdcs (f : Power → Power) : (s.modPower f).tdcs = s.tdcs := (rfl)
@[simp] theorem State.modPower_tio (f : Power → Power) : (s.modPower f).tio = s.tio := (rfl)
@[simp] theorem State.modPower_cellar (f : Power → Power) : (s.modPower f).cellar = s.cellar := (rfl)
@[simp] theorem State.modPower_tables (f : Power → Power) : (s.modPower f).tables = s.tables := (rfl)
@[simp] theorem State.modPower_caravan (f : Power → Power) : (s.modPower f).caravan = s.caravan := (rfl)
@[simp] theorem State.modPower_cal (f : Power → Power) : (s.modPower f).cal = s.cal := (rfl)
@[simp] theorem State.modPower_irq (f : Power → Power) : (s.modPower f).irq = s.irq := (rfl)
@[simp] theorem State.modPower_engines (f : Power → Power) : (s.modPower f).engines = s.engines := (rfl)
@[simp] theorem State.modPower_sems (f : Power → Power) : (s.modPower f).sems = s.sems := (rfl)
@[simp] theorem State.modPower_snap (f : Power → Power) : (s.modPower f).snap = s.snap := (rfl)
@[simp] theorem State.modPower_lantern (f : Power → Power) : (s.modPower f).lantern = s.lantern := (rfl)
@[simp] theorem State.modPower_jtag (f : Power → Power) : (s.modPower f).jtag = s.jtag := (rfl)
@[simp] theorem State.modPower_falri (f : Power → Power) : (s.modPower f).falri = s.falri := (rfl)
@[simp] theorem State.modPower_hier (f : Power → Power) : (s.modPower f).hier = s.hier := (rfl)
@[simp] theorem State.modPower_twin (f : Power → Power) : (s.modPower f).twin = s.twin := (rfl)
@[simp] theorem State.modPower_flash (f : Power → Power) : (s.modPower f).flash = s.flash := (rfl)
@[simp] theorem State.modPower_pantry (f : Power → Power) : (s.modPower f).pantry = s.pantry := (rfl)
@[simp] theorem State.modPower_lane (f : Power → Power) (m : Nat) : (s.modPower f).lane m = s.lane m := (rfl)
@[simp] theorem State.modPower_lport (f : Power → Power) (m : Nat) : (s.modPower f).lport m = s.lport m := (rfl)
@[simp] theorem State.modPower_port (f : Power → Power) (m : Nat) : (s.modPower f).port m = s.port m := (rfl)
@[simp] theorem State.modPower_group (f : Power → Power) (m : Nat) : (s.modPower f).group m = s.group m := (rfl)
@[simp] theorem State.modPower_pll (f : Power → Power) (m : Nat) : (s.modPower f).pll m = s.pll m := (rfl)
@[simp] theorem State.modPower_clkout (f : Power → Power) (m : Nat) : (s.modPower f).clkout m = s.clkout m := (rfl)
@[simp] theorem State.modPower_gen (f : Power → Power) (m : Nat) : (s.modPower f).gen m = s.gen m := (rfl)
@[simp] theorem State.modPower_tdc (f : Power → Power) (m : Nat) : (s.modPower f).tdc m = s.tdc m := (rfl)
@[simp] theorem State.modPower_eng (f : Power → Power) (m : Nat) : (s.modPower f).eng m = s.eng m := (rfl)
@[simp] theorem State.modPower_obj (f : Power → Power) (o' : Obj) (j : Nat) : (s.modPower f).obj o' j = s.obj o' j := (rfl)
@[simp] theorem State.modPower_blob (f : Power → Power) (o' : Obj) (j : Nat) : (s.modPower f).blob o' j = s.blob o' j := (rfl)
@[simp] theorem State.modPower_calRec (f : Power → Power) (j m : Nat) : (s.modPower f).calRec j m = s.calRec j m := (rfl)

/-! Updates by `modIrq`. -/
@[simp] theorem State.modIrq_pending (f : Irq → Irq) : (s.modIrq f).pending = s.pending := (rfl)
@[simp] theorem State.modIrq_out (f : Irq → Irq) : (s.modIrq f).out = s.out := (rfl)
@[simp] theorem State.modIrq_free (f : Irq → Irq) : (s.modIrq f).free = s.free := (rfl)
@[simp] theorem State.modIrq_objs (f : Irq → Irq) : (s.modIrq f).objs = s.objs := (rfl)
@[simp] theorem State.modIrq_blobs (f : Irq → Irq) : (s.modIrq f).blobs = s.blobs := (rfl)
@[simp] theorem State.modIrq_power (f : Irq → Irq) : (s.modIrq f).power = s.power := (rfl)
@[simp] theorem State.modIrq_fuses (f : Irq → Irq) : (s.modIrq f).fuses = s.fuses := (rfl)
@[simp] theorem State.modIrq_hearth (f : Irq → Irq) : (s.modIrq f).hearth = s.hearth := (rfl)
@[simp] theorem State.modIrq_servo (f : Irq → Irq) : (s.modIrq f).servo = s.servo := (rfl)
@[simp] theorem State.modIrq_ports (f : Irq → Irq) : (s.modIrq f).ports = s.ports := (rfl)
@[simp] theorem State.modIrq_lanes (f : Irq → Irq) : (s.modIrq f).lanes = s.lanes := (rfl)
@[simp] theorem State.modIrq_groups (f : Irq → Irq) : (s.modIrq f).groups = s.groups := (rfl)
@[simp] theorem State.modIrq_lports (f : Irq → Irq) : (s.modIrq f).lports = s.lports := (rfl)
@[simp] theorem State.modIrq_plls (f : Irq → Irq) : (s.modIrq f).plls = s.plls := (rfl)
@[simp] theorem State.modIrq_clkouts (f : Irq → Irq) : (s.modIrq f).clkouts = s.clkouts := (rfl)
@[simp] theorem State.modIrq_clk (f : Irq → Irq) : (s.modIrq f).clk = s.clk := (rfl)
@[simp] theorem State.modIrq_gens (f : Irq → Irq) : (s.modIrq f).gens = s.gens := (rfl)
@[simp] theorem State.modIrq_tdcs (f : Irq → Irq) : (s.modIrq f).tdcs = s.tdcs := (rfl)
@[simp] theorem State.modIrq_tio (f : Irq → Irq) : (s.modIrq f).tio = s.tio := (rfl)
@[simp] theorem State.modIrq_cellar (f : Irq → Irq) : (s.modIrq f).cellar = s.cellar := (rfl)
@[simp] theorem State.modIrq_tables (f : Irq → Irq) : (s.modIrq f).tables = s.tables := (rfl)
@[simp] theorem State.modIrq_caravan (f : Irq → Irq) : (s.modIrq f).caravan = s.caravan := (rfl)
@[simp] theorem State.modIrq_cal (f : Irq → Irq) : (s.modIrq f).cal = s.cal := (rfl)
@[simp] theorem State.modIrq_irq (f : Irq → Irq) : (s.modIrq f).irq = f s.irq := (rfl)
@[simp] theorem State.modIrq_engines (f : Irq → Irq) : (s.modIrq f).engines = s.engines := (rfl)
@[simp] theorem State.modIrq_sems (f : Irq → Irq) : (s.modIrq f).sems = s.sems := (rfl)
@[simp] theorem State.modIrq_snap (f : Irq → Irq) : (s.modIrq f).snap = s.snap := (rfl)
@[simp] theorem State.modIrq_lantern (f : Irq → Irq) : (s.modIrq f).lantern = s.lantern := (rfl)
@[simp] theorem State.modIrq_jtag (f : Irq → Irq) : (s.modIrq f).jtag = s.jtag := (rfl)
@[simp] theorem State.modIrq_falri (f : Irq → Irq) : (s.modIrq f).falri = s.falri := (rfl)
@[simp] theorem State.modIrq_hier (f : Irq → Irq) : (s.modIrq f).hier = s.hier := (rfl)
@[simp] theorem State.modIrq_twin (f : Irq → Irq) : (s.modIrq f).twin = s.twin := (rfl)
@[simp] theorem State.modIrq_flash (f : Irq → Irq) : (s.modIrq f).flash = s.flash := (rfl)
@[simp] theorem State.modIrq_pantry (f : Irq → Irq) : (s.modIrq f).pantry = s.pantry := (rfl)
@[simp] theorem State.modIrq_lane (f : Irq → Irq) (m : Nat) : (s.modIrq f).lane m = s.lane m := (rfl)
@[simp] theorem State.modIrq_lport (f : Irq → Irq) (m : Nat) : (s.modIrq f).lport m = s.lport m := (rfl)
@[simp] theorem State.modIrq_port (f : Irq → Irq) (m : Nat) : (s.modIrq f).port m = s.port m := (rfl)
@[simp] theorem State.modIrq_group (f : Irq → Irq) (m : Nat) : (s.modIrq f).group m = s.group m := (rfl)
@[simp] theorem State.modIrq_pll (f : Irq → Irq) (m : Nat) : (s.modIrq f).pll m = s.pll m := (rfl)
@[simp] theorem State.modIrq_clkout (f : Irq → Irq) (m : Nat) : (s.modIrq f).clkout m = s.clkout m := (rfl)
@[simp] theorem State.modIrq_gen (f : Irq → Irq) (m : Nat) : (s.modIrq f).gen m = s.gen m := (rfl)
@[simp] theorem State.modIrq_tdc (f : Irq → Irq) (m : Nat) : (s.modIrq f).tdc m = s.tdc m := (rfl)
@[simp] theorem State.modIrq_eng (f : Irq → Irq) (m : Nat) : (s.modIrq f).eng m = s.eng m := (rfl)
@[simp] theorem State.modIrq_obj (f : Irq → Irq) (o' : Obj) (j : Nat) : (s.modIrq f).obj o' j = s.obj o' j := (rfl)
@[simp] theorem State.modIrq_blob (f : Irq → Irq) (o' : Obj) (j : Nat) : (s.modIrq f).blob o' j = s.blob o' j := (rfl)
@[simp] theorem State.modIrq_calRec (f : Irq → Irq) (j m : Nat) : (s.modIrq f).calRec j m = s.calRec j m := (rfl)
@[simp] theorem State.modIrq_held (f : Irq → Irq) : (s.modIrq f).held = s.held := (rfl)

/-! Updates by `modCalib`. -/
@[simp] theorem State.modCalib_pending (f : Cal → Cal) : (s.modCalib f).pending = s.pending := (rfl)
@[simp] theorem State.modCalib_out (f : Cal → Cal) : (s.modCalib f).out = s.out := (rfl)
@[simp] theorem State.modCalib_free (f : Cal → Cal) : (s.modCalib f).free = s.free := (rfl)
@[simp] theorem State.modCalib_objs (f : Cal → Cal) : (s.modCalib f).objs = s.objs := (rfl)
@[simp] theorem State.modCalib_blobs (f : Cal → Cal) : (s.modCalib f).blobs = s.blobs := (rfl)
@[simp] theorem State.modCalib_power (f : Cal → Cal) : (s.modCalib f).power = s.power := (rfl)
@[simp] theorem State.modCalib_fuses (f : Cal → Cal) : (s.modCalib f).fuses = s.fuses := (rfl)
@[simp] theorem State.modCalib_hearth (f : Cal → Cal) : (s.modCalib f).hearth = s.hearth := (rfl)
@[simp] theorem State.modCalib_servo (f : Cal → Cal) : (s.modCalib f).servo = s.servo := (rfl)
@[simp] theorem State.modCalib_ports (f : Cal → Cal) : (s.modCalib f).ports = s.ports := (rfl)
@[simp] theorem State.modCalib_lanes (f : Cal → Cal) : (s.modCalib f).lanes = s.lanes := (rfl)
@[simp] theorem State.modCalib_groups (f : Cal → Cal) : (s.modCalib f).groups = s.groups := (rfl)
@[simp] theorem State.modCalib_lports (f : Cal → Cal) : (s.modCalib f).lports = s.lports := (rfl)
@[simp] theorem State.modCalib_plls (f : Cal → Cal) : (s.modCalib f).plls = s.plls := (rfl)
@[simp] theorem State.modCalib_clkouts (f : Cal → Cal) : (s.modCalib f).clkouts = s.clkouts := (rfl)
@[simp] theorem State.modCalib_clk (f : Cal → Cal) : (s.modCalib f).clk = s.clk := (rfl)
@[simp] theorem State.modCalib_gens (f : Cal → Cal) : (s.modCalib f).gens = s.gens := (rfl)
@[simp] theorem State.modCalib_tdcs (f : Cal → Cal) : (s.modCalib f).tdcs = s.tdcs := (rfl)
@[simp] theorem State.modCalib_tio (f : Cal → Cal) : (s.modCalib f).tio = s.tio := (rfl)
@[simp] theorem State.modCalib_cellar (f : Cal → Cal) : (s.modCalib f).cellar = s.cellar := (rfl)
@[simp] theorem State.modCalib_tables (f : Cal → Cal) : (s.modCalib f).tables = s.tables := (rfl)
@[simp] theorem State.modCalib_caravan (f : Cal → Cal) : (s.modCalib f).caravan = s.caravan := (rfl)
@[simp] theorem State.modCalib_cal (f : Cal → Cal) : (s.modCalib f).cal = f s.cal := (rfl)
@[simp] theorem State.modCalib_irq (f : Cal → Cal) : (s.modCalib f).irq = s.irq := (rfl)
@[simp] theorem State.modCalib_engines (f : Cal → Cal) : (s.modCalib f).engines = s.engines := (rfl)
@[simp] theorem State.modCalib_sems (f : Cal → Cal) : (s.modCalib f).sems = s.sems := (rfl)
@[simp] theorem State.modCalib_snap (f : Cal → Cal) : (s.modCalib f).snap = s.snap := (rfl)
@[simp] theorem State.modCalib_lantern (f : Cal → Cal) : (s.modCalib f).lantern = s.lantern := (rfl)
@[simp] theorem State.modCalib_jtag (f : Cal → Cal) : (s.modCalib f).jtag = s.jtag := (rfl)
@[simp] theorem State.modCalib_falri (f : Cal → Cal) : (s.modCalib f).falri = s.falri := (rfl)
@[simp] theorem State.modCalib_hier (f : Cal → Cal) : (s.modCalib f).hier = s.hier := (rfl)
@[simp] theorem State.modCalib_twin (f : Cal → Cal) : (s.modCalib f).twin = s.twin := (rfl)
@[simp] theorem State.modCalib_flash (f : Cal → Cal) : (s.modCalib f).flash = s.flash := (rfl)
@[simp] theorem State.modCalib_pantry (f : Cal → Cal) : (s.modCalib f).pantry = s.pantry := (rfl)
@[simp] theorem State.modCalib_lane (f : Cal → Cal) (m : Nat) : (s.modCalib f).lane m = s.lane m := (rfl)
@[simp] theorem State.modCalib_lport (f : Cal → Cal) (m : Nat) : (s.modCalib f).lport m = s.lport m := (rfl)
@[simp] theorem State.modCalib_port (f : Cal → Cal) (m : Nat) : (s.modCalib f).port m = s.port m := (rfl)
@[simp] theorem State.modCalib_group (f : Cal → Cal) (m : Nat) : (s.modCalib f).group m = s.group m := (rfl)
@[simp] theorem State.modCalib_pll (f : Cal → Cal) (m : Nat) : (s.modCalib f).pll m = s.pll m := (rfl)
@[simp] theorem State.modCalib_clkout (f : Cal → Cal) (m : Nat) : (s.modCalib f).clkout m = s.clkout m := (rfl)
@[simp] theorem State.modCalib_gen (f : Cal → Cal) (m : Nat) : (s.modCalib f).gen m = s.gen m := (rfl)
@[simp] theorem State.modCalib_tdc (f : Cal → Cal) (m : Nat) : (s.modCalib f).tdc m = s.tdc m := (rfl)
@[simp] theorem State.modCalib_eng (f : Cal → Cal) (m : Nat) : (s.modCalib f).eng m = s.eng m := (rfl)
@[simp] theorem State.modCalib_obj (f : Cal → Cal) (o' : Obj) (j : Nat) : (s.modCalib f).obj o' j = s.obj o' j := (rfl)
@[simp] theorem State.modCalib_blob (f : Cal → Cal) (o' : Obj) (j : Nat) : (s.modCalib f).blob o' j = s.blob o' j := (rfl)
@[simp] theorem State.modCalib_held (f : Cal → Cal) : (s.modCalib f).held = s.held := (rfl)

/-! Updates by `modSnap`. -/
@[simp] theorem State.modSnap_pending (f : Snap → Snap) : (s.modSnap f).pending = s.pending := (rfl)
@[simp] theorem State.modSnap_out (f : Snap → Snap) : (s.modSnap f).out = s.out := (rfl)
@[simp] theorem State.modSnap_free (f : Snap → Snap) : (s.modSnap f).free = s.free := (rfl)
@[simp] theorem State.modSnap_objs (f : Snap → Snap) : (s.modSnap f).objs = s.objs := (rfl)
@[simp] theorem State.modSnap_blobs (f : Snap → Snap) : (s.modSnap f).blobs = s.blobs := (rfl)
@[simp] theorem State.modSnap_power (f : Snap → Snap) : (s.modSnap f).power = s.power := (rfl)
@[simp] theorem State.modSnap_fuses (f : Snap → Snap) : (s.modSnap f).fuses = s.fuses := (rfl)
@[simp] theorem State.modSnap_hearth (f : Snap → Snap) : (s.modSnap f).hearth = s.hearth := (rfl)
@[simp] theorem State.modSnap_servo (f : Snap → Snap) : (s.modSnap f).servo = s.servo := (rfl)
@[simp] theorem State.modSnap_ports (f : Snap → Snap) : (s.modSnap f).ports = s.ports := (rfl)
@[simp] theorem State.modSnap_lanes (f : Snap → Snap) : (s.modSnap f).lanes = s.lanes := (rfl)
@[simp] theorem State.modSnap_groups (f : Snap → Snap) : (s.modSnap f).groups = s.groups := (rfl)
@[simp] theorem State.modSnap_lports (f : Snap → Snap) : (s.modSnap f).lports = s.lports := (rfl)
@[simp] theorem State.modSnap_plls (f : Snap → Snap) : (s.modSnap f).plls = s.plls := (rfl)
@[simp] theorem State.modSnap_clkouts (f : Snap → Snap) : (s.modSnap f).clkouts = s.clkouts := (rfl)
@[simp] theorem State.modSnap_clk (f : Snap → Snap) : (s.modSnap f).clk = s.clk := (rfl)
@[simp] theorem State.modSnap_gens (f : Snap → Snap) : (s.modSnap f).gens = s.gens := (rfl)
@[simp] theorem State.modSnap_tdcs (f : Snap → Snap) : (s.modSnap f).tdcs = s.tdcs := (rfl)
@[simp] theorem State.modSnap_tio (f : Snap → Snap) : (s.modSnap f).tio = s.tio := (rfl)
@[simp] theorem State.modSnap_cellar (f : Snap → Snap) : (s.modSnap f).cellar = s.cellar := (rfl)
@[simp] theorem State.modSnap_tables (f : Snap → Snap) : (s.modSnap f).tables = s.tables := (rfl)
@[simp] theorem State.modSnap_caravan (f : Snap → Snap) : (s.modSnap f).caravan = s.caravan := (rfl)
@[simp] theorem State.modSnap_cal (f : Snap → Snap) : (s.modSnap f).cal = s.cal := (rfl)
@[simp] theorem State.modSnap_irq (f : Snap → Snap) : (s.modSnap f).irq = s.irq := (rfl)
@[simp] theorem State.modSnap_engines (f : Snap → Snap) : (s.modSnap f).engines = s.engines := (rfl)
@[simp] theorem State.modSnap_sems (f : Snap → Snap) : (s.modSnap f).sems = s.sems := (rfl)
@[simp] theorem State.modSnap_snap (f : Snap → Snap) : (s.modSnap f).snap = f s.snap := (rfl)
@[simp] theorem State.modSnap_lantern (f : Snap → Snap) : (s.modSnap f).lantern = s.lantern := (rfl)
@[simp] theorem State.modSnap_jtag (f : Snap → Snap) : (s.modSnap f).jtag = s.jtag := (rfl)
@[simp] theorem State.modSnap_falri (f : Snap → Snap) : (s.modSnap f).falri = s.falri := (rfl)
@[simp] theorem State.modSnap_hier (f : Snap → Snap) : (s.modSnap f).hier = s.hier := (rfl)
@[simp] theorem State.modSnap_twin (f : Snap → Snap) : (s.modSnap f).twin = s.twin := (rfl)
@[simp] theorem State.modSnap_flash (f : Snap → Snap) : (s.modSnap f).flash = s.flash := (rfl)
@[simp] theorem State.modSnap_pantry (f : Snap → Snap) : (s.modSnap f).pantry = s.pantry := (rfl)
@[simp] theorem State.modSnap_lane (f : Snap → Snap) (m : Nat) : (s.modSnap f).lane m = s.lane m := (rfl)
@[simp] theorem State.modSnap_lport (f : Snap → Snap) (m : Nat) : (s.modSnap f).lport m = s.lport m := (rfl)
@[simp] theorem State.modSnap_port (f : Snap → Snap) (m : Nat) : (s.modSnap f).port m = s.port m := (rfl)
@[simp] theorem State.modSnap_group (f : Snap → Snap) (m : Nat) : (s.modSnap f).group m = s.group m := (rfl)
@[simp] theorem State.modSnap_pll (f : Snap → Snap) (m : Nat) : (s.modSnap f).pll m = s.pll m := (rfl)
@[simp] theorem State.modSnap_clkout (f : Snap → Snap) (m : Nat) : (s.modSnap f).clkout m = s.clkout m := (rfl)
@[simp] theorem State.modSnap_gen (f : Snap → Snap) (m : Nat) : (s.modSnap f).gen m = s.gen m := (rfl)
@[simp] theorem State.modSnap_tdc (f : Snap → Snap) (m : Nat) : (s.modSnap f).tdc m = s.tdc m := (rfl)
@[simp] theorem State.modSnap_eng (f : Snap → Snap) (m : Nat) : (s.modSnap f).eng m = s.eng m := (rfl)
@[simp] theorem State.modSnap_obj (f : Snap → Snap) (o' : Obj) (j : Nat) : (s.modSnap f).obj o' j = s.obj o' j := (rfl)
@[simp] theorem State.modSnap_blob (f : Snap → Snap) (o' : Obj) (j : Nat) : (s.modSnap f).blob o' j = s.blob o' j := (rfl)
@[simp] theorem State.modSnap_calRec (f : Snap → Snap) (j m : Nat) : (s.modSnap f).calRec j m = s.calRec j m := (rfl)
@[simp] theorem State.modSnap_held (f : Snap → Snap) : (s.modSnap f).held = s.held := (rfl)

/-! Updates by `modLane`. -/
@[simp] theorem State.modLane_pending (n : Nat) (f : Lane → Lane) : (s.modLane n f).pending = s.pending := (rfl)
@[simp] theorem State.modLane_out (n : Nat) (f : Lane → Lane) : (s.modLane n f).out = s.out := (rfl)
@[simp] theorem State.modLane_free (n : Nat) (f : Lane → Lane) : (s.modLane n f).free = s.free := (rfl)
@[simp] theorem State.modLane_objs (n : Nat) (f : Lane → Lane) : (s.modLane n f).objs = s.objs := (rfl)
@[simp] theorem State.modLane_blobs (n : Nat) (f : Lane → Lane) : (s.modLane n f).blobs = s.blobs := (rfl)
@[simp] theorem State.modLane_power (n : Nat) (f : Lane → Lane) : (s.modLane n f).power = s.power := (rfl)
@[simp] theorem State.modLane_fuses (n : Nat) (f : Lane → Lane) : (s.modLane n f).fuses = s.fuses := (rfl)
@[simp] theorem State.modLane_hearth (n : Nat) (f : Lane → Lane) : (s.modLane n f).hearth = s.hearth := (rfl)
@[simp] theorem State.modLane_servo (n : Nat) (f : Lane → Lane) : (s.modLane n f).servo = s.servo := (rfl)
@[simp] theorem State.modLane_ports (n : Nat) (f : Lane → Lane) : (s.modLane n f).ports = s.ports := (rfl)
@[simp] theorem State.modLane_lanes (n : Nat) (f : Lane → Lane) : (s.modLane n f).lanes = Tab.set s.lanes Dflt.lane n (f (s.lane n)) := (rfl)
@[simp] theorem State.modLane_groups (n : Nat) (f : Lane → Lane) : (s.modLane n f).groups = s.groups := (rfl)
@[simp] theorem State.modLane_lports (n : Nat) (f : Lane → Lane) : (s.modLane n f).lports = s.lports := (rfl)
@[simp] theorem State.modLane_plls (n : Nat) (f : Lane → Lane) : (s.modLane n f).plls = s.plls := (rfl)
@[simp] theorem State.modLane_clkouts (n : Nat) (f : Lane → Lane) : (s.modLane n f).clkouts = s.clkouts := (rfl)
@[simp] theorem State.modLane_clk (n : Nat) (f : Lane → Lane) : (s.modLane n f).clk = s.clk := (rfl)
@[simp] theorem State.modLane_gens (n : Nat) (f : Lane → Lane) : (s.modLane n f).gens = s.gens := (rfl)
@[simp] theorem State.modLane_tdcs (n : Nat) (f : Lane → Lane) : (s.modLane n f).tdcs = s.tdcs := (rfl)
@[simp] theorem State.modLane_tio (n : Nat) (f : Lane → Lane) : (s.modLane n f).tio = s.tio := (rfl)
@[simp] theorem State.modLane_cellar (n : Nat) (f : Lane → Lane) : (s.modLane n f).cellar = s.cellar := (rfl)
@[simp] theorem State.modLane_tables (n : Nat) (f : Lane → Lane) : (s.modLane n f).tables = s.tables := (rfl)
@[simp] theorem State.modLane_caravan (n : Nat) (f : Lane → Lane) : (s.modLane n f).caravan = s.caravan := (rfl)
@[simp] theorem State.modLane_cal (n : Nat) (f : Lane → Lane) : (s.modLane n f).cal = s.cal := (rfl)
@[simp] theorem State.modLane_irq (n : Nat) (f : Lane → Lane) : (s.modLane n f).irq = s.irq := (rfl)
@[simp] theorem State.modLane_engines (n : Nat) (f : Lane → Lane) : (s.modLane n f).engines = s.engines := (rfl)
@[simp] theorem State.modLane_sems (n : Nat) (f : Lane → Lane) : (s.modLane n f).sems = s.sems := (rfl)
@[simp] theorem State.modLane_snap (n : Nat) (f : Lane → Lane) : (s.modLane n f).snap = s.snap := (rfl)
@[simp] theorem State.modLane_lantern (n : Nat) (f : Lane → Lane) : (s.modLane n f).lantern = s.lantern := (rfl)
@[simp] theorem State.modLane_jtag (n : Nat) (f : Lane → Lane) : (s.modLane n f).jtag = s.jtag := (rfl)
@[simp] theorem State.modLane_falri (n : Nat) (f : Lane → Lane) : (s.modLane n f).falri = s.falri := (rfl)
@[simp] theorem State.modLane_hier (n : Nat) (f : Lane → Lane) : (s.modLane n f).hier = s.hier := (rfl)
@[simp] theorem State.modLane_twin (n : Nat) (f : Lane → Lane) : (s.modLane n f).twin = s.twin := (rfl)
@[simp] theorem State.modLane_flash (n : Nat) (f : Lane → Lane) : (s.modLane n f).flash = s.flash := (rfl)
@[simp] theorem State.modLane_pantry (n : Nat) (f : Lane → Lane) : (s.modLane n f).pantry = s.pantry := (rfl)
@[simp] theorem State.modLane_lane (n : Nat) (f : Lane → Lane) (m : Nat) : (s.modLane n f).lane m = if m = n then f (s.lane n) else s.lane m := Tab.get_set _ _ _ _ _
@[simp] theorem State.modLane_lport (n : Nat) (f : Lane → Lane) (m : Nat) : (s.modLane n f).lport m = s.lport m := (rfl)
@[simp] theorem State.modLane_port (n : Nat) (f : Lane → Lane) (m : Nat) : (s.modLane n f).port m = s.port m := (rfl)
@[simp] theorem State.modLane_group (n : Nat) (f : Lane → Lane) (m : Nat) : (s.modLane n f).group m = s.group m := (rfl)
@[simp] theorem State.modLane_pll (n : Nat) (f : Lane → Lane) (m : Nat) : (s.modLane n f).pll m = s.pll m := (rfl)
@[simp] theorem State.modLane_clkout (n : Nat) (f : Lane → Lane) (m : Nat) : (s.modLane n f).clkout m = s.clkout m := (rfl)
@[simp] theorem State.modLane_gen (n : Nat) (f : Lane → Lane) (m : Nat) : (s.modLane n f).gen m = s.gen m := (rfl)
@[simp] theorem State.modLane_tdc (n : Nat) (f : Lane → Lane) (m : Nat) : (s.modLane n f).tdc m = s.tdc m := (rfl)
@[simp] theorem State.modLane_eng (n : Nat) (f : Lane → Lane) (m : Nat) : (s.modLane n f).eng m = s.eng m := (rfl)
@[simp] theorem State.modLane_obj (n : Nat) (f : Lane → Lane) (o' : Obj) (j : Nat) : (s.modLane n f).obj o' j = s.obj o' j := (rfl)
@[simp] theorem State.modLane_blob (n : Nat) (f : Lane → Lane) (o' : Obj) (j : Nat) : (s.modLane n f).blob o' j = s.blob o' j := (rfl)
@[simp] theorem State.modLane_calRec (n : Nat) (f : Lane → Lane) (j m : Nat) : (s.modLane n f).calRec j m = s.calRec j m := (rfl)
@[simp] theorem State.modLane_held (n : Nat) (f : Lane → Lane) : (s.modLane n f).held = s.held := (rfl)

/-! Updates by `modLPort`. -/
@[simp] theorem State.modLPort_pending (n : Nat) (f : LPort → LPort) : (s.modLPort n f).pending = s.pending := (rfl)
@[simp] theorem State.modLPort_out (n : Nat) (f : LPort → LPort) : (s.modLPort n f).out = s.out := (rfl)
@[simp] theorem State.modLPort_free (n : Nat) (f : LPort → LPort) : (s.modLPort n f).free = s.free := (rfl)
@[simp] theorem State.modLPort_objs (n : Nat) (f : LPort → LPort) : (s.modLPort n f).objs = s.objs := (rfl)
@[simp] theorem State.modLPort_blobs (n : Nat) (f : LPort → LPort) : (s.modLPort n f).blobs = s.blobs := (rfl)
@[simp] theorem State.modLPort_power (n : Nat) (f : LPort → LPort) : (s.modLPort n f).power = s.power := (rfl)
@[simp] theorem State.modLPort_fuses (n : Nat) (f : LPort → LPort) : (s.modLPort n f).fuses = s.fuses := (rfl)
@[simp] theorem State.modLPort_hearth (n : Nat) (f : LPort → LPort) : (s.modLPort n f).hearth = s.hearth := (rfl)
@[simp] theorem State.modLPort_servo (n : Nat) (f : LPort → LPort) : (s.modLPort n f).servo = s.servo := (rfl)
@[simp] theorem State.modLPort_ports (n : Nat) (f : LPort → LPort) : (s.modLPort n f).ports = s.ports := (rfl)
@[simp] theorem State.modLPort_lanes (n : Nat) (f : LPort → LPort) : (s.modLPort n f).lanes = s.lanes := (rfl)
@[simp] theorem State.modLPort_groups (n : Nat) (f : LPort → LPort) : (s.modLPort n f).groups = s.groups := (rfl)
@[simp] theorem State.modLPort_lports (n : Nat) (f : LPort → LPort) : (s.modLPort n f).lports = Tab.set s.lports Dflt.lport n (f (s.lport n)) := (rfl)
@[simp] theorem State.modLPort_plls (n : Nat) (f : LPort → LPort) : (s.modLPort n f).plls = s.plls := (rfl)
@[simp] theorem State.modLPort_clkouts (n : Nat) (f : LPort → LPort) : (s.modLPort n f).clkouts = s.clkouts := (rfl)
@[simp] theorem State.modLPort_clk (n : Nat) (f : LPort → LPort) : (s.modLPort n f).clk = s.clk := (rfl)
@[simp] theorem State.modLPort_gens (n : Nat) (f : LPort → LPort) : (s.modLPort n f).gens = s.gens := (rfl)
@[simp] theorem State.modLPort_tdcs (n : Nat) (f : LPort → LPort) : (s.modLPort n f).tdcs = s.tdcs := (rfl)
@[simp] theorem State.modLPort_tio (n : Nat) (f : LPort → LPort) : (s.modLPort n f).tio = s.tio := (rfl)
@[simp] theorem State.modLPort_cellar (n : Nat) (f : LPort → LPort) : (s.modLPort n f).cellar = s.cellar := (rfl)
@[simp] theorem State.modLPort_tables (n : Nat) (f : LPort → LPort) : (s.modLPort n f).tables = s.tables := (rfl)
@[simp] theorem State.modLPort_caravan (n : Nat) (f : LPort → LPort) : (s.modLPort n f).caravan = s.caravan := (rfl)
@[simp] theorem State.modLPort_cal (n : Nat) (f : LPort → LPort) : (s.modLPort n f).cal = s.cal := (rfl)
@[simp] theorem State.modLPort_irq (n : Nat) (f : LPort → LPort) : (s.modLPort n f).irq = s.irq := (rfl)
@[simp] theorem State.modLPort_engines (n : Nat) (f : LPort → LPort) : (s.modLPort n f).engines = s.engines := (rfl)
@[simp] theorem State.modLPort_sems (n : Nat) (f : LPort → LPort) : (s.modLPort n f).sems = s.sems := (rfl)
@[simp] theorem State.modLPort_snap (n : Nat) (f : LPort → LPort) : (s.modLPort n f).snap = s.snap := (rfl)
@[simp] theorem State.modLPort_lantern (n : Nat) (f : LPort → LPort) : (s.modLPort n f).lantern = s.lantern := (rfl)
@[simp] theorem State.modLPort_jtag (n : Nat) (f : LPort → LPort) : (s.modLPort n f).jtag = s.jtag := (rfl)
@[simp] theorem State.modLPort_falri (n : Nat) (f : LPort → LPort) : (s.modLPort n f).falri = s.falri := (rfl)
@[simp] theorem State.modLPort_hier (n : Nat) (f : LPort → LPort) : (s.modLPort n f).hier = s.hier := (rfl)
@[simp] theorem State.modLPort_twin (n : Nat) (f : LPort → LPort) : (s.modLPort n f).twin = s.twin := (rfl)
@[simp] theorem State.modLPort_flash (n : Nat) (f : LPort → LPort) : (s.modLPort n f).flash = s.flash := (rfl)
@[simp] theorem State.modLPort_pantry (n : Nat) (f : LPort → LPort) : (s.modLPort n f).pantry = s.pantry := (rfl)
@[simp] theorem State.modLPort_lane (n : Nat) (f : LPort → LPort) (m : Nat) : (s.modLPort n f).lane m = s.lane m := (rfl)
@[simp] theorem State.modLPort_lport (n : Nat) (f : LPort → LPort) (m : Nat) : (s.modLPort n f).lport m = if m = n then f (s.lport n) else s.lport m := Tab.get_set _ _ _ _ _
@[simp] theorem State.modLPort_port (n : Nat) (f : LPort → LPort) (m : Nat) : (s.modLPort n f).port m = s.port m := (rfl)
@[simp] theorem State.modLPort_group (n : Nat) (f : LPort → LPort) (m : Nat) : (s.modLPort n f).group m = s.group m := (rfl)
@[simp] theorem State.modLPort_pll (n : Nat) (f : LPort → LPort) (m : Nat) : (s.modLPort n f).pll m = s.pll m := (rfl)
@[simp] theorem State.modLPort_clkout (n : Nat) (f : LPort → LPort) (m : Nat) : (s.modLPort n f).clkout m = s.clkout m := (rfl)
@[simp] theorem State.modLPort_gen (n : Nat) (f : LPort → LPort) (m : Nat) : (s.modLPort n f).gen m = s.gen m := (rfl)
@[simp] theorem State.modLPort_tdc (n : Nat) (f : LPort → LPort) (m : Nat) : (s.modLPort n f).tdc m = s.tdc m := (rfl)
@[simp] theorem State.modLPort_eng (n : Nat) (f : LPort → LPort) (m : Nat) : (s.modLPort n f).eng m = s.eng m := (rfl)
@[simp] theorem State.modLPort_obj (n : Nat) (f : LPort → LPort) (o' : Obj) (j : Nat) : (s.modLPort n f).obj o' j = s.obj o' j := (rfl)
@[simp] theorem State.modLPort_blob (n : Nat) (f : LPort → LPort) (o' : Obj) (j : Nat) : (s.modLPort n f).blob o' j = s.blob o' j := (rfl)
@[simp] theorem State.modLPort_calRec (n : Nat) (f : LPort → LPort) (j m : Nat) : (s.modLPort n f).calRec j m = s.calRec j m := (rfl)
@[simp] theorem State.modLPort_held (n : Nat) (f : LPort → LPort) : (s.modLPort n f).held = s.held := (rfl)

/-! Updates by `modPort`. -/
@[simp] theorem State.modPort_pending (n : Nat) (f : PTime → PTime) : (s.modPort n f).pending = s.pending := (rfl)
@[simp] theorem State.modPort_out (n : Nat) (f : PTime → PTime) : (s.modPort n f).out = s.out := (rfl)
@[simp] theorem State.modPort_free (n : Nat) (f : PTime → PTime) : (s.modPort n f).free = s.free := (rfl)
@[simp] theorem State.modPort_objs (n : Nat) (f : PTime → PTime) : (s.modPort n f).objs = s.objs := (rfl)
@[simp] theorem State.modPort_blobs (n : Nat) (f : PTime → PTime) : (s.modPort n f).blobs = s.blobs := (rfl)
@[simp] theorem State.modPort_power (n : Nat) (f : PTime → PTime) : (s.modPort n f).power = s.power := (rfl)
@[simp] theorem State.modPort_fuses (n : Nat) (f : PTime → PTime) : (s.modPort n f).fuses = s.fuses := (rfl)
@[simp] theorem State.modPort_hearth (n : Nat) (f : PTime → PTime) : (s.modPort n f).hearth = s.hearth := (rfl)
@[simp] theorem State.modPort_servo (n : Nat) (f : PTime → PTime) : (s.modPort n f).servo = s.servo := (rfl)
@[simp] theorem State.modPort_ports (n : Nat) (f : PTime → PTime) : (s.modPort n f).ports = Tab.set s.ports Dflt.ptime n (f (s.port n)) := (rfl)
@[simp] theorem State.modPort_lanes (n : Nat) (f : PTime → PTime) : (s.modPort n f).lanes = s.lanes := (rfl)
@[simp] theorem State.modPort_groups (n : Nat) (f : PTime → PTime) : (s.modPort n f).groups = s.groups := (rfl)
@[simp] theorem State.modPort_lports (n : Nat) (f : PTime → PTime) : (s.modPort n f).lports = s.lports := (rfl)
@[simp] theorem State.modPort_plls (n : Nat) (f : PTime → PTime) : (s.modPort n f).plls = s.plls := (rfl)
@[simp] theorem State.modPort_clkouts (n : Nat) (f : PTime → PTime) : (s.modPort n f).clkouts = s.clkouts := (rfl)
@[simp] theorem State.modPort_clk (n : Nat) (f : PTime → PTime) : (s.modPort n f).clk = s.clk := (rfl)
@[simp] theorem State.modPort_gens (n : Nat) (f : PTime → PTime) : (s.modPort n f).gens = s.gens := (rfl)
@[simp] theorem State.modPort_tdcs (n : Nat) (f : PTime → PTime) : (s.modPort n f).tdcs = s.tdcs := (rfl)
@[simp] theorem State.modPort_tio (n : Nat) (f : PTime → PTime) : (s.modPort n f).tio = s.tio := (rfl)
@[simp] theorem State.modPort_cellar (n : Nat) (f : PTime → PTime) : (s.modPort n f).cellar = s.cellar := (rfl)
@[simp] theorem State.modPort_tables (n : Nat) (f : PTime → PTime) : (s.modPort n f).tables = s.tables := (rfl)
@[simp] theorem State.modPort_caravan (n : Nat) (f : PTime → PTime) : (s.modPort n f).caravan = s.caravan := (rfl)
@[simp] theorem State.modPort_cal (n : Nat) (f : PTime → PTime) : (s.modPort n f).cal = s.cal := (rfl)
@[simp] theorem State.modPort_irq (n : Nat) (f : PTime → PTime) : (s.modPort n f).irq = s.irq := (rfl)
@[simp] theorem State.modPort_engines (n : Nat) (f : PTime → PTime) : (s.modPort n f).engines = s.engines := (rfl)
@[simp] theorem State.modPort_sems (n : Nat) (f : PTime → PTime) : (s.modPort n f).sems = s.sems := (rfl)
@[simp] theorem State.modPort_snap (n : Nat) (f : PTime → PTime) : (s.modPort n f).snap = s.snap := (rfl)
@[simp] theorem State.modPort_lantern (n : Nat) (f : PTime → PTime) : (s.modPort n f).lantern = s.lantern := (rfl)
@[simp] theorem State.modPort_jtag (n : Nat) (f : PTime → PTime) : (s.modPort n f).jtag = s.jtag := (rfl)
@[simp] theorem State.modPort_falri (n : Nat) (f : PTime → PTime) : (s.modPort n f).falri = s.falri := (rfl)
@[simp] theorem State.modPort_hier (n : Nat) (f : PTime → PTime) : (s.modPort n f).hier = s.hier := (rfl)
@[simp] theorem State.modPort_twin (n : Nat) (f : PTime → PTime) : (s.modPort n f).twin = s.twin := (rfl)
@[simp] theorem State.modPort_flash (n : Nat) (f : PTime → PTime) : (s.modPort n f).flash = s.flash := (rfl)
@[simp] theorem State.modPort_pantry (n : Nat) (f : PTime → PTime) : (s.modPort n f).pantry = s.pantry := (rfl)
@[simp] theorem State.modPort_lane (n : Nat) (f : PTime → PTime) (m : Nat) : (s.modPort n f).lane m = s.lane m := (rfl)
@[simp] theorem State.modPort_lport (n : Nat) (f : PTime → PTime) (m : Nat) : (s.modPort n f).lport m = s.lport m := (rfl)
@[simp] theorem State.modPort_port (n : Nat) (f : PTime → PTime) (m : Nat) : (s.modPort n f).port m = if m = n then f (s.port n) else s.port m := Tab.get_set _ _ _ _ _
@[simp] theorem State.modPort_group (n : Nat) (f : PTime → PTime) (m : Nat) : (s.modPort n f).group m = s.group m := (rfl)
@[simp] theorem State.modPort_pll (n : Nat) (f : PTime → PTime) (m : Nat) : (s.modPort n f).pll m = s.pll m := (rfl)
@[simp] theorem State.modPort_clkout (n : Nat) (f : PTime → PTime) (m : Nat) : (s.modPort n f).clkout m = s.clkout m := (rfl)
@[simp] theorem State.modPort_gen (n : Nat) (f : PTime → PTime) (m : Nat) : (s.modPort n f).gen m = s.gen m := (rfl)
@[simp] theorem State.modPort_tdc (n : Nat) (f : PTime → PTime) (m : Nat) : (s.modPort n f).tdc m = s.tdc m := (rfl)
@[simp] theorem State.modPort_eng (n : Nat) (f : PTime → PTime) (m : Nat) : (s.modPort n f).eng m = s.eng m := (rfl)
@[simp] theorem State.modPort_obj (n : Nat) (f : PTime → PTime) (o' : Obj) (j : Nat) : (s.modPort n f).obj o' j = s.obj o' j := (rfl)
@[simp] theorem State.modPort_blob (n : Nat) (f : PTime → PTime) (o' : Obj) (j : Nat) : (s.modPort n f).blob o' j = s.blob o' j := (rfl)
@[simp] theorem State.modPort_calRec (n : Nat) (f : PTime → PTime) (j m : Nat) : (s.modPort n f).calRec j m = s.calRec j m := (rfl)
@[simp] theorem State.modPort_held (n : Nat) (f : PTime → PTime) : (s.modPort n f).held = s.held := (rfl)

/-! Updates by `modGroup`. -/
@[simp] theorem State.modGroup_pending (n : Nat) (f : Group → Group) : (s.modGroup n f).pending = s.pending := (rfl)
@[simp] theorem State.modGroup_out (n : Nat) (f : Group → Group) : (s.modGroup n f).out = s.out := (rfl)
@[simp] theorem State.modGroup_free (n : Nat) (f : Group → Group) : (s.modGroup n f).free = s.free := (rfl)
@[simp] theorem State.modGroup_objs (n : Nat) (f : Group → Group) : (s.modGroup n f).objs = s.objs := (rfl)
@[simp] theorem State.modGroup_blobs (n : Nat) (f : Group → Group) : (s.modGroup n f).blobs = s.blobs := (rfl)
@[simp] theorem State.modGroup_power (n : Nat) (f : Group → Group) : (s.modGroup n f).power = s.power := (rfl)
@[simp] theorem State.modGroup_fuses (n : Nat) (f : Group → Group) : (s.modGroup n f).fuses = s.fuses := (rfl)
@[simp] theorem State.modGroup_hearth (n : Nat) (f : Group → Group) : (s.modGroup n f).hearth = s.hearth := (rfl)
@[simp] theorem State.modGroup_servo (n : Nat) (f : Group → Group) : (s.modGroup n f).servo = s.servo := (rfl)
@[simp] theorem State.modGroup_ports (n : Nat) (f : Group → Group) : (s.modGroup n f).ports = s.ports := (rfl)
@[simp] theorem State.modGroup_lanes (n : Nat) (f : Group → Group) : (s.modGroup n f).lanes = s.lanes := (rfl)
@[simp] theorem State.modGroup_groups (n : Nat) (f : Group → Group) : (s.modGroup n f).groups = Tab.set s.groups Dflt.group n (f (s.group n)) := (rfl)
@[simp] theorem State.modGroup_lports (n : Nat) (f : Group → Group) : (s.modGroup n f).lports = s.lports := (rfl)
@[simp] theorem State.modGroup_plls (n : Nat) (f : Group → Group) : (s.modGroup n f).plls = s.plls := (rfl)
@[simp] theorem State.modGroup_clkouts (n : Nat) (f : Group → Group) : (s.modGroup n f).clkouts = s.clkouts := (rfl)
@[simp] theorem State.modGroup_clk (n : Nat) (f : Group → Group) : (s.modGroup n f).clk = s.clk := (rfl)
@[simp] theorem State.modGroup_gens (n : Nat) (f : Group → Group) : (s.modGroup n f).gens = s.gens := (rfl)
@[simp] theorem State.modGroup_tdcs (n : Nat) (f : Group → Group) : (s.modGroup n f).tdcs = s.tdcs := (rfl)
@[simp] theorem State.modGroup_tio (n : Nat) (f : Group → Group) : (s.modGroup n f).tio = s.tio := (rfl)
@[simp] theorem State.modGroup_cellar (n : Nat) (f : Group → Group) : (s.modGroup n f).cellar = s.cellar := (rfl)
@[simp] theorem State.modGroup_tables (n : Nat) (f : Group → Group) : (s.modGroup n f).tables = s.tables := (rfl)
@[simp] theorem State.modGroup_caravan (n : Nat) (f : Group → Group) : (s.modGroup n f).caravan = s.caravan := (rfl)
@[simp] theorem State.modGroup_cal (n : Nat) (f : Group → Group) : (s.modGroup n f).cal = s.cal := (rfl)
@[simp] theorem State.modGroup_irq (n : Nat) (f : Group → Group) : (s.modGroup n f).irq = s.irq := (rfl)
@[simp] theorem State.modGroup_engines (n : Nat) (f : Group → Group) : (s.modGroup n f).engines = s.engines := (rfl)
@[simp] theorem State.modGroup_sems (n : Nat) (f : Group → Group) : (s.modGroup n f).sems = s.sems := (rfl)
@[simp] theorem State.modGroup_snap (n : Nat) (f : Group → Group) : (s.modGroup n f).snap = s.snap := (rfl)
@[simp] theorem State.modGroup_lantern (n : Nat) (f : Group → Group) : (s.modGroup n f).lantern = s.lantern := (rfl)
@[simp] theorem State.modGroup_jtag (n : Nat) (f : Group → Group) : (s.modGroup n f).jtag = s.jtag := (rfl)
@[simp] theorem State.modGroup_falri (n : Nat) (f : Group → Group) : (s.modGroup n f).falri = s.falri := (rfl)
@[simp] theorem State.modGroup_hier (n : Nat) (f : Group → Group) : (s.modGroup n f).hier = s.hier := (rfl)
@[simp] theorem State.modGroup_twin (n : Nat) (f : Group → Group) : (s.modGroup n f).twin = s.twin := (rfl)
@[simp] theorem State.modGroup_flash (n : Nat) (f : Group → Group) : (s.modGroup n f).flash = s.flash := (rfl)
@[simp] theorem State.modGroup_pantry (n : Nat) (f : Group → Group) : (s.modGroup n f).pantry = s.pantry := (rfl)
@[simp] theorem State.modGroup_lane (n : Nat) (f : Group → Group) (m : Nat) : (s.modGroup n f).lane m = s.lane m := (rfl)
@[simp] theorem State.modGroup_lport (n : Nat) (f : Group → Group) (m : Nat) : (s.modGroup n f).lport m = s.lport m := (rfl)
@[simp] theorem State.modGroup_port (n : Nat) (f : Group → Group) (m : Nat) : (s.modGroup n f).port m = s.port m := (rfl)
@[simp] theorem State.modGroup_group (n : Nat) (f : Group → Group) (m : Nat) : (s.modGroup n f).group m = if m = n then f (s.group n) else s.group m := Tab.get_set _ _ _ _ _
@[simp] theorem State.modGroup_pll (n : Nat) (f : Group → Group) (m : Nat) : (s.modGroup n f).pll m = s.pll m := (rfl)
@[simp] theorem State.modGroup_clkout (n : Nat) (f : Group → Group) (m : Nat) : (s.modGroup n f).clkout m = s.clkout m := (rfl)
@[simp] theorem State.modGroup_gen (n : Nat) (f : Group → Group) (m : Nat) : (s.modGroup n f).gen m = s.gen m := (rfl)
@[simp] theorem State.modGroup_tdc (n : Nat) (f : Group → Group) (m : Nat) : (s.modGroup n f).tdc m = s.tdc m := (rfl)
@[simp] theorem State.modGroup_eng (n : Nat) (f : Group → Group) (m : Nat) : (s.modGroup n f).eng m = s.eng m := (rfl)
@[simp] theorem State.modGroup_obj (n : Nat) (f : Group → Group) (o' : Obj) (j : Nat) : (s.modGroup n f).obj o' j = s.obj o' j := (rfl)
@[simp] theorem State.modGroup_blob (n : Nat) (f : Group → Group) (o' : Obj) (j : Nat) : (s.modGroup n f).blob o' j = s.blob o' j := (rfl)
@[simp] theorem State.modGroup_calRec (n : Nat) (f : Group → Group) (j m : Nat) : (s.modGroup n f).calRec j m = s.calRec j m := (rfl)
@[simp] theorem State.modGroup_held (n : Nat) (f : Group → Group) : (s.modGroup n f).held = s.held := (rfl)

/-! Updates by `modPll`. -/
@[simp] theorem State.modPll_pending (n : Nat) (f : Pll → Pll) : (s.modPll n f).pending = s.pending := (rfl)
@[simp] theorem State.modPll_out (n : Nat) (f : Pll → Pll) : (s.modPll n f).out = s.out := (rfl)
@[simp] theorem State.modPll_free (n : Nat) (f : Pll → Pll) : (s.modPll n f).free = s.free := (rfl)
@[simp] theorem State.modPll_objs (n : Nat) (f : Pll → Pll) : (s.modPll n f).objs = s.objs := (rfl)
@[simp] theorem State.modPll_blobs (n : Nat) (f : Pll → Pll) : (s.modPll n f).blobs = s.blobs := (rfl)
@[simp] theorem State.modPll_power (n : Nat) (f : Pll → Pll) : (s.modPll n f).power = s.power := (rfl)
@[simp] theorem State.modPll_fuses (n : Nat) (f : Pll → Pll) : (s.modPll n f).fuses = s.fuses := (rfl)
@[simp] theorem State.modPll_hearth (n : Nat) (f : Pll → Pll) : (s.modPll n f).hearth = s.hearth := (rfl)
@[simp] theorem State.modPll_servo (n : Nat) (f : Pll → Pll) : (s.modPll n f).servo = s.servo := (rfl)
@[simp] theorem State.modPll_ports (n : Nat) (f : Pll → Pll) : (s.modPll n f).ports = s.ports := (rfl)
@[simp] theorem State.modPll_lanes (n : Nat) (f : Pll → Pll) : (s.modPll n f).lanes = s.lanes := (rfl)
@[simp] theorem State.modPll_groups (n : Nat) (f : Pll → Pll) : (s.modPll n f).groups = s.groups := (rfl)
@[simp] theorem State.modPll_lports (n : Nat) (f : Pll → Pll) : (s.modPll n f).lports = s.lports := (rfl)
@[simp] theorem State.modPll_plls (n : Nat) (f : Pll → Pll) : (s.modPll n f).plls = Tab.set s.plls Dflt.pll n (f (s.pll n)) := (rfl)
@[simp] theorem State.modPll_clkouts (n : Nat) (f : Pll → Pll) : (s.modPll n f).clkouts = s.clkouts := (rfl)
@[simp] theorem State.modPll_clk (n : Nat) (f : Pll → Pll) : (s.modPll n f).clk = s.clk := (rfl)
@[simp] theorem State.modPll_gens (n : Nat) (f : Pll → Pll) : (s.modPll n f).gens = s.gens := (rfl)
@[simp] theorem State.modPll_tdcs (n : Nat) (f : Pll → Pll) : (s.modPll n f).tdcs = s.tdcs := (rfl)
@[simp] theorem State.modPll_tio (n : Nat) (f : Pll → Pll) : (s.modPll n f).tio = s.tio := (rfl)
@[simp] theorem State.modPll_cellar (n : Nat) (f : Pll → Pll) : (s.modPll n f).cellar = s.cellar := (rfl)
@[simp] theorem State.modPll_tables (n : Nat) (f : Pll → Pll) : (s.modPll n f).tables = s.tables := (rfl)
@[simp] theorem State.modPll_caravan (n : Nat) (f : Pll → Pll) : (s.modPll n f).caravan = s.caravan := (rfl)
@[simp] theorem State.modPll_cal (n : Nat) (f : Pll → Pll) : (s.modPll n f).cal = s.cal := (rfl)
@[simp] theorem State.modPll_irq (n : Nat) (f : Pll → Pll) : (s.modPll n f).irq = s.irq := (rfl)
@[simp] theorem State.modPll_engines (n : Nat) (f : Pll → Pll) : (s.modPll n f).engines = s.engines := (rfl)
@[simp] theorem State.modPll_sems (n : Nat) (f : Pll → Pll) : (s.modPll n f).sems = s.sems := (rfl)
@[simp] theorem State.modPll_snap (n : Nat) (f : Pll → Pll) : (s.modPll n f).snap = s.snap := (rfl)
@[simp] theorem State.modPll_lantern (n : Nat) (f : Pll → Pll) : (s.modPll n f).lantern = s.lantern := (rfl)
@[simp] theorem State.modPll_jtag (n : Nat) (f : Pll → Pll) : (s.modPll n f).jtag = s.jtag := (rfl)
@[simp] theorem State.modPll_falri (n : Nat) (f : Pll → Pll) : (s.modPll n f).falri = s.falri := (rfl)
@[simp] theorem State.modPll_hier (n : Nat) (f : Pll → Pll) : (s.modPll n f).hier = s.hier := (rfl)
@[simp] theorem State.modPll_twin (n : Nat) (f : Pll → Pll) : (s.modPll n f).twin = s.twin := (rfl)
@[simp] theorem State.modPll_flash (n : Nat) (f : Pll → Pll) : (s.modPll n f).flash = s.flash := (rfl)
@[simp] theorem State.modPll_pantry (n : Nat) (f : Pll → Pll) : (s.modPll n f).pantry = s.pantry := (rfl)
@[simp] theorem State.modPll_lane (n : Nat) (f : Pll → Pll) (m : Nat) : (s.modPll n f).lane m = s.lane m := (rfl)
@[simp] theorem State.modPll_lport (n : Nat) (f : Pll → Pll) (m : Nat) : (s.modPll n f).lport m = s.lport m := (rfl)
@[simp] theorem State.modPll_port (n : Nat) (f : Pll → Pll) (m : Nat) : (s.modPll n f).port m = s.port m := (rfl)
@[simp] theorem State.modPll_group (n : Nat) (f : Pll → Pll) (m : Nat) : (s.modPll n f).group m = s.group m := (rfl)
@[simp] theorem State.modPll_pll (n : Nat) (f : Pll → Pll) (m : Nat) : (s.modPll n f).pll m = if m = n then f (s.pll n) else s.pll m := Tab.get_set _ _ _ _ _
@[simp] theorem State.modPll_clkout (n : Nat) (f : Pll → Pll) (m : Nat) : (s.modPll n f).clkout m = s.clkout m := (rfl)
@[simp] theorem State.modPll_gen (n : Nat) (f : Pll → Pll) (m : Nat) : (s.modPll n f).gen m = s.gen m := (rfl)
@[simp] theorem State.modPll_tdc (n : Nat) (f : Pll → Pll) (m : Nat) : (s.modPll n f).tdc m = s.tdc m := (rfl)
@[simp] theorem State.modPll_eng (n : Nat) (f : Pll → Pll) (m : Nat) : (s.modPll n f).eng m = s.eng m := (rfl)
@[simp] theorem State.modPll_obj (n : Nat) (f : Pll → Pll) (o' : Obj) (j : Nat) : (s.modPll n f).obj o' j = s.obj o' j := (rfl)
@[simp] theorem State.modPll_blob (n : Nat) (f : Pll → Pll) (o' : Obj) (j : Nat) : (s.modPll n f).blob o' j = s.blob o' j := (rfl)
@[simp] theorem State.modPll_calRec (n : Nat) (f : Pll → Pll) (j m : Nat) : (s.modPll n f).calRec j m = s.calRec j m := (rfl)
@[simp] theorem State.modPll_held (n : Nat) (f : Pll → Pll) : (s.modPll n f).held = s.held := (rfl)

/-! Updates by `modClkout`. -/
@[simp] theorem State.modClkout_pending (n : Nat) (f : Clkout → Clkout) : (s.modClkout n f).pending = s.pending := (rfl)
@[simp] theorem State.modClkout_out (n : Nat) (f : Clkout → Clkout) : (s.modClkout n f).out = s.out := (rfl)
@[simp] theorem State.modClkout_free (n : Nat) (f : Clkout → Clkout) : (s.modClkout n f).free = s.free := (rfl)
@[simp] theorem State.modClkout_objs (n : Nat) (f : Clkout → Clkout) : (s.modClkout n f).objs = s.objs := (rfl)
@[simp] theorem State.modClkout_blobs (n : Nat) (f : Clkout → Clkout) : (s.modClkout n f).blobs = s.blobs := (rfl)
@[simp] theorem State.modClkout_power (n : Nat) (f : Clkout → Clkout) : (s.modClkout n f).power = s.power := (rfl)
@[simp] theorem State.modClkout_fuses (n : Nat) (f : Clkout → Clkout) : (s.modClkout n f).fuses = s.fuses := (rfl)
@[simp] theorem State.modClkout_hearth (n : Nat) (f : Clkout → Clkout) : (s.modClkout n f).hearth = s.hearth := (rfl)
@[simp] theorem State.modClkout_servo (n : Nat) (f : Clkout → Clkout) : (s.modClkout n f).servo = s.servo := (rfl)
@[simp] theorem State.modClkout_ports (n : Nat) (f : Clkout → Clkout) : (s.modClkout n f).ports = s.ports := (rfl)
@[simp] theorem State.modClkout_lanes (n : Nat) (f : Clkout → Clkout) : (s.modClkout n f).lanes = s.lanes := (rfl)
@[simp] theorem State.modClkout_groups (n : Nat) (f : Clkout → Clkout) : (s.modClkout n f).groups = s.groups := (rfl)
@[simp] theorem State.modClkout_lports (n : Nat) (f : Clkout → Clkout) : (s.modClkout n f).lports = s.lports := (rfl)
@[simp] theorem State.modClkout_plls (n : Nat) (f : Clkout → Clkout) : (s.modClkout n f).plls = s.plls := (rfl)
@[simp] theorem State.modClkout_clkouts (n : Nat) (f : Clkout → Clkout) : (s.modClkout n f).clkouts = Tab.set s.clkouts Dflt.clkout n (f (s.clkout n)) := (rfl)
@[simp] theorem State.modClkout_clk (n : Nat) (f : Clkout → Clkout) : (s.modClkout n f).clk = s.clk := (rfl)
@[simp] theorem State.modClkout_gens (n : Nat) (f : Clkout → Clkout) : (s.modClkout n f).gens = s.gens := (rfl)
@[simp] theorem State.modClkout_tdcs (n : Nat) (f : Clkout → Clkout) : (s.modClkout n f).tdcs = s.tdcs := (rfl)
@[simp] theorem State.modClkout_tio (n : Nat) (f : Clkout → Clkout) : (s.modClkout n f).tio = s.tio := (rfl)
@[simp] theorem State.modClkout_cellar (n : Nat) (f : Clkout → Clkout) : (s.modClkout n f).cellar = s.cellar := (rfl)
@[simp] theorem State.modClkout_tables (n : Nat) (f : Clkout → Clkout) : (s.modClkout n f).tables = s.tables := (rfl)
@[simp] theorem State.modClkout_caravan (n : Nat) (f : Clkout → Clkout) : (s.modClkout n f).caravan = s.caravan := (rfl)
@[simp] theorem State.modClkout_cal (n : Nat) (f : Clkout → Clkout) : (s.modClkout n f).cal = s.cal := (rfl)
@[simp] theorem State.modClkout_irq (n : Nat) (f : Clkout → Clkout) : (s.modClkout n f).irq = s.irq := (rfl)
@[simp] theorem State.modClkout_engines (n : Nat) (f : Clkout → Clkout) : (s.modClkout n f).engines = s.engines := (rfl)
@[simp] theorem State.modClkout_sems (n : Nat) (f : Clkout → Clkout) : (s.modClkout n f).sems = s.sems := (rfl)
@[simp] theorem State.modClkout_snap (n : Nat) (f : Clkout → Clkout) : (s.modClkout n f).snap = s.snap := (rfl)
@[simp] theorem State.modClkout_lantern (n : Nat) (f : Clkout → Clkout) : (s.modClkout n f).lantern = s.lantern := (rfl)
@[simp] theorem State.modClkout_jtag (n : Nat) (f : Clkout → Clkout) : (s.modClkout n f).jtag = s.jtag := (rfl)
@[simp] theorem State.modClkout_falri (n : Nat) (f : Clkout → Clkout) : (s.modClkout n f).falri = s.falri := (rfl)
@[simp] theorem State.modClkout_hier (n : Nat) (f : Clkout → Clkout) : (s.modClkout n f).hier = s.hier := (rfl)
@[simp] theorem State.modClkout_twin (n : Nat) (f : Clkout → Clkout) : (s.modClkout n f).twin = s.twin := (rfl)
@[simp] theorem State.modClkout_flash (n : Nat) (f : Clkout → Clkout) : (s.modClkout n f).flash = s.flash := (rfl)
@[simp] theorem State.modClkout_pantry (n : Nat) (f : Clkout → Clkout) : (s.modClkout n f).pantry = s.pantry := (rfl)
@[simp] theorem State.modClkout_lane (n : Nat) (f : Clkout → Clkout) (m : Nat) : (s.modClkout n f).lane m = s.lane m := (rfl)
@[simp] theorem State.modClkout_lport (n : Nat) (f : Clkout → Clkout) (m : Nat) : (s.modClkout n f).lport m = s.lport m := (rfl)
@[simp] theorem State.modClkout_port (n : Nat) (f : Clkout → Clkout) (m : Nat) : (s.modClkout n f).port m = s.port m := (rfl)
@[simp] theorem State.modClkout_group (n : Nat) (f : Clkout → Clkout) (m : Nat) : (s.modClkout n f).group m = s.group m := (rfl)
@[simp] theorem State.modClkout_pll (n : Nat) (f : Clkout → Clkout) (m : Nat) : (s.modClkout n f).pll m = s.pll m := (rfl)
@[simp] theorem State.modClkout_clkout (n : Nat) (f : Clkout → Clkout) (m : Nat) : (s.modClkout n f).clkout m = if m = n then f (s.clkout n) else s.clkout m := Tab.get_set _ _ _ _ _
@[simp] theorem State.modClkout_gen (n : Nat) (f : Clkout → Clkout) (m : Nat) : (s.modClkout n f).gen m = s.gen m := (rfl)
@[simp] theorem State.modClkout_tdc (n : Nat) (f : Clkout → Clkout) (m : Nat) : (s.modClkout n f).tdc m = s.tdc m := (rfl)
@[simp] theorem State.modClkout_eng (n : Nat) (f : Clkout → Clkout) (m : Nat) : (s.modClkout n f).eng m = s.eng m := (rfl)
@[simp] theorem State.modClkout_obj (n : Nat) (f : Clkout → Clkout) (o' : Obj) (j : Nat) : (s.modClkout n f).obj o' j = s.obj o' j := (rfl)
@[simp] theorem State.modClkout_blob (n : Nat) (f : Clkout → Clkout) (o' : Obj) (j : Nat) : (s.modClkout n f).blob o' j = s.blob o' j := (rfl)
@[simp] theorem State.modClkout_calRec (n : Nat) (f : Clkout → Clkout) (j m : Nat) : (s.modClkout n f).calRec j m = s.calRec j m := (rfl)
@[simp] theorem State.modClkout_held (n : Nat) (f : Clkout → Clkout) : (s.modClkout n f).held = s.held := (rfl)

/-! Updates by `modGen`. -/
@[simp] theorem State.modGen_pending (n : Nat) (f : Gen → Gen) : (s.modGen n f).pending = s.pending := (rfl)
@[simp] theorem State.modGen_out (n : Nat) (f : Gen → Gen) : (s.modGen n f).out = s.out := (rfl)
@[simp] theorem State.modGen_free (n : Nat) (f : Gen → Gen) : (s.modGen n f).free = s.free := (rfl)
@[simp] theorem State.modGen_objs (n : Nat) (f : Gen → Gen) : (s.modGen n f).objs = s.objs := (rfl)
@[simp] theorem State.modGen_blobs (n : Nat) (f : Gen → Gen) : (s.modGen n f).blobs = s.blobs := (rfl)
@[simp] theorem State.modGen_power (n : Nat) (f : Gen → Gen) : (s.modGen n f).power = s.power := (rfl)
@[simp] theorem State.modGen_fuses (n : Nat) (f : Gen → Gen) : (s.modGen n f).fuses = s.fuses := (rfl)
@[simp] theorem State.modGen_hearth (n : Nat) (f : Gen → Gen) : (s.modGen n f).hearth = s.hearth := (rfl)
@[simp] theorem State.modGen_servo (n : Nat) (f : Gen → Gen) : (s.modGen n f).servo = s.servo := (rfl)
@[simp] theorem State.modGen_ports (n : Nat) (f : Gen → Gen) : (s.modGen n f).ports = s.ports := (rfl)
@[simp] theorem State.modGen_lanes (n : Nat) (f : Gen → Gen) : (s.modGen n f).lanes = s.lanes := (rfl)
@[simp] theorem State.modGen_groups (n : Nat) (f : Gen → Gen) : (s.modGen n f).groups = s.groups := (rfl)
@[simp] theorem State.modGen_lports (n : Nat) (f : Gen → Gen) : (s.modGen n f).lports = s.lports := (rfl)
@[simp] theorem State.modGen_plls (n : Nat) (f : Gen → Gen) : (s.modGen n f).plls = s.plls := (rfl)
@[simp] theorem State.modGen_clkouts (n : Nat) (f : Gen → Gen) : (s.modGen n f).clkouts = s.clkouts := (rfl)
@[simp] theorem State.modGen_clk (n : Nat) (f : Gen → Gen) : (s.modGen n f).clk = s.clk := (rfl)
@[simp] theorem State.modGen_gens (n : Nat) (f : Gen → Gen) : (s.modGen n f).gens = Tab.set s.gens Dflt.gen n (f (s.gen n)) := (rfl)
@[simp] theorem State.modGen_tdcs (n : Nat) (f : Gen → Gen) : (s.modGen n f).tdcs = s.tdcs := (rfl)
@[simp] theorem State.modGen_tio (n : Nat) (f : Gen → Gen) : (s.modGen n f).tio = s.tio := (rfl)
@[simp] theorem State.modGen_cellar (n : Nat) (f : Gen → Gen) : (s.modGen n f).cellar = s.cellar := (rfl)
@[simp] theorem State.modGen_tables (n : Nat) (f : Gen → Gen) : (s.modGen n f).tables = s.tables := (rfl)
@[simp] theorem State.modGen_caravan (n : Nat) (f : Gen → Gen) : (s.modGen n f).caravan = s.caravan := (rfl)
@[simp] theorem State.modGen_cal (n : Nat) (f : Gen → Gen) : (s.modGen n f).cal = s.cal := (rfl)
@[simp] theorem State.modGen_irq (n : Nat) (f : Gen → Gen) : (s.modGen n f).irq = s.irq := (rfl)
@[simp] theorem State.modGen_engines (n : Nat) (f : Gen → Gen) : (s.modGen n f).engines = s.engines := (rfl)
@[simp] theorem State.modGen_sems (n : Nat) (f : Gen → Gen) : (s.modGen n f).sems = s.sems := (rfl)
@[simp] theorem State.modGen_snap (n : Nat) (f : Gen → Gen) : (s.modGen n f).snap = s.snap := (rfl)
@[simp] theorem State.modGen_lantern (n : Nat) (f : Gen → Gen) : (s.modGen n f).lantern = s.lantern := (rfl)
@[simp] theorem State.modGen_jtag (n : Nat) (f : Gen → Gen) : (s.modGen n f).jtag = s.jtag := (rfl)
@[simp] theorem State.modGen_falri (n : Nat) (f : Gen → Gen) : (s.modGen n f).falri = s.falri := (rfl)
@[simp] theorem State.modGen_hier (n : Nat) (f : Gen → Gen) : (s.modGen n f).hier = s.hier := (rfl)
@[simp] theorem State.modGen_twin (n : Nat) (f : Gen → Gen) : (s.modGen n f).twin = s.twin := (rfl)
@[simp] theorem State.modGen_flash (n : Nat) (f : Gen → Gen) : (s.modGen n f).flash = s.flash := (rfl)
@[simp] theorem State.modGen_pantry (n : Nat) (f : Gen → Gen) : (s.modGen n f).pantry = s.pantry := (rfl)
@[simp] theorem State.modGen_lane (n : Nat) (f : Gen → Gen) (m : Nat) : (s.modGen n f).lane m = s.lane m := (rfl)
@[simp] theorem State.modGen_lport (n : Nat) (f : Gen → Gen) (m : Nat) : (s.modGen n f).lport m = s.lport m := (rfl)
@[simp] theorem State.modGen_port (n : Nat) (f : Gen → Gen) (m : Nat) : (s.modGen n f).port m = s.port m := (rfl)
@[simp] theorem State.modGen_group (n : Nat) (f : Gen → Gen) (m : Nat) : (s.modGen n f).group m = s.group m := (rfl)
@[simp] theorem State.modGen_pll (n : Nat) (f : Gen → Gen) (m : Nat) : (s.modGen n f).pll m = s.pll m := (rfl)
@[simp] theorem State.modGen_clkout (n : Nat) (f : Gen → Gen) (m : Nat) : (s.modGen n f).clkout m = s.clkout m := (rfl)
@[simp] theorem State.modGen_gen (n : Nat) (f : Gen → Gen) (m : Nat) : (s.modGen n f).gen m = if m = n then f (s.gen n) else s.gen m := Tab.get_set _ _ _ _ _
@[simp] theorem State.modGen_tdc (n : Nat) (f : Gen → Gen) (m : Nat) : (s.modGen n f).tdc m = s.tdc m := (rfl)
@[simp] theorem State.modGen_eng (n : Nat) (f : Gen → Gen) (m : Nat) : (s.modGen n f).eng m = s.eng m := (rfl)
@[simp] theorem State.modGen_obj (n : Nat) (f : Gen → Gen) (o' : Obj) (j : Nat) : (s.modGen n f).obj o' j = s.obj o' j := (rfl)
@[simp] theorem State.modGen_blob (n : Nat) (f : Gen → Gen) (o' : Obj) (j : Nat) : (s.modGen n f).blob o' j = s.blob o' j := (rfl)
@[simp] theorem State.modGen_calRec (n : Nat) (f : Gen → Gen) (j m : Nat) : (s.modGen n f).calRec j m = s.calRec j m := (rfl)
@[simp] theorem State.modGen_held (n : Nat) (f : Gen → Gen) : (s.modGen n f).held = s.held := (rfl)

/-! Updates by `modTdc`. -/
@[simp] theorem State.modTdc_pending (n : Nat) (f : Tdc → Tdc) : (s.modTdc n f).pending = s.pending := (rfl)
@[simp] theorem State.modTdc_out (n : Nat) (f : Tdc → Tdc) : (s.modTdc n f).out = s.out := (rfl)
@[simp] theorem State.modTdc_free (n : Nat) (f : Tdc → Tdc) : (s.modTdc n f).free = s.free := (rfl)
@[simp] theorem State.modTdc_objs (n : Nat) (f : Tdc → Tdc) : (s.modTdc n f).objs = s.objs := (rfl)
@[simp] theorem State.modTdc_blobs (n : Nat) (f : Tdc → Tdc) : (s.modTdc n f).blobs = s.blobs := (rfl)
@[simp] theorem State.modTdc_power (n : Nat) (f : Tdc → Tdc) : (s.modTdc n f).power = s.power := (rfl)
@[simp] theorem State.modTdc_fuses (n : Nat) (f : Tdc → Tdc) : (s.modTdc n f).fuses = s.fuses := (rfl)
@[simp] theorem State.modTdc_hearth (n : Nat) (f : Tdc → Tdc) : (s.modTdc n f).hearth = s.hearth := (rfl)
@[simp] theorem State.modTdc_servo (n : Nat) (f : Tdc → Tdc) : (s.modTdc n f).servo = s.servo := (rfl)
@[simp] theorem State.modTdc_ports (n : Nat) (f : Tdc → Tdc) : (s.modTdc n f).ports = s.ports := (rfl)
@[simp] theorem State.modTdc_lanes (n : Nat) (f : Tdc → Tdc) : (s.modTdc n f).lanes = s.lanes := (rfl)
@[simp] theorem State.modTdc_groups (n : Nat) (f : Tdc → Tdc) : (s.modTdc n f).groups = s.groups := (rfl)
@[simp] theorem State.modTdc_lports (n : Nat) (f : Tdc → Tdc) : (s.modTdc n f).lports = s.lports := (rfl)
@[simp] theorem State.modTdc_plls (n : Nat) (f : Tdc → Tdc) : (s.modTdc n f).plls = s.plls := (rfl)
@[simp] theorem State.modTdc_clkouts (n : Nat) (f : Tdc → Tdc) : (s.modTdc n f).clkouts = s.clkouts := (rfl)
@[simp] theorem State.modTdc_clk (n : Nat) (f : Tdc → Tdc) : (s.modTdc n f).clk = s.clk := (rfl)
@[simp] theorem State.modTdc_gens (n : Nat) (f : Tdc → Tdc) : (s.modTdc n f).gens = s.gens := (rfl)
@[simp] theorem State.modTdc_tdcs (n : Nat) (f : Tdc → Tdc) : (s.modTdc n f).tdcs = Tab.set s.tdcs Dflt.tdc n (f (s.tdc n)) := (rfl)
@[simp] theorem State.modTdc_tio (n : Nat) (f : Tdc → Tdc) : (s.modTdc n f).tio = s.tio := (rfl)
@[simp] theorem State.modTdc_cellar (n : Nat) (f : Tdc → Tdc) : (s.modTdc n f).cellar = s.cellar := (rfl)
@[simp] theorem State.modTdc_tables (n : Nat) (f : Tdc → Tdc) : (s.modTdc n f).tables = s.tables := (rfl)
@[simp] theorem State.modTdc_caravan (n : Nat) (f : Tdc → Tdc) : (s.modTdc n f).caravan = s.caravan := (rfl)
@[simp] theorem State.modTdc_cal (n : Nat) (f : Tdc → Tdc) : (s.modTdc n f).cal = s.cal := (rfl)
@[simp] theorem State.modTdc_irq (n : Nat) (f : Tdc → Tdc) : (s.modTdc n f).irq = s.irq := (rfl)
@[simp] theorem State.modTdc_engines (n : Nat) (f : Tdc → Tdc) : (s.modTdc n f).engines = s.engines := (rfl)
@[simp] theorem State.modTdc_sems (n : Nat) (f : Tdc → Tdc) : (s.modTdc n f).sems = s.sems := (rfl)
@[simp] theorem State.modTdc_snap (n : Nat) (f : Tdc → Tdc) : (s.modTdc n f).snap = s.snap := (rfl)
@[simp] theorem State.modTdc_lantern (n : Nat) (f : Tdc → Tdc) : (s.modTdc n f).lantern = s.lantern := (rfl)
@[simp] theorem State.modTdc_jtag (n : Nat) (f : Tdc → Tdc) : (s.modTdc n f).jtag = s.jtag := (rfl)
@[simp] theorem State.modTdc_falri (n : Nat) (f : Tdc → Tdc) : (s.modTdc n f).falri = s.falri := (rfl)
@[simp] theorem State.modTdc_hier (n : Nat) (f : Tdc → Tdc) : (s.modTdc n f).hier = s.hier := (rfl)
@[simp] theorem State.modTdc_twin (n : Nat) (f : Tdc → Tdc) : (s.modTdc n f).twin = s.twin := (rfl)
@[simp] theorem State.modTdc_flash (n : Nat) (f : Tdc → Tdc) : (s.modTdc n f).flash = s.flash := (rfl)
@[simp] theorem State.modTdc_pantry (n : Nat) (f : Tdc → Tdc) : (s.modTdc n f).pantry = s.pantry := (rfl)
@[simp] theorem State.modTdc_lane (n : Nat) (f : Tdc → Tdc) (m : Nat) : (s.modTdc n f).lane m = s.lane m := (rfl)
@[simp] theorem State.modTdc_lport (n : Nat) (f : Tdc → Tdc) (m : Nat) : (s.modTdc n f).lport m = s.lport m := (rfl)
@[simp] theorem State.modTdc_port (n : Nat) (f : Tdc → Tdc) (m : Nat) : (s.modTdc n f).port m = s.port m := (rfl)
@[simp] theorem State.modTdc_group (n : Nat) (f : Tdc → Tdc) (m : Nat) : (s.modTdc n f).group m = s.group m := (rfl)
@[simp] theorem State.modTdc_pll (n : Nat) (f : Tdc → Tdc) (m : Nat) : (s.modTdc n f).pll m = s.pll m := (rfl)
@[simp] theorem State.modTdc_clkout (n : Nat) (f : Tdc → Tdc) (m : Nat) : (s.modTdc n f).clkout m = s.clkout m := (rfl)
@[simp] theorem State.modTdc_gen (n : Nat) (f : Tdc → Tdc) (m : Nat) : (s.modTdc n f).gen m = s.gen m := (rfl)
@[simp] theorem State.modTdc_tdc (n : Nat) (f : Tdc → Tdc) (m : Nat) : (s.modTdc n f).tdc m = if m = n then f (s.tdc n) else s.tdc m := Tab.get_set _ _ _ _ _
@[simp] theorem State.modTdc_eng (n : Nat) (f : Tdc → Tdc) (m : Nat) : (s.modTdc n f).eng m = s.eng m := (rfl)
@[simp] theorem State.modTdc_obj (n : Nat) (f : Tdc → Tdc) (o' : Obj) (j : Nat) : (s.modTdc n f).obj o' j = s.obj o' j := (rfl)
@[simp] theorem State.modTdc_blob (n : Nat) (f : Tdc → Tdc) (o' : Obj) (j : Nat) : (s.modTdc n f).blob o' j = s.blob o' j := (rfl)
@[simp] theorem State.modTdc_calRec (n : Nat) (f : Tdc → Tdc) (j m : Nat) : (s.modTdc n f).calRec j m = s.calRec j m := (rfl)
@[simp] theorem State.modTdc_held (n : Nat) (f : Tdc → Tdc) : (s.modTdc n f).held = s.held := (rfl)

/-! Updates by `modEng`. -/
@[simp] theorem State.modEng_pending (n : Nat) (f : Engine → Engine) : (s.modEng n f).pending = s.pending := (rfl)
@[simp] theorem State.modEng_out (n : Nat) (f : Engine → Engine) : (s.modEng n f).out = s.out := (rfl)
@[simp] theorem State.modEng_free (n : Nat) (f : Engine → Engine) : (s.modEng n f).free = s.free := (rfl)
@[simp] theorem State.modEng_objs (n : Nat) (f : Engine → Engine) : (s.modEng n f).objs = s.objs := (rfl)
@[simp] theorem State.modEng_blobs (n : Nat) (f : Engine → Engine) : (s.modEng n f).blobs = s.blobs := (rfl)
@[simp] theorem State.modEng_power (n : Nat) (f : Engine → Engine) : (s.modEng n f).power = s.power := (rfl)
@[simp] theorem State.modEng_fuses (n : Nat) (f : Engine → Engine) : (s.modEng n f).fuses = s.fuses := (rfl)
@[simp] theorem State.modEng_hearth (n : Nat) (f : Engine → Engine) : (s.modEng n f).hearth = s.hearth := (rfl)
@[simp] theorem State.modEng_servo (n : Nat) (f : Engine → Engine) : (s.modEng n f).servo = s.servo := (rfl)
@[simp] theorem State.modEng_ports (n : Nat) (f : Engine → Engine) : (s.modEng n f).ports = s.ports := (rfl)
@[simp] theorem State.modEng_lanes (n : Nat) (f : Engine → Engine) : (s.modEng n f).lanes = s.lanes := (rfl)
@[simp] theorem State.modEng_groups (n : Nat) (f : Engine → Engine) : (s.modEng n f).groups = s.groups := (rfl)
@[simp] theorem State.modEng_lports (n : Nat) (f : Engine → Engine) : (s.modEng n f).lports = s.lports := (rfl)
@[simp] theorem State.modEng_plls (n : Nat) (f : Engine → Engine) : (s.modEng n f).plls = s.plls := (rfl)
@[simp] theorem State.modEng_clkouts (n : Nat) (f : Engine → Engine) : (s.modEng n f).clkouts = s.clkouts := (rfl)
@[simp] theorem State.modEng_clk (n : Nat) (f : Engine → Engine) : (s.modEng n f).clk = s.clk := (rfl)
@[simp] theorem State.modEng_gens (n : Nat) (f : Engine → Engine) : (s.modEng n f).gens = s.gens := (rfl)
@[simp] theorem State.modEng_tdcs (n : Nat) (f : Engine → Engine) : (s.modEng n f).tdcs = s.tdcs := (rfl)
@[simp] theorem State.modEng_tio (n : Nat) (f : Engine → Engine) : (s.modEng n f).tio = s.tio := (rfl)
@[simp] theorem State.modEng_cellar (n : Nat) (f : Engine → Engine) : (s.modEng n f).cellar = s.cellar := (rfl)
@[simp] theorem State.modEng_tables (n : Nat) (f : Engine → Engine) : (s.modEng n f).tables = s.tables := (rfl)
@[simp] theorem State.modEng_caravan (n : Nat) (f : Engine → Engine) : (s.modEng n f).caravan = s.caravan := (rfl)
@[simp] theorem State.modEng_cal (n : Nat) (f : Engine → Engine) : (s.modEng n f).cal = s.cal := (rfl)
@[simp] theorem State.modEng_irq (n : Nat) (f : Engine → Engine) : (s.modEng n f).irq = s.irq := (rfl)
@[simp] theorem State.modEng_engines (n : Nat) (f : Engine → Engine) : (s.modEng n f).engines = Tab.set s.engines Dflt.engine n (f (s.eng n)) := (rfl)
@[simp] theorem State.modEng_sems (n : Nat) (f : Engine → Engine) : (s.modEng n f).sems = s.sems := (rfl)
@[simp] theorem State.modEng_snap (n : Nat) (f : Engine → Engine) : (s.modEng n f).snap = s.snap := (rfl)
@[simp] theorem State.modEng_lantern (n : Nat) (f : Engine → Engine) : (s.modEng n f).lantern = s.lantern := (rfl)
@[simp] theorem State.modEng_jtag (n : Nat) (f : Engine → Engine) : (s.modEng n f).jtag = s.jtag := (rfl)
@[simp] theorem State.modEng_falri (n : Nat) (f : Engine → Engine) : (s.modEng n f).falri = s.falri := (rfl)
@[simp] theorem State.modEng_hier (n : Nat) (f : Engine → Engine) : (s.modEng n f).hier = s.hier := (rfl)
@[simp] theorem State.modEng_twin (n : Nat) (f : Engine → Engine) : (s.modEng n f).twin = s.twin := (rfl)
@[simp] theorem State.modEng_flash (n : Nat) (f : Engine → Engine) : (s.modEng n f).flash = s.flash := (rfl)
@[simp] theorem State.modEng_pantry (n : Nat) (f : Engine → Engine) : (s.modEng n f).pantry = s.pantry := (rfl)
@[simp] theorem State.modEng_lane (n : Nat) (f : Engine → Engine) (m : Nat) : (s.modEng n f).lane m = s.lane m := (rfl)
@[simp] theorem State.modEng_lport (n : Nat) (f : Engine → Engine) (m : Nat) : (s.modEng n f).lport m = s.lport m := (rfl)
@[simp] theorem State.modEng_port (n : Nat) (f : Engine → Engine) (m : Nat) : (s.modEng n f).port m = s.port m := (rfl)
@[simp] theorem State.modEng_group (n : Nat) (f : Engine → Engine) (m : Nat) : (s.modEng n f).group m = s.group m := (rfl)
@[simp] theorem State.modEng_pll (n : Nat) (f : Engine → Engine) (m : Nat) : (s.modEng n f).pll m = s.pll m := (rfl)
@[simp] theorem State.modEng_clkout (n : Nat) (f : Engine → Engine) (m : Nat) : (s.modEng n f).clkout m = s.clkout m := (rfl)
@[simp] theorem State.modEng_gen (n : Nat) (f : Engine → Engine) (m : Nat) : (s.modEng n f).gen m = s.gen m := (rfl)
@[simp] theorem State.modEng_tdc (n : Nat) (f : Engine → Engine) (m : Nat) : (s.modEng n f).tdc m = s.tdc m := (rfl)
@[simp] theorem State.modEng_eng (n : Nat) (f : Engine → Engine) (m : Nat) : (s.modEng n f).eng m = if m = n then f (s.eng n) else s.eng m := Tab.get_set _ _ _ _ _
@[simp] theorem State.modEng_obj (n : Nat) (f : Engine → Engine) (o' : Obj) (j : Nat) : (s.modEng n f).obj o' j = s.obj o' j := (rfl)
@[simp] theorem State.modEng_blob (n : Nat) (f : Engine → Engine) (o' : Obj) (j : Nat) : (s.modEng n f).blob o' j = s.blob o' j := (rfl)
@[simp] theorem State.modEng_calRec (n : Nat) (f : Engine → Engine) (j m : Nat) : (s.modEng n f).calRec j m = s.calRec j m := (rfl)
@[simp] theorem State.modEng_held (n : Nat) (f : Engine → Engine) : (s.modEng n f).held = s.held := (rfl)

/-! Updates by `modCal`. -/
@[simp] theorem State.modCal_pending (k i : Nat) (f : CalRec → CalRec) : (s.modCal k i f).pending = s.pending := (rfl)
@[simp] theorem State.modCal_out (k i : Nat) (f : CalRec → CalRec) : (s.modCal k i f).out = s.out := (rfl)
@[simp] theorem State.modCal_free (k i : Nat) (f : CalRec → CalRec) : (s.modCal k i f).free = s.free := (rfl)
@[simp] theorem State.modCal_objs (k i : Nat) (f : CalRec → CalRec) : (s.modCal k i f).objs = s.objs := (rfl)
@[simp] theorem State.modCal_blobs (k i : Nat) (f : CalRec → CalRec) : (s.modCal k i f).blobs = s.blobs := (rfl)
@[simp] theorem State.modCal_power (k i : Nat) (f : CalRec → CalRec) : (s.modCal k i f).power = s.power := (rfl)
@[simp] theorem State.modCal_fuses (k i : Nat) (f : CalRec → CalRec) : (s.modCal k i f).fuses = s.fuses := (rfl)
@[simp] theorem State.modCal_hearth (k i : Nat) (f : CalRec → CalRec) : (s.modCal k i f).hearth = s.hearth := (rfl)
@[simp] theorem State.modCal_servo (k i : Nat) (f : CalRec → CalRec) : (s.modCal k i f).servo = s.servo := (rfl)
@[simp] theorem State.modCal_ports (k i : Nat) (f : CalRec → CalRec) : (s.modCal k i f).ports = s.ports := (rfl)
@[simp] theorem State.modCal_lanes (k i : Nat) (f : CalRec → CalRec) : (s.modCal k i f).lanes = s.lanes := (rfl)
@[simp] theorem State.modCal_groups (k i : Nat) (f : CalRec → CalRec) : (s.modCal k i f).groups = s.groups := (rfl)
@[simp] theorem State.modCal_lports (k i : Nat) (f : CalRec → CalRec) : (s.modCal k i f).lports = s.lports := (rfl)
@[simp] theorem State.modCal_plls (k i : Nat) (f : CalRec → CalRec) : (s.modCal k i f).plls = s.plls := (rfl)
@[simp] theorem State.modCal_clkouts (k i : Nat) (f : CalRec → CalRec) : (s.modCal k i f).clkouts = s.clkouts := (rfl)
@[simp] theorem State.modCal_clk (k i : Nat) (f : CalRec → CalRec) : (s.modCal k i f).clk = s.clk := (rfl)
@[simp] theorem State.modCal_gens (k i : Nat) (f : CalRec → CalRec) : (s.modCal k i f).gens = s.gens := (rfl)
@[simp] theorem State.modCal_tdcs (k i : Nat) (f : CalRec → CalRec) : (s.modCal k i f).tdcs = s.tdcs := (rfl)
@[simp] theorem State.modCal_tio (k i : Nat) (f : CalRec → CalRec) : (s.modCal k i f).tio = s.tio := (rfl)
@[simp] theorem State.modCal_cellar (k i : Nat) (f : CalRec → CalRec) : (s.modCal k i f).cellar = s.cellar := (rfl)
@[simp] theorem State.modCal_tables (k i : Nat) (f : CalRec → CalRec) : (s.modCal k i f).tables = s.tables := (rfl)
@[simp] theorem State.modCal_caravan (k i : Nat) (f : CalRec → CalRec) : (s.modCal k i f).caravan = s.caravan := (rfl)
@[simp] theorem State.modCal_cal (k i : Nat) (f : CalRec → CalRec) : (s.modCal k i f).cal = { s.cal with recs := Tab.set s.cal.recs Dflt.calRec (256 * k + i) (f (s.calRec k i)) } := (rfl)
@[simp] theorem State.modCal_irq (k i : Nat) (f : CalRec → CalRec) : (s.modCal k i f).irq = s.irq := (rfl)
@[simp] theorem State.modCal_engines (k i : Nat) (f : CalRec → CalRec) : (s.modCal k i f).engines = s.engines := (rfl)
@[simp] theorem State.modCal_sems (k i : Nat) (f : CalRec → CalRec) : (s.modCal k i f).sems = s.sems := (rfl)
@[simp] theorem State.modCal_snap (k i : Nat) (f : CalRec → CalRec) : (s.modCal k i f).snap = s.snap := (rfl)
@[simp] theorem State.modCal_lantern (k i : Nat) (f : CalRec → CalRec) : (s.modCal k i f).lantern = s.lantern := (rfl)
@[simp] theorem State.modCal_jtag (k i : Nat) (f : CalRec → CalRec) : (s.modCal k i f).jtag = s.jtag := (rfl)
@[simp] theorem State.modCal_falri (k i : Nat) (f : CalRec → CalRec) : (s.modCal k i f).falri = s.falri := (rfl)
@[simp] theorem State.modCal_hier (k i : Nat) (f : CalRec → CalRec) : (s.modCal k i f).hier = s.hier := (rfl)
@[simp] theorem State.modCal_twin (k i : Nat) (f : CalRec → CalRec) : (s.modCal k i f).twin = s.twin := (rfl)
@[simp] theorem State.modCal_flash (k i : Nat) (f : CalRec → CalRec) : (s.modCal k i f).flash = s.flash := (rfl)
@[simp] theorem State.modCal_pantry (k i : Nat) (f : CalRec → CalRec) : (s.modCal k i f).pantry = s.pantry := (rfl)
@[simp] theorem State.modCal_lane (k i : Nat) (f : CalRec → CalRec) (m : Nat) : (s.modCal k i f).lane m = s.lane m := (rfl)
@[simp] theorem State.modCal_lport (k i : Nat) (f : CalRec → CalRec) (m : Nat) : (s.modCal k i f).lport m = s.lport m := (rfl)
@[simp] theorem State.modCal_port (k i : Nat) (f : CalRec → CalRec) (m : Nat) : (s.modCal k i f).port m = s.port m := (rfl)
@[simp] theorem State.modCal_group (k i : Nat) (f : CalRec → CalRec) (m : Nat) : (s.modCal k i f).group m = s.group m := (rfl)
@[simp] theorem State.modCal_pll (k i : Nat) (f : CalRec → CalRec) (m : Nat) : (s.modCal k i f).pll m = s.pll m := (rfl)
@[simp] theorem State.modCal_clkout (k i : Nat) (f : CalRec → CalRec) (m : Nat) : (s.modCal k i f).clkout m = s.clkout m := (rfl)
@[simp] theorem State.modCal_gen (k i : Nat) (f : CalRec → CalRec) (m : Nat) : (s.modCal k i f).gen m = s.gen m := (rfl)
@[simp] theorem State.modCal_tdc (k i : Nat) (f : CalRec → CalRec) (m : Nat) : (s.modCal k i f).tdc m = s.tdc m := (rfl)
@[simp] theorem State.modCal_eng (k i : Nat) (f : CalRec → CalRec) (m : Nat) : (s.modCal k i f).eng m = s.eng m := (rfl)
@[simp] theorem State.modCal_obj (k i : Nat) (f : CalRec → CalRec) (o' : Obj) (j : Nat) : (s.modCal k i f).obj o' j = s.obj o' j := (rfl)
@[simp] theorem State.modCal_blob (k i : Nat) (f : CalRec → CalRec) (o' : Obj) (j : Nat) : (s.modCal k i f).blob o' j = s.blob o' j := (rfl)
@[simp] theorem State.modCal_held (k i : Nat) (f : CalRec → CalRec) : (s.modCal k i f).held = s.held := (rfl)

/-- The object that was set, in its width. -/
@[simp] theorem State.obj_setObj_same (o : Obj) (v sub : Nat) : (s.setObj o v sub).obj o sub = v % 2 ^ (8 * o.ty.bytes) :=
  Tab.get_set_same _ _ _ _

/-- Every other object stands. -/
theorem State.obj_setObj_ne {o o' : Obj} (v : Nat) {sub j : Nat} (h : o'.key j ≠ o.key sub) : (s.setObj o v sub).obj o' j = s.obj o' j :=
  Tab.get_set_ne _ _ _ _ h

/-- The BLOB that was set. -/
@[simp] theorem State.blob_setBlob_same (o : Obj) (b : Blob) (sub : Nat) : (s.setBlob o b sub).blob o sub = b :=
  Tab.get_set_same _ _ _ _

/-- The calibration that was changed. -/
@[simp] theorem State.calRec_modCal_same (k i : Nat) (f : CalRec → CalRec) : (s.modCal k i f).calRec k i = f (s.calRec k i) :=
  Tab.get_set_same _ _ _ _

/-- A command whose effect is `f` runs it while the part is not held in reset. -/
theorem run_next (f : State → State) (h : s.held = false) : run s f = .next (f s) := by simp [run, h]

/-- A command of another chapter than the Hearth's runs its effect and leaves the servo's state alone. -/
theorem runKeep_next (f : State → State) (h : s.held = false) : runKeep s f = .next (s.keeping f) := by simp [runKeep, run, h]

/-- While the part is held in reset nothing happens (R509). -/
theorem run_held (f : State → State) (h : s.held = true) : run s f = .next s := by simp [run, h]

theorem runKeep_held (f : State → State) (h : s.held = true) : runKeep s f = .next s := by simp [runKeep, run, h]

@[simp] theorem State.keeping_pending (f : State → State) : (s.keeping f).pending = (f s).pending := (rfl)
@[simp] theorem State.keeping_out (f : State → State) : (s.keeping f).out = (f s).out := (rfl)
@[simp] theorem State.keeping_free (f : State → State) : (s.keeping f).free = (f s).free := (rfl)
@[simp] theorem State.keeping_objs (f : State → State) : (s.keeping f).objs = (f s).objs := (rfl)
@[simp] theorem State.keeping_blobs (f : State → State) : (s.keeping f).blobs = (f s).blobs := (rfl)
@[simp] theorem State.keeping_power (f : State → State) : (s.keeping f).power = (f s).power := (rfl)
@[simp] theorem State.keeping_fuses (f : State → State) : (s.keeping f).fuses = (f s).fuses := (rfl)
@[simp] theorem State.keeping_servo (f : State → State) : (s.keeping f).servo = (f s).servo := (rfl)
@[simp] theorem State.keeping_ports (f : State → State) : (s.keeping f).ports = (f s).ports := (rfl)
@[simp] theorem State.keeping_lanes (f : State → State) : (s.keeping f).lanes = (f s).lanes := (rfl)
@[simp] theorem State.keeping_groups (f : State → State) : (s.keeping f).groups = (f s).groups := (rfl)
@[simp] theorem State.keeping_lports (f : State → State) : (s.keeping f).lports = (f s).lports := (rfl)
@[simp] theorem State.keeping_plls (f : State → State) : (s.keeping f).plls = (f s).plls := (rfl)
@[simp] theorem State.keeping_clkouts (f : State → State) : (s.keeping f).clkouts = (f s).clkouts := (rfl)
@[simp] theorem State.keeping_clk (f : State → State) : (s.keeping f).clk = (f s).clk := (rfl)
@[simp] theorem State.keeping_gens (f : State → State) : (s.keeping f).gens = (f s).gens := (rfl)
@[simp] theorem State.keeping_tdcs (f : State → State) : (s.keeping f).tdcs = (f s).tdcs := (rfl)
@[simp] theorem State.keeping_tio (f : State → State) : (s.keeping f).tio = (f s).tio := (rfl)
@[simp] theorem State.keeping_cellar (f : State → State) : (s.keeping f).cellar = (f s).cellar := (rfl)
@[simp] theorem State.keeping_tables (f : State → State) : (s.keeping f).tables = (f s).tables := (rfl)
@[simp] theorem State.keeping_caravan (f : State → State) : (s.keeping f).caravan = (f s).caravan := (rfl)
@[simp] theorem State.keeping_cal (f : State → State) : (s.keeping f).cal = (f s).cal := (rfl)
@[simp] theorem State.keeping_irq (f : State → State) : (s.keeping f).irq = (f s).irq := (rfl)
@[simp] theorem State.keeping_engines (f : State → State) : (s.keeping f).engines = (f s).engines := (rfl)
@[simp] theorem State.keeping_sems (f : State → State) : (s.keeping f).sems = (f s).sems := (rfl)
@[simp] theorem State.keeping_snap (f : State → State) : (s.keeping f).snap = (f s).snap := (rfl)
@[simp] theorem State.keeping_lantern (f : State → State) : (s.keeping f).lantern = (f s).lantern := (rfl)
@[simp] theorem State.keeping_jtag (f : State → State) : (s.keeping f).jtag = (f s).jtag := (rfl)
@[simp] theorem State.keeping_falri (f : State → State) : (s.keeping f).falri = (f s).falri := (rfl)
@[simp] theorem State.keeping_hier (f : State → State) : (s.keeping f).hier = (f s).hier := (rfl)
@[simp] theorem State.keeping_twin (f : State → State) : (s.keeping f).twin = (f s).twin := (rfl)
@[simp] theorem State.keeping_flash (f : State → State) : (s.keeping f).flash = (f s).flash := (rfl)
@[simp] theorem State.keeping_pantry (f : State → State) : (s.keeping f).pantry = (f s).pantry := (rfl)
@[simp] theorem State.keeping_hearth (f : State → State) : (s.keeping f).hearth = s.hearth.keepServo (f s).hearth := (rfl)
@[simp] theorem State.keeping_lane (f : State → State) (m : Nat) : (s.keeping f).lane m = (f s).lane m := (rfl)
@[simp] theorem State.keeping_lport (f : State → State) (m : Nat) : (s.keeping f).lport m = (f s).lport m := (rfl)
@[simp] theorem State.keeping_port (f : State → State) (m : Nat) : (s.keeping f).port m = (f s).port m := (rfl)
@[simp] theorem State.keeping_group (f : State → State) (m : Nat) : (s.keeping f).group m = (f s).group m := (rfl)
@[simp] theorem State.keeping_pll (f : State → State) (m : Nat) : (s.keeping f).pll m = (f s).pll m := (rfl)
@[simp] theorem State.keeping_clkout (f : State → State) (m : Nat) : (s.keeping f).clkout m = (f s).clkout m := (rfl)
@[simp] theorem State.keeping_gen (f : State → State) (m : Nat) : (s.keeping f).gen m = (f s).gen m := (rfl)
@[simp] theorem State.keeping_tdc (f : State → State) (m : Nat) : (s.keeping f).tdc m = (f s).tdc m := (rfl)
@[simp] theorem State.keeping_eng (f : State → State) (m : Nat) : (s.keeping f).eng m = (f s).eng m := (rfl)
@[simp] theorem State.keeping_held (f : State → State) : (s.keeping f).held = (f s).held := (rfl)
@[simp] theorem State.keeping_obj (f : State → State) (o : Obj) (j : Nat) : (s.keeping f).obj o j = (f s).obj o j := (rfl)
@[simp] theorem State.keeping_blob (f : State → State) (o : Obj) (j : Nat) : (s.keeping f).blob o j = (f s).blob o j := (rfl)
@[simp] theorem State.keeping_calRec (f : State → State) (k m : Nat) : (s.keeping f).calRec k m = (f s).calRec k m := (rfl)

/-- An effect that leaves the Hearth alone is the whole change. -/
theorem State.keeping_eq {f : State → State} (h : (f s).hearth = s.hearth) : s.keeping f = f s := by
  simp only [State.keeping, h, Hearth.keepServo]
  rw [← h]

/-- No command of another chapter changes the servo's state, STEP_USED or the way into REFUSED. -/
theorem runKeep_stepRule {f : State → State} {t : State} (h : runKeep s f = .next t) :
    t.hearth.state = s.hearth.state ∧ t.hearth.stepUsed = s.hearth.stepUsed ∧ t.hearth.fromAlign = s.hearth.fromAlign := by
  by_cases hh : s.held = true
  · rw [runKeep_held s f hh] at h; cases h; exact ⟨rfl, rfl, rfl⟩
  · rw [runKeep_next s f (by simpa using hh)] at h; cases h; exact ⟨rfl, rfl, rfl⟩

end Sys2Proof.Machine
end

