-- ==== Sys2Proof/Laws/Frame.lean ====
section
/-! SUPPORT. Frames: how `State.only` composes, and what each update of the state and each operation over flags may touch. -/

namespace Sys2Proof.Machine

variable {t s : State} {l : List Part} {ks : List Nat}

theorem State.only_refl (s : State) (l : List Part) (ks : List Nat) : s.only s l ks :=
  ⟨fun p _ => by cases p <;> rfl, fun _ _ _ => rfl⟩

theorem Part.same_trans {p : Part} {r s t : State} (h1 : p.same s t) (h2 : p.same r s) : p.same r t := by
  cases p <;> exact Eq.trans h1 h2

/-- Two changes in a row. -/
theorem State.only_trans {r : State} (h1 : t.only s l ks) (h2 : s.only r l ks) : t.only r l ks :=
  ⟨fun p hp => Part.same_trans (h1.1 p hp) (h2.1 p hp), fun k hk d => (h1.2 k hk d).trans (h2.2 k hk d)⟩

/-- A wider frame. -/
theorem State.only_mono {l' : List Part} {ks' : List Nat} (h : t.only s l ks) (hl : ∀ p ∈ l, p ∈ l') (hk : ∀ k ∈ ks, k ∈ ks') :
    t.only s l' ks' :=
  ⟨fun p hp => h.1 p fun hx => hp (hl p hx), fun k hx => h.2 k fun hy => hx (hk k hy)⟩

/-- An object outside the frame stands. -/
theorem State.only_obj (h : t.only s l ks) {o : Obj} {j : Nat} (hk : o.key j ∉ ks) : t.obj o j = s.obj o j := h.2 _ hk _

/-- Folding a change that stays inside a frame stays inside it. -/
theorem State.only_forEach {α : Type} {f : State → α → State} (xs : List α) (hf : ∀ u x, (f u x).only u l ks) (h : t.only s l ks) :
    (forEach xs f t).only s l ks := by
  unfold forEach
  induction xs generalizing t with
  | nil => exact h
  | cons x xs ih => exact ih (State.only_trans (hf t x) h)

theorem State.only_setObj {o : Obj} {sub : Nat} (v : Nat) (h : t.only s l ks) (hk : o.key sub ∈ ks) : (t.setObj o v sub).only s l ks :=
  State.only_trans (s := t) ⟨fun p _ => by cases p <;> rfl, fun k hx d => Tab.get_set_ne _ _ _ _ fun e => hx (e ▸ hk)⟩ h
theorem State.only_setBlob (o : Obj) (b : Blob) (sub : Nat) (h : t.only s l ks) (hl : .blobs ∈ l) : (t.setBlob o b sub).only s l ks :=
  State.only_trans (s := t) ⟨fun p hp => by cases p <;> first | rfl | exact absurd hl hp, fun _ _ _ => rfl⟩ h
theorem State.only_emit (e : Emit) (h : t.only s l ks) (hl : .out ∈ l) : (t.emit e).only s l ks :=
  State.only_trans (s := t) ⟨fun p hp => by cases p <;> first | rfl | exact absurd hl hp, fun _ _ _ => rfl⟩ h
theorem State.only_fresh (h : t.only s l ks) (hl : .free ∈ l) : (t.fresh).only s l ks :=
  State.only_trans (s := t) ⟨fun p hp => by cases p <;> first | rfl | exact absurd hl hp, fun _ _ _ => rfl⟩ h
theorem State.only_pantryWrite (a : Nat) (b : Bytes) (h : t.only s l ks) (hl : .pantry ∈ l) : (t.pantryWrite a b).only s l ks :=
  State.only_trans (s := t) ⟨fun p hp => by cases p <;> first | rfl | exact absurd hl hp, fun _ _ _ => rfl⟩ h
theorem State.only_modHearth (f : Hearth → Hearth) (h : t.only s l ks) (hl : .hearth ∈ l) : (t.modHearth f).only s l ks :=
  State.only_trans (s := t) ⟨fun p hp => by cases p <;> first | rfl | exact absurd hl hp, fun _ _ _ => rfl⟩ h
theorem State.only_modServo (f : ServoMem → ServoMem) (h : t.only s l ks) (hl : .servo ∈ l) : (t.modServo f).only s l ks :=
  State.only_trans (s := t) ⟨fun p hp => by cases p <;> first | rfl | exact absurd hl hp, fun _ _ _ => rfl⟩ h
theorem State.only_modCellar (f : Cellar → Cellar) (h : t.only s l ks) (hl : .cellar ∈ l) : (t.modCellar f).only s l ks :=
  State.only_trans (s := t) ⟨fun p hp => by cases p <;> first | rfl | exact absurd hl hp, fun _ _ _ => rfl⟩ h
theorem State.only_modCaravan (f : Caravan → Caravan) (h : t.only s l ks) (hl : .caravan ∈ l) : (t.modCaravan f).only s l ks :=
  State.only_trans (s := t) ⟨fun p hp => by cases p <;> first | rfl | exact absurd hl hp, fun _ _ _ => rfl⟩ h
theorem State.only_modTables (f : Tables → Tables) (h : t.only s l ks) (hl : .tables ∈ l) : (t.modTables f).only s l ks :=
  State.only_trans (s := t) ⟨fun p hp => by cases p <;> first | rfl | exact absurd hl hp, fun _ _ _ => rfl⟩ h
theorem State.only_modTio (f : Tio → Tio) (h : t.only s l ks) (hl : .tio ∈ l) : (t.modTio f).only s l ks :=
  State.only_trans (s := t) ⟨fun p hp => by cases p <;> first | rfl | exact absurd hl hp, fun _ _ _ => rfl⟩ h
theorem State.only_modFalri (f : Falri → Falri) (h : t.only s l ks) (hl : .falri ∈ l) (hn : .notify ∈ l) : (t.modFalri f).only s l ks :=
  State.only_trans (s := t) ⟨fun p hp => by cases p <;> first | rfl | exact absurd hl hp | exact absurd hn hp, fun _ _ _ => rfl⟩ h
theorem State.only_notify (x : Tab Nat) (h : t.only s l ks) (hn : .notify ∈ l) : (t.modFalri fun f => { f with notify := x }).only s l ks :=
  State.only_trans (s := t) ⟨fun p hp => by cases p <;> first | rfl | exact absurd hn hp, fun _ _ _ => rfl⟩ h
theorem State.only_modFalri' (f : Falri → Falri) (h : t.only s l ks) (hl : .falri ∈ l) (hn : (f t.falri).notify = t.falri.notify) :
    (t.modFalri f).only s l ks :=
  State.only_trans (s := t) ⟨fun p hp => by cases p <;> first | rfl | exact absurd hl hp | exact hn, fun _ _ _ => rfl⟩ h
theorem State.only_modTwin (f : Twin → Twin) (h : t.only s l ks) (hl : .twin ∈ l) : (t.modTwin f).only s l ks :=
  State.only_trans (s := t) ⟨fun p hp => by cases p <;> first | rfl | exact absurd hl hp, fun _ _ _ => rfl⟩ h
theorem State.only_modHier (f : Hier → Hier) (h : t.only s l ks) (hl : .hier ∈ l) : (t.modHier f).only s l ks :=
  State.only_trans (s := t) ⟨fun p hp => by cases p <;> first | rfl | exact absurd hl hp, fun _ _ _ => rfl⟩ h
theorem State.only_modPower (f : Power → Power) (h : t.only s l ks) (hl : .power ∈ l) : (t.modPower f).only s l ks :=
  State.only_trans (s := t) ⟨fun p hp => by cases p <;> first | rfl | exact absurd hl hp, fun _ _ _ => rfl⟩ h
theorem State.only_modIrq (f : Irq → Irq) (h : t.only s l ks) (hl : .irq ∈ l) : (t.modIrq f).only s l ks :=
  State.only_trans (s := t) ⟨fun p hp => by cases p <;> first | rfl | exact absurd hl hp, fun _ _ _ => rfl⟩ h
theorem State.only_modCalib (f : Cal → Cal) (h : t.only s l ks) (hl : .cal ∈ l) : (t.modCalib f).only s l ks :=
  State.only_trans (s := t) ⟨fun p hp => by cases p <;> first | rfl | exact absurd hl hp, fun _ _ _ => rfl⟩ h
theorem State.only_modSnap (f : Snap → Snap) (h : t.only s l ks) (hl : .snap ∈ l) : (t.modSnap f).only s l ks :=
  State.only_trans (s := t) ⟨fun p hp => by cases p <;> first | rfl | exact absurd hl hp, fun _ _ _ => rfl⟩ h
theorem State.only_modLane (n : Nat) (f : Lane → Lane) (h : t.only s l ks) (hl : .lanes ∈ l) : (t.modLane n f).only s l ks :=
  State.only_trans (s := t) ⟨fun p hp => by cases p <;> first | rfl | exact absurd hl hp, fun _ _ _ => rfl⟩ h
theorem State.only_modLPort (n : Nat) (f : LPort → LPort) (h : t.only s l ks) (hl : .lports ∈ l) : (t.modLPort n f).only s l ks :=
  State.only_trans (s := t) ⟨fun p hp => by cases p <;> first | rfl | exact absurd hl hp, fun _ _ _ => rfl⟩ h
theorem State.only_modPort (n : Nat) (f : PTime → PTime) (h : t.only s l ks) (hl : .ports ∈ l) : (t.modPort n f).only s l ks :=
  State.only_trans (s := t) ⟨fun p hp => by cases p <;> first | rfl | exact absurd hl hp, fun _ _ _ => rfl⟩ h
theorem State.only_modGroup (n : Nat) (f : Group → Group) (h : t.only s l ks) (hl : .groups ∈ l) : (t.modGroup n f).only s l ks :=
  State.only_trans (s := t) ⟨fun p hp => by cases p <;> first | rfl | exact absurd hl hp, fun _ _ _ => rfl⟩ h
theorem State.only_modPll (n : Nat) (f : Pll → Pll) (h : t.only s l ks) (hl : .plls ∈ l) : (t.modPll n f).only s l ks :=
  State.only_trans (s := t) ⟨fun p hp => by cases p <;> first | rfl | exact absurd hl hp, fun _ _ _ => rfl⟩ h
theorem State.only_modClkout (n : Nat) (f : Clkout → Clkout) (h : t.only s l ks) (hl : .clkouts ∈ l) : (t.modClkout n f).only s l ks :=
  State.only_trans (s := t) ⟨fun p hp => by cases p <;> first | rfl | exact absurd hl hp, fun _ _ _ => rfl⟩ h
theorem State.only_modGen (n : Nat) (f : Gen → Gen) (h : t.only s l ks) (hl : .gens ∈ l) : (t.modGen n f).only s l ks :=
  State.only_trans (s := t) ⟨fun p hp => by cases p <;> first | rfl | exact absurd hl hp, fun _ _ _ => rfl⟩ h
theorem State.only_modTdc (n : Nat) (f : Tdc → Tdc) (h : t.only s l ks) (hl : .tdcs ∈ l) : (t.modTdc n f).only s l ks :=
  State.only_trans (s := t) ⟨fun p hp => by cases p <;> first | rfl | exact absurd hl hp, fun _ _ _ => rfl⟩ h
theorem State.only_modEng (n : Nat) (f : Engine → Engine) (h : t.only s l ks) (hl : .engines ∈ l) : (t.modEng n f).only s l ks :=
  State.only_trans (s := t) ⟨fun p hp => by cases p <;> first | rfl | exact absurd hl hp, fun _ _ _ => rfl⟩ h
theorem State.only_modCal (k i : Nat) (f : CalRec → CalRec) (h : t.only s l ks) (hl : .cal ∈ l) : (t.modCal k i f).only s l ks :=
  State.only_trans (s := t) ⟨fun p hp => by cases p <;> first | rfl | exact absurd hl hp, fun _ _ _ => rfl⟩ h
theorem State.only_with_sems (x : Tab Nat) (h : t.only s l ks) (hl : .sems ∈ l) : ({ t with sems := x } : State).only s l ks :=
  State.only_trans (s := t) ⟨fun p hp => by cases p <;> first | rfl | exact absurd hl hp, fun _ _ _ => rfl⟩ h
theorem State.only_with_snap (x : Snap) (h : t.only s l ks) (hl : .snap ∈ l) : ({ t with snap := x } : State).only s l ks :=
  State.only_trans (s := t) ⟨fun p hp => by cases p <;> first | rfl | exact absurd hl hp, fun _ _ _ => rfl⟩ h
theorem State.only_with_lantern (x : Lantern) (h : t.only s l ks) (hl : .lantern ∈ l) : ({ t with lantern := x } : State).only s l ks :=
  State.only_trans (s := t) ⟨fun p hp => by cases p <;> first | rfl | exact absurd hl hp, fun _ _ _ => rfl⟩ h
theorem State.only_with_jtag (x : Jtag) (h : t.only s l ks) (hl : .jtag ∈ l) : ({ t with jtag := x } : State).only s l ks :=
  State.only_trans (s := t) ⟨fun p hp => by cases p <;> first | rfl | exact absurd hl hp, fun _ _ _ => rfl⟩ h
theorem State.only_with_clk (x : ClkSys) (h : t.only s l ks) (hl : .clk ∈ l) : ({ t with clk := x } : State).only s l ks :=
  State.only_trans (s := t) ⟨fun p hp => by cases p <;> first | rfl | exact absurd hl hp, fun _ _ _ => rfl⟩ h
theorem State.only_with_cal (x : Cal) (h : t.only s l ks) (hl : .cal ∈ l) : ({ t with cal := x } : State).only s l ks :=
  State.only_trans (s := t) ⟨fun p hp => by cases p <;> first | rfl | exact absurd hl hp, fun _ _ _ => rfl⟩ h
theorem State.only_with_irq (x : Irq) (h : t.only s l ks) (hl : .irq ∈ l) : ({ t with irq := x } : State).only s l ks :=
  State.only_trans (s := t) ⟨fun p hp => by cases p <;> first | rfl | exact absurd hl hp, fun _ _ _ => rfl⟩ h
theorem State.only_with_fuses (x : Fuses) (h : t.only s l ks) (hl : .fuses ∈ l) : ({ t with fuses := x } : State).only s l ks :=
  State.only_trans (s := t) ⟨fun p hp => by cases p <;> first | rfl | exact absurd hl hp, fun _ _ _ => rfl⟩ h
theorem State.only_with_flash (x : Memory) (h : t.only s l ks) (hl : .flash ∈ l) : ({ t with flash := x } : State).only s l ks :=
  State.only_trans (s := t) ⟨fun p hp => by cases p <;> first | rfl | exact absurd hl hp, fun _ _ _ => rfl⟩ h
theorem State.only_with_pending (x : List Instr) (h : t.only s l ks) (hl : .pending ∈ l) : ({ t with pending := x } : State).only s l ks :=
  State.only_trans (s := t) ⟨fun p hp => by cases p <;> first | rfl | exact absurd hl hp, fun _ _ _ => rfl⟩ h
theorem State.only_with_out (x : List Emit) (h : t.only s l ks) (hl : .out ∈ l) : ({ t with out := x } : State).only s l ks :=
  State.only_trans (s := t) ⟨fun p hp => by cases p <;> first | rfl | exact absurd hl hp, fun _ _ _ => rfl⟩ h
theorem State.only_with_power (x : Power) (h : t.only s l ks) (hl : .power ∈ l) : ({ t with power := x } : State).only s l ks :=
  State.only_trans (s := t) ⟨fun p hp => by cases p <;> first | rfl | exact absurd hl hp, fun _ _ _ => rfl⟩ h
theorem State.only_with_tio (x : Tio) (h : t.only s l ks) (hl : .tio ∈ l) : ({ t with tio := x } : State).only s l ks :=
  State.only_trans (s := t) ⟨fun p hp => by cases p <;> first | rfl | exact absurd hl hp, fun _ _ _ => rfl⟩ h

/-- A command outside the Hearth's chapter: the frame of its effect, whatever that says of the Hearth's counter and timers. -/
theorem State.only_keeping {f : State → State} (h : (f s).only s l ks) : (s.keeping f).only s l ks := by
  refine ⟨fun p hp => ?_, h.2⟩
  cases p <;> first | exact h.1 _ hp | skip
  have hh : (f s).hearth = s.hearth := h.1 .hearth hp
  show s.hearth.keepServo (f s).hearth = s.hearth
  rw [hh]; rfl

end Sys2Proof.Machine
end

