-- ==== Sys2Proof/Laws/Flags.lean ====
section
/-! SUPPORT. What raising a flag and an interrupt event may touch, and what they set. -/

namespace Sys2Proof.Machine

variable {t s : State} {l : List Part} {ks : List Nat}

theorem mem_wakeKeys_eng {n : Nat} (h : n < 12) : O.ENG_STATE.key (n + 1) ∈ wakeKeys := by
  interval_cases n <;> decide

theorem mem_wakeKeys_idle {n : Nat} (h : n < 12) : O.ENG_SLOT_IDLE.key (n + 1) ∈ wakeKeys := by
  interval_cases n <;> decide

theorem State.only_count (o : Obj) (sub n : Nat) (h : t.only s l ks) (hk : o.key sub ∈ ks) : (t.count o sub n).only s l ks := by
  unfold State.count
  dsimp only
  split <;> exact State.only_setObj _ h hk

/-- An engine that leaves WFI touches its state and its count of idle slots (R492). -/
theorem State.only_leaveWfi {n : Nat} (v : Nat) (h : t.only s l ks) (hn : n < 12) (hw : ∀ k ∈ wakeKeys, k ∈ ks) :
    (t.leaveWfi n v).only s l ks :=
  State.only_setObj _ (State.only_count _ _ _ h (hw _ (mem_wakeKeys_idle hn))) (hw _ (mem_wakeKeys_eng hn))

theorem State.only_modSrc (n : Nat) (f : IrqSrc → IrqSrc) (h : t.only s l ks) (hl : .irq ∈ l) : (t.modSrc n f).only s l ks :=
  State.only_modIrq _ h hl

theorem State.only_endHolds (h : t.only s l ks) (hl : .irq ∈ l) : t.endHolds.only s l ks := by
  unfold State.endHolds
  refine State.only_forEach _ (fun u e => ?_) h
  dsimp only
  split
  · exact State.only_modSrc _ _ (State.only_refl u l ks) hl
  · exact State.only_refl u l ks

theorem State.only_presentTo (n : Nat) (h : t.only s l ks) (hl : .irq ∈ l) (hw : ∀ k ∈ wakeKeys, k ∈ ks) :
    (t.presentTo n).only s l ks := by
  unfold State.presentTo
  split
  · exact h
  · dsimp only
    split
    next hc =>
      split
      next hn => exact State.only_leaveWfi _ h hn.1 hw
      next => exact h
    next hc =>
      split
      next hn => exact State.only_leaveWfi _ (State.only_modIrq _ h hl) hn.1 hw
      next => exact State.only_modIrq _ h hl

/-- Presentation touches the interrupt controller and wakes engines, nothing else. -/
theorem State.only_irqPresent (h : t.only s l ks) (hl : .irq ∈ l) (hw : ∀ k ∈ wakeKeys, k ∈ ks) : t.irqPresent.only s l ks :=
  State.only_forEach _ (fun u n => State.only_presentTo n (State.only_refl u l ks) hl hw) (State.only_endHolds h hl)

/-- An event touches the interrupt controller and wakes engines, nothing else. -/
theorem State.only_irqEvent (n : Nat) (h : t.only s l ks) (hl : .irq ∈ l) (hw : ∀ k ∈ wakeKeys, k ∈ ks) :
    (t.irqEvent n).only s l ks := State.only_irqPresent (State.only_modSrc _ _ h hl) hl hw

theorem State.only_lanternLoss (h : t.only s l ks) (hl : ∀ p ∈ flagParts, p ∈ l) (hw : ∀ k ∈ wakeKeys, k ∈ ks) :
    t.lanternLoss.only s l ks := by
  unfold State.lanternLoss
  exact State.only_irqEvent _ (State.only_notify _ (State.only_setObj _ (State.only_count _ _ _ h (hw _ (by decide)))
    (hw _ (by decide))) (hl _ (by decide))) (hl _ (by decide)) hw

/-- A packet for the Lantern touches its FIFO and, when it does not fit, what its loss raises. -/
theorem State.only_lanternPush (ty : Nat) (p : Bytes) (h : t.only s l ks) (hl : ∀ p ∈ flagParts, p ∈ l)
    (hw : ∀ k ∈ wakeKeys, k ∈ ks) : (t.lanternPush ty p).only s l ks := by
  unfold State.lanternPush
  split
  · exact h
  · dsimp only
    split
    · exact State.only_with_lantern _ h (hl _ (by decide))
    · exact State.only_lanternLoss (State.only_with_lantern _ h (hl _ (by decide))) hl hw

theorem State.only_flagPacket (n i sub m : Nat) (h : t.only s l ks) (hl : ∀ p ∈ flagParts, p ∈ l)
    (hw : ∀ k ∈ wakeKeys, k ∈ ks) : (t.flagPacket n i sub m).only s l ks := State.only_lanternPush _ _ h hl hw

/-- An event of a shared source without a flag object advances the counter of free values beside. -/
theorem State.only_sharedEvent (n : Nat) (h : t.only s l ks) (hl : ∀ p ∈ flagParts, p ∈ l) (hf : .free ∈ l)
    (hw : ∀ k ∈ wakeKeys, k ∈ ks) : (t.sharedEvent n).only s l ks := by
  unfold State.sharedEvent
  exact State.only_flagPacket _ _ _ _ (State.only_irqEvent _ (State.only_fresh h hf) (hl _ (by decide)) hw) hl hw

/-- Raising a flag touches its object, the interrupt controller, the NOTIFY bits, the Lantern's FIFO and what an event wakes. -/
theorem State.only_raise {o : Obj} (b sub : Nat) (h : t.only s l ks) (hl : ∀ p ∈ flagParts, p ∈ l)
    (hw : ∀ k ∈ flagKeys o sub, k ∈ ks) : (t.raise o b sub).only s l ks := by
  have hk : o.key sub ∈ ks := hw _ (by simp [flagKeys])
  have hw' : ∀ k ∈ wakeKeys, k ∈ ks := fun k hk => hw k (by simp [flagKeys, hk])
  unfold State.raise
  dsimp only
  split
  · exact State.only_setObj _ h hk
  · exact State.only_flagPacket _ _ _ _ (State.only_irqEvent _ (State.only_notify _ (State.only_setObj _ h hk)
      (hl _ (by decide))) (hl _ (by decide)) hw') hl hw'

theorem State.only_levelRise {o : Obj} (n b sub : Nat) (h : t.only s l ks) (hl : ∀ p ∈ flagParts, p ∈ l)
    (hw : ∀ k ∈ wakeKeys, k ∈ ks) : (t.levelRise n o b sub).only s l ks := by
  unfold State.levelRise
  exact State.only_flagPacket _ _ _ _ (State.only_irqEvent _ (State.only_notify _ h (hl _ (by decide))) (hl _ (by decide)) hw) hl hw

theorem State.only_setStatus {o : Obj} {sub : Nat} (r : Nat) (b : Bool) (c st : Nat) (h : t.only s l ks) (hk : o.key sub ∈ ks) :
    (t.setStatus o sub r b c st).only s l ks := State.only_setObj _ h hk

/-- What a refused abort leaves: the status word and the latched copy. -/
theorem State.only_abortLate {o f : Obj} {sub fsub : Nat} (c b : Nat) (h : t.only s l ks) (hk : o.key sub ∈ ks)
    (hl : ∀ p ∈ flagParts, p ∈ l) (hw : ∀ k ∈ flagKeys f fsub, k ∈ ks) : (t.abortLate o sub c f b fsub).only s l ks :=
  State.only_raise _ _ (State.only_setStatus _ _ _ _ h hk) hl hw

theorem State.irqEvent_only (s : State) (n : Nat) : (s.irqEvent n).only s [.irq] wakeKeys :=
  State.only_irqEvent n (State.only_refl _ _ _) (by decide) (fun _ h => h)

theorem State.raise_only (s : State) (o : Obj) (b sub : Nat) : (s.raise o b sub).only s flagParts (flagKeys o sub) :=
  State.only_raise b sub (State.only_refl _ _ _) (fun _ h => h) (fun _ h => h)

theorem State.sharedEvent_only (s : State) (n : Nat) : (s.sharedEvent n).only s (.free :: flagParts) wakeKeys :=
  State.only_sharedEvent n (State.only_refl _ _ _) (fun _ h => List.mem_cons_of_mem _ h) (by decide) (fun _ h => h)

theorem State.levelRise_only (s : State) (n : Nat) (o : Obj) (b sub : Nat) : (s.levelRise n o b sub).only s flagParts wakeKeys :=
  State.only_levelRise n b sub (State.only_refl _ _ _) (fun _ h => h) (fun _ h => h)

theorem State.lanternPush_only (s : State) (ty : Nat) (p : Bytes) : (s.lanternPush ty p).only s flagParts wakeKeys :=
  State.only_lanternPush ty p (State.only_refl _ _ _) (fun _ h => h) (fun _ h => h)

theorem State.irqPresent_only (s : State) : s.irqPresent.only s [.irq] wakeKeys :=
  State.only_irqPresent (State.only_refl _ _ _) (by decide) (fun _ h => h)

/-! What `irqEvent` leaves alone. -/
@[simp] theorem State.irqEvent_pending (s : State) (n : Nat) : (s.irqEvent n).pending = s.pending := (s.irqEvent_only n).1 .pending (by decide)
@[simp] theorem State.irqEvent_out (s : State) (n : Nat) : (s.irqEvent n).out = s.out := (s.irqEvent_only n).1 .out (by decide)
@[simp] theorem State.irqEvent_free (s : State) (n : Nat) : (s.irqEvent n).free = s.free := (s.irqEvent_only n).1 .free (by decide)
@[simp] theorem State.irqEvent_blobs (s : State) (n : Nat) : (s.irqEvent n).blobs = s.blobs := (s.irqEvent_only n).1 .blobs (by decide)
@[simp] theorem State.irqEvent_power (s : State) (n : Nat) : (s.irqEvent n).power = s.power := (s.irqEvent_only n).1 .power (by decide)
@[simp] theorem State.irqEvent_fuses (s : State) (n : Nat) : (s.irqEvent n).fuses = s.fuses := (s.irqEvent_only n).1 .fuses (by decide)
@[simp] theorem State.irqEvent_hearth (s : State) (n : Nat) : (s.irqEvent n).hearth = s.hearth := (s.irqEvent_only n).1 .hearth (by decide)
@[simp] theorem State.irqEvent_servo (s : State) (n : Nat) : (s.irqEvent n).servo = s.servo := (s.irqEvent_only n).1 .servo (by decide)
@[simp] theorem State.irqEvent_ports (s : State) (n : Nat) : (s.irqEvent n).ports = s.ports := (s.irqEvent_only n).1 .ports (by decide)
@[simp] theorem State.irqEvent_lanes (s : State) (n : Nat) : (s.irqEvent n).lanes = s.lanes := (s.irqEvent_only n).1 .lanes (by decide)
@[simp] theorem State.irqEvent_groups (s : State) (n : Nat) : (s.irqEvent n).groups = s.groups := (s.irqEvent_only n).1 .groups (by decide)
@[simp] theorem State.irqEvent_lports (s : State) (n : Nat) : (s.irqEvent n).lports = s.lports := (s.irqEvent_only n).1 .lports (by decide)
@[simp] theorem State.irqEvent_plls (s : State) (n : Nat) : (s.irqEvent n).plls = s.plls := (s.irqEvent_only n).1 .plls (by decide)
@[simp] theorem State.irqEvent_clkouts (s : State) (n : Nat) : (s.irqEvent n).clkouts = s.clkouts := (s.irqEvent_only n).1 .clkouts (by decide)
@[simp] theorem State.irqEvent_clk (s : State) (n : Nat) : (s.irqEvent n).clk = s.clk := (s.irqEvent_only n).1 .clk (by decide)
@[simp] theorem State.irqEvent_gens (s : State) (n : Nat) : (s.irqEvent n).gens = s.gens := (s.irqEvent_only n).1 .gens (by decide)
@[simp] theorem State.irqEvent_tdcs (s : State) (n : Nat) : (s.irqEvent n).tdcs = s.tdcs := (s.irqEvent_only n).1 .tdcs (by decide)
@[simp] theorem State.irqEvent_tio (s : State) (n : Nat) : (s.irqEvent n).tio = s.tio := (s.irqEvent_only n).1 .tio (by decide)
@[simp] theorem State.irqEvent_cellar (s : State) (n : Nat) : (s.irqEvent n).cellar = s.cellar := (s.irqEvent_only n).1 .cellar (by decide)
@[simp] theorem State.irqEvent_tables (s : State) (n : Nat) : (s.irqEvent n).tables = s.tables := (s.irqEvent_only n).1 .tables (by decide)
@[simp] theorem State.irqEvent_caravan (s : State) (n : Nat) : (s.irqEvent n).caravan = s.caravan := (s.irqEvent_only n).1 .caravan (by decide)
@[simp] theorem State.irqEvent_cal (s : State) (n : Nat) : (s.irqEvent n).cal = s.cal := (s.irqEvent_only n).1 .cal (by decide)
@[simp] theorem State.irqEvent_engines (s : State) (n : Nat) : (s.irqEvent n).engines = s.engines := (s.irqEvent_only n).1 .engines (by decide)
@[simp] theorem State.irqEvent_sems (s : State) (n : Nat) : (s.irqEvent n).sems = s.sems := (s.irqEvent_only n).1 .sems (by decide)
@[simp] theorem State.irqEvent_snap (s : State) (n : Nat) : (s.irqEvent n).snap = s.snap := (s.irqEvent_only n).1 .snap (by decide)
@[simp] theorem State.irqEvent_jtag (s : State) (n : Nat) : (s.irqEvent n).jtag = s.jtag := (s.irqEvent_only n).1 .jtag (by decide)
@[simp] theorem State.irqEvent_hier (s : State) (n : Nat) : (s.irqEvent n).hier = s.hier := (s.irqEvent_only n).1 .hier (by decide)
@[simp] theorem State.irqEvent_twin (s : State) (n : Nat) : (s.irqEvent n).twin = s.twin := (s.irqEvent_only n).1 .twin (by decide)
@[simp] theorem State.irqEvent_flash (s : State) (n : Nat) : (s.irqEvent n).flash = s.flash := (s.irqEvent_only n).1 .flash (by decide)
@[simp] theorem State.irqEvent_pantry (s : State) (n : Nat) : (s.irqEvent n).pantry = s.pantry := (s.irqEvent_only n).1 .pantry (by decide)
@[simp] theorem State.irqEvent_lane (s : State) (n : Nat) (m : Nat) : (s.irqEvent n).lane m = s.lane m := by simp [State.lane]
@[simp] theorem State.irqEvent_lport (s : State) (n : Nat) (m : Nat) : (s.irqEvent n).lport m = s.lport m := by simp [State.lport]
@[simp] theorem State.irqEvent_port (s : State) (n : Nat) (m : Nat) : (s.irqEvent n).port m = s.port m := by simp [State.port]
@[simp] theorem State.irqEvent_group (s : State) (n : Nat) (m : Nat) : (s.irqEvent n).group m = s.group m := by simp [State.group]
@[simp] theorem State.irqEvent_pll (s : State) (n : Nat) (m : Nat) : (s.irqEvent n).pll m = s.pll m := by simp [State.pll]
@[simp] theorem State.irqEvent_clkout (s : State) (n : Nat) (m : Nat) : (s.irqEvent n).clkout m = s.clkout m := by simp [State.clkout]
@[simp] theorem State.irqEvent_gen (s : State) (n : Nat) (m : Nat) : (s.irqEvent n).gen m = s.gen m := by simp [State.gen]
@[simp] theorem State.irqEvent_tdc (s : State) (n : Nat) (m : Nat) : (s.irqEvent n).tdc m = s.tdc m := by simp [State.tdc]
@[simp] theorem State.irqEvent_eng (s : State) (n : Nat) (m : Nat) : (s.irqEvent n).eng m = s.eng m := by simp [State.eng]
@[simp] theorem State.irqEvent_held (s : State) (n : Nat) : (s.irqEvent n).held = s.held := by simp [State.held]
@[simp] theorem State.irqEvent_blob (s : State) (n : Nat) (o' : Obj) (j : Nat) : (s.irqEvent n).blob o' j = s.blob o' j := by simp [State.blob]
@[simp] theorem State.irqEvent_calRec (s : State) (n : Nat) (j m : Nat) : (s.irqEvent n).calRec j m = s.calRec j m := by simp [State.calRec]
theorem State.irqEvent_obj (s : State) (n : Nat) {o' : Obj} {j : Nat} (h : o'.key j ∉ wakeKeys) : (s.irqEvent n).obj o' j = s.obj o' j := (s.irqEvent_only n).2 _ h _

/-! What `raise` leaves alone. -/
@[simp] theorem State.raise_pending (s : State) (o : Obj) (b sub : Nat) : (s.raise o b sub).pending = s.pending := (s.raise_only o b sub).1 .pending (by decide)
@[simp] theorem State.raise_out (s : State) (o : Obj) (b sub : Nat) : (s.raise o b sub).out = s.out := (s.raise_only o b sub).1 .out (by decide)
@[simp] theorem State.raise_free (s : State) (o : Obj) (b sub : Nat) : (s.raise o b sub).free = s.free := (s.raise_only o b sub).1 .free (by decide)
@[simp] theorem State.raise_blobs (s : State) (o : Obj) (b sub : Nat) : (s.raise o b sub).blobs = s.blobs := (s.raise_only o b sub).1 .blobs (by decide)
@[simp] theorem State.raise_power (s : State) (o : Obj) (b sub : Nat) : (s.raise o b sub).power = s.power := (s.raise_only o b sub).1 .power (by decide)
@[simp] theorem State.raise_fuses (s : State) (o : Obj) (b sub : Nat) : (s.raise o b sub).fuses = s.fuses := (s.raise_only o b sub).1 .fuses (by decide)
@[simp] theorem State.raise_hearth (s : State) (o : Obj) (b sub : Nat) : (s.raise o b sub).hearth = s.hearth := (s.raise_only o b sub).1 .hearth (by decide)
@[simp] theorem State.raise_servo (s : State) (o : Obj) (b sub : Nat) : (s.raise o b sub).servo = s.servo := (s.raise_only o b sub).1 .servo (by decide)
@[simp] theorem State.raise_ports (s : State) (o : Obj) (b sub : Nat) : (s.raise o b sub).ports = s.ports := (s.raise_only o b sub).1 .ports (by decide)
@[simp] theorem State.raise_lanes (s : State) (o : Obj) (b sub : Nat) : (s.raise o b sub).lanes = s.lanes := (s.raise_only o b sub).1 .lanes (by decide)
@[simp] theorem State.raise_groups (s : State) (o : Obj) (b sub : Nat) : (s.raise o b sub).groups = s.groups := (s.raise_only o b sub).1 .groups (by decide)
@[simp] theorem State.raise_lports (s : State) (o : Obj) (b sub : Nat) : (s.raise o b sub).lports = s.lports := (s.raise_only o b sub).1 .lports (by decide)
@[simp] theorem State.raise_plls (s : State) (o : Obj) (b sub : Nat) : (s.raise o b sub).plls = s.plls := (s.raise_only o b sub).1 .plls (by decide)
@[simp] theorem State.raise_clkouts (s : State) (o : Obj) (b sub : Nat) : (s.raise o b sub).clkouts = s.clkouts := (s.raise_only o b sub).1 .clkouts (by decide)
@[simp] theorem State.raise_clk (s : State) (o : Obj) (b sub : Nat) : (s.raise o b sub).clk = s.clk := (s.raise_only o b sub).1 .clk (by decide)
@[simp] theorem State.raise_gens (s : State) (o : Obj) (b sub : Nat) : (s.raise o b sub).gens = s.gens := (s.raise_only o b sub).1 .gens (by decide)
@[simp] theorem State.raise_tdcs (s : State) (o : Obj) (b sub : Nat) : (s.raise o b sub).tdcs = s.tdcs := (s.raise_only o b sub).1 .tdcs (by decide)
@[simp] theorem State.raise_tio (s : State) (o : Obj) (b sub : Nat) : (s.raise o b sub).tio = s.tio := (s.raise_only o b sub).1 .tio (by decide)
@[simp] theorem State.raise_cellar (s : State) (o : Obj) (b sub : Nat) : (s.raise o b sub).cellar = s.cellar := (s.raise_only o b sub).1 .cellar (by decide)
@[simp] theorem State.raise_tables (s : State) (o : Obj) (b sub : Nat) : (s.raise o b sub).tables = s.tables := (s.raise_only o b sub).1 .tables (by decide)
@[simp] theorem State.raise_caravan (s : State) (o : Obj) (b sub : Nat) : (s.raise o b sub).caravan = s.caravan := (s.raise_only o b sub).1 .caravan (by decide)
@[simp] theorem State.raise_cal (s : State) (o : Obj) (b sub : Nat) : (s.raise o b sub).cal = s.cal := (s.raise_only o b sub).1 .cal (by decide)
@[simp] theorem State.raise_engines (s : State) (o : Obj) (b sub : Nat) : (s.raise o b sub).engines = s.engines := (s.raise_only o b sub).1 .engines (by decide)
@[simp] theorem State.raise_sems (s : State) (o : Obj) (b sub : Nat) : (s.raise o b sub).sems = s.sems := (s.raise_only o b sub).1 .sems (by decide)
@[simp] theorem State.raise_snap (s : State) (o : Obj) (b sub : Nat) : (s.raise o b sub).snap = s.snap := (s.raise_only o b sub).1 .snap (by decide)
@[simp] theorem State.raise_jtag (s : State) (o : Obj) (b sub : Nat) : (s.raise o b sub).jtag = s.jtag := (s.raise_only o b sub).1 .jtag (by decide)
@[simp] theorem State.raise_hier (s : State) (o : Obj) (b sub : Nat) : (s.raise o b sub).hier = s.hier := (s.raise_only o b sub).1 .hier (by decide)
@[simp] theorem State.raise_twin (s : State) (o : Obj) (b sub : Nat) : (s.raise o b sub).twin = s.twin := (s.raise_only o b sub).1 .twin (by decide)
@[simp] theorem State.raise_flash (s : State) (o : Obj) (b sub : Nat) : (s.raise o b sub).flash = s.flash := (s.raise_only o b sub).1 .flash (by decide)
@[simp] theorem State.raise_pantry (s : State) (o : Obj) (b sub : Nat) : (s.raise o b sub).pantry = s.pantry := (s.raise_only o b sub).1 .pantry (by decide)
@[simp] theorem State.raise_lane (s : State) (o : Obj) (b sub : Nat) (m : Nat) : (s.raise o b sub).lane m = s.lane m := by simp [State.lane]
@[simp] theorem State.raise_lport (s : State) (o : Obj) (b sub : Nat) (m : Nat) : (s.raise o b sub).lport m = s.lport m := by simp [State.lport]
@[simp] theorem State.raise_port (s : State) (o : Obj) (b sub : Nat) (m : Nat) : (s.raise o b sub).port m = s.port m := by simp [State.port]
@[simp] theorem State.raise_group (s : State) (o : Obj) (b sub : Nat) (m : Nat) : (s.raise o b sub).group m = s.group m := by simp [State.group]
@[simp] theorem State.raise_pll (s : State) (o : Obj) (b sub : Nat) (m : Nat) : (s.raise o b sub).pll m = s.pll m := by simp [State.pll]
@[simp] theorem State.raise_clkout (s : State) (o : Obj) (b sub : Nat) (m : Nat) : (s.raise o b sub).clkout m = s.clkout m := by simp [State.clkout]
@[simp] theorem State.raise_gen (s : State) (o : Obj) (b sub : Nat) (m : Nat) : (s.raise o b sub).gen m = s.gen m := by simp [State.gen]
@[simp] theorem State.raise_tdc (s : State) (o : Obj) (b sub : Nat) (m : Nat) : (s.raise o b sub).tdc m = s.tdc m := by simp [State.tdc]
@[simp] theorem State.raise_eng (s : State) (o : Obj) (b sub : Nat) (m : Nat) : (s.raise o b sub).eng m = s.eng m := by simp [State.eng]
@[simp] theorem State.raise_held (s : State) (o : Obj) (b sub : Nat) : (s.raise o b sub).held = s.held := by simp [State.held]
@[simp] theorem State.raise_blob (s : State) (o : Obj) (b sub : Nat) (o' : Obj) (j : Nat) : (s.raise o b sub).blob o' j = s.blob o' j := by simp [State.blob]
@[simp] theorem State.raise_calRec (s : State) (o : Obj) (b sub : Nat) (j m : Nat) : (s.raise o b sub).calRec j m = s.calRec j m := by simp [State.calRec]
theorem State.raise_obj (s : State) (o : Obj) (b sub : Nat) {o' : Obj} {j : Nat} (h : o'.key j ∉ flagKeys o sub) : (s.raise o b sub).obj o' j = s.obj o' j := (s.raise_only o b sub).2 _ h _

/-! What `sharedEvent` leaves alone. -/
@[simp] theorem State.sharedEvent_pending (s : State) (n : Nat) : (s.sharedEvent n).pending = s.pending := (s.sharedEvent_only n).1 .pending (by decide)
@[simp] theorem State.sharedEvent_out (s : State) (n : Nat) : (s.sharedEvent n).out = s.out := (s.sharedEvent_only n).1 .out (by decide)
@[simp] theorem State.sharedEvent_blobs (s : State) (n : Nat) : (s.sharedEvent n).blobs = s.blobs := (s.sharedEvent_only n).1 .blobs (by decide)
@[simp] theorem State.sharedEvent_power (s : State) (n : Nat) : (s.sharedEvent n).power = s.power := (s.sharedEvent_only n).1 .power (by decide)
@[simp] theorem State.sharedEvent_fuses (s : State) (n : Nat) : (s.sharedEvent n).fuses = s.fuses := (s.sharedEvent_only n).1 .fuses (by decide)
@[simp] theorem State.sharedEvent_hearth (s : State) (n : Nat) : (s.sharedEvent n).hearth = s.hearth := (s.sharedEvent_only n).1 .hearth (by decide)
@[simp] theorem State.sharedEvent_servo (s : State) (n : Nat) : (s.sharedEvent n).servo = s.servo := (s.sharedEvent_only n).1 .servo (by decide)
@[simp] theorem State.sharedEvent_ports (s : State) (n : Nat) : (s.sharedEvent n).ports = s.ports := (s.sharedEvent_only n).1 .ports (by decide)
@[simp] theorem State.sharedEvent_lanes (s : State) (n : Nat) : (s.sharedEvent n).lanes = s.lanes := (s.sharedEvent_only n).1 .lanes (by decide)
@[simp] theorem State.sharedEvent_groups (s : State) (n : Nat) : (s.sharedEvent n).groups = s.groups := (s.sharedEvent_only n).1 .groups (by decide)
@[simp] theorem State.sharedEvent_lports (s : State) (n : Nat) : (s.sharedEvent n).lports = s.lports := (s.sharedEvent_only n).1 .lports (by decide)
@[simp] theorem State.sharedEvent_plls (s : State) (n : Nat) : (s.sharedEvent n).plls = s.plls := (s.sharedEvent_only n).1 .plls (by decide)
@[simp] theorem State.sharedEvent_clkouts (s : State) (n : Nat) : (s.sharedEvent n).clkouts = s.clkouts := (s.sharedEvent_only n).1 .clkouts (by decide)
@[simp] theorem State.sharedEvent_clk (s : State) (n : Nat) : (s.sharedEvent n).clk = s.clk := (s.sharedEvent_only n).1 .clk (by decide)
@[simp] theorem State.sharedEvent_gens (s : State) (n : Nat) : (s.sharedEvent n).gens = s.gens := (s.sharedEvent_only n).1 .gens (by decide)
@[simp] theorem State.sharedEvent_tdcs (s : State) (n : Nat) : (s.sharedEvent n).tdcs = s.tdcs := (s.sharedEvent_only n).1 .tdcs (by decide)
@[simp] theorem State.sharedEvent_tio (s : State) (n : Nat) : (s.sharedEvent n).tio = s.tio := (s.sharedEvent_only n).1 .tio (by decide)
@[simp] theorem State.sharedEvent_cellar (s : State) (n : Nat) : (s.sharedEvent n).cellar = s.cellar := (s.sharedEvent_only n).1 .cellar (by decide)
@[simp] theorem State.sharedEvent_tables (s : State) (n : Nat) : (s.sharedEvent n).tables = s.tables := (s.sharedEvent_only n).1 .tables (by decide)
@[simp] theorem State.sharedEvent_caravan (s : State) (n : Nat) : (s.sharedEvent n).caravan = s.caravan := (s.sharedEvent_only n).1 .caravan (by decide)
@[simp] theorem State.sharedEvent_cal (s : State) (n : Nat) : (s.sharedEvent n).cal = s.cal := (s.sharedEvent_only n).1 .cal (by decide)
@[simp] theorem State.sharedEvent_engines (s : State) (n : Nat) : (s.sharedEvent n).engines = s.engines := (s.sharedEvent_only n).1 .engines (by decide)
@[simp] theorem State.sharedEvent_sems (s : State) (n : Nat) : (s.sharedEvent n).sems = s.sems := (s.sharedEvent_only n).1 .sems (by decide)
@[simp] theorem State.sharedEvent_snap (s : State) (n : Nat) : (s.sharedEvent n).snap = s.snap := (s.sharedEvent_only n).1 .snap (by decide)
@[simp] theorem State.sharedEvent_jtag (s : State) (n : Nat) : (s.sharedEvent n).jtag = s.jtag := (s.sharedEvent_only n).1 .jtag (by decide)
@[simp] theorem State.sharedEvent_hier (s : State) (n : Nat) : (s.sharedEvent n).hier = s.hier := (s.sharedEvent_only n).1 .hier (by decide)
@[simp] theorem State.sharedEvent_twin (s : State) (n : Nat) : (s.sharedEvent n).twin = s.twin := (s.sharedEvent_only n).1 .twin (by decide)
@[simp] theorem State.sharedEvent_flash (s : State) (n : Nat) : (s.sharedEvent n).flash = s.flash := (s.sharedEvent_only n).1 .flash (by decide)
@[simp] theorem State.sharedEvent_pantry (s : State) (n : Nat) : (s.sharedEvent n).pantry = s.pantry := (s.sharedEvent_only n).1 .pantry (by decide)
@[simp] theorem State.sharedEvent_lane (s : State) (n : Nat) (m : Nat) : (s.sharedEvent n).lane m = s.lane m := by simp [State.lane]
@[simp] theorem State.sharedEvent_lport (s : State) (n : Nat) (m : Nat) : (s.sharedEvent n).lport m = s.lport m := by simp [State.lport]
@[simp] theorem State.sharedEvent_port (s : State) (n : Nat) (m : Nat) : (s.sharedEvent n).port m = s.port m := by simp [State.port]
@[simp] theorem State.sharedEvent_group (s : State) (n : Nat) (m : Nat) : (s.sharedEvent n).group m = s.group m := by simp [State.group]
@[simp] theorem State.sharedEvent_pll (s : State) (n : Nat) (m : Nat) : (s.sharedEvent n).pll m = s.pll m := by simp [State.pll]
@[simp] theorem State.sharedEvent_clkout (s : State) (n : Nat) (m : Nat) : (s.sharedEvent n).clkout m = s.clkout m := by simp [State.clkout]
@[simp] theorem State.sharedEvent_gen (s : State) (n : Nat) (m : Nat) : (s.sharedEvent n).gen m = s.gen m := by simp [State.gen]
@[simp] theorem State.sharedEvent_tdc (s : State) (n : Nat) (m : Nat) : (s.sharedEvent n).tdc m = s.tdc m := by simp [State.tdc]
@[simp] theorem State.sharedEvent_eng (s : State) (n : Nat) (m : Nat) : (s.sharedEvent n).eng m = s.eng m := by simp [State.eng]
@[simp] theorem State.sharedEvent_held (s : State) (n : Nat) : (s.sharedEvent n).held = s.held := by simp [State.held]
@[simp] theorem State.sharedEvent_blob (s : State) (n : Nat) (o' : Obj) (j : Nat) : (s.sharedEvent n).blob o' j = s.blob o' j := by simp [State.blob]
@[simp] theorem State.sharedEvent_calRec (s : State) (n : Nat) (j m : Nat) : (s.sharedEvent n).calRec j m = s.calRec j m := by simp [State.calRec]
theorem State.sharedEvent_obj (s : State) (n : Nat) {o' : Obj} {j : Nat} (h : o'.key j ∉ wakeKeys) : (s.sharedEvent n).obj o' j = s.obj o' j := (s.sharedEvent_only n).2 _ h _

/-! What `levelRise` leaves alone. -/
@[simp] theorem State.levelRise_pending (s : State) (n : Nat) (o : Obj) (b sub : Nat) : (s.levelRise n o b sub).pending = s.pending := (s.levelRise_only n o b sub).1 .pending (by decide)
@[simp] theorem State.levelRise_out (s : State) (n : Nat) (o : Obj) (b sub : Nat) : (s.levelRise n o b sub).out = s.out := (s.levelRise_only n o b sub).1 .out (by decide)
@[simp] theorem State.levelRise_free (s : State) (n : Nat) (o : Obj) (b sub : Nat) : (s.levelRise n o b sub).free = s.free := (s.levelRise_only n o b sub).1 .free (by decide)
@[simp] theorem State.levelRise_blobs (s : State) (n : Nat) (o : Obj) (b sub : Nat) : (s.levelRise n o b sub).blobs = s.blobs := (s.levelRise_only n o b sub).1 .blobs (by decide)
@[simp] theorem State.levelRise_power (s : State) (n : Nat) (o : Obj) (b sub : Nat) : (s.levelRise n o b sub).power = s.power := (s.levelRise_only n o b sub).1 .power (by decide)
@[simp] theorem State.levelRise_fuses (s : State) (n : Nat) (o : Obj) (b sub : Nat) : (s.levelRise n o b sub).fuses = s.fuses := (s.levelRise_only n o b sub).1 .fuses (by decide)
@[simp] theorem State.levelRise_hearth (s : State) (n : Nat) (o : Obj) (b sub : Nat) : (s.levelRise n o b sub).hearth = s.hearth := (s.levelRise_only n o b sub).1 .hearth (by decide)
@[simp] theorem State.levelRise_servo (s : State) (n : Nat) (o : Obj) (b sub : Nat) : (s.levelRise n o b sub).servo = s.servo := (s.levelRise_only n o b sub).1 .servo (by decide)
@[simp] theorem State.levelRise_ports (s : State) (n : Nat) (o : Obj) (b sub : Nat) : (s.levelRise n o b sub).ports = s.ports := (s.levelRise_only n o b sub).1 .ports (by decide)
@[simp] theorem State.levelRise_lanes (s : State) (n : Nat) (o : Obj) (b sub : Nat) : (s.levelRise n o b sub).lanes = s.lanes := (s.levelRise_only n o b sub).1 .lanes (by decide)
@[simp] theorem State.levelRise_groups (s : State) (n : Nat) (o : Obj) (b sub : Nat) : (s.levelRise n o b sub).groups = s.groups := (s.levelRise_only n o b sub).1 .groups (by decide)
@[simp] theorem State.levelRise_lports (s : State) (n : Nat) (o : Obj) (b sub : Nat) : (s.levelRise n o b sub).lports = s.lports := (s.levelRise_only n o b sub).1 .lports (by decide)
@[simp] theorem State.levelRise_plls (s : State) (n : Nat) (o : Obj) (b sub : Nat) : (s.levelRise n o b sub).plls = s.plls := (s.levelRise_only n o b sub).1 .plls (by decide)
@[simp] theorem State.levelRise_clkouts (s : State) (n : Nat) (o : Obj) (b sub : Nat) : (s.levelRise n o b sub).clkouts = s.clkouts := (s.levelRise_only n o b sub).1 .clkouts (by decide)
@[simp] theorem State.levelRise_clk (s : State) (n : Nat) (o : Obj) (b sub : Nat) : (s.levelRise n o b sub).clk = s.clk := (s.levelRise_only n o b sub).1 .clk (by decide)
@[simp] theorem State.levelRise_gens (s : State) (n : Nat) (o : Obj) (b sub : Nat) : (s.levelRise n o b sub).gens = s.gens := (s.levelRise_only n o b sub).1 .gens (by decide)
@[simp] theorem State.levelRise_tdcs (s : State) (n : Nat) (o : Obj) (b sub : Nat) : (s.levelRise n o b sub).tdcs = s.tdcs := (s.levelRise_only n o b sub).1 .tdcs (by decide)
@[simp] theorem State.levelRise_tio (s : State) (n : Nat) (o : Obj) (b sub : Nat) : (s.levelRise n o b sub).tio = s.tio := (s.levelRise_only n o b sub).1 .tio (by decide)
@[simp] theorem State.levelRise_cellar (s : State) (n : Nat) (o : Obj) (b sub : Nat) : (s.levelRise n o b sub).cellar = s.cellar := (s.levelRise_only n o b sub).1 .cellar (by decide)
@[simp] theorem State.levelRise_tables (s : State) (n : Nat) (o : Obj) (b sub : Nat) : (s.levelRise n o b sub).tables = s.tables := (s.levelRise_only n o b sub).1 .tables (by decide)
@[simp] theorem State.levelRise_caravan (s : State) (n : Nat) (o : Obj) (b sub : Nat) : (s.levelRise n o b sub).caravan = s.caravan := (s.levelRise_only n o b sub).1 .caravan (by decide)
@[simp] theorem State.levelRise_cal (s : State) (n : Nat) (o : Obj) (b sub : Nat) : (s.levelRise n o b sub).cal = s.cal := (s.levelRise_only n o b sub).1 .cal (by decide)
@[simp] theorem State.levelRise_engines (s : State) (n : Nat) (o : Obj) (b sub : Nat) : (s.levelRise n o b sub).engines = s.engines := (s.levelRise_only n o b sub).1 .engines (by decide)
@[simp] theorem State.levelRise_sems (s : State) (n : Nat) (o : Obj) (b sub : Nat) : (s.levelRise n o b sub).sems = s.sems := (s.levelRise_only n o b sub).1 .sems (by decide)
@[simp] theorem State.levelRise_snap (s : State) (n : Nat) (o : Obj) (b sub : Nat) : (s.levelRise n o b sub).snap = s.snap := (s.levelRise_only n o b sub).1 .snap (by decide)
@[simp] theorem State.levelRise_jtag (s : State) (n : Nat) (o : Obj) (b sub : Nat) : (s.levelRise n o b sub).jtag = s.jtag := (s.levelRise_only n o b sub).1 .jtag (by decide)
@[simp] theorem State.levelRise_hier (s : State) (n : Nat) (o : Obj) (b sub : Nat) : (s.levelRise n o b sub).hier = s.hier := (s.levelRise_only n o b sub).1 .hier (by decide)
@[simp] theorem State.levelRise_twin (s : State) (n : Nat) (o : Obj) (b sub : Nat) : (s.levelRise n o b sub).twin = s.twin := (s.levelRise_only n o b sub).1 .twin (by decide)
@[simp] theorem State.levelRise_flash (s : State) (n : Nat) (o : Obj) (b sub : Nat) : (s.levelRise n o b sub).flash = s.flash := (s.levelRise_only n o b sub).1 .flash (by decide)
@[simp] theorem State.levelRise_pantry (s : State) (n : Nat) (o : Obj) (b sub : Nat) : (s.levelRise n o b sub).pantry = s.pantry := (s.levelRise_only n o b sub).1 .pantry (by decide)
@[simp] theorem State.levelRise_lane (s : State) (n : Nat) (o : Obj) (b sub : Nat) (m : Nat) : (s.levelRise n o b sub).lane m = s.lane m := by simp [State.lane]
@[simp] theorem State.levelRise_lport (s : State) (n : Nat) (o : Obj) (b sub : Nat) (m : Nat) : (s.levelRise n o b sub).lport m = s.lport m := by simp [State.lport]
@[simp] theorem State.levelRise_port (s : State) (n : Nat) (o : Obj) (b sub : Nat) (m : Nat) : (s.levelRise n o b sub).port m = s.port m := by simp [State.port]
@[simp] theorem State.levelRise_group (s : State) (n : Nat) (o : Obj) (b sub : Nat) (m : Nat) : (s.levelRise n o b sub).group m = s.group m := by simp [State.group]
@[simp] theorem State.levelRise_pll (s : State) (n : Nat) (o : Obj) (b sub : Nat) (m : Nat) : (s.levelRise n o b sub).pll m = s.pll m := by simp [State.pll]
@[simp] theorem State.levelRise_clkout (s : State) (n : Nat) (o : Obj) (b sub : Nat) (m : Nat) : (s.levelRise n o b sub).clkout m = s.clkout m := by simp [State.clkout]
@[simp] theorem State.levelRise_gen (s : State) (n : Nat) (o : Obj) (b sub : Nat) (m : Nat) : (s.levelRise n o b sub).gen m = s.gen m := by simp [State.gen]
@[simp] theorem State.levelRise_tdc (s : State) (n : Nat) (o : Obj) (b sub : Nat) (m : Nat) : (s.levelRise n o b sub).tdc m = s.tdc m := by simp [State.tdc]
@[simp] theorem State.levelRise_eng (s : State) (n : Nat) (o : Obj) (b sub : Nat) (m : Nat) : (s.levelRise n o b sub).eng m = s.eng m := by simp [State.eng]
@[simp] theorem State.levelRise_held (s : State) (n : Nat) (o : Obj) (b sub : Nat) : (s.levelRise n o b sub).held = s.held := by simp [State.held]
@[simp] theorem State.levelRise_blob (s : State) (n : Nat) (o : Obj) (b sub : Nat) (o' : Obj) (j : Nat) : (s.levelRise n o b sub).blob o' j = s.blob o' j := by simp [State.blob]
@[simp] theorem State.levelRise_calRec (s : State) (n : Nat) (o : Obj) (b sub : Nat) (j m : Nat) : (s.levelRise n o b sub).calRec j m = s.calRec j m := by simp [State.calRec]
theorem State.levelRise_obj (s : State) (n : Nat) (o : Obj) (b sub : Nat) {o' : Obj} {j : Nat} (h : o'.key j ∉ wakeKeys) : (s.levelRise n o b sub).obj o' j = s.obj o' j := (s.levelRise_only n o b sub).2 _ h _

/-! What `lanternPush` leaves alone. -/
@[simp] theorem State.lanternPush_pending (s : State) (ty : Nat) (p : Bytes) : (s.lanternPush ty p).pending = s.pending := (s.lanternPush_only ty p).1 .pending (by decide)
@[simp] theorem State.lanternPush_out (s : State) (ty : Nat) (p : Bytes) : (s.lanternPush ty p).out = s.out := (s.lanternPush_only ty p).1 .out (by decide)
@[simp] theorem State.lanternPush_free (s : State) (ty : Nat) (p : Bytes) : (s.lanternPush ty p).free = s.free := (s.lanternPush_only ty p).1 .free (by decide)
@[simp] theorem State.lanternPush_blobs (s : State) (ty : Nat) (p : Bytes) : (s.lanternPush ty p).blobs = s.blobs := (s.lanternPush_only ty p).1 .blobs (by decide)
@[simp] theorem State.lanternPush_power (s : State) (ty : Nat) (p : Bytes) : (s.lanternPush ty p).power = s.power := (s.lanternPush_only ty p).1 .power (by decide)
@[simp] theorem State.lanternPush_fuses (s : State) (ty : Nat) (p : Bytes) : (s.lanternPush ty p).fuses = s.fuses := (s.lanternPush_only ty p).1 .fuses (by decide)
@[simp] theorem State.lanternPush_hearth (s : State) (ty : Nat) (p : Bytes) : (s.lanternPush ty p).hearth = s.hearth := (s.lanternPush_only ty p).1 .hearth (by decide)
@[simp] theorem State.lanternPush_servo (s : State) (ty : Nat) (p : Bytes) : (s.lanternPush ty p).servo = s.servo := (s.lanternPush_only ty p).1 .servo (by decide)
@[simp] theorem State.lanternPush_ports (s : State) (ty : Nat) (p : Bytes) : (s.lanternPush ty p).ports = s.ports := (s.lanternPush_only ty p).1 .ports (by decide)
@[simp] theorem State.lanternPush_lanes (s : State) (ty : Nat) (p : Bytes) : (s.lanternPush ty p).lanes = s.lanes := (s.lanternPush_only ty p).1 .lanes (by decide)
@[simp] theorem State.lanternPush_groups (s : State) (ty : Nat) (p : Bytes) : (s.lanternPush ty p).groups = s.groups := (s.lanternPush_only ty p).1 .groups (by decide)
@[simp] theorem State.lanternPush_lports (s : State) (ty : Nat) (p : Bytes) : (s.lanternPush ty p).lports = s.lports := (s.lanternPush_only ty p).1 .lports (by decide)
@[simp] theorem State.lanternPush_plls (s : State) (ty : Nat) (p : Bytes) : (s.lanternPush ty p).plls = s.plls := (s.lanternPush_only ty p).1 .plls (by decide)
@[simp] theorem State.lanternPush_clkouts (s : State) (ty : Nat) (p : Bytes) : (s.lanternPush ty p).clkouts = s.clkouts := (s.lanternPush_only ty p).1 .clkouts (by decide)
@[simp] theorem State.lanternPush_clk (s : State) (ty : Nat) (p : Bytes) : (s.lanternPush ty p).clk = s.clk := (s.lanternPush_only ty p).1 .clk (by decide)
@[simp] theorem State.lanternPush_gens (s : State) (ty : Nat) (p : Bytes) : (s.lanternPush ty p).gens = s.gens := (s.lanternPush_only ty p).1 .gens (by decide)
@[simp] theorem State.lanternPush_tdcs (s : State) (ty : Nat) (p : Bytes) : (s.lanternPush ty p).tdcs = s.tdcs := (s.lanternPush_only ty p).1 .tdcs (by decide)
@[simp] theorem State.lanternPush_tio (s : State) (ty : Nat) (p : Bytes) : (s.lanternPush ty p).tio = s.tio := (s.lanternPush_only ty p).1 .tio (by decide)
@[simp] theorem State.lanternPush_cellar (s : State) (ty : Nat) (p : Bytes) : (s.lanternPush ty p).cellar = s.cellar := (s.lanternPush_only ty p).1 .cellar (by decide)
@[simp] theorem State.lanternPush_tables (s : State) (ty : Nat) (p : Bytes) : (s.lanternPush ty p).tables = s.tables := (s.lanternPush_only ty p).1 .tables (by decide)
@[simp] theorem State.lanternPush_caravan (s : State) (ty : Nat) (p : Bytes) : (s.lanternPush ty p).caravan = s.caravan := (s.lanternPush_only ty p).1 .caravan (by decide)
@[simp] theorem State.lanternPush_cal (s : State) (ty : Nat) (p : Bytes) : (s.lanternPush ty p).cal = s.cal := (s.lanternPush_only ty p).1 .cal (by decide)
@[simp] theorem State.lanternPush_engines (s : State) (ty : Nat) (p : Bytes) : (s.lanternPush ty p).engines = s.engines := (s.lanternPush_only ty p).1 .engines (by decide)
@[simp] theorem State.lanternPush_sems (s : State) (ty : Nat) (p : Bytes) : (s.lanternPush ty p).sems = s.sems := (s.lanternPush_only ty p).1 .sems (by decide)
@[simp] theorem State.lanternPush_snap (s : State) (ty : Nat) (p : Bytes) : (s.lanternPush ty p).snap = s.snap := (s.lanternPush_only ty p).1 .snap (by decide)
@[simp] theorem State.lanternPush_jtag (s : State) (ty : Nat) (p : Bytes) : (s.lanternPush ty p).jtag = s.jtag := (s.lanternPush_only ty p).1 .jtag (by decide)
@[simp] theorem State.lanternPush_hier (s : State) (ty : Nat) (p : Bytes) : (s.lanternPush ty p).hier = s.hier := (s.lanternPush_only ty p).1 .hier (by decide)
@[simp] theorem State.lanternPush_twin (s : State) (ty : Nat) (p : Bytes) : (s.lanternPush ty p).twin = s.twin := (s.lanternPush_only ty p).1 .twin (by decide)
@[simp] theorem State.lanternPush_flash (s : State) (ty : Nat) (p : Bytes) : (s.lanternPush ty p).flash = s.flash := (s.lanternPush_only ty p).1 .flash (by decide)
@[simp] theorem State.lanternPush_pantry (s : State) (ty : Nat) (p : Bytes) : (s.lanternPush ty p).pantry = s.pantry := (s.lanternPush_only ty p).1 .pantry (by decide)
@[simp] theorem State.lanternPush_lane (s : State) (ty : Nat) (p : Bytes) (m : Nat) : (s.lanternPush ty p).lane m = s.lane m := by simp [State.lane]
@[simp] theorem State.lanternPush_lport (s : State) (ty : Nat) (p : Bytes) (m : Nat) : (s.lanternPush ty p).lport m = s.lport m := by simp [State.lport]
@[simp] theorem State.lanternPush_port (s : State) (ty : Nat) (p : Bytes) (m : Nat) : (s.lanternPush ty p).port m = s.port m := by simp [State.port]
@[simp] theorem State.lanternPush_group (s : State) (ty : Nat) (p : Bytes) (m : Nat) : (s.lanternPush ty p).group m = s.group m := by simp [State.group]
@[simp] theorem State.lanternPush_pll (s : State) (ty : Nat) (p : Bytes) (m : Nat) : (s.lanternPush ty p).pll m = s.pll m := by simp [State.pll]
@[simp] theorem State.lanternPush_clkout (s : State) (ty : Nat) (p : Bytes) (m : Nat) : (s.lanternPush ty p).clkout m = s.clkout m := by simp [State.clkout]
@[simp] theorem State.lanternPush_gen (s : State) (ty : Nat) (p : Bytes) (m : Nat) : (s.lanternPush ty p).gen m = s.gen m := by simp [State.gen]
@[simp] theorem State.lanternPush_tdc (s : State) (ty : Nat) (p : Bytes) (m : Nat) : (s.lanternPush ty p).tdc m = s.tdc m := by simp [State.tdc]
@[simp] theorem State.lanternPush_eng (s : State) (ty : Nat) (p : Bytes) (m : Nat) : (s.lanternPush ty p).eng m = s.eng m := by simp [State.eng]
@[simp] theorem State.lanternPush_held (s : State) (ty : Nat) (p : Bytes) : (s.lanternPush ty p).held = s.held := by simp [State.held]
@[simp] theorem State.lanternPush_blob (s : State) (ty : Nat) (p : Bytes) (o' : Obj) (j : Nat) : (s.lanternPush ty p).blob o' j = s.blob o' j := by simp [State.blob]
@[simp] theorem State.lanternPush_calRec (s : State) (ty : Nat) (p : Bytes) (j m : Nat) : (s.lanternPush ty p).calRec j m = s.calRec j m := by simp [State.calRec]
theorem State.lanternPush_obj (s : State) (ty : Nat) (p : Bytes) {o' : Obj} {j : Nat} (h : o'.key j ∉ wakeKeys) : (s.lanternPush ty p).obj o' j = s.obj o' j := (s.lanternPush_only ty p).2 _ h _

/-! What `irqPresent` leaves alone. -/
@[simp] theorem State.irqPresent_pending (s : State) : (s.irqPresent).pending = s.pending := (s.irqPresent_only).1 .pending (by decide)
@[simp] theorem State.irqPresent_out (s : State) : (s.irqPresent).out = s.out := (s.irqPresent_only).1 .out (by decide)
@[simp] theorem State.irqPresent_free (s : State) : (s.irqPresent).free = s.free := (s.irqPresent_only).1 .free (by decide)
@[simp] theorem State.irqPresent_blobs (s : State) : (s.irqPresent).blobs = s.blobs := (s.irqPresent_only).1 .blobs (by decide)
@[simp] theorem State.irqPresent_power (s : State) : (s.irqPresent).power = s.power := (s.irqPresent_only).1 .power (by decide)
@[simp] theorem State.irqPresent_fuses (s : State) : (s.irqPresent).fuses = s.fuses := (s.irqPresent_only).1 .fuses (by decide)
@[simp] theorem State.irqPresent_hearth (s : State) : (s.irqPresent).hearth = s.hearth := (s.irqPresent_only).1 .hearth (by decide)
@[simp] theorem State.irqPresent_servo (s : State) : (s.irqPresent).servo = s.servo := (s.irqPresent_only).1 .servo (by decide)
@[simp] theorem State.irqPresent_ports (s : State) : (s.irqPresent).ports = s.ports := (s.irqPresent_only).1 .ports (by decide)
@[simp] theorem State.irqPresent_lanes (s : State) : (s.irqPresent).lanes = s.lanes := (s.irqPresent_only).1 .lanes (by decide)
@[simp] theorem State.irqPresent_groups (s : State) : (s.irqPresent).groups = s.groups := (s.irqPresent_only).1 .groups (by decide)
@[simp] theorem State.irqPresent_lports (s : State) : (s.irqPresent).lports = s.lports := (s.irqPresent_only).1 .lports (by decide)
@[simp] theorem State.irqPresent_plls (s : State) : (s.irqPresent).plls = s.plls := (s.irqPresent_only).1 .plls (by decide)
@[simp] theorem State.irqPresent_clkouts (s : State) : (s.irqPresent).clkouts = s.clkouts := (s.irqPresent_only).1 .clkouts (by decide)
@[simp] theorem State.irqPresent_clk (s : State) : (s.irqPresent).clk = s.clk := (s.irqPresent_only).1 .clk (by decide)
@[simp] theorem State.irqPresent_gens (s : State) : (s.irqPresent).gens = s.gens := (s.irqPresent_only).1 .gens (by decide)
@[simp] theorem State.irqPresent_tdcs (s : State) : (s.irqPresent).tdcs = s.tdcs := (s.irqPresent_only).1 .tdcs (by decide)
@[simp] theorem State.irqPresent_tio (s : State) : (s.irqPresent).tio = s.tio := (s.irqPresent_only).1 .tio (by decide)
@[simp] theorem State.irqPresent_cellar (s : State) : (s.irqPresent).cellar = s.cellar := (s.irqPresent_only).1 .cellar (by decide)
@[simp] theorem State.irqPresent_tables (s : State) : (s.irqPresent).tables = s.tables := (s.irqPresent_only).1 .tables (by decide)
@[simp] theorem State.irqPresent_caravan (s : State) : (s.irqPresent).caravan = s.caravan := (s.irqPresent_only).1 .caravan (by decide)
@[simp] theorem State.irqPresent_cal (s : State) : (s.irqPresent).cal = s.cal := (s.irqPresent_only).1 .cal (by decide)
@[simp] theorem State.irqPresent_engines (s : State) : (s.irqPresent).engines = s.engines := (s.irqPresent_only).1 .engines (by decide)
@[simp] theorem State.irqPresent_sems (s : State) : (s.irqPresent).sems = s.sems := (s.irqPresent_only).1 .sems (by decide)
@[simp] theorem State.irqPresent_snap (s : State) : (s.irqPresent).snap = s.snap := (s.irqPresent_only).1 .snap (by decide)
@[simp] theorem State.irqPresent_jtag (s : State) : (s.irqPresent).jtag = s.jtag := (s.irqPresent_only).1 .jtag (by decide)
@[simp] theorem State.irqPresent_hier (s : State) : (s.irqPresent).hier = s.hier := (s.irqPresent_only).1 .hier (by decide)
@[simp] theorem State.irqPresent_twin (s : State) : (s.irqPresent).twin = s.twin := (s.irqPresent_only).1 .twin (by decide)
@[simp] theorem State.irqPresent_flash (s : State) : (s.irqPresent).flash = s.flash := (s.irqPresent_only).1 .flash (by decide)
@[simp] theorem State.irqPresent_pantry (s : State) : (s.irqPresent).pantry = s.pantry := (s.irqPresent_only).1 .pantry (by decide)
@[simp] theorem State.irqPresent_lane (s : State) (m : Nat) : (s.irqPresent).lane m = s.lane m := by simp [State.lane]
@[simp] theorem State.irqPresent_lport (s : State) (m : Nat) : (s.irqPresent).lport m = s.lport m := by simp [State.lport]
@[simp] theorem State.irqPresent_port (s : State) (m : Nat) : (s.irqPresent).port m = s.port m := by simp [State.port]
@[simp] theorem State.irqPresent_group (s : State) (m : Nat) : (s.irqPresent).group m = s.group m := by simp [State.group]
@[simp] theorem State.irqPresent_pll (s : State) (m : Nat) : (s.irqPresent).pll m = s.pll m := by simp [State.pll]
@[simp] theorem State.irqPresent_clkout (s : State) (m : Nat) : (s.irqPresent).clkout m = s.clkout m := by simp [State.clkout]
@[simp] theorem State.irqPresent_gen (s : State) (m : Nat) : (s.irqPresent).gen m = s.gen m := by simp [State.gen]
@[simp] theorem State.irqPresent_tdc (s : State) (m : Nat) : (s.irqPresent).tdc m = s.tdc m := by simp [State.tdc]
@[simp] theorem State.irqPresent_eng (s : State) (m : Nat) : (s.irqPresent).eng m = s.eng m := by simp [State.eng]
@[simp] theorem State.irqPresent_held (s : State) : (s.irqPresent).held = s.held := by simp [State.held]
@[simp] theorem State.irqPresent_blob (s : State) (o' : Obj) (j : Nat) : (s.irqPresent).blob o' j = s.blob o' j := by simp [State.blob]
@[simp] theorem State.irqPresent_calRec (s : State) (j m : Nat) : (s.irqPresent).calRec j m = s.calRec j m := by simp [State.calRec]
theorem State.irqPresent_obj (s : State) {o' : Obj} {j : Nat} (h : o'.key j ∉ wakeKeys) : (s.irqPresent).obj o' j = s.obj o' j := (s.irqPresent_only).2 _ h _

/-- A raised bit reads 1 (R9, R451). -/
theorem State.raise_bit (s : State) (o : Obj) {b sub : Nat} (hb : b < 8 * o.ty.bytes) (hw : o.key sub ∉ wakeKeys) :
    ((s.raise o b sub).obj o sub).testBit b = true := by
  have h1 : ((s.setObj o (s.obj o sub ||| 2 ^ b) sub).obj o sub).testBit b = true := by
    rw [State.obj_setObj_same, Nat.testBit_mod_two_pow, Nat.testBit_or, Nat.testBit_two_pow_self]; simp [hb]
  unfold State.raise
  dsimp only
  split
  · exact h1
  · rw [State.flagPacket, State.lanternPush_obj _ _ _ hw, State.irqEvent_obj _ _ hw]; exact h1

/-- Raising a bit leaves the object's other bits as they were. -/
theorem State.raise_obj_same (s : State) (o : Obj) (b sub : Nat) (hw : o.key sub ∉ wakeKeys) :
    (s.raise o b sub).obj o sub = (s.obj o sub ||| 2 ^ b) % 2 ^ (8 * o.ty.bytes) := by
  unfold State.raise
  dsimp only
  split
  · exact State.obj_setObj_same _ _ _ _
  · rw [State.flagPacket, State.lanternPush_obj _ _ _ hw, State.irqEvent_obj _ _ hw]; exact State.obj_setObj_same _ _ _ _

end Sys2Proof.Machine
end

