-- ==== Sys2Proof/Laws/Memory.lean ====
section
/-! SUPPORT. Every operation on the block's memories keeps their canonical form: the Pantry, the flash and the engines' memories. -/

namespace Sys2Proof.Machine

variable {s : State}

/-- A write of the Pantry keeps every memory canonical. -/
theorem State.memoryOk_pantryWrite (h : s.memoryOk) (a : Nat) (l : Bytes) : (s.pantryWrite a l).memoryOk :=
  ⟨Tab.wf_setRun h.1 a l, h.2⟩

/-- Programming the flash keeps every memory canonical. -/
theorem State.memoryOk_flashProgram (h : s.memoryOk) (a : Nat) (l : Bytes) : (s.flashProgram a l).memoryOk :=
  ⟨h.1, Tab.wf_setRun h.2.1 a l, h.2.2⟩

/-- An erase keeps every memory canonical. -/
theorem State.memoryOk_flashErase (h : s.memoryOk) (a k : Nat) : (s.flashErase a k).memoryOk :=
  ⟨h.1, Tab.wf_filter h.2.1 _, h.2.2⟩

/-- A change of one engine that leaves its memories canonical keeps every memory canonical. -/
theorem State.memoryOk_modEng (h : s.memoryOk) (e : Nat) (f : Engine → Engine)
    (hf : Memory.wf 0 (f (s.eng e)).itcm = true ∧ Memory.wf 0 (f (s.eng e)).dtcm = true) : (s.modEng e f).memoryOk := by
  refine ⟨h.1, h.2.1, fun j => ?_⟩
  have g : (s.modEng e f).eng j = if j = e then f (s.eng e) else s.eng j := by
    simp only [State.eng, State.modEng, Tab.get_set]
  rw [g]
  split
  · exact hf
  · exact h.2.2 j

/-- Loading a user image keeps every memory canonical. -/
theorem State.memoryOk_loadImage (h : s.memoryOk) (e : Nat) (b : Bytes) : (s.loadImage e b).memoryOk := by
  have g := State.memoryOk_modEng (s := s) h e (fun g =>
    { g with itcm := Tab.setRun [] 0 0 ((b.drop 32).take (octets b 4 4)), dtcm := Tab.setRun [] 0 0 (b.drop (32 + octets b 4 4)),
             loaded := true, entry := octets b 12 4 })
    ⟨Tab.wf_setRun (by rfl) 0 _, Tab.wf_setRun (by rfl) 0 _⟩
  exact ⟨g.1, g.2.1, g.2.2⟩

/-- The memories after reset are canonical. -/
theorem State.memoryOk_reset : State.reset.memoryOk := ⟨rfl, rfl, fun _ => ⟨rfl, rfl⟩⟩

end Sys2Proof.Machine
end

