-- ==== Sys2Proof/Laws/Objects.lean ====
section
/-! SUPPORT. What the operations over objects say: signed values, counters and status words. -/

namespace Sys2Proof.Machine

/-- A signed number that its width holds is read as it was written. -/
theorem toSigned_ofSigned {w : Nat} {z : Int} (hw : 0 < w) (h1 : -(2 ^ (w - 1) : Int) ≤ z) (h2 : z < (2 ^ (w - 1) : Int)) :
    toSigned w (ofSigned w z) = z := by
  obtain ⟨m, rfl⟩ : ∃ m, w = m + 1 := ⟨w - 1, by omega⟩
  simp only [Nat.add_sub_cancel] at *
  have hp : (2 : Int) ^ (m + 1) = 2 * 2 ^ m := by ring
  have hpos : (0 : Int) < 2 ^ m := by positivity
  have hcast : ((2 ^ m : Nat) : Int) = (2 : Int) ^ m := by push_cast; ring
  have hcast' : ((2 ^ (m + 1) : Nat) : Int) = 2 * (2 : Int) ^ m := by push_cast; ring
  unfold toSigned ofSigned
  rcases lt_or_ge z 0 with hz | hz
  · have e : z % (2 : Int) ^ (m + 1) = z + 2 * 2 ^ m := by
      rw [hp, Int.emod_eq_add_self_emod, Int.emod_eq_of_lt] <;> omega
    have hn : (z % (2 : Int) ^ (m + 1)).toNat % 2 ^ (m + 1) = (z + 2 * 2 ^ m).toNat := by
      rw [e, Nat.mod_eq_of_lt]; omega
    rw [Nat.add_sub_cancel, hn, if_neg (by omega), hp]
    omega
  · have e : z % (2 : Int) ^ (m + 1) = z := Int.emod_eq_of_lt hz (by omega)
    have hn : (z % (2 : Int) ^ (m + 1)).toNat % 2 ^ (m + 1) = z.toNat := by
      rw [e, Nat.mod_eq_of_lt]; omega
    rw [Nat.add_sub_cancel, hn, if_pos (by omega)]
    omega

/-- A signed object is read as it was written, where its width holds the number. -/
theorem State.objI_setObjI_same (s : State) (o : Obj) (z : Int) (sub : Nat) (hw : 0 < 8 * o.ty.bytes)
    (h1 : -(2 ^ (8 * o.ty.bytes - 1) : Int) ≤ z) (h2 : z < (2 ^ (8 * o.ty.bytes - 1) : Int)) :
    (s.setObjI o z sub).objI o sub = z := by
  unfold State.objI State.setObjI
  rw [State.obj_setObj_same]
  have : toSigned (8 * o.ty.bytes) (ofSigned (8 * o.ty.bytes) z % 2 ^ (8 * o.ty.bytes)) = toSigned (8 * o.ty.bytes) (ofSigned (8 * o.ty.bytes) z) := by
    unfold toSigned; rw [Nat.mod_mod]
  rw [this, toSigned_ofSigned hw h1 h2]

theorem State.objI_setObj_ne (s : State) {o o' : Obj} (v : Nat) {sub j : Nat} (h : o'.key j ≠ o.key sub) :
    (s.setObj o v sub).objI o' j = s.objI o' j := by unfold State.objI; rw [State.obj_setObj_ne _ _ h]

/-- A counter of 32 bits saturates. -/
theorem State.count_u32 (s : State) (o : Obj) (sub n : Nat) (h : o.ty = .u32) :
    (s.count o sub n).obj o sub = min (s.obj o sub + n) (2 ^ 32 - 1) := by
  unfold State.count; simp only [h]; rw [State.obj_setObj_same, h]
  show min (s.obj o sub + n) (2 ^ (8 * 4) - 1) % 2 ^ (8 * 4) = _
  omega

/-- A counter of 64 bits wraps. -/
theorem State.count_u64 (s : State) (o : Obj) (sub n : Nat) (h : o.ty = .u64) :
    (s.count o sub n).obj o sub = (s.obj o sub + n) % 2 ^ 64 := by
  unfold State.count; simp only [h]; rw [State.obj_setObj_same, h]; rfl

theorem State.count_obj_ne (s : State) {o o' : Obj} {sub n j : Nat} (h : o'.key j ≠ o.key sub) :
    (s.count o sub n).obj o' j = s.obj o' j := by
  unfold State.count; dsimp only; split <;> exact State.obj_setObj_ne _ _ h

/-- The fields of a status word that was written: STATUS, CMD, ABORT_LATE and REASON. -/
theorem State.setStatus_fields (s : State) (o : Obj) (sub r : Nat) (late : Bool) (c st : Nat) (h : 2 ≤ o.ty.bytes) :
    (s.setStatus o sub r late c st).status o sub = st % 16 ∧
    bits ((s.setStatus o sub r late c st).obj o sub) 7 4 = c % 16 ∧
    bit ((s.setStatus o sub r late c st).obj o sub) 8 = late ∧
    bits ((s.setStatus o sub r late c st).obj o sub) 15 12 = r % 16 := by
  unfold State.status State.setStatus
  dsimp only
  rw [State.obj_setObj_same]
  obtain ⟨k, hk⟩ : ∃ k, 2 ^ (8 * o.ty.bytes) = 65536 * k := by
    obtain ⟨j, hj⟩ : ∃ j, 8 * o.ty.bytes = 16 + j := ⟨8 * o.ty.bytes - 16, by omega⟩
    exact ⟨2 ^ j, by rw [hj, pow_add]; norm_num⟩
  rw [hk]
  have hb : b2n late < 2 := by cases late <;> decide
  have hx : bits (s.obj o sub) 11 9 < 8 := Nat.mod_lt _ (by decide)
  generalize bits (s.obj o sub) 11 9 = x at *
  have key : ∀ y : Nat, y % (65536 * k) % 65536 = y % 65536 := fun y => Nat.mod_mul_right_mod y 65536 k
  have hv : s.obj o sub - s.obj o sub % 65536 = 65536 * (s.obj o sub / 65536) := by omega
  rw [hv]
  generalize s.obj o sub / 65536 = q
  generalize hm : (65536 * q + x * 512 + r % 16 * 4096 + b2n late * 256 + c % 16 * 16 + st % 16) % (65536 * k) = m
  have hm' : m % 65536 = (x * 512 + r % 16 * 4096 + b2n late * 256 + c % 16 * 16 + st % 16) % 65536 := by
    rw [← hm, key]; omega
  refine ⟨?_, ?_, ?_, ?_⟩
  · simp only [bits]; omega
  · simp only [bits]; omega
  · have : bit m 8 = decide (m / 256 % 2 = 1) := by simp [bit, Nat.testBit, Nat.shiftRight_eq_div_pow, Nat.and_comm 1, Nat.and_one_is_mod]; rfl
    rw [this]
    cases late <;> simp [b2n] at * <;> omega
  · simp only [bits]; omega

theorem State.status_cmdStatus (s : State) (o : Obj) (sub c st r : Nat) (h : 2 ≤ o.ty.bytes) :
    (s.cmdStatus o sub c st r).status o sub = st % 16 := (State.setStatus_fields s o sub r false c st h).1

theorem State.status_endStatus (s : State) (o : Obj) (sub st r : Nat) (h : 2 ≤ o.ty.bytes) :
    (s.endStatus o sub st r).status o sub = st % 16 := (State.setStatus_fields s o sub r _ _ st h).1

/-! What these operations leave alone. -/
theorem State.count_setObj (s : State) (o : Obj) (sub n : Nat) : ∃ v, s.count o sub n = s.setObj o v sub := by
  unfold State.count; dsimp only; split <;> exact ⟨_, rfl⟩
@[simp] theorem State.setObjI_pending (s : State) (o : Obj) (z : Int) (sub : Nat) : (s.setObjI o z sub).pending = s.pending := State.setObj_pending _ _ _ _
@[simp] theorem State.setObjI_out (s : State) (o : Obj) (z : Int) (sub : Nat) : (s.setObjI o z sub).out = s.out := State.setObj_out _ _ _ _
@[simp] theorem State.setObjI_free (s : State) (o : Obj) (z : Int) (sub : Nat) : (s.setObjI o z sub).free = s.free := State.setObj_free _ _ _ _
@[simp] theorem State.setObjI_blobs (s : State) (o : Obj) (z : Int) (sub : Nat) : (s.setObjI o z sub).blobs = s.blobs := State.setObj_blobs _ _ _ _
@[simp] theorem State.setObjI_power (s : State) (o : Obj) (z : Int) (sub : Nat) : (s.setObjI o z sub).power = s.power := State.setObj_power _ _ _ _
@[simp] theorem State.setObjI_fuses (s : State) (o : Obj) (z : Int) (sub : Nat) : (s.setObjI o z sub).fuses = s.fuses := State.setObj_fuses _ _ _ _
@[simp] theorem State.setObjI_hearth (s : State) (o : Obj) (z : Int) (sub : Nat) : (s.setObjI o z sub).hearth = s.hearth := State.setObj_hearth _ _ _ _
@[simp] theorem State.setObjI_servo (s : State) (o : Obj) (z : Int) (sub : Nat) : (s.setObjI o z sub).servo = s.servo := State.setObj_servo _ _ _ _
@[simp] theorem State.setObjI_ports (s : State) (o : Obj) (z : Int) (sub : Nat) : (s.setObjI o z sub).ports = s.ports := State.setObj_ports _ _ _ _
@[simp] theorem State.setObjI_lanes (s : State) (o : Obj) (z : Int) (sub : Nat) : (s.setObjI o z sub).lanes = s.lanes := State.setObj_lanes _ _ _ _
@[simp] theorem State.setObjI_groups (s : State) (o : Obj) (z : Int) (sub : Nat) : (s.setObjI o z sub).groups = s.groups := State.setObj_groups _ _ _ _
@[simp] theorem State.setObjI_lports (s : State) (o : Obj) (z : Int) (sub : Nat) : (s.setObjI o z sub).lports = s.lports := State.setObj_lports _ _ _ _
@[simp] theorem State.setObjI_plls (s : State) (o : Obj) (z : Int) (sub : Nat) : (s.setObjI o z sub).plls = s.plls := State.setObj_plls _ _ _ _
@[simp] theorem State.setObjI_clkouts (s : State) (o : Obj) (z : Int) (sub : Nat) : (s.setObjI o z sub).clkouts = s.clkouts := State.setObj_clkouts _ _ _ _
@[simp] theorem State.setObjI_clk (s : State) (o : Obj) (z : Int) (sub : Nat) : (s.setObjI o z sub).clk = s.clk := State.setObj_clk _ _ _ _
@[simp] theorem State.setObjI_gens (s : State) (o : Obj) (z : Int) (sub : Nat) : (s.setObjI o z sub).gens = s.gens := State.setObj_gens _ _ _ _
@[simp] theorem State.setObjI_tdcs (s : State) (o : Obj) (z : Int) (sub : Nat) : (s.setObjI o z sub).tdcs = s.tdcs := State.setObj_tdcs _ _ _ _
@[simp] theorem State.setObjI_tio (s : State) (o : Obj) (z : Int) (sub : Nat) : (s.setObjI o z sub).tio = s.tio := State.setObj_tio _ _ _ _
@[simp] theorem State.setObjI_cellar (s : State) (o : Obj) (z : Int) (sub : Nat) : (s.setObjI o z sub).cellar = s.cellar := State.setObj_cellar _ _ _ _
@[simp] theorem State.setObjI_tables (s : State) (o : Obj) (z : Int) (sub : Nat) : (s.setObjI o z sub).tables = s.tables := State.setObj_tables _ _ _ _
@[simp] theorem State.setObjI_caravan (s : State) (o : Obj) (z : Int) (sub : Nat) : (s.setObjI o z sub).caravan = s.caravan := State.setObj_caravan _ _ _ _
@[simp] theorem State.setObjI_cal (s : State) (o : Obj) (z : Int) (sub : Nat) : (s.setObjI o z sub).cal = s.cal := State.setObj_cal _ _ _ _
@[simp] theorem State.setObjI_irq (s : State) (o : Obj) (z : Int) (sub : Nat) : (s.setObjI o z sub).irq = s.irq := State.setObj_irq _ _ _ _
@[simp] theorem State.setObjI_engines (s : State) (o : Obj) (z : Int) (sub : Nat) : (s.setObjI o z sub).engines = s.engines := State.setObj_engines _ _ _ _
@[simp] theorem State.setObjI_sems (s : State) (o : Obj) (z : Int) (sub : Nat) : (s.setObjI o z sub).sems = s.sems := State.setObj_sems _ _ _ _
@[simp] theorem State.setObjI_snap (s : State) (o : Obj) (z : Int) (sub : Nat) : (s.setObjI o z sub).snap = s.snap := State.setObj_snap _ _ _ _
@[simp] theorem State.setObjI_lantern (s : State) (o : Obj) (z : Int) (sub : Nat) : (s.setObjI o z sub).lantern = s.lantern := State.setObj_lantern _ _ _ _
@[simp] theorem State.setObjI_jtag (s : State) (o : Obj) (z : Int) (sub : Nat) : (s.setObjI o z sub).jtag = s.jtag := State.setObj_jtag _ _ _ _
@[simp] theorem State.setObjI_falri (s : State) (o : Obj) (z : Int) (sub : Nat) : (s.setObjI o z sub).falri = s.falri := State.setObj_falri _ _ _ _
@[simp] theorem State.setObjI_hier (s : State) (o : Obj) (z : Int) (sub : Nat) : (s.setObjI o z sub).hier = s.hier := State.setObj_hier _ _ _ _
@[simp] theorem State.setObjI_twin (s : State) (o : Obj) (z : Int) (sub : Nat) : (s.setObjI o z sub).twin = s.twin := State.setObj_twin _ _ _ _
@[simp] theorem State.setObjI_flash (s : State) (o : Obj) (z : Int) (sub : Nat) : (s.setObjI o z sub).flash = s.flash := State.setObj_flash _ _ _ _
@[simp] theorem State.setObjI_pantry (s : State) (o : Obj) (z : Int) (sub : Nat) : (s.setObjI o z sub).pantry = s.pantry := State.setObj_pantry _ _ _ _
@[simp] theorem State.setObjI_lane (s : State) (o : Obj) (z : Int) (sub : Nat) (m : Nat) : (s.setObjI o z sub).lane m = s.lane m := State.setObj_lane _ _ _ _ _
@[simp] theorem State.setObjI_lport (s : State) (o : Obj) (z : Int) (sub : Nat) (m : Nat) : (s.setObjI o z sub).lport m = s.lport m := State.setObj_lport _ _ _ _ _
@[simp] theorem State.setObjI_port (s : State) (o : Obj) (z : Int) (sub : Nat) (m : Nat) : (s.setObjI o z sub).port m = s.port m := State.setObj_port _ _ _ _ _
@[simp] theorem State.setObjI_group (s : State) (o : Obj) (z : Int) (sub : Nat) (m : Nat) : (s.setObjI o z sub).group m = s.group m := State.setObj_group _ _ _ _ _
@[simp] theorem State.setObjI_pll (s : State) (o : Obj) (z : Int) (sub : Nat) (m : Nat) : (s.setObjI o z sub).pll m = s.pll m := State.setObj_pll _ _ _ _ _
@[simp] theorem State.setObjI_clkout (s : State) (o : Obj) (z : Int) (sub : Nat) (m : Nat) : (s.setObjI o z sub).clkout m = s.clkout m := State.setObj_clkout _ _ _ _ _
@[simp] theorem State.setObjI_gen (s : State) (o : Obj) (z : Int) (sub : Nat) (m : Nat) : (s.setObjI o z sub).gen m = s.gen m := State.setObj_gen _ _ _ _ _
@[simp] theorem State.setObjI_tdc (s : State) (o : Obj) (z : Int) (sub : Nat) (m : Nat) : (s.setObjI o z sub).tdc m = s.tdc m := State.setObj_tdc _ _ _ _ _
@[simp] theorem State.setObjI_eng (s : State) (o : Obj) (z : Int) (sub : Nat) (m : Nat) : (s.setObjI o z sub).eng m = s.eng m := State.setObj_eng _ _ _ _ _
@[simp] theorem State.setObjI_held (s : State) (o : Obj) (z : Int) (sub : Nat) : (s.setObjI o z sub).held = s.held := State.setObj_held _ _ _ _
@[simp] theorem State.setObjI_blob (s : State) (o : Obj) (z : Int) (sub : Nat) (o' : Obj) (j : Nat) : (s.setObjI o z sub).blob o' j = s.blob o' j := State.setObj_blob _ _ _ _ _ _
@[simp] theorem State.setObjI_calRec (s : State) (o : Obj) (z : Int) (sub : Nat) (j m : Nat) : (s.setObjI o z sub).calRec j m = s.calRec j m := State.setObj_calRec _ _ _ _ _ _
theorem State.setObjI_obj_ne (s : State) (o : Obj) (z : Int) (sub : Nat) {o' : Obj} {j : Nat} (h : o'.key j ≠ o.key sub) : (s.setObjI o z sub).obj o' j = s.obj o' j := State.obj_setObj_ne _ _ h
@[simp] theorem State.setStatus_pending (s : State) (o : Obj) (sub r : Nat) (b : Bool) (c st : Nat) : (s.setStatus o sub r b c st).pending = s.pending := State.setObj_pending _ _ _ _
@[simp] theorem State.setStatus_out (s : State) (o : Obj) (sub r : Nat) (b : Bool) (c st : Nat) : (s.setStatus o sub r b c st).out = s.out := State.setObj_out _ _ _ _
@[simp] theorem State.setStatus_free (s : State) (o : Obj) (sub r : Nat) (b : Bool) (c st : Nat) : (s.setStatus o sub r b c st).free = s.free := State.setObj_free _ _ _ _
@[simp] theorem State.setStatus_blobs (s : State) (o : Obj) (sub r : Nat) (b : Bool) (c st : Nat) : (s.setStatus o sub r b c st).blobs = s.blobs := State.setObj_blobs _ _ _ _
@[simp] theorem State.setStatus_power (s : State) (o : Obj) (sub r : Nat) (b : Bool) (c st : Nat) : (s.setStatus o sub r b c st).power = s.power := State.setObj_power _ _ _ _
@[simp] theorem State.setStatus_fuses (s : State) (o : Obj) (sub r : Nat) (b : Bool) (c st : Nat) : (s.setStatus o sub r b c st).fuses = s.fuses := State.setObj_fuses _ _ _ _
@[simp] theorem State.setStatus_hearth (s : State) (o : Obj) (sub r : Nat) (b : Bool) (c st : Nat) : (s.setStatus o sub r b c st).hearth = s.hearth := State.setObj_hearth _ _ _ _
@[simp] theorem State.setStatus_servo (s : State) (o : Obj) (sub r : Nat) (b : Bool) (c st : Nat) : (s.setStatus o sub r b c st).servo = s.servo := State.setObj_servo _ _ _ _
@[simp] theorem State.setStatus_ports (s : State) (o : Obj) (sub r : Nat) (b : Bool) (c st : Nat) : (s.setStatus o sub r b c st).ports = s.ports := State.setObj_ports _ _ _ _
@[simp] theorem State.setStatus_lanes (s : State) (o : Obj) (sub r : Nat) (b : Bool) (c st : Nat) : (s.setStatus o sub r b c st).lanes = s.lanes := State.setObj_lanes _ _ _ _
@[simp] theorem State.setStatus_groups (s : State) (o : Obj) (sub r : Nat) (b : Bool) (c st : Nat) : (s.setStatus o sub r b c st).groups = s.groups := State.setObj_groups _ _ _ _
@[simp] theorem State.setStatus_lports (s : State) (o : Obj) (sub r : Nat) (b : Bool) (c st : Nat) : (s.setStatus o sub r b c st).lports = s.lports := State.setObj_lports _ _ _ _
@[simp] theorem State.setStatus_plls (s : State) (o : Obj) (sub r : Nat) (b : Bool) (c st : Nat) : (s.setStatus o sub r b c st).plls = s.plls := State.setObj_plls _ _ _ _
@[simp] theorem State.setStatus_clkouts (s : State) (o : Obj) (sub r : Nat) (b : Bool) (c st : Nat) : (s.setStatus o sub r b c st).clkouts = s.clkouts := State.setObj_clkouts _ _ _ _
@[simp] theorem State.setStatus_clk (s : State) (o : Obj) (sub r : Nat) (b : Bool) (c st : Nat) : (s.setStatus o sub r b c st).clk = s.clk := State.setObj_clk _ _ _ _
@[simp] theorem State.setStatus_gens (s : State) (o : Obj) (sub r : Nat) (b : Bool) (c st : Nat) : (s.setStatus o sub r b c st).gens = s.gens := State.setObj_gens _ _ _ _
@[simp] theorem State.setStatus_tdcs (s : State) (o : Obj) (sub r : Nat) (b : Bool) (c st : Nat) : (s.setStatus o sub r b c st).tdcs = s.tdcs := State.setObj_tdcs _ _ _ _
@[simp] theorem State.setStatus_tio (s : State) (o : Obj) (sub r : Nat) (b : Bool) (c st : Nat) : (s.setStatus o sub r b c st).tio = s.tio := State.setObj_tio _ _ _ _
@[simp] theorem State.setStatus_cellar (s : State) (o : Obj) (sub r : Nat) (b : Bool) (c st : Nat) : (s.setStatus o sub r b c st).cellar = s.cellar := State.setObj_cellar _ _ _ _
@[simp] theorem State.setStatus_tables (s : State) (o : Obj) (sub r : Nat) (b : Bool) (c st : Nat) : (s.setStatus o sub r b c st).tables = s.tables := State.setObj_tables _ _ _ _
@[simp] theorem State.setStatus_caravan (s : State) (o : Obj) (sub r : Nat) (b : Bool) (c st : Nat) : (s.setStatus o sub r b c st).caravan = s.caravan := State.setObj_caravan _ _ _ _
@[simp] theorem State.setStatus_cal (s : State) (o : Obj) (sub r : Nat) (b : Bool) (c st : Nat) : (s.setStatus o sub r b c st).cal = s.cal := State.setObj_cal _ _ _ _
@[simp] theorem State.setStatus_irq (s : State) (o : Obj) (sub r : Nat) (b : Bool) (c st : Nat) : (s.setStatus o sub r b c st).irq = s.irq := State.setObj_irq _ _ _ _
@[simp] theorem State.setStatus_engines (s : State) (o : Obj) (sub r : Nat) (b : Bool) (c st : Nat) : (s.setStatus o sub r b c st).engines = s.engines := State.setObj_engines _ _ _ _
@[simp] theorem State.setStatus_sems (s : State) (o : Obj) (sub r : Nat) (b : Bool) (c st : Nat) : (s.setStatus o sub r b c st).sems = s.sems := State.setObj_sems _ _ _ _
@[simp] theorem State.setStatus_snap (s : State) (o : Obj) (sub r : Nat) (b : Bool) (c st : Nat) : (s.setStatus o sub r b c st).snap = s.snap := State.setObj_snap _ _ _ _
@[simp] theorem State.setStatus_lantern (s : State) (o : Obj) (sub r : Nat) (b : Bool) (c st : Nat) : (s.setStatus o sub r b c st).lantern = s.lantern := State.setObj_lantern _ _ _ _
@[simp] theorem State.setStatus_jtag (s : State) (o : Obj) (sub r : Nat) (b : Bool) (c st : Nat) : (s.setStatus o sub r b c st).jtag = s.jtag := State.setObj_jtag _ _ _ _
@[simp] theorem State.setStatus_falri (s : State) (o : Obj) (sub r : Nat) (b : Bool) (c st : Nat) : (s.setStatus o sub r b c st).falri = s.falri := State.setObj_falri _ _ _ _
@[simp] theorem State.setStatus_hier (s : State) (o : Obj) (sub r : Nat) (b : Bool) (c st : Nat) : (s.setStatus o sub r b c st).hier = s.hier := State.setObj_hier _ _ _ _
@[simp] theorem State.setStatus_twin (s : State) (o : Obj) (sub r : Nat) (b : Bool) (c st : Nat) : (s.setStatus o sub r b c st).twin = s.twin := State.setObj_twin _ _ _ _
@[simp] theorem State.setStatus_flash (s : State) (o : Obj) (sub r : Nat) (b : Bool) (c st : Nat) : (s.setStatus o sub r b c st).flash = s.flash := State.setObj_flash _ _ _ _
@[simp] theorem State.setStatus_pantry (s : State) (o : Obj) (sub r : Nat) (b : Bool) (c st : Nat) : (s.setStatus o sub r b c st).pantry = s.pantry := State.setObj_pantry _ _ _ _
@[simp] theorem State.setStatus_lane (s : State) (o : Obj) (sub r : Nat) (b : Bool) (c st : Nat) (m : Nat) : (s.setStatus o sub r b c st).lane m = s.lane m := State.setObj_lane _ _ _ _ _
@[simp] theorem State.setStatus_lport (s : State) (o : Obj) (sub r : Nat) (b : Bool) (c st : Nat) (m : Nat) : (s.setStatus o sub r b c st).lport m = s.lport m := State.setObj_lport _ _ _ _ _
@[simp] theorem State.setStatus_port (s : State) (o : Obj) (sub r : Nat) (b : Bool) (c st : Nat) (m : Nat) : (s.setStatus o sub r b c st).port m = s.port m := State.setObj_port _ _ _ _ _
@[simp] theorem State.setStatus_group (s : State) (o : Obj) (sub r : Nat) (b : Bool) (c st : Nat) (m : Nat) : (s.setStatus o sub r b c st).group m = s.group m := State.setObj_group _ _ _ _ _
@[simp] theorem State.setStatus_pll (s : State) (o : Obj) (sub r : Nat) (b : Bool) (c st : Nat) (m : Nat) : (s.setStatus o sub r b c st).pll m = s.pll m := State.setObj_pll _ _ _ _ _
@[simp] theorem State.setStatus_clkout (s : State) (o : Obj) (sub r : Nat) (b : Bool) (c st : Nat) (m : Nat) : (s.setStatus o sub r b c st).clkout m = s.clkout m := State.setObj_clkout _ _ _ _ _
@[simp] theorem State.setStatus_gen (s : State) (o : Obj) (sub r : Nat) (b : Bool) (c st : Nat) (m : Nat) : (s.setStatus o sub r b c st).gen m = s.gen m := State.setObj_gen _ _ _ _ _
@[simp] theorem State.setStatus_tdc (s : State) (o : Obj) (sub r : Nat) (b : Bool) (c st : Nat) (m : Nat) : (s.setStatus o sub r b c st).tdc m = s.tdc m := State.setObj_tdc _ _ _ _ _
@[simp] theorem State.setStatus_eng (s : State) (o : Obj) (sub r : Nat) (b : Bool) (c st : Nat) (m : Nat) : (s.setStatus o sub r b c st).eng m = s.eng m := State.setObj_eng _ _ _ _ _
@[simp] theorem State.setStatus_held (s : State) (o : Obj) (sub r : Nat) (b : Bool) (c st : Nat) : (s.setStatus o sub r b c st).held = s.held := State.setObj_held _ _ _ _
@[simp] theorem State.setStatus_blob (s : State) (o : Obj) (sub r : Nat) (b : Bool) (c st : Nat) (o' : Obj) (j : Nat) : (s.setStatus o sub r b c st).blob o' j = s.blob o' j := State.setObj_blob _ _ _ _ _ _
@[simp] theorem State.setStatus_calRec (s : State) (o : Obj) (sub r : Nat) (b : Bool) (c st : Nat) (j m : Nat) : (s.setStatus o sub r b c st).calRec j m = s.calRec j m := State.setObj_calRec _ _ _ _ _ _
theorem State.setStatus_obj_ne (s : State) (o : Obj) (sub r : Nat) (b : Bool) (c st : Nat) {o' : Obj} {j : Nat} (h : o'.key j ≠ o.key sub) : (s.setStatus o sub r b c st).obj o' j = s.obj o' j := State.obj_setObj_ne _ _ h
@[simp] theorem State.cmdStatus_pending (s : State) (o : Obj) (sub c st r : Nat) : (s.cmdStatus o sub c st r).pending = s.pending := State.setStatus_pending _ _ _ _ _ _ _
@[simp] theorem State.cmdStatus_out (s : State) (o : Obj) (sub c st r : Nat) : (s.cmdStatus o sub c st r).out = s.out := State.setStatus_out _ _ _ _ _ _ _
@[simp] theorem State.cmdStatus_free (s : State) (o : Obj) (sub c st r : Nat) : (s.cmdStatus o sub c st r).free = s.free := State.setStatus_free _ _ _ _ _ _ _
@[simp] theorem State.cmdStatus_blobs (s : State) (o : Obj) (sub c st r : Nat) : (s.cmdStatus o sub c st r).blobs = s.blobs := State.setStatus_blobs _ _ _ _ _ _ _
@[simp] theorem State.cmdStatus_power (s : State) (o : Obj) (sub c st r : Nat) : (s.cmdStatus o sub c st r).power = s.power := State.setStatus_power _ _ _ _ _ _ _
@[simp] theorem State.cmdStatus_fuses (s : State) (o : Obj) (sub c st r : Nat) : (s.cmdStatus o sub c st r).fuses = s.fuses := State.setStatus_fuses _ _ _ _ _ _ _
@[simp] theorem State.cmdStatus_hearth (s : State) (o : Obj) (sub c st r : Nat) : (s.cmdStatus o sub c st r).hearth = s.hearth := State.setStatus_hearth _ _ _ _ _ _ _
@[simp] theorem State.cmdStatus_servo (s : State) (o : Obj) (sub c st r : Nat) : (s.cmdStatus o sub c st r).servo = s.servo := State.setStatus_servo _ _ _ _ _ _ _
@[simp] theorem State.cmdStatus_ports (s : State) (o : Obj) (sub c st r : Nat) : (s.cmdStatus o sub c st r).ports = s.ports := State.setStatus_ports _ _ _ _ _ _ _
@[simp] theorem State.cmdStatus_lanes (s : State) (o : Obj) (sub c st r : Nat) : (s.cmdStatus o sub c st r).lanes = s.lanes := State.setStatus_lanes _ _ _ _ _ _ _
@[simp] theorem State.cmdStatus_groups (s : State) (o : Obj) (sub c st r : Nat) : (s.cmdStatus o sub c st r).groups = s.groups := State.setStatus_groups _ _ _ _ _ _ _
@[simp] theorem State.cmdStatus_lports (s : State) (o : Obj) (sub c st r : Nat) : (s.cmdStatus o sub c st r).lports = s.lports := State.setStatus_lports _ _ _ _ _ _ _
@[simp] theorem State.cmdStatus_plls (s : State) (o : Obj) (sub c st r : Nat) : (s.cmdStatus o sub c st r).plls = s.plls := State.setStatus_plls _ _ _ _ _ _ _
@[simp] theorem State.cmdStatus_clkouts (s : State) (o : Obj) (sub c st r : Nat) : (s.cmdStatus o sub c st r).clkouts = s.clkouts := State.setStatus_clkouts _ _ _ _ _ _ _
@[simp] theorem State.cmdStatus_clk (s : State) (o : Obj) (sub c st r : Nat) : (s.cmdStatus o sub c st r).clk = s.clk := State.setStatus_clk _ _ _ _ _ _ _
@[simp] theorem State.cmdStatus_gens (s : State) (o : Obj) (sub c st r : Nat) : (s.cmdStatus o sub c st r).gens = s.gens := State.setStatus_gens _ _ _ _ _ _ _
@[simp] theorem State.cmdStatus_tdcs (s : State) (o : Obj) (sub c st r : Nat) : (s.cmdStatus o sub c st r).tdcs = s.tdcs := State.setStatus_tdcs _ _ _ _ _ _ _
@[simp] theorem State.cmdStatus_tio (s : State) (o : Obj) (sub c st r : Nat) : (s.cmdStatus o sub c st r).tio = s.tio := State.setStatus_tio _ _ _ _ _ _ _
@[simp] theorem State.cmdStatus_cellar (s : State) (o : Obj) (sub c st r : Nat) : (s.cmdStatus o sub c st r).cellar = s.cellar := State.setStatus_cellar _ _ _ _ _ _ _
@[simp] theorem State.cmdStatus_tables (s : State) (o : Obj) (sub c st r : Nat) : (s.cmdStatus o sub c st r).tables = s.tables := State.setStatus_tables _ _ _ _ _ _ _
@[simp] theorem State.cmdStatus_caravan (s : State) (o : Obj) (sub c st r : Nat) : (s.cmdStatus o sub c st r).caravan = s.caravan := State.setStatus_caravan _ _ _ _ _ _ _
@[simp] theorem State.cmdStatus_cal (s : State) (o : Obj) (sub c st r : Nat) : (s.cmdStatus o sub c st r).cal = s.cal := State.setStatus_cal _ _ _ _ _ _ _
@[simp] theorem State.cmdStatus_irq (s : State) (o : Obj) (sub c st r : Nat) : (s.cmdStatus o sub c st r).irq = s.irq := State.setStatus_irq _ _ _ _ _ _ _
@[simp] theorem State.cmdStatus_engines (s : State) (o : Obj) (sub c st r : Nat) : (s.cmdStatus o sub c st r).engines = s.engines := State.setStatus_engines _ _ _ _ _ _ _
@[simp] theorem State.cmdStatus_sems (s : State) (o : Obj) (sub c st r : Nat) : (s.cmdStatus o sub c st r).sems = s.sems := State.setStatus_sems _ _ _ _ _ _ _
@[simp] theorem State.cmdStatus_snap (s : State) (o : Obj) (sub c st r : Nat) : (s.cmdStatus o sub c st r).snap = s.snap := State.setStatus_snap _ _ _ _ _ _ _
@[simp] theorem State.cmdStatus_lantern (s : State) (o : Obj) (sub c st r : Nat) : (s.cmdStatus o sub c st r).lantern = s.lantern := State.setStatus_lantern _ _ _ _ _ _ _
@[simp] theorem State.cmdStatus_jtag (s : State) (o : Obj) (sub c st r : Nat) : (s.cmdStatus o sub c st r).jtag = s.jtag := State.setStatus_jtag _ _ _ _ _ _ _
@[simp] theorem State.cmdStatus_falri (s : State) (o : Obj) (sub c st r : Nat) : (s.cmdStatus o sub c st r).falri = s.falri := State.setStatus_falri _ _ _ _ _ _ _
@[simp] theorem State.cmdStatus_hier (s : State) (o : Obj) (sub c st r : Nat) : (s.cmdStatus o sub c st r).hier = s.hier := State.setStatus_hier _ _ _ _ _ _ _
@[simp] theorem State.cmdStatus_twin (s : State) (o : Obj) (sub c st r : Nat) : (s.cmdStatus o sub c st r).twin = s.twin := State.setStatus_twin _ _ _ _ _ _ _
@[simp] theorem State.cmdStatus_flash (s : State) (o : Obj) (sub c st r : Nat) : (s.cmdStatus o sub c st r).flash = s.flash := State.setStatus_flash _ _ _ _ _ _ _
@[simp] theorem State.cmdStatus_pantry (s : State) (o : Obj) (sub c st r : Nat) : (s.cmdStatus o sub c st r).pantry = s.pantry := State.setStatus_pantry _ _ _ _ _ _ _
@[simp] theorem State.cmdStatus_lane (s : State) (o : Obj) (sub c st r : Nat) (m : Nat) : (s.cmdStatus o sub c st r).lane m = s.lane m := State.setStatus_lane _ _ _ _ _ _ _ _
@[simp] theorem State.cmdStatus_lport (s : State) (o : Obj) (sub c st r : Nat) (m : Nat) : (s.cmdStatus o sub c st r).lport m = s.lport m := State.setStatus_lport _ _ _ _ _ _ _ _
@[simp] theorem State.cmdStatus_port (s : State) (o : Obj) (sub c st r : Nat) (m : Nat) : (s.cmdStatus o sub c st r).port m = s.port m := State.setStatus_port _ _ _ _ _ _ _ _
@[simp] theorem State.cmdStatus_group (s : State) (o : Obj) (sub c st r : Nat) (m : Nat) : (s.cmdStatus o sub c st r).group m = s.group m := State.setStatus_group _ _ _ _ _ _ _ _
@[simp] theorem State.cmdStatus_pll (s : State) (o : Obj) (sub c st r : Nat) (m : Nat) : (s.cmdStatus o sub c st r).pll m = s.pll m := State.setStatus_pll _ _ _ _ _ _ _ _
@[simp] theorem State.cmdStatus_clkout (s : State) (o : Obj) (sub c st r : Nat) (m : Nat) : (s.cmdStatus o sub c st r).clkout m = s.clkout m := State.setStatus_clkout _ _ _ _ _ _ _ _
@[simp] theorem State.cmdStatus_gen (s : State) (o : Obj) (sub c st r : Nat) (m : Nat) : (s.cmdStatus o sub c st r).gen m = s.gen m := State.setStatus_gen _ _ _ _ _ _ _ _
@[simp] theorem State.cmdStatus_tdc (s : State) (o : Obj) (sub c st r : Nat) (m : Nat) : (s.cmdStatus o sub c st r).tdc m = s.tdc m := State.setStatus_tdc _ _ _ _ _ _ _ _
@[simp] theorem State.cmdStatus_eng (s : State) (o : Obj) (sub c st r : Nat) (m : Nat) : (s.cmdStatus o sub c st r).eng m = s.eng m := State.setStatus_eng _ _ _ _ _ _ _ _
@[simp] theorem State.cmdStatus_held (s : State) (o : Obj) (sub c st r : Nat) : (s.cmdStatus o sub c st r).held = s.held := State.setStatus_held _ _ _ _ _ _ _
@[simp] theorem State.cmdStatus_blob (s : State) (o : Obj) (sub c st r : Nat) (o' : Obj) (j : Nat) : (s.cmdStatus o sub c st r).blob o' j = s.blob o' j := State.setStatus_blob _ _ _ _ _ _ _ _ _
@[simp] theorem State.cmdStatus_calRec (s : State) (o : Obj) (sub c st r : Nat) (j m : Nat) : (s.cmdStatus o sub c st r).calRec j m = s.calRec j m := State.setStatus_calRec _ _ _ _ _ _ _ _ _
theorem State.cmdStatus_obj_ne (s : State) (o : Obj) (sub c st r : Nat) {o' : Obj} {j : Nat} (h : o'.key j ≠ o.key sub) : (s.cmdStatus o sub c st r).obj o' j = s.obj o' j := State.obj_setObj_ne _ _ h
@[simp] theorem State.endStatus_pending (s : State) (o : Obj) (sub st r : Nat) : (s.endStatus o sub st r).pending = s.pending := State.setStatus_pending _ _ _ _ _ _ _
@[simp] theorem State.endStatus_out (s : State) (o : Obj) (sub st r : Nat) : (s.endStatus o sub st r).out = s.out := State.setStatus_out _ _ _ _ _ _ _
@[simp] theorem State.endStatus_free (s : State) (o : Obj) (sub st r : Nat) : (s.endStatus o sub st r).free = s.free := State.setStatus_free _ _ _ _ _ _ _
@[simp] theorem State.endStatus_blobs (s : State) (o : Obj) (sub st r : Nat) : (s.endStatus o sub st r).blobs = s.blobs := State.setStatus_blobs _ _ _ _ _ _ _
@[simp] theorem State.endStatus_power (s : State) (o : Obj) (sub st r : Nat) : (s.endStatus o sub st r).power = s.power := State.setStatus_power _ _ _ _ _ _ _
@[simp] theorem State.endStatus_fuses (s : State) (o : Obj) (sub st r : Nat) : (s.endStatus o sub st r).fuses = s.fuses := State.setStatus_fuses _ _ _ _ _ _ _
@[simp] theorem State.endStatus_hearth (s : State) (o : Obj) (sub st r : Nat) : (s.endStatus o sub st r).hearth = s.hearth := State.setStatus_hearth _ _ _ _ _ _ _
@[simp] theorem State.endStatus_servo (s : State) (o : Obj) (sub st r : Nat) : (s.endStatus o sub st r).servo = s.servo := State.setStatus_servo _ _ _ _ _ _ _
@[simp] theorem State.endStatus_ports (s : State) (o : Obj) (sub st r : Nat) : (s.endStatus o sub st r).ports = s.ports := State.setStatus_ports _ _ _ _ _ _ _
@[simp] theorem State.endStatus_lanes (s : State) (o : Obj) (sub st r : Nat) : (s.endStatus o sub st r).lanes = s.lanes := State.setStatus_lanes _ _ _ _ _ _ _
@[simp] theorem State.endStatus_groups (s : State) (o : Obj) (sub st r : Nat) : (s.endStatus o sub st r).groups = s.groups := State.setStatus_groups _ _ _ _ _ _ _
@[simp] theorem State.endStatus_lports (s : State) (o : Obj) (sub st r : Nat) : (s.endStatus o sub st r).lports = s.lports := State.setStatus_lports _ _ _ _ _ _ _
@[simp] theorem State.endStatus_plls (s : State) (o : Obj) (sub st r : Nat) : (s.endStatus o sub st r).plls = s.plls := State.setStatus_plls _ _ _ _ _ _ _
@[simp] theorem State.endStatus_clkouts (s : State) (o : Obj) (sub st r : Nat) : (s.endStatus o sub st r).clkouts = s.clkouts := State.setStatus_clkouts _ _ _ _ _ _ _
@[simp] theorem State.endStatus_clk (s : State) (o : Obj) (sub st r : Nat) : (s.endStatus o sub st r).clk = s.clk := State.setStatus_clk _ _ _ _ _ _ _
@[simp] theorem State.endStatus_gens (s : State) (o : Obj) (sub st r : Nat) : (s.endStatus o sub st r).gens = s.gens := State.setStatus_gens _ _ _ _ _ _ _
@[simp] theorem State.endStatus_tdcs (s : State) (o : Obj) (sub st r : Nat) : (s.endStatus o sub st r).tdcs = s.tdcs := State.setStatus_tdcs _ _ _ _ _ _ _
@[simp] theorem State.endStatus_tio (s : State) (o : Obj) (sub st r : Nat) : (s.endStatus o sub st r).tio = s.tio := State.setStatus_tio _ _ _ _ _ _ _
@[simp] theorem State.endStatus_cellar (s : State) (o : Obj) (sub st r : Nat) : (s.endStatus o sub st r).cellar = s.cellar := State.setStatus_cellar _ _ _ _ _ _ _
@[simp] theorem State.endStatus_tables (s : State) (o : Obj) (sub st r : Nat) : (s.endStatus o sub st r).tables = s.tables := State.setStatus_tables _ _ _ _ _ _ _
@[simp] theorem State.endStatus_caravan (s : State) (o : Obj) (sub st r : Nat) : (s.endStatus o sub st r).caravan = s.caravan := State.setStatus_caravan _ _ _ _ _ _ _
@[simp] theorem State.endStatus_cal (s : State) (o : Obj) (sub st r : Nat) : (s.endStatus o sub st r).cal = s.cal := State.setStatus_cal _ _ _ _ _ _ _
@[simp] theorem State.endStatus_irq (s : State) (o : Obj) (sub st r : Nat) : (s.endStatus o sub st r).irq = s.irq := State.setStatus_irq _ _ _ _ _ _ _
@[simp] theorem State.endStatus_engines (s : State) (o : Obj) (sub st r : Nat) : (s.endStatus o sub st r).engines = s.engines := State.setStatus_engines _ _ _ _ _ _ _
@[simp] theorem State.endStatus_sems (s : State) (o : Obj) (sub st r : Nat) : (s.endStatus o sub st r).sems = s.sems := State.setStatus_sems _ _ _ _ _ _ _
@[simp] theorem State.endStatus_snap (s : State) (o : Obj) (sub st r : Nat) : (s.endStatus o sub st r).snap = s.snap := State.setStatus_snap _ _ _ _ _ _ _
@[simp] theorem State.endStatus_lantern (s : State) (o : Obj) (sub st r : Nat) : (s.endStatus o sub st r).lantern = s.lantern := State.setStatus_lantern _ _ _ _ _ _ _
@[simp] theorem State.endStatus_jtag (s : State) (o : Obj) (sub st r : Nat) : (s.endStatus o sub st r).jtag = s.jtag := State.setStatus_jtag _ _ _ _ _ _ _
@[simp] theorem State.endStatus_falri (s : State) (o : Obj) (sub st r : Nat) : (s.endStatus o sub st r).falri = s.falri := State.setStatus_falri _ _ _ _ _ _ _
@[simp] theorem State.endStatus_hier (s : State) (o : Obj) (sub st r : Nat) : (s.endStatus o sub st r).hier = s.hier := State.setStatus_hier _ _ _ _ _ _ _
@[simp] theorem State.endStatus_twin (s : State) (o : Obj) (sub st r : Nat) : (s.endStatus o sub st r).twin = s.twin := State.setStatus_twin _ _ _ _ _ _ _
@[simp] theorem State.endStatus_flash (s : State) (o : Obj) (sub st r : Nat) : (s.endStatus o sub st r).flash = s.flash := State.setStatus_flash _ _ _ _ _ _ _
@[simp] theorem State.endStatus_pantry (s : State) (o : Obj) (sub st r : Nat) : (s.endStatus o sub st r).pantry = s.pantry := State.setStatus_pantry _ _ _ _ _ _ _
@[simp] theorem State.endStatus_lane (s : State) (o : Obj) (sub st r : Nat) (m : Nat) : (s.endStatus o sub st r).lane m = s.lane m := State.setStatus_lane _ _ _ _ _ _ _ _
@[simp] theorem State.endStatus_lport (s : State) (o : Obj) (sub st r : Nat) (m : Nat) : (s.endStatus o sub st r).lport m = s.lport m := State.setStatus_lport _ _ _ _ _ _ _ _
@[simp] theorem State.endStatus_port (s : State) (o : Obj) (sub st r : Nat) (m : Nat) : (s.endStatus o sub st r).port m = s.port m := State.setStatus_port _ _ _ _ _ _ _ _
@[simp] theorem State.endStatus_group (s : State) (o : Obj) (sub st r : Nat) (m : Nat) : (s.endStatus o sub st r).group m = s.group m := State.setStatus_group _ _ _ _ _ _ _ _
@[simp] theorem State.endStatus_pll (s : State) (o : Obj) (sub st r : Nat) (m : Nat) : (s.endStatus o sub st r).pll m = s.pll m := State.setStatus_pll _ _ _ _ _ _ _ _
@[simp] theorem State.endStatus_clkout (s : State) (o : Obj) (sub st r : Nat) (m : Nat) : (s.endStatus o sub st r).clkout m = s.clkout m := State.setStatus_clkout _ _ _ _ _ _ _ _
@[simp] theorem State.endStatus_gen (s : State) (o : Obj) (sub st r : Nat) (m : Nat) : (s.endStatus o sub st r).gen m = s.gen m := State.setStatus_gen _ _ _ _ _ _ _ _
@[simp] theorem State.endStatus_tdc (s : State) (o : Obj) (sub st r : Nat) (m : Nat) : (s.endStatus o sub st r).tdc m = s.tdc m := State.setStatus_tdc _ _ _ _ _ _ _ _
@[simp] theorem State.endStatus_eng (s : State) (o : Obj) (sub st r : Nat) (m : Nat) : (s.endStatus o sub st r).eng m = s.eng m := State.setStatus_eng _ _ _ _ _ _ _ _
@[simp] theorem State.endStatus_held (s : State) (o : Obj) (sub st r : Nat) : (s.endStatus o sub st r).held = s.held := State.setStatus_held _ _ _ _ _ _ _
@[simp] theorem State.endStatus_blob (s : State) (o : Obj) (sub st r : Nat) (o' : Obj) (j : Nat) : (s.endStatus o sub st r).blob o' j = s.blob o' j := State.setStatus_blob _ _ _ _ _ _ _ _ _
@[simp] theorem State.endStatus_calRec (s : State) (o : Obj) (sub st r : Nat) (j m : Nat) : (s.endStatus o sub st r).calRec j m = s.calRec j m := State.setStatus_calRec _ _ _ _ _ _ _ _ _
theorem State.endStatus_obj_ne (s : State) (o : Obj) (sub st r : Nat) {o' : Obj} {j : Nat} (h : o'.key j ≠ o.key sub) : (s.endStatus o sub st r).obj o' j = s.obj o' j := State.obj_setObj_ne _ _ h
@[simp] theorem State.lateStatus_pending (s : State) (o : Obj) (sub c : Nat) : (s.lateStatus o sub c).pending = s.pending := State.setStatus_pending _ _ _ _ _ _ _
@[simp] theorem State.lateStatus_out (s : State) (o : Obj) (sub c : Nat) : (s.lateStatus o sub c).out = s.out := State.setStatus_out _ _ _ _ _ _ _
@[simp] theorem State.lateStatus_free (s : State) (o : Obj) (sub c : Nat) : (s.lateStatus o sub c).free = s.free := State.setStatus_free _ _ _ _ _ _ _
@[simp] theorem State.lateStatus_blobs (s : State) (o : Obj) (sub c : Nat) : (s.lateStatus o sub c).blobs = s.blobs := State.setStatus_blobs _ _ _ _ _ _ _
@[simp] theorem State.lateStatus_power (s : State) (o : Obj) (sub c : Nat) : (s.lateStatus o sub c).power = s.power := State.setStatus_power _ _ _ _ _ _ _
@[simp] theorem State.lateStatus_fuses (s : State) (o : Obj) (sub c : Nat) : (s.lateStatus o sub c).fuses = s.fuses := State.setStatus_fuses _ _ _ _ _ _ _
@[simp] theorem State.lateStatus_hearth (s : State) (o : Obj) (sub c : Nat) : (s.lateStatus o sub c).hearth = s.hearth := State.setStatus_hearth _ _ _ _ _ _ _
@[simp] theorem State.lateStatus_servo (s : State) (o : Obj) (sub c : Nat) : (s.lateStatus o sub c).servo = s.servo := State.setStatus_servo _ _ _ _ _ _ _
@[simp] theorem State.lateStatus_ports (s : State) (o : Obj) (sub c : Nat) : (s.lateStatus o sub c).ports = s.ports := State.setStatus_ports _ _ _ _ _ _ _
@[simp] theorem State.lateStatus_lanes (s : State) (o : Obj) (sub c : Nat) : (s.lateStatus o sub c).lanes = s.lanes := State.setStatus_lanes _ _ _ _ _ _ _
@[simp] theorem State.lateStatus_groups (s : State) (o : Obj) (sub c : Nat) : (s.lateStatus o sub c).groups = s.groups := State.setStatus_groups _ _ _ _ _ _ _
@[simp] theorem State.lateStatus_lports (s : State) (o : Obj) (sub c : Nat) : (s.lateStatus o sub c).lports = s.lports := State.setStatus_lports _ _ _ _ _ _ _
@[simp] theorem State.lateStatus_plls (s : State) (o : Obj) (sub c : Nat) : (s.lateStatus o sub c).plls = s.plls := State.setStatus_plls _ _ _ _ _ _ _
@[simp] theorem State.lateStatus_clkouts (s : State) (o : Obj) (sub c : Nat) : (s.lateStatus o sub c).clkouts = s.clkouts := State.setStatus_clkouts _ _ _ _ _ _ _
@[simp] theorem State.lateStatus_clk (s : State) (o : Obj) (sub c : Nat) : (s.lateStatus o sub c).clk = s.clk := State.setStatus_clk _ _ _ _ _ _ _
@[simp] theorem State.lateStatus_gens (s : State) (o : Obj) (sub c : Nat) : (s.lateStatus o sub c).gens = s.gens := State.setStatus_gens _ _ _ _ _ _ _
@[simp] theorem State.lateStatus_tdcs (s : State) (o : Obj) (sub c : Nat) : (s.lateStatus o sub c).tdcs = s.tdcs := State.setStatus_tdcs _ _ _ _ _ _ _
@[simp] theorem State.lateStatus_tio (s : State) (o : Obj) (sub c : Nat) : (s.lateStatus o sub c).tio = s.tio := State.setStatus_tio _ _ _ _ _ _ _
@[simp] theorem State.lateStatus_cellar (s : State) (o : Obj) (sub c : Nat) : (s.lateStatus o sub c).cellar = s.cellar := State.setStatus_cellar _ _ _ _ _ _ _
@[simp] theorem State.lateStatus_tables (s : State) (o : Obj) (sub c : Nat) : (s.lateStatus o sub c).tables = s.tables := State.setStatus_tables _ _ _ _ _ _ _
@[simp] theorem State.lateStatus_caravan (s : State) (o : Obj) (sub c : Nat) : (s.lateStatus o sub c).caravan = s.caravan := State.setStatus_caravan _ _ _ _ _ _ _
@[simp] theorem State.lateStatus_cal (s : State) (o : Obj) (sub c : Nat) : (s.lateStatus o sub c).cal = s.cal := State.setStatus_cal _ _ _ _ _ _ _
@[simp] theorem State.lateStatus_irq (s : State) (o : Obj) (sub c : Nat) : (s.lateStatus o sub c).irq = s.irq := State.setStatus_irq _ _ _ _ _ _ _
@[simp] theorem State.lateStatus_engines (s : State) (o : Obj) (sub c : Nat) : (s.lateStatus o sub c).engines = s.engines := State.setStatus_engines _ _ _ _ _ _ _
@[simp] theorem State.lateStatus_sems (s : State) (o : Obj) (sub c : Nat) : (s.lateStatus o sub c).sems = s.sems := State.setStatus_sems _ _ _ _ _ _ _
@[simp] theorem State.lateStatus_snap (s : State) (o : Obj) (sub c : Nat) : (s.lateStatus o sub c).snap = s.snap := State.setStatus_snap _ _ _ _ _ _ _
@[simp] theorem State.lateStatus_lantern (s : State) (o : Obj) (sub c : Nat) : (s.lateStatus o sub c).lantern = s.lantern := State.setStatus_lantern _ _ _ _ _ _ _
@[simp] theorem State.lateStatus_jtag (s : State) (o : Obj) (sub c : Nat) : (s.lateStatus o sub c).jtag = s.jtag := State.setStatus_jtag _ _ _ _ _ _ _
@[simp] theorem State.lateStatus_falri (s : State) (o : Obj) (sub c : Nat) : (s.lateStatus o sub c).falri = s.falri := State.setStatus_falri _ _ _ _ _ _ _
@[simp] theorem State.lateStatus_hier (s : State) (o : Obj) (sub c : Nat) : (s.lateStatus o sub c).hier = s.hier := State.setStatus_hier _ _ _ _ _ _ _
@[simp] theorem State.lateStatus_twin (s : State) (o : Obj) (sub c : Nat) : (s.lateStatus o sub c).twin = s.twin := State.setStatus_twin _ _ _ _ _ _ _
@[simp] theorem State.lateStatus_flash (s : State) (o : Obj) (sub c : Nat) : (s.lateStatus o sub c).flash = s.flash := State.setStatus_flash _ _ _ _ _ _ _
@[simp] theorem State.lateStatus_pantry (s : State) (o : Obj) (sub c : Nat) : (s.lateStatus o sub c).pantry = s.pantry := State.setStatus_pantry _ _ _ _ _ _ _
@[simp] theorem State.lateStatus_lane (s : State) (o : Obj) (sub c : Nat) (m : Nat) : (s.lateStatus o sub c).lane m = s.lane m := State.setStatus_lane _ _ _ _ _ _ _ _
@[simp] theorem State.lateStatus_lport (s : State) (o : Obj) (sub c : Nat) (m : Nat) : (s.lateStatus o sub c).lport m = s.lport m := State.setStatus_lport _ _ _ _ _ _ _ _
@[simp] theorem State.lateStatus_port (s : State) (o : Obj) (sub c : Nat) (m : Nat) : (s.lateStatus o sub c).port m = s.port m := State.setStatus_port _ _ _ _ _ _ _ _
@[simp] theorem State.lateStatus_group (s : State) (o : Obj) (sub c : Nat) (m : Nat) : (s.lateStatus o sub c).group m = s.group m := State.setStatus_group _ _ _ _ _ _ _ _
@[simp] theorem State.lateStatus_pll (s : State) (o : Obj) (sub c : Nat) (m : Nat) : (s.lateStatus o sub c).pll m = s.pll m := State.setStatus_pll _ _ _ _ _ _ _ _
@[simp] theorem State.lateStatus_clkout (s : State) (o : Obj) (sub c : Nat) (m : Nat) : (s.lateStatus o sub c).clkout m = s.clkout m := State.setStatus_clkout _ _ _ _ _ _ _ _
@[simp] theorem State.lateStatus_gen (s : State) (o : Obj) (sub c : Nat) (m : Nat) : (s.lateStatus o sub c).gen m = s.gen m := State.setStatus_gen _ _ _ _ _ _ _ _
@[simp] theorem State.lateStatus_tdc (s : State) (o : Obj) (sub c : Nat) (m : Nat) : (s.lateStatus o sub c).tdc m = s.tdc m := State.setStatus_tdc _ _ _ _ _ _ _ _
@[simp] theorem State.lateStatus_eng (s : State) (o : Obj) (sub c : Nat) (m : Nat) : (s.lateStatus o sub c).eng m = s.eng m := State.setStatus_eng _ _ _ _ _ _ _ _
@[simp] theorem State.lateStatus_held (s : State) (o : Obj) (sub c : Nat) : (s.lateStatus o sub c).held = s.held := State.setStatus_held _ _ _ _ _ _ _
@[simp] theorem State.lateStatus_blob (s : State) (o : Obj) (sub c : Nat) (o' : Obj) (j : Nat) : (s.lateStatus o sub c).blob o' j = s.blob o' j := State.setStatus_blob _ _ _ _ _ _ _ _ _
@[simp] theorem State.lateStatus_calRec (s : State) (o : Obj) (sub c : Nat) (j m : Nat) : (s.lateStatus o sub c).calRec j m = s.calRec j m := State.setStatus_calRec _ _ _ _ _ _ _ _ _
theorem State.lateStatus_obj_ne (s : State) (o : Obj) (sub c : Nat) {o' : Obj} {j : Nat} (h : o'.key j ≠ o.key sub) : (s.lateStatus o sub c).obj o' j = s.obj o' j := State.obj_setObj_ne _ _ h
@[simp] theorem State.clear_pending (s : State) (o : Obj) (m sub : Nat) : (s.clear o m sub).pending = s.pending := State.setObj_pending _ _ _ _
@[simp] theorem State.clear_out (s : State) (o : Obj) (m sub : Nat) : (s.clear o m sub).out = s.out := State.setObj_out _ _ _ _
@[simp] theorem State.clear_free (s : State) (o : Obj) (m sub : Nat) : (s.clear o m sub).free = s.free := State.setObj_free _ _ _ _
@[simp] theorem State.clear_blobs (s : State) (o : Obj) (m sub : Nat) : (s.clear o m sub).blobs = s.blobs := State.setObj_blobs _ _ _ _
@[simp] theorem State.clear_power (s : State) (o : Obj) (m sub : Nat) : (s.clear o m sub).power = s.power := State.setObj_power _ _ _ _
@[simp] theorem State.clear_fuses (s : State) (o : Obj) (m sub : Nat) : (s.clear o m sub).fuses = s.fuses := State.setObj_fuses _ _ _ _
@[simp] theorem State.clear_hearth (s : State) (o : Obj) (m sub : Nat) : (s.clear o m sub).hearth = s.hearth := State.setObj_hearth _ _ _ _
@[simp] theorem State.clear_servo (s : State) (o : Obj) (m sub : Nat) : (s.clear o m sub).servo = s.servo := State.setObj_servo _ _ _ _
@[simp] theorem State.clear_ports (s : State) (o : Obj) (m sub : Nat) : (s.clear o m sub).ports = s.ports := State.setObj_ports _ _ _ _
@[simp] theorem State.clear_lanes (s : State) (o : Obj) (m sub : Nat) : (s.clear o m sub).lanes = s.lanes := State.setObj_lanes _ _ _ _
@[simp] theorem State.clear_groups (s : State) (o : Obj) (m sub : Nat) : (s.clear o m sub).groups = s.groups := State.setObj_groups _ _ _ _
@[simp] theorem State.clear_lports (s : State) (o : Obj) (m sub : Nat) : (s.clear o m sub).lports = s.lports := State.setObj_lports _ _ _ _
@[simp] theorem State.clear_plls (s : State) (o : Obj) (m sub : Nat) : (s.clear o m sub).plls = s.plls := State.setObj_plls _ _ _ _
@[simp] theorem State.clear_clkouts (s : State) (o : Obj) (m sub : Nat) : (s.clear o m sub).clkouts = s.clkouts := State.setObj_clkouts _ _ _ _
@[simp] theorem State.clear_clk (s : State) (o : Obj) (m sub : Nat) : (s.clear o m sub).clk = s.clk := State.setObj_clk _ _ _ _
@[simp] theorem State.clear_gens (s : State) (o : Obj) (m sub : Nat) : (s.clear o m sub).gens = s.gens := State.setObj_gens _ _ _ _
@[simp] theorem State.clear_tdcs (s : State) (o : Obj) (m sub : Nat) : (s.clear o m sub).tdcs = s.tdcs := State.setObj_tdcs _ _ _ _
@[simp] theorem State.clear_tio (s : State) (o : Obj) (m sub : Nat) : (s.clear o m sub).tio = s.tio := State.setObj_tio _ _ _ _
@[simp] theorem State.clear_cellar (s : State) (o : Obj) (m sub : Nat) : (s.clear o m sub).cellar = s.cellar := State.setObj_cellar _ _ _ _
@[simp] theorem State.clear_tables (s : State) (o : Obj) (m sub : Nat) : (s.clear o m sub).tables = s.tables := State.setObj_tables _ _ _ _
@[simp] theorem State.clear_caravan (s : State) (o : Obj) (m sub : Nat) : (s.clear o m sub).caravan = s.caravan := State.setObj_caravan _ _ _ _
@[simp] theorem State.clear_cal (s : State) (o : Obj) (m sub : Nat) : (s.clear o m sub).cal = s.cal := State.setObj_cal _ _ _ _
@[simp] theorem State.clear_irq (s : State) (o : Obj) (m sub : Nat) : (s.clear o m sub).irq = s.irq := State.setObj_irq _ _ _ _
@[simp] theorem State.clear_engines (s : State) (o : Obj) (m sub : Nat) : (s.clear o m sub).engines = s.engines := State.setObj_engines _ _ _ _
@[simp] theorem State.clear_sems (s : State) (o : Obj) (m sub : Nat) : (s.clear o m sub).sems = s.sems := State.setObj_sems _ _ _ _
@[simp] theorem State.clear_snap (s : State) (o : Obj) (m sub : Nat) : (s.clear o m sub).snap = s.snap := State.setObj_snap _ _ _ _
@[simp] theorem State.clear_lantern (s : State) (o : Obj) (m sub : Nat) : (s.clear o m sub).lantern = s.lantern := State.setObj_lantern _ _ _ _
@[simp] theorem State.clear_jtag (s : State) (o : Obj) (m sub : Nat) : (s.clear o m sub).jtag = s.jtag := State.setObj_jtag _ _ _ _
@[simp] theorem State.clear_falri (s : State) (o : Obj) (m sub : Nat) : (s.clear o m sub).falri = s.falri := State.setObj_falri _ _ _ _
@[simp] theorem State.clear_hier (s : State) (o : Obj) (m sub : Nat) : (s.clear o m sub).hier = s.hier := State.setObj_hier _ _ _ _
@[simp] theorem State.clear_twin (s : State) (o : Obj) (m sub : Nat) : (s.clear o m sub).twin = s.twin := State.setObj_twin _ _ _ _
@[simp] theorem State.clear_flash (s : State) (o : Obj) (m sub : Nat) : (s.clear o m sub).flash = s.flash := State.setObj_flash _ _ _ _
@[simp] theorem State.clear_pantry (s : State) (o : Obj) (m sub : Nat) : (s.clear o m sub).pantry = s.pantry := State.setObj_pantry _ _ _ _
@[simp] theorem State.clear_lane (s : State) (o : Obj) (m sub : Nat) (m : Nat) : (s.clear o m sub).lane m = s.lane m := State.setObj_lane _ _ _ _ _
@[simp] theorem State.clear_lport (s : State) (o : Obj) (m sub : Nat) (m : Nat) : (s.clear o m sub).lport m = s.lport m := State.setObj_lport _ _ _ _ _
@[simp] theorem State.clear_port (s : State) (o : Obj) (m sub : Nat) (m : Nat) : (s.clear o m sub).port m = s.port m := State.setObj_port _ _ _ _ _
@[simp] theorem State.clear_group (s : State) (o : Obj) (m sub : Nat) (m : Nat) : (s.clear o m sub).group m = s.group m := State.setObj_group _ _ _ _ _
@[simp] theorem State.clear_pll (s : State) (o : Obj) (m sub : Nat) (m : Nat) : (s.clear o m sub).pll m = s.pll m := State.setObj_pll _ _ _ _ _
@[simp] theorem State.clear_clkout (s : State) (o : Obj) (m sub : Nat) (m : Nat) : (s.clear o m sub).clkout m = s.clkout m := State.setObj_clkout _ _ _ _ _
@[simp] theorem State.clear_gen (s : State) (o : Obj) (m sub : Nat) (m : Nat) : (s.clear o m sub).gen m = s.gen m := State.setObj_gen _ _ _ _ _
@[simp] theorem State.clear_tdc (s : State) (o : Obj) (m sub : Nat) (m : Nat) : (s.clear o m sub).tdc m = s.tdc m := State.setObj_tdc _ _ _ _ _
@[simp] theorem State.clear_eng (s : State) (o : Obj) (m sub : Nat) (m : Nat) : (s.clear o m sub).eng m = s.eng m := State.setObj_eng _ _ _ _ _
@[simp] theorem State.clear_held (s : State) (o : Obj) (m sub : Nat) : (s.clear o m sub).held = s.held := State.setObj_held _ _ _ _
@[simp] theorem State.clear_blob (s : State) (o : Obj) (m sub : Nat) (o' : Obj) (j : Nat) : (s.clear o m sub).blob o' j = s.blob o' j := State.setObj_blob _ _ _ _ _ _
@[simp] theorem State.clear_calRec (s : State) (o : Obj) (m sub : Nat) (j m : Nat) : (s.clear o m sub).calRec j m = s.calRec j m := State.setObj_calRec _ _ _ _ _ _
theorem State.clear_obj_ne (s : State) (o : Obj) (m sub : Nat) {o' : Obj} {j : Nat} (h : o'.key j ≠ o.key sub) : (s.clear o m sub).obj o' j = s.obj o' j := State.obj_setObj_ne _ _ h
@[simp] theorem State.count_pending (s : State) (o : Obj) (sub n : Nat) : (s.count o sub n).pending = s.pending := by obtain ⟨v, h⟩ := s.count_setObj o sub n; rw [h]; exact State.setObj_pending _ _ _ _
@[simp] theorem State.count_out (s : State) (o : Obj) (sub n : Nat) : (s.count o sub n).out = s.out := by obtain ⟨v, h⟩ := s.count_setObj o sub n; rw [h]; exact State.setObj_out _ _ _ _
@[simp] theorem State.count_free (s : State) (o : Obj) (sub n : Nat) : (s.count o sub n).free = s.free := by obtain ⟨v, h⟩ := s.count_setObj o sub n; rw [h]; exact State.setObj_free _ _ _ _
@[simp] theorem State.count_blobs (s : State) (o : Obj) (sub n : Nat) : (s.count o sub n).blobs = s.blobs := by obtain ⟨v, h⟩ := s.count_setObj o sub n; rw [h]; exact State.setObj_blobs _ _ _ _
@[simp] theorem State.count_power (s : State) (o : Obj) (sub n : Nat) : (s.count o sub n).power = s.power := by obtain ⟨v, h⟩ := s.count_setObj o sub n; rw [h]; exact State.setObj_power _ _ _ _
@[simp] theorem State.count_fuses (s : State) (o : Obj) (sub n : Nat) : (s.count o sub n).fuses = s.fuses := by obtain ⟨v, h⟩ := s.count_setObj o sub n; rw [h]; exact State.setObj_fuses _ _ _ _
@[simp] theorem State.count_hearth (s : State) (o : Obj) (sub n : Nat) : (s.count o sub n).hearth = s.hearth := by obtain ⟨v, h⟩ := s.count_setObj o sub n; rw [h]; exact State.setObj_hearth _ _ _ _
@[simp] theorem State.count_servo (s : State) (o : Obj) (sub n : Nat) : (s.count o sub n).servo = s.servo := by obtain ⟨v, h⟩ := s.count_setObj o sub n; rw [h]; exact State.setObj_servo _ _ _ _
@[simp] theorem State.count_ports (s : State) (o : Obj) (sub n : Nat) : (s.count o sub n).ports = s.ports := by obtain ⟨v, h⟩ := s.count_setObj o sub n; rw [h]; exact State.setObj_ports _ _ _ _
@[simp] theorem State.count_lanes (s : State) (o : Obj) (sub n : Nat) : (s.count o sub n).lanes = s.lanes := by obtain ⟨v, h⟩ := s.count_setObj o sub n; rw [h]; exact State.setObj_lanes _ _ _ _
@[simp] theorem State.count_groups (s : State) (o : Obj) (sub n : Nat) : (s.count o sub n).groups = s.groups := by obtain ⟨v, h⟩ := s.count_setObj o sub n; rw [h]; exact State.setObj_groups _ _ _ _
@[simp] theorem State.count_lports (s : State) (o : Obj) (sub n : Nat) : (s.count o sub n).lports = s.lports := by obtain ⟨v, h⟩ := s.count_setObj o sub n; rw [h]; exact State.setObj_lports _ _ _ _
@[simp] theorem State.count_plls (s : State) (o : Obj) (sub n : Nat) : (s.count o sub n).plls = s.plls := by obtain ⟨v, h⟩ := s.count_setObj o sub n; rw [h]; exact State.setObj_plls _ _ _ _
@[simp] theorem State.count_clkouts (s : State) (o : Obj) (sub n : Nat) : (s.count o sub n).clkouts = s.clkouts := by obtain ⟨v, h⟩ := s.count_setObj o sub n; rw [h]; exact State.setObj_clkouts _ _ _ _
@[simp] theorem State.count_clk (s : State) (o : Obj) (sub n : Nat) : (s.count o sub n).clk = s.clk := by obtain ⟨v, h⟩ := s.count_setObj o sub n; rw [h]; exact State.setObj_clk _ _ _ _
@[simp] theorem State.count_gens (s : State) (o : Obj) (sub n : Nat) : (s.count o sub n).gens = s.gens := by obtain ⟨v, h⟩ := s.count_setObj o sub n; rw [h]; exact State.setObj_gens _ _ _ _
@[simp] theorem State.count_tdcs (s : State) (o : Obj) (sub n : Nat) : (s.count o sub n).tdcs = s.tdcs := by obtain ⟨v, h⟩ := s.count_setObj o sub n; rw [h]; exact State.setObj_tdcs _ _ _ _
@[simp] theorem State.count_tio (s : State) (o : Obj) (sub n : Nat) : (s.count o sub n).tio = s.tio := by obtain ⟨v, h⟩ := s.count_setObj o sub n; rw [h]; exact State.setObj_tio _ _ _ _
@[simp] theorem State.count_cellar (s : State) (o : Obj) (sub n : Nat) : (s.count o sub n).cellar = s.cellar := by obtain ⟨v, h⟩ := s.count_setObj o sub n; rw [h]; exact State.setObj_cellar _ _ _ _
@[simp] theorem State.count_tables (s : State) (o : Obj) (sub n : Nat) : (s.count o sub n).tables = s.tables := by obtain ⟨v, h⟩ := s.count_setObj o sub n; rw [h]; exact State.setObj_tables _ _ _ _
@[simp] theorem State.count_caravan (s : State) (o : Obj) (sub n : Nat) : (s.count o sub n).caravan = s.caravan := by obtain ⟨v, h⟩ := s.count_setObj o sub n; rw [h]; exact State.setObj_caravan _ _ _ _
@[simp] theorem State.count_cal (s : State) (o : Obj) (sub n : Nat) : (s.count o sub n).cal = s.cal := by obtain ⟨v, h⟩ := s.count_setObj o sub n; rw [h]; exact State.setObj_cal _ _ _ _
@[simp] theorem State.count_irq (s : State) (o : Obj) (sub n : Nat) : (s.count o sub n).irq = s.irq := by obtain ⟨v, h⟩ := s.count_setObj o sub n; rw [h]; exact State.setObj_irq _ _ _ _
@[simp] theorem State.count_engines (s : State) (o : Obj) (sub n : Nat) : (s.count o sub n).engines = s.engines := by obtain ⟨v, h⟩ := s.count_setObj o sub n; rw [h]; exact State.setObj_engines _ _ _ _
@[simp] theorem State.count_sems (s : State) (o : Obj) (sub n : Nat) : (s.count o sub n).sems = s.sems := by obtain ⟨v, h⟩ := s.count_setObj o sub n; rw [h]; exact State.setObj_sems _ _ _ _
@[simp] theorem State.count_snap (s : State) (o : Obj) (sub n : Nat) : (s.count o sub n).snap = s.snap := by obtain ⟨v, h⟩ := s.count_setObj o sub n; rw [h]; exact State.setObj_snap _ _ _ _
@[simp] theorem State.count_lantern (s : State) (o : Obj) (sub n : Nat) : (s.count o sub n).lantern = s.lantern := by obtain ⟨v, h⟩ := s.count_setObj o sub n; rw [h]; exact State.setObj_lantern _ _ _ _
@[simp] theorem State.count_jtag (s : State) (o : Obj) (sub n : Nat) : (s.count o sub n).jtag = s.jtag := by obtain ⟨v, h⟩ := s.count_setObj o sub n; rw [h]; exact State.setObj_jtag _ _ _ _
@[simp] theorem State.count_falri (s : State) (o : Obj) (sub n : Nat) : (s.count o sub n).falri = s.falri := by obtain ⟨v, h⟩ := s.count_setObj o sub n; rw [h]; exact State.setObj_falri _ _ _ _
@[simp] theorem State.count_hier (s : State) (o : Obj) (sub n : Nat) : (s.count o sub n).hier = s.hier := by obtain ⟨v, h⟩ := s.count_setObj o sub n; rw [h]; exact State.setObj_hier _ _ _ _
@[simp] theorem State.count_twin (s : State) (o : Obj) (sub n : Nat) : (s.count o sub n).twin = s.twin := by obtain ⟨v, h⟩ := s.count_setObj o sub n; rw [h]; exact State.setObj_twin _ _ _ _
@[simp] theorem State.count_flash (s : State) (o : Obj) (sub n : Nat) : (s.count o sub n).flash = s.flash := by obtain ⟨v, h⟩ := s.count_setObj o sub n; rw [h]; exact State.setObj_flash _ _ _ _
@[simp] theorem State.count_pantry (s : State) (o : Obj) (sub n : Nat) : (s.count o sub n).pantry = s.pantry := by obtain ⟨v, h⟩ := s.count_setObj o sub n; rw [h]; exact State.setObj_pantry _ _ _ _
@[simp] theorem State.count_lane (s : State) (o : Obj) (sub n : Nat) (m : Nat) : (s.count o sub n).lane m = s.lane m := by obtain ⟨v, h⟩ := s.count_setObj o sub n; rw [h]; exact State.setObj_lane _ _ _ _ _
@[simp] theorem State.count_lport (s : State) (o : Obj) (sub n : Nat) (m : Nat) : (s.count o sub n).lport m = s.lport m := by obtain ⟨v, h⟩ := s.count_setObj o sub n; rw [h]; exact State.setObj_lport _ _ _ _ _
@[simp] theorem State.count_port (s : State) (o : Obj) (sub n : Nat) (m : Nat) : (s.count o sub n).port m = s.port m := by obtain ⟨v, h⟩ := s.count_setObj o sub n; rw [h]; exact State.setObj_port _ _ _ _ _
@[simp] theorem State.count_group (s : State) (o : Obj) (sub n : Nat) (m : Nat) : (s.count o sub n).group m = s.group m := by obtain ⟨v, h⟩ := s.count_setObj o sub n; rw [h]; exact State.setObj_group _ _ _ _ _
@[simp] theorem State.count_pll (s : State) (o : Obj) (sub n : Nat) (m : Nat) : (s.count o sub n).pll m = s.pll m := by obtain ⟨v, h⟩ := s.count_setObj o sub n; rw [h]; exact State.setObj_pll _ _ _ _ _
@[simp] theorem State.count_clkout (s : State) (o : Obj) (sub n : Nat) (m : Nat) : (s.count o sub n).clkout m = s.clkout m := by obtain ⟨v, h⟩ := s.count_setObj o sub n; rw [h]; exact State.setObj_clkout _ _ _ _ _
@[simp] theorem State.count_gen (s : State) (o : Obj) (sub n : Nat) (m : Nat) : (s.count o sub n).gen m = s.gen m := by obtain ⟨v, h⟩ := s.count_setObj o sub n; rw [h]; exact State.setObj_gen _ _ _ _ _
@[simp] theorem State.count_tdc (s : State) (o : Obj) (sub n : Nat) (m : Nat) : (s.count o sub n).tdc m = s.tdc m := by obtain ⟨v, h⟩ := s.count_setObj o sub n; rw [h]; exact State.setObj_tdc _ _ _ _ _
@[simp] theorem State.count_eng (s : State) (o : Obj) (sub n : Nat) (m : Nat) : (s.count o sub n).eng m = s.eng m := by obtain ⟨v, h⟩ := s.count_setObj o sub n; rw [h]; exact State.setObj_eng _ _ _ _ _
@[simp] theorem State.count_held (s : State) (o : Obj) (sub n : Nat) : (s.count o sub n).held = s.held := by obtain ⟨v, h⟩ := s.count_setObj o sub n; rw [h]; exact State.setObj_held _ _ _ _
@[simp] theorem State.count_blob (s : State) (o : Obj) (sub n : Nat) (o' : Obj) (j : Nat) : (s.count o sub n).blob o' j = s.blob o' j := by obtain ⟨v, h⟩ := s.count_setObj o sub n; rw [h]; exact State.setObj_blob _ _ _ _ _ _
@[simp] theorem State.count_calRec (s : State) (o : Obj) (sub n : Nat) (j m : Nat) : (s.count o sub n).calRec j m = s.calRec j m := by obtain ⟨v, h⟩ := s.count_setObj o sub n; rw [h]; exact State.setObj_calRec _ _ _ _ _ _

end Sys2Proof.Machine
end

