-- ==== Sys2Proof/Laws/Shared.lean ====
section
/-! SUPPORT. The frames of operations that several chapters share: command words, training, calibration triggers, traps and the reset
of an engine. -/

namespace Sys2Proof.Machine

variable {s t : State} {l : List Part} {ks : List Nat}

/-- A command's outcome touches its status word alone. -/
theorem State.only_cmdStatus {o : Obj} {sub : Nat} (c st r : Nat) (h : t.only s l ks) (hk : o.key sub ∈ ks) :
    (t.cmdStatus o sub c st r).only s l ks := State.only_setStatus _ _ _ _ h hk

/-- The outcome of the command in progress touches its status word alone. -/
theorem State.only_endStatus {o : Obj} {sub : Nat} (st r : Nat) (h : t.only s l ks) (hk : o.key sub ∈ ks) :
    (t.endStatus o sub st r).only s l ks := State.only_setStatus _ _ _ _ h hk

/-- A trap touches one engine, and the count of the slots that its entry loses (R436, R492). -/
theorem State.only_trapTo (e c v : Nat) (h : t.only s l ks) (hl : .engines ∈ l) (hk : O.ENG_SLOT_BAD_SPEC.key (e + 1) ∈ ks) :
    (t.trapTo e c v).only s l ks := State.only_count _ _ _ (State.only_modEng _ _ h hl) hk

/-- An instruction that retires touches one engine, and the count of its slots (R437, R492). -/
theorem State.only_retire (e : Nat) (h : t.only s l ks) (hl : .engines ∈ l) (hk : O.ENG_SLOT_RETIRE.key (e + 1) ∈ ks) :
    (t.retire e).only s l ks := State.only_count _ _ _ (State.only_modEng _ _ h hl) hk

/-- A trigger of a calibration touches the plan alone (R463). -/
theorem State.only_calTrigger (k i : Nat) (h : t.only s l ks) (hl : .cal ∈ l) : (t.calTrigger k i).only s l ks :=
  State.only_modCal _ _ _ h hl

/-- A lane's SLICER trigger touches the plan alone (R466). -/
theorem State.only_calTriggerLane (n : Nat) (h : t.only s l ks) (hl : .cal ∈ l) : (t.calTriggerLane n).only s l ks := by
  unfold State.calTriggerLane
  split
  · exact State.only_modCal _ _ _ h hl
  · exact State.only_calTrigger _ _ h hl

/-- What a training does to the plan touches the plan alone (R463). -/
theorem State.only_calTrain (n : Nat) (h : t.only s l ks) (hl : .cal ∈ l) : (t.calTrain n).only s l ks := by
  have g1 := State.only_calTrigger 1 n h hl
  unfold State.calTrain
  refine State.only_modCal _ _ _ (State.only_calTrigger _ _ ?_ hl) hl
  exact State.only_modCal _ _ _ g1 hl

/-- An abandoned run touches the plan alone (R467). -/
theorem State.only_calAbandon (k i : Nat) (h : t.only s l ks) (hl : .cal ∈ l) : (t.calAbandon k i).only s l ks :=
  State.only_modCal _ _ _ h hl

/-- The start of a training touches the lane, its state and its taps, and the plan of calibration (R83, R463). -/
theorem State.only_startTraining (n : Nat) (h : t.only s l ks) (hc : .cal ∈ l) (hl : .lanes ∈ l)
    (h1 : O.LINK_STATE.key (n + 1) ∈ ks) (h2 : O.TX_TAPS.key (n + 1) ∈ ks) : (t.startTraining n).only s l ks :=
  State.only_setObj _ (State.only_modLane _ _ (State.only_setObj _ (State.only_calTrain n h hc) h1) hl) h2

/-- A training that is aborted touches the lane, its state and its status word (R89). -/
theorem State.only_abortTraining (n : Nat) (h : t.only s l ks) (hl : .lanes ∈ l) (h1 : O.LINK_STATE.key (n + 1) ∈ ks)
    (h2 : O.LINK_CMD_STATUS.key (n + 1) ∈ ks) : (t.abortTraining n).only s l ks :=
  State.only_endStatus _ _ (State.only_modLane _ _ (State.only_setObj _ h h1) hl) h2

/-- A failed training touches the lane, its state and its status word, and raises a flag for two of the reasons (R103, R104). -/
theorem State.only_failTraining (n r : Nat) (h : t.only s l ks) (hl : .lanes ∈ l) (hp : ∀ p ∈ flagParts, p ∈ l)
    (h1 : O.LINK_STATE.key (n + 1) ∈ ks) (h2 : O.LINK_CMD_STATUS.key (n + 1) ∈ ks)
    (hf : ∀ k ∈ flagKeys O.LINK_FLAGS (n + 1), k ∈ ks) : (t.failTraining n r).only s l ks := by
  have g := State.only_endStatus (o := O.LINK_CMD_STATUS) (sub := n + 1) 5 r (State.only_modLane n
    (fun l => { l with failed := true, abortWait := false, decided := false }) (State.only_setObj (o := O.LINK_STATE) (sub := n + 1) 0 h h1) hl) h2
  unfold State.failTraining
  dsimp only
  split
  · exact State.only_abortTraining n h hl h1 h2
  · split
    · exact State.only_raise _ _ g hp hf
    · split
      · exact State.only_raise _ _ g hp hf
      · exact g

/-- A completion touches the interrupt controller and the engines that it wakes (R454, R455). -/
theorem State.only_completeSrc (n : Nat) (h : t.only s l ks) (hl : .irq ∈ l) (hw : ∀ k ∈ wakeKeys, k ∈ ks) :
    (t.completeSrc n).only s l ks := State.only_irqPresent (State.only_modSrc _ _ h hl) hl hw

/-- The completion of all sources of an engine touches the interrupt controller and the engines that it wakes (R445). -/
theorem State.only_completeAll (e : Nat) (h : t.only s l ks) (hl : .irq ∈ l) (hw : ∀ k ∈ wakeKeys, k ∈ ks) :
    (t.completeAll e).only s l ks := by
  unfold State.completeAll
  exact State.only_forEach _ (fun u n => State.only_completeSrc n (State.only_refl u l ks) hl hw) h

end Sys2Proof.Machine
end

