-- ==== Sys2Proof/Tests/Slice0.lean ====
section
/-! SUPPORT. Tests: an ill-formed term for each check, the worked examples of the spec, and for each obligation with hypotheses a
witness: concrete states and operands that meet the hypotheses of each of its clauses, at the edge of the range where a clause has one. -/

namespace Sys2Proof.Tests

open Sys2Proof Sys2Proof.Machine

section
set_option maxRecDepth 100000
set_option Elab.async false
set_option linter.unusedVariables false

/-- The state after reset. -/
def w : State := State.reset

/-- A header of a request with no field set. -/
def h0 : FalriHdr := ⟨0, 0, 0, 0, 0, none⟩

/-- A PTP message of a kind. -/
def ptp (k : PtpKind) (two slave : Bool) : PtpMsg := ⟨k, 0, 0, 0, two, 0, 0, 0, slave⟩

/-- A sample with no field set. -/
def sample0 : Sample := ⟨0, 0, 0, false, false, false, 0⟩

/-- A time on the line with no phase code. -/
def line0 : LineTime := ⟨0, []⟩

/-- An arrival at the port's first lane. -/
def arr0 : Arrival := ⟨line0, 0⟩

/-- A frame of octets of 0 with this length, its FCS not counted, and end. -/
def frame0 (len : Nat) (e : FrameEnd) : Frame := ⟨List.replicate len 0, [], e, arr0, 0⟩

/-- A descriptor of frame 0 with no field set. -/
def desc0 : Desc := ⟨0, 0, 0, false, false, false, 0, 0, none, 0, false, false, 0, 0, .shared, false, 0, false⟩

/-- A frame held, of 60 octets of 0. -/
def stored0 : Stored := ⟨List.replicate 60 0, 0, 0, .shared, 1, none⟩

/-- Group 0 in native mode with its TPLL locked, lane 0 in training in this LINK_STATE. -/
def trn (st : Nat) : State :=
  ((w.modGroup 0 fun g => { g with sfcOn := true }).setObj O.PLL_STATE 2 2).setObj O.LINK_STATE st 1

/-- A HEARTH cycle of 1 ns, and this many of them since the start. -/
def tm (n : Nat) : State := (w.modHearth fun h => { h with cycles := n }).setObj O.HEARTH_INC (2 ^ 40)

/-- CLKOUT0 with a multiplier of 50 and a divider of 4,096. -/
def clkSt : State := (w.setObj O.CLKOUT_DIV 4096 1).setObj O.OPLL_MULT 50 1

/-- Port 0 in service as an Ethernet port that speaks PTP as a boundary clock. -/
def bcSt : State := ((w.modGroup 0 fun g => { g with mode := 2 }).modLPort 0 fun l => { l with up := true }).setObj O.PORT_PTP_MODE 2 1

/-- The key of an untagged frame of port 0 to the address 0. -/
def l2Key (s : State) : Nat := s.obj O.PORT_PVID 1 * 2 ^ 48

/-- Port 0 on Ethernet, and an L2 entry for the address 0 with this result. -/
def l2St (result : Nat) : State :=
  let s := (((w.modGroup 0 fun g => { g with mode := 2 }).setObj O.PORT_LEARN 0 1).setObj O.PORT_PTP_MODE 0 1).setObj O.PORT_VLAN_FILTER 0 1
  s.setEm ((s.probes 0 (l2Key w)).headD 0) (emMake 0 (l2Key w) result)

/-- Ring 0 running, with one descriptor at address 0: its operation, W1, W2 and image. -/
def dma (op w1 w2 img : Nat) : State :=
  (((w.setObj O.TDMA_STATUS 512 1).setObj O.TDMA_SIZE 4 1).setObj O.TDMA_HEAD 1 1).pantryWrite 0
    (leBytes 4 (2 ^ 31 + op * 2 ^ 16) ++ leBytes 4 w1 ++ leBytes 4 w2 ++ leBytes 4 0 ++ leBytes 16 img)

/-- The first location that a key of 0 is looked for at. -/
def em0 : Nat := (w.probes 0 0).headD 0

/-- The length of a value of an object. -/
def valueLen (s : State) (o : Obj) (sub : Nat) : Nat := if o.isBlob then (s.viewBlob o sub).len else o.ty.bytes

/-- The lengths of the values that a commit writes. -/
def commitLens (s : State) : List Nat :=
  (O.all.filter fun o => o.acc == .rws).flatMap fun o =>
    o.indices.flatMap fun i => o.subs.map fun sub => valueLen s { o with index := i, last := i } sub

theorem beBytes_length (n v : Nat) : (beBytes n v).length = n := by
  induction n with
  | zero => rfl
  | succ n ih => simp [beBytes, ih]

theorem valueBytes_length (s : State) (o : Obj) (sub : Nat) : (s.valueBytes o sub).length = valueLen s o sub := by
  unfold State.valueBytes valueLen
  split <;> simp [Blob.bytes, beBytes_length]

/-- A record is as long as its value and at most 11 octets more. -/
theorem objRecord_length (s : State) (o : Obj) (sub : Nat) :
    valueLen s o sub ≤ (s.objRecord o sub).length ∧ (s.objRecord o sub).length ≤ valueLen s o sub + 11 := by
  simp only [State.objRecord, recordBytes, List.length_append, beBytes_length, valueBytes_length, List.length_replicate]
  omega

theorem flatMap_length_le {α : Type} (f : α → Bytes) (g : α → List Nat) (h : ∀ a, (f a).length ≤ (g a).sum + 11 * (g a).length) (l : List α) :
    (l.flatMap f).length ≤ (l.flatMap g).sum + 11 * (l.flatMap g).length := by
  induction l with
  | nil => simp
  | cons a l ih => have := h a; simp only [List.flatMap_cons, List.length_append, List.sum_append]; omega

theorem le_flatMap_length {α : Type} (f : α → Bytes) (g : α → List Nat) (h : ∀ a, (g a).sum ≤ (f a).length) (l : List α) :
    (l.flatMap g).sum ≤ (l.flatMap f).length := by
  induction l with
  | nil => simp
  | cons a l ih => have := h a; simp only [List.flatMap_cons, List.length_append, List.sum_append]; omega

theorem map_eq_flatMap {α : Type} (f : α → Nat) (l : List α) : l.map f = l.flatMap fun a => [f a] := by
  induction l with
  | nil => rfl
  | cons a l ih => simp [ih]

theorem commitBody_length_le (s : State) : s.commitBody.length ≤ (commitLens s).sum + 11 * (commitLens s).length := by
  unfold State.commitBody commitLens
  refine flatMap_length_le _ _ (fun o => flatMap_length_le _ _ (fun i => ?_) _) _
  rw [map_eq_flatMap]
  exact flatMap_length_le _ _ (fun sub => by have := (objRecord_length s { o with index := i, last := i } sub).2; simpa using this) _

theorem le_commitBody_length (s : State) : (commitLens s).sum ≤ s.commitBody.length := by
  unfold State.commitBody commitLens
  refine le_flatMap_length _ _ (fun o => le_flatMap_length _ _ (fun i => ?_) _) _
  rw [map_eq_flatMap]
  exact le_flatMap_length _ _ (fun sub => by have := (objRecord_length s { o with index := i, last := i } sub).1; simpa using this) _

theorem commit_small : (commitLens w).sum + 11 * (commitLens w).length ≤ bodyMax := by decide +kernel
theorem commit_large : bodyMax < (commitLens (w.setBlob O.VLAN_MEMBERS ⟨2 ^ 23, []⟩)).sum := by decide +kernel

/-- A header to HERE. -/
def h1 : FalriHdr := ⟨0, 0xC000, 0, 0, 0, none⟩

/-- Engine 0 running with interrupts enabled, and its source 256 pending and enabled at priority 1. -/
def irqSt : State :=
  ((((w.setObj O.ENG_STATE 1 1).modEng 0 fun e => { e with mie := true, meie := true }).setSrcCfg 256 0x81000000).modSrc 256
    fun r => { r with st := .pending })

/-- The host's source 0 pending and enabled at priority 1. -/
def hostSt : State := (w.setSrcCfg 0 0x81C00000).modSrc 0 fun r => { r with st := .pending }

/-- A user image of one word of 0. -/
def uimg : Bytes :=
  let a := beBytes 4 0x55535245 ++ beBytes 4 4 ++ beBytes 4 0 ++ beBytes 4 0
  let z := beBytes 4 0x485000A2 ++ List.replicate 8 0 ++ List.replicate 4 0
  a ++ beBytes 4 (crc32 (a ++ z)) ++ z

/-- User engine 10 with that image. -/
def uSt : State := w.setBlob O.USER_IMAGE (Blob.of uimg) 1

/-- The part held in reset, its step used. -/
def heldSt : State := { w with power := { w.power with railDown := true }, hearth := { w.hearth with stepUsed := true } }

/-- One calibration in a state. -/
def calSt (kind inst st : Nat) : State := w.modCal kind inst fun r => { r with state := st }

theorem get_const (v n d : Nat) : ∀ a, Tab.get ((List.range' a n).map fun i => (i, v)) 0 d = if a ≤ d ∧ d < a + n then v else 0 := by
  induction n with
  | zero => intro a; simp only [List.range'_zero, List.map_nil, Tab.get]; rw [if_neg (by omega)]
  | succ n ih =>
    intro a
    simp only [List.range'_succ, List.map_cons, Tab.get, ih]
    split
    · next h => rw [if_pos (by omega)]
    · next h => split <;> split <;> first | rfl | omega

/-- Every device identity is taken, by the serial number 1. -/
def idSt : State :=
  { w with power := { w.power with straps := 1 }, hier := { w.hier with idMap := (List.range' 3 1021).map fun i => (i, 1) } }

theorem idSt_get (d : Nat) (h : d ∈ (List.range 1021).map (· + 3)) : Tab.get idSt.hier.idMap 0 d = 1 := by
  obtain ⟨i, hi, rfl⟩ := List.mem_map.1 h
  have := List.mem_range.1 hi
  exact (get_const 1 1021 (i + 3) 3).trans (if_pos (by omega))

theorem idFor_none (s : State) (x : Nat)
    (h : ∀ d ∈ (List.range 1021).map (· + 3), Tab.get s.hier.idMap 0 d ≠ x ∧ Tab.get s.hier.idMap 0 d ≠ 0) : s.idFor x = none := by
  unfold State.idFor
  rw [List.find?_eq_none.2 fun d hd => by simpa using (h d hd).1, List.find?_eq_none.2 fun d hd => by simpa using (h d hd).2]

/-- No identity is left for another serial number. -/
theorem idSt_idFor : idSt.idFor 2 = none :=
  idFor_none idSt 2 fun d hd => by rw [idSt_get d hd]; exact ⟨by omega, by omega⟩

/-! ## Ill-formed commands, one for each check -/

theorem test_itemsBare_refuses : (Instr.read .hbus h0 ⟨0x2010, 0, [1]⟩).wellFormed = false := by decide +kernel
theorem test_itemsBare_refuses_multi : (Instr.readMulti .hbus h0 [⟨0x2010, 0, []⟩, ⟨0x2010, 0, [1]⟩]).wellFormed = false := by decide +kernel
theorem test_itemsFit_refuses : (Instr.write .hbus h0 ⟨0x2010, 0, List.replicate 1019 0⟩).wellFormed = false ∧
    (Instr.write .hbus h0 ⟨0x2010, 0, List.replicate 1018 0⟩).wellFormed = true := by decide +kernel
theorem test_segmentFits_refuses : (Instr.blockWrite .hbus h0 ⟨0x3807, 0, 0, 0, 0, List.replicate 1011 0⟩).wellFormed = false := by
  decide +kernel
theorem test_frameOk_refuses : (Instr.frameReceive 0 ⟨[0], [[(0, 0)]], .good, arr0, 0⟩).wellFormed = false := by decide +kernel
theorem test_searchOk_refuses : (Instr.bitslipDecision 0 [List.replicate 65 1]).wellFormed = false := by decide +kernel
theorem test_confirmOk_refuses : (Instr.blockLockConfirm 0 [1]).wellFormed = false := by decide +kernel
theorem test_skewOk_refuses : (Instr.skewMeasureDone 0 [⟨0, 0, 0, line0⟩] [] [] []).wellFormed = false := by decide +kernel
theorem test_eqOk_refuses : (Instr.trainReceive 0 0 ⟨0, 0, 0, true, [0]⟩).wellFormed = false := by decide +kernel
theorem test_movesOk_refuses : (Instr.adaptUpdate 0 (2 :: List.replicate 13 0)).wellFormed = false := by decide +kernel
theorem test_lockOk_refuses : (Instr.portLock 0 [0, 0, 0] 0 (List.replicate 3 (List.replicate 14 0))).wellFormed = false := by
  decide +kernel
theorem test_pollOk_refuses : (Instr.neighbourPoll 3 [[]]).wellFormed = false := by decide +kernel
theorem test_readingsOk_refuses : (Instr.tempSample []).wellFormed = false := by decide +kernel
theorem test_railsOk_refuses : (Instr.govTick []).wellFormed = false := by decide +kernel
theorem test_requestOk_refuses : (Instr.mailboxGo (List.replicate 2049 0) false).wellFormed = false := by decide +kernel
theorem test_accessOk_refuses : (Instr.trap 0 (.load 0 3)).wellFormed = false := by decide +kernel

/-! ## Worked examples of the spec. Every expected value is the spec's own. -/

/-- The state after a command. -/
def after (c : Instr) (s : State) : State := match exec c s with | .next t => t | _ => s

/-- A part of the Halvane Ring: F0 99.84 MHz, M 5, a 100 MHz crystal and a house port at 10 Gb/s (Examples 1.1 and 5.1). -/
def ring : State :=
  { (w.setObj O.CLK_M 5).setObj O.HEARTH_INC (incOf 99840000000 5) with
    clk := { w.clk with f0 := 99840000000 }, power := { w.power with straps := 0b11000 } }

/-- Examples 0.1 and 1.5: the signed difference of nanosecond fields. -/
theorem test_tdiff : tdiff 1200000 4294000000 = 2167296 ∧ tdiff 4290000000 12000000 = -16967296 := by decide +kernel

/-- Example 1.1: M, and HEARTH_INC by R15. The example's own sum is short by one (log entry 37). -/
theorem test_hearth_inc : multipleOf 99840000000 = 5 ∧ incOf 99840000000 5 = 2202547331281 + 1 := by decide +kernel

/-- Example 1.2: a rate of −3.2 ppm. -/
theorem test_rate : ofSigned 64 (-900719925) = 0xFFFFFFFFCA501ACB := by decide +kernel

/-- Example 1.3: the forward step of the first ALIGN, its whole periods and HEARTH_STEP. -/
theorem test_first_step :
    let s := ((ring.setObj O.UPSTREAM_PORT 0).setObjI O.PORT_OFFSET (3950000000 * 2 ^ 24) 1).modServo fun m => { m with okSince := some 0 }
    let t := after .acquireComplete (s.modHearth fun h => { h with state := .acquire, running := true, cycles := 2 ^ 40 })
    t.hearth.step = 5787590837927936 ∧ t.hearth.stepK = 34441534 ∧ t.hearth.state = .align := by decide +kernel

/-- Example 2.1: LINK_TX_LAT and LINK_RX_LAT to 0.01 ps, before and after the lane retrains. -/
theorem test_latencies :
    [ring.latUnits 0 390 2140, ring.latUnits 0 473 3380, ring.latUnits 0 406 3380].map (fun u => (u * 100000 + 2 ^ 23) / 2 ^ 24) =
      [1528019, 1853997, 1591859] := by decide +kernel

/-- Example 3.1: the chosen N. -/
theorem test_chosen_n : chooseN 99840000000 25800 = 256 := by decide +kernel

/-- Example 3.2: the quality figure, and the two falls below the default floor. -/
theorem test_quality : (qualityOf false 27 96, qualityOf false 8 96, qualityOf false 32 28, qualityOf false 32 32) = (204, 63, 59, 68) := by
  decide +kernel

/-- Example 4.1: A, in ps, for δ = 41,133.314 ns. -/
theorem test_asymmetry :
    let s := (w.setObj O.LANE_LAMBDA_RX 1550000 1).setObj O.LANE_LAMBDA_TX 1310000 1
    (s.asymWith 0 (s.alphaOn 0 0 0) (41133314 * 2 ^ 24 / 1000) * 1000 + 2 ^ 23) / 2 ^ 24 = 9254 := by decide +kernel

/-- Example 5.1: R, P and feedback of the SPLL, a TPLL, the CPLL, the EPLL and OPLL0. -/
theorem test_divider_plans :
    [0, 1, 13, 14].map (fun n => ring.planOf n) = [⟨16, 1, 825⟩, ⟨5, 1, 128⟩, ⟨5, 1, 38⟩, ⟨5, 1, 40⟩] ∧
      ((ring.setObj O.OPLL_MULT 48 1).planOf 9) = ⟨5, 1, 48⟩ := by decide +kernel

/-- Example 6.1: the first and the eighth rising edge of the burst behind its arming edge, in ps. -/
theorem test_burst :
    let s := (((((ring.setObj O.TIO_MODE 3 5).setObj O.TIO_TIMEBASE 1 5).setObj O.TIO_PERIOD 4 5).setObj O.TIO_OFFSET 2500 5).setObj
      O.F0_CNT 96).modGen 4 fun g => { g with on := true, fromF0 := 96 }
    [s.riseTime 4, (s.modGen 4 fun g => { g with fromF0 := 96 + 28 }).riseTime 4].map (fun z => (z * 1000 + 2 ^ 23) / 2 ^ 24) =
      [2500, 282949] := by decide +kernel

/-- Example 6.2: the target lies 100,540 lattice edges ahead. -/
theorem test_resync_target :
    ((ring.setObj O.F0_CNT 7000000100).setObj O.MC_LEN_ACT 3120).issueTarget 2 0 0 = some (100540 * (ring.f0Period : Int)) := by
  decide +kernel

/-- Example 7.1: the shared pool with 24 native lanes and 24 Ethernet lanes. -/
theorem test_shared_pool : ([4, 5, 6, 7].foldl (fun s g => s.modGroup g fun r => { r with mode := 2 }) w).sharedPool = 189424 := by
  decide +kernel

/-- Example 7.2: the new UDP checksum. -/
theorem test_checksum : csumUpdate 0x3A5C [0, 0, 0, 0] [0, 0, 0x04D2, 0x8000] = 0xB589 := by decide +kernel

/-- Example 8.1: the entry of U's slot 1, and B. -/
theorem test_schedule_entry :
    SchedEntry.ofWord 0x8800800834300020 = ⟨0x8800800834300020, 1, 1, 4200, 24, 1⟩ ∧ (w.setObj O.CARAVAN_CYCLE_ACT 3120).rounds 0 = 6144 := by
  decide +kernel

/-- Example 9.1: a static entry of an endpoint. -/
theorem test_em_image : emMake 1 0x51171 0x0012 + 2 ^ 125 = 0xA4000000000051171001200000000000 := by decide +kernel

/-- Example 10.1: the octets of a WRITE_MULTI up to its CRC. -/
theorem test_message_bytes :
    ((msgOf ⟨0x0123, 214, 1, 16, 0, none⟩ 4 2
      ([(⟨0x2040, 0, [1]⟩ : FalriItem), ⟨0x2020, 1, [0, 0, 5, 0xDC]⟩].flatMap FalriItem.bytes)).bytes).take 33 =
      [0x01, 0x04, 0x01, 0x23, 0x00, 0xD6, 0x00, 0x01, 0x10, 0x00, 0x02, 0x00, 0x00, 0x11, 0x00, 0x00,
       0x20, 0x40, 0x00, 0x00, 0x00, 0x01, 0x01, 0x20, 0x20, 0x01, 0x00, 0x00, 0x04, 0x00, 0x00, 0x05, 0xDC] := by decide +kernel

/-- Example 10.2: the later copy is loaded. -/
theorem test_copy_choice : chooseCopy true true 0xFFFFFFFE 1 = some 1 := by decide +kernel

/-- Example 12.1: E11 claims source 53 after two events. -/
theorem test_claim :
    let t := after (.irqClaim 11) (((w.setObj O.ENG_STATE 1 12).setSrcCfg 53 0x89B00271).modSrc 53 fun r => { r with st := .pending, ev := 2 })
    t.out = [.value 53] ∧ (t.src 53).st = .active ∧ (t.src 53).ev = 0 ∧ (t.eng 11).irqCount = 2 ∧ (t.src 53).held = true := by
  decide +kernel

/-- Example 13.1: NO_EDGE turns a TDC_TRIM of channel 9 away. -/
theorem test_precondition : (after (.calRunStart ⟨5, 9⟩ false) (calSt 5 9 1)).obj O.CAL_LAST_PRECOND = 0x05090005 := by decide +kernel

/-- Example 16.1: the balls of L29 and L40. -/
theorem test_balls :
    [("BP", 24), ("BP", 25), ("BL", 24), ("BL", 25)].map (fun b => (((List.range 54).find? fun r => 1 ≤ r && rowName r == b.1).map
      (ballAt · b.2))) = [some (.lane 29 true true), some (.lane 29 true false), some (.lane 29 false true), some (.lane 29 false false)] ∧
    [(21, 2), (22, 2), (21, 5), (22, 5)].map (fun b => ballAt b.1 b.2) =
      [.lane 40 true true, .lane 40 true false, .lane 40 false true, .lane 40 false false] := by decide +kernel

/-! ## Witnesses: the hypotheses of each clause of each obligation can be met together -/

theorem witness_IdleStepAddsHearthInc :
    (∃ (s : State), s.pending = [] ∧ s.held = true) ∧
    (∃ (s : State), s.pending = [] ∧ s.held = false ∧ s.hearth.running = true ∧ s.hearth.count.toNat + s.obj O.HEARTH_INC < 2 ^ 72) :=
  ⟨⟨(w.modPower fun x => { x with railDown := true }), by decide +kernel⟩,
   ⟨((w.modHearth fun h => { h with running := true, count := 2 ^ 72 - 2 }).setObj O.HEARTH_INC 1), by decide +kernel⟩⟩

theorem witness_ResetsClearThePart :
    (∃ (s : State) (rail : WatchedRail), s.power.railDown = false) ∧
    (∃ (s : State) (cause : XoFailure), s.power.xoDown = false) ∧
    (∃ (s : State) (straps : BitVec 5), s.power.railDown = true) ∧
    (∃ (s : State) (straps : BitVec 5), s.power.xoDown = true) :=
  ⟨⟨w, .vddCore, by decide +kernel⟩,
   ⟨w, .xoAbsent, by decide +kernel⟩,
   ⟨(w.modPower fun x => { x with railDown := true }), 0, by decide +kernel⟩,
   ⟨(w.modPower fun x => { x with xoDown := true }), 0, by decide +kernel⟩⟩

theorem witness_BootStartsTheHearth :
    (∃ (s : State) (ms : Nat), s.held = false ∧ s.power.booted = false ∧ s.pllState 0 = 2) ∧
    (∃ (s : State) (ms : Nat), s.power.booted = true) ∧
    (∃ (s : State) (path : Path), s.held = false ∧ s.mayWritePath (pathCode path) = true) ∧
    (∃ (s : State) (path : Path) (v : Byte), s.held = false ∧ s.mayWritePath (pathCode path) = false) :=
  ⟨⟨(w.setObj O.PLL_STATE 2 1), 0, by decide +kernel⟩,
   ⟨(w.modPower fun x => { x with booted := true }), 0, by decide +kernel⟩,
   ⟨w, .hbus, by decide +kernel⟩,
   ⟨(w.setObj O.GATE_CHAIN 0), .chain, 0, by decide +kernel⟩⟩

theorem witness_HearthCounterRuns :
    (w.held = false) ∧
    (∃ (s : State), s.held = false ∧ s.hearth.running = true ∧ 0 < s.obj O.HEARTH_INC ∧ s.obj O.HEARTH_INC < 2 ^ 64) ∧
    (∃ (s : State), s.held = false ∧ s.hearth.running = true ∧ s.hearth.acceptWait = false ∧ s.hearth.phase ≠ .committed) ∧
    (∃ (s : State), s.held = false ∧ s.hearth.phase = .computed ∧ s.hearth.running = true ∧ s.hearth.cycles = s.hearth.stepAt + 127) :=
  ⟨rfl,
   ⟨((w.modHearth fun h => { h with running := true }).setObj O.HEARTH_INC (2^64-1)), by decide +kernel⟩,
   ⟨(w.modHearth fun h => { h with running := true }), by decide +kernel⟩,
   ⟨(w.modHearth fun h => { h with running := true, phase := .computed, cycles := 127 }), by decide +kernel⟩⟩

theorem witness_ServoChangesState :
    (∃ (s : State), s.held = false ∧ s.hearth.state = .acquire ∧ s.freqHeld = true ∧ s.hearth.phase = .none ∧ (0 ≤ s.stepFor (s.thetaOf
      s.source) ∨ s.obj O.REEPOCH_ALLOW_BACK ≠ 0)) ∧
    (∃ (s : State), s.held = false ∧ s.hearth.state = .acquire ∧ s.freqHeld = true ∧ s.hearth.phase = .none ∧ s.stepFor (s.thetaOf
      s.source) < 0 ∧ s.obj O.REEPOCH_ALLOW_BACK = 0) ∧
    (∃ (s : State), s.held = false ∧ s.hearth.state = .acquire ∧ s.source ≠ noSource ∧ s.sourceGone = true) ∧
    (∃ (s : State), s.held = false ∧ s.hearth.state = .track ∧ s.frozen = false ∧ s.source ≠ noSource ∧ s.sourceGone = true ∧
      s.firstSource (· != s.source) = noSource ∧ s.servo.rates ≠ []) ∧
    (∃ (s : State), s.held = false ∧ s.hearth.state = .qualify ∧ s.servo.qOn = true ∧ s.inJump s.source = true) ∧
    (∃ (s : State), s.held = false ∧ s.hearth.state = .holdover ∧ s.hearth.refJump = true ∧ s.servo.qOn = true ∧ s.obj
      O.REF_RETURN_POLICY = 0) :=
  ⟨⟨((((w.modHearth fun h => { h with state := .acquire, cycles := 2 ^ 40 }).setObj O.UPSTREAM_PORT 0).setObj O.HEARTH_INC (2 ^ 41)).modServo fun m => { m with okSince := some 0 }),
     by decide +kernel⟩,
   ⟨(((((w.modHearth fun h => { h with state := .acquire, reepoched := true, cycles := 2 ^ 40 }).setObj O.UPSTREAM_PORT 0).setObj O.HEARTH_INC (2 ^ 41)).setObj O.PORT_OFFSET 1 1).modServo fun m => { m with okSince := some 0 }),
     by decide +kernel⟩,
   ⟨(((w.modHearth fun h => { h with state := .acquire }).setObj O.UPSTREAM_PORT 0).modServo fun m => { m with missed := 64 }),
     by decide +kernel⟩,
   ⟨(((w.modHearth fun h => { h with state := .track }).modServo fun m => { m with rates := [0], missed := 64 }).setObj O.UPSTREAM_PORT 0),
     by decide +kernel⟩,
   ⟨((((w.modHearth fun h => { h with state := .qualify }).modServo fun m => { m with qOn := true }).setObj O.UPSTREAM_PORT 0).setObj O.PORT_OFFSET 33554432 1),
     by decide +kernel⟩,
   ⟨((w.modHearth fun h => { h with state := .holdover, refJump := true }).modServo fun m => { m with qOn := true }),
     by decide +kernel⟩⟩

theorem witness_HearthCommandsAct :
    (∃ (s : State), s.held = false ∧ s.hearthBusy = false ∧ s.hearth.state ≠ .off) ∧
    (∃ (s : State) (c : Bool), s.held = false ∧ s.hearthBusy = false ∧ s.hearth.state = .acquire) ∧
    (∃ (s : State), s.held = false ∧ s.hearthBusy = false ∧ s.hearth.state = .align ∧ s.hearth.stepUsed = true) ∧
    (∃ (s : State), s.held = false ∧ s.hearthBusy = false ∧ s.hearth.state = .refused ∧ s.hearth.fromAlign = false) ∧
    (∃ (s : State) (b : Bool), s.held = false ∧ s.hearthBusy = true) :=
  ⟨⟨(w.modHearth fun h => { h with state := .free }), by decide +kernel⟩,
   ⟨(w.modHearth fun h => { h with state := .acquire }), false, by decide +kernel⟩,
   ⟨(w.modHearth fun h => { h with state := .align, stepUsed := true }), by decide +kernel⟩,
   ⟨(w.modHearth fun h => { h with state := .refused }), by decide +kernel⟩,
   ⟨(w.setObj O.HEARTH_CMD_STATUS 1), false, by decide +kernel⟩⟩

theorem witness_ServoUpdateSteers :
    (∃ (s : State), s.held = false ∧ s.hearth.running = true ∧ s.hearth.state = .track ∧ s.frozen = false ∧ (∀ p < 48, s.objI
      O.PORT_ASYM_CAL (p + 1) = (s.port p).calAct ∧ s.objI O.PORT_ASYM_ROUTE (p + 1) = (s.port p).routeAct ∧ (s.port p).settled = false)
      ∧ s.servo.revert = none ∧ s.servo.altWait = none ∧ 0 < s.servo.acceptN ∧ 0 < s.servo.thN) ∧
    (∃ (s : State), s.held = false ∧ s.obj O.SEL_REVERT = 1 ∧ s.hearth.state = .track ∧ s.source ≠ noSource ∧ s.firstSource (fun _ =>
      true) ≠ noSource ∧ s.firstSource (fun _ => true) ≠ s.source) ∧
    (∃ (s : State) (q : Nat), s.held = false ∧ s.hearth.state = .track ∧ s.frozen = false ∧ s.servo.altWait = none ∧ s.servo.revert =
      some q ∧ s.obj O.SEL_REVERT = 1 ∧ s.sourceKeys.any (fun k => keySource k == q) = true ∧ s.firstSource (fun r => r == q || r ==
      s.source) = q ∧ s.inJump q = true) :=
  ⟨⟨((w.modHearth fun h => { h with running := true, state := .track }).modServo fun m => { m with acceptN := 1, thN := 1 }),
     by decide +kernel⟩,
   ⟨(((((w.modHearth fun h => { h with state := .track }).setObj O.SEL_REVERT 1).setObj O.EXTREF_MODE 2).setObj O.REFIN_STATE 2).setObj O.UPSTREAM_PORT 0),
     by decide +kernel⟩,
   ⟨((((((w.modHearth fun h => { h with state := .track }).setObj O.SEL_REVERT 1).setObj O.EXTREF_MODE 2).setObj O.REFIN_STATE 2).setObj O.UPSTREAM_PORT 0).modServo fun m => { m with revert := some extref }),
     extref, by decide +kernel⟩⟩

theorem witness_TrainingSearches :
    (∃ (s : State) (n : Fin 48), s.held = false ∧ s.training n = true ∧ s.linkState n = 0 ∧ (s.group (groupOf n)).mode ≠ 0xFF ∧ (s.lane
      n).abortWait = false ∧ (s.calRec 1 n).direct = false ∧ (s.calRec 0 n).state ≠ 2) ∧
    (∃ (s : State) (n : Fin 48) (l : List (List (BitVec 2))) (i : Nat), s.held = false ∧ s.training n = true ∧ s.linkState n = 1 ∧
      (s.lane n).decided = false ∧ (l.take (130 - (s.lane n).slip)).findIdx? positionOk = some i) ∧
    (∃ (s : State) (n : Fin 48) (l : List (List (BitVec 2))), s.held = false ∧ s.training n = true ∧ s.linkState n = 1 ∧ (s.lane
      n).decided = false ∧ (s.lane n).abortWait = false ∧ 130 ≤ (s.lane n).slip + l.length ∧ (∀ x ∈ l, positionOk x = false)) ∧
    (∃ (s : State) (n : Fin 48) (hs : List (BitVec 2)), s.held = false ∧ s.training n = true ∧ s.linkState n = 1 ∧ (s.lane n).decided =
      true ∧ (s.lane n).abortWait = false ∧ (s.lane n).slip ≤ 129 ∧ hs.countP (fun h => !headerValid h) ≤ 16) ∧
    (∃ (s : State) (n : Fin 48) (hs : List (BitVec 2)), s.held = false ∧ s.training n = true ∧ s.linkState n = 1 ∧ (s.lane n).decided =
      true ∧ (s.lane n).abortWait = false ∧ (s.lane n).slip < 129 ∧ 16 < hs.countP (fun h => !headerValid h)) ∧
    (∃ (s : State) (n : Fin 48) (hs : List (BitVec 2)), s.held = false ∧ s.training n = true ∧ s.linkState n = 1 ∧ (s.lane n).decided =
      true ∧ (s.lane n).abortWait = false ∧ (s.lane n).slip = 129 ∧ 16 < hs.countP (fun h => !headerValid h)) ∧
    (∃ (s : State) (n : Fin 48) (b : Body) (a : LineTime), s.held = false ∧ s.native n = true ∧ s.linkState n = 2 ∧ (s.lane n).test =
      false ∧ (s.lane n).abortWait = false ∧ blk b 63 16 = 0xC3A55A3C96E1) ∧
    (∃ (s : State) (n : Fin 48), s.held = false ∧ s.training n = true ∧ s.linkState n = 2 ∧ (s.lane n).abortWait = false) ∧
    (∃ (s : State) (n : Fin 48), s.held = false ∧ s.training n = true ∧ (s.lane n).abortWait = false) ∧
    (∃ (s : State) (n : Fin 48), s.held = false ∧ (s.lane n).failed = true ∧ (s.lane n).aborted = false) :=
  ⟨⟨(trn 0), 0, by decide +kernel⟩,
   ⟨(trn 1), 0, List.replicate 129 [0] ++ [List.replicate 64 1], 129, by decide +kernel⟩,
   ⟨((trn 1).modLane 0 fun l => { l with slip := 128 }), 0, [[1, 0], List.replicate 63 2], by decide +kernel⟩,
   ⟨((trn 1).modLane 0 fun l => { l with decided := true, slip := 129 }), 0, List.replicate 16 3 ++ [1, 2], by decide +kernel⟩,
   ⟨((trn 1).modLane 0 fun l => { l with decided := true, slip := 128 }), 0, List.replicate 17 3, by decide +kernel⟩,
   ⟨((trn 1).modLane 0 fun l => { l with decided := true, slip := 129 }), 0, List.replicate 17 0, by decide +kernel⟩,
   ⟨(trn 2), 0, 0xC3A55A3C96E1, line0, by decide +kernel⟩,
   ⟨(trn 2), 0, by decide +kernel⟩,
   ⟨(trn 7), 0, by decide +kernel⟩,
   ⟨(w.modLane 0 fun l => { l with failed := true }), 0, by decide +kernel⟩⟩

theorem witness_HandshakeAndSkew :
    (∃ (s : State) (n : Fin 48) (b : Body) (rx : RxFinding), s.held = false ∧ s.training n = true ∧ s.linkState n = 3 ∧ (s.lane
      n).abortWait = false ∧ blk b 99 88 = s.portN n ∧ blk b 115 113 = 1) ∧
    (∃ (s : State) (n : Fin 48) (b : Body) (rx : RxFinding), s.held = false ∧ s.training n = true ∧ 3 ≤ s.linkState n ∧ s.linkState n ≤
      6 ∧ (s.lane n).abortWait = false ∧ blk b 99 88 ≠ s.portN n) ∧
    (∃ (s : State) (n : Fin 48), s.held = false ∧ s.training n = true ∧ s.linkState n = 6 ∧ 8 ≤ (s.lane n).readyRun ∧ (s.lane
      n).abortWait = false ∧ s.width (s.portOf n) = 1 ∧ s.status O.LINK_CMD_STATUS (n + 1) ≠ 1) ∧
    (∃ (s : State) (n : Fin 48), s.held = false ∧ s.training n = true ∧ s.linkState n = 6 ∧ 8 ≤ (s.lane n).readyRun ∧ (s.lane
      n).abortWait = false ∧ s.width (s.portOf n) ≠ 1 ∧ (s.lport (s.portOf n)).up = true) ∧
    (∃ (s : State) (p : Fin 48) (e0 : List SkewEx) (e1 : List SkewEx) (e2 : List SkewEx) (e3 : List SkewEx), s.held = false ∧ s.native p
      = true ∧ (s.lport p).up = false ∧ p.val < 47 ∧ s.width p = 2 ∧ s.skewLanes p = [p.val, p.val + 1] ∧ e0 ≠ [] ∧ e1 ≠ [] ∧ (∀ n, n =
      p.val ∨ n = p.val + 1 → (s.lane n).aligned = true ∧ (s.lane n).abortWait = false ∧ s.status O.LINK_CMD_STATUS (n + 1) ≠ 1)) ∧
    (∃ (s : State) (n : Fin 48) (c : LockLoss), s.held = false ∧ s.native n = true ∧ s.training n = true ∧ 2 ≤ s.linkState n ∧
      s.linkState n < 8 ∧ (s.lane n).abortWait = false) ∧
    (∃ (s : State) (n : Fin 48) (b : Body), s.held = false ∧ s.native n = true ∧ s.linkState n = 6 ∧ (s.lane n).test = false ∧ (s.lane
      n).removed = false ∧ s.portOf n = n ∧ s.width n = 1 ∧ s.obj O.PORT_ACTIVE (n + 1) = 0) :=
  ⟨⟨(trn 3), 0, BitVec.ofNat 104 (256 * 2 ^ 72 + 2 ^ 97), ⟨0, 0, 0, false, []⟩, by decide +kernel⟩,
   ⟨(trn 6), 0, 0, ⟨0, 0, 0, false, []⟩, by decide +kernel⟩,
   ⟨((trn 6).modLane 0 fun l => { l with readyRun := 8 }), 0, by decide +kernel⟩,
   ⟨((((trn 6).modLane 0 fun l => { l with readyRun := 8 }).modLPort 0 fun l => { l with up := true }).setObj O.PORT_WIDTH 4 1),
     0, by decide +kernel⟩,
   ⟨(((((trn 7).modLane 0 fun l => { l with aligned := true }).modLane 1 fun l => { l with aligned := true }).setObj O.PORT_WIDTH 2 1).setObj O.LINK_STATE 7 2),
     0, List.replicate 4096 ⟨0, 0, 0, line0⟩, List.replicate 4096 ⟨0, 0, 0, line0⟩, [], [],
     by refine ⟨by decide +kernel, by decide +kernel, by decide +kernel, by decide +kernel, by decide +kernel, by decide +kernel, by decide, by decide, ?_⟩; rintro n (rfl | rfl) <;> decide +kernel⟩,
   ⟨(trn 7), 0, .headers, by decide +kernel⟩,
   ⟨(trn 6), 0, 0, by decide +kernel⟩⟩

theorem witness_LaneServices :
    (∃ (s : State) (n : Fin 48), s.held = false ∧ (s.lport (s.portOf n)).up = true ∧ s.width (s.portOf n) ≤ 4 ∧ bit (s.usable (s.portOf
      n)) (n - s.portOf n) = true ∧ (s.lane n).skewDone = true ∧ bit (s.txAct (s.portOf n)) (n - s.portOf n) = false ∧ s.idleBoundary
      (s.portOf n) (s.txWidth (s.portOf n) + 1) = true) ∧
    (∃ (s : State) (p : Fin 48), s.held = false ∧ (s.lport p).widen = true) ∧
    (∃ (s : State) (n : Fin 48), s.held = false ∧ s.status O.LINK_CMD_STATUS (n + 1) ≠ 1 ∧ (s.lport (s.portOf n)).up = false) ∧
    (∃ (s : State) (n : Fin 48), s.held = false ∧ s.status O.LINK_CMD_STATUS (n + 1) ≠ 1 ∧ (s.lport (s.portOf n)).up = true ∧ s.native n
      = true ∧ s.width (s.portOf n) ≠ 1 ∧ bit (s.txAct (s.portOf n)) (n - s.portOf n) = true) ∧
    (∃ (s : State) (n : Fin 48), s.held = false ∧ s.status O.LINK_CMD_STATUS (n + 1) = 1) ∧
    (∃ (s : State) (n : Fin 48), s.held = false ∧ (s.lane n).decided = true ∧ s.linkState n = 1) ∧
    (∃ (s : State) (n : Fin 48) (c : Bool), s.held = false ∧ s.training n = true ∧ (s.lane n).leave = 0 ∧ (s.lane n).decided = false ∧
      s.linkState n ≤ 1) ∧
    (∃ (s : State) (n : Fin 48) (c : Bool), s.held = false ∧ s.training n = true ∧ (s.lane n).leave = 0 ∧ 2 ≤ s.linkState n) ∧
    (∃ (s : State) (n : Fin 48), s.held = false ∧ (s.lane n).leave = 1) ∧
    (∃ (s : State) (n : Fin 48), s.held = false ∧ s.training n = false ∧ (s.lane n).failed = false ∧ (s.lane n).leave = 0 ∧ s.status
      O.LINK_CMD_STATUS (n + 1) ≠ 1) :=
  ⟨⟨((((w.modLPort 0 fun l => { l with up := true, peerOk := 8 }).modLane 3 fun l => { l with skewDone := true }).setObj O.PORT_WIDTH 4 1).setObj O.LINK_STATE 8 4),
     3, by decide +kernel⟩,
   ⟨(w.modLPort 0 fun l => { l with widen := true }), 0, by decide +kernel⟩,
   ⟨w, 0, by decide +kernel⟩,
   ⟨(((w.modLPort 0 fun l => { l with up := true }).setObj O.PORT_WIDTH 2 1).setObj O.PORT_ACTIVE 1 1), 0, by decide +kernel⟩,
   ⟨(w.setObj O.LINK_CMD_STATUS 1 1), 0, by decide +kernel⟩,
   ⟨((trn 1).modLane 0 fun l => { l with decided := true }), 0, by decide +kernel⟩,
   ⟨(trn 1), 0, false, by decide +kernel⟩,
   ⟨(trn 2), 0, false, by decide +kernel⟩,
   ⟨(w.modLane 0 fun l => { l with leave := 1 }), 0, by decide +kernel⟩,
   ⟨w, 0, by decide +kernel⟩⟩

theorem witness_LinkBlocks :
    (∃ (s : State) (p : Fin 48) (b : Body), s.held = false ∧ s.native p = true ∧ (s.lport p).up = true ∧ blk b 31 29 ≠ 7) ∧
    (∃ (s : State) (n : Fin 48) (v : BitVec 130), s.held = false ∧ s.native n = true ∧ (s.lane n).test = false ∧ 2 ≤ s.linkState n ∧
      s.erases n = false ∧ s.inRx n = true ∧ (s.received n v.toNat / 2 ^ 128 = 0 ∨ s.received n v.toNat / 2 ^ 128 = 3)) ∧
    (∃ (s : State) (n : Fin 48) (v : BitVec 130), s.held = false ∧ s.native n = true ∧ (s.lane n).test = false ∧ 2 ≤ s.linkState n ∧
      s.erases n = false ∧ s.inRx n = true ∧ s.received n v.toNat / 2 ^ 128 = 2 ∧ chk (bits (s.received n v.toNat) 127 120) (bits
      (s.received n v.toNat) 119 16) ≠ bits (s.received n v.toNat) 15 0) ∧
    (∃ (s : State) (n : Fin 48) (v : BitVec 130), s.held = false ∧ s.native n = true ∧ (s.lane n).test = false ∧ 2 ≤ s.linkState n ∧
      s.erases n = false ∧ s.inRx n = false ∧ s.received n v.toNat / 2 ^ 128 = 2 ∧ chk (bits (s.received n v.toNat) 127 120) (bits
      (s.received n v.toNat) 119 16) = bits (s.received n v.toNat) 15 0 ∧ (bits (s.received n v.toNat) 127 120 = 0xD2 ∨ bits (s.received
      n v.toNat) 127 120 = 0xE1)) ∧
    (∃ (s : State) (n : Fin 48) (v : BitVec 130), s.held = false ∧ s.native n = true ∧ (s.lane n).test = false ∧ s.erases n = true) ∧
    (∃ (s : State) (p : Fin 48), s.held = false ∧ s.engUp (groupOf p) = true ∧ s.native p = true ∧ (s.lport p).up = true ∧ s.reqDue p =
      true ∧ s.skewLanes p = [] ∧ s.obj O.PORT_TIME_ROLE (p + 1) ≠ 2) ∧
    (∃ (s : State) (p : Fin 48) (b : Body) (a : Arrival), s.held = false ∧ s.native p = true ∧ (s.lport p).up = true ∧ blk b 119 118 = 0
      ∧ s.linkState (p + a.lane) ≠ 7) ∧
    (∃ (s : State) (p : Fin 48) (seq : Nat) (t2 : Time56), s.held = false ∧ s.askedLanes p = [] ∧ (s.port p).peer = some (seq, t2) ∧ 0 ≤
      tdiff56 (s.departs (s.timingLane p)) t2 ∧ tdiff56 (s.departs (s.timingLane p)) t2 ≤ 65536 * 2 ^ 24) ∧
    (∃ (s : State) (p : Fin 48) (seq : Nat) (t2 : Time56), s.held = false ∧ s.askedLanes p = [] ∧ (s.port p).peer = some (seq, t2) ∧
      65536 * 2 ^ 24 < tdiff56 (s.departs (s.timingLane p)) t2) ∧
    (∃ (s : State) (p : Fin 48), s.held = false ∧ s.askedLanes p = []) ∧
    (∃ (s : State) (p : Fin 48), s.held = false ∧ s.native p = true ∧ (s.lport p).up = true ∧ (s.lport p).setDue = true ∧ s.epAllowed p
      = true ∧ (s.port p).complete = true) :=
  ⟨⟨(w.modLPort 0 fun l => { l with up := true }), 0, BitVec.ofNat 104 (6 * 2 ^ 13), by decide +kernel⟩,
   ⟨(((w.setObj O.LINK_STATE 2 1).setObj O.PORT_ACTIVE 0x10 1).modLane 0 fun l => { l with deskIn := some (0, 0, 0) }), 0,
     BitVec.ofNat 130 (3 * 2 ^ 128), by decide +kernel⟩,
   ⟨(((w.setObj O.LINK_STATE 2 1).setObj O.PORT_ACTIVE 0x10 1).modLane 0 fun l => { l with deskIn := some (0, 0, 0) }), 0,
     BitVec.ofNat 130 (2 * 2 ^ 128), by decide +kernel⟩,
   ⟨(w.setObj O.LINK_STATE 2 1), 0, BitVec.ofNat 130 (2 * 2 ^ 128 + 0xD2 * 2 ^ 120 + chk 0xD2 0), by decide +kernel⟩,
   ⟨(w.modLPort 0 fun l => { l with up := true, peerAct := 1 }), 0, 0, by decide +kernel⟩,
   ⟨(w.modLPort 0 fun l => { l with up := true, sfSince := 1 }), 0, by decide +kernel⟩,
   ⟨(w.modLPort 0 fun l => { l with up := true }), 0, 0, arr0, by decide +kernel⟩,
   ⟨(w.modPort 0 fun l => { l with peer := some (63, w.departs (w.timingLane 0) - BitVec.ofNat 56 (65536 * 2 ^ 24)) }), 0, 63,
     w.departs (w.timingLane 0) - BitVec.ofNat 56 (65536 * 2 ^ 24), by decide +kernel⟩,
   ⟨(w.modPort 0 fun l => { l with peer := some (63, w.departs (w.timingLane 0) - BitVec.ofNat 56 (65536 * 2 ^ 24 + 1)) }), 0,
     63, w.departs (w.timingLane 0) - BitVec.ofNat 56 (65536 * 2 ^ 24 + 1), by decide +kernel⟩,
   ⟨w, 0, by decide +kernel⟩,
   ⟨((w.modLPort 0 fun l => { l with up := true, setDue := true }).modPort 0 fun l => { l with complete := true }), 0,
     by decide +kernel⟩⟩

theorem witness_ReceiversAdapt :
    (w.held = false) ∧
    (∃ (s : State) (n : Fin 48) (m : List Int), s.held = false ∧ (s.rxReady n = false ∨ s.obj O.ADAPT_MODE (n + 1) ≠ 0 ∨ (s.lane
      n).divFrozen = true ∨ s.govDefer = true ∨ Tab.get s.cal.lost 0 n ≠ 0)) ∧
    (∃ (s : State) (n : Fin 48) (m : List Int), s.held = false ∧ s.rxReady n = true ∧ s.obj O.ADAPT_MODE (n + 1) = 0 ∧ (s.lane
      n).divFrozen = false ∧ s.govDefer = false ∧ Tab.get s.cal.lost 0 n = 0) ∧
    (∃ (s : State) (n : Fin 48) (b : BitVec 130) (k : Nat), s.held = false ∧ lowDiversity (s.pam4 n) b.toNat = true ∧ k ≠ 0 ∧ 65536 ≤
      (s.lane n).lowRun + k) ∧
    (∃ (s : State) (n : Fin 48) (b : BitVec 130) (k : Nat), s.held = false ∧ lowDiversity (s.pam4 n) b.toNat = false ∧ k ≠ 0 ∧ 256 ≤
      (s.lane n).okRun + k) ∧
    (∃ (s : State) (n : Fin 48) (ph : List EyeRow) (th : List EyeRow), s.held = false ∧ s.rxReady n = true ∧ s.obj O.LANE_Q_WARN ≤
      qualityOf (s.pam4 n) (s.eyeFigures ph th).1 (s.eyeFigures ph th).2 ∧ s.obj O.LANE_Q_FLOOR ≤ qualityOf (s.pam4 n) (s.eyeFigures ph
      th).1 (s.eyeFigures ph th).2) ∧
    (∃ (s : State) (n : Fin 48) (ph : List EyeRow) (th : List EyeRow), s.held = false ∧ s.rxReady n = true ∧ qualityOf (s.pam4 n)
      (s.eyeFigures ph th).1 (s.eyeFigures ph th).2 < s.obj O.LANE_Q_WARN ∧ s.obj O.LANE_Q_FLOOR ≤ qualityOf (s.pam4 n) (s.eyeFigures ph
      th).1 (s.eyeFigures ph th).2 ∧ 3 ≤ (s.lane n).lowWarn ∧ (s.lane n).degraded = false) ∧
    (∃ (s : State) (n : Fin 48) (ph : List EyeRow) (th : List EyeRow), s.held = false ∧ s.rxReady n = false) ∧
    (∃ (s : State) (n : Fin 48) (v : Bytes), s.held = false ∧ s.falri.session = true ∧ s.obj O.ADAPT_MODE (n + 1) = 1 ∧ s.rxEqOk n v =
      true) ∧
    (∃ (s : State) (n : Fin 48) (v : Bytes), s.held = false ∧ (s.falri.session = false ∨ s.obj O.ADAPT_MODE (n + 1) ≠ 1 ∨ s.rxEqOk n v =
      false)) ∧
    (∃ (s : State) (n : Fin 48), s.held = false ∧ s.native n = true ∧ 2 ≤ s.linkState n ∧ bit (s.obj O.LANE_POLARITY (n + 1)) 2 = true) ∧
    (∃ (s : State) (m : FifoMove), s.held = false ∧ s.obj O.LANE_LOOP (m.lane + 1) = 3 ∧ (s.lane m.lane).test = true ∧ (s.lane
      m.lane).fill + m.written - m.read < 16) ∧
    (∃ (s : State) (m : FifoMove), s.held = false ∧ s.obj O.LANE_LOOP (m.lane + 1) = 3 ∧ (s.lane m.lane).test = true ∧ 112 < (s.lane
      m.lane).fill + m.written - m.read) ∧
    (∃ (s : State) (m : FifoMove), s.held = false ∧ s.obj O.LANE_LOOP (m.lane + 1) = 3 ∧ (s.lane m.lane).test = true ∧ 16 ≤ (s.lane
      m.lane).fill + m.written - m.read ∧ (s.lane m.lane).fill + m.written - m.read ≤ 112) :=
  ⟨rfl,
   ⟨(w.setObj O.LINK_STATE 5 1), 0, [], by decide +kernel⟩,
   ⟨(w.setObj O.LINK_STATE 6 1), 0, [], by decide +kernel⟩,
   ⟨(w.modLane 0 fun l => { l with lowRun := 65535 }), 0, 0, 1, by decide +kernel⟩,
   ⟨(w.modLane 0 fun l => { l with okRun := 255 }), 0, BitVec.ofNat 130 0x2F1A5C93B7E04D6812A5F3C9E7704B36D, 1,
     by decide +kernel⟩,
   ⟨(w.setObj O.LINK_STATE 6 1), 0, [⟨31, List.replicate 64 (2 ^ 40)⟩], [⟨11, List.replicate 12 (2 ^ 40)⟩], by decide +kernel⟩,
   ⟨((w.modLane 0 fun l => { l with lowWarn := 3 }).setObj O.LINK_STATE 6 1), 0, [⟨31, List.replicate 64 (2 ^ 40)⟩],
     [⟨10, List.replicate 11 (2 ^ 40)⟩], by decide +kernel⟩,
   ⟨w, 0, [], [], by decide +kernel⟩,
   ⟨((w.setObj O.ADAPT_MODE 1 1).modFalri fun x => { x with session := true }), 0, List.replicate 16 0, by decide +kernel⟩,
   ⟨w, 0, [], by decide +kernel⟩,
   ⟨((w.setObj O.LINK_STATE 2 1).setObj O.LANE_POLARITY 4 1), 0, by decide +kernel⟩,
   ⟨(((w.setObj O.LANE_LOOP 3 1).modLane 0 fun l => { l with test := true, fill := 64 })), ⟨0, 0, 49⟩, by decide +kernel⟩,
   ⟨(((w.setObj O.LANE_LOOP 3 1).modLane 0 fun l => { l with test := true, fill := 64 })), ⟨0, 49, 0⟩, by decide +kernel⟩,
   ⟨(((w.setObj O.LANE_LOOP 3 1).modLane 0 fun l => { l with test := true, fill := 64 })), ⟨0, 0, 48⟩, by decide +kernel⟩⟩

theorem witness_GroupsAndTests :
    (∃ (s : State) (n : Fin 48) (v : Byte), s.held = false ∧ 1 ≤ v.toNat ∧ v.toNat ≤ 3 ∧ (s.lport (s.portOf n)).up = false ∧ (s.lane
      n).test = false ∧ (s.lane n).leave ≠ 2) ∧
    (∃ (s : State) (n : Fin 48), s.held = false ∧ s.obj O.LANE_PRBS (n + 1) < 64 ∧ (s.lane n).test = true) ∧
    (∃ (s : State) (n : Fin 48) (v : Byte), s.held = false ∧ 3 < v.toNat) ∧
    (∃ (s : State) (n : Fin 48) (v : Byte), s.held = false ∧ s.prbsOk n v.toNat = true ∧ 64 ≤ v.toNat ∧ (s.lport (s.portOf n)).up =
      false ∧ (s.lane n).test = false ∧ (s.lane n).leave ≠ 2) ∧
    (∃ (s : State) (n : Fin 48) (v : Byte), s.held = false ∧ s.prbsOk n v.toNat = false) ∧
    (∃ (s : State) (p : Fin 48) (al : List (BitVec 16)) (d : BitVec 16) (eq : List (List Int)), s.held = false ∧ (s.lport p).up = false
      ∧ s.portOf p = p ∧ s.width p = 1 ∧ (s.group (groupOf p)).mode = 2 ∧ s.mayLock p = true ∧ al.all (alignOk 2) = true) ∧
    (∃ (s : State) (g : Fin 8) (m : Byte) (v : BitVec 16), s.held = false ∧ groupModeOk m.toNat = true ∧ s.groupNOk v.toNat = true ∧
      m.toNat = s.obj O.GROUP_MODE (g + 1) ∧ (v.toNat = s.obj O.GROUP_N (g + 1) ∨ s.effN v.toNat = (s.group g).n)) ∧
    (∃ (s : State) (g : Fin 8) (m : Byte) (v : BitVec 16), s.held = false ∧ (∀ p < 48, s.width p ≤ 4) ∧ groupModeOk m.toNat = true ∧
      s.groupNOk v.toNat = true ∧ (m.toNat ≠ s.obj O.GROUP_MODE (g + 1) ∨ (v.toNat ≠ s.obj O.GROUP_N (g + 1) ∧ s.effN v.toNat ≠ (s.group
      g).n))) ∧
    (∃ (s : State) (g : Fin 8) (m : Byte) (v : BitVec 16), s.held = false ∧ (groupModeOk m.toNat = false ∨ s.groupNOk v.toNat = false)) ∧
    (∃ (s : State) (g : Fin 8), s.held = false ∧ s.obj O.GROUP_MODE (g + 1) = 0xFE ∧ (s.group g).settled = false ∧ s.tpllOk g = true ∧
      (s.group g).probe = 1) ∧
    (∃ (s : State) (g : Fin 8), s.held = false ∧ s.obj O.GROUP_MODE (g + 1) = 0xFE ∧ (s.group g).settled = true ∧ (∀ n ∈ groupLanes g,
      s.linkState n = 0) ∧ (s.group g).mode = 0) :=
  ⟨⟨w, 0, 3, by decide +kernel⟩,
   ⟨((w.modLane 0 fun l => { l with test := true }).setObj O.LANE_PRBS 63 1), 0, by decide +kernel⟩,
   ⟨w, 0, 4, by decide +kernel⟩,
   ⟨w, 0, 64, by decide +kernel⟩,
   ⟨w, 0, 255, by decide +kernel⟩,
   ⟨(((trn 0).modGroup 0 fun l => { l with mode := 2 }).setObj O.LINK_STATE 1 1), 0, [65], 0, [], by decide +kernel⟩,
   ⟨w, 0, 0xFE, 256, by decide +kernel⟩,
   ⟨w, 0, 0, 0, by decide +kernel⟩,
   ⟨w, 0, 4, 0, by decide +kernel⟩,
   ⟨((trn 0).modGroup 0 fun l => { l with probe := 1 }), 0, by decide +kernel⟩,
   ⟨(w.modGroup 0 fun l => { l with settled := true }), 0, by decide +kernel⟩⟩

theorem witness_PllsLockAndLose :
    (∃ (s : State) (c : Nat), s.held = false ∧ (s.pllState 0 = 1 ∨ s.pllState 0 = 3) ∧ (s.pll 0).good < 3 ∧ max c (65536 * (s.planOf
      0).fb) - min c (65536 * (s.planOf 0).fb) ≤ 65536 * (s.planOf 0).fb * 20 / 1000000) ∧
    (∃ (s : State) (c : Nat), s.held = false ∧ (s.pllState 0 = 1 ∨ s.pllState 0 = 3) ∧ 3 ≤ (s.pll 0).good ∧ max c (65536 * (s.planOf
      0).fb) - min c (65536 * (s.planOf 0).fb) ≤ 65536 * (s.planOf 0).fb * 20 / 1000000) ∧
    (∃ (s : State) (p : Fin 15) (c : Nat), s.held = false ∧ 0 < p.val ∧ (s.pllState p = 1 ∨ s.pllState p = 3) ∧ (s.pll p).good < 3 ∧ max
      c (65536 * s.feedback p) - min c (65536 * s.feedback p) ≤ 65536 * s.feedback p * 20 / 1000000) ∧
    (∃ (s : State) (p : Fin 15) (c : Nat), s.held = false ∧ 0 < p.val ∧ (s.pllState p = 1 ∨ s.pllState p = 3) ∧ 65536 * s.feedback p *
      20 / 1000000 < max c (65536 * s.feedback p) - min c (65536 * s.feedback p)) ∧
    (∃ (s : State) (k : Fin 4) (c : Nat), s.held = false ∧ (s.pllState (k + 9) = 1 ∨ s.pllState (k + 9) = 3) ∧ 3 ≤ (s.pll (k + 9)).good
      ∧ s.status O.OPLL_STATUS (k + 1) = 1 ∧ max c (65536 * s.feedback (k + 9)) - min c (65536 * s.feedback (k + 9)) ≤ 65536 *
      s.feedback (k + 9) * 20 / 1000000) ∧
    (∃ (s : State) (c : PllLossCause), s.held = false ∧ s.pllState 13 = 2) ∧
    (∃ (s : State) (c : PllLossCause), s.held = false ∧ s.pllState 0 = 2) ∧
    (∃ (s : State) (p : Fin 15) (c : PllLossCause), s.held = false ∧ s.pllState p ≠ 2) ∧
    (∃ (s : State) (p : Fin 15), s.held = false ∧ (s.pllState p = 1 ∨ s.pllState p = 3)) ∧
    (∃ (s : State) (p : Fin 15) (c : Nat), s.held = false ∧ 0 < p.val ∧ s.pllState p ≠ 0) ∧
    (∃ (s : State) (i : Island), s.held = false ∧ (s.pll (islandPll i).1).change = false) :=
  ⟨⟨(w.modPll 0 fun x => { x with good := 2 }), 65536 * (w.planOf 0).fb, by decide +kernel⟩,
   ⟨(w.modPll 0 fun x => { x with good := 3 }), 65536 * (w.planOf 0).fb, by decide +kernel⟩,
   ⟨(((w.modPll 1 fun x => { x with good := 2 }).setObj O.PLL_STATE 1 2).setObj O.PLL_DIV 240 2), 1, 65536 * 240 + 314,
     by decide +kernel⟩,
   ⟨((w.setObj O.PLL_STATE 3 2).setObj O.PLL_DIV 240 2), 1, 65536 * 240 + 315, by decide +kernel⟩,
   ⟨((((w.modPll 9 fun x => { x with good := 3 }).setObj O.PLL_STATE 1 10).setObj O.PLL_DIV 50 10).setObj O.OPLL_STATUS 1 1),
     0, 65536 * 50 - 65, by decide +kernel⟩,
   ⟨(w.setObj O.PLL_STATE 2 14), .cycleSlip, by decide +kernel⟩,
   ⟨(w.setObj O.PLL_STATE 2 1), .cycleSlip, by decide +kernel⟩,
   ⟨w, 0, .cycleSlip, by decide +kernel⟩,
   ⟨w, 0, by decide +kernel⟩,
   ⟨(w.setObj O.PLL_STATE 1 2), 1, 0, by decide +kernel⟩,
   ⟨w, .fabric, by decide +kernel⟩⟩

theorem witness_ClockOutputsFollow :
    (w.held = false) ∧
    (∃ (s : State) (k : Fin 4) (v : BitVec 16), s.held = false ∧ s.opllBusy k = true) ∧
    (∃ (s : State) (k : Fin 4) (v : BitVec 16), s.held = false ∧ s.opllBusy k = false ∧ (s.setObj O.OPLL_MULT v.toNat (k + 1)).opllOk k
      = false) ∧
    (∃ (s : State) (k : Fin 4) (v : BitVec 16), s.held = false ∧ s.obj O.OPLL_STATUS (k + 1) = 0 ∧ (s.setObj O.OPLL_MULT v.toNat (k +
      1)).opllOk k = true ∧ s.obj O.PLL_STATE (k + 10) = 0 ∧ s.obj O.CLKOUT_EN (2 * k + 1) = 0 ∧ s.obj O.CLKOUT_EN (2 * k + 2) = 0) ∧
    (∃ (s : State) (k : Fin 4) (b : Bool), s.held = false ∧ s.obj O.OPLL_STATUS (k + 1) = 0 ∧ s.obj O.PLL_STATE (k + 10) = 0 ∧ s.obj
      O.CLKOUT_EN (2 * k + 1) = 0 ∧ s.obj O.CLKOUT_EN (2 * k + 2) = 0 ∧ s.gate (2 * k + b2n b) ≠ 2 ∧ (s.setObj O.CLKOUT_EN 1 (2 * k +
      b2n b + 1)).opllOk k = true) ∧
    (∃ (s : State) (k : Fin 4) (b : Bool) (d : BitVec 16) (std : Byte), s.held = false ∧ s.obj O.OPLL_STATUS (k + 1) = 0 ∧ d.toNat ≤
      4096 ∧ std.toNat ≤ 2 ∧ s.obj O.PLL_STATE (k + 10) = 0 ∧ s.obj O.CLKOUT_EN (2 * k + 1) = 0 ∧ s.obj O.CLKOUT_EN (2 * k + 2) = 0 ∧
      s.gate (2 * k + b2n b) = 0 ∧ ((s.setObj O.CLKOUT_DIV d.toNat (2 * k + b2n b + 1)).setObj O.CLKOUT_STD std.toNat (2 * k + b2n b +
      1)).opllOk k = true) ∧
    (∃ (s : State) (n : Fin 8) (v : BitVec 32), s.held = false ∧ s.phaseUnits n ≤ v.toNat) ∧
    (∃ (s : State) (n : Fin 8) (v : BitVec 32), s.held = false ∧ v.toNat < s.phaseUnits n ∧ s.gate n ≠ 2) ∧
    (∃ (s : State) (n : Fin 8) (v : BitVec 32), s.held = false ∧ v.toNat < s.phaseUnits n ∧ s.gate n = 2) ∧
    (∃ (s : State) (n : Fin 8) (v : BitVec 16), s.held = false ∧ v.toNat ≠ 0) ∧
    (∃ (s : State) (n : Fin 8), s.held = false ∧ (s.clkout n).closing = true ∧ (s.clkout n).off = false ∧ (s.pll (n / 2 + 9)).change =
      false ∧ s.obj O.PLL_STATE (n / 2 + 10) ≠ 2) ∧
    (∃ (s : State) (n : Fin 8) (first : Nat) (every : Nat), s.held = false ∧ (s.clkout n).ready = true ∧ s.outHold = false ∧ s.outOff =
      false ∧ s.gate n = 1 ∧ s.boundary n = some (first, every) ∧ s.phaseUnits n ≠ 0) ∧
    (∃ (s : State) (n : Fin 8) (e : Nat), s.held = false ∧ s.gate n = 2 ∧ (s.clkout n).walk = true ∧ s.phaseUnits n ≠ 0 ∧ ((s.clkout
      n).edges + e) / max 1 (s.obj O.CLKOUT_STEP_EVERY (n + 1)) = 1 ∧ (s.clkout n).trimIn = 0 ∧ s.obj O.CLKOUT_PHASE (n + 1) %
      s.phaseUnits n ≠ s.obj O.CLKOUT_PHASE_ACT (n + 1) % s.phaseUnits n) ∧
    (∃ (s : State) (n : Fin 8) (e : Nat), s.held = false ∧ s.gate n = 2 ∧ (s.clkout n).walk = true ∧ s.phaseUnits n ≠ 0 ∧ (s.clkout
      n).edges + e < max 1 (s.obj O.CLKOUT_STEP_EVERY (n + 1)) ∧ s.obj O.CLKOUT_PHASE_ACT (n + 1) < s.phaseUnits n) ∧
    (∃ (s : State) (d : Int), s.held = false ∧ 1000000 < d.natAbs) ∧
    (∃ (s : State) (d : Int), s.held = false ∧ d.natAbs ≤ 1000000 ∧ s.clk.refSeen = false) ∧
    (∃ (s : State) (d : Int), s.held = false ∧ d.natAbs ≤ 1000000 ∧ s.clk.refSeen = true) ∧
    (∃ (s : State), s.held = false ∧ s.obj O.REFIN_STATE = 1 ∧ s.obj O.REFIN_QUAL ≤ s.clk.refGood * 100) :=
  ⟨rfl,
   ⟨(w.setObj O.OPLL_STATUS 1 1), 0, 0, by decide +kernel⟩,
   ⟨w, 0, 39, by decide +kernel⟩,
   ⟨w, 0, 60, by decide +kernel⟩,
   ⟨clkSt, 0, false, by decide +kernel⟩,
   ⟨clkSt, 0, false, 4096, 2, by decide +kernel⟩,
   ⟨clkSt, 0, BitVec.ofNat 32 (clkSt.phaseUnits 0), by decide +kernel⟩,
   ⟨clkSt, 0, BitVec.ofNat 32 (clkSt.phaseUnits 0 - 1), by decide +kernel⟩,
   ⟨(clkSt.setObj O.CLKOUT_GATE 2 1), 0, BitVec.ofNat 32 (clkSt.phaseUnits 0 - 1), by decide +kernel⟩,
   ⟨w, 0, 1, by decide +kernel⟩,
   ⟨(w.modClkout 0 fun x => { x with closing := true }), 0, by decide +kernel⟩,
   ⟨((clkSt.modClkout 0 fun x => { x with ready := true }).setObj O.CLKOUT_GATE 1 1), 0, ((clkSt.boundary 0).getD (0, 0)).1,
     ((clkSt.boundary 0).getD (0, 0)).2, by decide +kernel⟩,
   ⟨(((clkSt.modClkout 0 fun x => { x with walk := true }).setObj O.CLKOUT_GATE 2 1).setObj O.CLKOUT_PHASE 1 1), 0, 1,
     by decide +kernel⟩,
   ⟨((clkSt.modClkout 0 fun x => { x with walk := true }).setObj O.CLKOUT_GATE 2 1), 0, 0, by decide +kernel⟩,
   ⟨w, 1000001, by decide +kernel⟩,
   ⟨w, -1000000, by decide +kernel⟩,
   ⟨{ w with clk := { w.clk with refSeen := true } }, -1000000, by decide +kernel⟩,
   ⟨({ w with clk := { w.clk with refGood := 100 } }.setObj O.REFIN_STATE 1), by decide +kernel⟩⟩

theorem witness_RouteChangesSettle :
    (w.held = false) ∧
    (∃ (s : State) (p : Fin 48) (b : Body) (a : Arrival), s.held = false ∧ (s.port p).req = none) ∧
    (∃ (s : State) (p : Fin 48) (b : Body) (a : Arrival) (seq : Nat) (n : Nat) (t1 : Time56) (t3 : Time56) (t4 : Time56) (fwd : Int)
      (back : Int), s.held = false ∧ (s.port p).req = some (seq, t1, n) ∧ s.native p = true ∧ (s.lport p).up = true ∧ blk b 119 118 = 1
      ∧ blk b 117 112 = seq ∧ s.hearth.state = .track ∧ (s.port p).complete = false ∧ (s.port p).run.length < 7 ∧ t3 = BitVec.ofNat 56
      (blk b 111 56) ∧ t4 = (s.sampled (p + a.lane) a.codes).arrival (p + a.lane) a.tw ∧ fwd = tdiff56 (t3 - BitVec.ofNat 56 (blk b 55
      16)) t1 ∧ back = tdiff56 t4 t3) ∧
    (∃ (s : State) (p : Fin 48) (b : Body) (a : Arrival) (seq : Nat) (n : Nat) (t1 : Time56) (t3 : Time56) (t4 : Time56) (fwd : Int)
      (back : Int) (theta : Int), s.held = false ∧ (s.port p).req = some (seq, t1, n) ∧ s.native p = true ∧ (s.lport p).up = true ∧ blk
      b 119 118 = 1 ∧ blk b 117 112 = seq ∧ s.hearth.state = .track ∧ s.source ≠ p ∧ s.routeState p = 0 ∧ (s.port p).complete = true ∧
      (s.port p).cand = none ∧ t3 = BitVec.ofNat 56 (blk b 111 56) ∧ t4 = (s.sampled (p + a.lane) a.codes).arrival (p + a.lane) a.tw ∧
      fwd = tdiff56 (t3 - BitVec.ofNat 56 (blk b 55 16)) t1 ∧ back = tdiff56 t4 t3 ∧ theta = roundDiv (back - fwd - s.asymOf p (back +
      fwd)) 2 - s.objI O.LINK_LANE_SKEW (n + 1) ∧ within (back + fwd - s.deltaRef p) (s.obj O.ROUTE_LIMIT) = true ∧ ((s.port p).settled
      = true ∨ within (theta - ((s.port p).bias + roundDiv s.hearth.moved (2 ^ 64))) (s.obj O.STEP_MIN) = true)) ∧
    (∃ (s : State) (p : Fin 48), s.held = false ∧ s.routeState p = 3 ∧ s.obj O.ROUTE_POLICY = 0) ∧
    (∃ (s : State) (p : Fin 48), s.held = false ∧ s.routeState p = 3 ∧ s.obj O.ROUTE_POLICY = 1) ∧
    (∃ (s : State) (p : Fin 48), s.held = false ∧ s.routeState p = 3 ∧ 2 ≤ s.obj O.ROUTE_POLICY) ∧
    (∃ (s : State) (p : Fin 48), s.held = false ∧ s.routeState p ≠ 3) ∧
    (∃ (s : State) (p : Fin 48), s.held = false ∧ (s.routeState p = 3 ∨ s.routeState p = 4)) ∧
    (∃ (s : State) (p : Fin 48), s.held = false ∧ (s.routeState p = 3 ∨ s.routeState p = 4)) ∧
    (∃ (s : State) (p : Fin 48), s.held = false ∧ s.routeState p = 4) ∧
    (∃ (s : State) (p : Fin 48), s.held = false ∧ s.routeState p ≠ 3 ∧ s.routeState p ≠ 4) ∧
    (∃ (s : State) (p : Fin 48) (c : Bool), s.held = false ∧ (c = false ∨ (s.port p).rangedAt ≠ some s.hearth.cycles) ∧ s.routeState p =
      2) ∧
    (∃ (s : State) (p : Fin 48) (c : Bool), s.held = false ∧ (c = false ∨ (s.port p).rangedAt ≠ some s.hearth.cycles) ∧ s.routeState p ≠
      2) ∧
    (∃ (s : State) (p : Fin 48), s.held = false ∧ (s.port p).rangedAt = some s.hearth.cycles) ∧
    (∃ (s : State) (p : Fin 48) (r : List (LineTime × LineTime)), s.held = false ∧ s.routeState p ≠ 2 ∧ s.obj O.PORT_RANGE_MODE (p + 1)
      = 1 ∧ s.native p = true ∧ bit (s.rxAct p) 0 = true ∧ bit (s.rxAct p) 1 = true ∧ r ≠ []) ∧
    (∃ (s : State) (p : Fin 48) (r : List (LineTime × LineTime)), s.held = false ∧ s.routeState p = 2 ∧ s.elapsed (s.port p).confirmAt
      (10 ^ 9) = true ∧ s.obj O.PORT_RANGE_MODE (p + 1) ≠ 1) :=
  ⟨rfl,
   ⟨w, 0, 0, arr0, by decide +kernel⟩,
   ⟨(((w.modHearth fun h => { h with state := .track }).modLPort 0 fun l => { l with up := true }).modPort 0 fun l => { l with req := some (0, 0, 0), run := List.replicate 6 (0, 0) }),
     0, BitVec.ofNat 104 (2 ^ 102), arr0, 0, 0, 0, 0, 0, 0, 0, by decide +kernel⟩,
   ⟨((((w.modHearth fun h => { h with state := .track }).modLPort 0 fun l => { l with up := true }).modPort 0 fun l => { l with req := some (0, 0, 0), complete := true }).setObj O.UPSTREAM_PORT 1),
     0, BitVec.ofNat 104 (2 ^ 102), arr0, 0, 0, 0, 0, 0, 0, 0, 0, by decide +kernel⟩,
   ⟨((w.setObj O.PORT_ROUTE_STATE 3 1).setObj O.ROUTE_POLICY 0), 0, by decide +kernel⟩,
   ⟨((w.setObj O.PORT_ROUTE_STATE 3 1).setObj O.ROUTE_POLICY 1), 0, by decide +kernel⟩,
   ⟨((w.setObj O.PORT_ROUTE_STATE 3 1).setObj O.ROUTE_POLICY 2), 0, by decide +kernel⟩,
   ⟨w, 0, by decide +kernel⟩,
   ⟨(w.setObj O.PORT_ROUTE_STATE 3 1), 0, by decide +kernel⟩,
   ⟨(w.setObj O.PORT_ROUTE_STATE 3 1), 0, by decide +kernel⟩,
   ⟨(w.setObj O.PORT_ROUTE_STATE 4 1), 0, by decide +kernel⟩,
   ⟨w, 0, by decide +kernel⟩,
   ⟨(w.setObj O.PORT_ROUTE_STATE 2 1), 0, true, by decide +kernel⟩,
   ⟨w, 0, true, by decide +kernel⟩,
   ⟨(w.modPort 0 fun l => { l with rangedAt := some 0 }), 0, by decide +kernel⟩,
   ⟨((w.setObj O.PORT_RANGE_MODE 1 1).setObj O.PORT_ACTIVE 0x30 1), 0, [(line0, line0)], by decide +kernel⟩,
   ⟨(((w.setObj O.PORT_ROUTE_STATE 2 1).setObj O.HEARTH_INC (2 ^ 41)).modHearth fun h => { h with cycles := 5 * 10 ^ 8 }), 0,
     [], by decide +kernel⟩⟩

theorem witness_PpsAndPtp :
    (∃ (s : State) (e : Time56), s.held = false ∧ s.watches 16 true = false) ∧
    (∃ (s : State) (e : Time56), s.held = false ∧ s.captured 16 e true = true ∧ s.obj O.EXTREF_MODE ≠ 1) ∧
    (∃ (s : State) (e : Time56), s.held = false ∧ s.captured 16 e true = true ∧ s.obj O.EXTREF_MODE = 1 ∧ s.source ≠ extref ∧
      s.hearth.state = .track) ∧
    (∃ (s : State) (p : Fin 48), s.held = false ∧ s.bcPort p = true ∧ (s.port p).ptpSlave = false) ∧
    (∃ (s : State) (p : Fin 48), s.held = false ∧ (s.bcPort p = false ∨ (s.port p).ptpSlave = true)) ∧
    (∃ (s : State) (p : Fin 48), s.held = false ∧ s.bcPort p = true ∧ (s.port p).ptpSlave = false ∧ s.servo.epochSet = false) ∧
    (∃ (s : State) (p : Fin 48), s.held = false ∧ s.bcPort p = true ∧ (s.port p).ptpSlave = true) ∧
    (∃ (s : State) (p : Fin 48) (m : PtpMsg) (a : Time56), s.held = false ∧ (s.bcPort p = false ∨ m.domain.toNat ≠ s.obj O.PTP_DOMAIN ∨
      m.transport.toNat ≠ s.obj O.PTP_TRANSPORT (p + 1) ∨ m.kind = .management ∨ m.kind = .signalling)) ∧
    (∃ (s : State) (p : Fin 48) (m : PtpMsg) (a : Time56), s.held = false ∧ s.bcPort p = true ∧ m.domain.toNat = s.obj O.PTP_DOMAIN ∧
      m.transport.toNat = s.obj O.PTP_TRANSPORT (p + 1) ∧ m.kind = .announce ∧ m.slave = true ∧ s.hearth.state = .track) ∧
    (∃ (s : State) (p : Fin 48) (m : PtpMsg) (a : Time56), s.held = false ∧ s.bcPort p = true ∧ m.domain.toNat = s.obj O.PTP_DOMAIN ∧
      m.transport.toNat = s.obj O.PTP_TRANSPORT (p + 1) ∧ m.kind = .announce ∧ m.slave = false ∧ s.hearth.state = .track) ∧
    (∃ (s : State) (p : Fin 48) (m : PtpMsg) (a : Time56), s.held = false ∧ s.bcPort p = true ∧ m.domain.toNat = s.obj O.PTP_DOMAIN ∧
      m.transport.toNat = s.obj O.PTP_TRANSPORT (p + 1) ∧ m.kind = .sync ∧ m.twoStep = true ∧ (s.port p).ptpSlave = true ∧
      m.source.toNat = (s.port p).ptpMaster) ∧
    (∃ (s : State) (p : Fin 48) (m : PtpMsg) (a : Time56) (r : Nat) (c : Int), s.held = false ∧ s.bcPort p = true ∧ m.domain.toNat =
      s.obj O.PTP_DOMAIN ∧ m.transport.toNat = s.obj O.PTP_TRANSPORT (p + 1) ∧ m.kind = .followUp ∧ (s.port p).ptpSlave = true ∧
      m.source.toNat = (s.port p).ptpMaster ∧ (s.port p).ptpSync = some (m.seq.toNat, r, c)) ∧
    (∃ (s : State) (p : Fin 48) (m : PtpMsg) (a : Time56), s.held = false ∧ s.bcPort p = true ∧ m.domain.toNat = s.obj O.PTP_DOMAIN ∧
      m.transport.toNat = s.obj O.PTP_TRANSPORT (p + 1) ∧ m.kind = .delayReq ∧ (s.port p).ptpSlave = false) :=
  ⟨⟨(w.modTio fun x => { x with suspended := true }), 0, by decide +kernel⟩,
   ⟨w, 0, by decide +kernel⟩,
   ⟨((w.modHearth fun h => { h with state := .track }).setObj O.EXTREF_MODE 1), 0, by decide +kernel⟩,
   ⟨bcSt, 0, by decide +kernel⟩,
   ⟨w, 0, by decide +kernel⟩,
   ⟨bcSt, 0, by decide +kernel⟩,
   ⟨(bcSt.modPort 0 fun l => { l with ptpSlave := true }), 0, by decide +kernel⟩,
   ⟨w, 0, ptp .sync false false, 0, by decide +kernel⟩,
   ⟨(bcSt.modHearth fun h => { h with state := .track }), 0, ptp .announce false true, 0, by decide +kernel⟩,
   ⟨(bcSt.modHearth fun h => { h with state := .track }), 0, ptp .announce false false, 0, by decide +kernel⟩,
   ⟨(bcSt.modPort 0 fun l => { l with ptpSlave := true }), 0, ptp .sync true false, 0, by decide +kernel⟩,
   ⟨(bcSt.modPort 0 fun l => { l with ptpSlave := true, ptpSync := some (0, 0, 0) }), 0, ptp .followUp false false, 0, 0, 0,
     by decide +kernel⟩,
   ⟨bcSt, 0, ptp .delayReq false false, 0, by decide +kernel⟩⟩

theorem witness_GeneratorsPulse :
    (∃ (s : State) (t : Fin 16) (v : Byte), s.held = false ∧ s.tioModeOk t v.toNat = false) ∧
    (∃ (s : State) (t : Fin 16), s.held = false ∧ s.tioModeOk t 1 = true ∧ s.tioMode t = 0) ∧
    (∃ (s : State) (t : Fin 16) (v : Byte), s.held = false ∧ s.tioModeOk t v.toNat = true ∧ s.tioMode t ≠ 0 ∧ s.tioMode t ≠ v.toNat ∧ 2
      ≤ v.toNat ∧ v.toNat ≠ 4 ∧ s.outOff = false) ∧
    (∃ (s : State) (t : Fin 16) (v : Byte), s.held = false ∧ v.toNat ≤ 1 ∧ s.tioMode t = 4 ∧ s.outOff = false ∧ s.outHold = false) ∧
    (∃ (s : State) (t : Fin 16) (v : Byte), s.held = false ∧ v.toNat ≤ 1 ∧ s.tioMode t ≠ 4) ∧
    (∃ (s : State) (t : Fin 16) (v : Byte), s.held = false ∧ 1 < v.toNat) ∧
    (∃ (s : State) (t : Fin 16), s.held = false ∧ s.isGen t = true ∧ s.genBusy t = false ∧ s.genOk t = true ∧ (s.obj O.TIO_TIMEBASE (t +
      1) ≠ 0 ∨ 100 ≤ tdiff (s.obj O.TIO_T0 (t + 1) / 2 ^ 32) s.ns)) ∧
    (∃ (s : State) (t : Fin 16), s.held = false ∧ s.isGen t = true ∧ s.genBusy t = false ∧ s.genOk t = true ∧ s.obj O.TIO_TIMEBASE (t +
      1) = 0 ∧ tdiff (s.obj O.TIO_T0 (t + 1) / 2 ^ 32) s.ns < 100) ∧
    (∃ (s : State) (t : Fin 16), s.held = false ∧ (s.isGen t = false ∨ s.genBusy t = true ∨ s.genOk t = false)) ∧
    (∃ (s : State) (t : Fin 16) (c : Bool), s.held = false ∧ s.genBusy t = true ∧ (c = false ∨ s.isGen t = false ∨ s.lastEdge t (s.gen
      t).k = false ∨ s.tio.suspended = true)) ∧
    (∃ (s : State) (t : Fin 16), s.held = false ∧ s.genBusy t = true ∧ s.isGen t = true ∧ s.lastEdge t (s.gen t).k = true ∧
      s.tio.suspended = false) ∧
    (∃ (s : State) (t : Fin 16), s.held = false ∧ s.genBusy t = false ∧ s.isGen t = true ∧ s.status O.TIO_STATUS (t + 1) = 2 ∧ bits
      (s.obj O.TIO_STATUS (t + 1)) 7 4 = 1) ∧
    (∃ (s : State) (t : Fin 16) (c : Bool), s.held = false ∧ s.genBusy t = false ∧ (c = false ∨ s.isGen t = false ∨ s.status
      O.TIO_STATUS (t + 1) ≠ 2 ∨ bits (s.obj O.TIO_STATUS (t + 1)) 7 4 ≠ 1)) ∧
    (∃ (s : State) (t : Fin 16), s.held = false ∧ s.isGen t = true ∧ s.genBusy t = true ∧ s.tio.suspended = false ∧ (s.gen t).high =
      false ∧ s.lastEdge t (s.gen t).k = false ∧ s.outOff = false ∧ s.outHold = false ∧ (s.calRec 5 t).state ≠ 2 ∧ (s.calRec 6 t).state
      ≠ 2) ∧
    (∃ (s : State) (t : Fin 16), s.held = false ∧ s.isGen t = true ∧ s.genBusy t = true ∧ s.tio.suspended = false ∧ (s.gen t).high =
      true ∧ tdiff56 (BitVec.ofInt 56 (s.riseTime t)) ((s.gen t).rose + BitVec.ofInt 56 (psToU (s.gen t).width)) < 0 ∧ s.lastEdge t
      (s.gen t).k = true ∧ (s.calRec 5 t).state ≠ 2 ∧ (s.calRec 6 t).state ≠ 2) ∧
    (∃ (s : State) (t : Fin 16), s.held = false ∧ s.isGen t = true ∧ s.genBusy t = true ∧ s.tio.suspended = true ∧ (s.tioMode t = 3 ∨
      (s.gen t).k = 0) ∧ (s.calRec 5 t).state ≠ 2 ∧ (s.calRec 6 t).state ≠ 2) ∧
    (∃ (s : State) (t : Fin 16), s.held = false ∧ (s.gen t).high = true ∧ s.outOff = false ∧ s.tio.suspended = false) ∧
    (∃ (s : State), s.held = false ∧ s.obj O.TIO_SAFE_TIMEOUT ≠ 0 ∧ s.obj O.HIER_RANK ≠ 0) ∧
    (∃ (s : State), s.held = false ∧ (s.obj O.TIO_SAFE_TIMEOUT = 0 ∨ s.obj O.HIER_RANK = 0)) :=
  ⟨⟨w, 0, 6, by decide +kernel⟩,
   ⟨w, 0, by decide +kernel⟩,
   ⟨(w.setObj O.TIO_MODE 1 1), 0, 5, by decide +kernel⟩,
   ⟨(w.setObj O.TIO_MODE 4 1), 0, 1, by decide +kernel⟩,
   ⟨w, 0, 1, by decide +kernel⟩,
   ⟨w, 0, 2, by decide +kernel⟩,
   ⟨((((w.setObj O.TIO_MODE 2 1).setObj O.TIO_WIDTH 2000 1).setObj O.TIO_PERIOD (4*2^24) 1).setObj O.TIO_T0 (100*2^32) 1), 0,
     by decide +kernel⟩,
   ⟨((((w.setObj O.TIO_MODE 2 1).setObj O.TIO_WIDTH 2000 1).setObj O.TIO_PERIOD (4*2^24) 1).setObj O.TIO_T0 (100*2^32-1) 1), 0,
     by decide +kernel⟩,
   ⟨w, 0, by decide +kernel⟩,
   ⟨(((w.modGen 0 fun x => { x with on := true }).setObj O.TIO_MODE 3 1).setObj O.TIO_COUNT 2 1), 0, true, by decide +kernel⟩,
   ⟨(((w.modGen 0 fun x => { x with on := true }).setObj O.TIO_MODE 3 1).setObj O.TIO_COUNT 1 1), 0, by decide +kernel⟩,
   ⟨((w.setObj O.TIO_STATUS 18 1).setObj O.TIO_MODE 2 1), 0, by decide +kernel⟩,
   ⟨((w.setObj O.TIO_STATUS 17 1).setObj O.TIO_MODE 2 1), 0, true, by decide +kernel⟩,
   ⟨(((w.modGen 0 fun x => { x with on := true }).setObj O.TIO_MODE 3 1).setObj O.TIO_COUNT 2 1), 0, by decide +kernel⟩,
   ⟨(((w.modGen 0 fun x => { x with on := true, high := true, rose := 1 }).setObj O.TIO_MODE 3 1).setObj O.TIO_COUNT 1 1), 0,
     by decide +kernel⟩,
   ⟨((((w.modGen 0 fun x => { x with on := true }).setObj O.TIO_MODE 3 1).setObj O.TIO_COUNT 1 1).modTio fun x => { x with suspended := true }),
     0, by decide +kernel⟩,
   ⟨(w.modGen 0 fun x => { x with high := true }), 0, by decide +kernel⟩,
   ⟨(w.setObj O.TIO_SAFE_TIMEOUT 1), by decide +kernel⟩,
   ⟨w, by decide +kernel⟩⟩

theorem witness_CapturesAndMarks :
    (w.held = false) ∧
    (∃ (s : State) (c : Fin 16) (e : Time56) (r : Bool), s.held = false ∧ s.watches c r = true ∧ s.tooClose c e = false ∧ (s.calRec 5
      c).state ≠ 2 ∧ (s.calRec 6 c).state ≠ 2 ∧ (s.tdc c).recs ≠ [] ∧ (s.tdc c).recs.length < 64) ∧
    (∃ (s : State) (c : Fin 16) (e : Time56) (r : Bool), s.held = false ∧ s.watches c r = true ∧ s.tooClose c e = false ∧ (s.calRec 5
      c).state ≠ 2 ∧ (s.calRec 6 c).state ≠ 2 ∧ (s.tdc c).recs = []) ∧
    (∃ (s : State) (c : Fin 16) (e : Time56) (r : Bool), s.held = false ∧ s.watches c r = true ∧ s.tooClose c e = true ∧ (s.calRec 5
      c).state ≠ 2 ∧ (s.calRec 6 c).state ≠ 2) ∧
    (∃ (s : State) (c : Fin 16) (e : Time56) (r : Bool), s.held = false ∧ s.watches c r = true ∧ s.tooClose c e = false ∧ (s.calRec 5
      c).state ≠ 2 ∧ (s.calRec 6 c).state ≠ 2 ∧ 64 ≤ (s.tdc c).recs.length) ∧
    (∃ (s : State) (c : Fin 16) (e : Time56) (r : Bool), s.held = false ∧ s.watches c r = false) ∧
    (∃ (s : State) (c : Fin 18) (e : Time56) (r : Bool), s.held = false ∧ s.tio.suspended = true) ∧
    (∃ (s : State) (c : Fin 18) (x : Bytes) (xs : List Bytes), s.held = false ∧ (s.tdc c).recs = x :: xs) ∧
    (∃ (s : State) (c : Fin 18), s.held = false ∧ (s.tdc c).recs = []) ∧
    (∃ (s : State) (t : Fin 16), s.held = false ∧ s.tioMode t = 1) ∧
    (∃ (s : State) (t : Fin 16), s.held = false ∧ s.tioMode t ≠ 1) ∧
    (∃ (s : State) (e : Time56), s.held = false ∧ s.watches 17 true = false) ∧
    (∃ (s : State) (e : Time56), s.held = false ∧ s.captured 17 e true = true ∧ 0 < s.f0Period ∧ s.obj O.MARK_MODE = 0 ∧ 3 * (s.f0Period
      : Int) ≤ 8 * (s.markOwn e - nearestEdge s.f0Period (s.markOwn e) * s.f0Period).natAbs) ∧
    (∃ (s : State) (e : Time56), s.held = false ∧ s.captured 17 e true = true ∧ 0 < s.f0Period ∧ (s.obj O.MARK_MODE = 1 ∨ (s.obj
      O.MARK_MODE = 2 ∧ s.tio.aligned = true)) ∧ ((s.obj O.F0_CNT : Int) + nearestEdge s.f0Period (s.markOwn e)) % s.obj O.MC_LEN_ACT ≠
      0) ∧
    (∃ (s : State) (e : Time56), s.held = false ∧ s.captured 17 e true = true ∧ 0 < s.f0Period ∧ s.obj O.MARK_MODE = 2 ∧ s.tio.aligned =
      false ∧ s.tio.markLast = none ∧ 8 * ((s.markOwn e - nearestEdge s.f0Period (s.markOwn e) * s.f0Period).natAbs : Int) < 3 *
      s.f0Period) ∧
    (∃ (s : State), s.held = false ∧ s.obj O.PPS_OUT_EN ≠ 0 ∧ s.tio.ppsHigh = false ∧ s.outOff = false) ∧
    (∃ (s : State), s.held = false ∧ s.obj O.PPS_OUT_EN = 0) ∧
    (∃ (s : State), s.held = false ∧ s.tio.ppsHigh = true) :=
  ⟨rfl,
   ⟨((w.setObj O.TIO_MODE 1 1).modTdc 0 fun x => { x with recs := List.replicate 63 [], last := none }), 0, 0, true,
     by decide +kernel⟩,
   ⟨((w.setObj O.TIO_MODE 1 1).modTdc 0 fun x => { x with recs := List.replicate 0 [], last := none }), 0, 0, true,
     by decide +kernel⟩,
   ⟨{ ((w.setObj O.TIO_MODE 1 1).modTdc 0 fun x => { x with last := some (0, 0) }) with clk := { w.clk with f0 := 10 ^ 11 } },
     0, BitVec.ofNat 56 (3 * 2 ^ 24), true, by decide +kernel⟩,
   ⟨((w.setObj O.TIO_MODE 1 1).modTdc 0 fun x => { x with recs := List.replicate 64 [], last := none }), 0, 0, true,
     by decide +kernel⟩,
   ⟨w, 0, 0, true, by decide +kernel⟩,
   ⟨(w.modTio fun x => { x with suspended := true }), 0, 0, false, by decide +kernel⟩,
   ⟨(w.modTdc 0 fun x => { x with recs := [[0]] }), 0, [0], [], by decide +kernel⟩,
   ⟨w, 0, by decide +kernel⟩,
   ⟨(w.setObj O.TIO_MODE 1 1), 0, by decide +kernel⟩,
   ⟨w, 0, by decide +kernel⟩,
   ⟨(w.modTio fun x => { x with suspended := true }), 0, by decide +kernel⟩,
   ⟨((w.setObj O.CLK_M 1).setObj O.HEARTH_INC (2 ^ 40 / 10)), 838861, by decide +kernel⟩,
   ⟨(((((w.setObj O.CLK_M 1).setObj O.HEARTH_INC (2 ^ 40 / 10)).setObj O.MARK_MODE 1).setObj O.F0_CNT 1).setObj O.MC_LEN_ACT 3),
     0, by decide +kernel⟩,
   ⟨(((w.setObj O.CLK_M 1).setObj O.HEARTH_INC (2^17)).setObj O.MARK_MODE 2), 0, by decide +kernel⟩,
   ⟨(w.setObj O.PPS_OUT_EN 1), by decide +kernel⟩,
   ⟨w, by decide +kernel⟩,
   ⟨(w.modTio fun x => { x with ppsHigh := true }), by decide +kernel⟩⟩

theorem witness_CommandsTravel :
    (w.held = false) ∧
    (∃ (s : State) (g : Fin 8), s.held = false ∧ (∀ p, s.width p ≤ 4) ∧ (s.group g).sfcOn = true ∧ s.tpllOk g = true ∧ (s.group g).mode
      = 0) ∧
    (∃ (s : State) (g : Fin 8), s.held = false ∧ ((s.group g).sfcOn = false ∨ s.tpllOk g = false ∨ (s.group g).mode ≠ 0)) ∧
    (∃ (s : State) (p : Fin 48) (b : Body), s.held = false ∧ (s.cmdFrom p = false ∨ cmdOp b = 0)) ∧
    (∃ (s : State) (p : Fin 48) (b : Body) (l : Nat), s.held = false ∧ s.cmdFrom p = true ∧ cmdOp b ≠ 0 ∧ s.lastSeq (cmdIss b) = some l
      ∧ ((cmdSeq b + 256 - l) % 256 = 0 ∨ 128 ≤ (cmdSeq b + 256 - l) % 256)) ∧
    (∃ (s : State) (p : Fin 48) (b : Body), s.held = false ∧ s.cmdFrom p = true ∧ cmdOp b ≠ 0 ∧ s.cmdNew b = true ∧ s.cmdLate b = true) ∧
    (∃ (s : State) (p : Fin 48) (b : Body), s.held = false ∧ s.cmdFrom p = true ∧ cmdOp b ≠ 0 ∧ s.cmdNew b = true ∧ s.cmdLate b = false
      ∧ s.cmdMine b = true ∧ s.tio.execQ.length < 32 ∧ (∀ q ∈ s.relayPorts b, (Tab.get s.tio.relayQ [] q).length < 16)) ∧
    (∃ (s : State) (p : Fin 48), s.held = false ∧ s.native p = true ∧ (s.lport p).up = true ∧ s.tio.issueQ = none ∧ s.epPort p = false ∧
      s.activeLanes p ≠ []) ∧
    (∃ (s : State) (p : Fin 48) (b : Nat), s.held = false ∧ s.native p = true ∧ (s.lport p).up = true ∧ s.tio.issueQ = some b ∧
      s.activeManager = true ∧ s.issuePorts (BitVec.ofNat 104 b) = [] ∧ s.cmdMine (BitVec.ofNat 104 b) = true ∧ s.tio.execQ.length < 32) ∧
    (∃ (s : State) (v : Bytes), s.held = false ∧ s.cmdIssueOk v = false) ∧
    (∃ (s : State) (v : Bytes), s.held = false ∧ s.cmdIssueOk v = true ∧ s.issueTarget (ofBe ((v.drop 5).take 1)) (ofBe ((v.drop 6).take
      4)) (ofBe ((v.drop 10).take 2)) = none) ∧
    (∃ (s : State) (v : Bytes) (d : Int), s.held = false ∧ s.cmdIssueOk v = true ∧ ofBe ((v.drop 5).take 1) = 0 ∧ s.issueTarget 0 (ofBe
      ((v.drop 6).take 4)) (ofBe ((v.drop 10).take 2)) = some d ∧ d < (s.obj O.CMD_LEAD : Int) * 2 ^ 40) ∧
    (∃ (s : State) (v : Bytes) (d : Int), s.held = false ∧ s.cmdIssueOk v = true ∧ s.issueTarget (ofBe ((v.drop 5).take 1)) (ofBe
      ((v.drop 6).take 4)) (ofBe ((v.drop 10).take 2)) = some d ∧ (ofBe ((v.drop 5).take 1) ≠ 0 ∨ (s.obj O.CMD_LEAD : Int) * 2 ^ 40 ≤
      d)) :=
  ⟨rfl,
   ⟨((w.modGroup 0 fun g => { g with sfcOn := true }).setObj O.PLL_STATE 2 2), 0,
     by refine ⟨by decide +kernel, ?_, by decide +kernel⟩; have h : ∀ k,
     Tab.get [(O.PLL_STATE.key 2, 2)] 1 k ≤ 4 := by {intro k; simp only [Tab.get]; split <;> omega}; exact fun p => h _⟩,
   ⟨w, 0, by decide +kernel⟩,
   ⟨w, 0, 0, by decide +kernel⟩,
   ⟨(((((w.modTwin fun x => { x with port := 0 }).modPower fun x => { x with straps := 1 }).modLPort 0 fun l => { l with up := true }).setObj O.TWIN_STATE 4).modTio fun x => { x with seq0 := some 0 }),
     0, BitVec.ofNat 104 (2 ^ 100 + 2 ^ 99), 0, by decide +kernel⟩,
   ⟨((((w.modTwin fun x => { x with port := 0 }).modPower fun x => { x with straps := 1 }).modLPort 0 fun l => { l with up := true }).setObj O.TWIN_STATE 4),
     0, BitVec.ofNat 104 (2 ^ 100 + 200 * 2 ^ 40), by decide +kernel⟩,
   ⟨(((((w.modTwin fun x => { x with port := 0 }).modPower fun x => { x with straps := 1 }).modLPort 0 fun l => { l with up := true }).setObj O.TWIN_STATE 4).modTio fun x => { x with execQ := List.replicate 31 0 }),
     0, BitVec.ofNat 104 (2 ^ 100 + 201 * 2 ^ 40), by decide +kernel⟩,
   ⟨((w.modLPort 0 fun l => { l with up := true }).setObj O.PORT_ACTIVE 1 1), 0, by decide +kernel⟩,
   ⟨(((w.modLPort 0 fun l => { l with up := true }).modPower fun x => { x with straps := 1 }).modTio fun x => { x with issueQ := some 0, execQ := List.replicate 31 0 }),
     0, 0, by decide +kernel⟩,
   ⟨w, [], by decide +kernel⟩,
   ⟨(w.modPower fun x => { x with straps := 1 }), [1, 0, 0, 0, 0, 2, 0, 0, 0, 1, 0, 0, 0, 0, 0, 0], by decide +kernel⟩,
   ⟨(w.modPower fun x => { x with straps := 1 }), [1, 0, 0, 0, 0, 0, 0, 0, 0, 0, 0, 0, 0, 0, 0, 0], 0, by decide +kernel⟩,
   ⟨(w.modPower fun x => { x with straps := 1 }), [1, 0, 0, 0, 0, 1, 0, 0, 0, 0, 0, 0, 0, 0, 0, 0], 1000000 * 2 ^ 40,
     by decide +kernel⟩⟩

theorem witness_FastCommandsAct :
    (w.held = false) ∧
    (∃ (s : State) (b : Body), s.held = false ∧ s.tio.execQ.head? = some b.toNat) ∧
    (∃ (s : State) (u : State) (b : Body), s.held = false ∧ s.tio.execQ.head? = some b.toNat ∧ cmdOp b = 1 ∧ s.tio.suspended = false ∧ u
      = s.takeCmd b ∧ u.obj O.CARAVAN_CYCLE = u.cycleLen ∧ (cmdArg b * u.obj O.MC_LEN) % u.cycleLen = u.obj O.F0_CNT % u.cycleLen) ∧
    (∃ (s : State) (u : State) (b : Body) (at_ : Nat → Time56), s.held = false ∧ s.tio.execQ.head? = some b.toNat ∧ cmdOp b = 2 ∧
      s.tio.suspended = false ∧ u = s.takeCmd b ∧ (∀ q, at_ q = BitVec.ofInt 56 (u.latticeTime (s.execEdge b) + psToU (s.obj
      O.TIO_OFFSET (q + 1))))) ∧
    (∃ (s : State) (b : Body), s.held = false ∧ s.tio.execQ.head? = some b.toNat ∧ cmdOp b = 3 ∧ s.tio.suspended = false) ∧
    (∃ (s : State) (u : State) (b : Body), s.held = false ∧ s.tio.execQ.head? = some b.toNat ∧ cmdOp b = 4 ∧ s.tio.suspended = false ∧ u
      = s.takeCmd b) ∧
    (∃ (s : State) (u : State) (b : Body), s.held = false ∧ s.tio.execQ.head? = some b.toNat ∧ cmdOp b = 5 ∧ s.tio.suspended = false ∧ u
      = s.takeCmd b) ∧
    (∃ (s : State) (u : State) (b : Body), s.held = false ∧ s.tio.execQ.head? = some b.toNat ∧ cmdOp b = 6 ∧ s.tio.suspended = false ∧
      s.snap.gathering = none ∧ s.obj O.SNAP_MODE ≠ 1 ∧ u = s.takeCmd b) ∧
    (∃ (s : State) (u : State) (b : Body), s.held = false ∧ s.tio.execQ.head? = some b.toNat ∧ cmdOp b = 7 ∧ s.tio.suspended = false ∧ u
      = s.takeCmd b) ∧
    (∃ (s : State) (b : Body), s.held = false ∧ s.tio.execQ.head? = some b.toNat ∧ 8 ≤ cmdOp b ∧ s.tio.suspended = false) ∧
    (∃ (s : State) (b : Body), s.held = false ∧ s.tio.execQ.head? = some b.toNat ∧ 8 ≤ cmdOp b ∧ s.tio.suspended = true) ∧
    (∃ (s : State) (b : Body), s.held = false ∧ (s.tio.execQ.head? ≠ some b.toNat ∨ cmdOp b < 8)) :=
  ⟨rfl,
   ⟨(w.modTio fun x => { x with execQ := [8 * 2 ^ 100] }), BitVec.ofNat 104 (8 * 2 ^ 100), by decide +kernel⟩,
   ⟨(w.modTio fun x => { x with execQ := [1 * 2 ^ 100] }),
     ((w.modTio fun x => { x with execQ := [1 * 2 ^ 100] }).takeCmd (BitVec.ofNat 104 (1 * 2 ^ 100))),
     BitVec.ofNat 104 (1 * 2 ^ 100), by decide +kernel, by decide +kernel, by decide +kernel, by decide +kernel, rfl,
     by decide +kernel⟩,
   ⟨(w.modTio fun x => { x with execQ := [2 * 2 ^ 100] }),
     ((w.modTio fun x => { x with execQ := [2 * 2 ^ 100] }).takeCmd (BitVec.ofNat 104 (2 * 2 ^ 100))),
     BitVec.ofNat 104 (2 * 2 ^ 100),
     fun q => BitVec.ofInt 56 (((w.modTio fun x => { x with execQ := [2 * 2 ^ 100] }).takeCmd (BitVec.ofNat 104 (2 * 2 ^ 100))).latticeTime ((w.modTio fun x => { x with execQ := [2 * 2 ^ 100] }).execEdge (BitVec.ofNat 104 (2 * 2 ^ 100))) + psToU (((w.modTio fun x => { x with execQ := [2 * 2 ^ 100] }).takeCmd (BitVec.ofNat 104 (2 * 2 ^ 100))).obj O.TIO_OFFSET (q + 1))),
     by decide +kernel, by decide +kernel, by decide +kernel, by decide +kernel, rfl, fun _ => rfl⟩,
   ⟨(w.modTio fun x => { x with execQ := [3 * 2 ^ 100] }), BitVec.ofNat 104 (3 * 2 ^ 100), by decide +kernel⟩,
   ⟨(w.modTio fun x => { x with execQ := [4 * 2 ^ 100] }),
     ((w.modTio fun x => { x with execQ := [4 * 2 ^ 100] }).takeCmd (BitVec.ofNat 104 (4 * 2 ^ 100))),
     BitVec.ofNat 104 (4 * 2 ^ 100), by decide +kernel, by decide +kernel, by decide +kernel, by decide +kernel, rfl⟩,
   ⟨(w.modTio fun x => { x with execQ := [5 * 2 ^ 100] }),
     ((w.modTio fun x => { x with execQ := [5 * 2 ^ 100] }).takeCmd (BitVec.ofNat 104 (5 * 2 ^ 100))),
     BitVec.ofNat 104 (5 * 2 ^ 100), by decide +kernel, by decide +kernel, by decide +kernel, by decide +kernel, rfl⟩,
   ⟨(w.modTio fun x => { x with execQ := [6 * 2 ^ 100] }),
     ((w.modTio fun x => { x with execQ := [6 * 2 ^ 100] }).takeCmd (BitVec.ofNat 104 (6 * 2 ^ 100))),
     BitVec.ofNat 104 (6 * 2 ^ 100), by decide +kernel, by decide +kernel, by decide +kernel, by decide +kernel,
     by decide +kernel, by decide +kernel, rfl⟩,
   ⟨(w.modTio fun x => { x with execQ := [7 * 2 ^ 100] }),
     ((w.modTio fun x => { x with execQ := [7 * 2 ^ 100] }).takeCmd (BitVec.ofNat 104 (7 * 2 ^ 100))),
     BitVec.ofNat 104 (7 * 2 ^ 100), by decide +kernel, by decide +kernel, by decide +kernel, by decide +kernel, rfl⟩,
   ⟨(w.modTio fun x => { x with execQ := [8 * 2 ^ 100] }), BitVec.ofNat 104 (8 * 2 ^ 100), by decide +kernel⟩,
   ⟨((w.modTio fun x => { x with execQ := [15 * 2 ^ 100] }).modTio fun x => { x with suspended := true }),
     BitVec.ofNat 104 (15 * 2 ^ 100), by decide +kernel⟩,
   ⟨(w.modTio fun x => { x with execQ := [7 * 2 ^ 100] }), BitVec.ofNat 104 (7 * 2 ^ 100), by decide +kernel⟩⟩

theorem witness_SnapshotsAndSamples :
    (w.held = false) ∧
    (∃ (s : State), s.held = false ∧ s.status O.SNAP_STATUS = 1) ∧
    (∃ (s : State), s.held = false ∧ s.status O.SNAP_STATUS ≠ 1 ∧ tdiff56 (BitVec.ofNat 56 (s.obj O.SNAP_AT / 256)) s.now < 1000 * 2 ^
      24) ∧
    (∃ (s : State), s.held = false ∧ s.status O.SNAP_STATUS ≠ 1 ∧ 1000 * 2 ^ 24 ≤ tdiff56 (BitVec.ofNat 56 (s.obj O.SNAP_AT / 256))
      s.now) ∧
    (∃ (s : State) (c : Bool), s.held = false ∧ s.snap.armed = false) ∧
    (∃ (s : State), s.held = false ∧ s.snap.armed = true) ∧
    (∃ (s : State) (u : State), s.held = false ∧ s.snap.armed = true ∧ s.snap.gathering = none ∧ s.obj O.SNAP_MODE ≠ 1 ∧ u =
      s.toSnapEdge) ∧
    (∃ (s : State), s.held = false ∧ s.snap.armed = false) ∧
    (∃ (s : State) (u : State), s.held = false ∧ s.snap.armed = true ∧ s.snap.gathering = none ∧ s.obj O.SNAP_MODE ≠ 1 ∧ u =
      s.toSnapEdge) ∧
    (∃ (s : State) (u : State), s.held = false ∧ s.snap.armed = true ∧ s.snap.gathering = none ∧ s.obj O.SNAP_MODE = 1 ∧ u =
      s.toSnapEdge) ∧
    (∃ (s : State) (u : State) (i : Bytes) (w : Nat), s.held = false ∧ s.snap.armed = true ∧ s.snap.gathering = some (i, w) ∧ u =
      s.toSnapEdge ∧ ofBe ((i.drop 8).take 8) ≠ u.obj O.F0_CNT) ∧
    (∃ (s : State), s.held = false ∧ s.snap.gathering = none) ∧
    (∃ (s : State) (i : Bytes) (w : Nat), s.held = false ∧ s.snap.gathering = some (i, w) ∧ s.snap.late = false) ∧
    (∃ (s : State) (i : Bytes) (w : Nat), s.held = false ∧ s.snap.gathering = some (i, w) ∧ s.snap.late = true) ∧
    (∃ (s : State) (e : Fin 12) (v : Sample), s.held = false ∧ (s.obj O.SAMPLE_PERIOD (e + 1) = 0 ∨ s.engState e ≠ 1)) ∧
    (∃ (s : State) (e : Fin 12) (v : Sample), s.held = false ∧ s.obj O.SAMPLE_PERIOD (e + 1) ≠ 0 ∧ s.engState e = 1 ∧ s.obj
      O.SAMPLE_DEST (e + 1) = 0 ∧ (s.eng e).samples.length < 256) ∧
    (∃ (s : State) (e : Fin 12) (v : Sample), s.held = false ∧ s.obj O.SAMPLE_PERIOD (e + 1) ≠ 0 ∧ s.engState e = 1 ∧ s.obj
      O.SAMPLE_DEST (e + 1) = 0 ∧ 256 ≤ (s.eng e).samples.length) ∧
    (∃ (s : State) (e : Fin 12) (v : Sample), s.held = false ∧ s.obj O.SAMPLE_PERIOD (e + 1) ≠ 0 ∧ s.engState e = 1 ∧ s.obj
      O.SAMPLE_DEST (e + 1) = 1) ∧
    (∃ (s : State) (p : Bytes) (r : List Bytes), s.held = false ∧ s.obj O.LANTERN_EN ≠ 0 ∧ s.power.thermtrip = false ∧ s.lantern.lost =
      0 ∧ s.lantern.fifo = p :: r) ∧
    (∃ (s : State), s.held = false ∧ s.obj O.LANTERN_EN ≠ 0 ∧ s.power.thermtrip = false ∧ s.lantern.lost ≠ 0) ∧
    (∃ (s : State), s.held = false ∧ (s.obj O.LANTERN_EN = 0 ∨ s.power.thermtrip = true ∨ (s.lantern.lost = 0 ∧ s.lantern.fifo = []))) :=
  ⟨rfl,
   ⟨(w.setObj O.SNAP_STATUS 1), by decide +kernel⟩,
   ⟨(w.setObj O.SNAP_AT (1000*2^32-256)), by decide +kernel⟩,
   ⟨(w.setObj O.SNAP_AT (1000*2^32)), by decide +kernel⟩,
   ⟨w, false, by decide +kernel⟩,
   ⟨(w.modSnap fun x => { x with armed := true }), by decide +kernel⟩,
   ⟨(w.modSnap fun x => { x with armed := true }), (w.modSnap fun x => { x with armed := true }).toSnapEdge, by decide +kernel,
     by decide +kernel, by decide +kernel, by decide +kernel, rfl⟩,
   ⟨w, by decide +kernel⟩,
   ⟨(w.modSnap fun x => { x with armed := true }), (w.modSnap fun x => { x with armed := true }).toSnapEdge, by decide +kernel,
     by decide +kernel, by decide +kernel, by decide +kernel, rfl⟩,
   ⟨((w.modSnap fun x => { x with armed := true }).setObj O.SNAP_MODE 1),
     ((w.modSnap fun x => { x with armed := true }).setObj O.SNAP_MODE 1).toSnapEdge, by decide +kernel, by decide +kernel,
     by decide +kernel, by decide +kernel, rfl⟩,
   ⟨((w.modSnap fun x => { x with armed := true, gathering := some ([], 0) }).setObj O.F0_CNT 1),
     ((w.modSnap fun x => { x with armed := true, gathering := some ([], 0) }).setObj O.F0_CNT 1).toSnapEdge, [], 0,
     by decide +kernel, by decide +kernel, by decide +kernel, rfl, by decide +kernel⟩,
   ⟨w, by decide +kernel⟩,
   ⟨(w.modSnap fun x => { x with gathering := some ([], 0) }), [], 0, by decide +kernel⟩,
   ⟨(w.modSnap fun x => { x with gathering := some ([], 0), late := true }), [], 0, by decide +kernel⟩,
   ⟨w, 0, sample0, by decide +kernel⟩,
   ⟨(((w.modEng 0 fun x => { x with samples := List.replicate 255 [] }).setObj O.SAMPLE_PERIOD 1 1).setObj O.ENG_STATE 1 1), 0,
     sample0, by decide +kernel⟩,
   ⟨(((w.modEng 0 fun x => { x with samples := List.replicate 256 [] }).setObj O.SAMPLE_PERIOD 1 1).setObj O.ENG_STATE 1 1), 0,
     sample0, by decide +kernel⟩,
   ⟨(((w.setObj O.SAMPLE_PERIOD 1 1).setObj O.ENG_STATE 1 1).setObj O.SAMPLE_DEST 1 1), 0, sample0, by decide +kernel⟩,
   ⟨({ w with lantern := { fifo := [[1]], lost := 0 } }.setObj O.LANTERN_EN 1), [1], [], by decide +kernel⟩,
   ⟨({ w with lantern := { fifo := [], lost := 1 } }.setObj O.LANTERN_EN 1), by decide +kernel⟩,
   ⟨w, by decide +kernel⟩⟩

theorem witness_FramesEnter :
    (∃ (s : State) (p : Fin 49) (f : Frame), s.held = false ∧ f.fin = .good ∧ (p.val < 48 → s.native p = false) ∧ (p.val = 48 → beAt
      (f.octets.take 128) 12 2 ≠ 0x88B6) ∧ s.fifoRoom (pipelineOf p) (isMgmt (f.octets.take 128)) = false) ∧
    (∃ (s : State) (p : Fin 49) (f : Frame), s.held = false ∧ f.fin = .good ∧ (p.val < 48 → s.native p = false) ∧ (p.val = 48 → beAt
      (f.octets.take 128) 12 2 ≠ 0x88B6) ∧ s.fifoRoom (pipelineOf p) (isMgmt (f.octets.take 128)) = true ∧ f.octets.length < 60) ∧
    (∃ (s : State) (p : Fin 49) (f : Frame), s.held = false ∧ (p.val < 48 → s.native p = false) ∧ (p.val = 48 → beAt (f.octets.take 128)
      12 2 ≠ 0x88B6) ∧ s.fifoRoom (pipelineOf p) (isMgmt (f.octets.take 128)) = true ∧ 60 ≤ f.octets.length) ∧
    (∃ (s : State) (p : Fin 48) (f : Frame), s.held = false ∧ f.fin = .good ∧ s.native p = false ∧ s.fifoRoom (pipelineOf p) (isMgmt
      (f.octets.take 128)) = true ∧ 60 ≤ f.octets.length ∧ f.octets.length + 4 ≤ s.obj O.PORT_MTU (p + 1) ∧ isTag (f.octets.take 128) 12
      = false ∧ s.obj O.PORT_VLAN_FILTER (p + 1) = 1 ∧ bit (s.vlanMember (s.obj O.PORT_PVID (p + 1))) p = false) ∧
    (∃ (s : State) (p : Fin 48) (f : Frame) (e : Nat), s.held = false ∧ f.fin = .good ∧ s.native p = false ∧ s.fifoRoom (pipelineOf p)
      (isMgmt (f.octets.take 128)) = true ∧ 60 ≤ f.octets.length ∧ f.octets.length + 4 ≤ s.obj O.PORT_MTU (p + 1) ∧ isTag (f.octets.take
      128) 12 = false ∧ s.obj O.PORT_VLAN_FILTER (p + 1) ≠ 1 ∧ s.obj O.PORT_LEARN (p + 1) ≠ 1 ∧ s.obj O.PORT_PTP_MODE (p + 1) = 0 ∧
      ptpAt (f.octets.take 128) = none ∧ etherType (f.octets.take 128) ≠ 0x88B5 ∧ etherType (f.octets.take 128) ≠ 0x88B6 ∧ etherType
      (f.octets.take 128) ≠ 0x0800 ∧ s.emLookup 0 (s.obj O.PORT_PVID (p + 1) * 2 ^ 48 + beAt (f.octets.take 128) 6 6) = none ∧
      s.emLookup 0 (s.obj O.PORT_PVID (p + 1) * 2 ^ 48 + beAt (f.octets.take 128) 0 6) = some e ∧ bits (emResult (s.em e)) 15 14 = 3) ∧
    (∃ (s : State) (p : Fin 48) (v : Fin 48) (f : Frame) (e : Nat) (q : Nat), s.held = false ∧ f.fin = .good ∧ s.native p = false ∧
      s.fifoRoom (pipelineOf p) (isMgmt (f.octets.take 128)) = true ∧ 60 ≤ f.octets.length ∧ f.octets.length + 4 ≤ s.obj O.PORT_MTU (p +
      1) ∧ isTag (f.octets.take 128) 12 = false ∧ s.obj O.PORT_VLAN_FILTER (p + 1) ≠ 1 ∧ s.obj O.PORT_LEARN (p + 1) ≠ 1 ∧ s.obj
      O.PORT_PTP_MODE (p + 1) = 0 ∧ ptpAt (f.octets.take 128) = none ∧ etherType (f.octets.take 128) ≠ 0x88B5 ∧ etherType (f.octets.take
      128) ≠ 0x88B6 ∧ etherType (f.octets.take 128) ≠ 0x0800 ∧ s.emLookup 0 (s.obj O.PORT_PVID (p + 1) * 2 ^ 48 + beAt (f.octets.take
      128) 6 6) = none ∧ s.emLookup 0 (s.obj O.PORT_PVID (p + 1) * 2 ^ 48 + beAt (f.octets.take 128) 0 6) = some e ∧ bits (emResult
      (s.em e)) 15 14 = 0 ∧ bits (emResult (s.em e)) 11 0 = v ∧ v ≠ p ∧ (s.lport v).up = true ∧ q = s.obj O.PORT_DEFAULT_CLASS (p + 1) ∧
      bit (s.obj O.CT_ENABLE (v + 1)) q = false ∧ s.cellar.copies.length < 262144 ∧ s.losslessIn p q = false ∧ s.govFull = false ∧
      s.cellsWhere (fun d => d.outPort == v && d.share == .guarantee) < 16 ∧ s.frame s.cellar.nextId = none ∧ (∀ d ∈ s.cellar.copies,
      d.fid ≠ s.cellar.nextId) ∧ cellsOf f.octets.length ≤ s.shareFree .guarantee) ∧
    (∃ (s : State) (p : Fin 48) (f : Frame), s.held = false ∧ s.native p = true ∧ (s.lport p).rxOpen = none ∧ (s.lport p).rxLost = none) ∧
    (∃ (s : State) (p : Fin 48) (f : Frame) (key : Nat) (b : Bytes), s.held = false ∧ s.native p = true ∧ (s.lport p).rxOpen = some key
      ∧ rxFrame (portStream (s.rxAct p) f.rounds) [] false 0 = (b, .good) ∧ s.fifoRoom (pipelineOf p) (isMgmt (b.take 128)) = true) :=
  ⟨⟨((w.modCellar fun c => { c with fifo := [(0, List.replicate 56 false)] }).modGroup 0 fun g => { g with mode := 2 }), 0,
     frame0 60 .good, by decide +kernel⟩,
   ⟨(w.modGroup 0 fun g => { g with mode := 2 }), 0, frame0 59 .good, by decide +kernel⟩,
   ⟨w, 48, frame0 60 .good, by decide +kernel⟩,
   ⟨(((w.setObj O.PORT_VLAN_FILTER 1 1).setObj O.PORT_PVID 5 1).modGroup 0 fun g => { g with mode := 2 }), 0, frame0 60 .good,
     by decide +kernel⟩,
   ⟨l2St 0xC000, 0, ⟨(List.replicate 128 0).set 11 1, [], .good, arr0, 0⟩, ((l2St 0xC000).probes 0 (l2Key w)).headD 0,
     by decide +kernel⟩,
   ⟨((l2St 1).modLPort 1 fun l => { l with up := true }), 0, 1, ⟨(List.replicate 128 0).set 11 1, [], .good, arr0, 0⟩,
     ((l2St 1).probes 0 (l2Key w)).headD 0, (l2St 1).obj O.PORT_DEFAULT_CLASS 1, by decide +kernel⟩,
   ⟨w, 0, frame0 0 .good, by decide +kernel⟩,
   ⟨((w.setObj O.PORT_ACTIVE 0x10 1).modLPort 0 fun l => { l with rxOpen := some 0 }), 0,
     ⟨[], [[(0, BitVec.ofNat 130 (2 ^ 129 + (Blk.ctl 0x4B (endBody false [] [])).payload))]], .good, arr0, 0⟩, 0, [],
     by decide +kernel⟩⟩

theorem witness_FramesLeave :
    (∃ (s : State) (p : Fin 49) (o : Time56), s.held = false ∧ ((s.sending p).isSome = true ∨ s.portUp p = false ∨ (∀ q < 7, s.queueHead
      p q = none))) ∧
    (∃ (s : State) (p : Fin 49) (o : Time56) (q : Nat) (d : Desc) (f : Stored), s.held = false ∧ s.sending p = none ∧ s.portUp p = true
      ∧ q < 7 ∧ bit (s.obj O.SCHED_STRICT (p + 1)) q = true ∧ s.queueHead p q = some d ∧ s.maySend p q = true ∧ (∀ r, q < r → r < 7 →
      bit (s.obj O.SCHED_STRICT (p + 1)) r = true → s.queueHead p r = none ∨ s.maySend p r = false) ∧ s.frame d.fid = some f ∧ (s.edited
      d f o).length ≤ 9212 ∧ (p.val < 48 → s.native p = false) ∧ d.ptp = false) ∧
    (∃ (s : State) (p : Fin 48) (o : Time56) (q : Nat) (n : Nat) (ns : List Nat) (d : Desc) (f : Stored), s.held = false ∧ s.sending p =
      none ∧ s.portUp p = true ∧ q < 7 ∧ bit (s.obj O.SCHED_STRICT (p + 1)) q = true ∧ s.queueHead p q = some d ∧ s.maySend p q = true ∧
      (∀ r, q < r → r < 7 → bit (s.obj O.SCHED_STRICT (p + 1)) r = true → s.queueHead p r = none ∨ s.maySend p r = false) ∧ s.frame
      d.fid = some f ∧ (s.edited d f o).length ≤ 9212 ∧ s.native p = true ∧ d.ptp = false ∧ s.activeLanes p = n :: ns ∧ (s.lport p).hb =
      [] ∧ (s.lport p).mgmt = []) ∧
    (∃ (s : State) (p : Fin 49), s.held = false ∧ s.sending p = none) ∧
    (∃ (s : State) (p : Fin 49) (d : Desc) (f : Stored), s.held = false ∧ s.sending p = some d ∧ s.frame d.fid = some f ∧ d.bad = false
      ∧ (p.val < 48 → s.native p = false)) ∧
    (∃ (s : State) (p : Fin 49) (d : Desc) (f : Stored), s.held = false ∧ s.sending p = some d ∧ s.frame d.fid = some f ∧ d.bad = true ∧
      (p.val < 48 → s.native p = false)) ∧
    (∃ (s : State) (p : Fin 48) (d : Desc), s.held = false ∧ s.sending p = some d ∧ s.native p = true) ∧
    (∃ (s : State) (p : Fin 48), s.held = false ∧ s.sending p = none) ∧
    (∃ (s : State) (p : Fin 48) (d : Desc), s.held = false ∧ s.sending p = some d ∧ d.ct = false) ∧
    (∃ (s : State) (p : Fin 48) (d : Desc), s.held = false ∧ s.sending p = some d ∧ d.ct = true ∧ s.native p = true ∧ s.activeLanes p ≠
      []) ∧
    (∃ (s : State) (p : Fin 48) (d : Desc), s.held = false ∧ s.sending p = some d ∧ d.ct = true ∧ s.native p = false) ∧
    (∃ (s : State) (p : Fin 49) (q : Fin 7), s.held = false ∧ s.queueHead p q = none) ∧
    (∃ (s : State) (p : Fin 49) (q : Fin 7) (d : Desc), s.held = false ∧ s.queueHead p q = some d) ∧
    (∃ (s : State) (p : Fin 49) (d : Desc), s.held = false ∧ s.sending p = some d) :=
  ⟨⟨w, 0, 0, by decide +kernel⟩,
   ⟨(((((w.modCellar fun c => { c with frames := [(0, some stored0)], copies := [{ desc0 with cls := 6 }] }).modLPort 0 fun l => { l with up := true, crIn := [(6, 1)] }).setObj O.SCHED_STRICT 64 1).setObj O.PORT_ACTIVE 1 1).modGroup 0 fun g => { g with mode := 2 }),
     0, 0, 6, { desc0 with cls := 6 }, stored0,
     by refine ⟨by decide +kernel, by decide +kernel, by decide +kernel, by decide +kernel, by decide +kernel, by decide +kernel, by decide +kernel, fun r h1 h2 => by omega, by decide +kernel, by decide +kernel, by decide +kernel, by decide +kernel⟩⟩,
   ⟨((((w.modCellar fun c => { c with frames := [(0, some stored0)], copies := [{ desc0 with cls := 6 }] }).modLPort 0 fun l => { l with up := true, crIn := [(6, 1)] }).setObj O.SCHED_STRICT 64 1).setObj O.PORT_ACTIVE 1 1),
     0, 0, 6, 0, [], { desc0 with cls := 6 }, stored0,
     by refine ⟨by decide +kernel, by decide +kernel, by decide +kernel, by decide +kernel, by decide +kernel, by decide +kernel, by decide +kernel, fun r h1 h2 => by omega, by decide +kernel, by decide +kernel, by decide +kernel, by decide +kernel, by decide +kernel, by decide +kernel, by decide +kernel⟩⟩,
   ⟨w, 0, by decide +kernel⟩,
   ⟨((w.modCellar fun c => { c with frames := [(0, some stored0)], copies := [{ desc0 with started := true }] }).modGroup 0 fun g => { g with mode := 2 }),
     0, { desc0 with started := true }, stored0, by decide +kernel⟩,
   ⟨((w.modCellar fun c => { c with frames := [(0, some stored0)], copies := [{ desc0 with started := true, bad := true }] }).modGroup 0 fun g => { g with mode := 2 }),
     0, { desc0 with started := true, bad := true }, stored0, by decide +kernel⟩,
   ⟨(w.modCellar fun c => { c with frames := [(0, some stored0)], copies := [{ desc0 with started := true }] }), 0,
     { desc0 with started := true }, by decide +kernel⟩,
   ⟨w, 0, by decide +kernel⟩,
   ⟨(w.modCellar fun c => { c with frames := [(0, some stored0)], copies := [{ desc0 with started := true }] }), 0,
     { desc0 with started := true }, by decide +kernel⟩,
   ⟨((w.modCellar fun c => { c with frames := [(0, some stored0)], copies := [{ desc0 with started := true, ct := true }] }).setObj O.PORT_ACTIVE 1 1),
     0, { desc0 with started := true, ct := true }, by decide +kernel⟩,
   ⟨((w.modCellar fun c => { c with frames := [(0, some stored0)], copies := [{ desc0 with started := true, ct := true }] }).modGroup 0 fun l => { l with mode := 2 }),
     0, { desc0 with started := true, ct := true }, by decide +kernel⟩,
   ⟨w, 0, 0, by decide +kernel⟩,
   ⟨(w.modCellar fun c => { c with frames := [(0, some stored0)], copies := [{ desc0 with outPort := 0 }] }), 0, 0,
     { desc0 with outPort := 0 }, by decide +kernel⟩,
   ⟨(w.modCellar fun c => { c with frames := [(0, some stored0)], copies := [{ desc0 with started := true }] }), 0,
     { desc0 with started := true }, by decide +kernel⟩⟩

theorem witness_PausesAndFence :
    (w.held = false) ∧
    (∃ (s : State) (p : Fin 48) (q : Fin 7), s.held = false ∧ bit (Tab.get s.cellar.xoff 0 p) q = true ∧ (s.obj O.PFC_XON (p + 1) <
      s.heldCells p q ∨ s.govHolds q = true)) ∧
    (∃ (s : State) (p : Fin 48) (q : Fin 7), s.held = false ∧ (bit (Tab.get s.cellar.xoff 0 p) q = false ∨ (s.heldCells p q ≤ s.obj
      O.PFC_XON (p + 1) ∧ s.govHolds q = false))) ∧
    (∃ (s : State) (p : Fin 48) (e : BitVec 8) (v : BitVec 128), s.held = false ∧ s.native p = true) ∧
    (∃ (s : State) (p : Fin 48) (e : BitVec 8) (v : BitVec 128), s.held = false ∧ s.native p = false) ∧
    (∃ (s : State) (v : BitVec 32), s.held = false ∧ s.fenceOk v.toNat = false) ∧
    (∃ (s : State) (v : BitVec 32), s.held = false ∧ s.fenceOk v.toNat = true ∧ (∃ d ∈ s.cellar.copies, commitBefore d.commit v.toNat =
      true)) ∧
    (∃ (s : State) (v : BitVec 32), s.held = false ∧ s.fenceOk v.toNat = true ∧ (∀ d ∈ s.cellar.copies, commitBefore d.commit v.toNat =
      false)) :=
  ⟨rfl,
   ⟨((w.modCellar fun c => { c with frames := [(0, some stored0)], xoff := [(0, 1)] }).setObj O.PFC_XON 0 1), 0, 0,
     by decide +kernel⟩,
   ⟨w, 0, 0, by decide +kernel⟩,
   ⟨w, 0, 0, 0, by decide +kernel⟩,
   ⟨(w.modGroup 0 fun l => { l with mode := 2 }), 0, 0, 0, by decide +kernel⟩,
   ⟨w, 2, by decide +kernel⟩,
   ⟨(w.modCellar fun c => { c with frames := [(0, some stored0)], copies := [{ desc0 with outPort := 0 }] }), 1,
     by decide +kernel⟩,
   ⟨w, 1, by decide +kernel⟩⟩

theorem witness_CaravanTablesSwap :
    (w.held = false) ∧
    (∃ (s : State), s.held = false ∧ s.status O.CARAVAN_STATUS = 1) ∧
    (∃ (s : State), s.held = false ∧ s.status O.CARAVAN_STATUS ≠ 1) ∧
    (∃ (s : State), s.held = false ∧ s.status O.CARAVAN_STATUS ≠ 1) ∧
    (∃ (s : State), s.held = false ∧ s.caravan.checking = false) ∧
    (∃ (s : State), s.held = false ∧ s.caravan.checking = true ∧ s.caravanCheck ≠ 0) ∧
    (∃ (s : State), s.held = false ∧ s.caravan.checking = true ∧ s.caravanCheck = 0 ∧ ((2 ^ 24 + s.obj O.CARAVAN_LOAD_AT - s.obj
      O.CARAVAN_CYCLE_NUM) % 2 ^ 24 = 0 ∨ 2 ^ 23 < (2 ^ 24 + s.obj O.CARAVAN_LOAD_AT - s.obj O.CARAVAN_CYCLE_NUM) % 2 ^ 24)) ∧
    (∃ (s : State), s.held = false ∧ s.caravan.checking = true ∧ s.caravanCheck = 0 ∧ (2 ^ 24 + s.obj O.CARAVAN_LOAD_AT - s.obj
      O.CARAVAN_CYCLE_NUM) % 2 ^ 24 ≠ 0 ∧ (2 ^ 24 + s.obj O.CARAVAN_LOAD_AT - s.obj O.CARAVAN_CYCLE_NUM) % 2 ^ 24 ≤ 2 ^ 23) ∧
    (∃ (s : State), s.held = false ∧ s.caravan.waiting = false) ∧
    (∃ (s : State), s.held = false ∧ s.caravan.waiting = true) ∧
    (∃ (s : State) (c : Bool), s.held = false ∧ (s.status O.CARAVAN_STATUS ≠ 1 ∨ (s.caravan.waiting = false ∧ s.caravan.checking =
      false))) ∧
    (∃ (s : State) (c : Bool), s.held = false ∧ s.status O.CARAVAN_STATUS = 1 ∧ (s.caravan.waiting = true ∨ s.caravan.checking = true) ∧
      (c = false ∨ s.caravan.waiting = false)) ∧
    (∃ (s : State), s.held = false ∧ s.status O.CARAVAN_STATUS = 1 ∧ s.caravan.waiting = true) ∧
    (∃ (s : State), s.held = false ∧ s.hearth.running = false ∧ s.caravan.rearm = false ∧ s.caravan.initial = false) :=
  ⟨rfl,
   ⟨(w.setObj O.CARAVAN_STATUS 1), by decide +kernel⟩,
   ⟨w, by decide +kernel⟩,
   ⟨w, by decide +kernel⟩,
   ⟨w, by decide +kernel⟩,
   ⟨((w.modCaravan fun x => { x with checking := true }).setBlob O.CARAVAN_SHADOW (Blob.of (beBytes 8 (2 ^ 63 + 2 ^ 59))) 1),
     by decide +kernel⟩,
   ⟨(w.modCaravan fun x => { x with checking := true }), by decide +kernel⟩,
   ⟨((w.modCaravan fun x => { x with checking := true }).setObj O.CARAVAN_LOAD_AT (2^23)), by decide +kernel⟩,
   ⟨w, by decide +kernel⟩,
   ⟨(w.modCaravan fun x => { x with waiting := true }), by decide +kernel⟩,
   ⟨w, false, by decide +kernel⟩,
   ⟨((w.modCaravan fun x => { x with waiting := true }).setObj O.CARAVAN_STATUS 1), false, by decide +kernel⟩,
   ⟨((w.modCaravan fun x => { x with waiting := true }).setObj O.CARAVAN_STATUS 1), by decide +kernel⟩,
   ⟨w, by decide +kernel⟩⟩

theorem witness_CaravanCellsPass :
    (w.held = false) ∧
    (∃ (s : State) (p : Fin 48) (b : Body) (d : CellBlocks) (a : Arrival), s.held = false ∧ s.native p = false) ∧
    (∃ (s : State) (p : Fin 48) (b : Body) (d : CellBlocks) (a : Arrival), s.held = false ∧ s.native p = true ∧ cellOctets d = none) ∧
    (∃ (s : State) (p : Fin 48) (b : Body) (d : CellBlocks) (a : Arrival) (x : Nat), s.held = false ∧ s.native p = true ∧ cellOctets d =
      some x ∧ s.cpllLocked = false) ∧
    (∃ (s : State) (p : Fin 48) (b : Body) (d : CellBlocks) (a : Arrival) (x : Nat), s.held = false ∧ s.native p = true ∧ cellOctets d =
      some x ∧ s.cpllLocked = true ∧ s.cellSplit p a.tw = true) ∧
    (∃ (s : State) (p : Fin 48) (b : Body) (d : CellBlocks) (a : Arrival) (x : Nat), s.held = false ∧ s.native p = true ∧ cellOctets d =
      some x ∧ s.cpllLocked = true ∧ s.cellSplit p a.tw = false ∧ crc16 (beBytes 64 x) ≠ blk b 31 16) ∧
    (∃ (s : State) (p : Fin 48) (b : Body) (d : CellBlocks) (a : Arrival) (x : Nat), s.held = false ∧ s.native p = true ∧ cellOctets d =
      some x ∧ s.cpllLocked = true ∧ s.cellSplit p a.tw = false ∧ crc16 (beBytes 64 x) = blk b 31 16 ∧ (bits (blk b 119 56) 63 62 = 3 ∨
      (s.entriesOf p (blk b 55 44) = [] ∧ s.sinksOf p (blk b 55 44) = []))) ∧
    (∃ (s : State) (p : Fin 48) (b : Body) (d : CellBlocks) (a : Arrival) (x : Nat) (k : Nat), s.held = false ∧ s.native p = true ∧
      cellOctets d = some x ∧ s.cpllLocked = true ∧ s.cellSplit p a.tw = false ∧ crc16 (beBytes 64 x) = blk b 31 16 ∧ bits (blk b 119
      56) 63 62 ≠ 3 ∧ s.entriesOf p (blk b 55 44) = [] ∧ s.sinksOf p (blk b 55 44) = [k] ∧ s.crossedSwap (s.sendCycle (bits (blk b 119
      56) 61 50)) = false ∧ s.sinkReady = true) ∧
    (∃ (s : State) (p : Fin 48) (w : BitVec 12), s.held = false ∧ (s.cpllLocked = false ∨ (s.plan p).find? (fun e => e.slot == w.toNat)
      = none)) ∧
    (∃ (s : State) (p : Fin 48) (w : BitVec 12) (e : SchedEntry), s.held = false ∧ s.cpllLocked = true ∧ (s.plan p).find? (fun e =>
      e.slot == w.toNat) = some e ∧ e.srcPort = srcLocal ∧ 4 ≤ e.round ∧ (s.lmbox e.srcSlot).full = true) ∧
    (∃ (s : State) (p : Fin 48) (w : BitVec 12) (l : Fin 3) (x : Taken) (n : Nat) (ns : List Nat), s.held = false ∧ s.cpllLocked = true
      ∧ Tab.get s.caravan.taken none (4096 * p + w.toNat) = some x ∧ x.src = none ∧ s.activeLanes p = n :: ns) ∧
    (∃ (s : State) (p : Fin 48) (w : BitVec 12) (l : Fin 3) (e : SchedEntry), s.held = false ∧ s.cpllLocked = true ∧ Tab.get
      s.caravan.taken none (4096 * p + w.toNat) = none ∧ (s.plan p).find? (fun e => e.slot == w.toNat) = some e) ∧
    (∃ (s : State) (p : Fin 48) (w : BitVec 12), s.held = false ∧ (∀ c ∈ s.caravan.bay, c.srcPort = p.val → c.srcSlot = w.toNat → c.read
      = true)) ∧
    (∃ (s : State) (p : Fin 48) (w : BitVec 12) (c : BayCell), s.held = false ∧ (s.caravan.bay.filter fun c => c.srcPort == p.val &&
      c.srcSlot == w.toNat) = [c] ∧ c.read = false) :=
  ⟨rfl,
   ⟨(w.modGroup 0 fun g => { g with mode := 2 }), 0, 0, ⟨some 0, some 0, some 0, some 0⟩, arr0, by decide +kernel⟩,
   ⟨w, 0, 0, ⟨some 0, some 0, some 0, none⟩, arr0, by decide +kernel⟩,
   ⟨w, 0, 0, ⟨some 0, some 0, some 0, some 0⟩, arr0, 0, by decide +kernel⟩,
   ⟨((((((w.setObj O.PLL_STATE 2 14).modLPort 0 fun l => { l with rxAt := some 1 }).setObj O.HEARTH_INC (2 ^ 40)).setObj O.CLK_M 1).modGroup 0 fun g => { g with n := 256 })),
     0, 0, ⟨some 0, some 0, some 0, some 0⟩, arr0, 0, by decide +kernel⟩,
   ⟨(w.setObj O.PLL_STATE 2 14), 0, BitVec.ofNat 104 (crc16 (beBytes 64 0) + 1), ⟨some 0, some 0, some 0, some 0⟩, arr0, 0,
     by decide +kernel⟩,
   ⟨(w.setObj O.PLL_STATE 2 14), 0, BitVec.ofNat 104 (crc16 (beBytes 64 0)), ⟨some 0, some 0, some 0, some 0⟩, arr0, 0,
     by decide +kernel⟩,
   ⟨(((w.setObj O.PLL_STATE 2 14).setBlob O.CARAVAN_SINK (Blob.of (beBytes 4 (2 ^ 31)))).modSmbox 0 fun m => { m with full := true }),
     0, BitVec.ofNat 104 (crc16 (beBytes 64 0)), ⟨some 0, some 0, some 0, some 0⟩, arr0, 0, 0, by decide +kernel⟩,
   ⟨w, 0, 0, by decide +kernel⟩,
   ⟨((((w.setObj O.PLL_STATE 2 14).setObj O.PORT_ACTIVE 1 1).setBlob O.CARAVAN_ACTIVE (Blob.of (beBytes 8 (2 ^ 63 + 2 ^ 59 + 2 ^ 47 + 4 * 2 ^ 23 + 0x30 * 2 ^ 17))) 1).modLmbox 0 fun m => { m with full := true }),
     0, 1, SchedEntry.ofWord (2 ^ 63 + 2 ^ 59 + 2 ^ 47 + 4 * 2 ^ 23 + 0x30 * 2 ^ 17), by decide +kernel⟩,
   ⟨(((w.setObj O.PLL_STATE 2 14).setObj O.PORT_ACTIVE 1 1).setTaken 0 1 (some ⟨0, 0, 0, none⟩)), 0, 1, 0, ⟨0, 0, 0, none⟩, 0,
     [], by decide +kernel⟩,
   ⟨(((w.setObj O.PLL_STATE 2 14).setObj O.PORT_ACTIVE 1 1).setBlob O.CARAVAN_ACTIVE (Blob.of (beBytes 8 (2 ^ 63 + 2 ^ 59 + 2 ^ 47 + 4 * 2 ^ 23 + 0x30 * 2 ^ 17))) 1),
     0, 1, 0, SchedEntry.ofWord (2 ^ 63 + 2 ^ 59 + 2 ^ 47 + 4 * 2 ^ 23 + 0x30 * 2 ^ 17), by decide +kernel⟩,
   ⟨w, 0, 0, by decide +kernel⟩,
   ⟨(w.modCaravan fun c => { c with bay := [⟨0, 0, 0, 0, 0, 0, 0, 1, [], false⟩] }), 0, 0, ⟨0, 0, 0, 0, 0, 0, 0, 1, [], false⟩,
     by decide +kernel⟩⟩

theorem witness_TableDmaWorks :
    (w.held = false) ∧
    (∃ (s : State) (r : Fin 4), s.held = false ∧ (s.dmaReady r = false ∨ bits (s.dmaWord r 0) 23 16 ∈ dmaOps)) ∧
    (∃ (s : State) (r : Fin 4) (op : Nat), s.dmaDue r op ∧ op ∉ dmaOps) ∧
    (∃ (s : State) (r : Fin 4), s.dmaDue r 1 ∧ keyOk (s.dmaImage r) = true ∧ s.emFind (emType (s.dmaImage r)) (emKey (s.dmaImage r)) =
      none) ∧
    (∃ (s : State) (r : Fin 4) (l : Nat), s.dmaDue r 1 ∧ keyOk (s.dmaImage r) = true ∧ s.emFind (emType (s.dmaImage r)) (emKey
      (s.dmaImage r)) = some l ∧ bit (s.dmaWord r 0) 29 = false ∧ s.tables.emBad.contains l = false) ∧
    (∃ (s : State) (r : Fin 4) (l : Nat), s.dmaDue r 2 ∧ imageOk (s.dmaImage r) = true ∧ bit (s.dmaWord r 0) 29 = false ∧ s.emFind
      (emType (s.dmaImage r)) (emKey (s.dmaImage r)) = none ∧ s.mayWrite r (s.bucketOf s.placeSet 0 (emType (s.dmaImage r)) (emKey
      (s.dmaImage r))) = true ∧ s.freeSlot 0 (s.bucketOf s.placeSet 0 (emType (s.dmaImage r)) (emKey (s.dmaImage r))) = some l) ∧
    (∃ (s : State) (r : Fin 4) (l : Nat), s.dmaDue r 2 ∧ imageOk (s.dmaImage r) = true ∧ bit (s.dmaWord r 0) 29 = false ∧ s.emFind
      (emType (s.dmaImage r)) (emKey (s.dmaImage r)) = some l ∧ s.tables.emBad.contains l = false) ∧
    (∃ (s : State) (r : Fin 4) (l : Nat), s.dmaDue r 3 ∧ imageOk (s.dmaImage r) = true ∧ s.emFind (emType (s.dmaImage r)) (emKey
      (s.dmaImage r)) = some l ∧ s.locTest r l (bit (s.dmaWord r 0) 29) true = 0 ∧ s.tables.emBad.contains l = false) ∧
    (∃ (s : State) (r : Fin 4) (l : Nat), s.held = false ∧ s.dmaReady r = true ∧ (bits (s.dmaWord r 0) 23 16 = 4 ∨ (bits (s.dmaWord r 0)
      23 16 = 5 ∧ bit (s.em l) 126 = false)) ∧ keyOk (s.dmaImage r) = true ∧ s.emFind (emType (s.dmaImage r)) (emKey (s.dmaImage r)) =
      some l ∧ s.locTest r l (bit (s.dmaWord r 0) 29) true = 0 ∧ s.tables.emBad.contains l = false ∧ (∀ q ∈ stashLocs, bit (s.em q) 127
      = false)) ∧
    (∃ (s : State) (r : Fin 4) (l : Nat), s.dmaDue r 5 ∧ keyOk (s.dmaImage r) = true ∧ s.emFind (emType (s.dmaImage r)) (emKey
      (s.dmaImage r)) = some l ∧ s.locTest r l (bit (s.dmaWord r 0) 29) true = 0 ∧ s.tables.emBad.contains l = false ∧ bit (s.em l) 126
      = true) ∧
    (∃ (s : State) (r : Fin 4), s.dmaDue r 6 ∧ bits (s.dmaWord r 1) 17 16 < 3 ∧ w1Ok (s.dmaWord r 1) = true ∧ bufOk (s.dmaWord r 2) 64 =
      true ∧ (s.dmaWord r 2 + 64 ≤ s.dmaAddr r ∨ s.dmaAddr r + 32 ≤ s.dmaWord r 2) ∧ bit (s.dmaWord r 0) 29 = false ∧ bit (s.dmaWord r
      0) 28 = false ∧ (∀ l ∈ slotsOf (bits (s.dmaWord r 1) 17 16) (bits (s.dmaWord r 1) 14 0), s.tables.emBad.contains l = false)) ∧
    (∃ (s : State) (r : Fin 4) (b : Nat), s.dmaDue r 7 ∧ w1Bucket (s.dmaWord r 1) = some b ∧ s.lockOf b = none ∧ s.locksOf r < 16) ∧
    (∃ (s : State) (r : Fin 4) (b : Nat) (q : Nat), s.dmaDue r 7 ∧ w1Bucket (s.dmaWord r 1) = some b ∧ s.lockOf b = some q ∧ q ≠ r) ∧
    (∃ (s : State) (r : Fin 4) (b : Nat), s.dmaDue r 8 ∧ w1Bucket (s.dmaWord r 1) = some b ∧ s.tables.expired.contains (r.val, b) =
      false ∧ s.lockOf b = some r.val) ∧
    (∃ (s : State) (r : Fin 4) (b : Nat), s.dmaDue r 8 ∧ w1Bucket (s.dmaWord r 1) = some b ∧ s.tables.expired.contains (r.val, b) =
      false ∧ s.lockOf b ≠ some r.val) ∧
    (∃ (s : State) (r : Fin 4), s.dmaDue r 9) ∧
    (∃ (s : State) (r : Fin 4) (v : Nat) (m : Nat) (x : Nat), s.dmaDue r 0x10 ∧ bits (s.dmaWord r 1) 17 16 = 3 ∧ bit (s.dmaWord r 1) 14
      = false ∧ bufOk (s.dmaWord r 2) 48 = true ∧ v < 2 ^ 160 ∧ m < 2 ^ 160 ∧ x < 2 ^ 16 ∧ s.pantryRead (s.dmaWord r 2) 48 = leBytes 20
      v ++ leBytes 20 m ++ leBytes 2 x ++ leBytes 6 1 ∧ tcamOk v m = true ∧ resultOk 3 x = true ∧ inZone (s.blob O.TCAM_ZONE).bytes
      (bits (s.dmaWord r 1) 13 0) (maskLen m) = true) ∧
    (∃ (s : State) (r : Fin 4), s.dmaDue r 0x11 ∧ bits (s.dmaWord r 1) 17 16 = 3 ∧ bit (s.dmaWord r 1) 14 = false ∧ bufOk (s.dmaWord r
      2) 48 = true ∧ (s.dmaWord r 2 + 48 ≤ s.dmaAddr r ∨ s.dmaAddr r + 32 ≤ s.dmaWord r 2)) ∧
    (∃ (s : State) (r : Fin 4), s.dmaDue r 0x12 ∧ bits (s.dmaWord r 1) 17 16 = 3 ∧ bit (s.dmaWord r 1) 14 = false) :=
  ⟨rfl,
   ⟨w, 0, by decide +kernel⟩,
   ⟨(dma 0 (0) (0) (0)), 0, 0, by unfold State.dmaDue; decide +kernel⟩,
   ⟨(dma 1 (0) (0) (0)), 0, by unfold State.dmaDue; decide +kernel⟩,
   ⟨((dma 1 (0) (0) (0)).setEm em0 (emMake 0 0 0)), 0, em0, by unfold State.dmaDue; decide +kernel⟩,
   ⟨(dma 2 (0) (0) (0)), 0, (w.freeSlot 0 (w.bucketOf w.placeSet 0 0 0)).getD 0, by unfold State.dmaDue; decide +kernel⟩,
   ⟨((dma 2 (0) (0) (0)).setEm em0 (emMake 0 0 0)), 0, em0, by unfold State.dmaDue; decide +kernel⟩,
   ⟨((dma 3 0 0 (emMake 0 0 0)).setEm em0 (emMake 0 0 0)), 0, em0, by unfold State.dmaDue; decide +kernel⟩,
   ⟨((dma 4 (0) (0) (0)).setEm em0 (emMake 0 0 0)), 0, em0, by decide +kernel⟩,
   ⟨((dma 5 (0) (0) (0)).setEm em0 (emMake 0 0 0 + 2 ^ 126)), 0, em0, by unfold State.dmaDue; decide +kernel⟩,
   ⟨(dma 6 (0) (32) (0)), 0, by unfold State.dmaDue; decide +kernel⟩,
   ⟨((dma 7 (0) (0) (0)).modTables fun t => { t with locks := (List.range 15).map fun i => ⟨i + 1, 0, 0⟩ }), 0, 0,
     by unfold State.dmaDue; decide +kernel⟩,
   ⟨((dma 7 (0) (0) (0)).modTables fun t => { t with locks := [⟨0, 1, 0⟩] }), 0, 0, 1, by unfold State.dmaDue; decide +kernel⟩,
   ⟨((dma 8 (0) (0) (0)).modTables fun t => { t with locks := [⟨0, 0, 0⟩] }), 0, 0, by unfold State.dmaDue; decide +kernel⟩,
   ⟨(dma 8 (0) (0) (0)), 0, 0, by unfold State.dmaDue; decide +kernel⟩,
   ⟨(dma 9 (0) (0) (0)), 0, by unfold State.dmaDue; decide +kernel⟩,
   ⟨(((dma 0x10 (3 * 2 ^ 16) (32) (0)).pantryWrite 52 (leBytes 20 ((2 ^ 32 - 1) * 2 ^ 120))).pantryWrite 74 [1]), 0, 0,
     (2 ^ 32 - 1) * 2 ^ 120, 0, by unfold State.dmaDue; decide +kernel⟩,
   ⟨(dma 0x11 (3 * 2 ^ 16) (32) (0)), 0, by unfold State.dmaDue; decide +kernel⟩,
   ⟨(dma 0x12 (3 * 2 ^ 16) (0) (0)), 0, by unfold State.dmaDue; decide +kernel⟩⟩

theorem witness_RingsLocksAndScrubs :
    (w.held = false) ∧
    (∃ (s : State) (r : Fin 4) (c : Bool), s.held = false ∧ s.dmaReady r = false) ∧
    (∃ (s : State) (r : Fin 4), s.held = false ∧ s.dmaReady r = true) ∧
    (∃ (s : State) (r : Fin 4), s.held = false ∧ s.dmaReady r = true) ∧
    (∃ (s : State) (r : Fin 4), s.held = false ∧ bit (s.obj O.TDMA_STATUS (r + 1)) 9 = true) ∧
    (∃ (s : State) (r : Fin 4), s.held = false ∧ bit (s.obj O.TDMA_STATUS (r + 1)) 9 = false) ∧
    (∃ (s : State) (r : Fin 4) (x : Bool) (b : BitVec 15), s.held = false ∧ s.tables.locks.any (fun l => l.bucket == 32768 * b2n x +
      b.toNat && l.ring == r.val && s.elapsed l.at_ (s.obj O.LOCK_TIMEOUT * 1000000)) = false) ∧
    (∃ (s : State) (r : Fin 4) (x : Bool) (b : BitVec 15), s.held = false ∧ s.tables.locks.any (fun l => l.bucket == 32768 * b2n x +
      b.toNat && l.ring == r.val && s.elapsed l.at_ (s.obj O.LOCK_TIMEOUT * 1000000)) = true) ∧
    (∃ (s : State) (a : BitVec 2) (i : BitVec 15) (c : BitVec 2) (f : ScrubFinding), s.held = false ∧ f ≠ .struck ∧
      (s.tables.emBad.contains (emLoc a.toNat i.toNat c.toNat) = true ∨ f = .uncorrectable)) ∧
    (∃ (s : State) (a : BitVec 2) (i : BitVec 15) (c : BitVec 2), s.held = false ∧ s.tables.emBad.contains (emLoc a.toNat i.toNat
      c.toNat) = false) ∧
    (∃ (s : State) (a : BitVec 2) (i : BitVec 15) (c : BitVec 2), s.held = false ∧ bit (s.em (emLoc a.toNat i.toNat c.toNat)) 127 =
      true) ∧
    (∃ (s : State) (i : BitVec 14), s.held = false ∧ (∀ k < 4, s.tcamCopy k i.toNat = s.tcam i.toNat)) ∧
    (∃ (s : State) (i : BitVec 14) (m : BitVec 4) (x : Prefix), s.held = false ∧ (m ≠ 0 ∨ (∃ k < 4, s.tcamCopy k i.toNat ≠ s.tcam
      i.toNat)) ∧ mostHeld (([0, 1, 2, 3].filter fun k => !m.getLsbD k).map fun k => s.tcamCopy k i.toNat) = some x) ∧
    (∃ (s : State) (i : BitVec 16) (v : Bytes) (o : Obj), s.held = false ∧ tableObj i.toNat = some o ∧ s.tableBlobOk o v = true) ∧
    (∃ (s : State) (i : BitVec 16) (v : Bytes), s.held = false ∧ (tableObj i.toNat = none ∨ (∃ o, tableObj i.toNat = some o ∧
      s.tableBlobOk o v = false))) :=
  ⟨rfl,
   ⟨w, 0, false, by decide +kernel⟩,
   ⟨(dma 9 (0) (0) (0)), 0, by decide +kernel⟩,
   ⟨(dma 9 (0) (0) (0)), 0, by decide +kernel⟩,
   ⟨(dma 9 (0) (0) (0)), 0, by decide +kernel⟩,
   ⟨w, 0, by decide +kernel⟩,
   ⟨(w.modTables fun t => { t with locks := [⟨32768, 0, 0⟩] }), 0, true, 0, by decide +kernel⟩,
   ⟨((tm (2 ^ 40)).modTables fun t => { t with locks := [⟨32768, 0, 0⟩] }), 0, true, 0, by decide +kernel⟩,
   ⟨w, 0, 0, 0, .uncorrectable, by decide +kernel⟩,
   ⟨w, 0, 0, 0, by decide +kernel⟩,
   ⟨(w.setEm 0 (2 ^ 127)), 0, 0, 0, by decide +kernel⟩,
   ⟨w, 0, by decide +kernel⟩,
   ⟨w, 0, 8, w.tcam 0, by decide +kernel⟩,
   ⟨w, BitVec.ofNat 16 O.TCAM_ZONE.index, (w.blob O.TCAM_ZONE).bytes, O.TCAM_ZONE, by decide +kernel⟩,
   ⟨w, 0, [], by decide +kernel⟩⟩

theorem witness_LearningAndRehash :
    (w.held = false) ∧
    (∃ (s : State), s.held = false ∧ s.tables.learnQ = []) ∧
    (∃ (s : State) (q : LearnReq) (l : List LearnReq) (e : Nat), s.held = false ∧ s.tables.learnQ = q :: l ∧ s.emLookup 0 q.key = some
      e) ∧
    (∃ (s : State) (q : LearnReq) (l : List LearnReq) (e : Nat), s.held = false ∧ s.tables.learnQ = q :: l ∧ q.port < 2 ^ 16 ∧
      s.emLookup 0 q.key = some e ∧ emResult (s.em e) ≠ q.port ∧ bit (s.em e) 125 = false ∧ bits (emResult (s.em e)) 15 14 = 0 ∧ (∀ b,
      locBucket e = some b → s.lockOf b = none)) ∧
    (∃ (s : State) (q : LearnReq) (l : List LearnReq), s.held = false ∧ s.tables.learnQ = q :: l ∧ s.emLookup 0 q.key = none ∧ s.obj
      O.LEARN_MAX ≤ s.emLearned) ∧
    (∃ (s : State) (c : Bool), s.held = false ∧ s.status O.EM_STATUS ≠ 1) ∧
    (∃ (s : State), s.held = false ∧ s.status O.EM_STATUS = 1) ∧
    (∃ (s : State), s.held = false ∧ s.status O.EM_STATUS ≠ 1) ∧
    (∃ (s : State), s.held = false ∧ s.status O.EM_STATUS = 1 ∧ 65552 ≤ s.tables.walk ∧ s.tables.skipped = [] ∧ s.migrateLeft = 0 ∧
      s.tables.rehash = false) ∧
    (∃ (s : State), s.held = false ∧ (s.engUp 9 = false ∨ s.obj O.EM_AUTO_REHASH ≠ 1 ∨ bit (s.obj O.TABLE_FLAGS) 2 = false ∨ 2 ≤ s.obj
      O.EM_STATE ∨ s.status O.EM_STATUS = 1 ∨ s.status O.EM_STATUS = 5)) ∧
    (∃ (s : State), s.held = false ∧ s.engUp 9 = true ∧ s.obj O.EM_AUTO_REHASH = 1 ∧ bit (s.obj O.TABLE_FLAGS) 2 = true ∧ s.obj
      O.EM_STATE < 2 ∧ s.status O.EM_STATUS ≠ 1 ∧ s.status O.EM_STATUS ≠ 5) :=
  ⟨rfl,
   ⟨w, by decide +kernel⟩,
   ⟨({ (w.setEm em0 (emMake 0 0 0)) with tables := { (w.setEm em0 (emMake 0 0 0)).tables with learnQ := [⟨0, 0⟩] } }), ⟨0, 0⟩,
     [], em0, by decide +kernel⟩,
   ⟨({ (w.setEm em0 (emMake 0 0 0)) with tables := { (w.setEm em0 (emMake 0 0 0)).tables with learnQ := [⟨0, 65535⟩] } }),
     ⟨0, 65535⟩, [], em0,
     by refine ⟨by decide +kernel, by decide +kernel, by decide +kernel, by decide +kernel, by decide +kernel, by decide +kernel, by decide +kernel, fun _ _ => rfl⟩⟩,
   ⟨(({ w with tables := { w.tables with learnQ := [⟨0, 0⟩] } }).setObj O.LEARN_MAX 0), ⟨0, 0⟩, [], by decide +kernel⟩,
   ⟨w, false, by decide +kernel⟩,
   ⟨w.setObj O.EM_STATUS 1, by decide +kernel⟩,
   ⟨w, by decide +kernel⟩,
   ⟨((w.modTables fun x => { x with walk := 65552 }).setObj O.EM_STATUS 1), by decide +kernel⟩,
   ⟨w, by decide +kernel⟩,
   ⟨((w.setObj O.EM_AUTO_REHASH 1).setObj O.TABLE_FLAGS 4), by decide +kernel⟩⟩

theorem witness_FalriReadsAndWrites :
    (w.held = false) ∧
    (∃ (s : State) (p : Path) (h : FalriHdr) (i : FalriItem) (o : Obj), s.takes p (msgOf h 1 1 (FalriItem.bytes i)) ∧ findObj
      i.index.toNat i.sub.toNat = .obj o ∧ o.acc ≠ .wo ∧ ((s.count O.FALRI_RX).valueBytes o i.sub.toNat).length ≤ 1018) ∧
    (∃ (s : State) (p : Path) (h : FalriHdr) (i : FalriItem), s.takes p (msgOf h 1 1 (FalriItem.bytes i)) ∧ (s.readAt i.index.toNat
      i.sub.toNat).1 ≠ 0) ∧
    (∃ (s : State) (p : Path) (h : FalriHdr) (l : List FalriItem), s.takes p (msgOf h 3 l.length (l.flatMap FalriItem.bytes)) ∧ 1 ≤
      l.length ∧ l.length ≤ 64 ∧ (∀ i ∈ l, ∃ o, findObj i.index.toNat i.sub.toNat = .obj o ∧ o.acc ≠ .wo ∧ o.acc ≠ .rc) ∧ (l.flatMap fun
      i => itemBytes i 0 ((s.count O.FALRI_RX).readAt i.index.toNat i.sub.toNat).2.1).length ≤ 1024) ∧
    (∃ (s : State) (p : Path) (h : FalriHdr) (o : Obj) (v : Byte), o ∈ [O.SNAP_MODE, O.LANTERN_EN] ∧ v.toNat ≤ 1 ∧ s.takes p (msgOf h 2
      1 (FalriItem.bytes ⟨BitVec.ofNat 16 o.index, 0, [v]⟩)) ∧ s.mayWritePath (pathCode p) = true) ∧
    (∃ (s : State) (p : Path) (h : FalriHdr) (v : Byte) (w : Byte), v.toNat ≤ 1 ∧ w.toNat ≤ 1 ∧ s.takes p (msgOf h 4 2 ([⟨BitVec.ofNat
      16 O.SNAP_MODE.index, 0, [v]⟩, ⟨BitVec.ofNat 16 O.LANTERN_EN.index, 0, [w]⟩].flatMap FalriItem.bytes)) ∧ s.mayWritePath (pathCode
      p) = true) ∧
    (∃ (s : State) (p : Path) (i : BitVec 16) (j : BitVec 8) (v : Bytes), s.held = false ∧ s.mayWritePath (pathCode p) = false) ∧
    (∃ (s : State) (p : Path) (i : BitVec 16) (j : BitVec 8) (v : Bytes), s.held = false ∧ s.mayWritePath (pathCode p) = true ∧ itemOpll
      ⟨i, j, v⟩ = none ∧ (∃ x ∈ s.checkAll (pathCode p) [⟨i, j, v⟩], x ≠ 0)) ∧
    (∃ (s : State) (p : Path) (o : Obj) (v : Byte), s.held = false ∧ s.mayWritePath (pathCode p) = true ∧ o ∈ [O.SNAP_MODE,
      O.LANTERN_EN] ∧ v.toNat ≤ 1) ∧
    (∃ (s : State) (p : Path) (v : BitVec 64) (c : Byte), s.held = false ∧ s.mayWritePath (pathCode p) = true ∧ (∀ q : Fin 49, p = .port
      q → v.getLsbD q = true) ∧ (p = .chain → c.toNat = 1) ∧ c.toNat ≤ 1) ∧
    (∃ (s : State) (p : Path) (v : Bytes), s.held = false ∧ s.mayWritePath (pathCode p) = true ∧ (v.length ≠ 524288 ∨ s.sharedLocked =
      true ∨ s.activeManager = false)) ∧
    (∃ (s : State) (p : Path) (v : Bytes), s.held = false ∧ s.mayWritePath (pathCode p) = true ∧ v.length = 524288 ∧ s.sharedLocked =
      false ∧ s.activeManager = true) ∧
    (∃ (s : State) (v : Byte), s.held = false ∧ v ≠ 0 ∧ v ≠ 0xE7) ∧
    (∃ (s : State), s.held = false ∧ s.elapsed s.falri.sessionAt 59900000000 = true) ∧
    (∃ (s : State), s.held = false ∧ s.elapsed s.falri.sessionAt 59900000000 = false) :=
  ⟨rfl,
   ⟨w, .hbus, h1, ⟨BitVec.ofNat 16 O.SNAP_MODE.index, 0, []⟩, O.SNAP_MODE, by unfold State.takes; decide +kernel⟩,
   ⟨w, .hbus, h1, ⟨1, 0, []⟩, by unfold State.takes; decide +kernel⟩,
   ⟨w, .hbus, h1, List.replicate 64 ⟨BitVec.ofNat 16 O.SNAP_MODE.index, 0, []⟩,
     by refine ⟨by unfold State.takes; decide +kernel, by decide +kernel, by decide +kernel, fun i hi => ?_, by decide +kernel⟩; rw [List.eq_of_mem_replicate hi]; exact ⟨O.SNAP_MODE, by decide +kernel⟩⟩,
   ⟨w, .hbus, h1, O.LANTERN_EN, 1, by unfold State.takes; decide +kernel⟩,
   ⟨w, .hbus, h1, 1, 1, by unfold State.takes; decide +kernel⟩,
   ⟨(w.setObj O.GATE_CHAIN 0), .chain, 0, 0, [], by decide +kernel⟩,
   ⟨w, .hbus, 1, 0, [], by decide +kernel⟩,
   ⟨w, .hbus, O.SNAP_MODE, 0, by decide +kernel⟩,
   ⟨w, .port 48, BitVec.ofNat 64 (2 ^ 48), 1, by decide +kernel⟩,
   ⟨w, .hbus, [], by decide +kernel⟩,
   ⟨(w.modPower fun x => { x with straps := 1 }), .hbus, List.replicate 524288 0,
     by refine ⟨by decide +kernel, by decide +kernel, List.length_replicate, by decide +kernel, by decide +kernel⟩⟩,
   ⟨w, 1, by decide +kernel⟩,
   ⟨(tm 59900000000), by decide +kernel⟩,
   ⟨(tm 59899999999), by decide +kernel⟩⟩

theorem witness_FalriBlocksAndNames :
    (∃ (s : State) (p : Path) (h : FalriHdr) (i : BlockReadItem) (o : Obj), s.takes p (msgOf h 5 1 (BlockReadItem.bytes i)) ∧ findObj
      i.index.toNat i.sub.toNat = .obj o ∧ o.acc ≠ .wo ∧ o.ty = .blob ∧ i.offset = 0 ∧ 1 ≤ i.dlen.toNat ∧ i.dlen.toNat ≤ 1000) ∧
    (∃ (s : State) (p : Path) (h : FalriHdr) (i : BlockReadItem) (st : Nat), s.takes p (msgOf h 5 1 (BlockReadItem.bytes i)) ∧ ((st = 1
      ∧ findObj i.index.toNat i.sub.toNat = .noObject) ∨ (st = 2 ∧ findObj i.index.toNat i.sub.toNat = .noSub) ∨ (st = 6 ∧ ∃ o, findObj
      i.index.toNat i.sub.toNat = .obj o ∧ o.acc ≠ .wo ∧ o.ty ≠ .blob))) ∧
    (∃ (s : State) (p : Path) (h : FalriHdr) (i : BlockWriteItem), s.takes p (msgOf h 6 1 (BlockWriteItem.bytes i)) ∧ s.mayWritePath
      (pathCode p) = true ∧ s.segmentStatus (BlockWriteItem.bytes i) = 0 ∧ i.flags = 1 ∧ i.offset = 0) ∧
    (∃ (s : State) (p : Path) (h : FalriHdr) (i : BlockWriteItem), s.takes p (msgOf h 6 1 (BlockWriteItem.bytes i)) ∧ s.mayWritePath
      (pathCode p) = true ∧ s.segmentStatus (BlockWriteItem.bytes i) = 0 ∧ i.flags.getLsbD 0 = false ∧ s.falri.staging = none) ∧
    (∃ (s : State) (p : Path) (h : FalriHdr), s.takes p (msgOf h 7 0 []) ∧ s.mayWritePath (pathCode p) = false) ∧
    (∃ (s : State) (p : Path) (h : FalriHdr), s.takes p (msgOf h 7 0 []) ∧ s.mayWritePath (pathCode p) = true ∧ s.cfgBusy = true) ∧
    (∃ (s : State) (p : Path) (h : FalriHdr), s.takes p (msgOf h 7 0 []) ∧ s.mayWritePath (pathCode p) = true ∧ s.cfgBusy = false ∧
      (s.count O.FALRI_RX).commitBody.length ≤ bodyMax) ∧
    (∃ (s : State) (p : Path) (h : FalriHdr), s.takes p (msgOf h 8 0 [])) ∧
    (∃ (s : State) (p : Path) (h : FalriHdr), s.held = false ∧ addrKind h.dst.toNat = 2 ∧ s.headRemoves (pathCode p) h.src.toNat = false
      ∧ s.learnDev (pathCode p) h.src.toNat = s ∧ s.duplicate (pathCode p) (msgOf h 8 0 []) = none ∧ s.falri.deferred.contains (h, p) =
      false) ∧
    (∃ (s : State) (h : FalriHdr), s.held = false ∧ s.falri.deferred.find? (fun d => d.1 == h) = none) ∧
    (∃ (s : State) (h : FalriHdr) (d : FalriHdr × Path), s.held = false ∧ s.falri.deferred.find? (fun d => d.1 == h) = some d) ∧
    (∃ (s : State) (p : Path) (h : FalriHdr) (x : BitVec 64) (d : BitVec 16), s.takes p (msgOf h 9 1 (beBytes 8 x.toNat ++ beBytes 2
      d.toNat)) ∧ x.toNat ≠ s.fuses.serial) ∧
    (∃ (s : State) (p : Path) (h : FalriHdr) (x : BitVec 64) (d : BitVec 16), s.takes p (msgOf h 9 1 (beBytes 8 x.toNat ++ beBytes 2
      d.toNat)) ∧ x.toNat = s.fuses.serial ∧ s.mayWritePath (pathCode p) = true ∧ (s.manager = true ∨ d.toNat < 3 ∨ 1023 < d.toNat)) ∧
    (∃ (s : State) (p : Path) (h : FalriHdr) (x : BitVec 64) (d : BitVec 16), s.takes p (msgOf h 9 1 (beBytes 8 x.toNat ++ beBytes 2
      d.toNat)) ∧ x.toNat = s.fuses.serial ∧ s.mayWritePath (pathCode p) = true ∧ s.manager = false ∧ 3 ≤ d.toNat ∧ d.toNat ≤ 1023) :=
  ⟨⟨w, .hbus, h1, ⟨BitVec.ofNat 16 O.VLAN_MEMBERS.index, 0, 0, 1000⟩, O.VLAN_MEMBERS, by unfold State.takes; decide +kernel⟩,
   ⟨w, .hbus, h1, ⟨1, 0, 0, 1⟩, 1, by refine ⟨by unfold State.takes; decide +kernel, Or.inl ⟨rfl, by decide +kernel⟩⟩⟩,
   ⟨w, .hbus, h1, ⟨BitVec.ofNat 16 O.VLAN_MEMBERS.index, 0, 1, 0, 1, [0]⟩, by unfold State.takes; decide +kernel⟩,
   ⟨w, .hbus, h1, ⟨BitVec.ofNat 16 O.VLAN_MEMBERS.index, 0, 0, 0, 1, [0]⟩, by unfold State.takes; decide +kernel⟩,
   ⟨(w.setObj O.GATE_CHAIN 0), .chain, h1, by unfold State.takes; decide +kernel⟩,
   ⟨(w.setObj O.CFG_STATUS 1), .hbus, h1, by unfold State.takes; decide +kernel⟩,
   ⟨w, .hbus, h1,
     by refine ⟨by unfold State.takes; decide +kernel, by decide +kernel, by decide +kernel, (commitBody_length_le _).trans (by decide +kernel)⟩⟩,
   ⟨w, .hbus, h1, by unfold State.takes; decide +kernel⟩,
   ⟨w, .hbus, ⟨0, 0x8000, 0, 0, 0, none⟩, by decide +kernel⟩,
   ⟨w, h1, by decide +kernel⟩,
   ⟨(w.modFalri fun f => { f with deferred := [(h1, .hbus)] }), h1, (h1, .hbus), by decide +kernel⟩,
   ⟨w, .hbus, h1, 1, 0, by unfold State.takes; decide +kernel⟩,
   ⟨w, .hbus, h1, 0, 2, by unfold State.takes; decide +kernel⟩,
   ⟨w, .hbus, h1, 0, 1023, by unfold State.takes; decide +kernel⟩⟩

theorem witness_FalriServicesRun :
    (w.held = false) ∧
    (∃ (s : State) (p : Path) (b : Bytes), s.held = false ∧ parseMsg b = none) ∧
    (∃ (s : State) (p : Path) (b : Bytes) (m : Msg), parseMsg b = some m ∧ s.takes p m ∧ m.op < 128 ∧ (m.op = 0 ∨ 11 ≤ m.op ∨ (m.op ≠ 10
      ∧ countOk m.op m.count = false))) ∧
    (∃ (s : State) (p : Path) (b : Bytes) (m : Msg), s.held = false ∧ parseMsg b = some m ∧ m.op < 128) ∧
    (∃ (s : State) (p : Path) (b : Bytes) (m : Msg) (q : Proxy), s.held = false ∧ parseMsg b = some m ∧ 128 ≤ m.op ∧ s.learnDev
      (pathCode p) m.src = s ∧ s.headRemoves (pathCode p) m.src = false ∧ s.proxyFor m = some q ∧ q.path = chainPath) ∧
    (∃ (s : State) (p : Path) (h : FalriHdr) (i : BitVec 16) (j : BitVec 8) (v : BitVec 32) (x : BitVec 64), s.held = false ∧ s.learnDev
      (pathCode p) h.src.toNat = s ∧ (s.headRemoves (pathCode p) h.src.toNat = true ∨ (s.ownDst (pathCode p) h.dst.toNat = true ∧
      s.falri.mbNotify = false))) ∧
    (∃ (s : State) (p : Path) (h : FalriHdr) (i : BitVec 16) (j : BitVec 8) (v : BitVec 32) (x : BitVec 64), s.held = false ∧ s.learnDev
      (pathCode p) h.src.toNat = s ∧ s.headRemoves (pathCode p) h.src.toNat = false ∧ s.ownDst (pathCode p) h.dst.toNat = true ∧
      s.falri.mbNotify = true ∧ s.falri.mbHeld = none) ∧
    (∃ (s : State) (i : BitVec 16) (j : BitVec 8), s.held = false ∧ (s.notifyWay = none ∨ Tab.get s.falri.notify 0 (i.toNat * 256 +
      j.toNat) = 0 ∨ s.obj O.NOTIFY_RATE ≤ s.notifyRecent.length)) ∧
    (∃ (s : State) (i : BitVec 16) (j : BitVec 8), s.held = false ∧ s.obj O.NOTIFY_PATH = 2 ∧ Tab.get s.falri.notify 0 (i.toNat * 256 +
      j.toNat) ≠ 0 ∧ s.notifyRecent.length < s.obj O.NOTIFY_RATE) ∧
    (∃ (s : State) (k : Fin 4) (b : ReadBuf), s.held = false ∧ s.falri.bufs[k.val]? = some b ∧ s.elapsed b.at_ 10000000000 = true) ∧
    (∃ (s : State) (k : Fin 4), s.held = false ∧ (∀ b, s.falri.bufs[k.val]? = some b → s.elapsed b.at_ 10000000000 = false)) ∧
    (∃ (s : State), s.held = false ∧ s.falri.staging = none) ∧
    (∃ (s : State) (g : Staging), s.held = false ∧ s.falri.staging = some g ∧ s.elapsed g.at_ 10000000000 = false) ∧
    (∃ (s : State) (g : Staging), s.held = false ∧ s.falri.staging = some g ∧ s.elapsed g.at_ 10000000000 = true) ∧
    (∃ (s : State) (b : Bytes) (n : Bool), s.held = false ∧ (b.length < 18 ∨ 1042 < b.length ∨ parseMsg b = none)) ∧
    (∃ (s : State) (b : Bytes) (n : Bool) (m : Msg), 18 ≤ b.length ∧ b.length ≤ 1042 ∧ parseMsg b = some m ∧ m.op = 8 ∧ m.count = 0 ∧
      s.takes .hbus m) ∧
    (∃ (s : State) (c : Bool), s.held = false ∧ s.falri.mbHeld = none) ∧
    (∃ (s : State) (c : Bool), s.held = false ∧ s.falri.mbHeld ≠ none ∧ s.falri.mbWait = [] ∧ s.falri.mbNotes = []) ∧
    (∃ (s : State) (c : Bool) (m : Bytes) (r : List Bytes), s.held = false ∧ s.falri.mbHeld ≠ none ∧ s.falri.mbWait = m :: r) ∧
    (∃ (s : State), s.held = false ∧ s.chainHead = true) ∧
    (∃ (s : State), s.held = false ∧ s.chainHead = false) ∧
    (∃ (s : State) (v : Byte), s.held = false ∧ s.chainHead = true) ∧
    (∃ (s : State) (v : Byte), s.held = false ∧ s.chainHead = false ∧ s.obj O.CHAIN_ADDR = 0 ∧ v.toNat < 64) ∧
    (∃ (s : State) (v : Byte), s.held = false ∧ s.chainHead = false ∧ s.obj O.CHAIN_ADDR = 0 ∧ 64 ≤ v.toNat) ∧
    (∃ (s : State), s.held = false ∧ s.chainHead = true ∧ s.falri.enumOut = true) ∧
    (∃ (s : State), s.held = false ∧ (s.chainHead = false ∨ s.falri.enumOut = false)) :=
  ⟨rfl,
   ⟨w, .hbus, [], by decide +kernel⟩,
   ⟨w, .hbus, (msgOf h1 11 1 []).bytes, (msgOf h1 11 1 []), by unfold State.takes; decide +kernel⟩,
   ⟨w, .hbus, (msgOf h1 11 1 []).bytes, (msgOf h1 11 1 []), by decide +kernel⟩,
   ⟨(w.modFalri fun f => { f with proxies := [⟨64, 0xC000, 0, 0, 0, none, 0⟩] }), .hbus, (msgOf h1 128 0 []).bytes,
     (msgOf h1 128 0 []), ⟨64, 0xC000, 0, 0, 0, none, 0⟩, by decide +kernel⟩,
   ⟨w, .hbus, h1, 0, 0, 0, 0, by decide +kernel⟩,
   ⟨(w.modFalri fun x => { x with mbNotify := true }), .hbus, h1, 0, 0, 0, 0, by decide +kernel⟩,
   ⟨w, 0, 0, by decide +kernel⟩,
   ⟨((w.modFalri fun x => { x with notify := [(0, 1)] }).setObj O.NOTIFY_PATH 2), 0, 0, by decide +kernel⟩,
   ⟨((tm 10000000000).modFalri fun x => { x with bufs := [⟨0, 0, 0, [], 0⟩] }), 0, ⟨0, 0, 0, [], 0⟩, by decide +kernel⟩,
   ⟨((tm 9999999999).modFalri fun x => { x with bufs := [⟨0, 0, 0, [], 0⟩] }), 0, by decide +kernel,
     fun b h => by cases h; decide +kernel⟩,
   ⟨w, by decide +kernel⟩,
   ⟨((tm 9999999999).modFalri fun x => { x with staging := some ⟨0, 0, 0, 0, [], 0⟩ }), ⟨0, 0, 0, 0, [], 0⟩, by decide +kernel⟩,
   ⟨((tm 10000000000).modFalri fun x => { x with staging := some ⟨0, 0, 0, 0, [], 0⟩ }), ⟨0, 0, 0, 0, [], 0⟩, by decide +kernel⟩,
   ⟨w, [], false, by decide +kernel⟩,
   ⟨w, (msgOf h1 8 0 []).bytes, false, (msgOf h1 8 0 []), by unfold State.takes; decide +kernel⟩,
   ⟨w, false, by decide +kernel⟩,
   ⟨(w.modFalri fun x => { x with mbHeld := some ([], false) }), false, by decide +kernel⟩,
   ⟨(w.modFalri fun x => { x with mbHeld := some ([], false), mbWait := [[1]] }), false, [1], [], by decide +kernel⟩,
   ⟨(w.modPower fun x => { x with straps := 4 }), by decide +kernel⟩,
   ⟨w, by decide +kernel⟩,
   ⟨(w.modPower fun x => { x with straps := 4 }), 0, by decide +kernel⟩,
   ⟨w, 63, by decide +kernel⟩,
   ⟨w, 64, by decide +kernel⟩,
   ⟨((w.modPower fun x => { x with straps := 4 }).modFalri fun x => { x with enumOut := true }), by decide +kernel⟩,
   ⟨w, by decide +kernel⟩⟩

theorem witness_ConfigStoreWorks :
    (∃ (s : State), s.held = false ∧ s.cfgBusy = true) ∧
    (∃ (s : State), s.held = false ∧ s.cfgBusy = false ∧ bodyMax < s.commitBody.length) ∧
    (∃ (s : State), s.held = false ∧ s.cfgBusy = false ∧ s.commitBody.length ≤ bodyMax) ∧
    (∃ (s : State), s.held = false ∧ s.cfgBusy = false ∧ imageOkFor cfgMagic (s.blob O.CFG_UPLOAD).bytes = false) ∧
    (∃ (s : State), s.held = false ∧ s.cfgBusy = false ∧ imageOkFor cfgMagic (s.blob O.CFG_UPLOAD).bytes = true) ∧
    (∃ (s : State), s.held = false ∧ s.cfgBusy = false) ∧
    (∃ (s : State) (v : Bool), s.held = false ∧ (s.falri.job = none ∨ s.falri.jobKind ≠ 1)) ∧
    (∃ (s : State) (v : Bool), s.held = false ∧ (s.falri.job = none ∨ s.falri.jobKind ≠ 2)) ∧
    (∃ (s : State), s.held = false ∧ s.falri.jobKind ≠ 3) ∧
    (∃ (s : State) (j : FlashJob), s.held = false ∧ s.falri.job = some j ∧ s.falri.jobKind = 1 ∧ j.hdr.length = 32) ∧
    (∃ (s : State) (j : FlashJob), s.held = false ∧ s.falri.job = some j ∧ s.falri.jobKind = 1) ∧
    (∃ (s : State) (j : FlashJob), s.held = false ∧ s.falri.job = some j ∧ s.falri.jobKind = 2 ∧ j.hdr.length = 32) ∧
    (∃ (s : State) (j : FlashJob), s.held = false ∧ s.falri.job = some j ∧ s.falri.jobKind = 2) ∧
    (∃ (s : State), s.held = false ∧ s.falri.jobKind = 3) ∧
    (∃ (s : State) (c : Byte), s.held = false ∧ s.cfgBusy = false ∧ (c.toNat = 0 ∨ 3 < c.toNat)) ∧
    (∃ (s : State) (c : Byte), s.held = false ∧ 1 ≤ c.toNat ∧ c.toNat ≤ 3) :=
  ⟨⟨(w.setObj O.CFG_STATUS 1), by decide +kernel⟩,
   ⟨w.setBlob O.VLAN_MEMBERS ⟨2 ^ 23, []⟩,
     by refine ⟨by decide +kernel, by decide +kernel, lt_of_lt_of_le commit_large (le_commitBody_length _)⟩⟩,
   ⟨w, by refine ⟨by decide +kernel, by decide +kernel, (commitBody_length_le _).trans commit_small⟩⟩,
   ⟨w, by decide +kernel⟩,
   ⟨w.setBlob O.CFG_UPLOAD (Blob.of (headerFor 0 (List.replicate 8 0) [])), by decide +kernel⟩,
   ⟨w, by decide +kernel⟩,
   ⟨w, false, by decide +kernel⟩,
   ⟨w, false, by decide +kernel⟩,
   ⟨w, by decide +kernel⟩,
   ⟨(w.modFalri fun x => { x with job := some ⟨0, 0, [], List.replicate 32 0⟩, jobKind := 1 }),
     ⟨0, 0, [], List.replicate 32 0⟩, by decide +kernel⟩,
   ⟨(w.modFalri fun x => { x with job := some ⟨0, 0, [], List.replicate 32 0⟩, jobKind := 1 }),
     ⟨0, 0, [], List.replicate 32 0⟩, by decide +kernel⟩,
   ⟨(w.modFalri fun x => { x with job := some ⟨0, 0, [], List.replicate 32 0⟩, jobKind := 2 }),
     ⟨0, 0, [], List.replicate 32 0⟩, by decide +kernel⟩,
   ⟨(w.modFalri fun x => { x with job := some ⟨0, 0, [], List.replicate 32 0⟩, jobKind := 2 }),
     ⟨0, 0, [], List.replicate 32 0⟩, by decide +kernel⟩,
   ⟨(w.modFalri fun x => { x with job := some ⟨0, 0, [], List.replicate 32 0⟩, jobKind := 3 }), by decide +kernel⟩,
   ⟨w, 4, by decide +kernel⟩,
   ⟨w, 3, by decide +kernel⟩⟩

theorem witness_HierarchyForms :
    (∃ (s : State) (a : BitVec 48) (l : List Bytes), s.held = false ∧ s.engUp 9 = false) ∧
    (∃ (s : State), s.held = false ∧ s.engUp 9 = true) ∧
    (∃ (s : State) (p : Fin 48) (b : Bytes), s.held = false ∧ s.engUp 9 = true ∧ s.polled p = true ∧ b.length = 32) ∧
    (∃ (s : State) (v : Bytes), s.held = false ∧ s.hier.fetching = false) ∧
    (∃ (s : State) (v : Bytes), s.held = false ∧ s.hier.fetching = true) ∧
    (∃ (s : State) (x : BitVec 64) (d : BitVec 16), s.held = false ∧ s.activeManager = false) ∧
    (∃ (s : State) (x : BitVec 64) (k : Nat), s.held = false ∧ s.activeManager = true ∧ s.idFor x.toNat = some k) ∧
    (∃ (s : State) (x : BitVec 64), s.held = false ∧ s.activeManager = true ∧ s.idFor x.toNat = none) ∧
    (∃ (s : State) (x : BitVec 64) (d : BitVec 16), s.held = false ∧ s.activeManager = true ∧ d ≠ 0 ∧ (Tab.get s.hier.reports 0 d.toNat
      = 0 ∨ Tab.get s.hier.reports 0 d.toNat = x.toNat)) ∧
    (∃ (s : State) (p : Nat), s.held = false ∧ s.engUp 9 = true ∧ s.activeManager = true ∧ s.lowerPorts = [p] ∧ s.activeLanes p ≠ [] ∧
      (s.lport p).hb = [] ∧ (s.lport p).mgmt = [] ∧ s.frameWaits p = false) ∧
    (∃ (s : State) (d : BitVec 10), s.held = false ∧ (Tab.get s.hier.devPort 0xFF d.toNat = 0xFF ∨ s.elapsed (Tab.get s.hier.devAt 0
      d.toNat) (3000000 * s.obj O.DISC_INTERVAL) = false)) ∧
    (∃ (s : State) (d : BitVec 10), s.held = false ∧ Tab.get s.hier.devPort 0xFF d.toNat ≠ 0xFF ∧ s.elapsed (Tab.get s.hier.devAt 0
      d.toNat) (3000000 * s.obj O.DISC_INTERVAL) = true) ∧
    (∃ (s : State), s.held = false ∧ (s.modeStrap ≠ 2 ∨ s.hier.prov = true ∨ (∃ p ∈ s.freshPorts, (advField (s.advert p) 0 1 ≠ 3 ∧
      advField (s.advert p) 1 1 ≤ 8) ∨ advKey (s.advert p) < rootKey 1 s.fuses.serial) ∨ (∀ a, s.hier.aloneAt = some a → s.elapsed a
      3000000000 = false))) ∧
    (∃ (s : State) (a : Nat), s.held = false ∧ s.modeStrap = 2 ∧ s.hier.prov = false ∧ (∀ p ∈ s.freshPorts, (advField (s.advert p) 0 1 =
      3 ∨ 8 < advField (s.advert p) 1 1) ∧ rootKey 1 s.fuses.serial ≤ advKey (s.advert p)) ∧ s.hier.aloneAt = some a ∧ s.elapsed a
      3000000000 = true) :=
  ⟨⟨(w.setObj O.ENG_STATE 4 10), 0, [], by decide +kernel⟩,
   ⟨w, by decide +kernel⟩,
   ⟨(w.modLPort 0 fun l => { l with up := true }), 0, List.replicate 32 0, by decide +kernel⟩,
   ⟨w, [], by decide +kernel⟩,
   ⟨(w.modHier fun x => { x with fetching := true }), [], by decide +kernel⟩,
   ⟨w, 0, 0, by decide +kernel⟩,
   ⟨(w.modPower fun x => { x with straps := 1 }), 7, 3, by decide +kernel⟩,
   ⟨idSt, 2, by exact ⟨by decide +kernel, by decide +kernel, idSt_idFor⟩⟩,
   ⟨((w.modPower fun x => { x with straps := 1 }).modHier fun x => { x with reports := [(1, 7)] }), 7, 1, by decide +kernel⟩,
   ⟨((((w.modPower fun x => { x with straps := 1 }).modHier fun x => { x with neigh := [(0, [0, 1])] }).modLPort 0 fun l => { l with up := true }).setObj O.HIER_RANK 0 |>.setObj O.PORT_ACTIVE 1 1),
     0, by decide +kernel⟩,
   ⟨(w.modHier fun x => { x with devPort := [(1, 0)] }), 1, by decide +kernel⟩,
   ⟨((tm (2 ^ 40)).modHier fun x => { x with devPort := [(1, 0)] }), 1, by decide +kernel⟩,
   ⟨w, by refine ⟨by decide +kernel, Or.inl (by decide +kernel)⟩⟩,
   ⟨(((tm 3000000000).modPower fun x => { x with straps := 2 }).modHier fun x => { x with aloneAt := some 0 }), 0,
     by decide +kernel⟩⟩

theorem witness_HeartbeatsAndLease :
    (∃ (s : State), s.held = false ∧ (s.twin.pair = 0 ∨ s.obj O.TWIN_STATE = 0 ∨ s.engUp 9 = false)) ∧
    (∃ (s : State) (n : Nat) (ns : List Nat), s.held = false ∧ s.engUp 9 = true ∧ s.twin.pair ≠ 0 ∧ s.obj O.TWIN_STATE ≠ 0 ∧ s.twin.port
      < 48 ∧ s.activeLanes s.twin.port = n :: ns ∧ (s.lport s.twin.port).hb = []) ∧
    (∃ (s : State) (p : HbPath) (b : Body) (f : Option Bool), s.held = false ∧ blk b 106 91 ≠ s.twin.pair) ∧
    (∃ (s : State) (p : HbPath) (b : Body) (f : Option Bool), s.held = false ∧ blk b 106 91 = s.twin.pair ∧ (s.twin.pair = 0 ∨ 6 ≤ blk b
      119 117)) ∧
    (∃ (s : State) (p : HbPath) (b : Body) (f : Option Bool), s.held = false ∧ blk b 106 91 = s.twin.pair ∧ s.twin.pair ≠ 0 ∧ blk b 119
      117 < 6 ∧ blk b 116 107 = s.deviceId ∧ s.deviceId ≠ 0 ∧ s.twin.claimed = false) ∧
    (∃ (s : State) (p : HbPath) (b : Body) (f : Option Bool), s.held = false ∧ blk b 106 91 = s.twin.pair ∧ s.twin.pair ≠ 0 ∧ blk b 119
      117 = 1 ∧ (blk b 116 107 ≠ s.deviceId ∨ s.deviceId = 0) ∧ s.obj O.TWIN_STATE = 1) ∧
    (∃ (s : State) (p : HbPath) (b : Body) (f : Option Bool), s.held = false ∧ blk b 106 91 = s.twin.pair ∧ s.twin.pair ≠ 0 ∧ blk b 119
      117 = 1 ∧ (blk b 116 107 ≠ s.deviceId ∨ s.deviceId = 0) ∧ s.obj O.TWIN_STATE = 3 ∧ (s.twin.heard = false ∨ 0 < toSigned 16 ((blk b
      90 75 + 65536 - s.twin.leaseSeq) % 65536))) ∧
    (∃ (s : State) (p : HbPath) (b : Body) (f : Option Bool), s.held = false ∧ blk b 106 91 = s.twin.pair ∧ s.twin.pair ≠ 0 ∧ blk b 119
      117 = 1 ∧ (blk b 116 107 ≠ s.deviceId ∨ s.deviceId = 0) ∧ s.obj O.TWIN_STATE = 3 ∧ s.twin.heard = true ∧ toSigned 16 ((blk b 90 75
      + 65536 - s.twin.leaseSeq) % 65536) ≤ 0) ∧
    (∃ (s : State) (p : HbPath) (b : Body) (f : Option Bool) (a : Nat) (r : List (Nat × Nat)), s.held = false ∧ blk b 106 91 =
      s.twin.pair ∧ s.twin.pair ≠ 0 ∧ blk b 119 117 = 3 ∧ (blk b 116 107 ≠ s.deviceId ∨ s.deviceId = 0) ∧ s.obj O.TWIN_STATE = 2 ∧
      s.twin.handover = false ∧ s.twin.sent = (blk b 90 75, a) :: r) ∧
    (∃ (s : State) (p : HbPath), s.held = false ∧ (bit (s.obj O.TWIN_PATH_STATE) 0 = false ∨ bit (s.obj O.TWIN_PATH_STATE) 1 = false)) ∧
    (∃ (s : State) (p : HbPath), s.held = false ∧ bit (s.obj O.TWIN_PATH_STATE) 0 = true ∧ bit (s.obj O.TWIN_PATH_STATE) 1 = true) ∧
    (∃ (s : State), s.held = false ∧ (s.obj O.TWIN_STATE ≠ 2 ∨ s.twin.ackSeq = none ∨ s.elapsed s.twin.leaseAt 50000000 = false)) ∧
    (∃ (s : State), s.held = false ∧ s.obj O.TWIN_STATE = 2 ∧ s.twin.ackSeq.isSome = true ∧ s.elapsed s.twin.leaseAt 50000000 = true) ∧
    (∃ (s : State), s.held = false ∧ s.obj O.TWIN_STATE ≠ 1) ∧
    (∃ (s : State), s.held = false ∧ s.obj O.TWIN_STATE = 1) ∧
    (∃ (s : State), s.held = false ∧ s.twinBusy = true) ∧
    (∃ (s : State), s.held = false ∧ s.twinBusy = false ∧ s.twin.pair ≠ 0 ∧ (s.obj O.TWIN_STATE = 1 ∨ s.obj O.TWIN_STATE = 5)) ∧
    (∃ (s : State), s.held = false ∧ s.twinBusy = false ∧ (s.twin.pair = 0 ∨ (s.obj O.TWIN_STATE ≠ 1 ∧ s.obj O.TWIN_STATE ≠ 5))) :=
  ⟨⟨w, by decide +kernel⟩,
   ⟨(((w.modTwin fun x => { x with pair := 1, port := 47 }).setObj O.TWIN_STATE 1).setObj O.PORT_ACTIVE 1 48), 47, [],
     by decide +kernel⟩,
   ⟨w, .inBand, BitVec.ofNat 104 (2 ^ 75), none, by decide +kernel⟩,
   ⟨w, .inBand, 0, none, by decide +kernel⟩,
   ⟨((w.modTwin fun x => { x with pair := 1 }).setObj O.DEVICE_ID 3), .inBand,
     BitVec.ofNat 104 (2 ^ 75 + 5 * 2 ^ 101 + 3 * 2 ^ 91), none, by decide +kernel⟩,
   ⟨((w.modTwin fun x => { x with pair := 1 }).setObj O.TWIN_STATE 1), .inBand, BitVec.ofNat 104 (2 ^ 75 + 2 ^ 101), none,
     by decide +kernel⟩,
   ⟨((w.modTwin fun x => { x with pair := 1 }).setObj O.TWIN_STATE 3), .inBand, BitVec.ofNat 104 (2 ^ 75 + 1 * 2 ^ 101), none,
     by decide +kernel⟩,
   ⟨((w.modTwin fun x => { x with pair := 1, heard := true }).setObj O.TWIN_STATE 3), .inBand,
     BitVec.ofNat 104 (2 ^ 75 + 1 * 2 ^ 101), none, by decide +kernel⟩,
   ⟨((w.modTwin fun x => { x with pair := 1, sent := [(0, 0)] }).setObj O.TWIN_STATE 2), .inBand,
     BitVec.ofNat 104 (2 ^ 75 + 3 * 2 ^ 101), none, 0, [], by decide +kernel⟩,
   ⟨w, .inBand, by decide +kernel⟩,
   ⟨(w.setObj O.TWIN_PATH_STATE 3), .inBand, by decide +kernel⟩,
   ⟨w, by decide +kernel⟩,
   ⟨(((tm 50000000).modTwin fun x => { x with ackSeq := some 0 }).setObj O.TWIN_STATE 2), by decide +kernel⟩,
   ⟨w, by decide +kernel⟩,
   ⟨(w.setObj O.TWIN_STATE 1), by decide +kernel⟩,
   ⟨(w.setObj O.TWIN_STATUS 1), by decide +kernel⟩,
   ⟨((w.modTwin fun x => { x with pair := 1 }).setObj O.TWIN_STATE 5), by decide +kernel⟩,
   ⟨w, by decide +kernel⟩⟩

theorem witness_TwinsHandOver :
    (∃ (s : State), s.held = false ∧ (s.streaming = false ∨ s.engUp 9 = false)) ∧
    (∃ (s : State), s.held = false ∧ s.streaming = true ∧ s.engUp 9 = true) ∧
    (∃ (s : State), s.held = false ∧ (s.manager = false ∨ (s.obj O.TWIN_STATE ≠ 3 ∧ s.obj O.TWIN_STATE ≠ 4) ∨ (s.blob
      O.TWIN_EPOCH_RX).len = 0)) ∧
    (∃ (s : State) (l : Bytes), s.held = false ∧ s.manager = true ∧ (s.obj O.TWIN_STATE = 3 ∨ s.obj O.TWIN_STATE = 4) ∧ (s.blob
      O.TWIN_EPOCH_RX).bytes = l ∧ (s.blob O.TWIN_EPOCH_RX).len ≠ 0 ∧ (l.length < 16 + octets l 8 4 ∨ octets l 12 4 ≠ crc32 (l.take 12
      ++ (l.drop 16).take (octets l 8 4)))) ∧
    (∃ (s : State) (l : Bytes), s.held = false ∧ s.manager = true ∧ (s.obj O.TWIN_STATE = 3 ∨ s.obj O.TWIN_STATE = 4) ∧ (s.blob
      O.TWIN_EPOCH_RX).bytes = l ∧ (s.blob O.TWIN_EPOCH_RX).len ≠ 0 ∧ 16 + octets l 8 4 ≤ l.length ∧ octets l 12 4 = crc32 (l.take 12 ++
      (l.drop 16).take (octets l 8 4))) ∧
    (∃ (s : State) (v : Bytes), s.held = false ∧ (s.manager = false ∨ (s.obj O.TWIN_STATE ≠ 3 ∧ s.obj O.TWIN_STATE ≠ 4) ∨ v.length < 4 ∨
      (s.twin.committed = true ∧ later32 (octets v 0 4) s.twin.jseq = false))) ∧
    (∃ (s : State) (v : Bytes), s.held = false ∧ s.manager = true ∧ (s.obj O.TWIN_STATE = 3 ∨ s.obj O.TWIN_STATE = 4) ∧ 4 ≤ v.length ∧
      s.twin.committed = false) ∧
    (∃ (s : State) (v : Bytes), s.held = false ∧ s.manager = true ∧ (s.obj O.TWIN_STATE = 3 ∨ s.obj O.TWIN_STATE = 4) ∧ 4 ≤ v.length ∧
      s.twin.committed = true ∧ s.twin.journal = [] ∧ octets v 0 4 = (s.twin.jseq + 1) % 2 ^ 32 ∧ later32 (octets v 0 4) s.twin.jseq =
      true) ∧
    (∃ (s : State), s.held = false ∧ ((s.obj O.TWIN_STATE ≠ 3 ∧ s.obj O.TWIN_STATE ≠ 4) ∨ s.elapsed s.twin.leaseAt 60000000 = false)) ∧
    (∃ (s : State), s.held = false ∧ (s.obj O.TWIN_STATE = 3 ∨ s.obj O.TWIN_STATE = 4) ∧ s.elapsed s.twin.leaseAt 60000000 = true) ∧
    (∃ (s : State), s.held = false ∧ s.twinBusy = false ∧ (s.twin.pair = 0 ∨ s.obj O.TWIN_STATE ≠ 2 ∨ s.twin.peerRole ≠ 3)) ∧
    (∃ (s : State), s.held = false ∧ s.twinBusy = false ∧ s.twin.pair ≠ 0 ∧ s.obj O.TWIN_STATE = 2 ∧ s.twin.peerRole = 3) ∧
    (∃ (s : State), s.held = false ∧ s.twin.handover = false) ∧
    (∃ (s : State), s.held = false ∧ s.twin.handover = true) ∧
    (∃ (s : State) (c : Bool), s.held = false ∧ s.twin.lastSeg = []) ∧
    (∃ (s : State), s.held = false ∧ s.twin.lastSeg ≠ []) ∧
    (∃ (s : State), s.held = false ∧ s.twin.lastSeg ≠ []) :=
  ⟨⟨w, by decide +kernel⟩,
   ⟨(((w.modPower fun x => { x with straps := 1 }).modTwin fun x => { x with acting := true, peerRole := 3, port := 47 }).setObj O.TWIN_STATE 2),
     by decide +kernel⟩,
   ⟨w, by decide +kernel⟩,
   ⟨(((w.modPower fun x => { x with straps := 1 }).setObj O.TWIN_STATE 3).setBlob O.TWIN_EPOCH_RX (Blob.of ([0]))), [0],
     by decide +kernel⟩,
   ⟨(((w.modPower fun x => { x with straps := 1 }).setObj O.TWIN_STATE 3).setBlob O.TWIN_EPOCH_RX (Blob.of (List.replicate 12 0 ++ beBytes 4 (crc32 (List.replicate 12 0))))),
     List.replicate 12 0 ++ beBytes 4 (crc32 (List.replicate 12 0)), by decide +kernel⟩,
   ⟨w, [], by decide +kernel⟩,
   ⟨((w.modPower fun x => { x with straps := 1 }).setObj O.TWIN_STATE 4), [0, 0, 0, 0], by decide +kernel⟩,
   ⟨(((w.modPower fun x => { x with straps := 1 }).modTwin fun x => { x with committed := true }).setObj O.TWIN_STATE 4),
     [0, 0, 0, 1], by decide +kernel⟩,
   ⟨w, by decide +kernel⟩,
   ⟨((tm 60000000).setObj O.TWIN_STATE 3), by decide +kernel⟩,
   ⟨w, by decide +kernel⟩,
   ⟨((w.modTwin fun x => { x with pair := 1, peerRole := 3 }).setObj O.TWIN_STATE 2), by decide +kernel⟩,
   ⟨w, by decide +kernel⟩,
   ⟨(w.modTwin fun x => { x with handover := true }), by decide +kernel⟩,
   ⟨w, false, by decide +kernel⟩,
   ⟨(w.modTwin fun x => { x with lastSeg := [0] }), by decide +kernel⟩,
   ⟨(w.modTwin fun x => { x with lastSeg := [0] }), by decide +kernel⟩⟩

theorem witness_EnginesTrap :
    (∃ (s : State) (e : Fin 12) (v : EngEvent), s.held = false ∧ s.engState e ≠ 1) ∧
    (∃ (s : State) (e : Fin 12) (v : EngEvent), s.held = false ∧ s.engState e = 1) ∧
    (∃ (s : State) (e : Fin 12), s.held = false ∧ s.engState e = 1 ∧ ((s.eng e).mie && (s.eng e).meie && (s.presented e).isSome) =
      false) ∧
    (∃ (s : State) (e : Fin 12) (v : EngEvent), s.held = false ∧ trapCause e v = none) ∧
    (∃ (e : Nat) (a : Word32) (w : Fin 5), w.val ∈ [1, 2, 4]) ∧
    (∃ (s : State) (e : Fin 12) (a : Word32), s.held = false ∧ s.engState e = 1 ∧ e.val < 10) ∧
    (∃ (s : State) (e : Fin 12), s.held = false ∧ s.engState e = 1) :=
  ⟨⟨w, 0, .illegal, by decide +kernel⟩,
   ⟨(w.setObj O.ENG_STATE 1 1), 0, .illegal, by decide +kernel⟩,
   ⟨(w.setObj O.ENG_STATE 1 1), 0, by decide +kernel⟩,
   ⟨w, 0, .fetch 0xFFFF, by decide +kernel⟩,
   ⟨0, 0, 4, by decide +kernel⟩,
   ⟨(w.setObj O.ENG_STATE 1 10), 9, 0, by decide +kernel⟩,
   ⟨(w.setObj O.ENG_STATE 1 1), 0, by decide +kernel⟩⟩

theorem witness_EngineDevicesWork :
    (w.held = false) ∧
    (∃ (s : State) (e : Fin 12) (u : Fin 2) (n : Option Word32) (b : Option Bool) (a : Word32) (v : Word32), s.held = false ∧ s.engState
      e ≠ 1 ∧ s.engState (10 + u) ≠ 1) ∧
    (∃ (s : State) (e : Fin 12) (n : Option Word32) (b : Option Bool), s.held = false ∧ s.engState e = 1) ∧
    (∃ (s : State) (u : Fin 2), s.held = false ∧ s.engState (10 + u) = 1 ∧ (s.eng (10 + u)).userQ = []) ∧
    (∃ (s : State) (u : Fin 2) (q : Nat × Nat) (l : List (Nat × Nat)), s.held = false ∧ s.engState (10 + u) = 1 ∧ (s.eng (10 + u)).userQ
      = q :: l) ∧
    (∃ (s : State) (e : Fin 12), s.held = false ∧ ((s.eng e).hcmpEn && !(s.eng e).hcmpDone && tdue (s.eng e).hcmpNs s.ns) = false) ∧
    (∃ (s : State) (e : Fin 12), s.held = false ∧ (s.wdogOn e = false ∨ (s.eng e).warned = true)) ∧
    (∃ (s : State) (e : Fin 12), s.held = false ∧ (s.wdogOn e = false ∨ (s.eng e).warned = false)) ∧
    (∃ (s : State) (e : Fin 12), s.held = false ∧ s.engState e ≠ 1 ∧ s.engState e ≠ 2) ∧
    (∃ (s : State) (e : Fin 12), s.held = false ∧ s.engState e ≠ 4) ∧
    (∃ (s : State) (e : Fin 12), s.held = false ∧ s.engState e = 4 ∧ e.val < 10) ∧
    (∃ (s : State) (e : Fin 12), s.held = false ∧ s.engState e = 4 ∧ 10 ≤ e.val) ∧
    (∃ (s : State) (w : Nat) (e : Fin 12), s.held = false ∧ e.val < 10) ∧
    (∃ (s : State) (e : Fin 12) (a : Word32) (o : Obj) (i : Nat), s.held = false ∧ s.engState e = 1 ∧ a.toNat = 0x60000000 + i * 4096 +
      o.lo * 16 ∧ i < 65536 ∧ findObj i o.lo = .obj o ∧ o.acc ≠ .wo ∧ o.isBlob = false) ∧
    (∃ (s : State) (e : Fin 12) (a : Word32) (i : Nat) (j : Nat), s.held = false ∧ s.engState e = 1 ∧ i < 65536 ∧ j < 256 ∧ a.toNat =
      0x60000000 + i * 4096 + j * 16 ∧ ((s.readAt i j).1 ≠ 0 ∨ blobAt i j = true)) ∧
    (∃ (s : State) (e : Fin 12) (a : Word32), s.held = false ∧ s.engState e = 1 ∧ a.toNat / 2 ^ 28 = 6 ∧ a.toNat % 16 = 4) ∧
    (∃ (s : State) (e : Fin 12) (a : Word32) (v : Word32), s.held = false ∧ s.engState e = 1 ∧ a.toNat / 2 ^ 28 = 6 ∧ a.toNat % 16 = 4) ∧
    (∃ (s : State) (e : Fin 12) (a : Word32) (v : Word32) (o : Obj), s.held = false ∧ s.engState e = 1 ∧ o ∈ [O.SNAP_MODE, O.LANTERN_EN]
      ∧ a.toNat = 0x60000000 + o.index * 4096 ∧ (s.eng e).winHi = 0 ∧ v.toNat ≤ 1) ∧
    (∃ (s : State) (e : Fin 12) (a : Word32) (v : Word32) (i : Nat) (j : Nat), s.held = false ∧ s.engState e = 1 ∧ i < 65536 ∧ j < 256 ∧
      a.toNat = 0x60000000 + i * 4096 + j * 16 ∧ findObj i j = .noObject) :=
  ⟨rfl,
   ⟨w, 0, 0, none, none, 0, 0, by decide +kernel⟩,
   ⟨(w.setObj O.ENG_STATE 1 1), 0, none, none, by decide +kernel⟩,
   ⟨(w.setObj O.ENG_STATE 1 11), 0, by decide +kernel⟩,
   ⟨((w.setObj O.ENG_STATE 1 11).modEng 10 fun x => { x with userQ := [(1, 2)] }), 0, (1, 2), [], by decide +kernel⟩,
   ⟨w, 0, by decide +kernel⟩,
   ⟨w, 0, by decide +kernel⟩,
   ⟨w, 0, by decide +kernel⟩,
   ⟨w, 0, by decide +kernel⟩,
   ⟨w, 0, by decide +kernel⟩,
   ⟨(w.setObj O.ENG_STATE 4 10), 9, by decide +kernel⟩,
   ⟨(w.setObj O.ENG_STATE 4 11), 10, by decide +kernel⟩,
   ⟨w, 0, 0, by decide +kernel⟩,
   ⟨(w.setObj O.ENG_STATE 1 1), 0, BitVec.ofNat 32 (0x60000000 + O.SNAP_MODE.index * 4096), O.SNAP_MODE, O.SNAP_MODE.index,
     by decide +kernel⟩,
   ⟨(w.setObj O.ENG_STATE 1 1), 0, 0x60001000, 1, 0, by decide +kernel⟩,
   ⟨(w.setObj O.ENG_STATE 1 1), 0, 0x6FFFFFF4, by decide +kernel⟩,
   ⟨(w.setObj O.ENG_STATE 1 1), 0, 0x6FFFFFF4, 0, by decide +kernel⟩,
   ⟨(w.setObj O.ENG_STATE 1 1), 0, BitVec.ofNat 32 (0x60000000 + O.SNAP_MODE.index * 4096), 1, O.SNAP_MODE, by decide +kernel⟩,
   ⟨(w.setObj O.ENG_STATE 1 1), 0, 0x60001000, 0, 1, 0, by decide +kernel⟩⟩

theorem witness_UserImagesRun :
    (w.held = false) ∧
    (∃ (s : State) (u : Fin 2), s.held = false ∧ s.engState (10 + u) ≠ 0 ∧ s.engState (10 + u) ≠ 3) ∧
    (∃ (s : State) (u : Fin 2), s.held = false ∧ (s.engState (10 + u) = 0 ∨ s.engState (10 + u) = 3) ∧ imageValid (s.userImage (10 +
      u)).bytes = false) ∧
    (∃ (s : State) (u : Fin 2), s.held = false ∧ (s.engState (10 + u) = 0 ∨ s.engState (10 + u) = 3) ∧ imageValid (s.userImage (10 +
      u)).bytes = true) ∧
    (∃ (s : State) (u : Fin 2), s.held = false ∧ (s.engState (10 + u) ≠ 3 ∨ (s.eng (10 + u)).loaded = false)) ∧
    (∃ (s : State) (u : Fin 2), s.held = false ∧ s.engState (10 + u) = 3 ∧ (s.eng (10 + u)).loaded = true) ∧
    (∃ (s : State) (u : Fin 2), s.held = false ∧ s.engState (10 + u) ∈ [1, 2, 4]) ∧
    (∃ (s : State) (u : Fin 2), s.held = false ∧ s.engState (10 + u) ∉ [1, 2, 4]) :=
  ⟨rfl,
   ⟨(w.setObj O.ENG_STATE 1 11), 0, by decide +kernel⟩,
   ⟨w, 0, by decide +kernel⟩,
   ⟨uSt, 0, by decide +kernel⟩,
   ⟨w, 0, by decide +kernel⟩,
   ⟨((w.setObj O.ENG_STATE 3 11).modEng 10 fun x => { x with loaded := true }), 0, by decide +kernel⟩,
   ⟨(w.setObj O.ENG_STATE 4 11), 0, by decide +kernel⟩,
   ⟨w, 0, by decide +kernel⟩⟩

theorem witness_ClaimReturnsThePresented :
    (w.held = false) :=
  rfl

theorem witness_CompletionEndsTheActive :
    (w.held = false) :=
  rfl

theorem witness_InterruptsArrive :
    (w.held = false) ∧
    (∃ (s : State) (e : Nat) (n : Nat), s.presented e = some n) ∧
    (∃ (s : State) (e : Fin 12) (w : Word32), s.held = false ∧ s.engState e ≠ 1) ∧
    (∃ (s : State) (v : Word32), s.held = false ∧ v.toNat ≠ 10 ∧ v.toNat ≠ 11) ∧
    (∃ (s : State) (v : Word32), s.held = false ∧ 16 ≤ v.toNat) :=
  ⟨rfl,
   ⟨irqSt, 0, 256, by decide +kernel⟩,
   ⟨w, 0, 0, by decide +kernel⟩,
   ⟨w, 0, by decide +kernel⟩,
   ⟨w, 16, by decide +kernel⟩⟩

theorem witness_CalibrationsArePlanned :
    (w.held = false) ∧
    (∃ (s : State) (i : CalInst), s.held = false ∧ (calExists i.kind.toNat i.inst.toNat = false ∨ i.kind.toNat = 2 ∨ s.obj O.CAL_PERIOD
      = 0 ∨ s.calAuto i.kind.toNat = false ∨ ((s.calRec i.kind.toNat i.inst.toNat).okAt.any fun t => decide (s.obj O.CAL_PERIOD *
      1000000000 ≤ s.upNs - t)) = false)) ∧
    (∃ (s : State) (n : Fin 48), s.held = false ∧ (s.obj O.LANE_EYE_H (n + 1) = 0 ∨ (s.calRec 0 n).state = 2)) ∧
    (∃ (s : State) (i : CalInst) (q : Bool), s.held = false ∧ (calExists i.kind.toNat i.inst.toNat = false ∨ (s.govDefer = true ∧
      i.kind.toNat ≠ 2) ∨ s.calSerial i.kind.toNat i.inst.toNat = true)) ∧
    (∃ (s : State) (i : CalInst) (q : Bool), s.held = false ∧ calExists i.kind.toNat i.inst.toNat = true ∧ (s.govDefer = true →
      i.kind.toNat = 2) ∧ s.calSerial i.kind.toNat i.inst.toNat = false ∧ s.calSpareless i.kind.toNat i.inst.toNat = true ∧ s.elapsed
      (s.calRec i.kind.toNat i.inst.toNat).waitAt (s.obj O.CAL_RETRY_GAP * 1000000) = true) ∧
    (∃ (s : State) (i : CalInst) (q : Bool), s.held = false ∧ calExists i.kind.toNat i.inst.toNat = true ∧ (s.govDefer = true →
      i.kind.toNat = 2) ∧ s.calSerial i.kind.toNat i.inst.toNat = false ∧ s.calSpareless i.kind.toNat i.inst.toNat = false ∧ s.elapsed
      (s.calRec i.kind.toNat i.inst.toNat).waitAt (s.obj O.CAL_RETRY_GAP * 1000000) = true) ∧
    (∃ (s : State) (i : CalInst) (q : Bool), s.held = false ∧ s.status O.CAL_STATUS = 1) ∧
    (∃ (s : State) (j : BitVec 8) (q : Bool), s.held = false ∧ s.status O.CAL_STATUS ≠ 1 ∧ j.toNat < 15) ∧
    (∃ (s : State) (i : CalInst) (q : Bool), s.held = false ∧ s.status O.CAL_STATUS ≠ 1 ∧ i.kind.toNat ≠ 2 ∧ calExists i.kind.toNat
      i.inst.toNat = true) ∧
    (∃ (s : State) (i : CalInst) (b : Bool), s.held = false ∧ calExists i.kind.toNat i.inst.toNat = true ∧ ((s.calRec i.kind.toNat
      i.inst.toNat).state = 2 ∨ ((s.calRec i.kind.toNat i.inst.toNat).state = 1 ∧ (s.calRec i.kind.toNat i.inst.toNat).forced = true))) ∧
    (∃ (s : State) (i : CalInst) (b : Bool), s.held = false ∧ calExists i.kind.toNat i.inst.toNat = true ∧ (s.calRec i.kind.toNat
      i.inst.toNat).state ≠ 2 ∧ ((s.calRec i.kind.toNat i.inst.toNat).state = 1 → (s.calRec i.kind.toNat i.inst.toNat).forced = false)) ∧
    (∃ (s : State) (i : CalInst), s.held = false ∧ s.status O.CAL_STATUS ≠ 1 ∧ calExists i.kind.toNat i.inst.toNat = true) :=
  ⟨rfl,
   ⟨w, ⟨0, 48⟩, by decide +kernel⟩,
   ⟨w, 0, by decide +kernel⟩,
   ⟨w, ⟨0, 48⟩, false, by decide +kernel⟩,
   ⟨({ tm (2 ^ 40) with cal := { w.cal with slicerFail := [(0, 0x3C0)] } }.setObj O.LINK_STATE 7 1), ⟨0, 0⟩, false,
     by decide +kernel⟩,
   ⟨(tm (2 ^ 40)), ⟨5, 0⟩, false, by decide +kernel⟩,
   ⟨(w.setObj O.CAL_STATUS 1), ⟨0, 0⟩, false, by decide +kernel⟩,
   ⟨w, 0, false, by decide +kernel⟩,
   ⟨w, ⟨0, 0⟩, false, by decide +kernel⟩,
   ⟨(calSt 0 0 2), ⟨0, 0⟩, false, by decide +kernel⟩,
   ⟨w, ⟨0, 0⟩, false, by decide +kernel⟩,
   ⟨w, ⟨0, 0⟩, by decide +kernel⟩⟩

theorem witness_CalibrationBoundaries :
    (∃ (s : State) (i : CalInst) (v : CalResult), s.held = false ∧ (calExists i.kind.toNat i.inst.toNat = false ∨ (s.calRec i.kind.toNat
      i.inst.toNat).state ≠ 2)) ∧
    (∃ (s : State) (i : CalInst) (v : CalResult), s.held = false ∧ calExists i.kind.toNat i.inst.toNat = true ∧ (s.calRec i.kind.toNat
      i.inst.toNat).state = 2 ∧ calGrade i.kind.toNat v.figure.toNat v.outOfRange ≤ 2 ∧ v.failed = none) ∧
    (∃ (s : State) (i : CalInst) (v : CalResult), s.held = false ∧ calExists i.kind.toNat i.inst.toNat = true ∧ (s.calRec i.kind.toNat
      i.inst.toNat).state = 2 ∧ 2 < calGrade i.kind.toNat v.figure.toNat v.outOfRange ∧ v.failed = none) ∧
    (∃ (s : State) (j : BitVec 8) (c : Fin 80) (v : CalResult), s.held = false ∧ j.toNat < 18 ∧ (s.calRec 5 j.toNat).state = 2 ∧
      (s.calRec 5 j.toNat).rerun = false ∧ 300 < v.figure.toNat ∧ v.failed = some (.cell c) ∧ bit (Tab.get s.cal.cellFail 0 j.toNat) c =
      false) ∧
    (∃ (s : State) (j : BitVec 8) (b : Fin 10) (v : CalResult), s.held = false ∧ j.toNat < 48 ∧ s.native j.toNat = true ∧ (s.calRec 0
      j.toNat).state = 2 ∧ (s.calRec 0 j.toNat).rerun = false ∧ (60 < v.figure.toNat ∨ v.outOfRange = true) ∧ v.failed = some (.slicer
      b) ∧ bit (Tab.get s.cal.slicerFail 0 j.toNat) b = false) ∧
    (∃ (s : State) (j : BitVec 8) (b : Fin 10) (r : Nat) (k : Nat) (l : List Nat) (v : CalResult), s.held = false ∧ j.toNat < 48 ∧
      s.native j.toNat = false ∧ (s.calRec 0 j.toNat).state = 2 ∧ (s.calRec 0 j.toNat).rerun = false ∧ (60 < v.figure.toNat ∨
      v.outOfRange = true) ∧ v.failed = some (.slicer b) ∧ bit (Tab.get s.cal.slicerFail 0 j.toNat) b = false ∧ (s.roles j.toNat).find?
      (fun r => s.slicerOf j.toNat r == b.val) = some r ∧ r ≠ 3 ∧ ((s.freeSpares j.toNat).filter (· != b.val)) = k :: l) :=
  ⟨⟨w, ⟨0, 0⟩, ⟨0, false, none, 0, 0, 0⟩, by decide +kernel⟩,
   ⟨(calSt 0 0 2), ⟨0, 0⟩, ⟨60, false, none, 0, 0, 0⟩, by decide +kernel⟩,
   ⟨(calSt 0 0 2), ⟨0, 0⟩, ⟨61, false, none, 0, 0, 0⟩, by decide +kernel⟩,
   ⟨(calSt 5 17 2), 17, 79, ⟨301, false, some (.cell 79), 0, 0, 0⟩, by decide +kernel⟩,
   ⟨(calSt 0 47 2), 47, 0, ⟨61, false, some (.slicer 0), 0, 0, 0⟩, by decide +kernel⟩,
   ⟨((calSt 0 47 2).modGroup 7 fun g => { g with mode := 2 }), 47, 0, 0, 6, [7, 8, 9], ⟨61, false, some (.slicer 0), 0, 0, 0⟩,
     by decide +kernel⟩⟩

theorem witness_PowerIsGoverned :
    (w.held = false) ∧
    (∃ (s : State) (l : List Int), s.held = false ∧ l.length = 9 ∧ (∀ x ∈ l, -10000 ≤ x ∧ x < 1100) ∧ s.obj O.GOV_STATE ≠ 2) ∧
    (∃ (s : State) (l : List Int), s.held = false ∧ l.length = 9 ∧ failedSensors l = 0 ∧ (∃ x ∈ l, 1150 ≤ x) ∧ s.obj O.GOV_STATE ≠ 2) ∧
    (∃ (s : State) (l : List Int), s.held = false ∧ l.length = 9 ∧ failedSensors l = 0 ∧ (∀ x ∈ l, x ≤ 1100) ∧ s.obj O.GOV_STATE = 2) ∧
    (∃ (s : State) (l : List Nat), s.held = false ∧ l.length = 7 ∧ l.sum < 2 ^ 32 ∧ s.tj = none) ∧
    (∃ (s : State) (l : List Nat) (j : Int) (pred : Int), s.held = false ∧ l.length = 7 ∧ l.sum < 2 ^ 32 ∧ s.tj = some j ∧ j < 1150 ∧
      s.obj O.GOV_STATE ≤ 1 ∧ pred = j * 100000 + roundDiv ((s.obj O.GOV_THETA : Int) * ((l.sum : Int) * 2 ^ 40 - (s.power.pAvg +
      roundDiv (((l.sum : Int) * 2 ^ 40 - s.power.pAvg) * decay 1 (1000 * s.obj O.GOV_TAU)) (2 ^ 40))) * decay (s.obj O.GOV_HORIZON)
      (1000 * s.obj O.GOV_TAU)) (2 ^ 80) ∧ -(2 ^ 31) ≤ roundDiv pred 100000 ∧ roundDiv pred 100000 < 2 ^ 31) ∧
    (∃ (s : State), s.held = false ∧ (s.obj O.GOV_STATE ≠ 1 ∨ s.power.calm < 1000)) ∧
    (∃ (s : State), s.held = false ∧ s.obj O.GOV_STATE = 1 ∧ 1000 ≤ s.power.calm) :=
  ⟨rfl,
   ⟨w, List.replicate 8 1099 ++ [-10000], by decide +kernel⟩,
   ⟨w, List.replicate 9 1150, by decide +kernel⟩,
   ⟨(w.setObj O.GOV_STATE 2), List.replicate 9 1100, by decide +kernel⟩,
   ⟨(w.modPower fun x => { x with sensorOut := 511 }), [2 ^ 32 - 1, 0, 0, 0, 0, 0, 0], by decide +kernel⟩,
   ⟨w, List.replicate 7 0, 0, 0, by decide +kernel⟩,
   ⟨w, by decide +kernel⟩,
   ⟨((w.modPower fun x => { x with calm := 1000 }).setObj O.GOV_STATE 1), by decide +kernel⟩⟩

theorem witness_HeldPartIgnoresCommands :
    ∃ (c : Instr) (s : State), s.held = true ∧ actsWhileHeld c = false :=
  ⟨.reepoch, heldSt, by decide +kernel⟩

theorem witness_OtherCommandsKeepTheServo :
    (∃ (c : Instr) (s : State) (t : State), mayMoveServo c = false ∧ exec c s = .next t) ∧
    (∃ (s : State) (t : State), s.pending = [] ∧ step s = .next t) :=
  ⟨⟨.timeReqDrop 0, heldSt, heldSt, by exact ⟨rfl, rfl⟩⟩,
   ⟨heldSt, heldSt, by exact ⟨rfl, rfl⟩⟩⟩

theorem witness_StepUsedStaysUntilReepoch :
    ∃ (c : Instr) (s : State) (t : State), exec c s = .next t ∧ s.hearth.stepUsed = true :=
  ⟨.reepoch, heldSt, heldSt, by exact ⟨rfl, rfl⟩⟩

theorem witness_StepKeepsStepRule :
    ∃ s t : State, s.stepRule ∧ step s = .next t :=
  ⟨{ heldSt with hearth := { heldSt.hearth with state := .track } }, _, rfl, rfl⟩

theorem witness_StepKeepsMemoryCanonical :
    ∃ s t : State, s.memoryOk ∧ step s = .next t :=
  ⟨heldSt, _, ⟨rfl, rfl, fun e => ⟨rfl, rfl⟩⟩, rfl⟩

end

end Sys2Proof.Tests
end

section
/-! SUPPORT. Keys of objects, and what a command of another chapter than the Hearth's leaves when its effect has a frame. -/

namespace Sys2Proof.Machine

variable {s : State} {l : List Part} {ks : List Nat}

/-! Keys of objects. -/

/-- A key names its object's index. -/
theorem Obj.key_div (o : Obj) {sub : Nat} (h : sub < 256) : o.key sub / 256 = o.index := by
  unfold Obj.key; omega

/-- Objects of different indices have different keys. -/
theorem Obj.key_ne {o o' : Obj} {j k : Nat} (h : o.index ≠ o'.index) (hj : j < 256) (hk : k < 256) : o.key j ≠ o'.key k := by
  unfold Obj.key; omega

/-- An interrupt event and a FLAG packet touch objects of four indices alone. -/
theorem index_of_mem_wakeKeys :
    ∀ k ∈ wakeKeys, k / 256 ∈ [O.LT_LOST.index, O.OBS_FLAGS.index, O.ENG_STATE.index, O.ENG_SLOT_IDLE.index] := by decide

theorem Obj.key_notMem_wakeKeys {o : Obj} {sub : Nat} (hs : sub < 256)
    (ho : o.index ∉ [O.LT_LOST.index, O.OBS_FLAGS.index, O.ENG_STATE.index, O.ENG_SLOT_IDLE.index]) : o.key sub ∉ wakeKeys :=
  fun h => ho (o.key_div hs ▸ index_of_mem_wakeKeys _ h)

/-- An object outside the reach of raising a flag of another index. -/
theorem Obj.key_notMem_flagKeys {o f : Obj} {sub fsub : Nat} (hs : sub < 256) (hf : fsub < 256) (hi : o.index ≠ f.index)
    (ho : o.index ∉ [O.LT_LOST.index, O.OBS_FLAGS.index, O.ENG_STATE.index, O.ENG_SLOT_IDLE.index]) : o.key sub ∉ flagKeys f fsub :=
  fun h => (List.mem_cons.mp h).elim (Obj.key_ne hi hs hf) (Obj.key_notMem_wakeKeys hs ho)

/-- A command of another chapter than the Hearth's whose effect stays inside a frame without the Hearth. -/
theorem runKeep_of_only {f : State → State} (h : s.held = false) (hf : (f s).only s l ks) (hl : .hearth ∉ l) :
    runKeep s f = .next (f s) := by
  rw [runKeep_next s f h, State.keeping_eq s (hf.1 .hearth hl)]

/-- A command whose effect is a change of one lane. -/
theorem runKeep_modLane {g : State → State} (n : Nat) (f : Lane → Lane) (h : s.held = false) (hg : g s = s.modLane n f) :
    ∃ t, runKeep s g = .next t ∧ t.lane n = f (s.lane n) ∧ (∀ k, k ≠ n → t.lane k = s.lane k) ∧ t.only s [.lanes] [] := by
  have ho : (g s).only s [.lanes] [] := hg ▸ State.only_modLane _ _ (State.only_refl _ _ _) (by decide)
  exact ⟨_, runKeep_of_only h ho (by decide), by simp [hg], fun k hk => by simp [hg, hk], ho⟩

/-- A command without an effect. -/
theorem runKeep_same {g : State → State} (h : s.held = false) (hg : g s = s) : runKeep s g = .next s := by
  rw [runKeep_of_only h (hg.symm ▸ State.only_refl s [] [] : (g s).only s [] []) (by decide), hg]

end Sys2Proof.Machine
end

section
/-! PROOF. Receivers (R11, R124 to R131, R133, R134, R138, R471): update boundaries, the diversity monitor, eye sweeps and the FIFO of
FAR_RETIMED, and O14 from them. -/

namespace Sys2Proof.Machine

variable {s : State}

/-! A lane takes up what waits for its update boundary, and its elements move (R125 to R129). -/

/-- A lane at an update boundary, ADAPT_MODE and a waiting write of RX_EQ taken up (R125, R128). -/
def Lane.takeUp (l : Lane) (mode : Nat) : Lane :=
  { l with mode := mode, eq := l.eqNext.getD l.eq, trained := l.eqNext.getD l.trained, eqNext := none }

/-- The state at lane `n`'s update boundary. -/
def State.takeUp (s : State) (n : Nat) : State := s.modLane n fun l => l.takeUp (s.obj O.ADAPT_MODE (n + 1))

/-- What the update boundary makes of a state is its taking up, then one update of each element but the CTLE. -/
theorem State.adaptUpdate_eq (s : State) (n : Nat) (m : List Int) :
    s.adaptUpdate n m = if !(s.takeUp n).rxReady n || (s.takeUp n).adaptHeld n then s.takeUp n
      else forEach (List.range 13) (fun s i => s.adaptOne n (i + 1) (m.getD i 0)) (s.takeUp n) := rfl

theorem State.takeUp_rxReady (s : State) (n k : Nat) : (s.takeUp n).rxReady k = s.rxReady k := rfl

/-- A lane whose boundary has been taken up behaves as FROZEN by the ADAPT_MODE just taken up. -/
theorem State.takeUp_adaptHeld (s : State) (n : Nat) :
    (s.takeUp n).adaptHeld n =
      (s.obj O.ADAPT_MODE (n + 1) != 0 || (s.lane n).divFrozen || s.govDefer || Tab.get s.cal.lost 0 n != 0) := by
  simp [State.adaptHeld, State.takeUp, Lane.takeUp, State.govDefer]

theorem State.takeUp_only (s : State) (n : Nat) : (s.takeUp n).only s [.lanes] [] :=
  State.only_modLane _ _ (State.only_refl _ _ _) (by decide)

theorem State.takeUp_lane_same (s : State) (n : Nat) : (s.takeUp n).lane n = (s.lane n).takeUp (s.obj O.ADAPT_MODE (n + 1)) := by
  simp [State.takeUp]

/-- Lane `b` is lane `a` with elements among `js` moved by at most one code each. -/
def Lane.movesTo (a b : Lane) (js : List Nat) : Prop :=
  ∃ e, b = { a with eq := e } ∧ (∀ j ∉ js, e.getD j 0 = a.eq.getD j 0) ∧ ∀ j, (e.getD j 0 - a.eq.getD j 0).natAbs ≤ 1

theorem Lane.movesTo_refl (a : Lane) (js : List Nat) : a.movesTo a js := ⟨a.eq, rfl, fun _ _ => rfl, fun _ => by simp⟩

/-- A move of one element, then moves of others. -/
theorem Lane.movesTo_cons {a b c : Lane} {j : Nat} {js : List Nat} (hj : j ∉ js) (h1 : a.movesTo b [j]) (h2 : b.movesTo c js) :
    a.movesTo c (j :: js) := by
  obtain ⟨e, rfl, same1, near1⟩ := h1
  obtain ⟨e', rfl, same2, near2⟩ := h2
  refine ⟨e', rfl, fun k hk => ?_, fun k => ?_⟩
  · rw [List.mem_cons, not_or] at hk
    exact (same2 k hk.2).trans (same1 k (by simpa using hk.1))
  · by_cases hk : k = j
    · subst hk
      exact same2 k hj ▸ near1 k
    · exact same1 k (by simpa using hk) ▸ near2 k

/-- An element in the place of another reads as it stood. -/
theorem getD_set_ne {α : Type} (e : List α) (d v : α) {i j : Nat} (h : j ≠ i) : (e.set i v).getD j d = e.getD j d := by
  simp [List.getD_eq_getElem?_getD, List.getElem?_set_ne (Ne.symm h)]

/-- A write of an element is read back where the list reaches that far. -/
theorem getD_set_same {α : Type} (e : List α) (d v : α) (i : Nat) :
    (e.set i v).getD i d = v ∨ (e.set i v).getD i d = e.getD i d := by
  by_cases h : i < e.length
  · simp [List.getD_eq_getElem?_getD, h]
  · simp [List.set_eq_of_length_le (by omega : e.length ≤ i)]

/-- The clamp to one code is at most one code. -/
theorem natAbs_clampI_one (z : Int) : (clampI 1 z).natAbs ≤ 1 := by
  unfold clampI; omega

/-- One element's update moves that element alone, by at most one code (R125, R127). -/
theorem State.adaptOne_movesTo (s : State) (n i : Nat) (z : Int) : (s.lane n).movesTo ((s.adaptOne n i z).lane n) [i] := by
  have moved : (s.lane n).movesTo { s.lane n with eq := (s.lane n).eq.set i ((s.lane n).eq.getD i 0 + clampI 1 z) } [i] := by
    refine ⟨_, rfl, fun j hj => getD_set_ne _ _ _ (by simpa using hj), fun j => ?_⟩
    by_cases hj : j = i
    · subst hj
      have := natAbs_clampI_one z
      rcases getD_set_same (s.lane n).eq 0 ((s.lane n).eq.getD j 0 + clampI 1 z) j with h | h <;> rw [h] <;> omega
    · rw [getD_set_ne _ _ _ hj]; simp
  unfold State.adaptOne
  dsimp only
  split
  · exact Lane.movesTo_refl _ _
  · split <;> simpa using moved

/-- One element's update touches the lane, and what LANE_ADAPT_LIMIT raises (R127). -/
theorem State.adaptOne_only (s : State) (n i : Nat) (z : Int) :
    (s.adaptOne n i z).only s (.lanes :: flagParts) (flagKeys O.LANE_FLAGS (n + 1)) := by
  have moved (f : Lane → Lane) : (s.modLane n f).only s (.lanes :: flagParts) (flagKeys O.LANE_FLAGS (n + 1)) :=
    State.only_modLane _ _ (State.only_refl _ _ _) (by decide)
  unfold State.adaptOne
  dsimp only
  split
  · exact State.only_refl _ _ _
  · split
    · exact State.only_raise _ _ (moved _) (by decide) (fun _ h => h)
    · exact moved _

/-- The updates of different elements move each of them by at most one code, and no other. -/
theorem State.adaptAll_movesTo (n : Nat) (m : Nat → Int) (is : List Nat) (hn : is.Nodup) (s : State) :
    (s.lane n).movesTo ((forEach is (fun s i => s.adaptOne n (i + 1) (m i)) s).lane n) (is.map (· + 1)) := by
  induction is generalizing s with
  | nil => exact Lane.movesTo_refl _ _
  | cons i is ih =>
    obtain ⟨hi, hn⟩ := List.nodup_cons.mp hn
    exact Lane.movesTo_cons (by simpa using hi) (s.adaptOne_movesTo n (i + 1) (m i)) (ih hn (s.adaptOne n (i + 1) (m i)))

/-- A receiver that is held, or has not passed RX_READY, takes up what waits at its update boundary and does not move. -/
theorem State.adaptUpdate_held (s : State) (n : Nat) (m : List Int)
    (h : s.rxReady n = false ∨ s.obj O.ADAPT_MODE (n + 1) ≠ 0 ∨ (s.lane n).divFrozen = true ∨ s.govDefer = true ∨
      Tab.get s.cal.lost 0 n ≠ 0) : s.adaptUpdate n m = s.takeUp n := by
  rw [State.adaptUpdate_eq, State.takeUp_rxReady, State.takeUp_adaptHeld, if_pos]
  rcases h with h | h | h | h | h <;> simp [h]

/-- A receiver past RX_READY that nothing holds updates each element but the CTLE. -/
theorem State.adaptUpdate_free (s : State) (n : Nat) (m : List Int) (hr : s.rxReady n = true) (hm : s.obj O.ADAPT_MODE (n + 1) = 0)
    (hd : (s.lane n).divFrozen = false) (hg : s.govDefer = false) (hl : Tab.get s.cal.lost 0 n = 0) :
    s.adaptUpdate n m = forEach (List.range 13) (fun s i => s.adaptOne n (i + 1) (m.getD i 0)) (s.takeUp n) := by
  rw [State.adaptUpdate_eq, State.takeUp_rxReady, State.takeUp_adaptHeld, if_neg]
  simp [hr, hm, hd, hg, hl]

/-- No receiver's update leaves its lane and its flags. -/
theorem State.adaptUpdate_only (s : State) (n : Nat) (m : List Int) :
    (s.adaptUpdate n m).only s (.lanes :: flagParts) (flagKeys O.LANE_FLAGS (n + 1)) := by
  have h : (s.takeUp n).only s (.lanes :: flagParts) (flagKeys O.LANE_FLAGS (n + 1)) :=
    State.only_mono (s.takeUp_only n) (by decide) (by simp)
  rw [State.adaptUpdate_eq]
  split
  · exact h
  · exact State.only_forEach _ (fun u i => u.adaptOne_only n (i + 1) (m.getD i 0)) h

/-! The diversity monitor, polarity and writes of RX_EQ change one lane (R11, R126, R128, R133, R134). -/

/-- A lane's monitor after runs of windows of its stream (R126). -/
def Lane.monitorAll (l : Lane) (pam4 : Bool) (runs : List (BitVec 130 × Nat)) : Lane :=
  runs.foldl (fun l r => l.monitor (lowDiversity pam4 r.1.toNat) r.2) l

theorem State.monitor_eq (s : State) (w : Windows) : s.monitor w = s.modLane w.lane (·.monitorAll (s.pam4 w.lane) w.runs) := rfl

/-- Windows of low diversity in a row, 65,536 with those before, freeze adaptation (R126). -/
theorem Lane.monitor_low (l : Lane) {k : Nat} (hk : k ≠ 0) (h : 65536 ≤ l.lowRun + k) :
    l.monitor true k = { l with lowRun := l.lowRun + k, okRun := 0, divFrozen := true } := by
  simp [Lane.monitor, hk, h]

/-- Windows that are not of low diversity, 256 in a row with those before, let adaptation go on (R126). -/
theorem Lane.monitor_ok (l : Lane) {k : Nat} (hk : k ≠ 0) (h : 256 ≤ l.okRun + k) :
    l.monitor false k = { l with lowRun := 0, okRun := l.okRun + k, divFrozen := false } := by
  simp [Lane.monitor, hk, Nat.not_lt.mpr h]

theorem State.writeRxEq_ok (s : State) (n : Nat) (v : Bytes) (h1 : s.falri.session = true) (h2 : s.obj O.ADAPT_MODE (n + 1) = 1)
    (h3 : s.rxEqOk n v = true) :
    s.writeRxEq n v = s.modLane n fun l => { l with eqNext := some ((List.range 14).map fun i => (v.getD i 0).toInt) } := by
  simp [State.writeRxEq, h1, h2, h3]

theorem State.writeRxEq_refused (s : State) (n : Nat) (v : Bytes)
    (h : s.falri.session = false ∨ s.obj O.ADAPT_MODE (n + 1) ≠ 1 ∨ s.rxEqOk n v = false) : s.writeRxEq n v = s := by
  rcases h with h | h | h <;> simp [State.writeRxEq, h]

/-! An eye sweep leaves its figures, and judges a lane that has passed RX_READY (R130, R131, R471). -/

/-- The keys of an eye's figures. -/
def eyeKeys (n : Nat) : List Nat := [keyOf O.LANE_EYE_W (n + 1), keyOf O.LANE_EYE_H (n + 1), keyOf O.LANE_QUALITY (n + 1)]

/-- The quality that an eye sweep of lane `n` finds. -/
def State.eyeQuality (s : State) (n : Nat) (ph th : List EyeRow) : Nat :=
  qualityOf (s.pam4 n) (s.eyeFigures ph th).1 (s.eyeFigures ph th).2

/-- The state with an eye sweep's figures in it. -/
def State.eyeStored (s : State) (n : Nat) (ph th : List EyeRow) : State :=
  ((s.setObj O.LANE_EYE_W (s.eyeFigures ph th).1 (n + 1)).setObj O.LANE_EYE_H (s.eyeFigures ph th).2 (n + 1)).setObj O.LANE_QUALITY
    (s.eyeQuality n ph th) (n + 1)

theorem State.eyeStored_only (s : State) (n : Nat) (ph th : List EyeRow) : (s.eyeStored n ph th).only s [] (eyeKeys n) :=
  State.only_setObj _ (State.only_setObj _ (State.only_setObj _ (State.only_refl _ _ _) (by simp [eyeKeys])) (by simp [eyeKeys]))
    (by simp [eyeKeys])

/-- An object of another index than an eye's figures is none of them. -/
theorem Obj.key_notMem_eyeKeys {o : Obj} {sub n : Nat} (hs : sub < 256) (hn : n < 48)
    (ho : o.index ∉ [O.LANE_EYE_W.index, O.LANE_EYE_H.index, O.LANE_QUALITY.index]) : o.key sub ∉ eyeKeys n := by
  simp only [List.mem_cons, List.not_mem_nil, or_false, not_or] at ho
  obtain ⟨hw, hh, hq⟩ := ho
  simp only [eyeKeys, List.mem_cons, List.not_mem_nil, or_false, not_or]
  exact ⟨Obj.key_ne hw hs (by omega), Obj.key_ne hh hs (by omega), Obj.key_ne hq hs (by omega)⟩

theorem State.eyeStored_obj (s : State) {o : Obj} {j n : Nat} (ph th : List EyeRow) (hj : j < 256) (hn : n < 48)
    (ho : o.index ∉ [O.LANE_EYE_W.index, O.LANE_EYE_H.index, O.LANE_QUALITY.index]) :
    (s.eyeStored n ph th).obj o j = s.obj o j :=
  State.only_obj (s.eyeStored_only n ph th) (Obj.key_notMem_eyeKeys hj hn ho)

theorem State.eyeStored_width (s : State) {n : Nat} (hn : n < 48) (ph th : List EyeRow) :
    (s.eyeStored n ph th).obj O.LANE_EYE_W (n + 1) = (s.eyeFigures ph th).1 % 2 ^ 8 := by
  rw [State.eyeStored, State.obj_setObj_ne _ _ (Obj.key_ne (by decide) (by omega) (by omega)),
    State.obj_setObj_ne _ _ (Obj.key_ne (by decide) (by omega) (by omega)), State.obj_setObj_same]
  rfl

theorem State.eyeStored_height (s : State) {n : Nat} (hn : n < 48) (ph th : List EyeRow) :
    (s.eyeStored n ph th).obj O.LANE_EYE_H (n + 1) = (s.eyeFigures ph th).2 % 2 ^ 16 := by
  rw [State.eyeStored, State.obj_setObj_ne _ _ (Obj.key_ne (by decide) (by omega) (by omega)), State.obj_setObj_same]
  rfl

/-- A quality is at most 255 (R131), so that its object holds it. -/
theorem qualityOf_lt (p : Bool) (w h : Nat) : qualityOf p w h < 2 ^ 8 := by
  exact lt_of_le_of_lt (Nat.min_le_left _ _) (by decide)

theorem State.eyeStored_quality (s : State) (n : Nat) (ph th : List EyeRow) :
    (s.eyeStored n ph th).obj O.LANE_QUALITY (n + 1) = s.eyeQuality n ph th :=
  (State.obj_setObj_same _ _ _ _).trans (Nat.mod_eq_of_lt (qualityOf_lt _ _ _))

/-- A lane with the outcome of a sweep counted (R471). -/
def Lane.judged (l : Lane) (warn floor : Bool) : Lane :=
  { l with lowWarn := if warn then l.lowWarn + 1 else 0, lowFloor := if floor then l.lowFloor + 1 else 0 }

/-- A lane is judged by a quality (R471). -/
def State.judgeQuality (s : State) (n q : Nat) : State :=
  let s := s.modLane n fun l => l.judged (q < s.obj O.LANE_Q_WARN) (q < s.obj O.LANE_Q_FLOOR)
  let s := if 4 ≤ (s.lane n).lowWarn then s.degrade n else s
  if 4 ≤ (s.lane n).lowFloor then s.takeOut n else s

/-- An eye sweep stores its figures, and judges a lane that has passed RX_READY. -/
theorem State.eyeSweep_eq (s : State) (n : Nat) (ph th : List EyeRow) :
    s.eyeSweep n ph th = if !(s.eyeStored n ph th).rxReady n then s.eyeStored n ph th
      else (s.eyeStored n ph th).judgeQuality n (s.eyeQuality n ph th) := rfl

theorem State.eyeStored_rxReady (s : State) {n : Nat} (hn : n < 48) (ph th : List EyeRow) :
    (s.eyeStored n ph th).rxReady n = s.rxReady n := by
  rw [State.rxReady, State.rxReady, State.linkState, State.eyeStored_obj _ _ _ (by omega) hn (by decide)]
  rfl

/-- A sweep below RX_READY leaves its figures alone (log entry 55). -/
theorem State.eyeSweep_below (s : State) {n : Nat} (hn : n < 48) (ph th : List EyeRow) (h : s.rxReady n = false) :
    s.eyeSweep n ph th = s.eyeStored n ph th := by
  rw [State.eyeSweep_eq, State.eyeStored_rxReady s hn, if_pos (by simp [h])]

/-- A sweep of a lane that has passed RX_READY judges it. -/
theorem State.eyeSweep_ready (s : State) {n : Nat} (hn : n < 48) (ph th : List EyeRow) (h : s.rxReady n = true) :
    s.eyeSweep n ph th = (s.eyeStored n ph th).judgeQuality n (s.eyeQuality n ph th) := by
  rw [State.eyeSweep_eq, State.eyeStored_rxReady s hn, if_neg (by simp [h])]

/-- A quality that reaches both bounds begins both counts anew. -/
theorem State.judgeQuality_pass (s : State) (n : Nat) {q : Nat} (hw : s.obj O.LANE_Q_WARN ≤ q) (hf : s.obj O.LANE_Q_FLOOR ≤ q) :
    s.judgeQuality n q = s.modLane n fun l => { l with lowWarn := 0, lowFloor := 0 } := by
  simp [State.judgeQuality, Lane.judged, Nat.not_lt.mpr hw, Nat.not_lt.mpr hf]

/-- A lane stands DEGRADED (R470), and is else as it was. -/
theorem State.degrade_lane (s : State) (n : Nat) : (s.degrade n).lane n = { s.lane n with degraded := true } := by
  unfold State.degrade
  split
  next h => rw [← h]
  next => simp

theorem State.degrade_only (s : State) (n : Nat) :
    (s.degrade n).only s (.lanes :: flagParts) (keyOf O.CAL_FLAGS :: flagKeys O.LANE_FLAGS (n + 1)) := by
  unfold State.degrade
  split
  · exact State.only_refl _ _ _
  · exact State.only_raise _ _ (State.only_raise _ _ (State.only_modLane _ _ (State.only_refl _ _ _) (by decide)) (by decide)
      (by simp +contextual)) (by decide) (by simp +contextual [flagKeys])

/-- A lane that was not DEGRADED raises LANE_FLAGS.DEGRADED and CAL_FLAGS.LANE_DEGRADED (R470). -/
theorem State.degrade_flags (s : State) {n : Nat} (hn : n < 48) (h : (s.lane n).degraded = false) :
    (s.degrade n).obj O.LANE_FLAGS (n + 1) = (s.obj O.LANE_FLAGS (n + 1) ||| 64) % 2 ^ 32 ∧
      (s.degrade n).obj O.CAL_FLAGS = (s.obj O.CAL_FLAGS ||| 64) % 2 ^ 32 := by
  have hs : s.degrade n = ((s.modLane n fun l => { l with degraded := true }).raise O.LANE_FLAGS 6 (n + 1)).raise O.CAL_FLAGS 6 := by
    simp [State.degrade, h]
  constructor
  · rw [hs, State.raise_obj _ _ _ _ (Obj.key_notMem_flagKeys (by omega) (by decide) (by decide) (by decide)),
      State.raise_obj_same _ _ _ _ (Obj.key_notMem_wakeKeys (by omega) (by decide))]
    rfl
  · rw [hs, State.raise_obj_same _ _ _ _ (by decide),
      State.raise_obj _ _ _ _ (Obj.key_notMem_flagKeys (by decide) (by omega) (by decide) (by decide))]
    rfl

/-- The fourth quality in a row below LANE_Q_WARN degrades the lane; as long as none is below LANE_Q_FLOOR it stays in service. -/
theorem State.judgeQuality_fourthWarn (s : State) (n : Nat) {q : Nat} (hw : q < s.obj O.LANE_Q_WARN) (hf : s.obj O.LANE_Q_FLOOR ≤ q)
    (h3 : 3 ≤ (s.lane n).lowWarn) : s.judgeQuality n q = (s.modLane n fun l => l.judged true false).degrade n := by
  simp [State.judgeQuality, hw, Nat.not_lt.mpr hf, State.degrade_lane, Lane.judged, h3]

/-! The FIFO of FAR_RETIMED (R138). -/

/-- What the FIFO of a lane holds after a move. -/
def State.fillAfter (s : State) (m : FifoMove) : Nat := (s.lane m.lane).fill + m.written - m.read

/-- A FIFO that is recentred raises LOOP_SLIP. -/
def State.recentred (s : State) (n f : Nat) : State := (s.modLane n fun l => { l with fill := f }).raise O.LANE_FLAGS 4 (n + 1)

theorem State.loopSlip_eq (s : State) (m : FifoMove) (h3 : s.obj O.LANE_LOOP (m.lane + 1) = 3) (ht : (s.lane m.lane).test = true) :
    s.loopSlip m = if s.fillAfter m < 16 then s.recentred m.lane (s.fillAfter m + 64)
      else if 112 < s.fillAfter m then s.recentred m.lane (s.fillAfter m - 64)
      else s.modLane m.lane fun l => { l with fill := s.fillAfter m } :=
  if_neg (by simp [h3, ht])

/-- A command that recentres the FIFO of a lane. -/
theorem runKeep_recentred {g : State → State} (n : Fin 48) (f : Nat) (h : s.held = false) (hg : g s = s.recentred n f) :
    ∃ t, runKeep s g = .next t ∧ (t.lane n).fill = f ∧
      t.obj O.LANE_FLAGS (n + 1) = (s.obj O.LANE_FLAGS (n + 1) ||| 16) % 2 ^ 32 ∧
      t.only s (.lanes :: flagParts) (flagKeys O.LANE_FLAGS (n + 1)) := by
  have ho : (g s).only s (.lanes :: flagParts) (flagKeys O.LANE_FLAGS (n + 1)) :=
    hg ▸ State.only_raise _ _ (State.only_modLane _ _ (State.only_refl _ _ _) (by decide)) (by decide) (fun _ h => h)
  refine ⟨_, runKeep_of_only h ho (by decide), by simp [hg, State.recentred], ?_, ho⟩
  rw [hg, State.recentred, State.raise_obj_same _ _ _ _ (Obj.key_notMem_wakeKeys (by omega) (by decide))]
  rfl

end Sys2Proof.Machine

open Sys2Proof Sys2Proof.Machine

/-- Settles O14, clause by clause: each command's effect is the lane's change that the lemmas above name, inside their frames. -/
theorem receiversAdapt : Obligations.ReceiversAdapt := by
  unfold Obligations.ReceiversAdapt
  refine ⟨?_, ?_, ?_, ?_, ?_, ?_, ?_, ?_, ?_, ?_, ?_, ?_, ?_, ?_, ?_⟩
  -- An update boundary of a receiver that is held or below RX_READY.
  · intro s n m hh hc
    exact runKeep_modLane n (fun l => l.takeUp (s.obj O.ADAPT_MODE (n + 1))) hh (s.adaptUpdate_held n m hc)
  -- An update boundary of a receiver that adapts.
  · intro s n m hh hr hm hd hg hl
    have hmoves := State.adaptAll_movesTo n (fun i => m.getD i 0) (List.range 13) List.nodup_range (s.takeUp n)
    rw [← State.adaptUpdate_free s n m hr hm hd hg hl, State.takeUp_lane_same] at hmoves
    obtain ⟨e, he, hsame, hnear⟩ := hmoves
    have ho := s.adaptUpdate_only n m
    refine ⟨_, runKeep_of_only hh ho (by decide), ?_, ?_, ?_, ?_, ?_, ho⟩ <;> rw [he]
    · exact hnear
    · exact hsame 0 (by simp)
    · rfl
    · rfl
    · exact hm
  -- Windows of any kind.
  · intro s w hh
    exact runKeep_modLane (g := (·.monitor w)) w.lane _ hh (s.monitor_eq w)
  · intro s w hh
    exact runKeep_modLane (g := (·.monitor w)) w.lane _ hh (s.monitor_eq w)
  -- 65,536 windows of low diversity.
  · intro s n b k hh hlow hk hrun
    obtain ⟨t, ht, hlane, -, ho⟩ := runKeep_modLane (g := (·.monitor ⟨n, [(b, k)]⟩)) n _ hh (s.monitor_eq _)
    refine ⟨t, ht, ?_, ho⟩
    rw [hlane]
    exact (congrArg (Lane.monitor _ · k) hlow).trans (Lane.monitor_low _ hk hrun)
  -- 256 windows that are not.
  · intro s n b k hh hlow hk hrun
    obtain ⟨t, ht, hlane, -, ho⟩ := runKeep_modLane (g := (·.monitor ⟨n, [(b, k)]⟩)) n _ hh (s.monitor_eq _)
    refine ⟨t, ht, ?_, ho⟩
    rw [hlane]
    exact (congrArg (Lane.monitor _ · k) hlow).trans (Lane.monitor_ok _ hk hrun)
  -- An eye sweep that passes.
  · intro s n ph th hh hr hw hf
    have hs := (s.eyeSweep_ready n.isLt ph th hr).trans (State.judgeQuality_pass _ n
      ((s.eyeStored_obj ph th (by decide) n.isLt (by decide)).trans_le hw)
      ((s.eyeStored_obj ph th (by decide) n.isLt (by decide)).trans_le hf))
    have ho : (s.eyeSweep n ph th).only s [.lanes] (eyeKeys n) :=
      hs ▸ State.only_modLane _ _ (State.only_mono (s.eyeStored_only n ph th) (by simp) (fun _ h => h)) (by decide)
    refine ⟨_, runKeep_of_only hh ho (by decide), ?_, ?_, ?_, ?_, ho⟩ <;> rw [hs]
    · exact s.eyeStored_width n.isLt ph th
    · exact s.eyeStored_height n.isLt ph th
    · exact s.eyeStored_quality n ph th
    · rw [State.modLane_lane, if_pos rfl]
      rfl
  -- The fourth eye sweep below LANE_Q_WARN.
  · intro s n ph th hh hr hw hf h3 hd
    have hs := (s.eyeSweep_ready n.isLt ph th hr).trans (State.judgeQuality_fourthWarn _ n
      (hw.trans_eq (s.eyeStored_obj ph th (by decide) n.isLt (by decide)).symm)
      ((s.eyeStored_obj ph th (by decide) n.isLt (by decide)).trans_le hf) h3)
    have ho : (s.eyeSweep n ph th).only s (.lanes :: flagParts)
        (keyOf O.LANE_EYE_W (n + 1) :: keyOf O.LANE_EYE_H (n + 1) :: keyOf O.LANE_QUALITY (n + 1) :: keyOf O.CAL_FLAGS ::
          flagKeys O.LANE_FLAGS (n + 1)) :=
      hs ▸ State.only_trans (State.only_mono (State.degrade_only _ n) (fun _ h => h) (by simp +contextual))
        (State.only_modLane _ _ (State.only_mono (s.eyeStored_only n ph th) (by simp) (by simp [eyeKeys])) (by decide))
    obtain ⟨hlf, hcf⟩ := State.degrade_flags ((s.eyeStored n ph th).modLane n fun l => l.judged true false) n.isLt
      (by rw [State.modLane_lane, if_pos rfl]; exact hd)
    refine ⟨_, runKeep_of_only hh ho (by decide), ?_, ?_, ?_, ?_, ho⟩ <;> rw [hs]
    · rw [State.degrade_lane]
    · rw [State.degrade_lane, State.modLane_lane, if_pos rfl]
      rfl
    · rw [hlf, State.modLane_obj, s.eyeStored_obj ph th (by omega) n.isLt (by decide)]
    · rw [hcf, State.modLane_obj, s.eyeStored_obj ph th (by decide) n.isLt (by decide)]
  -- An eye sweep below RX_READY.
  · intro s n ph th hh hr
    have ho : (s.eyeSweep n ph th).only s [] (eyeKeys n) := s.eyeSweep_below n.isLt ph th hr ▸ s.eyeStored_only n ph th
    exact ⟨_, runKeep_of_only hh ho (by decide), s.eyeSweep_below n.isLt ph th hr ▸ s.eyeStored_quality n ph th, ho⟩
  -- A write of RX_EQ, taken and refused.
  · intro s n v hh h1 h2 h3
    exact runKeep_modLane (g := (·.writeRxEq n v)) n _ hh (s.writeRxEq_ok n v h1 h2 h3)
  · intro s n v hh hc
    exact runKeep_same hh (s.writeRxEq_refused n v hc)
  -- Automatic polarity.
  · intro s n hh h1 h2 h3
    exact runKeep_modLane n (fun l => { l with rxInv := true }) hh (if_pos ⟨h1, h2, h3⟩)
  -- The FIFO of FAR_RETIMED, recentred upward, downward and not at all.
  · intro s m hh h3 ht hlow
    exact runKeep_recentred m.lane _ hh ((s.loopSlip_eq m h3 ht).trans (if_pos hlow))
  · intro s m hh h3 ht hhigh
    have hlow : ¬ s.fillAfter m < 16 := fun h => absurd (hhigh.trans h) (by decide)
    exact runKeep_recentred m.lane _ hh ((s.loopSlip_eq m h3 ht).trans ((if_neg hlow).trans (if_pos hhigh)))
  · intro s m hh h3 ht hlow hhigh
    obtain ⟨t, hx, hlane, -, ho⟩ := runKeep_modLane (g := (·.loopSlip m)) m.lane _ hh
      ((s.loopSlip_eq m h3 ht).trans ((if_neg (Nat.not_lt.mpr hlow)).trans (if_neg (Nat.not_lt.mpr hhigh))))
    exact ⟨t, hx, hlane, ho⟩
end

section
/-! PROOF. O35 fails: an RC counter of an engine in WFI is cleared so that it goes on from 0 (R481, R492), which its stored value does not
show. -/

namespace Sys2Proof.Machine

/-- Engine 0 in WFI since the start, 1,000 HEARTH cycles ago. -/
def sleeper : State := (State.reset.setObj O.ENG_STATE 2 1).modHearth fun h => { h with cycles := 1000 }

/-- The header of a request to DST HERE. -/
def hereHdr : FalriHdr := ⟨0, BitVec.ofNat 16 addrHere, 0, 0, 0, none⟩

/-- A read of engine 0's ENG_SLOT_IDLE. -/
def slotIdleItem : FalriItem := ⟨BitVec.ofNat 16 O.ENG_SLOT_IDLE.index, 1, []⟩

/-- The request that reads engine 0's ENG_SLOT_IDLE. -/
def slotIdleRead : Msg := msgOf hereHdr 1 1 (FalriItem.bytes slotIdleItem)

theorem sleeper_takes : sleeper.takes .chain slotIdleRead := by
  unfold State.takes; decide +kernel

theorem findObj_slotIdleItem : findObj slotIdleItem.index.toNat slotIdleItem.sub.toNat = .obj O.ENG_SLOT_IDLE := by
  decide +kernel

theorem sleeper_idlePending : sleeper.idlePending 0 = 8000 := by decide +kernel

/-- The read over the chain runs, and the object holds the negative of the slots that the engine has idled. -/
theorem sleeper_read :
    exec (.read .chain hereHdr slotIdleItem) sleeper = .next (sleeper.messageIn .chain hereHdr slotIdleRead) ∧
      (sleeper.messageIn .chain hereHdr slotIdleRead).obj O.ENG_SLOT_IDLE 1 = 2 ^ 64 - sleeper.idlePending 0 :=
  ⟨run_next sleeper (·.messageIn .chain hereHdr slotIdleRead) rfl, by decide +kernel⟩

end Sys2Proof.Machine

open Sys2Proof Sys2Proof.Machine

/-- Refutes O35 in its first clause: a READ of ENG_SLOT_IDLE, an RC counter, over the chain. While the engine sleeps in WFI the slots that it
idles are not yet in the object (R492), so that the clear stores their negative and not 0; the object reads 0, its stored value is
2^64 − 8,000. -/
theorem not_falriReadsAndWrites : ¬ Obligations.FalriReadsAndWrites := by
  unfold Obligations.FalriReadsAndWrites
  rintro ⟨hread, -⟩
  obtain ⟨hexec, hobj⟩ := sleeper_read
  obtain ⟨t, ht, -, -, hclear⟩ :=
    hread sleeper .chain hereHdr slotIdleItem O.ENG_SLOT_IDLE sleeper_takes findObj_slotIdleItem (by decide) (by decide +kernel)
  have h0 : t.obj O.ENG_SLOT_IDLE 1 = 0 := hclear rfl rfl (by decide) (by decide)
  rw [← Host.Outcome.next.inj (hexec.symm.trans ht), hobj, sleeper_idlePending] at h0
  exact absurd h0 (by decide)
end

section
/-! PROOF. The Hearth is touched by its own rules alone: what streams, messages, calibrations, timed I/O and counters do leaves it
as it is. -/

namespace Sys2Proof.Machine

variable {s : State}

/-- A loop leaves the Hearth as it is if each round does. -/
theorem State.forEach_hearth {α : Type} {f : State → α → State} (hf : ∀ u x, (f u x).hearth = u.hearth) (xs : List α) (t : State) :
    (forEach xs f t).hearth = t.hearth := by
  unfold forEach
  induction xs generalizing t with
  | nil => rfl
  | cons x xs ih => exact (ih (f t x)).trans (hf t x)

theorem State.ite_hearth {c : Prop} [Decidable c] {a b : State} {h : Hearth} (ha : a.hearth = h) (hb : b.hearth = h) :
    (if c then a else b).hearth = h := by
  split <;> assumption

/-! Streams and the messages that the part sends. -/

@[simp] theorem State.sendBlk_hearth (p n : Nat) (b : Blk) : (s.sendBlk p n b).hearth = s.hearth := by
  unfold State.sendBlk
  cases b with
  | ctl t body => by_cases h : (Blk.ctl t body).plain <;> simp [h]
  | data d => by_cases h : (Blk.data d).plain <;> simp [h]

@[simp] theorem State.interrupt_hearth (p : Nat) : (s.interrupt p).hearth = s.hearth := rfl
@[simp] theorem State.consume_hearth (p q n : Nat) : (s.consume p q n).hearth = s.hearth := rfl
@[simp] theorem State.creditField_hearth (p : Nat) : (s.creditField p).2.hearth = s.hearth := rfl
@[simp] theorem State.idleBlk_hearth (p : Nat) : (s.idleBlk p).2.hearth = s.hearth := rfl

theorem State.frameBlk_hearth {p : Nat} {x : Blk × State} (h : s.frameBlk p = some x) : x.2.hearth = s.hearth := by
  unfold State.frameBlk at h
  repeat' split at h
  all_goals cases h
  all_goals simp
  all_goals split <;> simp

@[simp] theorem State.nextBlk_hearth (p : Nat) : (s.nextBlk p).2.hearth = s.hearth := by
  have hrest : (match s.frameBlk p with | some x => x | none => s.idleBlk p).2.hearth = s.hearth := by
    cases h : s.frameBlk p with
    | none => rfl
    | some x => exact State.frameBlk_hearth h
  unfold State.nextBlk
  dsimp only
  split
  · simp
  · split
    · exact hrest
    · simp
  · exact hrest

@[simp] theorem State.round_hearth (p : Nat) (lv : List (Nat × Nat)) (ns : List Nat) (due : List Blk) :
    (s.round p lv ns due).2.hearth = s.hearth := by
  induction ns generalizing s due with
  | nil => rfl
  | cons n ns ih =>
    unfold State.round
    split
    · simp [ih]
    · cases due <;> simp [ih]

@[simp] theorem State.rounds_hearth (p fuel : Nat) (due : List Blk) : (s.rounds_ p fuel due).hearth = s.hearth := by
  induction fuel generalizing s due with
  | zero => rfl
  | succ n ih =>
    unfold State.rounds_
    split
    · rfl
    · simp [ih]

@[simp] theorem State.stream_hearth (p : Nat) (due : List Blk) : (s.stream p due).hearth = s.hearth := by
  unfold State.stream
  split
  · rfl
  · simp

@[simp] theorem State.sendPort_hearth (p da : Nat) (tag : Option (BitVec 32)) (m : Bytes) : (s.sendPort p da tag m).hearth = s.hearth := by
  unfold State.sendPort
  split
  · split <;> simp
  · simp

@[simp] theorem State.request_hearth (ports : List Nat) (op dst count : Nat) (payload : Bytes) :
    (s.request ports op dst count payload).hearth = s.hearth :=
  State.forEach_hearth (fun _ _ => State.sendPort_hearth _ _ _ _) _ _

@[simp] theorem State.discoverSend_hearth : s.discoverSend.hearth = s.hearth := by
  unfold State.discoverSend
  split <;> simp

@[simp] theorem State.hbSend_hearth : s.hbSend.hearth = s.hearth := by
  unfold State.hbSend
  dsimp only
  repeat' split
  all_goals simp

@[simp] theorem State.becomeActive_hearth : s.becomeActive.hearth = s.hearth := rfl

@[simp] theorem State.epochFinish_hearth : s.epochFinish.hearth = s.hearth := by
  unfold State.epochFinish
  split <;> simp

/-! Calibrations. -/

@[simp] theorem State.calTrigger_hearth (k i : Nat) : (s.calTrigger k i).hearth = s.hearth := rfl
@[simp] theorem State.calRecord_hearth (k i c : Nat) : (s.calRecord k i c).hearth = s.hearth := by
  simp [State.calRecord]
@[simp] theorem State.calEnd_hearth (k i st r : Nat) : (s.calEnd k i st r).hearth = s.hearth := by
  unfold State.calEnd
  split <;> simp
@[simp] theorem State.calPrecond_hearth (k i c : Nat) (f r : Bool) : (s.calPrecond k i c f r).hearth = s.hearth := by
  unfold State.calPrecond
  dsimp only
  repeat' split
  all_goals simp
@[simp] theorem State.calViolate_hearth (k i c : Nat) : (s.calViolate k i c).hearth = s.hearth := by
  unfold State.calViolate
  dsimp only
  split <;> simp
@[simp] theorem State.calEdge_hearth (c : Nat) : (s.calEdge c).hearth = s.hearth := by
  simp [State.calEdge]

/-! Timed I/O, counters and snapshots. -/

@[simp] theorem State.genEnd_hearth (t st : Nat) : (s.genEnd t st).hearth = s.hearth := by
  simp [State.genEnd]

@[simp] theorem State.tioStepped_hearth (fwd : Bool) : (s.tioStepped fwd).hearth = s.hearth := by
  refine State.forEach_hearth (fun u t => ?_) _ _
  dsimp only
  repeat' split
  all_goals simp

@[simp] theorem State.capture_hearth (c : Nat) (t : Time56) (r : Bool) : (s.capture c t r).hearth = s.hearth := by
  unfold State.capture
  dsimp only
  repeat' split
  all_goals simp

@[simp] theorem State.counterClear_hearth (o : Obj) (k : Nat) : (s.counterClear o k).hearth = s.hearth := by
  simp [State.counterClear]

@[simp] theorem State.clearCounters_hearth : s.clearCounters.hearth = s.hearth :=
  State.forEach_hearth (fun _ _ => State.forEach_hearth (fun _ _ => State.counterClear_hearth _ _) _ _) _ _

@[simp] theorem State.takeSnap_hearth (src tag : Nat) : (s.takeSnap src tag).hearth = s.hearth := by
  have h1 : (if src = 1 then s.modSnap fun q => { q with armed := false } else s).hearth = s.hearth := by split <;> rfl
  unfold State.takeSnap
  dsimp only
  generalize (if src = 1 then s.modSnap fun q => { q with armed := false } else s) = u at h1 ⊢
  rw [← h1]
  repeat' split
  all_goals simp

@[simp] theorem State.snapStepped_hearth : s.snapStepped.hearth = s.hearth := by
  unfold State.snapStepped
  split <;> simp

end Sys2Proof.Machine
end

section
/-! PROOF. The Hearth through the exchanges of time, the servo's bookkeeping and first light (R15 to R40, R512), and the part of it that
the rule of the single step looks at. -/

namespace Sys2Proof.Machine

variable {s t : State}

/-! Exchanges and PTP: nothing of them touches the Hearth until θ reaches the servo. -/

@[simp] theorem State.sampled_hearth (n : Nat) (codes : List PhaseRun) : (s.sampled n codes).hearth = s.hearth := rfl

@[simp] theorem State.takeExchange_hearth (p : Nat) (d θ : Int) : (s.takeExchange p d θ).hearth = s.hearth := by
  unfold State.takeExchange
  exact State.ite_hearth (by simp) (by simp)

@[simp] theorem State.settleRoute_hearth (p : Nat) : (s.settleRoute p).hearth = s.hearth := by
  simp [State.settleRoute]

@[simp] theorem State.dropCand_hearth (p : Nat) : (s.dropCand p).hearth = s.hearth := by
  unfold State.dropCand
  dsimp only
  repeat' split
  all_goals simp

@[simp] theorem State.ptpMaster_hearth (p m : Nat) : (s.ptpMaster p m).hearth = s.hearth := by
  unfold State.ptpMaster
  dsimp only
  split <;> simp

@[simp] theorem State.ptpAnnounced_hearth (p : Nat) (m : PtpMsg) : (s.ptpAnnounced p m).hearth = s.hearth := by
  unfold State.ptpAnnounced
  repeat' split
  all_goals simp

@[simp] theorem State.ptpT1_hearth (p o : Nat) (c : Int) (a : Time56) : (s.ptpT1 p o c a).hearth = s.hearth := by
  simp [State.ptpT1]

@[simp] theorem State.ptpEmit_hearth (p k : Nat) (f : List Nat) : (s.ptpEmit p k f).hearth = s.hearth := rfl

/-! The servo's own bookkeeping -/

@[simp] theorem State.noteBound_hearth : s.noteBound.hearth = s.hearth := rfl

@[simp] theorem State.markLost_hearth (q : Nat) : (s.markLost q).hearth = s.hearth := by
  unfold State.markLost
  dsimp only
  repeat' split
  all_goals simp

@[simp] theorem State.reselectAlt_hearth : s.reselectAlt.hearth = s.hearth := by
  simp [State.reselectAlt]

@[simp] theorem State.updateBound_hearth : s.updateBound.hearth = s.hearth := by
  simp [State.updateBound]

@[simp] theorem State.takeOffset_hearth : s.takeOffset.hearth = s.hearth := by
  unfold State.takeOffset
  dsimp only
  repeat' split
  all_goals simp

@[simp] theorem State.steer_hearth (x : Int) : (s.steer x).hearth = s.hearth := by
  simp [State.steer]

@[simp] theorem State.watchSlope_hearth (x : Option Int) : (s.watchSlope x).hearth = s.hearth := by
  unfold State.watchSlope
  repeat' split
  all_goals simp

@[simp] theorem State.loopRun_hearth (x : Option Int) : (s.loopRun x).hearth = s.hearth := by
  unfold State.loopRun
  dsimp only
  split <;> simp

@[simp] theorem State.qualStart_hearth (θ : Int) : (s.qualStart θ).hearth = s.hearth := rfl

@[simp] theorem State.qualStep_hearth (θ : Int) : (s.qualStep θ).hearth = s.hearth := by
  unfold State.qualStep
  dsimp only
  split <;> simp

@[simp] theorem State.stepSums_hearth (d : Int) : (s.stepSums d).hearth = s.hearth := rfl
@[simp] theorem State.setExtCand_hearth (l : List Int) : (s.setExtCand l).hearth = s.hearth := rfl

@[simp] theorem State.timePacket_hearth : s.timePacket.hearth = s.hearth := by
  simp [State.timePacket]

/-! First light -/

@[simp] theorem State.twinBoot_hearth : s.twinBoot.hearth = s.hearth := by
  unfold State.twinBoot
  dsimp only
  split <;> simp

@[simp] theorem State.bootSpares_hearth (n : Nat) : (s.bootSpares n).hearth = s.hearth := by
  refine State.forEach_hearth (fun u r => ?_) _ _
  repeat' split
  all_goals simp

@[simp] theorem State.calBoot_hearth : s.calBoot.hearth = s.hearth := by
  unfold State.calBoot
  dsimp only
  refine (State.forEach_hearth (fun u i => ?_) _ _).trans ?_
  · split <;> simp
  · repeat' split
    · simp
    · rfl
    · refine (State.forEach_hearth (fun u c => ?_) _ _).trans (State.forEach_hearth (fun u n => ?_) _ _)
      · split <;> simp
      · simp

@[simp] theorem State.caravanBoot_hearth : s.caravanBoot.hearth = s.hearth := by
  unfold State.caravanBoot
  dsimp only
  repeat' split
  all_goals simp

@[simp] theorem State.userLoad_hearth (e : Nat) : (s.userLoad e).hearth = s.hearth := by
  unfold State.userLoad
  dsimp only
  repeat' split
  all_goals simp [State.userStatus, State.loadImage, State.setEngState]

@[simp] theorem State.userStart_hearth (e : Nat) : (s.userStart e).hearth = s.hearth := by
  unfold State.userStart
  split <;> simp [State.userStatus, State.startEngine, State.setEngState]

@[simp] theorem State.userBoot_hearth (e : Nat) : (s.userBoot e).hearth = s.hearth := by
  unfold State.userBoot
  split <;> simp

theorem State.hearthStart_hearth : s.hearthStart.hearth = { Dflt.hearth with state := .free, running := true } := by
  simp [State.hearthStart]

theorem State.boot_hearth (ms : Nat) (hb : s.power.booted = false) (hp : s.pllState 0 = 2) :
    (s.boot ms).hearth = { Dflt.hearth with state := .free, running := true } ∧ (s.boot ms).power.booted = true := by
  unfold State.boot
  rw [if_neg (by simp [hb, hp])]
  constructor
  · simp [State.hearthStart_hearth]
  · simp

/-! What the rule of the single step looks at, through the counter and the exchanges. -/

/-- What the rule of the single step (R29, R35) looks at. -/
def Hearth.mark (h : Hearth) : Servo × Bool × Bool := (h.state, h.stepUsed, h.fromAlign)

theorem State.mark_iff : t.hearth.mark = s.hearth.mark ↔
    t.hearth.state = s.hearth.state ∧ t.hearth.stepUsed = s.hearth.stepUsed ∧ t.hearth.fromAlign = s.hearth.fromAlign := by
  simp [Hearth.mark]

@[simp] theorem Hearth.keepServo_mark (h h' : Hearth) : (h.keepServo h').mark = h.mark := rfl

theorem State.setCount_mark (v : Int) : (s.setCount v).hearth.mark = s.hearth.mark := by
  unfold State.setCount
  dsimp only
  repeat' split
  all_goals simp [Hearth.mark]

theorem State.f0Run_mark (k : Nat) : (s.f0Run k).hearth.mark = s.hearth.mark := by
  unfold State.f0Run
  dsimp only
  split <;> simp [Hearth.mark]

@[simp] theorem State.hearthRun_mark (k : Nat) : (s.hearthRun k).hearth.mark = s.hearth.mark := by
  unfold State.hearthRun
  dsimp only
  split
  · rfl
  · rw [State.setCount_mark, State.f0Run_mark]; rfl

@[simp] theorem State.commitShare_mark : s.commitShare.hearth.mark = s.hearth.mark := by
  unfold State.commitShare
  dsimp only
  rw [State.setCount_mark, State.f0Run_mark]; rfl

@[simp] theorem State.slewBy_mark (θ : Int) : (s.slewBy θ).hearth.mark = s.hearth.mark := rfl
@[simp] theorem State.stopSlew_mark : s.stopSlew.hearth.mark = s.hearth.mark := by
  simp [State.stopSlew, Hearth.mark]

@[simp] theorem State.routeChange_mark (p : Nat) (d b : Int) (r : Bool) : (s.routeChange p d b r).hearth.mark = s.hearth.mark := by
  unfold State.routeChange
  dsimp only
  repeat' split
  all_goals simp

@[simp] theorem State.judgeReturn_mark (p : Nat) (m : Int) : (s.judgeReturn p m).hearth.mark = s.hearth.mark := by
  unfold State.judgeReturn
  dsimp only
  repeat' split
  all_goals simp

@[simp] theorem State.firstMeasure_mark (p : Nat) (d θ : Int) : (s.firstMeasure p d θ).hearth.mark = s.hearth.mark := by
  unfold State.firstMeasure
  dsimp only
  split
  · simp
  · rw [State.judgeReturn_mark, State.forEach_hearth fun _ _ => State.takeExchange_hearth _ _ _]; simp

@[simp] theorem State.confirmRoute_mark (p : Nat) (d θ : Int) : (s.confirmRoute p d θ).hearth.mark = s.hearth.mark := by
  simp [State.confirmRoute]

@[simp] theorem State.calMoved_mark (m : Int) : (s.calMoved m).hearth.mark = s.hearth.mark := by
  unfold State.calMoved
  dsimp only
  repeat' split
  all_goals simp [Hearth.mark]

@[simp] theorem State.takeAsym_mark (p : Nat) : (s.takeAsym p).hearth.mark = s.hearth.mark := by
  unfold State.takeAsym
  dsimp only
  repeat' split
  all_goals simp

theorem State.forEach_mark {α : Type} {f : State → α → State} (hf : ∀ u x, (f u x).hearth.mark = u.hearth.mark) (xs : List α)
    (t : State) :
    (forEach xs f t).hearth.mark = t.hearth.mark := by
  unfold forEach
  induction xs generalizing t with
  | nil => rfl
  | cons x xs ih => exact (ih (f t x)).trans (hf t x)

end Sys2Proof.Machine
end

section
/-! PROOF. The rule of the single step (R29, R35) through the servo and the commands of the Hearth. -/

namespace Sys2Proof.Machine

variable {s t : State}

/-- The rule of the single step, case by case: the step has been used, or the servo has not yet left ALIGN, or R28 has refused the
step. -/
def State.oneStep (s : State) : Prop :=
  s.hearth.stepUsed = true ∨ s.hearth.state ∈ [.off, .free, .acquire, .align] ∨ (s.hearth.state = .refused ∧ s.hearth.fromAlign = true)

theorem State.oneStep_iff : s.oneStep ↔ s.stepRule := by
  unfold State.oneStep State.stepRule
  cases h : s.hearth.state <;> simp [or_comm]

theorem State.oneStep_of_mark (h : t.hearth.mark = s.hearth.mark) (hs : s.oneStep) : t.oneStep := by
  obtain ⟨h1, h2, h3⟩ := State.mark_iff.mp h
  unfold State.oneStep at hs ⊢
  rwa [h1, h2, h3]

theorem State.oneStep_ite {c : Prop} [Decidable c] (hs : s.oneStep) (ht : t.oneStep) : (if c then s else t).oneStep := by
  split <;> assumption

theorem State.oneStep_of_used (h : s.hearth.stepUsed = true) : s.oneStep := .inl h

theorem State.oneStep_of_early (h : s.hearth.state ∈ [.off, .free, .acquire, .align]) : s.oneStep :=
  .inr (.inl h)

theorem State.oneStep_of_refused (h : s.hearth.state = .refused) (hf : s.hearth.fromAlign = true) : s.oneStep :=
  .inr (.inr ⟨h, hf⟩)

theorem State.stepUsed_of_oneStep (h : s.oneStep) (he : s.hearth.state ∉ [.off, .free, .acquire, .align])
    (hr : s.hearth.state = .refused → s.hearth.fromAlign = false) : s.hearth.stepUsed = true := by
  obtain hu | hs | ⟨hs, hf⟩ := h
  · exact hu
  · exact absurd hs he
  · simp [hr hs] at hf

theorem State.stepUsed_of_state (h : s.oneStep) (hs : s.hearth.state ∈ [.track, .holdover, .qualify]) : s.hearth.stepUsed = true := by
  refine State.stepUsed_of_oneStep h ?_ ?_ <;> revert hs <;> cases s.hearth.state <;> simp

@[simp] theorem State.toFree_state : s.toFree.hearth.state = .free := rfl
@[simp] theorem State.reepoch_state : s.reepoch.hearth.state = .free := by
  simp [State.reepoch, State.stopSlew]

theorem State.oneStep_toFree : s.toFree.oneStep := State.oneStep_of_early (by simp)
theorem State.oneStep_reepoch : s.reepoch.oneStep := State.oneStep_of_early (by simp)

@[simp] theorem State.enterTrack_hearth_stepUsed (θ : Int) : (s.enterTrack θ).hearth.stepUsed = s.hearth.stepUsed := by
  unfold State.enterTrack
  dsimp only
  repeat' split
  all_goals simp [State.slewBy, State.setServo]

@[simp] theorem State.enterHoldover_hearth_stepUsed : s.enterHoldover.hearth.stepUsed = s.hearth.stepUsed := by
  simp [State.enterHoldover, State.setServo]

@[simp] theorem State.switchTo_mark (q : Nat) : (s.switchTo q).hearth.mark = s.hearth.mark := by
  simp [State.switchTo]

@[simp] theorem State.acceptDone_mark : s.acceptDone.hearth.mark = s.hearth.mark := by
  unfold State.acceptDone
  split <;> simp [Hearth.mark]

@[simp] theorem State.setServo_stepUsed (x : Servo) : (s.setServo x).hearth.stepUsed = s.hearth.stepUsed := rfl
@[simp] theorem State.setServo_state (x : Servo) : (s.setServo x).hearth.state = x := rfl
@[simp] theorem State.stopSlew_stepUsed : s.stopSlew.hearth.stepUsed = s.hearth.stepUsed := by
  simp [State.stopSlew]
@[simp] theorem State.noteBound_stepUsed : s.noteBound.hearth.stepUsed = s.hearth.stepUsed := by
  simp

theorem State.oneStep_computeStep (h : s.hearth.state = .align) : s.computeStep.oneStep := by
  unfold State.computeStep
  dsimp only
  split
  · refine State.oneStep_of_refused ?_ ?_ <;> simp
  · exact State.oneStep_of_early (by simp [h])

theorem State.oneStep_shareDone (h : s.oneStep) : s.shareDone.oneStep := by
  unfold State.shareDone
  dsimp only
  have hm : (s.modHearth fun h => { h with phase := .none }).oneStep := State.oneStep_of_mark (by rfl) h
  split
  · exact h
  · split
    · exact hm
    · next ha =>
      have ha : s.hearth.state = .align := by simpa using ha
      split
      · exact State.oneStep_computeStep ha
      · next hu =>
        have hu : s.hearth.stepUsed = true := by simpa using hu
        split <;> exact State.oneStep_of_used (by simp [hu])

theorem State.oneStep_conditioner (h : s.oneStep) : s.conditioner.oneStep := by
  unfold State.conditioner
  split
  · exact h
  · refine State.oneStep_shareDone (State.oneStep_of_mark (State.acceptDone_mark.trans ?_) h)
    simp [State.startInterval, State.endInterval, Hearth.mark]

theorem State.oneStep_stepCommit (h : s.oneStep) : s.stepCommit.oneStep := by
  unfold State.stepCommit
  dsimp only
  split
  · exact h
  · refine State.oneStep_shareDone (State.oneStep_of_used ?_)
    repeat' split
    all_goals simp

theorem State.oneStep_acquired (h : s.oneStep) : s.acquired.oneStep := by
  unfold State.acquired
  split
  · exact h
  · split
    · exact State.oneStep_of_early (by simp)
    · exact State.oneStep_computeStep rfl

theorem State.oneStep_switchWaiting (h : s.oneStep) : s.switchWaiting.oneStep := by
  unfold State.switchWaiting
  split
  · exact h
  next ht =>
  have hu := State.stepUsed_of_state h (by simp [not_not.mp ht])
  dsimp only
  repeat' split
  · exact State.oneStep_of_mark (by simp) h
  · exact State.oneStep_of_used (by simp [hu])
  · exact h
  · exact State.oneStep_of_mark (by simp) h
  · exact State.oneStep_of_mark (by simp) h
  · exact h

theorem State.oneStep_select (h : s.oneStep) : s.select.oneStep := by
  unfold State.select
  dsimp only
  generalize hu : State.reselectAlt _ = u
  have hm : u.hearth.mark = s.hearth.mark := by
    rw [← hu, State.reselectAlt_hearth]
    split <;> simp
  obtain ⟨hst, hsu, -⟩ := State.mark_iff.mp hm
  split
  · exact State.oneStep_of_mark hm h
  · split
    · exact State.oneStep_of_early (by simp)
    · split
      · next hh =>
        have hused := State.stepUsed_of_state h (by simp [hh.1])
        refine State.oneStep_of_used ?_
        split <;> simp [hsu, hused]
      · exact State.oneStep_of_mark hm h

theorem State.oneStep_servoRun (h : s.oneStep) : s.servoRun.oneStep := by
  unfold State.servoRun
  dsimp only
  generalize hu : State.modServo _ _ = u
  have hm : u.hearth.mark = s.hearth.mark := by
    rw [← hu, State.modServo_hearth]
    split <;> simp
  exact State.oneStep_select (State.oneStep_of_mark (s := u.switchWaiting) (by simp)
    (State.oneStep_switchWaiting (State.oneStep_of_mark hm h)))

theorem State.oneStep_loseSource (h : s.oneStep) (alt : Nat) (f : Bool) : (s.loseSource alt f).oneStep := by
  unfold State.loseSource
  split
  case h_1 => exact State.oneStep_toFree
  case h_2 =>
    split
    · next hu => exact State.oneStep_of_used hu
    · exact State.oneStep_toFree
  case h_3 ht =>
    have hu := State.stepUsed_of_state h (by simp [ht])
    split <;> exact State.oneStep_of_used (by simp [hu])
  case h_4 ht => exact State.oneStep_of_used (by simp [State.stepUsed_of_state h (by simp [ht])])
  case h_5 ht => exact State.oneStep_of_used (by simp [State.stepUsed_of_state h (by simp [ht])])
  case h_6 ht =>
    split
    · exact State.oneStep_of_early (by simp [State.stopSlew])
    · next hf => exact State.oneStep_of_used (by simp [State.stepUsed_of_oneStep h (by simp [ht]) fun _ => by simpa using hf])
  case h_7 => exact h

theorem State.oneStep_sourceLost (h : s.oneStep) : s.sourceLost.oneStep := by
  unfold State.sourceLost
  dsimp only
  split
  · exact h
  · generalize hu : State.setObj _ _ _ _ = u
    have hm : u.hearth.mark = s.hearth.mark := by
      rw [← hu, State.setObj_hearth, State.markLost_hearth]
      split <;> simp
    exact State.oneStep_of_mark (by rw [State.reselectAlt_hearth]) (State.oneStep_loseSource (State.oneStep_of_mark hm h) _ _)

theorem State.oneStep_policyWritten (h : s.oneStep) : s.policyWritten.oneStep := by
  unfold State.policyWritten
  split
  · exact State.oneStep_reepoch
  · exact h

/-- A return beyond JUMP_LIMIT leaves QUALIFY for HOLDOVER, or for FREE by the policy REEPOCH (R37). -/
theorem State.oneStep_refJumped (θ : Int) (hu : s.hearth.stepUsed = true) : (s.refJumped θ).oneStep := by
  unfold State.refJumped
  dsimp only
  split
  · exact State.oneStep_reepoch
  · refine State.oneStep_of_used ?_
    split <;> simp [hu]

theorem State.oneStep_masterJump (hu : s.hearth.stepUsed = true) : s.masterJump.oneStep :=
  State.oneStep_of_used (by simp [State.masterJump, hu])

theorem State.oneStep_servoTheta (h : s.oneStep) (θ : Int) (stepped beyond : Bool) : (s.servoTheta θ stepped beyond).oneStep := by
  unfold State.servoTheta
  dsimp only
  split
  case h_1 ht =>
    have hu := State.stepUsed_of_state h (by simp [ht])
    repeat' split
    · exact State.oneStep_of_mark (s := s.masterJump) (by simp) (State.oneStep_masterJump hu)
    all_goals exact State.oneStep_of_mark (by simp) h
  case h_2 ht =>
    have hu := State.stepUsed_of_state h (by simp [ht])
    split
    · exact State.oneStep_refJumped _ (by simp [hu])
    · exact State.oneStep_of_mark (by simp) h
  case h_3 =>
    repeat' split
    all_goals exact State.oneStep_of_mark (by simp) h
  case h_4 =>
    repeat' split
    case isFalse.isTrue.isFalse => exact State.oneStep_policyWritten (State.oneStep_of_mark (by simp) h)
    all_goals exact State.oneStep_of_mark (by simp) h
  case h_5 => exact State.oneStep_of_mark (by simp) h

theorem State.oneStep_qualShort (h : s.oneStep) : s.qualShort.oneStep := by
  unfold State.qualShort
  split
  · exact h
  · split
    · next hq =>
      have hu : s.hearth.stepUsed = true := by
        obtain hq | ⟨hr, hf⟩ := hq
        · exact State.stepUsed_of_state h (by simp [hq])
        · exact State.stepUsed_of_oneStep h (by simp [hr]) fun _ => by simpa using hf
      split
      · exact State.oneStep_of_used (by simp [hu])
      · exact h
    · exact h

theorem State.oneStep_qualLong (h : s.oneStep) : s.qualLong.oneStep := by
  unfold State.qualLong
  split
  · next hq => exact State.oneStep_of_used (by simp [State.stepUsed_of_state h (by simp [hq.2.1])])
  · exact h

theorem State.oneStep_cmdReepoch (h : s.oneStep) : s.cmdReepoch.oneStep := by
  unfold State.cmdReepoch
  repeat' split
  · exact h
  · exact State.oneStep_of_mark (by simp) h
  · exact State.oneStep_of_mark (s := s.reepoch) (by simp) State.oneStep_reepoch

theorem State.oneStep_abortAcq (h : s.oneStep) (c : Bool) : (s.abortAcq c).oneStep := by
  unfold State.abortAcq
  repeat' split
  · exact h
  · exact State.oneStep_of_mark (s := s.toFree) (by simp) State.oneStep_toFree
  · exact State.oneStep_of_mark (s := s.stepCommit) (by simp [State.abortLate]) (State.oneStep_stepCommit h)
  · exact State.oneStep_of_mark (by simp) h
  · exact State.oneStep_of_mark (s := s.toFree) (by simp) State.oneStep_toFree
  · exact State.oneStep_of_mark (by simp) h

theorem State.oneStep_accept (h : s.oneStep) : s.accept.oneStep := by
  unfold State.accept
  dsimp only
  split
  · exact h
  split
  · exact State.oneStep_of_mark (by simp) h
  next hok =>
  have hu : s.hearth.stepUsed = true := by
    simp only [Bool.not_eq_true', Bool.not_eq_false, Bool.or_eq_true, Bool.and_eq_true, decide_eq_true_eq] at hok
    obtain ⟨hr, hf⟩ | ⟨⟨hh, -⟩, -⟩ := hok
    · exact State.stepUsed_of_oneStep h (by simp [hr]) fun _ => by simpa using hf
    · exact State.stepUsed_of_state h (by simp [hh])
  split <;> exact State.oneStep_of_used (by simp [hu])

end Sys2Proof.Machine
end

section
/-! PROOF. The rule of the single step (R29, R35) through the exchanges of time, the resets, first light, the dictionary and its
messages. -/

namespace Sys2Proof.Machine

variable {s t : State}

/-! Exchanges, PPS_IN and PTP -/

theorem State.oneStep_passTheta (h : s.oneStep) (p : Nat) (θ : Int) (stepped beyond : Bool) :
    (s.passTheta p θ stepped beyond).oneStep := by
  unfold State.passTheta
  split
  · exact State.oneStep_servoTheta h _ _ _
  · exact h

theorem State.oneStep_judgeFresh (h : s.oneStep) (p : Nat) (d θ : Int) : (s.judgeFresh p d θ).oneStep := by
  unfold State.judgeFresh
  dsimp only
  have hx : (s.takeExchange p d θ).oneStep := State.oneStep_of_mark (by simp) h
  repeat' split
  · exact State.oneStep_of_mark (by simp) h
  · exact State.oneStep_of_mark (by simp) h
  · exact State.oneStep_passTheta hx _ _ _ _
  · exact State.oneStep_of_mark (by simp) h
  · exact State.oneStep_passTheta hx _ _ _ _

theorem State.oneStep_confirmTheta (h : s.oneStep) (p : Nat) (d θ r : Int) : (s.confirmTheta p d θ r).oneStep := by
  refine State.oneStep_passTheta (State.oneStep_of_mark ?_ h) _ _ _ _
  split <;> simp

theorem State.oneStep_classify (h : s.oneStep) (p : Nat) (d θ : Int) : (s.classify p d θ).oneStep := by
  unfold State.classify
  split
  · exact State.oneStep_judgeFresh h _ _ _
  · refine State.oneStep_ite (State.oneStep_judgeFresh (State.oneStep_of_mark (by simp) h) _ _ _) ?_
    refine State.oneStep_ite (State.oneStep_of_mark (by simp) h) ?_
    exact State.oneStep_ite (State.oneStep_confirmTheta h _ _ _ _) (State.oneStep_of_mark (by simp) h)

theorem State.oneStep_exchange (h : s.oneStep) (p n : Nat) (fwd back : Int) : (s.exchange p n fwd back).oneStep := by
  unfold State.exchange
  dsimp only
  refine State.oneStep_select ?_
  split
  · exact State.oneStep_classify h _ _ _
  · exact State.oneStep_of_mark (by simp) h

theorem State.oneStep_respIn (h : s.oneStep) (p : Nat) (b : Body) (a : Arrival) : (s.respIn p b a).oneStep := by
  unfold State.respIn
  split
  · exact h
  · split
    · exact h
    · exact State.oneStep_exchange (State.oneStep_of_mark (by simp) h) _ _ _ _

theorem State.oneStep_extFresh (h : s.oneStep) (θ : Int) (r : Option Int) : (s.extFresh θ r).oneStep := by
  unfold State.extFresh
  repeat' split
  · exact State.oneStep_servoTheta h _ _ _
  · exact State.oneStep_of_mark (by simp) h
  · exact State.oneStep_servoTheta h _ _ _

theorem State.oneStep_extClassify (h : s.oneStep) (θ : Int) : (s.extClassify θ).oneStep := by
  have hc (l : List Int) : (s.setExtCand l).oneStep := State.oneStep_of_mark (by simp) h
  unfold State.extClassify
  dsimp only
  repeat' split
  · exact State.oneStep_extFresh h _ _
  · exact State.oneStep_extFresh (hc _) _ _
  · exact hc _
  · exact State.oneStep_servoTheta (hc _) _ _ _

theorem State.oneStep_ppsIn (h : s.oneStep) (a : Time56) : (s.ppsIn a).oneStep := by
  unfold State.ppsIn
  dsimp only
  repeat' split
  · exact State.oneStep_of_mark (by simp) h
  · exact State.oneStep_of_mark (by simp) h
  · exact State.oneStep_select (State.oneStep_extClassify (State.oneStep_of_mark (by simp) h) _)
  · exact State.oneStep_select (State.oneStep_of_mark (by simp) h)

theorem State.oneStep_ptpExchange (h : s.oneStep) (p t1 t2 t3 : Nat) (d : Int) (m : PtpMsg) : (s.ptpExchange p t1 t2 t3 d m).oneStep := by
  unfold State.ptpExchange
  dsimp only
  refine State.oneStep_exchange (State.oneStep_of_mark ?_ h) _ _ _ _
  split <;> simp

theorem State.oneStep_ptpIn (h : s.oneStep) (p : Nat) (m : PtpMsg) (a : Time56) : (s.ptpIn p m a).oneStep := by
  unfold State.ptpIn
  dsimp only
  split
  · exact h
  cases m.kind <;> dsimp only
  case announce => exact State.oneStep_select (State.oneStep_of_mark (by simp) h)
  case sync =>
    repeat' split
    · exact h
    · exact State.oneStep_of_mark (by simp) h
    · exact State.oneStep_of_mark (by simp) h
  case followUp =>
    repeat' split
    · exact State.oneStep_of_mark (by simp) h
    · exact h
    · exact h
  case delayReq =>
    split
    · exact h
    · exact State.oneStep_of_mark (by simp) h
  case delayResp =>
    repeat' split
    · exact h
    · exact State.oneStep_ptpExchange h _ _ _ _ _ _
    · exact h
  case management => exact h
  case signalling => exact h

theorem State.oneStep_servoUpdate (h : s.oneStep) : s.servoUpdate.oneStep := by
  unfold State.servoUpdate
  split
  · exact h
  · refine State.oneStep_of_mark (by rw [State.timePacket_hearth]) (State.oneStep_servoRun (State.oneStep_of_mark ?_ h))
    exact State.forEach_mark (fun _ _ => State.takeAsym_mark _) _ _

theorem State.oneStep_takeover (h : s.oneStep) : s.takeover.oneStep := by
  unfold State.takeover
  dsimp only
  split
  · exact h
  generalize hu : State.discoverSend _ = u
  have hm : u.hearth = s.hearth := by
    rw [← hu, State.discoverSend_hearth, State.hbSend_hearth, State.modTwin_hearth, State.count_hearth, State.raise_hearth,
      State.becomeActive_hearth]
    repeat' split
    all_goals simp
  have hu : u.oneStep := State.oneStep_of_mark (congrArg _ hm) h
  split
  · exact State.oneStep_sourceLost hu
  · exact hu

/-! Resets, the SPLL and first light -/

theorem State.oneStep_resetTo (c : Nat) (por : Bool) (x : BitVec 5) : (s.resetTo c por x).oneStep :=
  State.oneStep_of_early (by simp [State.resetTo, State.reset, Dflt.hearth])

theorem State.oneStep_holdReset (r : Bool) (c : Nat) : (s.holdReset r c).oneStep :=
  State.oneStep_of_mark (s := s.resetTo c r s.power.straps) rfl (State.oneStep_resetTo _ _ _)

theorem State.oneStep_sysReset : s.sysReset.oneStep :=
  State.oneStep_of_mark (s := s.resetTo 32 false s.power.pins) rfl (State.oneStep_resetTo _ _ _)

/-- The lock of the SPLL opens no island and no output (R198). -/
@[simp] theorem State.pllLocked_spll_hearth : (s.pllLocked 0).hearth = s.hearth := by
  simp [State.pllLocked, State.wantFallback, islandBit, outputsOf, forEach]

theorem State.oneStep_spllLost (f : Nat) : (s.pllLost 0 f).oneStep := State.oneStep_holdReset _ _

theorem State.oneStep_lockWindow (h : s.oneStep) (n : Nat) : (s.lockWindow 0 n).oneStep := by
  have hm {u : State} (hu : u.hearth = s.hearth) : u.oneStep := State.oneStep_of_mark (congrArg _ hu) h
  unfold State.lockWindow
  refine State.oneStep_ite h (State.oneStep_ite ?_ (State.oneStep_ite ?_ (hm (by simp))))
  · exact State.oneStep_ite (State.oneStep_spllLost _) (hm (by simp))
  · exact State.oneStep_ite (hm (by simp)) (hm (by simp))

theorem State.oneStep_boot (h : s.oneStep) (ms : Nat) : (s.boot ms).oneStep := by
  by_cases hc : s.power.booted = false ∧ s.pllState 0 = 2
  · exact State.oneStep_of_early (by simp [(State.boot_hearth ms hc.1 hc.2).1])
  · unfold State.boot
    rw [if_pos (by revert hc; cases s.power.booted <;> simp)]
    exact h

/-! The dictionary -/

theorem State.oneStep_keeping (h : s.oneStep) (f : State → State) : (s.keeping f).oneStep := State.oneStep_of_mark rfl h

theorem State.oneStep_hearthCmd (h : s.oneStep) (x : Nat) : (s.hearthCmd x).oneStep := by
  unfold State.hearthCmd
  split
  · exact State.oneStep_cmdReepoch h
  · exact State.oneStep_abortAcq h _
  · exact State.oneStep_accept h
  · unfold State.hearthCmdOther
    split
    · exact h
    · exact State.oneStep_of_mark (by simp) h

theorem State.oneStep_writeObj (h : s.oneStep) (o : Obj) (sub : Nat) (v : Bytes) : (s.writeObj o sub v).oneStep := by
  unfold State.writeObj
  dsimp only
  repeat' split
  · exact State.oneStep_hearthCmd h _
  · exact State.oneStep_policyWritten (State.oneStep_keeping h _)
  · exact State.oneStep_keeping h _

theorem State.oneStep_applyItem (h : s.oneStep) (i : FalriItem) : (s.applyItem i).oneStep := by
  unfold State.applyItem
  repeat' split
  · exact State.oneStep_keeping h _
  · exact State.oneStep_writeObj h _ _ _
  all_goals exact h

theorem State.oneStep_applyItems (h : s.oneStep) (items : List FalriItem) : (s.applyItems items).oneStep := by
  have hfold : (items.foldl State.applyItem s).oneStep := by
    induction items generalizing s with
    | nil => exact h
    | cons i is ih => exact ih (State.oneStep_applyItem h i)
  unfold State.applyItems
  dsimp only
  split
  · exact State.oneStep_sysReset
  · exact State.oneStep_keeping hfold _

theorem State.oneStep_writeItems (h : s.oneStep) (path : Nat) (items : List FalriItem) : (s.writeItems path items).oneStep := by
  unfold State.writeItems
  dsimp only
  split
  · exact State.oneStep_applyItems h _
  · exact State.oneStep_keeping h _

theorem State.oneStep_objectWrite (h : s.oneStep) (path i sub : Nat) (v : Bytes) : (s.objectWrite path i sub v).oneStep := by
  unfold State.objectWrite
  split
  · exact State.oneStep_keeping h _
  · exact State.oneStep_writeItems h _ _

theorem State.oneStep_windowStore (h : s.oneStep) (e a v : Nat) : (s.windowStore e a v).oneStep := by
  have hk (f : State → State) : (s.keeping f).oneStep := State.oneStep_keeping h f
  unfold State.windowStore
  exact State.oneStep_ite (hk _) (State.oneStep_ite (hk _) (State.oneStep_ite (hk _) (State.oneStep_writeItems (hk _) _ _)))

/-! Messages -/

theorem State.oneStep_serveBlockRead (h : s.oneStep) (path src : Nat) (p : Bytes) : (s.serveBlockRead path src p).2.oneStep := by
  unfold State.serveBlockRead
  dsimp only
  repeat' split
  case h_4.isFalse.isFalse => exact State.oneStep_keeping h _
  all_goals exact h

theorem State.oneStep_serveBlockWrite (h : s.oneStep) (path src : Nat) (p : Bytes) : (s.serveBlockWrite path src p).2.oneStep := by
  unfold State.serveBlockWrite
  dsimp only
  repeat' split
  · exact h
  · exact State.oneStep_keeping h _
  · exact h
  · exact h
  · exact State.oneStep_writeItems (State.oneStep_keeping h _) _ _
  · exact State.oneStep_keeping h _

theorem State.oneStep_serveCommit (h : s.oneStep) : s.serveCommit.2.oneStep := by
  unfold State.serveCommit
  split
  · exact h
  · exact State.oneStep_keeping h _

theorem State.oneStep_serveAssign (h : s.oneStep) (may : Bool) (path : Nat) (p : Bytes) : (s.serveAssign may path p).2.oneStep := by
  have hk (f : State → State) : (s.keeping f).oneStep := State.oneStep_keeping h f
  unfold State.serveAssign
  dsimp only
  repeat' split
  all_goals dsimp only
  · exact h
  · exact hk _
  · exact h
  · exact hk _

theorem State.oneStep_serveDenied (h : s.oneStep) (path : Nat) (m : Msg) : (s.serveDenied path m).2.oneStep := by
  unfold State.serveDenied
  dsimp only
  split <;> exact State.oneStep_keeping h _

theorem State.oneStep_serveRequest (h : s.oneStep) (path : Path) (hdr : FalriHdr) (m : Msg) : (s.serveRequest path hdr m).2.oneStep := by
  unfold State.serveRequest
  dsimp only
  split
  · exact h
  split
  · exact h
  split
  · exact State.oneStep_serveAssign h _ _ _
  split
  · exact State.oneStep_serveDenied h _ _
  split
  · exact State.oneStep_keeping h _
  · exact State.oneStep_keeping h _
  · exact State.oneStep_writeItems h _ _
  · exact State.oneStep_writeItems h _ _
  · exact State.oneStep_serveBlockRead h _ _ _
  · exact State.oneStep_serveBlockWrite h _ _ _
  · exact State.oneStep_serveCommit h
  · repeat' split
    · exact h
    · exact State.oneStep_keeping h _
    · exact h

theorem State.oneStep_ownRequest (h : s.oneStep) (path : Path) (hdr : FalriHdr) (m : Msg) : (s.ownRequest path hdr m).oneStep := by
  unfold State.ownRequest
  dsimp only
  split
  · exact State.oneStep_keeping h _
  · generalize hu : State.keeping s _ = u
    have hr : (u.serveRequest path hdr m).2.oneStep := State.oneStep_serveRequest (hu ▸ State.oneStep_keeping h _) _ _ _
    generalize u.serveRequest path hdr m = x at hr
    obtain ⟨r, v⟩ := x
    cases r with
    | some r => exact State.oneStep_keeping hr _
    | none => exact hr

theorem State.oneStep_messageIn (h : s.oneStep) (path : Path) (hdr : FalriHdr) (m : Msg) : (s.messageIn path hdr m).oneStep := by
  have hk (f : State → State) : (s.keeping f).oneStep := State.oneStep_keeping h f
  unfold State.messageIn State.requestIn
  dsimp only
  repeat' split
  · exact hk _
  · exact State.oneStep_keeping (hk _) _
  · exact State.oneStep_keeping (hk _) _
  · exact hk _
  · exact State.oneStep_ownRequest (hk _) _ _ _
  · exact State.oneStep_keeping (hk _) _

theorem State.oneStep_mailboxGo (h : s.oneStep) (r : Bytes) (en : Bool) : (s.mailboxGo r en).oneStep := by
  have hk (f : State → State) : (s.keeping f).oneStep := State.oneStep_keeping h f
  unfold State.mailboxGo
  dsimp only
  repeat' split
  · exact State.oneStep_keeping (hk _) _
  · exact State.oneStep_keeping (hk _) _
  · exact State.oneStep_messageIn (hk _) _ _ _

end Sys2Proof.Machine
end

section
/-! PROOF. The rule of the single step (R29, R34, R35) through every command, and the commands that cannot move the servo. -/

namespace Sys2Proof.Machine

variable {s t : State}

/-- An outcome that leaves the servo's state, STEP_USED and the way into REFUSED as they are. -/
def keepsServo (s : State) (o : Host.Outcome State Fault Refusal) : Prop :=
  ∀ t, o = .next t → t.hearth.mark = s.hearth.mark

theorem keepsServo_runKeep (s : State) (f : State → State) : keepsServo s (runKeep s f) :=
  fun _ h => State.mark_iff.mpr (runKeep_stepRule s h)

theorem keepsServo_next (h : t.hearth.mark = s.hearth.mark) : keepsServo s (.next t) := by
  rintro _ ⟨⟩
  exact h

theorem State.jtagTest_hearth (ir : Nat) (l d : Bool) : (s.jtagTest ir l d).hearth = s.hearth := by
  unfold State.jtagTest
  split <;> rfl

theorem keepsServo_exec {c : Instr} (hc : mayMoveServo c = false) (s : State) : keepsServo s (exec c s) := by
  cases c with
  | bypass => exact keepsServo_next rfl
  | idcode => exact keepsServo_next rfl
  | samplePreload => exact keepsServo_next rfl
  | extest => exact keepsServo_next (congrArg _ (State.jtagTest_hearth ..))
  | extestPulse => exact keepsServo_next (congrArg _ (State.jtagTest_hearth ..))
  | extestTrain => exact keepsServo_next (congrArg _ (State.jtagTest_hearth ..))
  | clamp => exact keepsServo_next (congrArg _ (State.jtagTest_hearth ..))
  | highz => exact keepsServo_next (congrArg _ (State.jtagTest_hearth ..))
  | thermtrip => exact keepsServo_next (by rw [State.keeping_hearth, Hearth.keepServo_mark])
  | thermtripLatchClear => exact keepsServo_next (by split <;> rfl)
  | tioCapture ch a r =>
    have hch : ch.val ≠ 16 := beq_eq_false_iff_ne.mp hc
    show keepsServo s (execTioCapture ch a r s)
    rw [execTioCapture, if_neg hch]
    exact keepsServo_runKeep s _
  | lockWindowEnd p n =>
    have hp : p.val ≠ 0 := beq_eq_false_iff_ne.mp hc
    show keepsServo s (execLockWindowEnd p n s)
    rw [execLockWindowEnd, if_neg hp]
    exact keepsServo_runKeep s _
  | pllLoss p l =>
    have hp : p.val ≠ 0 := beq_eq_false_iff_ne.mp hc
    show keepsServo s (execPllLoss p l s)
    unfold execPllLoss
    dsimp only
    rw [if_neg hp]
    exact keepsServo_runKeep s _
  | _ => cases hc <;> exact keepsServo_runKeep s _

theorem State.step_idle (h : s.pending = []) : step s = .next s.idle := by
  unfold step
  rw [h]

theorem State.idle_mark (s : State) : s.idle.hearth.mark = s.hearth.mark := by
  unfold State.idle
  split <;> rfl

/-- An outcome in which the rule of the single step holds. -/
def stepsOnce (o : Host.Outcome State Fault Refusal) : Prop := ∀ t, o = .next t → t.oneStep

theorem stepsOnce_next (h : t.oneStep) : stepsOnce (.next t) := by
  rintro _ ⟨⟩
  exact h

theorem stepsOnce_run {f : State → State} (h : s.oneStep) (hf : (f s).oneStep) : stepsOnce (run s f) :=
  stepsOnce_next (State.oneStep_ite h hf)

theorem stepsOnce_keepsServo {o : Host.Outcome State Fault Refusal} (h : s.oneStep) (ho : keepsServo s o) : stepsOnce o :=
  fun t ht => State.oneStep_of_mark (ho t ht) h

theorem stepsOnce_message (h : s.oneStep) (p : Path) (hdr : FalriHdr) (m : Msg) : stepsOnce (run s (·.messageIn p hdr m)) :=
  stepsOnce_run h (State.oneStep_messageIn h _ _ _)

theorem stepsOnce_write (h : s.oneStep) (p i sub : Nat) (v : Bytes) : stepsOnce (run s (·.objectWrite p i sub v)) :=
  stepsOnce_run h (State.oneStep_objectWrite h _ _ _ _)

/-- Every command keeps the rule of the single step: those that may not move the servo by their frame, the others each by its own
change of state. -/
theorem stepsOnce_exec (h : s.oneStep) (c : Instr) : stepsOnce (exec c s) := by
  by_cases hc : mayMoveServo c = false
  · exact stepsOnce_keepsServo h (keepsServo_exec hc s)
  have hc : mayMoveServo c = true := by simpa using hc
  cases c with
  | powerOnReset => exact stepsOnce_next (State.oneStep_resetTo _ _ _)
  | warmReset => exact stepsOnce_next (State.oneStep_resetTo _ _ _)
  | railUndervoltage => exact stepsOnce_next (State.oneStep_ite h (State.oneStep_holdReset _ _))
  | railRestore => exact stepsOnce_next (State.oneStep_ite (State.oneStep_of_mark rfl h) h)
  | xoLoss cause =>
    show stepsOnce (execXoLoss cause s)
    exact stepsOnce_next (State.oneStep_ite h (State.oneStep_holdReset _ _))
  | xoRestore => exact stepsOnce_next (State.oneStep_ite (State.oneStep_of_mark rfl h) h)
  | bootLoaderStart ms => exact stepsOnce_run (f := (·.boot ms)) h (State.oneStep_boot h ms)
  | read => exact stepsOnce_message h _ _ _
  | write => exact stepsOnce_message h _ _ _
  | readMulti => exact stepsOnce_message h _ _ _
  | writeMulti => exact stepsOnce_message h _ _ _
  | blockRead => exact stepsOnce_message h _ _ _
  | blockWrite => exact stepsOnce_message h _ _ _
  | commit => exact stepsOnce_message h _ _ _
  | discover => exact stepsOnce_message h _ _ _
  | assignId => exact stepsOnce_message h _ _ _
  | notifyReceive => exact stepsOnce_message h _ _ _
  | falriErr p b =>
    show stepsOnce (execFalriErr p b s)
    unfold execFalriErr
    refine stepsOnce_run h ?_
    split
    · exact State.oneStep_keeping h _
    · exact State.oneStep_messageIn h _ _ _
  | mailboxGo r e => exact stepsOnce_run (f := (·.mailboxGo r e)) h (State.oneStep_mailboxGo h r e)
  | objectWrite => exact stepsOnce_write h _ _ _ _
  | epRegistryWrite => exact stepsOnce_write h _ _ _ _
  | sysReset => exact stepsOnce_write h _ _ _ _
  | expertSessionWrite => exact stepsOnce_write h _ _ _ _
  | gateWrite p ports chain =>
    show stepsOnce (execGateWrite p ports chain s)
    unfold execGateWrite
    exact stepsOnce_run h (State.oneStep_objectWrite (State.oneStep_objectWrite h _ _ _ _) _ _ _ _)
  | dictWindowStore =>
    exact stepsOnce_run h (State.oneStep_ite (State.oneStep_windowStore (State.oneStep_keeping h _) _ _ _) h)
  | timeRespReceive p b a => exact stepsOnce_run (f := (·.respIn p b a)) h (State.oneStep_respIn h p b a)
  | servoUpdate => exact stepsOnce_run h (State.oneStep_servoUpdate h)
  | ppsInEdge a => exact stepsOnce_run (f := (·.ppsIn a)) h (State.oneStep_ppsIn h a)
  | ptpMessageReceive p m a => exact stepsOnce_run (f := (·.ptpIn p m a)) h (State.oneStep_ptpIn h p m a)
  | conditionerUpdate => exact stepsOnce_run h (State.oneStep_conditioner h)
  | stepCommit => exact stepsOnce_run h (State.oneStep_stepCommit h)
  | acquireComplete => exact stepsOnce_run h (State.oneStep_acquired h)
  | sourceLost => exact stepsOnce_run h (State.oneStep_ite (State.oneStep_sourceLost h) h)
  | qualShortExpire => exact stepsOnce_run h (State.oneStep_qualShort h)
  | qualLongExpire => exact stepsOnce_run h (State.oneStep_qualLong h)
  | reepoch => exact stepsOnce_run h (State.oneStep_cmdReepoch h)
  | abortAcq c => exact stepsOnce_run (f := (·.abortAcq c)) h (State.oneStep_abortAcq h c)
  | accept => exact stepsOnce_run h (State.oneStep_accept h)
  | takeover => exact stepsOnce_run h (State.oneStep_takeover h)
  | tioCapture ch a r =>
    have hch : ch.val = 16 := eq_of_beq hc
    show stepsOnce (execTioCapture ch a r s)
    rw [execTioCapture, if_pos hch]
    exact stepsOnce_run h (State.oneStep_ite (State.oneStep_ppsIn h _) h)
  | lockWindowEnd p n =>
    have hp : p.val = 0 := eq_of_beq hc
    show stepsOnce (execLockWindowEnd p n s)
    rw [execLockWindowEnd, if_pos hp]
    exact stepsOnce_run h (State.oneStep_lockWindow h _)
  | pllLoss p l =>
    have hp : p.val = 0 := eq_of_beq hc
    show stepsOnce (execPllLoss p l s)
    unfold execPllLoss
    dsimp only
    rw [if_pos hp]
    exact stepsOnce_run h (State.oneStep_ite (State.oneStep_spllLost _) h)
  | _ => cases hc

end Sys2Proof.Machine

open Sys2Proof Sys2Proof.Machine

/-- Settles O52, by what every command does to the three fields that the rule of the single step looks at. -/
theorem stepKeepsStepRule : Obligations.StepKeepsStepRule := by
  unfold Obligations.StepKeepsStepRule
  intro s t hs h
  have hs := State.oneStep_iff.mpr hs
  refine State.oneStep_iff.mp ?_
  unfold step at h
  split at h
  case h_1 =>
    obtain rfl := Host.Outcome.next.inj h
    exact State.oneStep_of_mark s.idle_mark hs
  case h_2 c rest _ =>
    have hp : ({ s with pending := rest } : State).oneStep := State.oneStep_of_mark (by rfl) hs
    exact stepsOnce_exec hp c t h

/-- Settles O56, by the frame of every command that is not one of the Hearth's. -/
theorem otherCommandsKeepTheServo : Obligations.OtherCommandsKeepTheServo := by
  unfold Obligations.OtherCommandsKeepTheServo
  refine ⟨fun c s t hc h => State.mark_iff.mp (keepsServo_exec hc s t h), fun s t hp h => ?_⟩
  obtain rfl : s.idle = t := Host.Outcome.next.inj ((State.step_idle hp).symm.trans h)
  obtain ⟨hst, hu, -⟩ := State.mark_iff.mp s.idle_mark
  exact ⟨hst, hu⟩
end

section
/-! PROOF. The counter of the Hearth over whole cycles (R15), and what reset leaves (R20). -/

namespace Sys2Proof.Machine

variable {s : State}

theorem State.setCount_hearth (v : Int) : (s.setCount v).hearth = { s.hearth with count := BitVec.ofInt 72 v } := by
  unfold State.setCount
  dsimp only
  repeat' split
  all_goals simp

theorem State.f0Run_hearth_stepK (k : Nat) : (s.f0Run k).hearth.stepK = s.hearth.stepK := by
  unfold State.f0Run
  dsimp only
  split <;> simp

theorem State.f0Run_hearth_cycles (k : Nat) : (s.f0Run k).hearth.cycles = s.hearth.cycles := by
  unfold State.f0Run
  dsimp only
  split <;> simp

/-- Running cycles brings the counter to its sum, modulo its 72 bits (R15). -/
theorem State.hearthRun_count (h : s.hearth.running = true) (k : Nat) :
    (s.hearthRun k).hearth.count = BitVec.ofNat 72 (s.hearth.count.toNat + k * s.obj O.HEARTH_INC) := by
  simp only [State.hearthRun, h, Bool.not_true, Bool.false_eq_true, if_false, State.setCount_hearth]
  rw [← BitVec.ofInt_natCast, Nat.cast_add, Nat.cast_mul]

theorem State.hearthRun_cycles (h : s.hearth.running = true) (k : Nat) : (s.hearthRun k).hearth.cycles = s.hearth.cycles + k := by
  simp [State.hearthRun, h, State.setCount_hearth, State.f0Run_hearth_cycles]

theorem State.hearthRun_stepK (s : State) (k : Nat) : (s.hearthRun k).hearth.stepK = s.hearth.stepK := by
  unfold State.hearthRun
  dsimp only
  split
  · rfl
  · rw [State.setCount_hearth, State.f0Run_hearth_stepK]
    rfl

end Sys2Proof.Machine

open Sys2Proof Sys2Proof.Machine

/-- Settles O51: the Hearth is off after reset, and the lists of the state are empty. -/
theorem resetStateIsSound : Obligations.ResetStateIsSound := by
  unfold Obligations.ResetStateIsSound
  exact ⟨State.oneStep_iff.mp (State.oneStep_of_early (by decide)), State.memoryOk_reset, rfl, rfl⟩

/-- Settles O3: a reset state stores nothing, so that every table reads its default. -/
theorem resetLeavesDefaults : Obligations.ResetLeavesDefaults := by
  unfold Obligations.ResetLeavesDefaults
  have hquality : State.reset.quality = 0xEF := by decide
  exact ⟨fun o sub => ⟨rfl, rfl⟩, rfl, hquality, fun n => rfl, rfl, rfl, rfl, rfl, resetStateIsSound.1, State.memoryOk_reset⟩

/-- Settles O2: an idle step is one cycle of the Hearth, and the end of an epoch that may come with it is none of the Hearth's. -/
theorem idleStepAddsHearthInc : Obligations.IdleStepAddsHearthInc := by
  unfold Obligations.IdleStepAddsHearthInc
  refine ⟨fun s hp hh => ?_, fun s hp hh hr hlt => ⟨s.idle, State.step_idle hp, ?_, ?_, ?_⟩⟩
  · rw [State.step_idle hp, State.idle, if_pos hh]
  · have hcount : s.idle.hearth.count = (s.hearthRun 1).hearth.count := by simp [State.idle, hh, Hearth.keepServo]
    rw [hcount, State.hearthRun_count hr, one_mul, BitVec.toNat_ofNat, Nat.mod_eq_of_lt hlt]
  · simp [State.idle, hh, Hearth.keepServo, State.hearthRun_cycles hr]
  · exact ⟨(State.mark_iff.mp s.idle_mark).1, (State.mark_iff.mp s.idle_mark).2.1⟩
end

section
/-! PROOF. The commands of the Hearth (R30, R39, R40, R42). -/

namespace Sys2Proof.Machine

variable {s : State}

/-! What the moves between the servo's states touch. -/

theorem State.setServo_only (s : State) (st : Servo) : (s.setServo st).only s [.hearth] [] :=
  State.only_modHearth _ (State.only_refl _ _ _) (by simp)

theorem State.toFree_only (s : State) : s.toFree.only s [.hearth, .servo] [] := by
  unfold State.toFree
  exact State.only_modServo _ (State.only_modHearth _ (State.only_mono (s.setServo_only _) (by simp) (by simp)) (by simp)) (by simp)

theorem State.toFree_stepUsed (s : State) : s.toFree.hearth.stepUsed = s.hearth.stepUsed := rfl
theorem State.toFree_count (s : State) : s.toFree.hearth.count = s.hearth.count := rfl

theorem State.stopSlew_only (s : State) : s.stopSlew.only s [.hearth] [keyOf O.HEARTH_SLEW] := by
  unfold State.stopSlew
  exact State.only_modHearth _ (State.only_setObj _ (State.only_refl _ _ _) (by simp)) (by simp)

theorem State.reepoch_only (s : State) : s.reepoch.only s [.hearth, .servo] [keyOf O.HEARTH_SLEW, keyOf O.ACC_BOUND] := by
  have hstopped : s.toFree.stopSlew.only s [.hearth, .servo] [keyOf O.HEARTH_SLEW, keyOf O.ACC_BOUND] :=
    State.only_trans (State.only_mono s.toFree.stopSlew_only (by simp) (by simp)) (State.only_mono s.toFree_only (by simp) (by simp))
  unfold State.reepoch
  exact State.only_setObj _ (State.only_modHearth _ hstopped (by simp)) (by simp)

/-- The Hearth on entering TRACK: the offset is what is left to slew (R30). -/
theorem State.enterTrack_hearth (s : State) (θ : Int) :
    (s.enterTrack θ).hearth = { s.hearth with
      state := .track, refJump := false, fromAlign := false, srcLost := false
      slewLeft := if θ = 0 then s.hearth.slewLeft else -(θ * 2 ^ 64)
      slewNow := if θ = 0 then s.hearth.slewNow else s.hearth.restNow } := by
  unfold State.enterTrack
  by_cases hθ : θ = 0 <;> simp [hθ, State.slewBy, State.setServo, State.ite_hearth, Hearth.restNow]

theorem State.enterTrack_only (s : State) (θ : Int) : (s.enterTrack θ).only s [.hearth, .servo, .tio] [] := by
  have hentered : (s.setServo .track).only s [.hearth, .servo, .tio] [] := State.only_mono (s.setServo_only _) (by simp) (by simp)
  have hslewed {u : State} (h : u.only s [.hearth, .servo, .tio] []) : (u.slewBy θ).only s [.hearth, .servo, .tio] [] :=
    State.only_modHearth _ h (by simp)
  have hnoted {u : State} (h : u.only s [.hearth, .servo, .tio] []) : u.noteBound.only s [.hearth, .servo, .tio] [] := by
    unfold State.noteBound
    exact State.only_modServo _ h (by simp)
  unfold State.enterTrack
  extract_lets a b c d
  have hc : c.only s [.hearth, .servo, .tio] [] :=
    State.only_modTio _ (State.only_modServo _ (State.only_modHearth _ hentered (by simp)) (by simp)) (by simp)
  have hd : d.only s [.hearth, .servo, .tio] [] := by
    unfold d
    split
    · exact hc
    · exact hslewed hc
  split
  · exact hnoted hd
  · exact hd

/-! REEPOCH. -/

theorem State.cmdReepoch_eq (hb : s.hearthBusy = false) (hs : s.hearth.state ≠ .off) :
    s.cmdReepoch = s.reepoch.cmdStatus O.HEARTH_CMD_STATUS 0 1 2 := by
  simp [State.cmdReepoch, hb, hs]

theorem State.reepoch_hearth (s : State) :
    s.reepoch.hearth = { s.toFree.hearth with slewLeft := 0, slewNow := 0, stepUsed := false, reepoched := true } := by
  simp [State.reepoch, State.stopSlew]

theorem State.reepoch_slew (s : State) : s.reepoch.obj O.HEARTH_SLEW = 0 := by
  have hslew : s.toFree.stopSlew.obj O.HEARTH_SLEW = 0 := by
    unfold State.stopSlew
    exact (State.modHearth_obj ..).trans (State.obj_setObj_same _ _ _ _)
  unfold State.reepoch
  have hne : keyOf O.HEARTH_SLEW ≠ keyOf O.ACC_BOUND := by decide
  exact (State.obj_setObj_ne _ _ hne).trans hslew

theorem State.cmdReepoch_only (hb : s.hearthBusy = false) (hs : s.hearth.state ≠ .off) : s.cmdReepoch.only s [.hearth, .servo]
    [keyOf O.HEARTH_SLEW, keyOf O.ACC_BOUND, keyOf O.HEARTH_CMD_STATUS] := by
  rw [State.cmdReepoch_eq hb hs]
  exact State.only_cmdStatus _ _ _ (State.only_mono s.reepoch_only (by simp) (by simp)) (by decide)

/-! ABORT_ACQ. -/

theorem State.abortAcq_acquire (hb : s.hearthBusy = false) (hs : s.hearth.state = .acquire) (c : Bool) :
    s.abortAcq c = s.toFree.cmdStatus O.HEARTH_CMD_STATUS 0 2 3 := by
  simp [State.abortAcq, hb, hs]

theorem State.abortAcq_late (hb : s.hearthBusy = false) (hs : s.hearth.state = .align) (hu : s.hearth.stepUsed = true) :
    s.abortAcq false = s.cmdStatus O.HEARTH_CMD_STATUS 0 2 4 := by
  simp [State.abortAcq, hb, hs, hu]

/-! ACCEPT. -/

/-- ACCEPT in a REFUSED that TRACK led into: DONE at once where there is nothing to slew, else BUSY until the slew is set (R39). -/
theorem State.accept_eq (hb : s.hearthBusy = false) (hs : s.hearth.state = .refused) (hf : s.hearth.fromAlign = false) :
    s.accept = if s.thetaOf s.source = 0 then (s.enterTrack (s.thetaOf s.source)).cmdStatus O.HEARTH_CMD_STATUS 0 3 2
      else ((s.enterTrack (s.thetaOf s.source)).cmdStatus O.HEARTH_CMD_STATUS 0 3 1).modHearth fun h => { h with acceptWait := true } := by
  simp [State.accept, hb, hs, hf]

theorem State.accept_only (hb : s.hearthBusy = false) (hs : s.hearth.state = .refused) (hf : s.hearth.fromAlign = false) :
    s.accept.only s [.hearth, .servo, .tio] [keyOf O.HEARTH_CMD_STATUS] := by
  have htrack (st : Nat) : ((s.enterTrack (s.thetaOf s.source)).cmdStatus O.HEARTH_CMD_STATUS 0 3 st).only s [.hearth, .servo, .tio]
      [keyOf O.HEARTH_CMD_STATUS] :=
    State.only_cmdStatus _ _ _ (State.only_mono (s.enterTrack_only _) (by simp) (by simp)) (by decide)
  rw [State.accept_eq hb hs hf]
  split
  · exact htrack 2
  · exact State.only_modHearth _ (htrack 1) (by simp)

theorem State.accept_status (hb : s.hearthBusy = false) (hs : s.hearth.state = .refused) (hf : s.hearth.fromAlign = false) :
    s.accept.status O.HEARTH_CMD_STATUS = if s.thetaOf s.source = 0 then 2 else 1 := by
  have hstatus (u : State) (st : Nat) : (u.cmdStatus O.HEARTH_CMD_STATUS 0 3 st).status O.HEARTH_CMD_STATUS = st % 16 :=
    u.status_cmdStatus _ _ _ _ _ (by decide)
  rw [State.accept_eq hb hs hf]
  split
  · exact hstatus _ 2
  · exact hstatus _ 1

theorem State.accept_hearth (hb : s.hearthBusy = false) (hs : s.hearth.state = .refused) (hf : s.hearth.fromAlign = false) :
    s.accept.hearth = { (s.enterTrack (s.thetaOf s.source)).hearth with
      acceptWait := if s.thetaOf s.source = 0 then s.hearth.acceptWait else true } := by
  rw [State.accept_eq hb hs hf]
  split <;> simp [State.enterTrack_hearth]

/-! A command that is BUSY lets no other in (R42). -/

theorem State.cmdReepoch_busy (hb : s.hearthBusy = true) : s.cmdReepoch = s := by simp [State.cmdReepoch, hb]
theorem State.abortAcq_busy (hb : s.hearthBusy = true) (c : Bool) : s.abortAcq c = s := by simp [State.abortAcq, hb]
theorem State.accept_busy (hb : s.hearthBusy = true) : s.accept = s := by simp [State.accept, hb]

end Sys2Proof.Machine

open Sys2Proof Sys2Proof.Machine

/-- Settles O8, clause by clause from what REEPOCH, ABORT_ACQ and ACCEPT do in the states named. -/
theorem hearthCommandsAct : Obligations.HearthCommandsAct := by
  unfold Obligations.HearthCommandsAct
  refine ⟨?reepoch, ?abort, ?abortLate, ?accept, ?busy⟩
  case reepoch =>
    intro s hh hb hs
    have honly := State.cmdReepoch_only hb hs
    have heq := State.cmdReepoch_eq hb hs
    have hhearth : s.cmdReepoch.hearth = s.reepoch.hearth := by rw [heq, State.cmdStatus_hearth]
    rw [State.reepoch_hearth] at hhearth
    refine ⟨s.cmdReepoch, run_next s _ hh, by rw [hhearth]; rfl, by rw [hhearth], by rw [hhearth], by rw [hhearth],
      by rw [hhearth]; rfl, ?_, State.only_obj honly (by decide), ?_, honly⟩
    · rw [heq, State.cmdStatus_obj_ne _ _ _ _ _ _ (by decide), State.reepoch_slew]
    · rw [heq]
      exact State.status_cmdStatus _ _ _ _ _ _ (by decide)
  case abort =>
    intro s c hh hb hs
    have heq := State.abortAcq_acquire hb hs c
    refine ⟨s.abortAcq c, run_next s (·.abortAcq c) hh, ?_, ?_, ?_, ?_, ?_⟩ <;> rw [heq]
    · simp
    · rw [State.cmdStatus_hearth, State.toFree_stepUsed]
    · rw [State.cmdStatus_hearth, State.toFree_count]
    · exact State.status_cmdStatus _ _ _ _ _ _ (by decide)
    · exact State.only_cmdStatus _ _ _ (State.only_mono s.toFree_only (by simp) (by simp)) (by decide)
  case abortLate =>
    intro s hh hb hs hu
    have heq := State.abortAcq_late hb hs hu
    refine ⟨s.abortAcq false, run_next s (·.abortAcq false) hh, ?_, ?_, ?_⟩ <;> rw [heq]
    · simp
    · exact State.status_cmdStatus _ _ _ _ _ _ (by decide)
    · exact State.only_cmdStatus _ _ _ (State.only_refl _ _ _) (by decide)
  case accept =>
    intro s hh hb hs hf
    refine ⟨s.accept, run_next s _ hh, ?_, ?_, ?_, State.accept_status hb hs hf, fun hθ => ?_, State.accept_only hb hs hf⟩
    all_goals rw [State.accept_hearth hb hs hf, State.enterTrack_hearth]
    exact ⟨if_neg hθ, if_neg hθ⟩
  case busy =>
    intro s b hh hb
    refine ⟨(run_next s _ hh).trans ?_, (run_next s (·.abortAcq b) hh).trans ?_, (run_next s _ hh).trans ?_⟩
    · rw [State.cmdReepoch_busy hb]
    · rw [State.abortAcq_busy hb]
    · rw [State.accept_busy hb]
end

section
/-! PROOF. How the servo changes state (R25 to R30, R34 to R36, R166, R168). -/

namespace Sys2Proof.Machine

variable {s : State}

/-! ACQUIRE ends (R26, R28, R34). -/

/-- The Hearth of ALIGN with its step computed. -/
def State.stepComputed (s : State) : Hearth :=
  { s.hearth with
    state := .align, phase := .computed, step := s.stepFor (s.thetaOf s.source), stepAt := s.hearth.cycles
    stepK := if s.f0Period = 0 then 0 else s.stepFor (s.thetaOf s.source) * 2 ^ 16 / s.f0Period }

theorem State.acquired_eq (hs : s.hearth.state = .acquire) (hf : s.freqHeld = true) (hp : s.hearth.phase = .none) :
    s.acquired = (s.setServo .align).computeStep := by
  simp [State.acquired, hs, hf, hp]

theorem State.acquired_align (hs : s.hearth.state = .acquire) (hf : s.freqHeld = true) (hp : s.hearth.phase = .none)
    (hstep : 0 ≤ s.stepFor (s.thetaOf s.source) ∨ s.obj O.REEPOCH_ALLOW_BACK ≠ 0) :
    s.acquired = s.modHearth fun _ => s.stepComputed := by
  have hnot : ¬ ((s.setServo .align).stepFor ((s.setServo .align).thetaOf (s.setServo .align).source) < 0 ∧
      (s.setServo .align).obj O.REEPOCH_ALLOW_BACK = 0) := fun h => hstep.elim (fun h0 => absurd h.1 (Int.not_lt.mpr h0)) (fun h1 => h1 h.2)
  rw [State.acquired_eq hs hf hp, State.computeStep]
  exact if_neg hnot

theorem State.acquired_refused (hs : s.hearth.state = .acquire) (hf : s.freqHeld = true) (hp : s.hearth.phase = .none)
    (hstep : s.stepFor (s.thetaOf s.source) < 0) (hback : s.obj O.REEPOCH_ALLOW_BACK = 0) :
    s.acquired = (s.modHearth fun h => { h with state := .refused, fromAlign := true, phase := .none }).raise O.HEARTH_FLAGS 2 := by
  rw [State.acquired_eq hs hf hp, State.computeStep]
  exact if_pos ⟨hstep, hback⟩

/-! The source is lost (R34, R158, R166). -/

theorem State.markLost_only (s : State) (q : Nat) : (s.markLost q).only s [.ports] [keyOf O.PORT_ROUTE_STATE (q + 1)] := by
  unfold State.markLost
  dsimp only
  repeat' split
  · exact State.only_refl _ _ _
  · exact State.only_modPort _ _ (State.only_setObj _ (State.only_refl _ _ _) (by simp)) (by simp)
  · exact State.only_modPort _ _ (State.only_refl _ _ _) (by simp)

theorem State.markLost_obj (s : State) (q : Nat) {o : Obj} {j : Nat} (ho : o.index ≠ O.PORT_ROUTE_STATE.index) (hj : j < 256) :
    (s.markLost q).obj o j = s.obj o j := by
  by_cases hq : 48 ≤ q
  · rw [State.markLost, if_pos hq]
  · exact State.only_obj (s.markLost_only q) (by simpa using Obj.key_ne ho hj (by omega))

theorem State.markLost_servo (s : State) (q : Nat) : (s.markLost q).servo = s.servo := (s.markLost_only q).1 .servo (by simp)

/-- The upstream roles with the lost source marked and deselected. -/
def State.deselected (s : State) : State := (s.markLost s.source).setObj O.UPSTREAM_PORT noSource

theorem State.deselected_only (s : State) :
    s.deselected.only s [.ports] [keyOf O.UPSTREAM_PORT, keyOf O.PORT_ROUTE_STATE (s.source + 1)] :=
  State.only_setObj _ (State.only_mono (s.markLost_only _) (by simp) (by simp)) (by simp)

theorem State.deselected_source (s : State) : s.deselected.obj O.UPSTREAM_PORT = noSource := State.obj_setObj_same _ _ _ _

@[simp] theorem State.deselected_hearth (s : State) : s.deselected.hearth = s.hearth := by simp [State.deselected]
@[simp] theorem State.deselected_servo (s : State) : s.deselected.servo = s.servo := by simp [State.deselected, State.markLost_servo]

theorem State.reselectAlt_only (s : State) : s.reselectAlt.only s [] [keyOf O.UPSTREAM_ALT] := by
  unfold State.reselectAlt
  exact State.only_setObj _ (State.only_refl _ _ _) (by simp)

theorem State.noteBound_only (s : State) : s.noteBound.only s [.servo] [] := by
  unfold State.noteBound
  exact State.only_modServo _ (State.only_refl _ _ _) (by simp)

theorem State.sourceLost_acquire (hs : s.hearth.state = .acquire) (hq : s.source ≠ noSource) :
    s.sourceLost = s.deselected.toFree.reselectAlt := by
  simp [State.sourceLost, hq, hs, State.loseSource, State.deselected]

theorem State.sourceLost_track (hs : s.hearth.state = .track) (hf : s.frozen = false) (hq : s.source ≠ noSource)
    (halt : s.firstSource (· != s.source) = noSource) :
    s.sourceLost = s.noteBound.deselected.enterHoldover.reselectAlt := by
  have hsource : s.noteBound.source = s.source := rfl
  simp [State.sourceLost, hq, hs, hf, halt, State.loseSource, State.deselected, hsource]

/-! HOLDOVER (R168). -/

theorem State.enterHoldover_hearth (s : State) :
    s.enterHoldover.hearth = { s.hearth with state := .holdover, srcLost := false, refJump := false } := by
  simp [State.enterHoldover, State.setServo]

theorem State.enterHoldover_only (s : State) :
    s.enterHoldover.only s [.hearth, .servo, .tio] [keyOf O.HOLD_RATE, keyOf O.HEARTH_RATE] := by
  have hrates (r : Int) : ((s.setObjI O.HOLD_RATE r).setObjI O.HEARTH_RATE r).only s [.hearth, .servo, .tio]
      [keyOf O.HOLD_RATE, keyOf O.HEARTH_RATE] :=
    State.only_setObj _ (State.only_setObj _ (State.only_refl _ _ _) (by decide)) (by decide)
  unfold State.enterHoldover
  exact State.only_modTio _ (State.only_modHearth _ (State.only_modServo _ (State.only_modHearth _ (hrates _) (by decide)) (by decide))
    (by decide)) (by decide)

theorem State.enterHoldover_bound (s : State) :
    s.enterHoldover.servo.b0 = s.servo.b0 ∧ s.enterHoldover.servo.leftAt = s.servo.leftAt := by
  simp [State.enterHoldover, State.setServo]

theorem ofSigned_lt (w : Nat) (z : Int) : ofSigned w z < 2 ^ w := by
  have h := Int.emod_lt_of_pos z (b := 2 ^ w) (by positivity)
  have h0 := Int.emod_nonneg z (b := 2 ^ w) (by positivity)
  unfold ofSigned
  zify
  rwa [Int.toNat_of_nonneg h0]

theorem State.obj_setObjI_same (s : State) (o : Obj) (z : Int) (sub : Nat) :
    (s.setObjI o z sub).obj o sub = ofSigned (8 * o.ty.bytes) z :=
  (State.obj_setObj_same _ _ _ _).trans (Nat.mod_eq_of_lt (ofSigned_lt _ _))

/-- The rates of TRACK have a mean: HOLDOVER holds it (R168; the rounding of the mean is log entry 5). -/
theorem State.enterHoldover_rates (h : s.servo.rates ≠ []) :
    s.enterHoldover.obj O.HOLD_RATE = ofSigned 64 (meanI s.servo.rates) ∧
      s.enterHoldover.obj O.HEARTH_RATE = ofSigned 64 (meanI s.servo.rates) := by
  have hne : keyOf O.HOLD_RATE ≠ keyOf O.HEARTH_RATE := by decide
  unfold State.enterHoldover
  simp only [h, if_false, State.modTio_obj, State.modHearth_obj, State.modServo_obj, State.setServo]
  exact ⟨(State.setObjI_obj_ne _ _ _ _ hne).trans (State.obj_setObjI_same _ _ _ _), State.obj_setObjI_same _ _ _ _⟩

/-! A timer of QUALIFY or of HOLDOVER ends (R34, R36). -/

theorem State.qualShort_qualify (hq : s.servo.qOn = true) (hs : s.hearth.state = .qualify) (hj : s.inJump s.source = true) :
    s.qualShort = s.enterTrack (s.thetaOf s.source) := by
  simp [State.qualShort, hq, hs, hj]

theorem State.qualLong_refJump (hs : s.hearth.state = .holdover) (hr : s.hearth.refJump = true) (hq : s.servo.qOn = true)
    (hp : s.obj O.REF_RETURN_POLICY = 0) : s.qualLong = s.enterTrack (s.thetaOf s.source) := by
  simp [State.qualLong, hq, hs, hr, hp]

end Sys2Proof.Machine

open Sys2Proof Sys2Proof.Machine

/-- Settles O7, each change of state from what the event does to the Hearth and what it touches. -/
theorem servoChangesState : Obligations.ServoChangesState := by
  unfold Obligations.ServoChangesState
  refine ⟨?align, ?refused, ?lostAcquire, ?lostTrack, ?qualify, ?refJump⟩
  case align =>
    intro s hh hs hf hp hstep
    refine ⟨s.acquired, run_next s _ hh, ?_⟩
    rw [State.acquired_align hs hf hp hstep]
    exact ⟨rfl, rfl, rfl, rfl, rfl, rfl, State.only_modHearth _ (State.only_refl _ _ _) (by simp)⟩
  case refused =>
    intro s hh hs hf hp hstep hback
    refine ⟨s.acquired, run_next s _ hh, ?_⟩
    rw [State.acquired_refused hs hf hp hstep hback]
    simp only [State.raise_hearth, State.modHearth_hearth, true_and]
    exact ⟨State.raise_bit _ _ (by decide) (by decide), State.only_raise _ _ (State.only_modHearth _ (State.only_refl _ _ _) (by simp))
      (fun _ hp => List.mem_cons_of_mem _ hp) (fun _ hk => hk)⟩
  case lostAcquire =>
    intro s hh hs hq hgone
    refine ⟨s.sourceLost, (run_next s _ hh).trans (congrArg _ (if_pos hgone)), ?_⟩
    rw [State.sourceLost_acquire hs hq]
    have hfree := s.deselected.toFree_only
    have halt := s.deselected.toFree.reselectAlt_only
    have hkeep {o : Obj} {j : Nat} (hk : o.key j ∉ [keyOf O.UPSTREAM_ALT]) :
        s.deselected.toFree.reselectAlt.obj o j = s.deselected.obj o j :=
      (State.only_obj halt hk).trans (State.only_obj hfree (by simp))
    have hrate : s.deselected.obj O.HEARTH_RATE 3 = s.obj O.HEARTH_RATE 3 :=
      (State.obj_setObj_ne _ _ (by decide)).trans (s.markLost_obj _ (by decide) (by decide))
    refine ⟨?_, ?_, ?_, (hkeep (by decide)).trans s.deselected_source, (hkeep (by decide)).trans hrate, ?_⟩
    · simp
    · rw [State.reselectAlt_hearth, State.toFree_stepUsed, State.deselected_hearth]
    · rw [State.reselectAlt_hearth, State.toFree_count, State.deselected_hearth]
    · exact State.only_trans (State.only_mono halt (by simp) (by simp)) (State.only_trans (State.only_mono hfree (by simp) (by simp))
        (State.only_mono s.deselected_only (by simp) (by simp)))
  case lostTrack =>
    intro s hh hs hf hq hgone halt hrates
    refine ⟨s.sourceLost, (run_next s _ hh).trans (congrArg _ (if_pos hgone)), ?_⟩
    rw [State.sourceLost_track hs hf hq halt]
    have hheld := s.noteBound.deselected.enterHoldover_only
    have halt := s.noteBound.deselected.enterHoldover.reselectAlt_only
    have hnote := s.noteBound_only
    have hsource : s.noteBound.source = s.source := rfl
    have hservo : s.noteBound.deselected.enterHoldover.reselectAlt.servo = s.noteBound.deselected.enterHoldover.servo :=
      halt.1 .servo (by simp)
    obtain ⟨hb0, hleft⟩ := s.noteBound.deselected.enterHoldover_bound
    obtain ⟨hhold, hrate⟩ := State.enterHoldover_rates (s := s.noteBound.deselected) (by rw [State.deselected_servo]; exact hrates)
    refine ⟨?_, ?_, ?_, ?_, ?_, ?_, ?_, ?_⟩
    · simp [State.enterHoldover_hearth]
    · simp [State.enterHoldover_hearth]
    · rw [State.only_obj halt (by decide), State.only_obj hheld (by decide), State.deselected_source]
    · rw [State.only_obj halt (by decide), hhold, State.deselected_servo]
      rfl
    · rw [State.only_obj halt (by decide), hrate, State.deselected_servo]
      rfl
    · rw [hservo, hb0, State.deselected_servo]
      rfl
    · rw [hservo, hleft, State.deselected_servo]
      rfl
    · exact State.only_trans (State.only_mono halt (by simp) (by simp)) (State.only_trans (State.only_mono hheld (by simp) (by simp))
        (State.only_trans (State.only_mono s.noteBound.deselected_only (by simp) (by simp [hsource]))
          (State.only_mono hnote (by simp) (by simp))))
  case qualify =>
    intro s hh hs hq hj
    refine ⟨s.qualShort, run_next s _ hh, ?_⟩
    rw [State.qualShort_qualify hq hs hj, State.enterTrack_hearth]
    exact ⟨rfl, rfl, fun hθ => if_neg hθ, rfl, s.enterTrack_only _⟩
  case refJump =>
    intro s hh hs hr hq hp
    refine ⟨s.qualLong, run_next s _ hh, ?_⟩
    rw [State.qualLong_refJump hs hr hq hp, State.enterTrack_hearth]
    exact ⟨rfl, rfl, fun hθ => if_neg hθ, rfl, s.enterTrack_only _⟩
end

section
/-! PROOF. The counter of the Hearth (R15, R20, R23, R24, R26, R29, R32, R43, R47): its wrap, its shadow, the conditioner's updates and the
commit cycle of a step. -/

namespace Sys2Proof.Machine

variable {s : State}

/-! What a run of the counter touches. -/

theorem State.f0Run_only (s : State) (k : Nat) : (s.f0Run k).only s [.hearth] [keyOf O.F0_CNT] := by
  unfold State.f0Run
  dsimp only
  split
  · exact State.only_refl _ _ _
  · exact State.only_modHearth _ (State.only_setObj _ (State.only_refl _ _ _) (by decide)) (by decide)

theorem State.setCount_only (s : State) (v : Int) :
    (s.setCount v).only s (.hearth :: flagParts) (keyOf O.HEARTH_WRAP :: flagKeys O.HEARTH_FLAGS) := by
  unfold State.setCount
  extract_lets w u v
  have hu : u.only s (.hearth :: flagParts) (keyOf O.HEARTH_WRAP :: flagKeys O.HEARTH_FLAGS) :=
    State.only_modHearth _ (State.only_refl _ _ _) (by simp)
  have hv : v.only s (.hearth :: flagParts) (keyOf O.HEARTH_WRAP :: flagKeys O.HEARTH_FLAGS) := by
    unfold v
    split
    · exact hu
    · exact State.only_setObj _ hu (by simp)
  split
  · exact State.only_raise _ _ hv (fun _ hp => List.mem_cons_of_mem _ hp) (fun _ hk => List.mem_cons_of_mem _ hk)
  · exact hv

/-- What running cycles may touch beside the Hearth and its flags. -/
def runKeys : List Nat := keyOf O.HEARTH_WRAP :: keyOf O.F0_CNT :: flagKeys O.HEARTH_FLAGS

theorem State.hearthRun_only (s : State) (k : Nat) : (s.hearthRun k).only s (.hearth :: flagParts) runKeys := by
  unfold State.hearthRun
  dsimp only
  split
  · exact State.only_refl _ _ _
  · refine State.only_trans (State.only_mono (State.setCount_only _ _) (by simp) (by simp [runKeys]; grind)) ?_
    exact State.only_trans (State.only_mono (State.f0Run_only _ _) (by simp) (by simp [runKeys]))
      (State.only_modHearth _ (State.only_refl _ _ _) (by simp))

/-! The wrap of the nanosecond field (R32, R43). -/

theorem State.toWrap_bounds (hi : 0 < s.obj O.HEARTH_INC) :
    2 ^ 72 ≤ s.hearth.count.toNat + s.toWrap * s.obj O.HEARTH_INC ∧
      s.hearth.count.toNat + s.toWrap * s.obj O.HEARTH_INC < 2 ^ 72 + s.obj O.HEARTH_INC := by
  have hc : s.hearth.count.toNat < 2 ^ 72 := s.hearth.count.isLt
  unfold State.toWrap
  generalize s.obj O.HEARTH_INC = inc at hi ⊢
  generalize s.hearth.count.toNat = c at hc ⊢
  dsimp only
  rw [if_neg hi.ne']
  have hdiv := Nat.div_add_mod' (2 ^ 72 - c + inc - 1) inc
  have hmod := Nat.mod_lt (2 ^ 72 - c + inc - 1) hi
  omega

/-- A count that crosses the nanosecond field once, forward. -/
theorem State.setCount_once {v : Int} (h : v / (2 ^ 72 : Int) = 1) :
    s.setCount v = ((s.modHearth fun h => { h with count := BitVec.ofInt 72 v }).setObj O.HEARTH_WRAP
      (((s.obj O.HEARTH_WRAP : Int) + 1) % (2 ^ 32 : Int)).toNat).raise O.HEARTH_FLAGS 6 := by
  simp only [State.setCount, h, one_ne_zero, if_false, zero_lt_one, if_true]
  rfl

theorem State.setCount_wrap {v : Int} (h : v / (2 ^ 72 : Int) = 1) :
    (s.setCount v).obj O.HEARTH_WRAP = (s.obj O.HEARTH_WRAP + 1) % 2 ^ 32 := by
  rw [State.setCount_once h, State.raise_obj _ _ _ _ (by decide)]
  refine (State.obj_setObj_same _ _ _ _).trans ?_
  show (((s.obj O.HEARTH_WRAP : Int) + 1) % (2 ^ 32 : Int)).toNat % 2 ^ 32 = _
  omega

theorem State.setCount_flag {v : Int} (h : v / (2 ^ 72 : Int) = 1) : ((s.setCount v).obj O.HEARTH_FLAGS).testBit 6 = true := by
  rw [State.setCount_once h]
  exact State.raise_bit _ _ (by decide) (by decide)

/-- The Hearth runs on to the cycle that wraps the nanosecond field. -/
theorem State.hearthRun_toWrap (hr : s.hearth.running = true) (hi : 0 < s.obj O.HEARTH_INC) (hlt : s.obj O.HEARTH_INC < 2 ^ 64) :
    ((s.hearthRun s.toWrap).obj O.HEARTH_WRAP = (s.obj O.HEARTH_WRAP + 1) % 2 ^ 32) ∧
      ((s.hearthRun s.toWrap).obj O.HEARTH_FLAGS).testBit 6 = true ∧
      (s.hearthRun s.toWrap).hearth.count.toNat < s.obj O.HEARTH_INC := by
  obtain ⟨hlo, hhi⟩ := State.toWrap_bounds hi
  have honce : ((s.hearth.count.toNat : Int) + s.toWrap * s.obj O.HEARTH_INC) / (2 ^ 72 : Int) = 1 := by
    rw [← Nat.cast_mul]; omega
  refine ⟨?_, ?_, ?_⟩
  · simp only [State.hearthRun, hr, Bool.not_true, Bool.false_eq_true, if_false]
    rw [State.setCount_wrap honce, State.only_obj (State.f0Run_only _ _) (by decide)]
    rfl
  · simp only [State.hearthRun, hr, Bool.not_true, Bool.false_eq_true, if_false]
    exact State.setCount_flag honce
  · rw [State.hearthRun_count hr, BitVec.toNat_ofNat]
    omega

/-! The conditioner (R23, R24). -/

/-- An interval never applies more than is left. -/
theorem shareOf_natAbs_le (full left : Int) : (shareOf full left).natAbs ≤ left.natAbs := by
  unfold shareOf
  split_ifs <;> omega

/-- An interval applies in the direction of what is left. -/
theorem shareOf_mul_nonneg (full left : Int) : 0 ≤ shareOf full left * left := by
  unfold shareOf
  split_ifs with h0 hle hneg
  · simp
  · exact mul_self_nonneg left
  · exact mul_nonneg_of_nonpos_of_nonpos (by omega) hneg.le
  · exact mul_nonneg (by omega) (by omega)

/-- With no ACCEPT and no share of a step under way an update is the end of an interval and the start of the next. -/
theorem State.conditioner_eq (hr : s.hearth.running = true) (ha : s.hearth.acceptWait = false) (hp : s.hearth.phase ≠ .committed) :
    s.conditioner = s.endInterval.startInterval := by
  have hwait : s.endInterval.startInterval.hearth.acceptWait = false := by simp [State.endInterval, State.startInterval, ha]
  have hphase : s.endInterval.startInterval.hearth.phase ≠ .committed := by simpa [State.endInterval, State.startInterval] using hp
  have haccept : s.endInterval.startInterval.acceptDone = s.endInterval.startInterval := by simp [State.acceptDone, hwait]
  have hshare : s.endInterval.startInterval.shareDone = s.endInterval.startInterval := by simp [State.shareDone, hphase]
  simp [State.conditioner, hr, haccept, hshare]

theorem State.startInterval_slew (h : s.hearth.slewLeft = 0) : s.startInterval.obj O.HEARTH_SLEW = 0 := by
  unfold State.startInterval
  simp only [h, if_true]
  exact (State.modHearth_obj ..).trans (State.obj_setObj_same _ _ _ _)

theorem State.startInterval_only (s : State) : s.startInterval.only s [.hearth] [keyOf O.HEARTH_SLEW] := by
  unfold State.startInterval
  exact State.only_modHearth _ (State.only_setObj _ (State.only_modHearth _ (State.only_refl _ _ _) (by decide)) (by decide)) (by decide)

/-- The slew of the next interval is a part of what is left. -/
theorem State.startInterval_slewNow (s : State) : ∃ full, s.startInterval.hearth.slewNow = shareOf full s.hearth.slewLeft := by
  exact ⟨_, rfl⟩

theorem State.startInterval_hearth (s : State) : s.startInterval.hearth = { s.hearth with
    rate := s.objI O.HEARTH_RATE, slewNow := s.startInterval.hearth.slewNow, shareNow := s.startInterval.hearth.shareNow
    updAt := s.hearth.cycles } := by
  simp [State.startInterval]

/-! The commit cycle of a step (R26, R29). -/

theorem State.commitShare_count (s : State) :
    s.commitShare.hearth.count = BitVec.ofInt 72 (s.hearth.count.toNat + s.obj O.HEARTH_INC + s.hearth.stepK * s.f0Period) := by
  simp [State.commitShare, State.setCount_hearth]

theorem State.commitShare_cycles (s : State) : s.commitShare.hearth.cycles = s.hearth.cycles + 1 := by
  simp [State.commitShare, State.setCount_hearth, State.f0Run_hearth_cycles]

/-- With the share of the step complete the servo leaves ALIGN with the counter as it stands; the step has been used, so that none is
computed again. -/
theorem State.shareDone_committed (hp : s.hearth.phase = .committed) (hu : s.hearth.stepUsed = true) :
    s.shareDone.hearth.stepUsed = true ∧ s.shareDone.hearth.phase ≠ .computed ∧ s.shareDone.hearth.cycles = s.hearth.cycles ∧
      s.shareDone.hearth.count = s.hearth.count := by
  unfold State.shareDone
  simp only [State.modHearth_hearth, hu, Bool.not_true, Bool.false_eq_true, if_false]
  repeat' split
  · simp [hu, hp]
  · simp [hu]
  · simp [State.enterHoldover_hearth, hu]
  · simp [State.enterTrack_hearth, hu]

/-- The commit adds the counter share of the step to the counter as it stands in the commit cycle; what else it does is none of the
counter's. -/
theorem State.stepCommit_eq (hp : s.hearth.phase = .computed) : ∃ u : State, s.stepCommit = u.shareDone ∧
    u.hearth.phase = .committed ∧ u.hearth.stepUsed = true ∧
    u.hearth.cycles = (s.hearthRun (s.hearth.stepAt + 127 - s.hearth.cycles)).commitShare.hearth.cycles ∧
    u.hearth.count = (s.hearthRun (s.hearth.stepAt + 127 - s.hearth.cycles)).commitShare.hearth.count := by
  unfold State.stepCommit
  rw [if_neg (by simp [hp])]
  refine ⟨_, rfl, ?_⟩
  repeat' split
  all_goals simp

/-- No cycle leaves the counter as it is. -/
theorem State.hearthRun_zero_count (hr : s.hearth.running = true) : (s.hearthRun 0).hearth.count = s.hearth.count := by
  simp [State.hearthRun_count hr]

end Sys2Proof.Machine

open Sys2Proof Sys2Proof.Machine

/-- Settles O6: the counter's arithmetic over the cycles to the wrap and in the commit cycle, and the shares of an update. -/
theorem hearthCounterRuns : Obligations.HearthCounterRuns := by
  unfold Obligations.HearthCounterRuns
  refine ⟨?wrap, ?read, ?update, ?commit⟩
  case wrap =>
    intro s hh hr hi hlt
    obtain ⟨hwrap, hflag, hcount⟩ := State.hearthRun_toWrap hr hi hlt
    exact ⟨s.keeping fun s => s.hearthRun s.toWrap, runKeep_next s _ hh, hwrap, hflag, hcount, State.hearthRun_cycles hr _,
      State.only_keeping (State.hearthRun_only s _)⟩
  case read =>
    intro s hh
    refine ⟨s.keeping _, runKeep_next s _ hh, rfl, rfl, rfl, rfl, State.only_keeping ?_⟩
    exact State.only_emit _ (State.only_modHearth _ (State.only_refl _ _ _) (by simp)) (by simp)
  case update =>
    intro s hh hr ha hp
    refine ⟨s.conditioner, run_next s _ hh, ?_⟩
    rw [State.conditioner_eq hr ha hp, State.startInterval_hearth]
    obtain ⟨full, hnow⟩ := s.endInterval.startInterval_slewNow
    refine ⟨rfl, rfl, rfl, rfl, ?_, ?_, State.startInterval_slew, ?_⟩
    · rw [hnow]
      exact shareOf_natAbs_le _ _
    · rw [hnow]
      exact shareOf_mul_nonneg _ _
    · exact State.only_trans s.endInterval.startInterval_only (State.only_modHearth _ (State.only_refl _ _ _) (by simp))
  case commit =>
    intro s hh hp hr hcyc
    obtain ⟨u, hu, hphase, hused, hcycles, hcount⟩ := State.stepCommit_eq hp
    obtain ⟨hstep, hnone, hdonecyc, hdonecount⟩ := State.shareDone_committed hphase hused
    have hnow : s.hearth.stepAt + 127 - s.hearth.cycles = 0 := by omega
    rw [hnow] at hcycles hcount
    have hinc : (s.hearthRun 0).obj O.HEARTH_INC = s.obj O.HEARTH_INC := State.only_obj (s.hearthRun_only 0) (by decide)
    have hm : (s.hearthRun 0).obj O.CLK_M = s.obj O.CLK_M := State.only_obj (s.hearthRun_only 0) (by decide)
    refine ⟨s.stepCommit, run_next s _ hh, ?_⟩
    rw [hu]
    refine ⟨hstep, hnone, ?_, ?_⟩
    · rw [hdonecyc, hcycles, State.commitShare_cycles, State.hearthRun_cycles hr, Nat.add_zero]
    · rw [hdonecount, hcount, State.commitShare_count, State.hearthRun_zero_count hr, hinc, State.hearthRun_stepK,
        State.f0Period, State.hearthM, hinc, hm]
      rfl
end

section
/-! PROOF. First light, and the reset by software (R20, R509, R512, R529). -/

namespace Sys2Proof.Machine

variable {s : State}

theorem State.boot_again (h : s.power.booted = true) (ms : Nat) : s.boot ms = s := by
  simp [State.boot, h]

/-! A write of 0xA5 to SYS_RESET passes the tests of R558 and resets the part. -/

/-- The item that writes 0xA5 to SYS_RESET. -/
def resetItem : FalriItem := ⟨BitVec.ofNat 16 O.SYS_RESET.index, BitVec.ofNat 8 0, [0xA5]⟩

theorem findObj_resetItem : findObj resetItem.index.toNat resetItem.sub.toNat = .obj O.SYS_RESET := by
  decide +kernel

/-- SYS_RESET has no rule but its type and its range (R529). -/
theorem State.checkObj_sysReset (s t fin : State) (path : Nat) (expert : Bool) {v : Bytes} (hty : typeOk O.SYS_RESET v = true)
    (hrange : statedRange O.SYS_RESET v = true) : s.checkObj t fin path expert O.SYS_RESET 0 v = 0 := by
  have hacc : O.SYS_RESET.acc = .wo := rfl
  have hexp : O.SYS_RESET.exp = false := rfl
  have hown : t.ownRange O.SYS_RESET 0 v = true := rfl
  have hopll : fin.opllTest O.SYS_RESET 0 = true := rfl
  have hbusy : s.busyWrite O.SYS_RESET 0 v = false := rfl
  have hrefuse : s.ownRefuse t path O.SYS_RESET 0 v = false := rfl
  simp [State.checkObj, hacc, hexp, hty, hrange, hown, hopll, hbusy, hrefuse]

theorem State.checkAll_resetItem (s : State) (path : Nat) : s.checkAll path [resetItem] = [0] := by
  have hwrite (t fin : State) (expert : Bool) : s.checkWrite t fin path expert resetItem = 0 := by
    rw [State.checkWrite, findObj_resetItem]
    exact s.checkObj_sysReset _ _ _ _ (by decide) (by decide)
  simp [State.checkAll, State.checkItems, hwrite]

/-- SYS_RESET is no command of the table and no setting of an OPLL: before the cycle ends the write has done nothing. -/
theorem State.applyItem_resetItem (s : State) : s.applyItem resetItem = s := by
  have hopll : (opllOf O.SYS_RESET resetItem.sub.toNat).isSome = false := rfl
  have hplain (v : Bytes) : s.writePlain O.SYS_RESET 0 v = s := rfl
  have hkeep (v : Bytes) : s.keeping (·.writePlain O.SYS_RESET 0 v) = s :=
    (State.keeping_eq _ (congrArg State.hearth (hplain v))).trans (hplain v)
  rw [State.applyItem, findObj_resetItem]
  exact hkeep _

theorem itemOpll_resetItem : itemOpll resetItem = none := by
  rw [itemOpll, findObj_resetItem]
  rfl

theorem State.applyItems_resetItem (s : State) : s.applyItems [resetItem] = s.sysReset := by
  have hreset : itemReset resetItem = true := by decide
  have hid : s.keeping (forEach [0, 1, 2, 3] fun t _ => t) = s := State.keeping_eq _ rfl
  simp [State.applyItems, State.applyItem_resetItem, itemOpll_resetItem, hreset, hid]

/-- A path that may write resets the part. -/
theorem State.objectWrite_sysReset {path : Nat} (h : s.mayWritePath path = true) :
    s.objectWrite path O.SYS_RESET.index 0 [0xA5] = s.sysReset := by
  have hitems : s.writeItems path [resetItem] = s.sysReset := by
    simp [State.writeItems, State.checkAll_resetItem, State.applyItems_resetItem]
  rw [State.objectWrite, h]
  exact hitems

/-! What the reset keeps: the objects of TEMP and TEMP_PEAK (R509, R529). -/

theorem Tab.get_filter {α : Type} (t : Tab α) (p : Nat → Bool) (d : α) (k : Nat) :
    Tab.get (t.filter fun e => p e.1) d k = if p k then Tab.get t d k else d := by
  induction t with
  | nil => simp
  | cons e t ih =>
    obtain ⟨k', v⟩ := e
    cases hp : p k' with
    | true =>
      simp only [List.filter_cons, hp, if_true, Tab.get, ih]
      split
      · next hk => rw [← hk, hp, if_pos rfl]
      · rfl
    | false =>
      simp only [List.filter_cons, hp, Bool.false_eq_true, if_false, Tab.get, ih]
      split
      · next hk => rw [if_neg fun he => by simp [he, hk] at hp]
      · rfl

theorem State.sysReset_obj (s : State) (o : Obj) {sub : Nat} (h : sub < 256) :
    s.sysReset.obj o sub = if o.index = O.TEMP.index ∨ o.index = O.TEMP_PEAK.index then s.obj o sub else o.dflt := by
  have hget : s.sysReset.obj o sub = Tab.get s.tempObjs o.dflt (o.key sub) := rfl
  rw [hget, State.tempObjs, Tab.get_filter s.objs (fun k => k / 256 == 0x8000 || k / 256 == 0x8001), o.key_div h]
  exact if_congr (by simp [O.TEMP, O.TEMP_PEAK]) rfl rfl

/-! A path that the Gatehouse closes (R387, R397). -/

theorem State.denied_only (s : State) (path : Nat) :
    (s.denied path).only s flagParts (O.GATE_DENIED.key 0 :: O.GATE_LAST_DENIED.key 0 :: flagKeys O.DICT_FLAGS) := by
  unfold State.denied
  refine State.only_raise _ _ (State.only_setObj _ (State.only_count _ _ _ (State.only_refl _ _ _) ?_) ?_) (fun _ hp => hp) ?_
  · exact List.mem_cons_self
  · exact List.mem_cons_of_mem _ List.mem_cons_self
  · exact fun _ hk => List.mem_cons_of_mem _ (List.mem_cons_of_mem _ hk)

theorem State.denied_count (s : State) (path : Nat) :
    (s.denied path).obj O.GATE_DENIED = min (s.obj O.GATE_DENIED + 1) (2 ^ 32 - 1) := by
  have hne : keyOf O.GATE_DENIED ≠ keyOf O.GATE_LAST_DENIED := by decide
  unfold State.denied
  rw [State.raise_obj _ _ _ _ (by decide), State.obj_setObj_ne _ _ hne, State.count_u32 _ _ _ _ rfl]

theorem State.objectWrite_denied {path : Nat} (h : s.mayWritePath path = false) (i sub : Nat) (v : Bytes) :
    s.objectWrite path i sub v = s.keeping (·.denied path) := by
  simp [State.objectWrite, h]

end Sys2Proof.Machine

open Sys2Proof Sys2Proof.Machine

/-- Settles O5, by what the boot loader leaves of the Hearth and by the one item of a write to SYS_RESET through the Gatehouse. -/
theorem bootStartsTheHearth : Obligations.BootStartsTheHearth := by
  unfold Obligations.BootStartsTheHearth
  refine ⟨?boot, ?again, ?reset, ?denied⟩
  case boot =>
    intro s ms hh hb hp
    obtain ⟨hhearth, hbooted⟩ := State.boot_hearth ms hb hp
    refine ⟨s.boot ms, run_next s (·.boot ms) hh, hbooted, ?_⟩
    rw [hhearth]
    exact ⟨rfl, rfl, rfl, rfl, rfl, rfl⟩
  case again =>
    intro s ms hb
    by_cases hh : s.held = true
    · exact run_held s (·.boot ms) hh
    · exact (run_next s (·.boot ms) (by simpa using hh)).trans (by rw [State.boot_again hb])
  case reset =>
    intro s path hh hw
    have hrun : exec (.sysReset path 0xA5) s = .next s.sysReset :=
      (run_next s (·.objectWrite (pathCode path) O.SYS_RESET.index 0 [0xA5]) hh).trans (by rw [State.objectWrite_sysReset hw])
    refine ⟨s.sysReset, hrun, rfl, rfl, rfl, rfl, rfl, rfl, rfl, fun o sub h => s.sysReset_obj o h, fun p hp => ?_⟩
    cases p <;> simp at hp <;> rfl
  case denied =>
    intro s path v hh hw
    have hrun : exec (.sysReset path v) s = .next (s.keeping (·.denied (pathCode path))) :=
      (run_next s (·.objectWrite (pathCode path) O.SYS_RESET.index 0 [v]) hh).trans (by rw [State.objectWrite_denied hw])
    refine ⟨s.keeping (·.denied (pathCode path)), hrun, ?_, State.only_keeping (s.denied_only _)⟩
    rw [State.keeping_obj, State.denied_count]
end

section
/-! PROOF. A lane in training (R82, R83, R87, R89, R103, R120): what a change of its state, a failure and a new start leave, and O10 from
them. -/

namespace Sys2Proof.Machine

variable {s t : State} {l : List Part} {ks : List Nat}

/-! Objects of other indices, and LINK_STATE through the updates. -/

/-- An object of another index stands. -/
theorem State.obj_setObj_other {o o' : Obj} (v : Nat) {sub j : Nat} (h : o'.index ≠ o.index) (hj : j < 256) (hs : sub < 256) :
    (s.setObj o v sub).obj o' j = s.obj o' j := State.obj_setObj_ne _ _ (Obj.key_ne h hj hs)

/-- Another subindex of the same object stands. -/
theorem State.obj_setObj_sub {o : Obj} (v : Nat) {sub j : Nat} (h : j ≠ sub) : (s.setObj o v sub).obj o j = s.obj o j :=
  State.obj_setObj_ne _ _ fun hk => h (Nat.add_left_cancel hk)

@[simp] theorem State.modLane_linkState (m : Nat) (f : Lane → Lane) (n : Nat) : (s.modLane m f).linkState n = s.linkState n := (rfl)
@[simp] theorem State.modGroup_linkState (m : Nat) (f : Group → Group) (n : Nat) : (s.modGroup m f).linkState n = s.linkState n := (rfl)

@[simp] theorem State.setLinkState_same (v n : Nat) : (s.setObj O.LINK_STATE v (n + 1)).linkState n = v % 2 ^ 8 :=
  State.obj_setObj_same _ _ _ _

theorem State.setObj_linkState {o : Obj} (v : Nat) {sub n : Nat} (h : O.LINK_STATE.index ≠ o.index) (hn : n < 255) (hs : sub < 256) :
    (s.setObj o v sub).linkState n = s.linkState n := State.obj_setObj_other _ h (by omega) hs

theorem State.endStatus_linkState {o : Obj} (st r : Nat) {sub n : Nat} (h : O.LINK_STATE.index ≠ o.index) (hn : n < 255) (hs : sub < 256) :
    (s.endStatus o sub st r).linkState n = s.linkState n := State.obj_setObj_other _ h (by omega) hs

/-- The outcome of the command in progress, as its status word shows it. -/
theorem State.endStatus_fields (s : State) (o : Obj) (sub st r : Nat) (h : 2 ≤ o.ty.bytes) :
    (s.endStatus o sub st r).status o sub = st % 16 ∧ bits ((s.endStatus o sub st r).obj o sub) 7 4 = bits (s.obj o sub) 7 4 ∧
      bits ((s.endStatus o sub st r).obj o sub) 15 12 = r % 16 := by
  obtain ⟨hst, hcmd, -, hr⟩ := s.setStatus_fields o sub r (bit (s.obj o sub) 8) (bits (s.obj o sub) 7 4) st h
  exact ⟨hst, hcmd.trans (Nat.mod_mod _ _), hr⟩

/-! A lane that trains is native, and has no ABORT or failure behind it. -/

theorem State.training_iff (n : Nat) : s.training n = true ↔ s.native n = true ∧ (s.group (groupOf n)).sfcOn = true ∧
    s.tpllOk (groupOf n) = true ∧ s.linkState n ≤ 7 ∧ (s.lane n).failed = false ∧ (s.lane n).aborted = false ∧
    (s.lane n).removed = false ∧ (s.lane n).test = false ∧ s.laneIdled n = false := by
  simp [State.training, and_assoc]

theorem State.ethFree_of_native {n : Nat} (h : s.native n = true) : s.ethFree n = false := by
  simp [State.ethFree, h]

/-- A lane for which no ABORT waits changes state. -/
theorem State.toState_eq {n : Nat} (h : (s.lane n).abortWait = false) (v : Nat) : s.toState n v = s.setObj O.LINK_STATE v (n + 1) := by
  simp [State.toState, h]

/-! A training that fails. -/

/-- The state in which lane `n`'s training has failed with a reason, flags apart (R83, R103). -/
def State.trainingFailed (s : State) (n r : Nat) : State :=
  ((s.setObj O.LINK_STATE 0 (n + 1)).modLane n fun l => { l with failed := true, abortWait := false, decided := false }).endStatus
    O.LINK_CMD_STATUS (n + 1) 5 r

theorem State.failTraining_eq {n r : Nat} (h : (s.lane n).abortWait = false) : s.failTraining n r =
    if r = 3 then (s.trainingFailed n r).raise O.LINK_FLAGS 3 (n + 1)
    else if r = 5 then (s.trainingFailed n r).raise O.LINK_FLAGS 4 (n + 1) else s.trainingFailed n r := by
  rw [State.failTraining, h]
  rfl

theorem State.trainingFailed_linkState {n : Nat} (hn : n < 48) (r : Nat) : (s.trainingFailed n r).linkState n = 0 := by
  rw [State.trainingFailed, State.endStatus_linkState _ _ (by decide) (by omega) (by omega), State.modLane_linkState]
  exact State.setLinkState_same 0 n

theorem State.trainingFailed_lane (n r : Nat) : ((s.trainingFailed n r).lane n).failed = true := by
  simp [State.trainingFailed]

theorem State.trainingFailed_status (n r : Nat) : (s.trainingFailed n r).status O.LINK_CMD_STATUS (n + 1) = 5 ∧
    bits ((s.trainingFailed n r).obj O.LINK_CMD_STATUS (n + 1)) 15 12 = r % 16 := by
  obtain ⟨hst, -, hr⟩ := State.endStatus_fields ((s.setObj O.LINK_STATE 0 (n + 1)).modLane n fun l =>
    { l with failed := true, abortWait := false, decided := false }) O.LINK_CMD_STATUS (n + 1) 5 r (by decide)
  exact ⟨hst, hr⟩

theorem State.trainingFailed_only (s : State) (n r : Nat) :
    (s.trainingFailed n r).only s [.lanes] [keyOf O.LINK_STATE (n + 1), keyOf O.LINK_CMD_STATUS (n + 1)] :=
  State.only_endStatus _ _ (State.only_modLane _ _ (State.only_setObj _ (State.only_refl _ _ _) (by simp)) (by simp)) (by simp)

/-- A command that fails the training of a lane, with a reason that raises no flag. -/
theorem runKeep_trainingFailed {g : State → State} (n : Fin 48) {r : Nat} (hh : s.held = false) (ha : (s.lane n).abortWait = false)
    (hr : r < 16 ∧ r ≠ 3 ∧ r ≠ 5) (hg : g s = s.failTraining n r) :
    ∃ t, runKeep s g = .next t ∧ t.linkState n = 0 ∧ (t.lane n).failed = true ∧ t.status O.LINK_CMD_STATUS (n + 1) = 5 ∧
      bits (t.obj O.LINK_CMD_STATUS (n + 1)) 15 12 = r ∧
      t.only s [.lanes] [keyOf O.LINK_STATE (n + 1), keyOf O.LINK_CMD_STATUS (n + 1)] := by
  obtain ⟨h16, h3, h5⟩ := hr
  rw [State.failTraining_eq ha, if_neg h3, if_neg h5] at hg
  have ho := s.trainingFailed_only n r
  obtain ⟨hst, hreason⟩ := s.trainingFailed_status n r
  rw [← hg] at ho hst hreason
  refine ⟨g s, runKeep_of_only hh ho (by simp), ?_, ?_, hst, hreason.trans (Nat.mod_eq_of_lt h16), ho⟩
  · rw [hg, State.trainingFailed_linkState n.isLt]
  · rw [hg, State.trainingFailed_lane]

/-! CDR lock (R82, R87). -/

/-- Where no calibration rests on the lane's idleness, leaving DOWN violates none (R465). -/
theorem State.calBusyLane_eq {n : Nat} (h1 : (s.calRec 1 n).direct = false) (h0 : (s.calRec 0 n).state ≠ 2) : s.calBusyLane n = s := by
  simp [State.calBusyLane, State.calViolate, h1, h0]

theorem State.cdrLock_eq {n : Nat} (ht : s.training n = true) (h0 : s.linkState n = 0) (hm : (s.group (groupOf n)).mode ≠ 0xFF)
    (ha : (s.lane n).abortWait = false) (h1 : (s.calRec 1 n).direct = false) (h2 : (s.calRec 0 n).state ≠ 2) :
    s.cdrLock n = (s.setObj O.LINK_STATE 1 (n + 1)).modLane n fun l => { l with slip := 0, decided := false } := by
  obtain ⟨hnat, -, -, -, -, -, hrem, htest, hidle⟩ := (s.training_iff n).mp ht
  have hstay : ¬ (s.linkState n ≠ 0 ∨ (s.lane n).removed = true ∨ (s.lane n).test = true ∨ s.laneIdled n = true ∨
      (s.group (groupOf n)).mode = 0xFF) := by simp [h0, hrem, htest, hidle, hm]
  rw [State.cdrLock, if_neg hstay, if_pos hnat, if_pos ht, State.calBusyLane_eq h1 h2, State.toState_eq ha]

/-! The search and its confirmation (R87, R89). -/

/-- No decision point has been met yet. -/
theorem State.bitslip_eq {n : Nat} (ht : s.training n = true) (h1 : s.linkState n = 1) (hd : (s.lane n).decided = false)
    (l : List (List (BitVec 2))) : s.bitslip n l = match (l.take (130 - (s.lane n).slip)).findIdx? positionOk with
      | some i => s.modLane n fun x => { x with decided := true, slip := (s.lane n).slip + i }
      | none => if 130 ≤ (s.lane n).slip + l.length then s.failTraining n 1
        else s.modLane n fun x => { x with slip := (s.lane n).slip + l.length } := by
  rw [State.bitslip, ht, h1, hd]
  rfl

theorem State.bitslip_found {n : Nat} (ht : s.training n = true) (h1 : s.linkState n = 1) (hd : (s.lane n).decided = false)
    {l : List (List (BitVec 2))} {i : Nat} (hf : (l.take (130 - (s.lane n).slip)).findIdx? positionOk = some i) :
    s.bitslip n l = s.modLane n fun x => { x with decided := true, slip := (s.lane n).slip + i } := by
  rw [State.bitslip_eq ht h1 hd, hf]

theorem State.bitslip_exhausted {n : Nat} (ht : s.training n = true) (h1 : s.linkState n = 1) (hd : (s.lane n).decided = false)
    {l : List (List (BitVec 2))} (hlen : 130 ≤ (s.lane n).slip + l.length) (hno : ∀ x ∈ l, positionOk x = false) :
    s.bitslip n l = s.failTraining n 1 := by
  have hnone : (l.take (130 - (s.lane n).slip)).findIdx? positionOk = none :=
    List.findIdx?_eq_none_iff.mpr fun x hx => hno x (List.mem_of_mem_take hx)
  rw [State.bitslip_eq ht h1 hd, hnone]
  exact if_pos hlen

/-- The confirmation of a native lane in its search that has met its decision point. -/
theorem State.lockConfirm_eq {n : Nat} (ht : s.training n = true) (h1 : s.linkState n = 1) (hd : (s.lane n).decided = true)
    (ha : (s.lane n).abortWait = false) (hs : List (BitVec 2)) : s.lockConfirm n hs =
      if hs.countP (fun h => !headerValid h) ≤ 16 then
        (((s.setObj O.LINK_SLIP (s.lane n).slip (n + 1)).modLane n fun l => { l with superN := 0 }).setObj O.LINK_STATE 2 (n + 1)).settle
          (groupOf n)
      else if 129 ≤ (s.lane n).slip then s.failTraining n 1
      else s.modLane n fun l => { l with slip := l.slip + 1, decided := false } := by
  have hnat := ((s.training_iff n).mp ht).1
  have hwait : (((s.setObj O.LINK_SLIP (s.lane n).slip (n + 1)).modLane n fun l => { l with superN := 0 }).lane n).abortWait = false := by
    simp [ha]
  rw [State.lockConfirm, State.ethFree_of_native hnat, ht, h1, hd, ha]
  simp only [State.toState_eq hwait, State.setLinkState_same]
  rfl

/-! SUPER (R56, R61, R83). -/

/-- A lane that has received a SUPER at a word edge `tw`: its descrambler is seeded (R56). -/
def Lane.superSeen (l : Lane) (b : Body) (tw : Time56) : Lane :=
  { l with descr := scrSeed (blk b 119 88) (blk b 71 70), sfcRx := blk b 119 88, superN := l.superN + 1, superAt := tw }

/-- A SUPER that a lane in BLOCK_LOCK receives seeds its descrambler and moves it on. -/
theorem State.superIn_eq {n : Nat} (hnat : s.native n = true) (h2 : s.linkState n = 2) (ht : (s.lane n).test = false)
    (ha : (s.lane n).abortWait = false) {b : Body} (hb : blk b 63 16 = 0xC3A55A3C96E1) (a : LineTime) :
    s.superIn n b a = ((s.sampled n a.codes).modLane n (·.superSeen b a.tw)).setObj O.LINK_STATE 3 (n + 1) := by
  have hkeep : (((s.sampled n a.codes).modLane n (·.superSeen b a.tw)).lane n).abortWait = false := by
    simp [State.sampled, Lane.superSeen, ha]
  have hstate : ((s.sampled n a.codes).modLane n (·.superSeen b a.tw)).linkState n = 2 := h2
  rw [State.superIn, hnat, h2, ht, hb]
  exact (if_pos hstate).trans (State.toState_eq hkeep 3)

theorem State.sampled_only (s : State) (n : Nat) (codes : List PhaseRun) : (s.sampled n codes).only s [.lanes] [] :=
  State.only_modLane _ _ (State.only_refl _ _ _) (by simp)

/-! A training that starts (R83, R120). -/

theorem State.startTraining_linkState {n : Nat} (hn : n < 48) : (s.startTraining n).linkState n = 0 := by
  rw [State.startTraining, State.setObj_linkState _ (by decide) (by omega) (by omega), State.modLane_linkState]
  exact State.setLinkState_same 0 n

theorem State.startTraining_taps (n : Nat) : (s.startTraining n).obj O.TX_TAPS (n + 1) = s.obj O.TX_TAP_INIT (n + 1) % 2 ^ 32 :=
  State.obj_setObj_same _ _ _ _

theorem State.startTraining_only (s : State) (n : Nat) :
    (s.startTraining n).only s [.lanes, .cal] [keyOf O.LINK_STATE (n + 1), keyOf O.TX_TAPS (n + 1)] :=
  State.only_startTraining n (State.only_refl _ _ _) (by simp) (by simp) (by simp) (by simp)

theorem State.calTrain_lane (n m : Nat) : (s.calTrain n).lane m = s.lane m := by
  simp [State.calTrain, State.calTrigger]

/-- A lane whose training starts stands as before training, but for what outlives one. -/
theorem State.startTraining_lane (n : Nat) : (s.startTraining n).lane n = { s.lane n with
    stCm1 := 0, stC0 := 0, stCp1 := 0, reqCm1 := 0, reqC0 := 0, reqCp1 := 0, peerRx := 0, readyRun := 0, slip := 0, decided := false,
    failed := false, aborted := false, skewDone := false, peerReq := none, superN := 0, aligned := false, leave := 0, deskIn := none,
    rxInv := false } := by
  rw [State.startTraining, State.setObj_lane, State.modLane_lane, if_pos rfl, State.setObj_lane, State.calTrain_lane]

end Sys2Proof.Machine

open Sys2Proof Sys2Proof.Machine

/-- Settles O10, clause by clause: the search, its confirmation, SUPER, the time limits and the retry. -/
theorem trainingSearches : Obligations.TrainingSearches := by
  unfold Obligations.TrainingSearches
  refine ⟨?cdr, ?found, ?exhausted, ?confirmed, ?next, ?last, ?super, ?noSuper, ?timeout, ?retry⟩
  case cdr =>
    intro s n hh ht h0 hm ha h1 h2
    have hs := State.cdrLock_eq ht h0 hm ha h1 h2
    have ho : (s.cdrLock n).only s [.lanes] [keyOf O.LINK_STATE (n + 1)] :=
      hs ▸ State.only_modLane _ _ (State.only_setObj _ (State.only_refl _ _ _) (by simp)) (by simp)
    refine ⟨_, runKeep_of_only hh ho (by simp), ?_, ?_, fun m hm => ?_, ho⟩ <;> rw [hs]
    · exact State.setLinkState_same 1 n
    · simp
    · simp [hm]
  case found =>
    intro s n l i hh ht h1 hd hf
    exact runKeep_modLane (g := (·.bitslip n l)) n _ hh (State.bitslip_found ht h1 hd hf)
  case exhausted =>
    intro s n l hh ht h1 hd ha hlen hno
    exact runKeep_trainingFailed n hh ha (by decide) (State.bitslip_exhausted ht h1 hd hlen hno)
  case confirmed =>
    intro s n hs hh ht h1 hd ha hslip hbad
    have he := (State.lockConfirm_eq ht h1 hd ha hs).trans (if_pos hbad)
    have ho : (s.lockConfirm n hs).only s [.lanes, .groups] [keyOf O.LINK_STATE (n + 1), keyOf O.LINK_SLIP (n + 1)] :=
      he ▸ State.only_modGroup _ _ (State.only_setObj _ (State.only_modLane _ _ (State.only_setObj _ (State.only_refl _ _ _) (by simp))
        (by simp)) (by simp)) (by simp)
    refine ⟨_, runKeep_of_only hh ho (by simp), ?_, ?_, ?_, fun m hm => ?_, ho⟩ <;> rw [he, State.settle]
    · exact State.setLinkState_same 2 n
    · rw [State.modGroup_obj, State.obj_setObj_other _ (by decide) (by omega) (by omega), State.modLane_obj, State.obj_setObj_same]
      exact Nat.mod_eq_of_lt (lt_of_le_of_lt hslip (by decide))
    · simp
    · simp [hm]
  case next =>
    intro s n hs hh ht h1 hd ha hslip hbad
    exact runKeep_modLane (g := (·.lockConfirm n hs)) n _ hh
      ((State.lockConfirm_eq ht h1 hd ha hs).trans ((if_neg (Nat.not_le.mpr hbad)).trans (if_neg (Nat.not_le.mpr hslip))))
  case last =>
    intro s n hs hh ht h1 hd ha hslip hbad
    exact runKeep_trainingFailed n hh ha (by decide)
      ((State.lockConfirm_eq ht h1 hd ha hs).trans ((if_neg (Nat.not_le.mpr hbad)).trans (if_pos hslip.ge)))
  case super =>
    intro s n b a hh hnat h2 htest ha hb
    have hs := State.superIn_eq hnat h2 htest ha hb a
    have ho : (s.superIn n b a).only s [.lanes] [keyOf O.LINK_STATE (n + 1)] :=
      hs ▸ State.only_setObj _ (State.only_modLane _ _ (State.only_mono (s.sampled_only n a.codes) (by simp) (by simp)) (by simp)) (by simp)
    refine ⟨_, runKeep_of_only hh ho (by simp), ?_, ?_, ho⟩ <;> rw [hs]
    · exact State.setLinkState_same 3 n
    · simp [State.sampled, Lane.superSeen]
  case noSuper =>
    intro s n hh ht h2 ha
    exact runKeep_trainingFailed n hh ha (by decide) (if_pos (by simp [ht, h2]))
  case timeout =>
    intro s n hh ht ha
    exact runKeep_trainingFailed n hh ha (by decide) (if_pos ht)
  case retry =>
    intro s n hh hf ha
    have hs : (if (s.lane n).failed && !(s.lane n).aborted then s.startTraining n else s) = s.startTraining n := if_pos (by simp [hf, ha])
    refine ⟨s.startTraining n, ?_, State.startTraining_linkState n.isLt, ?_, ?_, State.startTraining_taps n, s.startTraining_only n⟩
    · exact (runKeep_of_only hh (hs.symm ▸ s.startTraining_only n) (by simp)).trans (congrArg _ hs)
    · rw [State.startTraining_lane]
    · rw [State.startTraining_lane]
end

section
/-! PROOF. The handshake of a training, its end, the skew measurement and LANEMAP (R83 to R86, R88, R91, R93 to R97), and O11 from them. -/

namespace Sys2Proof.Machine

variable {s t : State}

/-! Updates that a lane's figures do not see. -/

@[simp] theorem State.modLPort_linkState (m : Nat) (f : LPort → LPort) (n : Nat) : (s.modLPort m f).linkState n = s.linkState n := (rfl)
@[simp] theorem State.emit_linkState (e : Emit) (n : Nat) : (s.emit e).linkState n = s.linkState n := (rfl)
@[simp] theorem State.emit_trainBody (e : Emit) (n : Nat) : (s.emit e).trainBody n = s.trainBody n := (rfl)
@[simp] theorem State.modLane_status (m : Nat) (f : Lane → Lane) (o : Obj) (n : Nat) : (s.modLane m f).status o n = s.status o n := (rfl)
@[simp] theorem State.modLane_latUnits (m : Nat) (f : Lane → Lane) (n u a : Nat) : (s.modLane m f).latUnits n u a = s.latUnits n u a := (rfl)

/-- A lane's unit intervals are measured by CLK_M and HEARTH_INC alone. -/
theorem State.setObj_latUnits {o : Obj} (v : Nat) {sub : Nat} (hm : O.CLK_M.index ≠ o.index) (hi : O.HEARTH_INC.index ≠ o.index)
    (hs : sub < 256) (n u a : Nat) : (s.setObj o v sub).latUnits n u a = s.latUnits n u a := by
  have hper : (s.setObj o v sub).f0Period = s.f0Period := by
    rw [State.f0Period, State.f0Period, State.hearthM, State.hearthM, State.obj_setObj_other v hm (by decide) hs,
      State.obj_setObj_other v hi (by decide) hs]
  rw [State.latUnits, State.latUnits, hper]
  rfl

/-- A status word of another index stands. -/
theorem State.status_setObj_other {o o' : Obj} (v : Nat) {sub j : Nat} (h : o'.index ≠ o.index) (hj : j < 256) (hs : sub < 256) :
    (s.setObj o v sub).status o' j = s.status o' j := by
  rw [State.status, State.obj_setObj_other v h hj hs]
  rfl

/-! What a TRAIN block asks of the transmitter, and the state that the lane reports (R84, R85, R120). -/

/-- The lane's state stands in the top field of the TRAIN body that it sends. -/
theorem State.trainBody_top (n : Nat) : s.trainBody n / 2 ^ 100 = min (s.linkState n) 6 := by
  have hmin : min (s.linkState n) 6 < 16 := by omega
  unfold State.trainBody fld
  dsimp only
  omega

theorem State.trainBody_ne {n : Nat} (h : min (t.linkState n) 6 ≠ min (s.linkState n) 6) : t.trainBody n ≠ s.trainBody n :=
  fun he => h (by rw [← State.trainBody_top, ← State.trainBody_top, he])

/-- INIT PRESET sets the taps and answers all three requests (R85, R120). -/
theorem State.tapHandshake_preset (n : Nat) {b : Body} (hb : blk b 115 113 = 1) : s.tapHandshake n b =
    (s.setObj O.TX_TAPS (tapsOf 0 63 0) (n + 1)).modLane n fun l => { l with stCm1 := 1, stC0 := 1, stCp1 := 1 } := by
  simp [State.tapHandshake, hb]

/-- A lane in TX_TRAIN goes on to TAP_TRAIN with the next TRAIN block. -/
theorem State.trainAdvance_three {n : Nat} (h3 : s.linkState n = 3) (ha : (s.lane n).abortWait = false) (b : Body) (rx : RxFinding) :
    s.trainAdvance n b rx = (s.tapWishes n b rx).setObj O.LINK_STATE 4 (n + 1) := by
  have hstate : (s.tapWishes n b rx).linkState n = 3 := h3
  have hkeep : ((s.tapWishes n b rx).lane n).abortWait = false := by simp [State.tapWishes, ha]
  simp only [State.trainAdvance, hstate]
  exact State.toState_eq hkeep 4

theorem State.tapWishes_only (s : State) (n : Nat) (b : Body) (rx : RxFinding) : (s.tapWishes n b rx).only s [.lanes] [] := by
  unfold State.tapWishes
  exact State.only_modLane _ _ (State.only_refl _ _ _) (by simp)

theorem State.tapWishes_obj (n : Nat) (b : Body) (rx : RxFinding) (o : Obj) (j : Nat) : (s.tapWishes n b rx).obj o j = s.obj o j := (rfl)

theorem State.rxLane_only (s : State) (n : Nat) : (s.rxLane n).only s [.lanes] [] :=
  State.only_modLane _ _ (State.only_refl _ _ _) (by simp)

/-- A lane with the PRESET of a TRAIN block taken up and moved on from TX_TRAIN. -/
def State.presetTaken (s : State) (n : Nat) (b : Body) (rx : RxFinding) : State :=
  (((((s.rxLane n).setObj O.TX_TAPS (tapsOf 0 63 0) (n + 1)).modLane n fun l => { l with stCm1 := 1, stC0 := 1, stCp1 := 1 }).tapWishes
    n b rx).setObj O.LINK_STATE 4 (n + 1))

theorem State.presetTaken_only (s : State) (n : Nat) (b : Body) (rx : RxFinding) :
    (s.presetTaken n b rx).only s [.lanes] [keyOf O.LINK_STATE (n + 1), keyOf O.TX_TAPS (n + 1)] :=
  State.only_setObj _ (State.only_trans (State.only_mono (State.tapWishes_only _ n b rx) (by simp) (by simp))
    (State.only_modLane _ _ (State.only_setObj _ (State.only_mono (s.rxLane_only n) (by simp) (by simp)) (by simp)) (by simp))) (by simp)

theorem State.presetTaken_taps {n : Nat} (hn : n < 48) (b : Body) (rx : RxFinding) :
    (s.presetTaken n b rx).obj O.TX_TAPS (n + 1) = 0x3F00 := by
  rw [State.presetTaken, State.obj_setObj_other _ (by decide) (by omega) (by omega), State.tapWishes_obj, State.modLane_obj,
    State.obj_setObj_same]
  decide

theorem State.trainIn_preset {n : Nat} (hn : n < 48) (ht : s.training n = true) (h3 : s.linkState n = 3) (ha : (s.lane n).abortWait = false)
    {b : Body} (hrate : blk b 99 88 = s.portN n) (hb : blk b 115 113 = 1) (rx : RxFinding) :
    s.trainIn n b rx = (s.presetTaken n b rx).emit (.train n ((s.presetTaken n b rx).trainBody n)) := by
  have hnat := ((s.training_iff n).mp ht).1
  have hdiff : (s.presetTaken n b rx).trainBody n ≠ s.trainBody n :=
    State.trainBody_ne (by rw [State.presetTaken, State.setLinkState_same, h3]; decide)
  have hstep : ((s.rxLane n).tapHandshake n b).trainAdvance n b rx = s.presetTaken n b rx := by
    rw [State.tapHandshake_preset n hb, State.trainAdvance_three _ (by simp [State.rxLane, ha]), State.presetTaken]
    rw [State.modLane_linkState, State.setObj_linkState _ (by decide) (by omega) (by omega)]
    exact h3
  rw [State.trainIn, State.ethFree_of_native hnat, ht, h3]
  simp [hstep, hrate, hdiff]

/-- A RATE_N that is not the lane's own fails the training (R83). -/
theorem State.trainIn_rate {n : Nat} (ht : s.training n = true) (h3 : 3 ≤ s.linkState n) (h6 : s.linkState n ≤ 6) {b : Body}
    (hrate : blk b 99 88 ≠ s.portN n) (rx : RxFinding) : s.trainIn n b rx = s.failTraining n 3 := by
  have hnat := ((s.training_iff n).mp ht).1
  rw [State.trainIn, State.ethFree_of_native hnat, ht]
  simp [Nat.not_lt.mpr h3, Nat.not_lt.mpr h6, hrate]

/-! The latency record (R90, R91). -/

theorem State.setLat_only (s : State) (n : Nat) :
    (s.setLat n).only s [] [keyOf O.LINK_TX_LAT (n + 1), keyOf O.LINK_RX_LAT (n + 1)] :=
  State.only_setObj _ (State.only_setObj _ (State.only_refl _ _ _) (by simp)) (by simp)

/-- An object other than the two latencies stands. -/
theorem State.setLat_obj {o : Obj} {j n : Nat} (htx : o.index ≠ O.LINK_TX_LAT.index) (hrx : o.index ≠ O.LINK_RX_LAT.index) (hj : j < 256)
    (hn : n < 48) : (s.setLat n).obj o j = s.obj o j := by
  rw [State.setLat, State.obj_setObj_other _ hrx hj (by omega), State.obj_setObj_other _ htx hj (by omega)]

@[simp] theorem State.setLat_lane (n m : Nat) : (s.setLat n).lane m = s.lane m := by simp [State.setLat]

theorem State.setLat_tx {n : Nat} (hn : n < 48) :
    (s.setLat n).obj O.LINK_TX_LAT (n + 1) = s.latUnits n 390 (s.lane n).anaTx % 2 ^ 64 := by
  rw [State.setLat, State.obj_setObj_other _ (by decide) (by omega) (by omega), State.obj_setObj_same]
  rfl

theorem State.setLat_rx (n : Nat) : (s.setLat n).obj O.LINK_RX_LAT (n + 1) =
    s.latUnits n (390 + s.obj O.LINK_SLIP (n + 1) + 130 * s.obj O.LINK_DESKEW (n + 1)) (s.lane n).anaRx % 2 ^ 64 :=
  State.obj_setObj_same _ _ _ _

/-! The end of a training (R82, R86, R91, R96). -/

/-- A lane that no ABORT stops and no RETRAIN waits for is READY. -/
theorem State.laneReady_eq {n : Nat} (ha : (s.lane n).abortWait = false) (hst : s.status O.LINK_CMD_STATUS (n + 1) ≠ 1) (hn : n < 48) :
    s.laneReady n = (s.setObj O.LINK_STATE 8 (n + 1)).modLane n fun l => { l with skewDone := true, aligned := true } := by
  have hkeep : ((s.setObj O.LINK_STATE 8 (n + 1)).modLane n fun l => { l with skewDone := true, aligned := true }).status
      O.LINK_CMD_STATUS (n + 1) ≠ 1 := by
    rw [State.modLane_status, State.status_setObj_other _ (by decide) (by omega) (by omega)]
    exact hst
  rw [State.laneReady, ha]
  exact if_neg hkeep

/-- The latency record of a lane whose training ends: no deskew, and the new slip (R91). -/
def State.latRecorded (s : State) (n : Nat) : State := (s.setObj O.LINK_DESKEW 0 (n + 1)).setLat n

theorem State.latRecorded_obj {o : Obj} {j n : Nat} (ho : o.index ∉ [O.LINK_DESKEW.index, O.LINK_TX_LAT.index, O.LINK_RX_LAT.index])
    (hj : j < 256) (hn : n < 48) : (s.latRecorded n).obj o j = s.obj o j := by
  simp only [List.mem_cons, List.not_mem_nil, or_false, not_or] at ho
  obtain ⟨hd, htx, hrx⟩ := ho
  rw [State.latRecorded, State.setLat_obj htx hrx hj hn, State.obj_setObj_other _ hd hj (by omega)]

theorem State.latRecorded_only (s : State) (n : Nat) :
    (s.latRecorded n).only s [] [keyOf O.LINK_DESKEW (n + 1), keyOf O.LINK_TX_LAT (n + 1), keyOf O.LINK_RX_LAT (n + 1)] :=
  State.only_trans (State.only_mono (State.setLat_only _ n) (by simp) (by simp))
    (State.only_setObj _ (State.only_refl _ _ _) (by simp))

theorem State.latRecorded_deskew {n : Nat} (hn : n < 48) : (s.latRecorded n).obj O.LINK_DESKEW (n + 1) = 0 := by
  rw [State.latRecorded, State.setLat_obj (by decide) (by decide) (by omega) hn]
  exact State.obj_setObj_same _ _ _ _

theorem State.latRecorded_latUnits {n : Nat} (hn : n < 48) (k u a : Nat) : (s.latRecorded n).latUnits k u a = s.latUnits k u a := by
  rw [State.latRecorded, State.setLat, State.setObj_latUnits _ (by decide) (by decide) (by omega),
    State.setObj_latUnits _ (by decide) (by decide) (by omega), State.setObj_latUnits _ (by decide) (by decide) (by omega)]

@[simp] theorem State.latRecorded_lane (n m : Nat) : (s.latRecorded n).lane m = s.lane m := by simp [State.latRecorded]

@[simp] theorem State.latRecorded_lport (n m : Nat) : (s.latRecorded n).lport m = s.lport m := by simp [State.latRecorded, State.setLat]

/-- A lane in RX_READY that has seen eight ready blocks ends its training; what follows depends on the width of its port. -/
theorem State.trained_eq {n : Nat} (ht : s.training n = true) (h6 : s.linkState n = 6) (h8 : 8 ≤ (s.lane n).readyRun)
    (ha : (s.lane n).abortWait = false) : s.trained n =
      if (s.latRecorded n).width (s.portOf n) = 1 then (((s.latRecorded n).setObj O.LINK_LANE_SKEW 0 (n + 1)).setLat n).laneReady n
      else
        let s' := ((s.latRecorded n).toState n 7).modLane n fun l => { l with superN := 0, deskIn := none }
        if (s'.lport (s.portOf n)).up then s'
        else forEach ((s'.alignLanes (s.portOf n)).filter fun k => 8 ≤ s'.linkState k) (fun s k =>
          (s.setObj O.LINK_STATE 7 (k + 1)).modLane k fun l => { l with skewDone := false }) s' := by
  have hgo : (!s.training n || s.linkState n != 6 || decide ((s.lane n).readyRun < 8)) = false := by
    simp [ht, h6, h8]
  rw [State.trained, hgo, ha]
  rfl

theorem State.latRecorded_width {n p : Nat} (hp : p < 48) (hn : n < 48) : (s.latRecorded n).width p = s.width p :=
  State.latRecorded_obj (by decide) (by omega) hn

theorem State.portOf_le (s : State) (n : Nat) : s.portOf n ≤ n := by
  unfold State.portOf
  cases h : [n - 3, n - 2, n - 1].find? _ with
  | none => simp
  | some p =>
    have hp := List.find?_some h
    simp only [Bool.and_eq_true, decide_eq_true_eq] at hp
    simp only [Option.getD_some]
    omega

/-- The record of a one-lane port's lane whose training ends, its skew 0. -/
def State.singleRecorded (s : State) (n : Nat) : State := ((s.latRecorded n).setObj O.LINK_LANE_SKEW 0 (n + 1)).setLat n

theorem State.singleRecorded_only (s : State) (n : Nat) : (s.singleRecorded n).only s [] [keyOf O.LINK_DESKEW (n + 1),
    keyOf O.LINK_LANE_SKEW (n + 1), keyOf O.LINK_TX_LAT (n + 1), keyOf O.LINK_RX_LAT (n + 1)] :=
  State.only_trans (State.only_mono (State.setLat_only _ n) (by simp) (by simp))
    (State.only_setObj _ (State.only_mono (s.latRecorded_only n) (by simp) (by simp)) (by simp))

theorem State.singleRecorded_obj {o : Obj} {j n : Nat}
    (ho : o.index ∉ [O.LINK_DESKEW.index, O.LINK_TX_LAT.index, O.LINK_RX_LAT.index]) (hk : o.index ≠ O.LINK_LANE_SKEW.index)
    (hj : j < 256) (hn : n < 48) : (s.singleRecorded n).obj o j = s.obj o j := by
  have ho' := ho
  simp only [List.mem_cons, List.not_mem_nil, or_false, not_or] at ho'
  obtain ⟨-, htx, hrx⟩ := ho'
  rw [State.singleRecorded, State.setLat_obj htx hrx hj hn, State.obj_setObj_other _ hk hj (by omega), State.latRecorded_obj ho hj hn]

/-- The lane of a one-lane port is READY (R86, R91). -/
theorem State.trained_single {n : Nat} (hn : n < 48) (ht : s.training n = true) (h6 : s.linkState n = 6) (h8 : 8 ≤ (s.lane n).readyRun)
    (ha : (s.lane n).abortWait = false) (hw : s.width (s.portOf n) = 1) (hst : s.status O.LINK_CMD_STATUS (n + 1) ≠ 1) : s.trained n =
      ((s.singleRecorded n).setObj O.LINK_STATE 8 (n + 1)).modLane n fun l => { l with skewDone := true, aligned := true } := by
  have hle := s.portOf_le n
  rw [State.trained_eq ht h6 h8 ha, State.latRecorded_width (by omega) hn, if_pos hw]
  refine State.laneReady_eq (s := s.singleRecorded n) ha ?_ hn
  rw [State.status, State.singleRecorded_obj (by decide) (by decide) (by omega) hn]
  exact hst

/-- A lane of a bonded port in service measures its skew (R96). -/
theorem State.trained_bonded {n : Nat} (hn : n < 48) (ht : s.training n = true) (h6 : s.linkState n = 6) (h8 : 8 ≤ (s.lane n).readyRun)
    (ha : (s.lane n).abortWait = false) (hw : s.width (s.portOf n) ≠ 1) (hup : (s.lport (s.portOf n)).up = true) : s.trained n =
      ((s.latRecorded n).setObj O.LINK_STATE 7 (n + 1)).modLane n fun l => { l with superN := 0, deskIn := none } := by
  have hle := s.portOf_le n
  rw [State.trained_eq ht h6 h8 ha, State.latRecorded_width (by omega) hn, if_neg hw,
    State.toState_eq (s := s.latRecorded n) (n := n) ha]
  exact if_pos hup

/-! The skew measurement ends (R96). -/

/-- State `t` stands as `s` but for the phase readings of its lanes. -/
def State.samplesOf (t s : State) : Prop := t.only s [.lanes] [] ∧ ∀ k, t.lane k = { s.lane k with cdr := (t.lane k).cdr }

theorem State.samplesOf_refl (s : State) : s.samplesOf s := ⟨State.only_refl _ _ _, fun _ => rfl⟩

theorem State.samplesOf_trans {r : State} (h1 : t.samplesOf s) (h2 : s.samplesOf r) : t.samplesOf r :=
  ⟨State.only_trans h1.1 h2.1, fun k => (h1.2 k).trans (by rw [h2.2 k])⟩

theorem State.sampled_samplesOf (s : State) (n : Nat) (codes : List PhaseRun) : (s.sampled n codes).samplesOf s := by
  refine ⟨s.sampled_only n codes, fun k => ?_⟩
  rw [State.sampled, State.modLane_lane]
  split
  next h => rw [h]
  next => rfl

theorem State.skewSum_samplesOf (p n : Nat) (l : List SkewEx) (a : Int) (s : State) : (s.skewSum p n l a).2.samplesOf s := by
  induction l generalizing s a with
  | nil => exact s.samplesOf_refl
  | cons e r ih => exact State.samplesOf_trans (ih _ _) (s.sampled_samplesOf n e.back.codes)

theorem State.skewMeans_samplesOf (p i : Nat) (ls : List (List SkewEx)) (s : State) : (s.skewMeans p i ls).2.samplesOf s := by
  induction ls generalizing s i with
  | nil => exact s.samplesOf_refl
  | cons l r ih => exact State.samplesOf_trans (ih _ _) (State.skewSum_samplesOf p (p + i) l 0 s)

/-- A measured lane takes its skew and is READY (R96). -/
def State.skewTaken (s : State) (n : Nat) (z : Int) : State :=
  ((s.setObjI O.LINK_LANE_SKEW z (n + 1)).setObj O.LINK_STATE 8 (n + 1)).modLane n fun l => { l with skewDone := true, aligned := true }

theorem State.skewTaken_eq {n : Nat} (hn : n < 48) (z : Int) (ha : (s.lane n).abortWait = false)
    (hst : s.status O.LINK_CMD_STATUS (n + 1) ≠ 1) : (s.setObjI O.LINK_LANE_SKEW z (n + 1)).laneReady n = s.skewTaken n z := by
  refine State.laneReady_eq ha ?_ hn
  rw [State.setObjI, State.status_setObj_other _ (by decide) (by omega) (by omega)]
  exact hst

theorem State.skewTaken_only (s : State) (n : Nat) (z : Int) :
    (s.skewTaken n z).only s [.lanes] [keyOf O.LINK_STATE (n + 1), keyOf O.LINK_LANE_SKEW (n + 1)] :=
  State.only_modLane _ _ (State.only_setObj _ (State.only_setObj _ (State.only_refl _ _ _) (by simp)) (by simp)) (by simp)

theorem State.skewTaken_lane (n m : Nat) (z : Int) : (s.skewTaken n z).lane m =
    if m = n then { s.lane n with skewDone := true, aligned := true } else s.lane m := by
  simp [State.skewTaken]

theorem State.skewTaken_linkState (n m : Nat) (z : Int) (hm : m < 48) (hn : n < 48) :
    (s.skewTaken n z).linkState m = if m = n then 8 else s.linkState m := by
  rw [State.skewTaken, State.modLane_linkState, State.setObjI]
  split
  next h => rw [h]; exact State.setLinkState_same 8 n
  next h =>
    rw [State.linkState, State.obj_setObj_sub _ (by omega), State.obj_setObj_other _ (by decide) (by omega) (by omega)]
    rfl

theorem State.skewTaken_skew (n m : Nat) (z : Int) (hm : m < 48) (hn : n < 48) :
    (s.skewTaken n z).obj O.LINK_LANE_SKEW (m + 1) = if m = n then ofSigned 64 z else s.obj O.LINK_LANE_SKEW (m + 1) := by
  rw [State.skewTaken, State.modLane_obj, State.obj_setObj_other _ (by decide) (by omega) (by omega)]
  split
  next h => rw [h]; exact State.obj_setObjI_same _ _ _ _
  next h => exact State.obj_setObj_sub _ (by omega)

/-- An object of another index than a lane's state and skew stands. -/
theorem State.skewTaken_obj {o : Obj} {j n : Nat} (z : Int) (h1 : o.index ≠ O.LINK_STATE.index) (h2 : o.index ≠ O.LINK_LANE_SKEW.index)
    (hj : j < 256) (hn : n < 48) : (s.skewTaken n z).obj o j = s.obj o j := by
  rw [State.skewTaken, State.modLane_obj, State.obj_setObj_other _ h1 hj (by omega), State.setObjI,
    State.obj_setObj_other _ h2 hj (by omega)]

/-- Both lanes of a two-lane port that is not yet in service take their means, position 0 as the reference. -/
theorem State.skewDone_two {p : Nat} {ex : List (List SkewEx)} (hp : p < 47) (hnat : s.native p = true) (hup : (s.lport p).up = false)
    (hw : s.width p = 2) (hl : s.skewLanes p = [p, p + 1]) (h0 : ex.getD 0 [] ≠ []) (h1 : ex.getD 1 [] ≠ [])
    (hready : ∀ n, n = p ∨ n = p + 1 → (s.lane n).aligned = true ∧ (s.lane n).abortWait = false ∧
      s.status O.LINK_CMD_STATUS (n + 1) ≠ 1) : s.skewDone p ex =
      ((s.skewMeans p 0 ex).2.skewTaken p 0).skewTaken (p + 1) ((s.skewMeans p 0 ex).1.getD 1 0 - (s.skewMeans p 0 ex).1.getD 0 0) := by
  obtain ⟨hal0, hab0, hst0⟩ := hready p (.inl rfl)
  obtain ⟨hal1, hab1, hst1⟩ := hready (p + 1) (.inr rfl)
  have hls : (s.skewLanes p).filter (fun n => (s.lane n).aligned) = [p, p + 1] := by simp [hl, hal0, hal1]
  obtain ⟨honly, hlane⟩ := State.skewMeans_samplesOf p 0 ex s
  have hst (k : Nat) : (s.skewMeans p 0 ex).2.status O.LINK_CMD_STATUS k = s.status O.LINK_CMD_STATUS k :=
    congrArg (bits · 3 0) (State.only_obj honly (by simp))
  have first := State.skewTaken_eq (s := (s.skewMeans p 0 ex).2) (n := p) (by omega) 0 (by rw [hlane p]; exact hab0)
    ((hst (p + 1)).trans_ne hst0)
  have second := State.skewTaken_eq (s := (s.skewMeans p 0 ex).2.skewTaken p 0) (n := p + 1) (by omega)
    ((s.skewMeans p 0 ex).1.getD 1 0 - (s.skewMeans p 0 ex).1.getD 0 0)
    (by rw [State.skewTaken_lane, if_neg (by omega), hlane (p + 1)]; exact hab1)
    (by
      rw [State.status, State.skewTaken_obj _ (by decide) (by decide) (by omega) (by omega)]
      exact (hst (p + 1 + 1)).trans_ne hst1)
  simpa [State.skewDone, hls, hnat, hup, hw, h0, h1, forEach, first, -List.getD_eq_getElem?_getD] using second

/-! LANEMAP on the lane of a one-lane port that is still in training (R93, R94). -/

/-- No lane that takes part in an alignment: none is aligned (R95). -/
theorem State.alignPort_none {p : Nat} (h : s.alignLanes p = []) : s.alignPort p = s := by
  simp [State.alignPort, h]

/-- The lanes of a port are those of its width. -/
theorem State.setObj_portLanes {o : Obj} (v : Nat) {sub p : Nat} (ho : O.PORT_WIDTH.index ≠ o.index) (hs : sub < 256) (hp : p < 48) :
    (s.setObj o v sub).portLanes p = s.portLanes p := by
  rw [State.portLanes, State.width, State.obj_setObj_other v ho (by omega) hs]
  rfl

/-- No trained lane: no state to refresh (R82). -/
theorem State.refreshStates_low {p : Nat} (h : ∀ n ∈ s.portLanes p, s.linkState n < 8) : s.refreshStates p = s := by
  suffices go : ∀ ls : List Nat, (∀ n ∈ ls, s.linkState n < 8) → forEach ls (fun s n => if 8 ≤ s.linkState n then
      s.setObj O.LINK_STATE (if bit (s.txAct p) (n - p) || s.inRx n then 9 else if s.native p then 8 else 2) (n + 1) else s) s = s from
    go _ h
  intro ls
  induction ls with
  | nil => exact fun _ => rfl
  | cons n ls ih =>
    intro hl
    have hn : ¬ 8 ≤ s.linkState n := Nat.not_le.mpr (hl n List.mem_cons_self)
    exact (congrArg _ (if_neg hn)).trans (ih fun m hm => hl m (List.mem_cons_of_mem _ hm))

theorem State.moveTiming_none {p : Nat} (h : s.txAct p = 0) : s.moveTiming p = s := by
  simp [State.moveTiming, h, bitsOf]

/-- Active sets that stay empty on a port without a trained lane. -/
theorem State.setActive_empty {p : Nat} (hp : p < 48) (hact : s.obj O.PORT_ACTIVE (p + 1) = 0) (hlow : ∀ n ∈ s.portLanes p, n < 255 ∧ s.linkState n < 8) :
    s.setActive p 0 0 = s.setObj O.PORT_ACTIVE 0 (p + 1) := by
  have htx : s.txAct p = 0 := by simp [State.txAct, hact, bits]
  have hrx : s.rxAct p = 0 := by simp [State.rxAct, hact, bits]
  have hmove : (s.setObj O.PORT_ACTIVE 0 (p + 1)).moveTiming p = s.setObj O.PORT_ACTIVE 0 (p + 1) :=
    State.moveTiming_none (by rw [State.txAct, State.obj_setObj_same]; rfl)
  have hrefresh : (s.setObj O.PORT_ACTIVE 0 (p + 1)).refreshStates p = s.setObj O.PORT_ACTIVE 0 (p + 1) := by
    refine State.refreshStates_low fun n hn => ?_
    rw [State.setObj_portLanes 0 (by decide) (by omega) hp] at hn
    rw [State.setObj_linkState _ (by decide) (hlow n hn).1 (by omega)]
    exact (hlow n hn).2
  simp [State.setActive, htx, hrx, hmove, hrefresh]

/-- A lane in RX_READY of a one-lane port that is not in service takes the peer's position and identity from LANEMAP (R94). -/
theorem State.lanemapIn_single {n : Nat} (hn : n < 48) (hnat : s.native n = true) (h6 : s.linkState n = 6) (ht : (s.lane n).test = false)
    (hr : (s.lane n).removed = false) (hp : s.portOf n = n) (hw : s.width n = 1) (hact : s.obj O.PORT_ACTIVE (n + 1) = 0) (b : Body) :
    s.lanemapIn n b = (((((s.rxLane n).modLane n fun l =>
      { l with posRx := blk b 119 118, deskIn := some (blk b 105 96, blk b 117 116, blk b 89 89) }).modLPort n fun l =>
      { l with peerAct := blk b 115 112, peerOk := blk b 111 108 }).setObj O.PORT_PEER (blk b 89 89 * 2 ^ 31 + blk b 105 96) (n + 1)).setObj
      O.PORT_ACTIVE 0 (n + 1)) := by
  generalize hu : ((((s.rxLane n).modLane n fun l =>
      { l with posRx := blk b 119 118, deskIn := some (blk b 105 96, blk b 117 116, blk b 89 89) }).modLPort n fun l =>
      { l with peerAct := blk b 115 112, peerOk := blk b 111 108 }).setObj O.PORT_PEER (blk b 89 89 * 2 ^ 31 + blk b 105 96) (n + 1)) = u
  have hobj {o : Obj} (ho : o.index ≠ O.PORT_PEER.index) : u.obj o (n + 1) = s.obj o (n + 1) := by
    rw [← hu, State.obj_setObj_other _ ho (by omega) (by omega)]
    rfl
  have hul : u.linkState n = 6 := (hobj (by decide)).trans h6
  have hur : (u.lane n).removed = false := by
    rw [← hu]
    simp [State.rxLane, hr]
  have hports : u.portLanes n = [n] := by
    rw [State.portLanes, State.width, hobj (by decide), show s.obj O.PORT_WIDTH (n + 1) = 1 from hw]
    rfl
  have halign : u.alignPort n = u := State.alignPort_none (by simp [State.alignLanes, hports, hul])
  have hgo : (!s.native n || decide (s.linkState n < 6) || (s.lane n).test) = false := by simp [hnat, h6, ht]
  have hset : u.setActive n 0 0 = u.setObj O.PORT_ACTIVE 0 (n + 1) :=
    State.setActive_empty hn ((hobj (by decide)).trans hact) (by simp [hports, hul]; omega)
  have htx : u.txAct n = 0 := by rw [State.txAct, hobj (by decide), hact]; rfl
  rw [State.lanemapIn, hgo]
  simp only [hp, hu, halign, hports, htx]
  simp [hul, hur, hset]

end Sys2Proof.Machine

open Sys2Proof Sys2Proof.Machine

/-- Settles O11, clause by clause: a TRAIN block, the end of a training on a port of one lane and of several, the measured skew, the loss
of block lock, and LANEMAP. -/
theorem handshakeAndSkew : Obligations.HandshakeAndSkew := by
  unfold Obligations.HandshakeAndSkew
  refine ⟨?preset, ?rate, ?single, ?bonded, ?skew, ?lockLoss, ?lanemap⟩
  case preset =>
    intro s n b rx hh ht h3 ha hrate hb
    have hs := State.trainIn_preset n.isLt ht h3 ha hrate hb rx
    have ho : (s.trainIn n b rx).only s [.lanes, .out] [keyOf O.LINK_STATE (n + 1), keyOf O.TX_TAPS (n + 1)] :=
      hs ▸ State.only_emit _ (State.only_mono (s.presetTaken_only n b rx) (by simp) (by simp)) (by simp)
    refine ⟨_, runKeep_of_only hh ho (by simp), ?_, ?_, ?_, ?_, ?_, ?_, fun m hm => ?_, ?_, ho⟩ <;> rw [hs]
    · exact State.setLinkState_same 4 n
    · exact State.presetTaken_taps n.isLt b rx
    · simp [State.presetTaken, State.tapWishes]
    · simp [State.presetTaken, State.tapWishes]
    · simp [State.presetTaken, State.tapWishes]
    · simp [State.presetTaken, State.tapWishes]
    · simp [State.presetTaken, State.tapWishes, State.rxLane, hm]
    · rw [State.emit_trainBody]
      rfl
  case rate =>
    intro s n b rx hh ht h3 h6 ha hrate
    have hs := (State.trainIn_rate ht h3 h6 hrate rx).trans ((State.failTraining_eq ha).trans (if_pos rfl))
    have ho : (s.trainIn n b rx).only s (.lanes :: flagParts)
        (keyOf O.LINK_STATE (n + 1) :: keyOf O.LINK_CMD_STATUS (n + 1) :: flagKeys O.LINK_FLAGS (n + 1)) :=
      hs ▸ State.only_raise _ _ (State.only_mono (s.trainingFailed_only n 3) (by simp) (by simp +contextual)) (by simp +contextual)
        (by simp +contextual)
    have hkept {o : Obj} (hi : o.index ≠ O.LINK_FLAGS.index)
        (hw : o.index ∉ [O.LT_LOST.index, O.OBS_FLAGS.index, O.ENG_STATE.index, O.ENG_SLOT_IDLE.index]) :
        ((s.trainingFailed n 3).raise O.LINK_FLAGS 3 (n + 1)).obj o (n + 1) = (s.trainingFailed n 3).obj o (n + 1) :=
      State.raise_obj _ _ _ _ (Obj.key_notMem_flagKeys (by omega) (by omega) hi hw)
    obtain ⟨hst, hreason⟩ := s.trainingFailed_status n 3
    refine ⟨_, runKeep_of_only hh ho (by decide), ?_, ?_, ?_, ?_, ?_, ho⟩ <;> rw [hs]
    · exact (hkept (by decide) (by decide)).trans (State.trainingFailed_linkState n.isLt 3)
    · rw [State.raise_lane, State.trainingFailed_lane]
    · rw [State.status, hkept (by decide) (by decide)]
      exact hst
    · rw [hkept (by decide) (by decide)]
      exact hreason
    · have hflags : (s.trainingFailed n 3).obj O.LINK_FLAGS (n + 1) = s.obj O.LINK_FLAGS (n + 1) :=
        State.only_obj (s.trainingFailed_only n 3) (by
          simp only [List.mem_cons, List.not_mem_nil, or_false, not_or]
          exact ⟨Obj.key_ne (by decide) (by omega) (by omega), Obj.key_ne (by decide) (by omega) (by omega)⟩)
      rw [State.raise_obj_same _ _ _ _ (Obj.key_notMem_wakeKeys (by omega) (by decide)), hflags]
      rfl
  case single =>
    intro s n hh ht h6 h8 ha hw hst
    have hs := State.trained_single n.isLt ht h6 h8 ha hw hst
    have ho : (s.trained n).only s [.lanes] [keyOf O.LINK_STATE (n + 1), keyOf O.LINK_DESKEW (n + 1), keyOf O.LINK_LANE_SKEW (n + 1),
        keyOf O.LINK_TX_LAT (n + 1), keyOf O.LINK_RX_LAT (n + 1)] :=
      hs ▸ State.only_modLane _ _ (State.only_setObj _ (State.only_mono (s.singleRecorded_only n) (by simp) (by simp)) (by simp)) (by simp)
    refine ⟨_, runKeep_of_only hh ho (by simp), ?_, ?_, ?_, ?_, ?_, ho⟩ <;> rw [hs]
    · simp
    all_goals rw [State.modLane_obj, State.obj_setObj_other _ (by decide) (by omega) (by omega), State.singleRecorded]
    · rw [State.setLat_obj (by decide) (by decide) (by omega) n.isLt, State.obj_setObj_other _ (by decide) (by omega) (by omega),
        State.latRecorded_deskew n.isLt]
    · rw [State.setLat_obj (by decide) (by decide) (by omega) n.isLt, State.obj_setObj_same, Nat.zero_mod]
    · rw [State.setLat_tx n.isLt, State.setObj_latUnits _ (by decide) (by decide) (by omega), State.latRecorded_latUnits n.isLt,
        State.setObj_lane, State.latRecorded_lane]
    · rw [State.setLat_rx, State.setObj_latUnits _ (by decide) (by decide) (by omega), State.latRecorded_latUnits n.isLt,
        State.obj_setObj_other _ (by decide) (by omega) (by omega), State.obj_setObj_other _ (by decide) (by omega) (by omega),
        State.latRecorded_deskew n.isLt, State.latRecorded_obj (by decide) (by omega) n.isLt, State.setObj_lane, State.latRecorded_lane,
        Nat.mul_zero, Nat.add_zero]
  case bonded =>
    intro s n hh ht h6 h8 ha hw hup
    have hs := State.trained_bonded n.isLt ht h6 h8 ha hw hup
    have ho : (s.trained n).only s [.lanes] [keyOf O.LINK_STATE (n + 1), keyOf O.LINK_DESKEW (n + 1), keyOf O.LINK_TX_LAT (n + 1),
        keyOf O.LINK_RX_LAT (n + 1)] :=
      hs ▸ State.only_modLane _ _ (State.only_setObj _ (State.only_mono (s.latRecorded_only n) (by simp) (by simp)) (by simp)) (by simp)
    refine ⟨_, runKeep_of_only hh ho (by simp), ?_, ?_, ?_, ho⟩ <;> rw [hs]
    · simp
    · rw [State.modLane_obj, State.obj_setObj_other _ (by decide) (by omega) (by omega), State.latRecorded_deskew n.isLt]
    · rw [State.modLane_lane, if_pos rfl, State.setObj_lane, State.latRecorded_lane]
  case skew =>
    intro s p e0 e1 e2 e3 hh hnat hup hp hw hl he0 he1 hready
    have hs := State.skewDone_two (ex := [e0, e1, e2, e3]) hp hnat hup hw hl he0 he1 hready
    have ho : (s.skewDone p [e0, e1, e2, e3]).only s [.lanes] [keyOf O.LINK_STATE (p + 1), keyOf O.LINK_STATE (p + 2),
        keyOf O.LINK_LANE_SKEW (p + 1), keyOf O.LINK_LANE_SKEW (p + 2)] :=
      hs ▸ State.only_trans (State.only_mono (State.skewTaken_only _ (p + 1) _) (by simp) (by simp))
        (State.only_trans (State.only_mono (State.skewTaken_only _ p _) (by simp) (by simp))
          (State.only_mono (State.skewMeans_samplesOf p 0 [e0, e1, e2, e3] s).1 (by simp) (by simp)))
    refine ⟨_, runKeep_of_only hh ho (by simp), ?_, ?_, ?_, ?_, ?_, ?_, ho⟩ <;> rw [hs]
    · rw [State.skewTaken_linkState _ _ _ (by omega) (by omega), if_neg (by omega),
        State.skewTaken_linkState _ _ _ (by omega) (by omega), if_pos rfl]
    · rw [State.skewTaken_linkState _ _ _ (by omega) (by omega), if_pos rfl]
    · rw [State.skewTaken_skew _ _ _ (by omega) (by omega), if_neg (by omega), State.skewTaken_skew _ _ _ (by omega) (by omega),
        if_pos rfl]
      simp [ofSigned]
    · refine (State.skewTaken_skew _ _ _ (by omega) (by omega)).trans ((if_pos rfl).trans (Nat.mod_eq_of_lt (ofSigned_lt 64 _)).symm)
    · rw [State.skewTaken_lane, if_neg (by omega), State.skewTaken_lane, if_pos rfl]
    · rw [State.skewTaken_lane, if_pos rfl]
  case lockLoss =>
    intro s n c hh hnat ht h2 h8 ha
    have htest := ((s.training_iff n).mp ht).2.2.2.2.2.2.2.1
    have hs : s.lockLoss n = s.startTraining n := by
      simp [State.lockLoss, Nat.not_lt.mpr h2, htest, Nat.not_le.mpr h8, hnat, ha, ht]
    have ho : (s.lockLoss n).only s [.lanes, .cal] [keyOf O.LINK_STATE (n + 1), keyOf O.TX_TAPS (n + 1)] := hs ▸ s.startTraining_only n
    refine ⟨_, runKeep_of_only hh ho (by simp), ?_, ?_, ?_, ho⟩ <;> rw [hs]
    · exact State.startTraining_linkState n.isLt
    · rw [State.startTraining_lane]
    · exact State.startTraining_taps n
  case lanemap =>
    intro s n b hh hnat h6 htest hr hp hw hact
    have hs := State.lanemapIn_single n.isLt hnat h6 htest hr hp hw hact b
    have ho : (s.lanemapIn n b).only s [.lanes, .lports] [keyOf O.PORT_PEER (n + 1), keyOf O.PORT_ACTIVE (n + 1)] := by
      rw [hs]
      refine State.only_setObj _ (State.only_setObj _ (State.only_modLPort _ _ (State.only_modLane _ _ (State.only_modLane _ _
        (State.only_refl _ _ _) ?_) ?_) ?_) ?_) ?_ <;> simp
    refine ⟨_, runKeep_of_only hh ho (by simp), ?_, ?_, ?_, ?_, ?_, ?_, ho⟩ <;> rw [hs]
    · simp
    · simp
    · simp
    · simp
    · rw [State.obj_setObj_other _ (by decide) (by omega) (by omega), State.obj_setObj_same]
      have h1 : blk b 89 89 < 2 := Nat.mod_lt _ (by decide)
      have h2 : blk b 105 96 < 2 ^ 10 := Nat.mod_lt _ (by decide)
      exact Nat.mod_eq_of_lt (show _ < 2 ^ 32 by omega)
    · rw [State.setObj_linkState _ (by decide) (by omega) (by omega), State.setObj_linkState _ (by decide) (by omega) (by omega)]
      simpa [State.rxLane] using h6
end

section
/-! PROOF. Lanes that join a port, leave it or are stopped (R83, R89, R97 to R103, R312): the frames of a change of the active sets, RETRAIN
and ABORT, and O12 from them. -/

namespace Sys2Proof.Machine

variable {s t : State}

/-! What a change of the active sets touches (R82, R99, R312). -/

/-- Folding a change that stays inside a frame for the members of a list stays inside it. -/
theorem State.only_forEach_mem {α : Type} {l : List Part} {ks : List Nat} {f : State → α → State} (xs : List α)
    (hf : ∀ u, ∀ x ∈ xs, (f u x).only u l ks) (h : t.only s l ks) : (forEach xs f t).only s l ks := by
  unfold forEach
  induction xs generalizing t with
  | nil => exact h
  | cons x xs ih =>
    exact ih (fun u y hy => hf u y (List.mem_cons_of_mem _ hy)) (State.only_trans (hf t x List.mem_cons_self) h)

theorem State.refreshStates_only (s : State) (p : Nat) :
    (s.refreshStates p).only s [] ((s.portLanes p).map fun m => keyOf O.LINK_STATE (m + 1)) := by
  refine State.only_forEach_mem _ (fun u n hn => ?_) (State.only_refl _ _ _)
  split
  · exact State.only_setObj _ (State.only_refl _ _ _) (List.mem_map_of_mem hn)
  · exact State.only_refl _ _ _

theorem State.moveTiming_only (s : State) (p : Nat) : (s.moveTiming p).only s [] [keyOf O.PORT_TIMING_POS (p + 1)] := by
  unfold State.moveTiming
  split
  · exact State.only_setObj _ (State.only_refl _ _ _) (by simp)
  · exact State.only_refl _ _ _

theorem State.reestablish_only (s : State) (k : Nat) : (s.reestablish k).only s [.caravan] [] := by
  unfold State.reestablish State.modPhase
  exact State.only_modCaravan _ (State.only_refl _ _ _) (by simp)

theorem State.reestablishPort_only (s : State) (p : Nat) : (s.reestablishPort p).only s [.caravan] [] :=
  State.only_forEach _ (fun u q => State.only_forEach _ (fun v e => v.reestablish_only (e.key q)) (State.only_refl u _ _))
    (State.only_refl _ _ _)

/-- The keys of a port's active sets: PORT_ACTIVE, the timing position, and the states of its lanes. -/
def State.activeKeys (s : State) (p : Nat) : List Nat :=
  keyOf O.PORT_ACTIVE (p + 1) :: keyOf O.PORT_TIMING_POS (p + 1) :: (s.portLanes p).map fun m => keyOf O.LINK_STATE (m + 1)

/-- The active sets written, with the timing lane and the states that follow (R82, R99). -/
def State.activeWritten (s : State) (p tx rx : Nat) : State :=
  ((s.setObj O.PORT_ACTIVE (rx % 16 * 16 + tx % 16) (p + 1)).moveTiming p).refreshStates p

theorem State.portLanes_of_only {l : List Part} {ks : List Nat} {p : Nat} (h : t.only s l ks) (hk : O.PORT_WIDTH.key (p + 1) ∉ ks) :
    t.portLanes p = s.portLanes p := by
  rw [State.portLanes, State.width, State.only_obj h hk]
  rfl

theorem State.activeMoved_only (s : State) (p tx rx : Nat) :
    ((s.setObj O.PORT_ACTIVE (rx % 16 * 16 + tx % 16) (p + 1)).moveTiming p).only s []
      [keyOf O.PORT_ACTIVE (p + 1), keyOf O.PORT_TIMING_POS (p + 1)] :=
  State.only_trans (State.only_mono (State.moveTiming_only _ p) (by simp) (by simp))
    (State.only_setObj _ (State.only_refl _ _ _) (by simp))

theorem State.activeWritten_only (s : State) {p : Nat} (hp : p < 48) (tx rx : Nat) : (s.activeWritten p tx rx).only s [] (s.activeKeys p) := by
  have hmoved := s.activeMoved_only p tx rx
  have hlanes := State.portLanes_of_only hmoved (p := p) (by
    simp only [List.mem_cons, List.not_mem_nil, or_false, not_or]
    exact ⟨Obj.key_ne (by decide) (by omega) (by omega), Obj.key_ne (by decide) (by omega) (by omega)⟩)
  have hstates := State.refreshStates_only ((s.setObj O.PORT_ACTIVE (rx % 16 * 16 + tx % 16) (p + 1)).moveTiming p) p
  rw [hlanes] at hstates
  exact State.only_trans (State.only_mono hstates (by simp) (by simp +contextual [State.activeKeys]))
    (State.only_mono hmoved (by simp) (by simp +contextual [State.activeKeys]))

/-- Within lanes that the objects number, PORT_ACTIVE keeps what was written. -/
theorem State.activeWritten_active {p : Nat} (hp : p < 48) (hw : s.width p ≤ 4) (tx rx : Nat) :
    (s.activeWritten p tx rx).obj O.PORT_ACTIVE (p + 1) = rx % 16 * 16 + tx % 16 := by
  have hmoved := State.moveTiming_only (s.setObj O.PORT_ACTIVE (rx % 16 * 16 + tx % 16) (p + 1)) p
  have hlanes := State.portLanes_of_only (s.activeMoved_only p tx rx) (p := p) (by
    simp only [List.mem_cons, List.not_mem_nil, or_false, not_or]
    exact ⟨Obj.key_ne (by decide) (by omega) (by omega), Obj.key_ne (by decide) (by omega) (by omega)⟩)
  have hstates := State.refreshStates_only ((s.setObj O.PORT_ACTIVE (rx % 16 * 16 + tx % 16) (p + 1)).moveTiming p) p
  rw [State.activeWritten, State.only_obj hstates, State.only_obj hmoved, State.obj_setObj_same]
  · exact Nat.mod_eq_of_lt (show _ < 2 ^ 8 by omega)
  · rw [List.mem_singleton]
    exact Obj.key_ne (by decide) (by omega) (by omega)
  · rw [hlanes]
    intro hk
    obtain ⟨m, hm, hkey⟩ := List.mem_map.mp hk
    obtain ⟨i, hi, rfl⟩ := List.mem_map.mp hm
    rw [List.mem_range] at hi
    exact Obj.key_ne (by decide) (by omega) (by omega) hkey

/-- The port notes when its receive width changes (R317). -/
def State.rxWidthNoted (s : State) (p rx : Nat) : State :=
  if popCount rx 4 ≠ popCount (s.rxAct p) 4 then s.modLPort p fun l => { l with rxAt := some s.now, rxPos := 0 } else s

theorem State.rxWidthNoted_only (s : State) (p rx : Nat) : (s.rxWidthNoted p rx).only s [.lports] [] := by
  unfold State.rxWidthNoted
  split
  · exact State.only_modLPort _ _ (State.only_refl _ _ _) (by simp)
  · exact State.only_refl _ _ _

theorem State.rxWidthNoted_portLanes (p rx q : Nat) : (s.rxWidthNoted p rx).portLanes q = s.portLanes q :=
  State.portLanes_of_only (s.rxWidthNoted_only p rx) (by simp)

/-- A change of the active sets: the port notes a new receive width, the sets are written, and the Caravan's entries follow a new width. -/
theorem State.setActive_eq (p tx rx : Nat) : s.setActive p tx rx =
    if popCount tx 4 ≠ popCount (s.txAct p) 4 ∨ popCount rx 4 ≠ popCount (s.rxAct p) 4 then
      ((s.rxWidthNoted p rx).activeWritten p tx rx).reestablishPort p
    else (s.rxWidthNoted p rx).activeWritten p tx rx := by
  simp [State.setActive, State.activeWritten, State.rxWidthNoted]

theorem State.setActive_only (s : State) {p : Nat} (hp : p < 48) (tx rx : Nat) :
    (s.setActive p tx rx).only s [.lports, .caravan] (s.activeKeys p) := by
  have hkeys : (s.rxWidthNoted p rx).activeKeys p = s.activeKeys p := by
    rw [State.activeKeys, State.rxWidthNoted_portLanes]
    rfl
  have written : ((s.rxWidthNoted p rx).activeWritten p tx rx).only s [.lports, .caravan] (s.activeKeys p) :=
    State.only_trans (State.only_mono (State.activeWritten_only _ hp tx rx) (by simp) (by simp [hkeys]))
      (State.only_mono (s.rxWidthNoted_only p rx) (by simp) (by simp))
  rw [State.setActive_eq]
  split
  · exact State.only_trans (State.only_mono (State.reestablishPort_only _ p) (by simp) (by simp)) written
  · exact written

theorem State.setActive_active {p : Nat} (hp : p < 48) (hw : s.width p ≤ 4) (tx rx : Nat) :
    (s.setActive p tx rx).obj O.PORT_ACTIVE (p + 1) = rx % 16 * 16 + tx % 16 := by
  have hwidth : (s.rxWidthNoted p rx).width p ≤ 4 := (State.only_obj (s.rxWidthNoted_only p rx) (by simp)).trans_le hw
  have written := State.activeWritten_active hp hwidth tx rx
  rw [State.setActive_eq]
  split
  · exact (State.only_obj (State.reestablishPort_only _ p) (by simp)).trans written
  · exact written

/-! Readmission (R100). -/

/-- A lane that joins ACTIVE at an idle boundary. -/
theorem State.readmit_eq {n : Nat} (hup : (s.lport (s.portOf n)).up = true) (hok : bit (s.usable (s.portOf n)) (n - s.portOf n) = true)
    (hskew : (s.lane n).skewDone = true) (htx : bit (s.txAct (s.portOf n)) (n - s.portOf n) = false)
    (hidle : s.idleBoundary (s.portOf n) (s.txWidth (s.portOf n) + 1) = true) : ∃ f : LPort → LPort, s.readmit n =
      (s.setActive (s.portOf n) (s.txAct (s.portOf n) ||| 2 ^ (n - s.portOf n)) (s.rxAct (s.portOf n))).modLPort (s.portOf n) f := by
  have hgo : (!(s.lport (s.portOf n)).up || !bit (s.usable (s.portOf n)) (n - s.portOf n) || !(s.lane n).skewDone ||
      bit (s.txAct (s.portOf n)) (n - s.portOf n) || !s.idleBoundary (s.portOf n) (s.txWidth (s.portOf n) + 1)) = false := by
    simp [hup, hok, hskew, htx, hidle]
  unfold State.readmit
  dsimp only
  rw [hgo]
  exact ⟨_, if_neg Bool.false_ne_true⟩

/-! RETRAIN (R102, R103). -/

/-- Two states whose PORT_WIDTH agree have the same ports. -/
theorem State.portOf_of_width (h : ∀ k, k < 48 → t.width k = s.width k) {n : Nat} (hn : n < 48) : t.portOf n = s.portOf n := by
  simp only [State.portOf, h _ (show n - 3 < 48 by omega), h _ (show n - 2 < 48 by omega), h _ (show n - 1 < 48 by omega),
    List.find?_cons, List.find?_nil]

/-- A lane that RETRAIN has named, before it leaves service: nothing keeps it out of training. -/
def State.retrainAsked (s : State) (n : Nat) : State :=
  (s.cmdStatus O.LINK_CMD_STATUS (n + 1) 1 1).modLane n fun l =>
    { l with aborted := false, failed := false, removed := false, lowWarn := 0, lowFloor := 0, degraded := false }

theorem State.retrain_eq {n : Nat} (h : s.status O.LINK_CMD_STATUS (n + 1) ≠ 1) : s.retrain n = (s.retrainAsked n).leaveService n 1 :=
  if_neg h

theorem State.retrainAsked_only (s : State) (n : Nat) : (s.retrainAsked n).only s [.lanes] [keyOf O.LINK_CMD_STATUS (n + 1)] :=
  State.only_modLane _ _ (State.only_cmdStatus _ _ _ (State.only_refl _ _ _) (by simp)) (by simp)

theorem State.retrainAsked_obj {o : Obj} {j n : Nat} (ho : o.index ≠ O.LINK_CMD_STATUS.index) (hj : j < 256) (hn : n < 48) :
    (s.retrainAsked n).obj o j = s.obj o j :=
  State.only_obj (s.retrainAsked_only n) (by rw [List.mem_singleton]; exact Obj.key_ne ho hj (by omega))

theorem State.retrainAsked_status (n : Nat) : (s.retrainAsked n).status O.LINK_CMD_STATUS (n + 1) = 1 ∧
    bits ((s.retrainAsked n).obj O.LINK_CMD_STATUS (n + 1)) 7 4 = 1 := by
  obtain ⟨hst, hcmd, -, -⟩ := s.setStatus_fields O.LINK_CMD_STATUS (n + 1) 0 false 1 1 (by decide)
  exact ⟨hst, hcmd⟩

theorem State.retrainAsked_portOf {n : Nat} (hn : n < 48) : (s.retrainAsked n).portOf n = s.portOf n :=
  State.portOf_of_width (fun _ hk => State.retrainAsked_obj (by decide) (by omega) hn) hn

theorem State.retrainAsked_native (n p : Nat) : (s.retrainAsked n).native p = s.native p := by
  simp [State.retrainAsked, State.native]

theorem State.retrainAsked_lport (n p : Nat) : (s.retrainAsked n).lport p = s.lport p := by
  simp [State.retrainAsked]

/-- A lane of a port that is not in service trains at once. -/
theorem State.leaveService_down {n : Nat} (h : (s.lport (s.portOf n)).up = false) : s.leaveService n 1 = s.startTraining n := by
  simp [State.leaveService, h]

/-- A lane in the transmit set of a bonded native port in service waits for the next round 1. -/
theorem State.leaveService_bonded {n : Nat} (h : (s.lport (s.portOf n)).up = true) (hnat : s.native n = true)
    (hw : s.width (s.portOf n) ≠ 1) (htx : bit (s.txAct (s.portOf n)) (n - s.portOf n) = true) (why : Nat) :
    s.leaveService n why = s.modLane n fun l => { l with leave := why } := by
  simp [State.leaveService, h, hnat, hw, htx]

/-! ABORT (R83, R89, R103). -/

/-- An ABORT recorded in the decision cycle loses. -/
theorem State.linkAbort_late {n : Nat} (hd : (s.lane n).decided = true) (h1 : s.linkState n = 1) :
    s.linkAbort n true = s.abortLate O.LINK_CMD_STATUS (n + 1) 2 O.LINK_FLAGS 5 (n + 1) := by
  simp [State.linkAbort, hd, h1]

/-- The state in which ABORT has become lane `n`'s command, with a status. -/
def State.abortSaid (s : State) (n st : Nat) : State := s.cmdStatus O.LINK_CMD_STATUS (n + 1) 2 st

theorem State.abortSaid_only (s : State) (n st : Nat) : (s.abortSaid n st).only s [] [keyOf O.LINK_CMD_STATUS (n + 1)] :=
  State.only_cmdStatus _ _ _ (State.only_refl _ _ _) (by simp)

theorem State.abortSaid_status (n : Nat) {st : Nat} (h : st < 16) : (s.abortSaid n st).status O.LINK_CMD_STATUS (n + 1) = st ∧
    bits ((s.abortSaid n st).obj O.LINK_CMD_STATUS (n + 1)) 7 4 = 2 := by
  obtain ⟨hst, hcmd, -, -⟩ := s.setStatus_fields O.LINK_CMD_STATUS (n + 1) 0 false 2 st (by decide)
  exact ⟨hst.trans (Nat.mod_eq_of_lt h), hcmd⟩

theorem State.abortSaid_lane (n st m : Nat) : (s.abortSaid n st).lane m = s.lane m := by
  simp [State.abortSaid]

theorem State.abortSaid_linkState {n st : Nat} (hn : n < 48) : (s.abortSaid n st).linkState n = s.linkState n :=
  State.setObj_linkState (s := s) _ (by decide) (by omega) (by omega)

/-- A search that has not met its decision point stops at once. -/
theorem State.linkAbort_search {n : Nat} (ht : s.training n = true) (hl : (s.lane n).leave = 0) (hd : (s.lane n).decided = false)
    (h1 : s.linkState n ≤ 1) (c : Bool) : s.linkAbort n c = (s.abortSaid n 1).abortTraining n := by
  have hcases : s.linkState n = 0 ∨ s.linkState n = 1 := by omega
  rcases hcases with h | h <;> simp [State.linkAbort, State.abortSaid, ht, hl, hd, h]

/-- Beyond its search a training stops at its next change of state. -/
theorem State.linkAbort_wait {n : Nat} (ht : s.training n = true) (hl : (s.lane n).leave = 0) (h2 : 2 ≤ s.linkState n) (c : Bool) :
    s.linkAbort n c = (s.abortSaid n 1).modLane n fun l => { l with abortWait := true } := by
  obtain ⟨-, -, -, -, hfail, -, -, -, -⟩ := (s.training_iff n).mp ht
  have h0 : s.linkState n ≠ 0 := by omega
  have h1 : s.linkState n ≠ 1 := by omega
  simp [State.linkAbort, State.abortSaid, ht, hl, hfail, h0, h1]

/-- A RETRAIN that waits for its round 1 is taken back. -/
theorem State.linkAbort_leave {n : Nat} (hl : (s.lane n).leave = 1) :
    s.linkAbort n false = (s.abortSaid n 3).modLane n fun l => { l with leave := 0 } := by
  simp [State.linkAbort, State.abortSaid, hl]

/-- An ABORT with nothing to stop is refused. -/
theorem State.linkAbort_refused {n : Nat} (ht : s.training n = false) (hf : (s.lane n).failed = false) (hl : (s.lane n).leave = 0)
    (hst : s.status O.LINK_CMD_STATUS (n + 1) ≠ 1) : s.linkAbort n false = s.abortSaid n 4 := by
  simp [State.linkAbort, State.abortSaid, ht, hl, hf, hst]

theorem State.abortTraining_linkState {n : Nat} (hn : n < 48) : (s.abortTraining n).linkState n = 0 := by
  rw [State.abortTraining, State.endStatus_linkState _ _ (by decide) (by omega) (by omega), State.modLane_linkState]
  exact State.setLinkState_same 0 n

theorem State.abortTraining_lane (n : Nat) : (s.abortTraining n).lane n =
    { s.lane n with aborted := true, abortWait := false, decided := false, failed := false } := by
  simp [State.abortTraining]

/-- The command in progress is ABORTED; it stays the one named. -/
theorem State.abortTraining_status {n : Nat} (hn : n < 48) : (s.abortTraining n).status O.LINK_CMD_STATUS (n + 1) = 3 ∧
    bits ((s.abortTraining n).obj O.LINK_CMD_STATUS (n + 1)) 7 4 = bits (s.obj O.LINK_CMD_STATUS (n + 1)) 7 4 := by
  obtain ⟨hst, hcmd, -⟩ := State.endStatus_fields ((s.setObj O.LINK_STATE 0 (n + 1)).modLane n fun l =>
    { l with aborted := true, abortWait := false, decided := false, failed := false }) O.LINK_CMD_STATUS (n + 1) 3 0 (by decide)
  rw [State.modLane_obj, State.obj_setObj_other _ (by decide) (by omega) (by omega)] at hcmd
  exact ⟨hst, hcmd⟩

end Sys2Proof.Machine

open Sys2Proof Sys2Proof.Machine

/-- Settles O12, clause by clause: readmission, READMIT_FORCE, RETRAIN and ABORT. -/
theorem laneServices : Obligations.LaneServices := by
  unfold Obligations.LaneServices
  refine ⟨?readmit, ?force, ?retrain, ?leave, ?busy, ?late, ?search, ?wait, ?takeBack, ?refused⟩
  case readmit =>
    intro s n hh hup hw hok hskew htx hidle
    have hp : s.portOf n < 48 := lt_of_le_of_lt (s.portOf_le n) n.isLt
    obtain ⟨f, hs⟩ := State.readmit_eq hup hok hskew htx hidle
    have ho : (s.readmit n).only s [.lports, .caravan] (s.activeKeys (s.portOf n)) :=
      hs ▸ State.only_modLPort _ _ (s.setActive_only hp _ _) (by simp)
    refine ⟨_, runKeep_of_only hh ho (by simp), ?_, ho⟩
    rw [hs, State.modLPort_obj, State.setActive_active hp hw, Nat.mod_eq_of_lt (show s.rxAct (s.portOf n) < 16 from Nat.mod_lt _ (by decide))]
  case force =>
    intro s p hh hwiden
    have hs : (if (s.lport p).widen then s.modLPort p fun l => { l with forced := true } else s) =
        s.modLPort p fun l => { l with forced := true } := if_pos hwiden
    have ho : (s.modLPort p fun l => { l with forced := true }).only s [.lports] [] :=
      State.only_modLPort _ _ (State.only_refl _ _ _) (by simp)
    exact ⟨_, (runKeep_of_only hh (hs.symm ▸ ho) (by simp)).trans (congrArg _ hs), by simp, fun q hq => by simp [hq], ho⟩
  case retrain =>
    intro s n hh hst hdown
    have hs : s.retrain n = (s.retrainAsked n).startTraining n := (State.retrain_eq hst).trans
      (State.leaveService_down (by rw [State.retrainAsked_portOf n.isLt, State.retrainAsked_lport]; exact hdown))
    have ho : (s.retrain n).only s [.lanes, .cal]
        [keyOf O.LINK_STATE (n + 1), keyOf O.TX_TAPS (n + 1), keyOf O.LINK_CMD_STATUS (n + 1)] :=
      hs ▸ State.only_trans (State.only_mono (State.startTraining_only _ n) (by simp) (by simp))
        (State.only_mono (s.retrainAsked_only n) (by simp) (by simp))
    have hword : ((s.retrainAsked n).startTraining n).obj O.LINK_CMD_STATUS (n + 1) = (s.retrainAsked n).obj O.LINK_CMD_STATUS (n + 1) :=
      State.only_obj (State.startTraining_only _ n) (by
        simp only [List.mem_cons, List.not_mem_nil, or_false, not_or]
        exact ⟨Obj.key_ne (by decide) (by omega) (by omega), Obj.key_ne (by decide) (by omega) (by omega)⟩)
    obtain ⟨hbusy, hcmd⟩ := s.retrainAsked_status n
    refine ⟨_, runKeep_of_only hh ho (by simp), ?_, ?_, ?_, ?_, ?_, ?_, ho⟩ <;> rw [hs]
    · exact State.startTraining_linkState n.isLt
    · rw [State.status, hword]
      exact hbusy
    · rw [hword, hcmd]
    · rw [State.startTraining_lane]
      simp [State.retrainAsked]
    · rw [State.startTraining_lane]
    · rw [State.startTraining_taps, State.retrainAsked_obj (by decide) (by omega) n.isLt]
  case leave =>
    intro s n hh hst hup hnat hw htx
    have hport := State.retrainAsked_portOf (s := s) n.isLt
    have hp : s.portOf n < 48 := lt_of_le_of_lt (s.portOf_le n) n.isLt
    have hs : s.retrain n = (s.retrainAsked n).modLane n fun l => { l with leave := 1 } := by
      refine (State.retrain_eq hst).trans (State.leaveService_bonded ?_ ((s.retrainAsked_native n n).trans hnat) ?_ ?_ 1) <;> rw [hport]
      · rw [State.retrainAsked_lport]
        exact hup
      · rw [State.width, State.retrainAsked_obj (by decide) (by omega) n.isLt]
        exact hw
      · rw [State.txAct, State.retrainAsked_obj (by decide) (by omega) n.isLt]
        exact htx
    have ho : (s.retrain n).only s [.lanes] [keyOf O.LINK_CMD_STATUS (n + 1)] :=
      hs ▸ State.only_modLane _ _ (s.retrainAsked_only n) (by simp)
    refine ⟨_, runKeep_of_only hh ho (by simp), ?_, ?_, ?_, ho⟩ <;> rw [hs]
    · rw [State.modLane_linkState, State.linkState, State.retrainAsked_obj (by decide) (by omega) n.isLt]
      rfl
    · simp
    · rw [State.modLane_status]
      exact (s.retrainAsked_status n).1
  case busy =>
    intro s n hh hst
    exact runKeep_same hh (if_pos hst)
  case late =>
    intro s n hh hd h1
    have hs := State.linkAbort_late hd h1
    have ho : (s.linkAbort n true).only s flagParts (keyOf O.LINK_CMD_STATUS (n + 1) :: flagKeys O.LINK_FLAGS (n + 1)) :=
      hs ▸ State.only_abortLate _ _ (State.only_refl _ _ _) (by simp) (by simp) (by simp +contextual)
    have hkept {o : Obj} (hi : o.index ≠ O.LINK_FLAGS.index)
        (hw : o.index ∉ [O.LT_LOST.index, O.OBS_FLAGS.index, O.ENG_STATE.index, O.ENG_SLOT_IDLE.index]) :
        (s.abortLate O.LINK_CMD_STATUS (n + 1) 2 O.LINK_FLAGS 5 (n + 1)).obj o (n + 1) =
          (s.lateStatus O.LINK_CMD_STATUS (n + 1) 2).obj o (n + 1) :=
      State.raise_obj _ _ _ _ (Obj.key_notMem_flagKeys (by omega) (by omega) hi hw)
    obtain ⟨hdone, -, hlate, -⟩ := s.setStatus_fields O.LINK_CMD_STATUS (n + 1) 0 true 2 2 (by decide)
    refine ⟨_, runKeep_of_only hh ho (by decide), ?_, ?_, ?_, ?_, ?_, ho⟩ <;> rw [hs]
    · exact ((hkept (by decide) (by decide)).trans (State.lateStatus_obj_ne _ _ _ _ (Obj.key_ne (by decide) (by omega) (by omega)))).trans h1
    · rw [State.abortLate, State.raise_lane, State.lateStatus_lane]
    · rw [State.status, hkept (by decide) (by decide)]
      exact hdone
    · rw [hkept (by decide) (by decide)]
      exact hlate
    · rw [State.abortLate, State.raise_obj_same _ _ _ _ (Obj.key_notMem_wakeKeys (by omega) (by decide)),
        State.lateStatus_obj_ne _ _ _ _ (Obj.key_ne (by decide) (by omega) (by omega))]
      rfl
  case search =>
    intro s n c hh ht hl hd h1
    have hs := State.linkAbort_search ht hl hd h1 c
    have ho : (s.linkAbort n c).only s [.lanes] [keyOf O.LINK_STATE (n + 1), keyOf O.LINK_CMD_STATUS (n + 1)] :=
      hs ▸ State.only_abortTraining n (State.only_mono (s.abortSaid_only n 1) (by simp) (by simp)) (by simp) (by simp) (by simp)
    obtain ⟨hst, hcmd⟩ := State.abortTraining_status (s := s.abortSaid n 1) n.isLt
    refine ⟨_, runKeep_of_only hh ho (by simp), ?_, ?_, ?_, ?_, ?_, ho⟩ <;> rw [hs]
    · exact State.abortTraining_linkState n.isLt
    · rw [State.abortTraining_lane]
    · rw [State.abortTraining_lane]
    · exact hst
    · exact hcmd.trans (State.abortSaid_status n (by decide)).2
  case wait =>
    intro s n c hh ht hl h2
    have hs := State.linkAbort_wait ht hl h2 c
    have ho : (s.linkAbort n c).only s [.lanes] [keyOf O.LINK_CMD_STATUS (n + 1)] :=
      hs ▸ State.only_modLane _ _ (State.only_mono (s.abortSaid_only n 1) (by simp) (by simp)) (by simp)
    refine ⟨_, runKeep_of_only hh ho (by simp), ?_, ?_, ?_, ho⟩ <;> rw [hs]
    · rw [State.modLane_linkState, State.abortSaid_linkState n.isLt]
    · simp
    · rw [State.modLane_status]
      exact (State.abortSaid_status n (by decide)).1
  case takeBack =>
    intro s n hh hl
    have hs := State.linkAbort_leave hl
    have ho : (s.linkAbort n false).only s [.lanes] [keyOf O.LINK_CMD_STATUS (n + 1)] :=
      hs ▸ State.only_modLane _ _ (State.only_mono (s.abortSaid_only n 3) (by simp) (by simp)) (by simp)
    refine ⟨_, runKeep_of_only hh ho (by simp), ?_, ?_, ho⟩ <;> rw [hs]
    · rw [State.modLane_lane, if_pos rfl, State.abortSaid_lane]
    · exact (State.abortSaid_status n (by decide)).1
  case refused =>
    intro s n hh ht hf hl hst
    have hs := State.linkAbort_refused ht hf hl hst
    have ho : (s.linkAbort n false).only s [] [keyOf O.LINK_CMD_STATUS (n + 1)] := hs ▸ s.abortSaid_only n 4
    refine ⟨_, runKeep_of_only hh ho (by simp), ?_, ho⟩
    rw [hs]
    exact (State.abortSaid_status n (by decide)).1
end

section
/-! PROOF. What the sending of port blocks touches, and what it sends (R68 to R77). -/

namespace Sys2Proof.Machine

variable {s t : State}

/-- A port's record without its place in the stream that it sends. -/
def LPort.standing (l : LPort) : LPort :=
  { l with consumed := [], crNext := 0, tag := 0, frame := none, interrupted := false, gap := 0, hb := [], mgmt := [] }

/-- What the sending of blocks on port `p` keeps: what has left before, every other port, and the port's own record but for its stream. -/
structure State.streams (s t : State) (p : Nat) : Prop where
  frame : t.only s [.out, .lanes, .lports] []
  sent : s.out <:+ t.out
  others : ∀ q, q ≠ p → t.lport q = s.lport q
  own : (t.lport p).standing = (s.lport p).standing

theorem State.streams_refl (s : State) (p : Nat) : s.streams s p :=
  ⟨State.only_refl _ _ _, List.suffix_rfl, fun _ _ => rfl, rfl⟩

theorem State.streams_trans {r : State} {p : Nat} (h1 : r.streams s p) (h2 : s.streams t p) : r.streams t p :=
  ⟨State.only_trans h2.frame h1.frame, h1.sent.trans h2.sent, fun q hq => (h2.others q hq).trans (h1.others q hq), h2.own.trans h1.own⟩

theorem State.streams_modLPort {p : Nat} {f : LPort → LPort} (h : s.streams t p)
    (hf : ∀ l, (f l).standing = l.standing := by exact fun _ => rfl) : s.streams (t.modLPort p f) p :=
  State.streams_trans h ⟨State.only_modLPort _ _ (State.only_refl _ _ _) (by simp), by simp, fun q hq => by simp [hq], by simp [hf]⟩

theorem State.streams_modLane {p : Nat} (n : Nat) (f : Lane → Lane) (h : s.streams t p) : s.streams (t.modLane n f) p :=
  State.streams_trans h ⟨State.only_modLane _ _ (State.only_refl _ _ _) (by simp), by simp, fun q hq => by simp, by simp⟩

theorem State.streams_emit {p : Nat} (e : Emit) (h : s.streams t p) : s.streams (t.emit e) p :=
  State.streams_trans h ⟨State.only_emit _ (State.only_refl _ _ _) (by simp), by simp, fun q hq => by simp, by simp⟩

theorem State.streams_up {p : Nat} (h : s.streams t p) : (t.lport p).up = (s.lport p).up :=
  show (t.lport p).standing.up = (s.lport p).standing.up from congrArg _ h.own

theorem State.streams_setDue {p : Nat} (h : s.streams t p) : (t.lport p).setDue = (s.lport p).setDue :=
  show (t.lport p).standing.setDue = (s.lport p).standing.setDue from congrArg _ h.own

theorem State.streams_activeLanes {p : Nat} (h : s.streams t p) (q : Nat) : t.activeLanes q = s.activeLanes q := by
  rw [State.activeLanes, State.activeLanes, State.txAct, State.txAct, State.only_obj h.frame (by simp)]

/-! One block. -/

/-- The scrambler of lane `n` has gone over a block (R55). -/
def State.scrambled (s : State) (n : Nat) (b : Blk) : State :=
  if b.plain then s else s.modLane n fun l => { l with scrambler := (scramble b.payload l.scrambler).2 }

/-- The record of a block of port `p` that leaves on lane `n`. -/
def Blk.record (p n : Nat) (v : Nat) : Blk → Emit
  | .ctl t body => .block p n t body v
  | .data d => .data p n d v

theorem State.sendBlk_eq (p n : Nat) (b : Blk) : s.sendBlk p n b = (s.scrambled n b).emit (b.record p n (s.lineOf n b)) := by
  cases b <;> exact (rfl)

theorem State.scrambled_streams (p n : Nat) (b : Blk) : s.streams (s.scrambled n b) p := by
  unfold State.scrambled
  split
  · exact State.streams_refl s p
  · exact State.streams_modLane _ _ (State.streams_refl s p)

theorem State.sendBlk_streams (p n : Nat) (b : Blk) : s.streams (s.sendBlk p n b) p := by
  rw [State.sendBlk_eq]
  exact State.streams_emit _ (State.scrambled_streams p n b)

/-- A block of port `p` has left on lane `n`. -/
def State.carries (s : State) (p n : Nat) (b : Blk) : Prop := ∃ v, b.record p n v ∈ s.out

theorem State.sendBlk_carries (p n : Nat) (b : Blk) : (s.sendBlk p n b).carries p n b :=
  ⟨s.lineOf n b, by rw [State.sendBlk_eq, State.emit_out]; exact List.mem_cons_self⟩

theorem State.carries_streams {p q n : Nat} {b : Blk} (h : s.streams t q) (hs : s.carries p n b) : t.carries p n b :=
  hs.imp fun _ hv => h.sent.subset hv

/-! The next block of the port stream. -/

theorem State.interrupt_streams (p : Nat) : s.streams (s.interrupt p) p :=
  State.streams_modLPort (State.streams_refl s p)

theorem State.creditField_streams (p : Nat) : s.streams (s.creditField p).2 p := by
  unfold State.creditField
  dsimp only
  exact State.streams_modLPort (State.streams_refl s p)

theorem State.consume_streams (p q n : Nat) : s.streams (s.consume p q n) p :=
  State.streams_modLPort (State.streams_refl s p)

theorem State.idleBlk_streams (p : Nat) : s.streams (s.idleBlk p).2 p :=
  State.streams_trans (State.interrupt_streams p) (State.creditField_streams p)

theorem State.frameBlk_streams {p : Nat} {x : Blk × State} (h : s.frameBlk p = some x) : s.streams x.2 p := by
  have paid (f : TxFrame) : s.streams (if (f.octets != [] && f.sent % 256 == 0) = true then s.consume p f.cls 1 else s) p := by
    split
    · exact State.consume_streams p _ _
    · exact State.streams_refl s p
  unfold State.frameBlk at h
  split at h
  · cases h
  · next f hf =>
    split at h
    · cases h
    · split at h
      · cases h
        exact State.streams_trans (State.streams_modLPort (State.streams_refl s p)) (State.creditField_streams p)
      · split at h
        · cases h
        · split at h
          · cases h
            exact State.streams_trans (State.streams_modLPort (State.streams_refl s p)) (State.creditField_streams p)
          · dsimp only at h
            split at h
            · cases h
              dsimp only
              exact State.streams_modLPort (State.streams_modLPort (paid f))
            · cases h
              dsimp only
              exact State.streams_modLPort (State.streams_modLPort (paid f))

theorem State.nextBlk_streams (p : Nat) : s.streams (s.nextBlk p).2 p := by
  have rest : s.streams (match s.frameBlk p with | some x => x | none => s.idleBlk p).2 p := by
    cases h : s.frameBlk p with
    | none => exact State.idleBlk_streams p
    | some x => exact State.frameBlk_streams h
  unfold State.nextBlk
  dsimp only
  split
  · dsimp only
    exact State.streams_modLPort (State.interrupt_streams p)
  · split
    · exact rest
    · dsimp only
      exact State.streams_modLPort (State.interrupt_streams p)
  · exact rest

/-! Rounds (R75, R77). -/

theorem State.round_streams (p : Nat) (lv : List (Nat × Nat)) (ns : List Nat) (due : List Blk) : s.streams (s.round p lv ns due).2 p := by
  induction ns generalizing s due with
  | nil => exact State.streams_refl s p
  | cons n ns ih =>
    unfold State.round
    split
    · exact State.streams_trans (State.sendBlk_streams p n _) (ih due)
    · cases due with
      | nil => exact State.streams_trans (State.streams_trans (State.nextBlk_streams p) (State.sendBlk_streams p n _)) (ih [])
      | cons b r => exact State.streams_trans (State.streams_trans (State.interrupt_streams p) (State.sendBlk_streams p n b)) (ih r)

/-- A TIME block that is due on a lane of the round leaves on it. -/
theorem State.round_carries_level {p n : Nat} {lv : List (Nat × Nat)} {x : Nat × Nat} {ns : List Nat} (due : List Blk) (hn : n ∈ ns)
    (hx : lv.find? (fun x => x.1 == n) = some x) : (s.round p lv ns due).2.carries p n (.ctl 0x55 x.2) := by
  induction ns generalizing s due with
  | nil => cases hn
  | cons m ms ih =>
    by_cases hm : n = m
    · subst hm
      unfold State.round
      rw [hx]
      exact State.carries_streams (State.round_streams p lv ms due) (State.sendBlk_carries p n _)
    · have hms : n ∈ ms := (List.mem_cons.mp hn).resolve_left hm
      unfold State.round
      split
      · exact ih due hms
      · cases due with
        | nil => exact ih [] hms
        | cons b r => exact ih r hms

theorem State.rounds_streams (p fuel : Nat) (due : List Blk) : s.streams (s.rounds_ p fuel due) p := by
  induction fuel generalizing s due with
  | zero => exact State.streams_refl s p
  | succ k ih =>
    unfold State.rounds_
    split
    · exact State.streams_refl s p
    · exact State.streams_trans (State.round_streams p [] _ due) (ih _)

theorem State.stream_streams (p : Nat) (due : List Blk) : s.streams (s.stream p due) p := by
  unfold State.stream
  split
  · exact State.streams_refl s p
  · exact State.rounds_streams p _ due

theorem State.forEach_streams {α : Type} {f : State → α → State} {p : Nat} (xs : List α) (hf : ∀ (u : State) x, u.streams (f u x) p) (h : s.streams t p) :
    s.streams (forEach xs f t) p := by
  unfold forEach
  induction xs generalizing t with
  | nil => exact h
  | cons x xs ih => exact ih (State.streams_trans h (hf t x))

theorem State.timeRound_streams (p : Nat) (lv : List (Nat × Nat)) : s.streams (s.timeRound p lv) p := by
  have alone := State.forEach_streams (lv.filter fun x => !(s.activeLanes p).contains x.1)
    (fun u x => State.sendBlk_streams (s := u) p x.1 (.ctl 0x55 x.2)) (State.streams_refl s p)
  unfold State.timeRound
  dsimp only
  split
  · exact State.streams_trans alone (State.round_streams p lv _ [])
  · exact alone

/-- The one TIME block of a round leaves on its lane, be it active or not. -/
theorem State.timeRound_carries (p n body : Nat) : (s.timeRound p [(n, body)]).carries p n (.ctl 0x55 body) := by
  by_cases hn : n ∈ s.activeLanes p
  · have hs : s.timeRound p [(n, body)] = (s.round p [(n, body)] (s.activeLanes p) []).2 := by
      simp [State.timeRound, hn, forEach]
    rw [hs]
    exact State.round_carries_level [] hn (x := (n, body)) (by simp)
  · have hs : s.timeRound p [(n, body)] = s.sendBlk p n (.ctl 0x55 body) := by
      simp [State.timeRound, hn, forEach]
    rw [hs]
    exact State.sendBlk_carries p n _

theorem State.timeRound_nil (p : Nat) : s.timeRound p [] = s := by
  simp [State.timeRound, forEach]

/-! Port blocks that are received (R69, R77). -/

theorem State.rxLane_lane_deskIn (n m : Nat) : ((s.rxLane n).lane m).deskIn = (s.lane m).deskIn ∧ ((s.rxLane n).lane m).posRx = (s.lane m).posRx := by
  by_cases h : m = n <;> simp [State.rxLane, h]

theorem State.rxPort_only (s : State) (p k : Nat) : (s.rxPort p k).only s [.lanes, .lports] [] := by
  induction k generalizing s with
  | zero => exact State.only_refl _ _ _
  | succ k ih =>
    unfold State.rxPort
    split
    · exact State.only_refl _ _ _
    · exact State.only_trans (ih _) (State.only_modLPort _ _ (State.only_mono (s.rxLane_only _) (by simp) (by simp)) (by simp))

theorem State.rxPort_lport_ne {p q : Nat} (h : q ≠ p) (k : Nat) : (s.rxPort p k).lport q = s.lport q := by
  induction k generalizing s with
  | zero => rfl
  | succ k ih =>
    unfold State.rxPort
    split
    · rfl
    · rw [ih, State.modLPort_lport, if_neg h, State.rxLane, State.modLane_lport]

/-- Received port blocks move the port's place in its receive active set alone. -/
theorem State.rxPort_lport (p k : Nat) : ∃ r, (s.rxPort p k).lport p = { s.lport p with rxPos := r } := by
  induction k generalizing s with
  | zero => exact ⟨_, rfl⟩
  | succ k ih =>
    unfold State.rxPort
    split
    · exact ⟨_, rfl⟩
    · dsimp only
      obtain ⟨r, hr⟩ := ih (s := (s.rxLane (s.laneAt p ((bitsOf (s.rxAct p) 4).getD ((s.lport p).rxPos % (bitsOf (s.rxAct p) 4).length) 0))).modLPort
        p fun l => { l with rxPos := (l.rxPos + 1) % (bitsOf (s.rxAct p) 4).length })
      exact ⟨r, by rw [hr, State.modLPort_lport, if_pos rfl, State.rxLane, State.modLane_lport]⟩

theorem State.dropOpen_only (s : State) (p : Nat) : (s.dropOpen p).only s [.lports] [] :=
  State.only_modLPort _ _ (State.only_refl _ _ _) (by simp)

theorem State.dropOpen_rxOpen (p : Nat) : ((s.dropOpen p).lport p).rxOpen = none := by
  simp [State.dropOpen]

/-- A counter that stands advances alike. -/
theorem State.count_of_obj {o : Obj} {sub : Nat} (k : Nat) (h : t.obj o sub = s.obj o sub) :
    (t.count o sub k).obj o sub = (s.count o sub k).obj o sub := by
  unfold State.count
  dsimp only
  rw [h]
  split <;> rw [State.obj_setObj_same, State.obj_setObj_same]

/-- The credit field of an IDLE is taken. -/
theorem State.creditIn_idle {p : Nat} (b : Body) (hn : s.native p = true) (hup : (s.lport p).up = true) :
    s.creditIn p 0x1E b = (s.rxPort p 1).creditTake p b := by
  simp [State.creditIn, State.badCont, State.frameSeq, hn, hup]

theorem State.creditTake_eq {p : Nat} {b : Body} (hup : (s.lport p).up = true) (hc : blk b 31 29 ≠ 7) :
    s.creditTake p b = s.modLPort p fun l => { l with crIn := Tab.set l.crIn 0 (blk b 31 29) (blk b 28 16) } := by
  simp [State.creditTake, hup, hc]

/-! Blocks that are not received well (R53, R58, R60, R97, R101). -/

/-- A lane goes on being read when a counter of its own advances. -/
theorem State.rxCounted_inRx {n : Nat} {o : Obj} (ha : O.PORT_ACTIVE.index ≠ o.index) (hw : O.PORT_WIDTH.index ≠ o.index) (hn : n < 48) :
    ((s.rxLane n).count o (n + 1)).inRx n = s.inRx n := by
  obtain ⟨v, hv⟩ := (s.rxLane n).count_setObj o (n + 1) 1
  have hobj {o' : Obj} {k : Nat} (h : o'.index ≠ o.index) (hk : k < 48) : ((s.rxLane n).setObj o v (n + 1)).obj o' (k + 1) = s.obj o' (k + 1) := by
    rw [State.obj_setObj_other v h (by omega) (by omega), State.only_obj (s.rxLane_only n) (by simp)]
  have hport : ((s.rxLane n).setObj o v (n + 1)).portOf n = s.portOf n := State.portOf_of_width (fun k hk => hobj hw hk) hn
  obtain ⟨hdesk, hpos⟩ := s.rxLane_lane_deskIn n n
  rw [hv, State.inRx, State.inRx, hport, State.setObj_lane, hdesk, hpos, State.rxAct, State.rxAct,
    hobj ha (lt_of_le_of_lt (s.portOf_le n) hn)]

/-- A block of lane `n` that its receiver reads and discards: it counts, and the frame that is open on the port is dropped. -/
def State.blockLost (s : State) (n : Nat) (o : Obj) : State := ((s.rxLane n).count o (n + 1)).dropOpen (s.portOf n)

theorem State.blockLost_only (s : State) (n : Nat) (o : Obj) : (s.blockLost n o).only s [.lports, .lanes] [keyOf o (n + 1)] :=
  State.only_trans (State.only_mono (State.dropOpen_only _ _) (by simp) (by simp))
    (State.only_count _ _ _ (State.only_mono (s.rxLane_only n) (by simp) (by simp)) (by simp))

theorem State.blockLost_count (n : Nat) (o : Obj) : (s.blockLost n o).obj o (n + 1) = (s.count o (n + 1)).obj o (n + 1) :=
  (State.only_obj (State.dropOpen_only _ _) (by simp)).trans (State.count_of_obj 1 (State.only_obj (s.rxLane_only n) (by simp)))

theorem State.blockLost_rxOpen (n : Nat) (o : Obj) : ((s.blockLost n o).lport (s.portOf n)).rxOpen = none :=
  State.dropOpen_rxOpen _

section
variable {n : Nat} {v : BitVec 130} (htest : (s.lane n).test = false) (hnat : s.native n = true)
include htest hnat

theorem State.blockError_erased (he : s.erases n = true) : s.blockError n v = (s.count O.ERASED (n + 1)).dropOpen (s.portOf n) := by
  simp [State.blockError, htest, hnat, he]

theorem State.blockError_header (hl : 2 ≤ s.linkState n) (he : s.erases n = false) (hrx : s.inRx n = true) (hn : n < 48)
    (hh : s.received n v.toNat / 2 ^ 128 = 0 ∨ s.received n v.toNat / 2 ^ 128 = 3) :
    s.blockError n v = s.blockLost n O.HDR_ERR := by
  have hread := (State.rxCounted_inRx (s := s) (o := O.HDR_ERR) (by decide) (by decide) hn).trans hrx
  simp only [State.blockError, State.blockLost, htest, hnat, he, hread, if_pos hh, if_neg (Nat.not_lt.mpr hl), Bool.false_eq_true, Bool.not_true, if_true, if_false]

theorem State.blockError_chk (hl : 2 ≤ s.linkState n) (he : s.erases n = false) (hrx : s.inRx n = true) (hn : n < 48)
    (hh : s.received n v.toNat / 2 ^ 128 = 2)
    (hc : chk (bits (s.received n v.toNat) 127 120) (bits (s.received n v.toNat) 119 16) ≠ bits (s.received n v.toNat) 15 0) :
    s.blockError n v = s.blockLost n O.CHK_ERR := by
  have hread := (State.rxCounted_inRx (s := s) (o := O.CHK_ERR) (by decide) (by decide) hn).trans hrx
  have h03 : ¬ (2 = 0 ∨ 2 = 3) := by decide
  have h1 : ¬ 2 = 1 := by decide
  simp only [State.blockError, State.blockLost, htest, hnat, he, hread, hh, if_pos hc, if_neg h03, if_neg h1, if_neg (Nat.not_lt.mpr hl),
    Bool.false_eq_true, Bool.not_true, if_true, if_false]

theorem State.blockError_reserved (hl : 2 ≤ s.linkState n) (he : s.erases n = false) (hrx : s.inRx n = false) (hn : n < 48)
    (hh : s.received n v.toNat / 2 ^ 128 = 2)
    (hc : chk (bits (s.received n v.toNat) 127 120) (bits (s.received n v.toNat) 119 16) = bits (s.received n v.toNat) 15 0)
    (ht : reservedTypes.contains (bits (s.received n v.toNat) 127 120) = true) :
    s.blockError n v = (s.rxLane n).count O.UNKNOWN_TYPE (n + 1) := by
  have hread := (State.rxCounted_inRx (s := s) (o := O.UNKNOWN_TYPE) (by decide) (by decide) hn).trans hrx
  have h03 : ¬ (2 = 0 ∨ 2 = 3) := by decide
  have h1 : ¬ 2 = 1 := by decide
  simp only [State.blockError, htest, hnat, he, hread, hh, if_neg (not_not.mpr hc), if_neg h03, if_neg h1, ht, if_neg (Nat.not_lt.mpr hl),
    Bool.false_eq_true, Bool.not_true, if_true, if_false]

end

/-! TIME blocks (R78 to R81). -/

theorem State.streams_port {p : Nat} (h : s.streams t p) (q : Nat) : t.port q = s.port q := by
  rw [State.port, State.port, show t.ports = s.ports from h.frame.1 .ports (by simp)]

/-- A REQ that is due on a port in service, where no lane measures its skew, leaves on the timing lane. -/
theorem State.reqSend_due {p : Nat} (hn : s.native p = true) (hup : (s.lport p).up = true) (hdue : s.reqDue p = true)
    (hskew : s.skewLanes p = []) (hrole : s.obj O.PORT_TIME_ROLE (p + 1) ≠ 2) : s.reqSend p =
    ((s.timeRound p [(s.timingLane p, timeBody 0 ((s.port p).reqSeq % 64) (s.departs (s.timingLane p)) 0)]).modPort p fun q =>
      { q with reqSeq := ((s.port p).reqSeq % 64 + 1) % 64,
               req := some ((s.port p).reqSeq % 64, s.departs (s.timingLane p), s.timingLane p) }).modLPort p fun l =>
      { l with sfSince := 0, setDue := bit (s.obj O.PORT_PEER (p + 1)) 31 } := by
  simp [State.reqSend, State.measuring, hn, hup, hdue, hskew, hrole]

theorem State.reqIn_port {p : Nat} {b : Body} {a : Arrival} (hn : s.native p = true) (hup : (s.lport p).up = true)
    (hk : blk b 119 118 = 0) (hl : s.linkState (p + a.lane) ≠ 7) : s.reqIn p b a =
    ((s.rxLane (p + a.lane)).sampled (p + a.lane) a.codes).modPort p fun t =>
      { t with peer := some (blk b 117 112, ((s.rxLane (p + a.lane)).sampled (p + a.lane) a.codes).arrival (p + a.lane) a.tw) } := by
  have hstate : ((s.rxLane (p + a.lane)).sampled (p + a.lane) a.codes).linkState (p + a.lane) ≠ 7 := by
    rw [State.sampled, State.modLane_linkState, State.rxLane, State.modLane_linkState]
    exact hl
  simp [State.reqIn, hn, hup, hk, hstate]

/-- The RESP that is due where no lane measures its skew. -/
theorem State.respSend_port {p : Nat} (ha : s.askedLanes p = []) :
    s.respSend p = (s.timeRound p (s.respTo (s.timingLane p) (s.port p).peer)).modPort p fun t => { t with peer := none } := by
  simp [State.respSend, ha, forEach]

theorem State.respTo_late {n seq : Nat} {t2 : Time56} (h : 65536 * 2 ^ 24 < tdiff56 (s.departs n) t2) : s.respTo n (some (seq, t2)) = [] :=
  if_neg fun hin => absurd hin.2 (not_le.mpr h)

theorem State.reqDrop_port {p : Nat} (ha : s.askedLanes p = []) : s.reqDrop p = s.modPort p fun t => { t with peer := none } := by
  simp [State.reqDrop, ha]

theorem State.setSend_due {p : Nat} (hn : s.native p = true) (hup : (s.lport p).up = true) (hdue : (s.lport p).setDue = true)
    (hep : s.epAllowed p = true) (hc : (s.port p).complete = true) : s.setSend p =
    (s.modLPort p fun l => { l with setDue := false }).timeRound p [(s.timingLane p, timeBody 2 0 (s.departs (s.timingLane p) +
      BitVec.ofInt 56 (roundDiv (s.objI O.PORT_DELTA (p + 1) - s.objI O.PORT_ASYM (p + 1)) 2)) 0)] := by
  have hout : (!s.native p || !(s.lport p).up || !(s.lport p).setDue || !s.epAllowed p) = false := by simp [hn, hup, hdue, hep]
  have hgo : (!((s.modLPort p fun l => { l with setDue := false }).port p).complete) = false := by simp [hc]
  unfold State.setSend
  dsimp only
  rw [hout, if_neg Bool.false_ne_true, hgo, if_neg Bool.false_ne_true]
  rfl

end Sys2Proof.Machine

open Sys2Proof Sys2Proof.Machine

/-- Settles O13, clause by clause: credit, blocks that are not received well, REQ, RESP and SET. -/
theorem linkBlocks : Obligations.LinkBlocks := by
  unfold Obligations.LinkBlocks
  refine ⟨?credit, ?header, ?chk, ?reserved, ?erased, ?req, ?reqIn, ?resp, ?late, ?drop, ?set⟩
  case credit =>
    intro s p b hh hn hup hc
    obtain ⟨r, hr⟩ := State.rxPort_lport (s := s) p 1
    have hs : s.creditIn p (0x1E : Byte).toNat b = _ := (State.creditIn_idle b hn hup).trans (State.creditTake_eq (by rw [hr]; exact hup) hc)
    have ho : (s.creditIn p (0x1E : Byte).toNat b).only s [.lports, .lanes] [] :=
      hs ▸ State.only_modLPort _ _ (State.only_mono (s.rxPort_only p 1) (by simp) (by simp)) (by simp)
    refine ⟨_, runKeep_of_only hh ho (by simp), ?_, fun q hq => ?_, ho⟩ <;> rw [hs]
    · rw [State.modLPort_lport, if_pos rfl, hr]
    · rw [State.modLPort_lport, if_neg hq, State.rxPort_lport_ne hq]
  case header =>
    intro s n v hh hnat htest hl he hrx hhdr
    have hs := State.blockError_header htest hnat hl he hrx n.isLt hhdr
    have ho : (s.blockError n v).only s [.lports, .lanes] [keyOf O.HDR_ERR (n + 1)] := hs ▸ s.blockLost_only n _
    refine ⟨_, runKeep_of_only hh ho (by simp), ?_, ?_, ho⟩ <;> rw [hs]
    · exact State.blockLost_count n _
    · exact State.blockLost_rxOpen n _
  case chk =>
    intro s n v hh hnat htest hl he hrx hhdr hc
    have hs := State.blockError_chk htest hnat hl he hrx n.isLt hhdr hc
    have ho : (s.blockError n v).only s [.lports, .lanes] [keyOf O.CHK_ERR (n + 1)] := hs ▸ s.blockLost_only n _
    refine ⟨_, runKeep_of_only hh ho (by simp), ?_, ?_, ho⟩ <;> rw [hs]
    · exact State.blockLost_count n _
    · exact State.blockLost_rxOpen n _
  case reserved =>
    intro s n v hh hnat htest hl he hrx hhdr hc ht
    have hres : reservedTypes.contains (bits (s.received n v.toNat) 127 120) = true := by
      rcases ht with h | h <;> rw [h] <;> rfl
    have hs := State.blockError_reserved htest hnat hl he hrx n.isLt hhdr hc hres
    have ho : (s.blockError n v).only s [.lanes] [keyOf O.UNKNOWN_TYPE (n + 1)] :=
      hs ▸ State.only_count _ _ _ (State.only_mono (s.rxLane_only n) (by simp) (by simp)) (by simp)
    refine ⟨_, runKeep_of_only hh ho (by simp), ?_, ho⟩
    rw [hs]
    exact State.count_of_obj 1 (State.only_obj (s.rxLane_only n) (by simp))
  case erased =>
    intro s n v hh hnat htest he
    have hs := State.blockError_erased (v := v) htest hnat he
    have ho : (s.blockError n v).only s [.lports] [keyOf O.ERASED (n + 1)] :=
      hs ▸ State.only_trans (State.only_mono (State.dropOpen_only _ _) (by simp) (by simp))
        (State.only_count _ _ _ (State.only_refl _ _ _) (by simp))
    refine ⟨_, runKeep_of_only hh ho (by simp), ?_, ?_, ho⟩ <;> rw [hs]
    · exact State.only_obj (State.dropOpen_only _ _) (by simp)
    · exact State.dropOpen_rxOpen _
  case req =>
    intro s p hh heng hn hup hdue hskew hrole
    have hs : (if s.engUp (groupOf p) then s.reqSend p else s) = _ := (if_pos heng).trans (State.reqSend_due hn hup hdue hskew hrole)
    have hround := State.timeRound_streams (s := s) p
      [(s.timingLane p, timeBody 0 ((s.port p).reqSeq % 64) (s.departs (s.timingLane p)) 0)]
    have ho : (if s.engUp (groupOf p) then s.reqSend p else s).only s [.out, .ports, .lports, .lanes] [] :=
      hs ▸ State.only_modLPort _ _ (State.only_modPort _ _ (State.only_mono hround.frame (by simp) (by simp)) (by simp)) (by simp)
    refine ⟨_, runKeep_of_only hh ho (by simp), ?_, ?_, ?_, ?_, ?_, fun q hq => ⟨?_, ?_⟩, ho⟩ <;> rw [hs]
    · exact State.timeRound_carries (s := s) p _ _
    · simp
    · simp
    · simp
    · simp
    · simp [hq, State.streams_port hround]
    · simp [hq, hround.others q hq]
  case reqIn =>
    intro s p b a hh hn hup hk hl
    have hs := State.reqIn_port hn hup hk hl
    have hport (q : Nat) : ((s.rxLane (p + a.lane)).sampled (p + a.lane) a.codes).port q = s.port q := by
      simp [State.sampled, State.rxLane]
    have ho : (s.reqIn p b a).only s [.ports, .lanes] [] :=
      hs ▸ State.only_modPort _ _ (State.only_trans (State.only_mono (State.sampled_only _ _ _) (by simp) (by simp))
        (State.only_mono (s.rxLane_only _) (by simp) (by simp))) (by simp)
    refine ⟨_, runKeep_of_only hh ho (by simp), ?_, fun q hq => ?_, ho⟩ <;> rw [hs]
    · rw [State.modPort_port, if_pos rfl, hport]
    · rw [State.modPort_port, if_neg hq, hport]
  case resp =>
    intro s p seq t2 hh ha hpeer h0 h1
    have hresp : s.respTo (s.timingLane p) (s.port p).peer = [(s.timingLane p, timeBody 1 seq (s.departs (s.timingLane p))
        (tdiff56 (s.departs (s.timingLane p)) t2).toNat)] := by
      rw [hpeer]
      exact if_pos ⟨h0, h1⟩
    have hs := State.respSend_port ha
    rw [hresp] at hs
    have hround := State.timeRound_streams (s := s) p [(s.timingLane p, timeBody 1 seq (s.departs (s.timingLane p))
      (tdiff56 (s.departs (s.timingLane p)) t2).toNat)]
    have ho : (s.respSend p).only s [.out, .ports, .lports, .lanes] [] :=
      hs ▸ State.only_modPort _ _ (State.only_mono hround.frame (by simp) (by simp)) (by simp)
    refine ⟨_, runKeep_of_only hh ho (by simp), ?_, ?_, fun q hq => ?_, ho⟩ <;> rw [hs]
    · rw [State.modPort_port, if_pos rfl, State.streams_port hround]
    · exact State.timeRound_carries (s := s) p _ _
    · rw [State.modPort_port, if_neg hq, State.streams_port hround]
  case late =>
    intro s p seq t2 hh ha hpeer hlate
    have hs := State.respSend_port ha
    rw [hpeer, State.respTo_late hlate, State.timeRound_nil] at hs
    have ho : (s.respSend p).only s [.ports] [] := hs ▸ State.only_modPort _ _ (State.only_refl _ _ _) (by simp)
    exact ⟨_, runKeep_of_only hh ho (by simp), by rw [hs, State.modPort_port, if_pos rfl],
      fun q hq => by rw [hs, State.modPort_port, if_neg hq], ho⟩
  case drop =>
    intro s p hh ha
    have hs := State.reqDrop_port ha
    have ho : (s.reqDrop p).only s [.ports] [] := hs ▸ State.only_modPort _ _ (State.only_refl _ _ _) (by simp)
    exact ⟨_, runKeep_of_only hh ho (by simp), by rw [hs, State.modPort_port, if_pos rfl],
      fun q hq => by rw [hs, State.modPort_port, if_neg hq], ho⟩
  case set =>
    intro s p hh hn hup hdue hep hc
    have hs := State.setSend_due hn hup hdue hep hc
    have hround := State.timeRound_streams (s := s.modLPort p fun l => { l with setDue := false }) p [(s.timingLane p,
      timeBody 2 0 (s.departs (s.timingLane p) +
        BitVec.ofInt 56 (roundDiv (s.objI O.PORT_DELTA (p + 1) - s.objI O.PORT_ASYM (p + 1)) 2)) 0)]
    have ho : (s.setSend p).only s [.out, .lports, .lanes] [] :=
      hs ▸ State.only_trans (State.only_mono hround.frame (by simp) (by simp)) (State.only_modLPort _ _ (State.only_refl _ _ _) (by simp))
    refine ⟨_, runKeep_of_only hh ho (by simp), ?_, ?_, ho⟩ <;> rw [hs]
    · rw [State.streams_setDue hround, State.modLPort_lport, if_pos rfl]
    · exact State.timeRound_carries p _ _
end

section
/-! PROOF. Caravan cells and mailboxes (R71, R77, R97, R306 to R315, R317, R318, R321, R443): the blocks that a port must send, cells received,
and O31 from them. -/

namespace Sys2Proof.Machine

variable {s t : State}

/-! The blocks that are due on a port (R75, R77). -/

/-- A round answers what of the due blocks it had no place for. -/
theorem State.round_due (p : Nat) (ns : List Nat) (due : List Blk) : (s.round p [] ns due).1 = due.drop ns.length := by
  induction ns generalizing s due with
  | nil => rfl
  | cons n ns ih =>
    cases due with
    | nil => exact (ih []).trans List.drop_nil
    | cons b r => exact ih r

/-- The first of the blocks that are due leaves on the first lane of a round. -/
theorem State.round_carries_first (p n : Nat) (ns : List Nat) (b : Blk) (r : List Blk) : (s.round p [] (n :: ns) (b :: r)).2.carries p n b :=
  State.carries_streams (State.round_streams p [] ns r) (State.sendBlk_carries p n b)

/-- Of the blocks that are due, as many as a round has lanes leave in it. -/
theorem State.round_carries_due {p : Nat} {ns : List Nat} {due : List Blk} {b : Blk} (hb : b ∈ due.take ns.length) :
    ∃ m, (s.round p [] ns due).2.carries p m b := by
  induction ns generalizing s due with
  | nil => cases hb
  | cons n ns ih =>
    cases due with
    | nil => cases hb
    | cons c r =>
      rcases List.mem_cons.mp hb with rfl | hr
      · exact ⟨n, State.round_carries_first p n ns b r⟩
      · exact ih hr

theorem State.rounds_carries {p fuel : Nat} {due : List Blk} {b : Blk} (ha : s.activeLanes p ≠ []) (hf : due.length ≤ fuel) (hb : b ∈ due) :
    ∃ m, (s.rounds_ p fuel due).carries p m b := by
  induction fuel generalizing s due with
  | zero => rw [List.length_eq_zero_iff.mp (Nat.le_zero.mp hf)] at hb; cases hb
  | succ k ih =>
    have hdue : ¬ (due = [] ∧ s.streamDue p = false) := fun h => List.ne_nil_of_mem hb h.1
    have hlen : 0 < (s.activeLanes p).length := List.length_pos_iff.mpr ha
    rw [State.rounds_, if_neg hdue]
    rcases List.mem_append.mp ((List.take_append_drop (s.activeLanes p).length due).symm ▸ hb) with h | h
    · obtain ⟨m, hm⟩ := State.round_carries_due (s := s) (p := p) h
      exact ⟨m, State.carries_streams (State.rounds_streams p k _) hm⟩
    · refine ih ?_ ?_ ?_
      · rwa [State.streams_activeLanes (State.round_streams p [] _ due)]
      · rw [State.round_due, List.length_drop]
        omega
      · rwa [State.round_due]

/-- Every block that is due leaves on some lane. -/
theorem State.stream_carries {p : Nat} {due : List Blk} {b : Blk} (ha : s.activeLanes p ≠ []) (hb : b ∈ due) :
    ∃ m, (s.stream p due).carries p m b := by
  rw [State.stream, if_neg ha]
  exact State.rounds_carries ha (by omega) hb

/-- The first block that is due leaves on the first active lane. -/
theorem State.stream_carries_first {p n : Nat} {ns : List Nat} {b : Blk} {r : List Blk} (ha : s.activeLanes p = n :: ns) :
    (s.stream p (b :: r)).carries p n b := by
  have hne : s.activeLanes p ≠ [] := by simp [ha]
  rw [State.stream, if_neg hne]
  dsimp only
  rw [List.length_cons, show ∀ a b c d : Nat, a + 1 + b + c + d + 6 = (a + b + c + d + 6) + 1 by omega, State.rounds_,
    if_neg (fun h => List.cons_ne_nil _ _ h.1), ha]
  exact State.carries_streams (State.rounds_streams p _ _) (State.round_carries_first p n ns b r)

/-! A cell that is received. -/

/-- A port whose receivers have gone over the five blocks of a cell (R71, R76). -/
abbrev State.cellSeen (s : State) (p : Nat) (a : Arrival) : State := (s.rxPort p 5).sampled (p + a.lane) a.codes

theorem State.cellSeen_only (s : State) (p : Nat) (a : Arrival) : (s.cellSeen p a).only s [.lanes, .lports] [] :=
  State.only_trans (State.only_mono (State.sampled_only _ _ _) (by simp) (by simp)) (s.rxPort_only p 5)

theorem State.cpllLocked_of_only {l : List Part} {ks : List Nat} (h : t.only s l ks) (hk : O.PLL_STATE.key 14 ∉ ks) :
    t.cpllLocked = s.cpllLocked := by
  rw [State.cpllLocked, State.cpllLocked, State.only_obj h hk]

theorem State.cellSeen_cpllLocked (p : Nat) (a : Arrival) : (s.cellSeen p a).cpllLocked = s.cpllLocked :=
  State.cpllLocked_of_only (s.cellSeen_only p a) (by simp)

theorem State.cellSeen_cellSplit (p : Nat) (a : Arrival) (tw : Time56) : (s.cellSeen p a).cellSplit p tw = s.cellSplit p tw := by
  have ho := s.cellSeen_only p a
  have hobj (o : Obj) (j : Nat) : (s.cellSeen p a).obj o j = s.obj o j := State.only_obj ho (by simp)
  have hgroup (g : Nat) : (s.cellSeen p a).group g = s.group g := by
    rw [State.group, State.group, show (s.cellSeen p a).groups = s.groups from ho.1 .groups (by simp)]
  obtain ⟨r, hr⟩ := State.rxPort_lport (s := s) p 5
  have hport : ((s.cellSeen p a).lport p).rxAt = (s.lport p).rxAt := by
    rw [State.cellSeen, State.sampled, State.modLane_lport, hr]
  have hn : (s.cellSeen p a).portN p = s.portN p := by rw [State.portN, State.portN, hgroup]
  have hper : (s.cellSeen p a).f0Period = s.f0Period := by
    rw [State.f0Period, State.f0Period, State.hearthM, State.hearthM, hobj, hobj]
  have hround (k : Int) : (s.cellSeen p a).roundTime p k = s.roundTime p k := by
    rw [State.roundTime, State.roundTime, hn, hper]
  have hwidth : (s.cellSeen p a).rxWidth p = s.rxWidth p := by
    rw [State.rxWidth, State.rxWidth, State.rxAct, State.rxAct, hobj]
  rw [State.cellSplit, State.cellSplit, hport]
  cases (s.lport p).rxAt with
  | none => rfl
  | some at_ =>
    dsimp only
    rw [hround, hwidth]

/-- A cell that has been counted in CARAVAN_RX_CELLS (R307). -/
abbrev State.cellCounted (s : State) (p : Nat) (a : Arrival) : State := (s.cellSeen p a).count O.CARAVAN_RX_CELLS (p + 1)

theorem State.cellCounted_only (s : State) (p : Nat) (a : Arrival) :
    (s.cellCounted p a).only s [.lanes, .lports] [keyOf O.CARAVAN_RX_CELLS (p + 1)] :=
  State.only_count _ _ _ (State.only_mono (s.cellSeen_only p a) (by simp) (by simp)) (by simp)

/-- A cell does not change who is to read it. -/
theorem State.cellCounted_entriesOf (p : Nat) (a : Arrival) (q w : Nat) : (s.cellCounted p a).entriesOf q w = s.entriesOf q w := by
  have hb : (s.cellCounted p a).blobs = s.blobs := (s.cellCounted_only p a).1 .blobs (by simp)
  have hc : (s.cellCounted p a).caravan = s.caravan := (s.cellCounted_only p a).1 .caravan (by simp)
  simp only [State.entriesOf, State.liveTable, State.activeTable, State.idleEntry, State.blob, hb, hc]

theorem State.cellCounted_sinksOf (p : Nat) (a : Arrival) (q w : Nat) : (s.cellCounted p a).sinksOf q w = s.sinksOf q w := by
  have hb : (s.cellCounted p a).blobs = s.blobs := (s.cellCounted_only p a).1 .blobs (by simp)
  simp only [State.sinksOf, State.blob, hb]

/-- A cell does not change what its sender's cycle is, nor whether a swap lies between. -/
theorem State.cellCounted_crossedSwap {p : Nat} (hp : p < 48) (a : Arrival) (txc : Nat) :
    (s.cellCounted p a).crossedSwap ((s.cellCounted p a).sendCycle txc) = s.crossedSwap (s.sendCycle txc) := by
  have hnum : (s.cellCounted p a).obj O.CARAVAN_CYCLE_NUM = s.obj O.CARAVAN_CYCLE_NUM :=
    State.only_obj (s.cellCounted_only p a) (by
      rw [List.mem_singleton]
      exact Obj.key_ne (by decide) (by decide) (by omega))
  have hc : (s.cellCounted p a).caravan = s.caravan := (s.cellCounted_only p a).1 .caravan (by simp)
  rw [State.crossedSwap, State.crossedSwap, State.sendCycle, State.sendCycle, hc, hnum]

/-- A cell of a native port with an erased block. -/
theorem State.cellReceive_erased {p : Nat} {d : CellBlocks} (b : Body) (a : Arrival) (hn : s.native p = true) (hd : cellOctets d = none) :
    s.cellReceive p b d a = s.cellSeen p a := by
  simp only [State.cellReceive, hn, hd, Bool.not_true, Bool.false_eq_true, if_false]

section
variable {p : Nat} {b : Body} {d : CellBlocks} {a : Arrival} {x : Nat} (hn : s.native p = true) (hd : cellOctets d = some x)
include hn hd

theorem State.cellReceive_unlocked (hl : s.cpllLocked = false) :
    s.cellReceive p b d a = (s.cellSeen p a).count O.CARAVAN_DROP_CLK (p + 1) := by
  have hl' := (State.cellSeen_cpllLocked p a).trans hl
  simp only [State.cellReceive, hn, hd, hl', Bool.not_true, Bool.not_false, Bool.false_eq_true, if_true, if_false]

variable (hl : s.cpllLocked = true)
include hl

theorem State.cellReceive_split (hsp : s.cellSplit p a.tw = true) :
    s.cellReceive p b d a = (s.cellSeen p a).count O.CARAVAN_WIDTH_DROP (p + 1) := by
  have hl' := (State.cellSeen_cpllLocked p a).trans hl
  have hsp' := (State.cellSeen_cellSplit p a a.tw).trans hsp
  simp only [State.cellReceive, hn, hd, hl', hsp', Bool.not_true, Bool.false_eq_true, if_true, if_false]

variable (hsp : s.cellSplit p a.tw = false)
include hsp

theorem State.cellReceive_crc (hc : crc16 (beBytes 64 x) ≠ blk b 31 16) :
    s.cellReceive p b d a = (s.cellSeen p a).count O.CARAVAN_CRC (p + 1) := by
  have hl' := (State.cellSeen_cpllLocked p a).trans hl
  have hsp' := (State.cellSeen_cellSplit p a a.tw).trans hsp
  simp only [State.cellReceive, hn, hd, hl', hsp', if_pos hc, Bool.not_true, Bool.false_eq_true, if_false]

variable (hc : crc16 (beBytes 64 x) = blk b 31 16)
include hc

/-- A whole cell that nobody reads. -/
theorem State.cellReceive_unmapped (hu : bits (blk b 119 56) 63 62 = 3 ∨ (s.entriesOf p (blk b 55 44) = [] ∧ s.sinksOf p (blk b 55 44) = [])) :
    s.cellReceive p b d a = (s.cellCounted p a).count O.CARAVAN_UNMAPPED (p + 1) := by
  have hl' := (State.cellSeen_cpllLocked p a).trans hl
  have hsp' := (State.cellSeen_cellSplit p a a.tw).trans hsp
  have hents := State.cellCounted_entriesOf (s := s) p a p (blk b 55 44)
  have hsinks := State.cellCounted_sinksOf (s := s) p a p (blk b 55 44)
  by_cases hlag : bits (blk b 119 56) 63 62 = 3
  · simp only [State.cellReceive, hn, hd, hl', hsp', if_neg (not_not.mpr hc), if_pos hlag, Bool.not_true, Bool.false_eq_true, if_false]
  · obtain ⟨he, hk⟩ := hu.resolve_left hlag
    simp only [State.cellReceive, hn, hd, hl', hsp', if_neg (not_not.mpr hc), if_neg hlag, hents, hsinks, he, hk, List.isEmpty_nil,
      Bool.and_self, Bool.not_true, Bool.false_eq_true, if_true, if_false]

/-- A cell for one sink alone, where SINK_READY stands already. -/
theorem State.cellReceive_sink {k : Nat} (hp : p < 48) (hlag : bits (blk b 119 56) 63 62 ≠ 3) (he : s.entriesOf p (blk b 55 44) = [])
    (hk : s.sinksOf p (blk b 55 44) = [k]) (hx : s.crossedSwap (s.sendCycle (bits (blk b 119 56) 61 50)) = false) (hr : s.sinkReady = true) :
    ∃ ns, s.cellReceive p b d a = (s.cellCounted p a).modSmbox k fun m =>
      { m with payload := x, user := blk b 119 56, ns := ns, full := true, mark := m.mark || m.full } := by
  have hl' := (State.cellSeen_cpllLocked p a).trans hl
  have hsp' := (State.cellSeen_cellSplit p a a.tw).trans hsp
  have hents := (State.cellCounted_entriesOf p a p (blk b 55 44)).trans he
  have hsinks := (State.cellCounted_sinksOf p a p (blk b 55 44)).trans hk
  have hcross := (State.cellCounted_crossedSwap hp a (bits (blk b 119 56) 61 50)).trans hx
  have hready : (s.cellCounted p a).sinkReady = true := by
    rw [State.sinkReady, show (s.cellCounted p a).caravan = s.caravan from (s.cellCounted_only p a).1 .caravan (by simp)]
    exact hr
  simp only [State.cellReceive, State.toSink, hn, hd, hl', hsp', if_neg (not_not.mpr hc), if_neg hlag, hents, hsinks, hcross, hready,
    forEach, List.foldl_cons, List.foldl_nil, List.isEmpty_nil, List.isEmpty_cons, Bool.and_false, Bool.not_true, Bool.false_eq_true,
    if_true, if_false]
  exact ⟨_, rfl⟩

end

/-- A cell that ends in one count. -/
theorem State.cellSeen_count_only (s : State) (p : Nat) (a : Arrival) (o : Obj) :
    ((s.cellSeen p a).count o (p + 1)).only s [.lanes, .lports] [keyOf o (p + 1)] :=
  State.only_count _ _ _ (State.only_mono (s.cellSeen_only p a) (by simp) (by simp)) (by simp)

theorem State.cellSeen_count (p : Nat) (a : Arrival) (o : Obj) :
    ((s.cellSeen p a).count o (p + 1)).obj o (p + 1) = (s.count o (p + 1)).obj o (p + 1) :=
  State.count_of_obj 1 (State.only_obj (s.cellSeen_only p a) (by simp))

/-! The mailboxes (R321, R443). -/

theorem State.modLmbox_lmbox (m : Nat) (f : Mailbox → Mailbox) (k : Nat) : (s.modLmbox m f).lmbox k = if k = m then f (s.lmbox m) else s.lmbox k :=
  Tab.get_set _ _ _ _ _

theorem State.modSmbox_smbox (m : Nat) (f : Mailbox → Mailbox) (k : Nat) : (s.modSmbox m f).smbox k = if k = m then f (s.smbox m) else s.smbox k :=
  Tab.get_set _ _ _ _ _

theorem State.only_modLmbox {l : List Part} {ks : List Nat} (m : Nat) (f : Mailbox → Mailbox) (h : t.only s l ks) (hl : .caravan ∈ l) :
    (t.modLmbox m f).only s l ks := by
  unfold State.modLmbox
  exact State.only_modCaravan _ h hl

theorem State.only_modSmbox {l : List Part} {ks : List Nat} (m : Nat) (f : Mailbox → Mailbox) (h : t.only s l ks) (hl : .caravan ∈ l) :
    (t.modSmbox m f).only s l ks := by
  unfold State.modSmbox
  exact State.only_modCaravan _ h hl

theorem State.only_setTaken {l : List Part} {ks : List Nat} (p w : Nat) (x : Option Taken) (h : t.only s l ks) (hl : .caravan ∈ l) :
    (t.setTaken p w x).only s l ks := by
  unfold State.setTaken
  exact State.only_modCaravan _ h hl

theorem State.setTaken_taken (p w : Nat) (x : Option Taken) : Tab.get (s.setTaken p w x).caravan.taken none (4096 * p + w) = x := by
  simp [State.setTaken, Tab.get_set]

/-! The bay (R313). -/

/-- The cells of the bay that came from a slot of port `p`. -/
def bayFrom (p w : Nat) (c : BayCell) : Bool := c.srcPort == p && c.srcSlot == w

/-- The bay without the cells of a source. -/
def Caravan.bayWithout (c : Caravan) (p w : Nat) : Caravan := { c with bay := c.bay.filter fun x => !bayFrom p w x }

/-- A source's cells are freed; those that nobody has read are counted. -/
def State.bayFree (s : State) (p w : Nat) : State :=
  (s.discard p ((s.caravan.bay.filter (bayFrom p w)).filter fun c => !c.read).length).modCaravan fun c => c.bayWithout p w

theorem exec_bayEntryFree (p : Fin 48) (w : BitVec 12) (s : State) : exec (.bayEntryFree p w) s = runKeep s (·.bayFree p w.toNat) := rfl

theorem State.bayFree_read {p w : Nat} (h : ∀ c ∈ s.caravan.bay, c.srcPort = p → c.srcSlot = w → c.read = true) :
    s.bayFree p w = s.modCaravan fun c => c.bayWithout p w := by
  have hnone : (s.caravan.bay.filter (bayFrom p w)).filter (fun c => !c.read) = [] := by
    simp only [List.filter_filter, List.filter_eq_nil_iff, bayFrom, Bool.and_eq_true, Bool.not_eq_true', beq_iff_eq, not_and]
    exact fun c hc hr hp hw => absurd (h c hc hp hw) (by simp [hr])
  rw [State.bayFree, hnone]
  rfl

theorem State.bayFree_unread {p w : Nat} {c : BayCell} (h : s.caravan.bay.filter (bayFrom p w) = [c]) (hc : c.read = false) :
    s.bayFree p w = ((s.count O.CARAVAN_DISCARD (p + 1)).raise O.CARAVAN_FLAGS 2).modCaravan fun c => c.bayWithout p w := by
  simp [State.bayFree, h, hc, State.discard]

/-! Read points and slots (R308, R311, R321). -/

theorem State.atReadPoint_none {p w : Nat} (h : s.cpllLocked = false ∨ (s.plan p).find? (fun e => e.slot == w) = none) :
    s.atReadPoint p w = s := by
  rcases h with h | h
  · simp [State.atReadPoint, h]
  · simp [State.atReadPoint, h]

/-- The read point of an entry that names a local mailbox with a cell (R311, R321). -/
theorem State.atReadPoint_local {p w : Nat} {e : SchedEntry} (hl : s.cpllLocked = true) (he : (s.plan p).find? (fun e => e.slot == w) = some e)
    (hsrc : e.srcPort = srcLocal) (hr : 4 ≤ e.round) (hm : (s.lmbox e.srcSlot).full = true) : s.atReadPoint p w =
    (s.setTaken p w (some ⟨s.obj O.DEVICE_ID % 2 ^ 17 * 2 ^ 33 + s.obj O.CARAVAN_CYCLE_NUM * 256 + (s.lmbox e.srcSlot).user % 256,
      (s.lmbox e.srcSlot).payload, s.obj O.CARAVAN_CYCLE_NUM, none⟩)).modLmbox e.srcSlot fun m => { m with taken := true } := by
  have hlate : ¬ e.round < 4 := by omega
  simp only [State.atReadPoint, hl, he, if_pos hsrc, if_neg hlate, if_pos hm, Bool.not_true, Bool.false_eq_true, if_false]

/-- A slot whose cell has been taken from no other port sends it. -/
theorem State.atSlot_taken {p w : Nat} (lag : Nat) {x : Taken} (hl : s.cpllLocked = true)
    (hx : Tab.get s.caravan.taken none (4096 * p + w) = some x) (hsrc : x.src = none) : s.atSlot p w lag =
    ((s.setTaken p w none).stream p (cellBlks (lag % 4 * 2 ^ 62 + x.cycle % 4096 * 2 ^ 50 + x.hdr % 2 ^ 50) w x.payload)).count
      O.CARAVAN_TX_CELLS (p + 1) := by
  simp [State.atSlot, hl, hx, hsrc]

theorem State.atSlot_empty {p w : Nat} (lag : Nat) {e : SchedEntry} (hl : s.cpllLocked = true)
    (hx : Tab.get s.caravan.taken none (4096 * p + w) = none) (he : (s.plan p).find? (fun e => e.slot == w) = some e) :
    s.atSlot p w lag = s.count O.CARAVAN_EMPTY (p + 1) := by
  simp only [State.atSlot, hl, hx, he, Bool.not_true, Bool.false_eq_true, if_false]

end Sys2Proof.Machine

open Sys2Proof Sys2Proof.Machine

/-- Settles O31, clause by clause: cells received, read points, slots, the bay and the mailboxes. -/
theorem caravanCellsPass : Obligations.CaravanCellsPass := by
  unfold Obligations.CaravanCellsPass
  refine ⟨?ethernet, ?erased, ?unlocked, ?split, ?crc, ?unmapped, ?sink, ?noRead, ?readLocal, ?slot, ?empty, ?free, ?unread, ?place, ?release⟩
  case ethernet =>
    intro s p b d a hh hn
    exact runKeep_same hh (by simp [State.cellReceive, hn])
  case erased =>
    intro s p b d a hh hn hd
    have ho : (s.cellReceive p b d a).only s [.lanes, .lports] [] := State.cellReceive_erased b a hn hd ▸ s.cellSeen_only p a
    exact ⟨_, runKeep_of_only hh ho (by simp), ho⟩
  case unlocked =>
    intro s p b d a x hh hn hd hl
    have hs := State.cellReceive_unlocked (b := b) (a := a) hn hd hl
    have ho : (s.cellReceive p b d a).only s [.lanes, .lports] _ := hs ▸ s.cellSeen_count_only p a _
    exact ⟨_, runKeep_of_only hh ho (by simp), hs ▸ State.cellSeen_count p a _, ho⟩
  case split =>
    intro s p b d a x hh hn hd hl hsp
    have hs := State.cellReceive_split (b := b) hn hd hl hsp
    have ho : (s.cellReceive p b d a).only s [.lanes, .lports] _ := hs ▸ s.cellSeen_count_only p a _
    exact ⟨_, runKeep_of_only hh ho (by simp), hs ▸ State.cellSeen_count p a _, ho⟩
  case crc =>
    intro s p b d a x hh hn hd hl hsp hc
    have hs := State.cellReceive_crc hn hd hl hsp hc
    have ho : (s.cellReceive p b d a).only s [.lanes, .lports] _ := hs ▸ s.cellSeen_count_only p a _
    exact ⟨_, runKeep_of_only hh ho (by simp), hs ▸ State.cellSeen_count p a _, ho⟩
  case unmapped =>
    intro s p b d a x hh hn hd hl hsp hc hu
    have hs := State.cellReceive_unmapped hn hd hl hsp hc hu
    have hcounted := s.cellCounted_only p a
    have ho : (s.cellReceive p b d a).only s [.lanes, .lports] [keyOf O.CARAVAN_RX_CELLS (p + 1), keyOf O.CARAVAN_UNMAPPED (p + 1)] :=
      hs ▸ State.only_count _ _ _ (State.only_mono hcounted (by simp) (by simp)) (by simp)
    refine ⟨_, runKeep_of_only hh ho (by simp), ?_, ?_, ho⟩ <;> rw [hs]
    · rw [State.count_obj_ne _ (Obj.key_ne (by decide) (by omega) (by omega))]
      exact State.cellSeen_count p a _
    · refine State.count_of_obj 1 (State.only_obj hcounted ?_)
      rw [List.mem_singleton]
      exact Obj.key_ne (by decide) (by omega) (by omega)
  case sink =>
    intro s p b d a x k hh hn hd hl hsp hc hlag he hk hx hr
    obtain ⟨ns, hs⟩ := State.cellReceive_sink hn hd hl hsp hc p.isLt hlag he hk hx hr
    have hcounted := s.cellCounted_only p a
    have hcar : (s.cellCounted p a).caravan = s.caravan := hcounted.1 .caravan (by simp)
    have hbox (j : Nat) : (s.cellCounted p a).smbox j = s.smbox j := by rw [State.smbox, State.smbox, hcar]
    have ho : (s.cellReceive p b d a).only s [.lanes, .lports, .caravan] [keyOf O.CARAVAN_RX_CELLS (p + 1)] :=
      hs ▸ State.only_modSmbox _ _ (State.only_mono hcounted (by simp) (by simp)) (by simp)
    refine ⟨_, runKeep_of_only hh ho (by simp), ?_, ?_, ?_, ?_, fun j hj => ?_, ?_, ho⟩ <;> rw [hs]
    · rw [State.modSmbox_smbox, if_pos rfl]
    · rw [State.modSmbox_smbox, if_pos rfl]
    · rw [State.modSmbox_smbox, if_pos rfl]
    · rw [State.modSmbox_smbox, if_pos rfl, hbox]
    · rw [State.modSmbox_smbox, if_neg hj, hbox]
    · rw [State.modSmbox, State.modCaravan_caravan, hcar]
  case noRead =>
    intro s p w hh h
    exact runKeep_same hh (State.atReadPoint_none h)
  case readLocal =>
    intro s p w e hh hl he hsrc hr hm
    have hs := State.atReadPoint_local hl he hsrc hr hm
    have ho : (s.atReadPoint p w.toNat).only s [.caravan] [] :=
      hs ▸ State.only_modLmbox _ _ (State.only_setTaken _ _ _ (State.only_refl _ _ _) (by simp)) (by simp)
    refine ⟨_, runKeep_of_only hh ho (by simp), ?_, ?_, ?_, ho⟩ <;> rw [hs]
    · rw [State.modLmbox_lmbox, if_pos rfl]
      simp [State.lmbox, State.setTaken]
    · simp [State.modLmbox, State.setTaken]
    · simp [State.modLmbox, State.setTaken]
  case slot =>
    intro s p w l x n ns hh hl hx hsrc ha
    have hs := State.atSlot_taken l.val hl hx hsrc
    have hlanes : (s.setTaken p w.toNat none).activeLanes p = n :: ns := ha
    have hstream := State.stream_streams (s := s.setTaken p w.toNat none) p
      (cellBlks (l.val % 4 * 2 ^ 62 + x.cycle % 4096 * 2 ^ 50 + x.hdr % 2 ^ 50) w.toNat x.payload)
    have htaken : ((s.setTaken p w.toNat none).stream p
        (cellBlks (l.val % 4 * 2 ^ 62 + x.cycle % 4096 * 2 ^ 50 + x.hdr % 2 ^ 50) w.toNat x.payload)).only s
        [.caravan, .lanes, .lports, .out] [] :=
      State.only_trans (State.only_mono hstream.frame (by simp) (by simp)) (State.only_setTaken _ _ _ (State.only_refl _ _ _) (by simp))
    have ho : (s.atSlot p w.toNat l).only s [.caravan, .lanes, .lports, .out] [keyOf O.CARAVAN_TX_CELLS (p + 1)] :=
      hs ▸ State.only_count _ _ _ (State.only_mono htaken (by simp) (by simp)) (by simp)
    refine ⟨_, runKeep_of_only hh ho (by simp), ?_, ?_, fun i hi => ?_, ?_, ho⟩ <;> rw [hs]
    · rw [State.count_caravan, show ∀ u, (State.stream (s.setTaken p w.toNat none) p u).caravan = (s.setTaken p w.toNat none).caravan from
        fun u => (State.stream_streams p u).frame.1 .caravan (by simp)]
      exact State.setTaken_taken _ _ _
    · rw [State.count_out]
      exact State.stream_carries_first hlanes
    · rw [State.count_out]
      refine State.stream_carries (b := .data (bits x.payload (128 * i + 127) (128 * i))) (by simp [hlanes]) (List.mem_cons_of_mem _ ?_)
      exact List.mem_map_of_mem (f := fun i => Blk.data (bits x.payload (128 * i + 127) (128 * i))) (by simp; omega)
    · exact State.count_of_obj 1 (State.only_obj htaken (by simp))
  case empty =>
    intro s p w l e hh hl hx he
    have hs := State.atSlot_empty l.val hl hx he
    have ho : (s.atSlot p w.toNat l).only s [] [keyOf O.CARAVAN_EMPTY (p + 1)] :=
      hs ▸ State.only_count _ _ _ (State.only_refl _ _ _) (by simp)
    exact ⟨_, runKeep_of_only hh ho (by simp), by rw [hs], ho⟩
  case free =>
    intro s p w hh hread
    have hs := State.bayFree_read hread
    have ho : (s.bayFree p w.toNat).only s [.caravan] [] := hs ▸ State.only_modCaravan _ (State.only_refl _ _ _) (by simp)
    refine ⟨_, (exec_bayEntryFree p w s).trans (runKeep_of_only hh ho (by simp)), ?_, ho⟩
    rw [hs, State.modCaravan_caravan]
    rfl
  case unread =>
    intro s p w c hh hone hread
    have hs := State.bayFree_unread hone hread
    have hcount := State.only_count (s := s) O.CARAVAN_DISCARD (p + 1) 1 (State.only_refl s [] [keyOf O.CARAVAN_DISCARD (p + 1)]) (by simp)
    have ho : (s.bayFree p w.toNat).only s (.caravan :: flagParts) (keyOf O.CARAVAN_DISCARD (p + 1) :: flagKeys O.CARAVAN_FLAGS) :=
      hs ▸ State.only_modCaravan _ (State.only_raise _ _ (State.only_mono hcount (by simp) (by simp)) (by simp +contextual) (by simp +contextual))
        (by simp)
    refine ⟨_, (exec_bayEntryFree p w s).trans (runKeep_of_only hh ho (by decide)), ?_, ?_, ?_, ho⟩ <;> rw [hs]
    · rw [State.modCaravan_caravan, State.raise_caravan, State.count_caravan]
      rfl
    · rw [State.modCaravan_obj]
      exact State.raise_obj _ _ _ _ (Obj.key_notMem_flagKeys (by omega) (by decide) (by decide) (by decide))
    · rw [State.modCaravan_obj, State.raise_obj_same _ _ _ _ (by decide),
        State.count_obj_ne _ (Obj.key_ne (by decide) (by decide) (by omega))]
      rfl
  case place =>
    intro s m d u hh
    have ho : (s.modLmbox m fun b => if b.full then b else { b with payload := d.toNat, user := u.toNat, full := true, taken := false }).only
        s [.caravan] [] := State.only_modLmbox _ _ (State.only_refl _ _ _) (by simp)
    exact ⟨_, runKeep_of_only hh ho (by simp), (State.modLmbox_lmbox _ _ _).trans (if_pos rfl),
      fun k hk => (State.modLmbox_lmbox _ _ _).trans (if_neg hk), by simp [State.modLmbox], ho⟩
  case release =>
    intro s m hh
    have ho : (s.modSmbox m fun b => { b with full := false }).only s [.caravan] [] :=
      State.only_modSmbox _ _ (State.only_refl _ _ _) (by simp)
    exact ⟨_, runKeep_of_only hh ho (by simp), (State.modSmbox_smbox _ _ _).trans (if_pos rfl),
      fun k hk => (State.modSmbox_smbox _ _ _).trans (if_neg hk), by simp [State.modSmbox], ho⟩
end

section
/-! PROOF. Fast commands on their way (R72, R75, R243 to R248, R299): what a command's reception reads, the queues that it waits in, and
slot 0. -/

namespace Sys2Proof.Machine

variable {s t : State}

/-! A port block that is received leaves what a command's reception reads. -/

theorem State.rxPort_obj (p k : Nat) (o : Obj) (j : Nat) : (s.rxPort p k).obj o j = s.obj o j := State.only_obj (s.rxPort_only p k) (by simp)

theorem State.rxPort_hearth (p k : Nat) : (s.rxPort p k).hearth = s.hearth := (s.rxPort_only p k).1 .hearth (by simp)
theorem State.rxPort_tio (p k : Nat) : (s.rxPort p k).tio = s.tio := (s.rxPort_only p k).1 .tio (by simp)
theorem State.rxPort_hier (p k : Nat) : (s.rxPort p k).hier = s.hier := (s.rxPort_only p k).1 .hier (by simp)
theorem State.rxPort_twin (p k : Nat) : (s.rxPort p k).twin = s.twin := (s.rxPort_only p k).1 .twin (by simp)
theorem State.rxPort_power (p k : Nat) : (s.rxPort p k).power = s.power := (s.rxPort_only p k).1 .power (by simp)
theorem State.rxPort_groups (p k : Nat) : (s.rxPort p k).groups = s.groups := (s.rxPort_only p k).1 .groups (by simp)

theorem State.rxPort_up (p k q : Nat) : ((s.rxPort p k).lport q).up = (s.lport q).up := by
  by_cases hq : q = p
  · obtain ⟨r, hr⟩ := State.rxPort_lport (s := s) p k
    rw [hq, hr]
  · rw [State.rxPort_lport_ne hq]

theorem State.rxPort_native (p k q : Nat) : (s.rxPort p k).native q = s.native q := by
  rw [State.native, State.native, State.group, State.group, State.rxPort_groups]

theorem State.rxPort_epPort (p k q : Nat) : (s.rxPort p k).epPort q = s.epPort q := by
  rw [State.epPort, State.epPort, State.rxPort_obj]

theorem State.rxPort_rank (p k : Nat) : (s.rxPort p k).rank = s.rank := State.rxPort_obj _ _ _ _

theorem State.rxPort_peerRank (p k q : Nat) : (s.rxPort p k).peerRank q = s.peerRank q := by
  rw [State.peerRank, State.peerRank, State.advert, State.advert, State.rxPort_hier]

theorem State.rxPort_modeStrap (p k : Nat) : (s.rxPort p k).modeStrap = s.modeStrap := by
  rw [State.modeStrap, State.modeStrap, State.rxPort_power]

theorem State.rxPort_cmdFrom (p k q : Nat) : (s.rxPort p k).cmdFrom q = s.cmdFrom q := by
  rw [State.cmdFrom, State.cmdFrom, State.peerLower, State.peerLower, State.manager, State.manager, State.rxPort_native, State.rxPort_up,
    State.rxPort_epPort, State.rxPort_peerRank, State.rxPort_rank, State.rxPort_modeStrap, State.rxPort_obj, State.rxPort_twin]

theorem State.rxPort_peerHigher (p k q : Nat) : (s.rxPort p k).peerHigher q = s.peerHigher q := by
  rw [State.peerHigher, State.peerHigher, State.rxPort_epPort, State.rxPort_peerRank, State.rxPort_rank]

theorem State.rxPort_epAllowed (p k q : Nat) : (s.rxPort p k).epAllowed q = s.epAllowed q := by
  rw [State.epAllowed, State.epAllowed, State.manager, State.manager, State.rxPort_twin, State.rxPort_modeStrap, State.rxPort_obj]

theorem State.rxPort_regEntry (p k e : Nat) : (s.rxPort p k).regEntry e = s.regEntry e := by
  rw [State.regEntry, State.regEntry, State.rxPort_hier]

theorem State.rxPort_relayPorts (p k : Nat) (b : Body) : (s.rxPort p k).relayPorts b = s.relayPorts b := by
  rw [State.relayPorts, State.relayPorts, State.observer, State.observer, State.rxPort_modeStrap]
  simp only [State.rxPort_peerHigher, State.rxPort_epAllowed, State.rxPort_regEntry, State.rxPort_native, State.rxPort_up,
    State.rxPort_epPort, State.rxPort_obj]

theorem State.rxPort_f0Period (p k : Nat) : (s.rxPort p k).f0Period = s.f0Period := by
  rw [State.f0Period, State.f0Period, State.hearthM, State.hearthM, State.rxPort_obj, State.rxPort_obj]

theorem State.rxPort_sinceF0 (p k : Nat) (x : Int) : (s.rxPort p k).sinceF0 x = s.sinceF0 x := by
  rw [State.sinceF0, State.sinceF0, State.f0Edge40, State.f0Edge40, State.rxPort_f0Period, State.rxPort_obj, State.rxPort_obj,
    State.rxPort_hearth]

theorem State.rxPort_execEdge (p k : Nat) (b : Body) : (s.rxPort p k).execEdge b = s.execEdge b := by
  rw [State.execEdge, State.execEdge, State.nearestOwn, State.nearestOwn, State.nearNow, State.nearNow, State.now, State.now,
    State.objI, State.objI, State.rxPort_f0Period, State.rxPort_sinceF0, State.rxPort_obj, State.rxPort_obj, State.rxPort_hearth]

theorem State.rxPort_cmdMine (p k : Nat) (b : Body) : (s.rxPort p k).cmdMine b = s.cmdMine b := by
  rw [State.cmdMine, State.cmdMine, State.rxPort_obj]

theorem State.rxPort_cmdLate (p k : Nat) (b : Body) : (s.rxPort p k).cmdLate b = s.cmdLate b := by
  rw [State.cmdLate, State.cmdLate, State.ns, State.ns, State.rxPort_hearth]

theorem State.rxPort_lastSeq (p k i : Nat) : (s.rxPort p k).lastSeq i = s.lastSeq i := by
  rw [State.lastSeq, State.lastSeq, State.rxPort_tio]

theorem State.rxPort_cmdNew (p k : Nat) (b : Body) : (s.rxPort p k).cmdNew b = s.cmdNew b := by
  rw [State.cmdNew, State.cmdNew, State.rxPort_lastSeq]

/-! LAST_SEQ and the queues (R245 to R247). -/

theorem State.only_setLastSeq {l : List Part} {ks : List Nat} (i : Nat) (v : Option Nat) (h : t.only s l ks) (hl : .tio ∈ l) :
    (t.setLastSeq i v).only s l ks := by
  unfold State.setLastSeq
  exact State.only_modTio _ h hl

theorem State.setLastSeq_same (i : Nat) (v : Option Nat) : (s.setLastSeq i v).lastSeq i = v := by
  by_cases h : i = 0 <;> simp [State.setLastSeq, State.lastSeq, h]

theorem State.setLastSeq_ne {i j : Nat} (v : Option Nat) (h : (j = 0) ≠ (i = 0)) : (s.setLastSeq i v).lastSeq j = s.lastSeq j := by
  by_cases hi : i = 0 <;> by_cases hj : j = 0 <;> simp_all [State.setLastSeq, State.lastSeq]

/-- LAST_SEQ moves neither the queues nor what waits for slot 0. -/
theorem State.setLastSeq_queues (i : Nat) (v : Option Nat) : (s.setLastSeq i v).tio.execQ = s.tio.execQ ∧
    (s.setLastSeq i v).tio.relayQ = s.tio.relayQ ∧ (s.setLastSeq i v).tio.issueQ = s.tio.issueQ := by
  by_cases h : i = 0 <;> simp [State.setLastSeq, h]

/-- A command is queued for execution where there is room. -/
theorem State.queueExec_eq (b : Nat) (h : s.tio.execQ.length < 32) : s.queueExec b = s.modTio fun x =>
    { x with execQ := insertCmd (fun c => s.execEdge (BitVec.ofNat 104 c)) b x.execQ } :=
  if_neg (Nat.not_le.mpr h)

theorem State.queueRelay_eq (p b : Nat) (h : (Tab.get s.tio.relayQ [] p).length < 16) : s.queueRelay p b = s.modTio fun x =>
    { x with relayQ := Tab.set x.relayQ [] p (Tab.get s.tio.relayQ [] p ++ [b]) } :=
  if_neg (Nat.not_le.mpr h)

/-- A command is queued for every port of a list that names each once, and finds room on each. -/
structure State.relays (s t : State) (xs : List Nat) (b : Nat) : Prop where
  frame : t.only s [.tio] []
  queues : ∀ q, Tab.get t.tio.relayQ [] q = Tab.get s.tio.relayQ [] q ++ if q ∈ xs then [b] else []
  execQ : t.tio.execQ = s.tio.execQ
  seqs : ∀ i, t.lastSeq i = s.lastSeq i

theorem State.queueRelay_relays (p b : Nat) (h : (Tab.get s.tio.relayQ [] p).length < 16) : s.relays (s.queueRelay p b) [p] b := by
  rw [State.queueRelay_eq p b h]
  refine ⟨State.only_modTio _ (State.only_refl _ _ _) (by simp), fun q => ?_, rfl, fun i => rfl⟩
  rw [State.modTio_tio, Tab.get_set]
  by_cases hq : q = p <;> simp [hq]

theorem State.forEach_queueRelay {b : Nat} {xs : List Nat} (hd : xs.Nodup) (h : ∀ q ∈ xs, (Tab.get s.tio.relayQ [] q).length < 16) :
    s.relays (forEach xs (fun s q => s.queueRelay q b) s) xs b := by
  unfold forEach
  induction xs generalizing s with
  | nil => exact ⟨State.only_refl _ _ _, fun q => by simp, rfl, fun i => rfl⟩
  | cons x xs ih =>
    obtain ⟨hx, hxs⟩ := List.nodup_cons.mp hd
    have one := State.queueRelay_relays x b (h x List.mem_cons_self)
    have hrest (q : Nat) (hq : q ∈ xs) : (Tab.get (s.queueRelay x b).tio.relayQ [] q).length < 16 := by
      have hne : q ≠ x := fun he => hx (he ▸ hq)
      rw [one.queues, if_neg (by simpa using hne), List.append_nil]
      exact h q (List.mem_cons_of_mem _ hq)
    have rest := ih hxs hrest
    refine ⟨State.only_trans rest.frame one.frame, fun q => ?_, rest.execQ.trans one.execQ, fun i => (rest.seqs i).trans (one.seqs i)⟩
    rw [List.foldl_cons, rest.queues, one.queues]
    by_cases hq : q = x
    · simp [hq, hx]
    · simp [hq]

theorem State.relayPorts_nodup (b : Body) : (s.relayPorts b).Nodup := by
  unfold State.relayPorts
  split
  · exact List.nodup_nil
  · exact List.nodup_range.filter _

/-! A CMD block that is received (R245, R246). -/

theorem State.cmdFrom_serves {p : Nat} (h : s.cmdFrom p = true) : (s.native p && (s.lport p).up) = true := by
  rw [State.cmdFrom, Bool.and_eq_true] at h
  exact h.1

theorem State.cmdIn_none {p : Nat} {b : Body} (h : s.cmdFrom p = false ∨ cmdOp b = 0) :
    s.cmdIn p b = if s.native p && (s.lport p).up then s.rxPort p 1 else s := by
  have hstop (u : State) (hu : u.cmdFrom p = s.cmdFrom p) : (!u.cmdFrom p || cmdOp b == 0) = true := by
    rcases h with h | h <;> simp [hu, h]
  unfold State.cmdIn
  dsimp only
  refine if_pos (hstop _ ?_)
  split
  · exact State.rxPort_cmdFrom p 1 p
  · rfl

section
variable {p : Nat} {b : Body} (hf : s.cmdFrom p = true) (hop : cmdOp b ≠ 0)
include hf hop

theorem State.cmdIn_dup (hn : s.cmdNew b = false) : s.cmdIn p b = (s.rxPort p 1).count O.CMD_DUP := by
  simp [State.cmdIn, State.cmdFrom_serves hf, State.rxPort_cmdFrom, State.rxPort_cmdNew, hf, hop, hn]

/-- The state in which a new command has been received, and its sequence number recorded. -/
def State.cmdHeard (s : State) (p : Nat) (b : Body) : State := (s.rxPort p 1).setLastSeq (cmdIss b) (some (cmdSeq b))

omit hf hop in
theorem State.cmdHeard_only (s : State) (p : Nat) (b : Body) : (s.cmdHeard p b).only s [.tio, .lanes, .lports] [] :=
  State.only_setLastSeq _ _ (State.only_mono (s.rxPort_only p 1) (by simp) (by simp)) (by simp)

theorem State.cmdIn_late (hn : s.cmdNew b = true) (hl : s.cmdLate b = true) :
    s.cmdIn p b = ((s.cmdHeard p b).count O.CMD_LATE).raise O.TIO_SYS_FLAGS 2 := by
  have hlate : (s.cmdHeard p b).cmdLate b = true := (State.rxPort_cmdLate p 1 b).trans hl
  rw [State.cmdHeard] at hlate
  simp [State.cmdIn, State.cmdHeard, State.cmdFrom_serves hf, State.rxPort_cmdFrom, State.rxPort_cmdNew, hf, hop, hn, hlate]

/-- A timely command of this part is queued for execution and for the ports that it is relayed to. -/
theorem State.cmdIn_timely (hn : s.cmdNew b = true) (hl : s.cmdLate b = false) (hm : s.cmdMine b = true) :
    s.cmdIn p b = forEach (((s.cmdHeard p b).queueExec b.toNat).relayPorts b) (fun s q => s.queueRelay q b.toNat)
      ((s.cmdHeard p b).queueExec b.toNat) := by
  have hlate : (s.cmdHeard p b).cmdLate b = false := (State.rxPort_cmdLate p 1 b).trans hl
  have hmine : (s.cmdHeard p b).cmdMine b = true := (State.rxPort_cmdMine p 1 b).trans hm
  rw [State.cmdHeard] at hlate hmine
  simp [State.cmdIn, State.cmdHeard, State.cmdFrom_serves hf, State.rxPort_cmdFrom, State.rxPort_cmdNew, hf, hop, hn, hlate, hmine]

end

/-! Slot 0 and CMD_ISSUE (R72, R248, R299). -/

theorem State.launchIssue_none (h : s.tio.issueQ = none) : s.launchIssue = s := by
  simp [State.launchIssue, h]

/-- The command that waits for slot 0 has been queued for this part alone, and is DONE (R248). -/
def State.launched (s : State) (b : Nat) : State :=
  (s.modTio fun x =>
    { x with issueQ := none, execQ := insertCmd (fun c => s.execEdge (BitVec.ofNat 104 c)) b x.execQ }).endStatus O.CMD_ISSUE_STATUS 0 2

theorem State.launched_only (s : State) (b : Nat) : (s.launched b).only s [.tio] [keyOf O.CMD_ISSUE_STATUS] :=
  State.only_endStatus _ _ (State.only_modTio _ (State.only_refl _ _ _) (by simp)) (by decide)

theorem State.launched_tio (b : Nat) : (s.launched b).tio =
    { s.tio with issueQ := none, execQ := insertCmd (fun c => s.execEdge (BitVec.ofNat 104 c)) b s.tio.execQ } := by
  rw [State.launched, State.endStatus_tio, State.modTio_tio]

theorem State.launched_status (b : Nat) : (s.launched b).status O.CMD_ISSUE_STATUS 0 = 2 :=
  (State.endStatus_fields _ O.CMD_ISSUE_STATUS 0 2 0 (by decide)).1

/-- The command that waits for slot 0, where it goes to no port. -/
theorem State.launchIssue_own {b : Nat} (hq : s.tio.issueQ = some b) (hm : s.activeManager = true)
    (hp : s.issuePorts (BitVec.ofNat 104 b) = []) (hown : s.cmdMine (BitVec.ofNat 104 b) = true) (hroom : s.tio.execQ.length < 32) :
    s.launchIssue = s.launched b := by
  have hports : (s.modTio fun x => { x with issueQ := none }).issuePorts (BitVec.ofNat 104 b) = [] := hp
  have hmine : (s.modTio fun x => { x with issueQ := none }).cmdMine (BitVec.ofNat 104 b) = true := hown
  have hqueue := State.queueExec_eq (s := s.modTio fun x => { x with issueQ := none }) b hroom
  simp only [State.launchIssue, hq, hm, hports, hmine, hqueue, forEach, List.foldl_nil, Bool.not_true, Bool.false_eq_true, if_true, if_false]
  rfl

/-- Slot 0 takes the first command of the relay queue out, and carries it. -/
def State.slot0Sent (s : State) (p : Nat) (q : List Nat) : State :=
  (s.modTio fun x => { x with relayQ := Tab.set x.relayQ [] p q.tail }).stream p [.ctl 0x66 (q.headD 0)]

theorem State.slot0_eq {p : Nat} (hn : s.native p = true) (hup : (s.lport p).up = true) : s.slot0 p = s.launchIssue.slot0Sent p
    ((Tab.get s.launchIssue.tio.relayQ [] p).dropWhile fun b => s.launchIssue.epPort p && !s.launchIssue.epInTime p (BitVec.ofNat 104 b)) := by
  simp [State.slot0, State.slot0Sent, hn, hup]

theorem State.slot0Sent_only (s : State) (p : Nat) (q : List Nat) : (s.slot0Sent p q).only s [.out, .tio, .lanes, .lports] [] :=
  State.only_trans (State.only_mono (State.stream_streams p _).frame (by simp) (by simp)) (State.only_modTio _ (State.only_refl _ _ _) (by simp))

theorem State.slot0Sent_tio (p : Nat) (q : List Nat) : (s.slot0Sent p q).tio = { s.tio with relayQ := Tab.set s.tio.relayQ [] p q.tail } :=
  (State.stream_streams p _).frame.1 .tio (by simp)

/-- The blocks of slot 0 begin on the first active lane. -/
theorem State.slot0Sent_carries (p : Nat) (q : List Nat) (ha : s.activeLanes p ≠ []) :
    (s.slot0Sent p q).carries p ((s.activeLanes p).headD 0) (.ctl 0x66 (q.headD 0)) := by
  obtain ⟨n, ns, hl⟩ := List.exists_cons_of_ne_nil ha
  rw [hl]
  exact State.stream_carries_first (s := s.modTio fun x => { x with relayQ := Tab.set x.relayQ [] p q.tail }) hl

/-- What CMD_ISSUE asks for, as R248 places it in the octets. -/
def issueField (v : Bytes) (i n : Nat) : Nat := ofBe ((v.drop i).take n)

/-- The command that CMD_ISSUE asks for, placed `d` from now (R243, R248). -/
def State.issueBody (s : State) (v : Bytes) (d : Int) : Nat :=
  fld 116 4 (issueField v 0 1) + fld 108 8 (s.obj O.CMD_NEXT_SEQ) + fld 107 1 s.ownIss + fld 105 2 (issueField v 1 1) +
    fld 88 17 (issueField v 2 3) + fld 56 32 ((s.hearth.count.toNat + d : Int) / 2 ^ 40 % (2 ^ 32 : Int)).toNat +
    fld 40 16 ((s.hearth.count.toNat + d : Int) / 2 ^ 24 % (2 ^ 16 : Int)).toNat + fld 16 24 (issueField v 12 3)

/-- CMD_ISSUE has been taken: BUSY, with the next sequence number, and the command waits for slot 0 (R248). -/
def State.issueTaken (s : State) (v : Bytes) (d : Int) : State :=
  let u := (s.cmdStatus O.CMD_ISSUE_STATUS 0 (issueField v 0 1) 1).setObj O.CMD_NEXT_SEQ (s.obj O.CMD_NEXT_SEQ + 1)
  (u.setObj O.CMD_LAST_TARGET (u.stampOf (BitVec.ofInt 56 ((s.hearth.count.toNat + d : Int) / 2 ^ 16)))).modTio fun x =>
    { x with issueQ := some (s.issueBody v d) }

section
variable {v : Bytes} (hok : s.cmdIssueOk v = true)
include hok

theorem State.cmdIssue_unreachable (hd : s.issueTarget (issueField v 5 1) (issueField v 6 4) (issueField v 10 2) = none) :
    s.cmdIssue v = s.cmdStatus O.CMD_ISSUE_STATUS 0 (issueField v 0 1) 4 := by
  rw [issueField, issueField, issueField] at hd
  simp [State.cmdIssue, issueField, hok, hd]

variable {d : Int} (hd : s.issueTarget (issueField v 5 1) (issueField v 6 4) (issueField v 10 2) = some d)
include hd

theorem State.cmdIssue_tooSoon (hm : issueField v 5 1 = 0) (hs : d < (s.obj O.CMD_LEAD : Int) * 2 ^ 40) :
    s.cmdIssue v = s.cmdStatus O.CMD_ISSUE_STATUS 0 (issueField v 0 1) 6 := by
  have hsoon : issueField v 5 1 = 0 ∧ d < (s.obj O.CMD_LEAD : Int) * 2 ^ 40 := ⟨hm, hs⟩
  unfold issueField at hd hsoon ⊢
  simp only [State.cmdIssue, hok, hd, if_pos hsoon, Bool.not_true, Bool.false_eq_true, if_false]

theorem State.cmdIssue_taken (hlead : issueField v 5 1 ≠ 0 ∨ (s.obj O.CMD_LEAD : Int) * 2 ^ 40 ≤ d) : s.cmdIssue v = s.issueTaken v d := by
  have hsoon : ¬ (issueField v 5 1 = 0 ∧ d < (s.obj O.CMD_LEAD : Int) * 2 ^ 40) := fun h => hlead.elim (· h.1) (not_le.mpr h.2)
  unfold issueField at hd hsoon
  simp only [State.cmdIssue, hok, hd, if_neg hsoon, Bool.not_true, Bool.false_eq_true, if_false]
  rfl

end

theorem State.issueTaken_only (s : State) (v : Bytes) (d : Int) : (s.issueTaken v d).only s [.tio]
    [keyOf O.CMD_ISSUE_STATUS, keyOf O.CMD_NEXT_SEQ, keyOf O.CMD_LAST_TARGET] := by
  unfold State.issueTaken
  exact State.only_modTio _ (State.only_setObj _ (State.only_setObj _ (State.only_cmdStatus _ _ _ (State.only_refl _ _ _) (by decide))
    (by decide)) (by decide)) (by simp)

theorem State.issueTaken_status (v : Bytes) (d : Int) : (s.issueTaken v d).status O.CMD_ISSUE_STATUS 0 = 1 := by
  rw [State.status, State.issueTaken, State.modTio_obj, State.obj_setObj_ne _ _ (by decide), State.obj_setObj_ne _ _ (by decide)]
  exact (s.setStatus_fields O.CMD_ISSUE_STATUS 0 0 false _ 1 (by decide)).1

theorem State.issueTaken_seq (v : Bytes) (d : Int) : (s.issueTaken v d).obj O.CMD_NEXT_SEQ = (s.obj O.CMD_NEXT_SEQ + 1) % 256 := by
  rw [State.issueTaken, State.modTio_obj, State.obj_setObj_ne _ _ (by decide), State.obj_setObj_same]
  rfl

theorem State.issueTaken_tio (v : Bytes) (d : Int) : (s.issueTaken v d).tio = { s.tio with issueQ := some (s.issueBody v d) } := by
  rw [State.issueTaken, State.modTio_tio, State.setObj_tio, State.setObj_tio, State.cmdStatus_tio]

end Sys2Proof.Machine
end

section
/-! PROOF. What the boundary of a superframe leaves (R57, R98, R275, R470, R471), and O22 from it and the fast commands. -/

namespace Sys2Proof.Machine

variable {s t : State}

/-! Copies that leave the Cellar, and ports that go down (R265, R271 to R275). -/

/-- The parts that a copy's end may touch. -/
def cellarParts : List Part := .cellar :: .lports :: .out :: flagParts

/-- The objects that a copy's end may touch: the fence and its flag. -/
def fenceKeys : List Nat := keyOf O.DRAIN_STATE :: flagKeys O.CELLAR_FLAGS

theorem State.creditReturn_only (s : State) (p q n : Nat) : (s.creditReturn p q n).only s [.cellar, .lports] [] := by
  unfold State.creditReturn
  split
  · exact State.only_refl _ _ _
  · split
    · exact State.only_modCellar _ (State.only_refl _ _ _) (by simp)
    · exact State.only_modLPort _ _ (State.only_refl _ _ _) (by simp)

theorem State.creditBack_only (s : State) (p : Nat) (c : Option (Nat × Nat × Nat)) : (s.creditBack p c).only s [.cellar, .lports] [] := by
  cases c with
  | none => exact State.only_refl _ _ _
  | some x =>
    obtain ⟨q, n, e⟩ := x
    simp only [State.creditBack]
    split
    · exact s.creditReturn_only _ _ _
    · exact State.only_refl _ _ _

theorem State.pfcFall_only (s : State) (p q : Nat) : (s.pfcFall p q).only s [.cellar, .out] [] := by
  unfold State.pfcFall State.setXoff State.sendPfc
  split
  · exact State.only_refl _ _ _
  · exact State.only_modCellar _ (State.only_emit _ (State.only_refl _ _ _) (by simp)) (by simp)

theorem State.fenceCheck_only (s : State) : s.fenceCheck.only s flagParts fenceKeys := by
  unfold State.fenceCheck
  split
  · exact State.only_raise _ _ (State.only_setObj _ (State.only_refl _ _ _) (by simp [fenceKeys])) (fun _ h => h)
      (fun _ h => List.mem_cons_of_mem _ h)
  · exact State.only_refl _ _ _

theorem State.freeCopy_only (s : State) (d : Desc) : (s.freeCopy d).only s cellarParts fenceKeys := by
  have erased : (s.modCellar fun c => { c with copies := c.copies.erase d }).only s cellarParts fenceKeys :=
    State.only_modCellar _ (State.only_refl _ _ _) (by decide)
  have deficit {u : State} (hu : u.only s cellarParts fenceKeys) : (if u.cellar.copies.any (fun x => x.outPort == d.outPort && x.cls == d.cls) then u
      else u.modCellar fun c => { c with deficit := Tab.set c.deficit 0 (8 * d.outPort + d.cls) 0 }).only s cellarParts fenceKeys := by
    split
    · exact hu
    · exact State.only_modCellar _ hu (by decide)
  have fence {u : State} (hu : u.only s cellarParts fenceKeys) : u.fenceCheck.only s cellarParts fenceKeys :=
    State.only_trans (State.only_mono u.fenceCheck_only (by decide) (fun _ h => h)) hu
  unfold State.freeCopy
  refine fence ?_
  split
  · exact deficit erased
  · split
    · exact State.only_modCellar _ (deficit erased) (by decide)
    · exact State.only_trans (State.only_mono (State.pfcFall_only _ _ _) (by decide) (by simp))
        (State.only_trans (State.only_mono (State.creditBack_only _ _ _) (by decide) (by simp))
          (State.only_modCellar _ (deficit erased) (by decide)))

theorem State.freeCopies_only (s : State) (f : Desc → Bool) : (s.freeCopies f).only s cellarParts fenceKeys :=
  State.only_forEach _ (fun u d => u.freeCopy_only d) (State.only_refl _ _ _)

theorem State.dropQueues_only (s : State) (p : Nat) : (s.dropQueues p).only s cellarParts (keyOf O.DROP_DOWN (p + 1) :: fenceKeys) := by
  refine State.only_trans (State.only_mono (State.freeCopies_only _ _) (fun _ h => h) (by simp +contextual)) ?_
  split
  · exact State.only_refl _ _ _
  · exact State.only_count _ _ _ (State.only_refl _ _ _) (by simp)

/-- The objects that a port's end of service may touch. -/
def State.downKeys (s : State) (p : Nat) : List Nat := keyOf O.DROP_DOWN (p + 1) :: s.activeKeys p ++ fenceKeys

theorem State.refreshStates_active_only {p : Nat} (hl : t.portLanes p = s.portLanes p) :
    (t.refreshStates p).only t [] ((s.portLanes p).map fun m => keyOf O.LINK_STATE (m + 1)) :=
  hl ▸ t.refreshStates_only p

theorem State.portDown_only (s : State) {p : Nat} (hp : p < 48) : (s.portDown p).only s (.ports :: cellarParts) (s.downKeys p) := by
  have hkeys (k : Nat) (hk : k ∈ keyOf O.DROP_DOWN (p + 1) :: fenceKeys) : k ∈ s.downKeys p := by
    simp only [State.downKeys, List.cons_append, List.mem_cons, List.mem_append] at hk ⊢
    exact hk.imp_right .inr
  have hwidth {o : Obj} (h : O.PORT_WIDTH.index ≠ o.index) : O.PORT_WIDTH.key (p + 1) ≠ o.key (p + 1) := Obj.key_ne h (by omega) (by omega)
  have hoff : O.PORT_WIDTH.key (p + 1) ∉ fenceKeys := fun h =>
    (List.mem_cons.mp h).elim (Obj.key_ne (by decide) (by omega) (by decide))
      (Obj.key_notMem_flagKeys (by omega) (by decide) (by decide) (by decide))
  have ended : ((s.dropQueues p).modCellar fun c => { c with paused := Tab.erase c.paused p, xoff := Tab.erase c.xoff p }).only s cellarParts
      (keyOf O.DROP_DOWN (p + 1) :: fenceKeys) := State.only_modCellar _ (s.dropQueues_only p) (by decide)
  have cleared {u : State} (hu : u.only s (.ports :: cellarParts) (keyOf O.DROP_DOWN (p + 1) :: fenceKeys)) :
      (((u.setObj O.PORT_ACTIVE 0 (p + 1)).setObj O.PORT_TIMING_POS 0 (p + 1)).refreshStates p).only s (.ports :: cellarParts) (s.downKeys p) := by
    have hsets : ((u.setObj O.PORT_ACTIVE 0 (p + 1)).setObj O.PORT_TIMING_POS 0 (p + 1)).only s (.ports :: cellarParts)
        (keyOf O.PORT_ACTIVE (p + 1) :: keyOf O.PORT_TIMING_POS (p + 1) :: keyOf O.DROP_DOWN (p + 1) :: fenceKeys) :=
      State.only_setObj _ (State.only_setObj _ (State.only_mono hu (fun _ h => h) (by simp +contextual)) (by simp)) (by simp)
    have hlanes := State.portLanes_of_only hsets (p := p) (by
      simp only [List.mem_cons, not_or]
      exact ⟨hwidth (by decide), hwidth (by decide), hwidth (by decide), hoff⟩)
    refine State.only_trans (State.only_mono (State.refreshStates_active_only hlanes) (by simp) ?_) (State.only_mono hsets (fun _ h => h) ?_)
    · simp +contextual [State.downKeys, State.activeKeys]
    · intro k hk
      rcases List.mem_cons.mp hk with rfl | hk
      · simp [State.downKeys, State.activeKeys]
      rcases List.mem_cons.mp hk with rfl | hk
      · simp [State.downKeys, State.activeKeys]
      · exact hkeys k hk
  unfold State.portDown
  exact cleared (State.only_modPort _ _ (State.only_modLPort _ _ (State.only_mono ended (fun _ h => List.mem_cons_of_mem _ h) (fun _ h => h))
    (by decide)) (by decide))

/-! What slicers that are replaced leave of a superframe's ground: the groups, the Hearth, the PLLs' states and the ports' widths. -/

/-- A key of another object than PLL_STATE and PORT_WIDTH. -/
def offGrid (k : Nat) : Prop := k / 256 ≠ O.PLL_STATE.index ∧ k / 256 ≠ O.PORT_WIDTH.index

theorem offGrid_key {o : Obj} {sub : Nat} (h1 : o.index ≠ O.PLL_STATE.index) (h2 : o.index ≠ O.PORT_WIDTH.index) (hs : sub < 256) :
    offGrid (keyOf o sub) := by
  rw [offGrid, keyOf, o.key_div hs]
  exact ⟨h1, h2⟩

theorem offGrid_flagKeys {o : Obj} {sub : Nat} (ho : offGrid (keyOf o sub)) : ∀ k ∈ flagKeys o sub, offGrid k := by
  have hwake : ∀ i ∈ [O.LT_LOST.index, O.OBS_FLAGS.index, O.ENG_STATE.index, O.ENG_SLOT_IDLE.index],
      i ≠ O.PLL_STATE.index ∧ i ≠ O.PORT_WIDTH.index := by decide
  intro k hk
  rcases List.mem_cons.mp hk with rfl | hk
  · exact ho
  · exact hwake _ (index_of_mem_wakeKeys k hk)

theorem offGrid_fenceKeys : ∀ k ∈ fenceKeys, offGrid k := by
  intro k hk
  rcases List.mem_cons.mp hk with rfl | hk
  · exact offGrid_key (by decide) (by decide) (by decide)
  · exact offGrid_flagKeys (offGrid_key (by decide) (by decide) (by decide)) k hk

/-- A superframe's ground stands. -/
structure State.sameGrid (s t : State) : Prop where
  groups : t.groups = s.groups
  hearth : t.hearth = s.hearth
  objs : ∀ k, ¬ offGrid k → ∀ d, Tab.get t.objs d k = Tab.get s.objs d k

theorem State.sameGrid_refl (s : State) : s.sameGrid s := ⟨rfl, rfl, fun _ _ _ => rfl⟩

theorem State.sameGrid_trans {r : State} (h1 : r.sameGrid s) (h2 : s.sameGrid t) : r.sameGrid t :=
  ⟨h2.groups.trans h1.groups, h2.hearth.trans h1.hearth, fun k hk d => (h2.objs k hk d).trans (h1.objs k hk d)⟩

theorem State.sameGrid_of_only {l : List Part} {ks : List Nat} (h : t.only s l ks) (hg : .groups ∉ l) (hh : .hearth ∉ l)
    (hk : ∀ k ∈ ks, offGrid k) : s.sameGrid t :=
  ⟨h.1 .groups hg, h.1 .hearth hh, fun k hx d => h.2 k (fun hm => hx (hk k hm)) d⟩

theorem State.sameGrid_forEach {α : Type} {f : State → α → State} (xs : List α) (hf : ∀ u, s.sameGrid u → ∀ x ∈ xs, u.sameGrid (f u x))
    (h : s.sameGrid t) : s.sameGrid (forEach xs f t) := by
  unfold forEach
  induction xs generalizing t with
  | nil => exact h
  | cons x xs ih =>
    exact ih (fun u hu y hy => hf u hu y (List.mem_cons_of_mem _ hy)) (State.sameGrid_trans h (hf t h x List.mem_cons_self))

theorem State.sameGrid_width (h : s.sameGrid t) {p : Nat} (hp : p < 48) : t.width p = s.width p :=
  h.objs _ (fun hx => hx.2 (Obj.key_div _ (by omega))) _

theorem State.sameGrid_group (h : s.sameGrid t) (g : Nat) : t.group g = s.group g := by
  rw [State.group, State.group, h.groups]

theorem State.sameGrid_tpllOk (h : s.sameGrid t) {g : Nat} (hg : g < 8) : t.tpllOk g = s.tpllOk g := by
  rw [State.tpllOk, State.tpllOk, show t.obj O.PLL_STATE (g + 2) = s.obj O.PLL_STATE (g + 2) from
    h.objs _ (fun hx => hx.1 (Obj.key_div _ (by omega))) _]

theorem State.sameGrid_raise (o : Obj) (b sub : Nat) (ho : offGrid (keyOf o sub)) : s.sameGrid (s.raise o b sub) :=
  State.sameGrid_of_only (s.raise_only o b sub) (by decide) (by decide) (offGrid_flagKeys ho)

theorem State.sameGrid_setObj (o : Obj) (v sub : Nat) (ho : offGrid (keyOf o sub)) : s.sameGrid (s.setObj o v sub) :=
  State.sameGrid_of_only (State.only_setObj (ks := [keyOf o sub]) _ (State.only_refl s [] _) (by simp)) (by simp) (by simp) (by simpa using ho)

theorem State.sameGrid_modLane (n : Nat) (f : Lane → Lane) : s.sameGrid (s.modLane n f) :=
  State.sameGrid_of_only (State.only_modLane (l := [.lanes]) (ks := []) n f (State.only_refl _ _ _) (by simp)) (by simp) (by simp) (by simp)

theorem State.sameGrid_modCalib (f : Cal → Cal) : s.sameGrid (s.modCalib f) := ⟨rfl, rfl, fun _ _ _ => rfl⟩

theorem State.sameGrid_portDown {p : Nat} (hp : p < 48) (hw : s.width p ≤ 4) : s.sameGrid (s.portDown p) := by
  refine State.sameGrid_of_only (s.portDown_only hp) (by decide) (by decide) fun k hk => ?_
  simp only [State.downKeys, State.activeKeys, List.cons_append, List.mem_cons, List.mem_append, List.mem_map] at hk
  rcases hk with rfl | rfl | rfl | ⟨m, hm, rfl⟩ | hk
  · exact offGrid_key (by decide) (by decide) (by omega)
  · exact offGrid_key (by decide) (by decide) (by omega)
  · exact offGrid_key (by decide) (by decide) (by omega)
  · obtain ⟨i, hi, rfl⟩ := List.mem_map.mp hm
    rw [List.mem_range] at hi
    exact offGrid_key (by decide) (by decide) (by omega)
  · exact offGrid_fenceKeys k hk

theorem State.sameGrid_degrade {n : Nat} (hn : n < 48) : s.sameGrid (s.degrade n) := by
  refine State.sameGrid_of_only (s.degrade_only n) (by decide) (by decide) fun k hk => ?_
  rcases List.mem_cons.mp hk with rfl | hk
  · exact offGrid_key (by decide) (by decide) (by decide)
  · exact offGrid_flagKeys (offGrid_key (by decide) (by decide) (by omega)) k hk

theorem State.sameGrid_removeLane {n : Nat} (hn : n < 48) (hw : ∀ p, p < 48 → s.width p ≤ 4) : s.sameGrid (s.removeLane n) := by
  have hp : s.portOf n < 48 := lt_of_le_of_lt (s.portOf_le n) hn
  have gone {u : State} (hu : s.sameGrid u) : s.sameGrid ((u.setObj O.LINK_STATE 0 (n + 1)).modLane n fun l => { l with removed := true }) :=
    State.sameGrid_trans hu (State.sameGrid_trans (State.sameGrid_setObj _ _ _ (offGrid_key (by decide) (by decide) (by omega)))
      (State.sameGrid_modLane _ _))
  unfold State.removeLane
  refine gone ?_
  split
  · exact State.sameGrid_portDown hp (hw _ hp)
  · exact s.sameGrid_refl

theorem State.sameGrid_takeOut {n : Nat} (hn : n < 48) (hw : ∀ p, p < 48 → s.width p ≤ 4) : s.sameGrid (s.takeOut n) := by
  have flagged : s.sameGrid ((s.degrade n).raise O.CAL_FLAGS 8) :=
    State.sameGrid_trans (State.sameGrid_degrade hn) (State.sameGrid_raise _ _ _ (offGrid_key (by decide) (by decide) (by decide)))
  unfold State.takeOut
  split
  · exact s.sameGrid_refl
  · exact State.sameGrid_trans flagged (State.sameGrid_removeLane hn fun p hp => (State.sameGrid_width flagged hp).trans_le (hw p hp))

theorem State.sameGrid_edgeLat {n : Nat} (hn : n < 48) (rx : Nat) : s.sameGrid (s.edgeLat n rx) := by
  have hlat {u : State} (o : Obj) (v : Nat) (h1 : o.index ≠ O.PLL_STATE.index) (h2 : o.index ≠ O.PORT_WIDTH.index) :
      u.sameGrid (u.setObj o v (n + 1)) := State.sameGrid_setObj _ _ _ (offGrid_key h1 h2 (by omega))
  unfold State.edgeLat State.setLat State.setEthLat
  dsimp only
  refine State.sameGrid_trans (State.sameGrid_modLane n fun l => { l with anaRx := rx }) ?_
  split
  · exact State.sameGrid_trans (hlat _ _ (by decide) (by decide)) (hlat _ _ (by decide) (by decide))
  · split
    · exact State.sameGrid_trans (hlat _ _ (by decide) (by decide)) (hlat _ _ (by decide) (by decide))
    · exact State.sameGrid_refl _

theorem State.sameGrid_replaceSlicer {n : Nat} (hn : n < 48) (b rx : Nat) (hw : ∀ p, p < 48 → s.width p ≤ 4) :
    s.sameGrid (s.replaceSlicer n b rx) := by
  have flag {u : State} (o : Obj) (k sub : Nat) (h1 : o.index ≠ O.PLL_STATE.index) (h2 : o.index ≠ O.PORT_WIDTH.index) (hs : sub < 256) :
      u.sameGrid (u.raise o k sub) := State.sameGrid_raise _ _ _ (offGrid_key h1 h2 hs)
  have edge (r : Nat) : s.sameGrid (if r = 3 then s.edgeLat n rx else s) := by
    split
    · exact State.sameGrid_edgeLat hn rx
    · exact s.sameGrid_refl
  unfold State.replaceSlicer
  split
  · exact s.sameGrid_refl
  · next r _ =>
    refine State.sameGrid_trans (edge r) ?_
    generalize hu : (if r = 3 then s.edgeLat n rx else s) = u
    have hwu : ∀ p, p < 48 → u.width p ≤ 4 := fun p hp => (State.sameGrid_width (hu ▸ edge r) hp).trans_le (hw p hp)
    have served (f : Cal → Cal) : u.sameGrid ((u.modCalib f).raise O.CAL_FLAGS 4) :=
      State.sameGrid_trans (State.sameGrid_modCalib f) (flag _ _ _ (by decide) (by decide) (by decide))
    have worn {v : State} (hv : u.sameGrid v) :
        u.sameGrid (if v.freeSpares n = [] then (v.raise O.LANE_FLAGS 7 (n + 1)).raise O.CAL_FLAGS 5 else v) := by
      split
      · exact State.sameGrid_trans hv (State.sameGrid_trans (flag O.LANE_FLAGS 7 _ (by decide) (by decide) (by omega))
          (flag _ _ _ (by decide) (by decide) (by decide)))
      · exact hv
    dsimp only
    split
    · exact worn (served _)
    · split
      · exact State.sameGrid_trans (State.sameGrid_modCalib _) (State.sameGrid_degrade hn)
      · exact State.sameGrid_trans (State.sameGrid_modCalib _) (State.sameGrid_takeOut hn hwu)

theorem State.sameGrid_takeSubs {g : Nat} (hg : g < 8) (hw : ∀ p, p < 48 → s.width p ≤ 4) : s.sameGrid (s.takeSubs g) := by
  unfold State.takeSubs
  dsimp only
  split
  · exact s.sameGrid_refl
  · refine State.sameGrid_forEach _ (fun u hu x hx => ?_) (State.sameGrid_modCalib _)
    have hn : x.1 / 6 = g := by simpa [groupOf] using (List.mem_filter.mp hx).2
    exact State.sameGrid_replaceSlicer (by omega) _ _ fun p hp => (State.sameGrid_width hu hp).trans_le (hw p hp)

/-! A superframe changes no group but its own (R57). -/

theorem State.only_groups {l : List Part} {ks : List Nat} (h : t.only s l ks) (hg : .groups ∉ l) : t.groups = s.groups := h.1 .groups hg

theorem State.forEach_groups {α : Type} {f : State → α → State} (xs : List α) (hf : ∀ u, ∀ x ∈ xs, (f u x).groups = u.groups) :
    (forEach xs f t).groups = t.groups := by
  unfold forEach
  induction xs generalizing t with
  | nil => rfl
  | cons x xs ih => exact (ih fun u y hy => hf u y (List.mem_cons_of_mem _ hy)).trans (hf t x List.mem_cons_self)

theorem State.ite_groups {c : Prop} [Decidable c] {a b : State} {x : Tab Group} (ha : a.groups = x) (hb : b.groups = x) :
    (if c then a else b).groups = x := by
  split <;> assumption

theorem State.portDown_groups {p : Nat} (hp : p < 48) : (s.portDown p).groups = s.groups := State.only_groups (s.portDown_only hp) (by decide)

theorem State.setActive_groups {p : Nat} (hp : p < 48) (tx rx : Nat) : (s.setActive p tx rx).groups = s.groups :=
  State.only_groups (s.setActive_only hp tx rx) (by simp)

theorem State.portUpNative_groups {p : Nat} (hp : p < 48) (tx : Nat) : (s.portUpNative p tx).groups = s.groups := by
  unfold State.portUpNative
  dsimp only
  rw [State.only_groups (State.reestablishPort_only _ _) (by simp), State.setActive_groups hp]
  split <;> simp

theorem State.afterLeave_groups (n : Nat) : (s.afterLeave n).groups = s.groups := by
  unfold State.afterLeave State.startTest
  dsimp only
  split
  · rfl
  · split
    · exact State.only_groups (s.startTraining_only n) (by simp)
    · simp

theorem State.round1_groups {p : Nat} (hp : p < 48) : (s.round1 p).groups = s.groups := by
  have leave (u : State) (xs : List Nat) : (forEach xs (fun s n => s.afterLeave n) u).groups = u.groups :=
    State.forEach_groups xs fun v n _ => v.afterLeave_groups n
  have narrowed (tx' : Nat) : (if tx' = s.txAct p then s else if tx' = 0 then s.portDown p else s.setActive p tx' (s.rxAct p)).groups = s.groups := by
    split
    · rfl
    · split
      · exact State.portDown_groups hp
      · exact State.setActive_groups hp _ _
  unfold State.round1
  dsimp only
  split
  · exact State.ite_groups (by simp only [State.modLPort_groups, leave, narrowed]) (by simp only [leave, narrowed])
  · exact State.ite_groups ((State.portUpNative_groups hp _).trans (leave _ _)) (leave _ _)

theorem State.laneSuperframe_groups (n : Nat) : (s.laneSuperframe n).groups = s.groups := by
  have sent (u : State) (p : Nat) (b : Blk) : (u.sendBlk p n b).groups = u.groups :=
    State.only_groups (State.sendBlk_streams p n b).frame (by simp)
  unfold State.laneSuperframe
  dsimp only
  split
  · rfl
  · split <;> simp only [State.emit_groups, State.modLane_groups, sent]

/-- What a superframe makes of its group's record. -/
def State.superframed (s : State) (g : Nat) : State :=
  s.modGroup g fun r => { r with sfc := if r.sfRun then r.sfc + 1 else r.sfc, sfRun := true, sfAt := s.hearth.cycles }

theorem State.superframe_groups {g : Nat} (hg : g < 8) (hon : (s.group g).sfcOn = true) (hpll : s.tpllOk g = true) (hm : (s.group g).mode = 0) :
    (s.superframe g).groups = (s.superframed g).groups := by
  have hgo : (!(s.group g).sfcOn || !s.tpllOk g || (s.group g).mode != 0) = false := by simp [hon, hpll, hm]
  unfold State.superframe
  dsimp only
  rw [hgo, if_neg Bool.false_ne_true, State.forEach_groups _ fun u i _ => u.laneSuperframe_groups _, State.forEach_groups _ fun u p hp => ?_]
  · rfl
  · have hp48 : p < 48 := by
      simp only [State.groupPorts, List.mem_filter, List.mem_map] at hp
      obtain ⟨⟨i, hi, rfl⟩, -⟩ := hp
      have : i < 6 := by fin_cases hi <;> decide
      omega
    rw [State.modLPort_groups, State.round1_groups hp48]

/-- A superframe that begins: its boundary's substitutions, then the superframe (R57, R470). -/
def State.superframeBegun (s : State) (g : Nat) : State :=
  (if (s.group g).sfcOn && s.tpllOk g && (s.group g).mode == 0 then s.takeSubs g else s).superframe g

theorem exec_superframeStart (g : Fin 8) (s : State) : exec (.superframeStart g) s = runKeep s (·.superframeBegun g) := rfl

theorem State.superframeBegun_groups {g : Nat} (hg : g < 8) (hw : ∀ p, p < 48 → s.width p ≤ 4) (hon : (s.group g).sfcOn = true)
    (hpll : s.tpllOk g = true) (hm : (s.group g).mode = 0) : (s.superframeBegun g).groups = (s.superframed g).groups := by
  have hgrid := State.sameGrid_takeSubs (s := s) hg hw
  have hgroup := State.sameGrid_group hgrid g
  have hgo : ((s.group g).sfcOn && s.tpllOk g && (s.group g).mode == 0) = true := by simp [hon, hpll, hm]
  rw [State.superframeBegun, if_pos hgo, State.superframe_groups hg (hgroup ▸ hon) ((State.sameGrid_tpllOk hgrid hg).trans hpll) (hgroup ▸ hm),
    State.superframed, State.superframed, State.modGroup_groups, State.modGroup_groups, hgrid.groups, hgrid.hearth, hgroup]

theorem State.superframeBegun_off {g : Nat} (h : (s.group g).sfcOn = false ∨ s.tpllOk g = false ∨ (s.group g).mode ≠ 0) :
    s.superframeBegun g = s := by
  have hno : ((s.group g).sfcOn && s.tpllOk g && (s.group g).mode == 0) = false := by
    rcases h with h | h | h <;> simp [h]
  have hoff : (!(s.group g).sfcOn || !s.tpllOk g || (s.group g).mode != 0) = true := by
    rcases h with h | h | h <;> simp [h]
  rw [State.superframeBegun, hno, if_neg Bool.false_ne_true, State.superframe, if_pos hoff]

end Sys2Proof.Machine

open Sys2Proof Sys2Proof.Machine

/-- Settles O22, clause by clause: superframes, CMD blocks received, slot 0, CMD_ISSUE and the lapse of LAST_SEQ. -/
theorem commandsTravel : Obligations.CommandsTravel := by
  unfold Obligations.CommandsTravel
  refine ⟨?superframe, ?off, ?none, ?dup, ?late, ?timely, ?slot, ?launch, ?notOk, ?unreachable, ?tooSoon, ?taken, ?lapse⟩
  case superframe =>
    intro s g hh hw hon hpll hm
    have hs := State.superframeBegun_groups g.isLt (fun p _ => hw p) hon hpll hm
    refine ⟨_, (exec_superframeStart g s).trans (runKeep_next s _ hh), ?_, fun h hne => ?_⟩
    · rw [State.group, State.keeping_groups, hs]
      exact (State.modGroup_group _ _ _ _).trans (if_pos rfl)
    · rw [State.group, State.keeping_groups, hs]
      exact (State.modGroup_group _ _ _ _).trans (if_neg hne)
  case off =>
    intro s g hh h
    exact runKeep_same hh (State.superframeBegun_off h)
  case none =>
    intro s p b hh h
    have hs := State.cmdIn_none h
    have ho : (s.cmdIn p b).only s [.lanes, .lports] [] := by
      rw [hs]
      split
      · exact s.rxPort_only p 1
      · exact State.only_refl _ _ _
    exact (runKeep_of_only hh ho (by simp)).trans (congrArg _ hs)
  case dup =>
    intro s p b l hh hf hop hlast hd
    have hnew : s.cmdNew b = false := by
      rw [State.cmdNew, hlast]
      exact decide_eq_false (by omega)
    have hs := State.cmdIn_dup hf hop hnew
    have ho : (s.cmdIn p b).only s [.lanes, .lports] [keyOf O.CMD_DUP] :=
      hs ▸ State.only_count _ _ _ (State.only_mono (s.rxPort_only p 1) (by simp) (by simp)) (by simp)
    exact ⟨_, runKeep_of_only hh ho (by simp), hs ▸ State.count_of_obj 1 (State.rxPort_obj _ _ _ _), ho⟩
  case late =>
    intro s p b hh hf hop hnew hlate
    have hs := State.cmdIn_late hf hop hnew hlate
    have hheard := s.cmdHeard_only p b
    obtain ⟨hexec, hrelay, -⟩ := State.setLastSeq_queues (s := s.rxPort p 1) (cmdIss b) (some (cmdSeq b))
    have hcount : ((s.cmdHeard p b).count O.CMD_LATE).only s [.tio, .lanes, .lports] [keyOf O.CMD_LATE] :=
      State.only_count _ _ _ (State.only_mono hheard (by simp) (by simp)) (by simp)
    have ho : (s.cmdIn p b).only s (.tio :: .lanes :: .lports :: flagParts) (keyOf O.CMD_LATE :: flagKeys O.TIO_SYS_FLAGS) :=
      hs ▸ State.only_raise _ _ (State.only_mono hcount (by simp +contextual) (by simp)) (by simp +contextual) (by simp +contextual)
    have htio : (s.cmdIn p b).tio = (s.cmdHeard p b).tio := by rw [hs, State.raise_tio, State.count_tio]
    refine ⟨_, runKeep_of_only hh ho (by decide), ?_, ?_, ?_, ?_, ?_, ho⟩
    · rw [State.lastSeq, htio]
      exact State.setLastSeq_same _ _
    · rw [hs, State.raise_obj _ _ _ _ (Obj.key_notMem_flagKeys (by decide) (by decide) (by decide) (by decide))]
      exact State.count_of_obj 1 (State.only_obj hheard (by simp))
    · rw [hs, State.raise_obj_same _ _ _ _ (by decide), State.only_obj hcount (by decide)]
      rfl
    · rw [htio, State.cmdHeard, hexec, State.rxPort_tio]
    · rw [htio, State.cmdHeard, hrelay, State.rxPort_tio]
  case timely =>
    intro s p b hh hf hop hnew hlate hmine hroom hrelay
    obtain ⟨hexec, hqueues, -⟩ := State.setLastSeq_queues (s := s.rxPort p 1) (cmdIss b) (some (cmdSeq b))
    rw [State.rxPort_tio] at hexec hqueues
    have hqueued := State.queueExec_eq (s := s.cmdHeard p b) b.toNat (by rw [State.cmdHeard, hexec]; exact hroom)
    have hports : ((s.cmdHeard p b).queueExec b.toNat).relayPorts b = s.relayPorts b := by
      rw [hqueued]
      exact State.rxPort_relayPorts p 1 b
    have hrel : ((s.cmdHeard p b).queueExec b.toNat).tio.relayQ = s.tio.relayQ := by
      rw [hqueued]
      exact hqueues
    have hall := State.forEach_queueRelay (s := (s.cmdHeard p b).queueExec b.toNat) (b := b.toNat) (State.relayPorts_nodup (s := s) b)
      (by rw [hrel]; exact hrelay)
    have hs := State.cmdIn_timely hf hop hnew hlate hmine
    rw [hports] at hs
    rw [← hs] at hall
    have ho : (s.cmdIn p b).only s [.tio, .lanes, .lports] [] :=
      State.only_trans (State.only_mono hall.frame (by simp) (by simp))
        (hqueued ▸ State.only_modTio _ (s.cmdHeard_only p b) (by simp))
    refine ⟨_, runKeep_of_only hh ho (by simp), ?_, ?_, fun q => ?_, ho⟩
    · rw [hall.seqs, hqueued]
      exact State.setLastSeq_same _ _
    · rw [hall.execQ, hqueued, State.modTio_tio, State.cmdHeard, hexec]
      exact congrArg (fun f => insertCmd f b.toNat s.tio.execQ) (funext fun c => State.rxPort_execEdge p 1 _)
    · rw [hall.queues, hrel]
  case slot =>
    intro s p hh hn hup hq hep ha
    have hs := State.slot0_eq hn hup
    have hlaunch := State.launchIssue_none hq
    have hdrop : (fun b => s.epPort p && !s.epInTime p (BitVec.ofNat 104 b)) = fun _ => false := by
      simp [hep]
    have hall : (Tab.get s.tio.relayQ [] p).dropWhile (fun _ => false) = Tab.get s.tio.relayQ [] p := by
      cases Tab.get s.tio.relayQ [] p <;> rfl
    rw [hlaunch, hdrop, hall] at hs
    have ho : (s.slot0 p).only s [.out, .tio, .lanes, .lports] [] := hs ▸ s.slot0Sent_only p _
    refine ⟨_, runKeep_of_only hh ho (by simp), ?_, ?_, ?_, ho⟩ <;> rw [hs]
    · exact State.slot0Sent_carries p _ ha
    · rw [State.slot0Sent_tio]
    · rw [State.slot0Sent_tio]
  case launch =>
    intro s p b hh hn hup hq hm hp hown hroom
    have hs := State.slot0_eq hn hup
    rw [State.launchIssue_own hq hm hp hown hroom] at hs
    have hsent := State.slot0Sent_only (s.launched b) p
      ((Tab.get (s.launched b).tio.relayQ [] p).dropWhile fun c => (s.launched b).epPort p && !(s.launched b).epInTime p (BitVec.ofNat 104 c))
    have ho : (s.slot0 p).only s [.out, .tio, .lanes, .lports] [keyOf O.CMD_ISSUE_STATUS] :=
      hs ▸ State.only_trans (State.only_mono hsent (by simp) (by simp)) (State.only_mono (s.launched_only b) (by simp) (by simp))
    refine ⟨_, runKeep_of_only hh ho (by simp), ?_, ?_, ?_, ho⟩ <;> rw [hs]
    · rw [State.slot0Sent_tio, State.launched_tio]
    · rw [State.slot0Sent_tio, State.launched_tio]
    · rw [State.status, State.only_obj hsent (by simp)]
      exact State.launched_status b
  case notOk =>
    intro s v hh h
    exact runKeep_same hh (if_pos (by simp [h]))
  case unreachable =>
    intro s v hh hok hd
    have hs := State.cmdIssue_unreachable hok hd
    have ho : (s.cmdIssue v).only s [] [keyOf O.CMD_ISSUE_STATUS] := hs ▸ State.only_cmdStatus _ _ _ (State.only_refl _ _ _) (by decide)
    exact ⟨_, runKeep_of_only hh ho (by simp), hs ▸ (s.setStatus_fields O.CMD_ISSUE_STATUS 0 0 false _ 4 (by decide)).1, ho⟩
  case tooSoon =>
    intro s v d hh hok hm hd hsoon
    have hs := State.cmdIssue_tooSoon hok (d := d) (by rw [issueField, hm]; exact hd) hm hsoon
    have ho : (s.cmdIssue v).only s [] [keyOf O.CMD_ISSUE_STATUS] := hs ▸ State.only_cmdStatus _ _ _ (State.only_refl _ _ _) (by decide)
    exact ⟨_, runKeep_of_only hh ho (by simp), hs ▸ (s.setStatus_fields O.CMD_ISSUE_STATUS 0 0 false _ 6 (by decide)).1, ho⟩
  case taken =>
    intro s v d hh hok hd hlead
    have hs := State.cmdIssue_taken hok hd hlead
    have ho := hs.symm ▸ s.issueTaken_only v d
    refine ⟨_, runKeep_of_only hh ho (by simp), ?_, ?_, ?_, ?_, ?_, ho⟩ <;> rw [hs]
    · exact State.issueTaken_status v d
    · exact State.issueTaken_seq v d
    · rw [State.issueTaken_tio]
      rfl
    · rw [State.issueTaken_tio]
    · rw [State.issueTaken_tio]
  case lapse =>
    intro s i hh
    obtain ⟨hexec, hrelay, hissue⟩ := State.setLastSeq_queues (s := s) (b2n i) none
    have ho : (s.setLastSeq (b2n i) none).only s [.tio] [] := State.only_setLastSeq _ _ (State.only_refl _ _ _) (by simp)
    exact ⟨_, runKeep_of_only hh ho (by simp), State.setLastSeq_same _ _, State.setLastSeq_ne _ (by cases i <;> decide), hexec, hrelay, hissue, ho⟩
end

section
/-! PROOF. Frames leave (R62 to R65, R67, R265, R274, R277 to R280, R285, R295): what the end of a copy keeps and counts, the scheduler's choice
among strict classes, the START of a native frame, and O28 from them. -/

namespace Sys2Proof.Machine

variable {s t : State}

/-! What follows when a copy leaves the Cellar (R265, R271, R272). -/

/-- Credit, pauses and the fence follow a copy that has left: no other copy leaves, what has been sent stays, no frame in transmission
changes, and no flag falls. -/
structure State.follows (s t : State) : Prop where
  frame : t.only s cellarParts fenceKeys
  copies : t.cellar.copies = s.cellar.copies
  sent : s.out <:+ t.out
  open_ : ∀ q, (t.lport q).frame = (s.lport q).frame
  flags : ∀ b, b < 32 → bit (s.obj O.CELLAR_FLAGS) b = true → bit (t.obj O.CELLAR_FLAGS) b = true

theorem State.follows_refl (s : State) : s.follows s :=
  ⟨State.only_refl _ _ _, rfl, List.suffix_rfl, fun _ => rfl, fun _ _ h => h⟩

theorem State.follows_trans {r : State} (h1 : r.follows s) (h2 : s.follows t) : r.follows t :=
  ⟨State.only_trans h2.frame h1.frame, h2.copies.trans h1.copies, h1.sent.trans h2.sent, fun q => (h2.open_ q).trans (h1.open_ q),
    fun b hb h => h2.flags b hb (h1.flags b hb h)⟩

theorem State.follows_modCellar {f : Cellar → Cellar} (h : s.follows t) (hf : ∀ c, (f c).copies = c.copies := by exact fun _ => rfl) :
    s.follows (t.modCellar f) :=
  State.follows_trans h ⟨State.only_modCellar _ (State.only_refl _ _ _) (by decide), by simp [hf], by simp, fun q => by simp, fun b _ h => by simpa using h⟩

theorem State.follows_modLPort {p : Nat} {f : LPort → LPort} (h : s.follows t) (hf : ∀ l, (f l).frame = l.frame := by exact fun _ => rfl) :
    s.follows (t.modLPort p f) :=
  State.follows_trans h ⟨State.only_modLPort _ _ (State.only_refl _ _ _) (by decide), by simp, by simp,
    fun q => by by_cases hq : q = p <;> simp [hq, hf], fun b _ h => by simpa using h⟩

theorem State.follows_emit (e : Emit) (h : s.follows t) : s.follows (t.emit e) :=
  State.follows_trans h ⟨State.only_emit _ (State.only_refl _ _ _) (by decide), by simp, by simp, fun q => by simp, fun b _ h => by simpa using h⟩

theorem State.creditBack_follows (p : Nat) (c : Option (Nat × Nat × Nat)) : s.follows (s.creditBack p c) := by
  cases c with
  | none => exact s.follows_refl
  | some x =>
    obtain ⟨q, n, e⟩ := x
    simp only [State.creditBack]
    split
    · unfold State.creditReturn
      split
      · exact s.follows_refl
      · split
        · exact State.follows_modCellar s.follows_refl
        · exact State.follows_modLPort s.follows_refl
    · exact s.follows_refl

theorem State.pfcFall_follows (p q : Nat) : s.follows (s.pfcFall p q) := by
  unfold State.pfcFall State.setXoff State.sendPfc
  split
  · exact s.follows_refl
  · exact State.follows_modCellar (State.follows_emit _ s.follows_refl)

/-- A flag that is raised leaves those that stand. -/
theorem State.raise_keeps_bit {o : Obj} {b c : Nat} (hw : o.key o.lo ∉ wakeKeys) (hb : b < 8 * o.ty.bytes) (h : bit (s.obj o) b = true) :
    bit ((s.raise o c).obj o) b = true := by
  rw [bit] at h ⊢
  rw [State.raise_obj_same _ _ _ _ hw, Nat.testBit_mod_two_pow, Nat.testBit_or, h]
  simp [hb]

theorem State.fenceCheck_follows : s.follows s.fenceCheck := by
  have ho := s.fenceCheck_only
  refine ⟨State.only_mono ho (by decide) (fun _ h => h), by rw [ho.1 .cellar (by decide)], by rw [ho.1 .out (by decide)], fun q => ?_,
    fun b hb h => ?_⟩
  · rw [State.lport, State.lport, ho.1 .lports (by decide)]
  · unfold State.fenceCheck
    split
    · refine State.raise_keeps_bit (by decide) hb ?_
      rwa [State.obj_setObj_ne _ _ (by decide)]
    · exact h

/-- A queue that a copy leaves empty has no deficit (R274). -/
def State.deficitEnded (s : State) (d : Desc) : State :=
  if s.cellar.copies.any (fun x => x.outPort == d.outPort && x.cls == d.cls) then s
  else s.modCellar fun c => { c with deficit := Tab.set c.deficit 0 (8 * d.outPort + d.cls) 0 }

/-- One copy fewer refers to a frame: with the last its cells are freed, and credit and pauses follow (R265, R271, R272). -/
def State.frameReleased (s : State) (d : Desc) : State :=
  match s.frame d.fid with
  | none => s
  | some f =>
    if 1 < f.refs then s.modCellar fun c => { c with frames := Tab.set c.frames none d.fid (some { f with refs := f.refs - 1 }) }
    else ((s.modCellar fun c => { c with frames := Tab.erase c.frames d.fid }).creditBack f.inPort f.credit).pfcFall f.inPort f.cls

theorem State.freeCopy_eq (d : Desc) : s.freeCopy d =
    (((s.modCellar fun c => { c with copies := c.copies.erase d }).deficitEnded d).frameReleased d).fenceCheck := rfl

theorem State.deficitEnded_follows (d : Desc) : s.follows (s.deficitEnded d) := by
  unfold State.deficitEnded
  split
  · exact s.follows_refl
  · exact State.follows_modCellar s.follows_refl

theorem State.frameReleased_follows (d : Desc) : s.follows (s.frameReleased d) := by
  unfold State.frameReleased
  split
  · exact s.follows_refl
  · split
    · exact State.follows_modCellar s.follows_refl
    · exact State.follows_trans (State.follows_modCellar s.follows_refl)
        (State.follows_trans (State.creditBack_follows _ _) (State.pfcFall_follows _ _))

/-- A copy leaves alone; what follows takes no other. -/
theorem State.freeCopy_follows (d : Desc) : (s.modCellar fun c => { c with copies := c.copies.erase d }).follows (s.freeCopy d) :=
  State.freeCopy_eq (s := s) d ▸ State.follows_trans (State.deficitEnded_follows d)
    (State.follows_trans (State.frameReleased_follows d) State.fenceCheck_follows)

theorem State.freeCopy_copies (d : Desc) : (s.freeCopy d).cellar.copies = s.cellar.copies.erase d :=
  (State.freeCopy_follows d).copies

theorem State.freeCopy_out (d : Desc) : s.out <:+ (s.freeCopy d).out := (State.freeCopy_follows d).sent

theorem State.freeCopy_open (d : Desc) (q : Nat) : ((s.freeCopy d).lport q).frame = (s.lport q).frame := (State.freeCopy_follows d).open_ q

theorem State.freeCopy_flag (d : Desc) {b : Nat} (hb : b < 32) (h : bit (s.obj O.CELLAR_FLAGS) b = true) :
    bit ((s.freeCopy d).obj O.CELLAR_FLAGS) b = true := (State.freeCopy_follows d).flags b hb h

/-- An object that is neither the fence's nor its flag's stands when a copy leaves. -/
theorem State.freeCopy_obj (d : Desc) {o : Obj} {j : Nat} (hj : j < 256)
    (hi : o.index ∉ [O.DRAIN_STATE.index, O.CELLAR_FLAGS.index, O.LT_LOST.index, O.OBS_FLAGS.index, O.ENG_STATE.index, O.ENG_SLOT_IDLE.index]) :
    (s.freeCopy d).obj o j = s.obj o j := by
  simp only [List.mem_cons, not_or] at hi
  obtain ⟨hdrain, hcellar, hwake⟩ := hi
  refine State.only_obj (s.freeCopy_only d) fun h => (List.mem_cons.mp h).elim (Obj.key_ne hdrain hj (by decide))
    (Obj.key_notMem_flagKeys hj (by decide) hcellar ?_)
  simpa using hwake

/-! The end of a copy (R278, R279, R295). -/

/-- The octets that a copy's end counts. -/
def State.sentLen (s : State) (d : Desc) : Nat := match s.frame d.fid with | some f => (s.edited d f 0).length | none => 0

/-- The counters of a copy that has been sent. -/
def State.sentCounted (s : State) (d : Desc) : State :=
  (s.count O.TX_FRAMES (d.outPort + 1)).count O.TX_BYTES (d.outPort + 1) (s.sentLen d + 4)

/-- The tail mark of a copy, counted and flagged (R278). -/
def State.stomped (s : State) (p : Nat) : State := ((s.emit (.frame p [] true)).count O.CT_STOMP (p + 1)).raise O.CELLAR_FLAGS 3

theorem State.endCopy_eq (d : Desc) (mark : Bool) :
    s.endCopy d mark = (if mark then (s.sentCounted d).stomped d.outPort else s.sentCounted d).freeCopy d := (rfl)

theorem State.endCopy_clean (d : Desc) : s.endCopy d false = (s.sentCounted d).freeCopy d := by
  rw [State.endCopy_eq, if_neg Bool.false_ne_true]

theorem State.endCopy_marked (d : Desc) : s.endCopy d true = ((s.sentCounted d).stomped d.outPort).freeCopy d := by
  rw [State.endCopy_eq, if_pos rfl]

theorem State.sentCounted_only (s : State) (d : Desc) : (s.sentCounted d).only s []
    [keyOf O.TX_FRAMES (d.outPort + 1), keyOf O.TX_BYTES (d.outPort + 1)] :=
  State.only_count _ _ _ (State.only_count _ _ _ (State.only_refl _ _ _) (by simp)) (by simp)

theorem State.sentCounted_cellar (d : Desc) : (s.sentCounted d).cellar = s.cellar := (s.sentCounted_only d).1 .cellar (by simp)

theorem State.sentCounted_frames {d : Desc} (hd : d.outPort < 255) : (s.sentCounted d).obj O.TX_FRAMES (d.outPort + 1) =
    (s.count O.TX_FRAMES (d.outPort + 1)).obj O.TX_FRAMES (d.outPort + 1) := by
  rw [State.sentCounted]
  exact State.count_obj_ne _ (Obj.key_ne (by decide) (by omega) (by omega))

theorem State.sentCounted_bytes {d : Desc} (hd : d.outPort < 255) : (s.sentCounted d).obj O.TX_BYTES (d.outPort + 1) =
    (s.count O.TX_BYTES (d.outPort + 1) (s.sentLen d + 4)).obj O.TX_BYTES (d.outPort + 1) := by
  rw [State.sentCounted]
  exact State.count_of_obj _ (State.count_obj_ne _ (Obj.key_ne (by decide) (by omega) (by omega)))

/-- The parts and objects of a tail mark. -/
theorem State.stomped_only (s : State) (p : Nat) : (s.stomped p).only s (.out :: flagParts) (keyOf O.CT_STOMP (p + 1) :: flagKeys O.CELLAR_FLAGS) :=
  State.only_raise _ _ (State.only_count _ _ _ (State.only_emit _ (State.only_refl _ _ _) (by simp)) (by simp)) (by simp +contextual)
    (by simp +contextual)

theorem State.stomped_out (p : Nat) : (s.stomped p).out = .frame p [] true :: s.out := by
  rw [State.stomped, State.raise_out, State.count_out, State.emit_out]

theorem State.stomped_count {p : Nat} (hp : p < 255) : (s.stomped p).obj O.CT_STOMP (p + 1) = (s.count O.CT_STOMP (p + 1)).obj O.CT_STOMP (p + 1) := by
  rw [State.stomped, State.raise_obj _ _ _ _ (Obj.key_notMem_flagKeys (by omega) (by decide) (by decide) (by decide))]
  exact State.count_of_obj 1 (State.emit_obj _ _ _ _)

theorem State.stomped_flag (p : Nat) : bit ((s.stomped p).obj O.CELLAR_FLAGS) 3 = true := State.raise_bit _ _ (by decide) (by decide)

theorem State.stomped_keeps_flag {p b : Nat} (hb : b < 32) (hp : p < 255) (h : bit (s.obj O.CELLAR_FLAGS) b = true) :
    bit ((s.stomped p).obj O.CELLAR_FLAGS) b = true := by
  refine State.raise_keeps_bit (by decide) hb ?_
  rwa [State.count_obj_ne _ (Obj.key_ne (by decide) (by decide) (by omega)), State.emit_obj]

/-- What the end of a copy with a tail mark leaves and counts. -/
structure State.endsMarked (s t : State) (d : Desc) (p : Nat) : Prop where
  copies : t.cellar.copies = s.cellar.copies.erase d
  mark : .frame p [] true ∈ t.out
  flag : bit (t.obj O.CELLAR_FLAGS) 3 = true
  keeps : ∀ b, b < 32 → bit (s.obj O.CELLAR_FLAGS) b = true → bit (t.obj O.CELLAR_FLAGS) b = true
  stomp : t.obj O.CT_STOMP (p + 1) = (s.count O.CT_STOMP (p + 1)).obj O.CT_STOMP (p + 1)
  frame : t.only s cellarParts (keyOf O.TX_FRAMES (p + 1) :: keyOf O.TX_BYTES (p + 1) :: keyOf O.CT_STOMP (p + 1) :: fenceKeys)

theorem State.endCopy_endsMarked {d : Desc} {p : Nat} (hport : d.outPort = p) (hd : p < 255) : s.endsMarked (s.endCopy d true) d p := by
  subst hport
  have hcounted := s.sentCounted_only d
  have hcellar : (s.sentCounted d).obj O.CELLAR_FLAGS = s.obj O.CELLAR_FLAGS := State.only_obj hcounted (by
    simp only [List.mem_cons, List.not_mem_nil, or_false, not_or]
    exact ⟨Obj.key_ne (by decide) (by decide) (by omega), Obj.key_ne (by decide) (by decide) (by omega)⟩)
  have hstomp : (s.sentCounted d).obj O.CT_STOMP (d.outPort + 1) = s.obj O.CT_STOMP (d.outPort + 1) := State.only_obj hcounted (by
    simp only [List.mem_cons, List.not_mem_nil, or_false, not_or]
    exact ⟨Obj.key_ne (by decide) (by omega) (by omega), Obj.key_ne (by decide) (by omega) (by omega)⟩)
  rw [State.endCopy_marked]
  refine ⟨?_, ?_, State.freeCopy_flag d (by decide) (State.stomped_flag _), fun b hb h => ?_, ?_, ?_⟩
  · rw [State.freeCopy_copies, (State.stomped_only _ _).1 .cellar (by decide), State.sentCounted_cellar]
  · exact (State.freeCopy_out d).subset (by rw [State.stomped_out]; exact List.mem_cons_self)
  · exact State.freeCopy_flag d hb (State.stomped_keeps_flag hb hd (hcellar.symm ▸ h))
  · rw [State.freeCopy_obj d (by omega) (by decide), State.stomped_count hd]
    exact State.count_of_obj 1 hstomp
  · refine State.only_trans (State.only_mono (State.freeCopy_only _ d) (fun _ h => h) (by simp +contextual)) (State.only_trans
      (State.only_mono (State.stomped_only _ _) (by decide) fun k hk => ?_) (State.only_mono hcounted (by simp) (by simp +contextual)))
    rcases List.mem_cons.mp hk with rfl | hk
    · simp
    · simp [fenceKeys, hk]

/-- What the end of a copy without a mark leaves and counts. -/
theorem State.endCopy_clean_only (s : State) (d : Desc) : (s.endCopy d false).only s cellarParts
    (keyOf O.TX_FRAMES (d.outPort + 1) :: keyOf O.TX_BYTES (d.outPort + 1) :: fenceKeys) := by
  rw [State.endCopy_clean]
  exact State.only_trans (State.only_mono (State.freeCopy_only _ d) (fun _ h => h) (by simp +contextual))
    (State.only_mono (s.sentCounted_only d) (by simp) (by simp +contextual))

theorem State.endCopy_copies (d : Desc) (mark : Bool) : (s.endCopy d mark).cellar.copies = s.cellar.copies.erase d := by
  rw [State.endCopy_eq, State.freeCopy_copies]
  split
  · rw [(State.stomped_only _ _).1 .cellar (by decide), State.sentCounted_cellar]
  · rw [State.sentCounted_cellar]

/-- A copy's end counts one frame sent, marked or not. -/
theorem State.endCopy_frames {d : Desc} (mark : Bool) (hd : d.outPort < 255) : (s.endCopy d mark).obj O.TX_FRAMES (d.outPort + 1) =
    (s.count O.TX_FRAMES (d.outPort + 1)).obj O.TX_FRAMES (d.outPort + 1) := by
  rw [State.endCopy_eq, State.freeCopy_obj d (by omega) (by decide)]
  split
  · rw [State.only_obj (State.stomped_only _ _), State.sentCounted_frames hd]
    exact fun h => (List.mem_cons.mp h).elim (Obj.key_ne (by decide) (by omega) (by omega))
      (Obj.key_notMem_flagKeys (by omega) (by decide) (by decide) (by decide))
  · exact State.sentCounted_frames hd

theorem State.endCopy_open (d : Desc) (mark : Bool) (q : Nat) : ((s.endCopy d mark).lport q).frame = (s.lport q).frame := by
  have counted : (s.sentCounted d).lport q = s.lport q := by
    rw [State.lport, State.lport, (s.sentCounted_only d).1 .lports (by simp)]
  rw [State.endCopy_eq, State.freeCopy_open]
  split
  · rw [State.lport, (State.stomped_only _ _).1 .lports (by decide)]
    exact congrArg LPort.frame counted
  · exact congrArg LPort.frame counted

/-- The port of a copy in transmission, or of a queue's head, is the copy's own. -/
theorem State.sending_outPort {p : Nat} {d : Desc} (h : s.sending p = some d) : d.outPort = p := by
  have := List.find?_some h
  simp only [Bool.and_eq_true, beq_iff_eq] at this
  exact this.1

theorem State.queueHead_fields {p q : Nat} {d : Desc} (h : s.queueHead p q = some d) : d.outPort = p ∧ d.cls = q := by
  have := List.find?_some h
  simp only [Bool.and_eq_true, beq_iff_eq] at this
  exact this.1

/-! The scheduler's choice (R274). -/

theorem State.choose_none {p : Nat} (h : ∀ q < 7, s.queueHead p q = none) : s.choose p = (none, s) := by
  have hcan (q : Nat) : (decide (q < 7) && (s.queueHead p q).isSome && s.maySend p q) = false := by
    by_cases hq : q < 7 <;> simp [hq, h]
  simp only [State.choose, hcan, Bool.and_false, List.any_eq_true]
  simp

/-- The highest strict class that has a copy and may send is served. -/
theorem State.choose_strict {p q : Nat} {d : Desc} (hq : q < 7) (hs : bit (s.obj O.SCHED_STRICT (p + 1)) q = true)
    (hd : s.queueHead p q = some d) (hm : s.maySend p q = true)
    (hh : ∀ r, q < r → r < 7 → bit (s.obj O.SCHED_STRICT (p + 1)) r = true → s.queueHead p r = none ∨ s.maySend p r = false) :
    s.choose p = (some d, s) := by
  have hone : (bit (s.obj O.SCHED_STRICT (p + 1)) q && (decide (q < 7) && (s.queueHead p q).isSome && s.maySend p q)) = true := by
    simp [hs, hq, hd, hm]
  have hno (r : Nat) (hr : q < r) (hr7 : r < 7) :
      (bit (s.obj O.SCHED_STRICT (p + 1)) r && (decide (r < 7) && (s.queueHead p r).isSome && s.maySend p r)) = false := by
    by_cases hb : bit (s.obj O.SCHED_STRICT (p + 1)) r = true
    · rcases hh r hr hr7 hb with h | h <;> simp [h]
    · simp [hb]
  have hfind : [6, 5, 4, 3, 2, 1, 0].find? (fun q => bit (s.obj O.SCHED_STRICT (p + 1)) q &&
      (decide (q < 7) && (s.queueHead p q).isSome && s.maySend p q)) = some q := by
    rw [List.find?_eq_some_iff_append]
    refine ⟨hone, (List.range' (q + 1) (6 - q)).reverse, (List.range q).reverse, ?_, fun r hr => ?_⟩
    · interval_cases q <;> rfl
    · rw [List.mem_reverse, List.mem_range'_1] at hr
      rw [hno r (by omega) (by omega)]
      rfl
  simp only [State.choose, hfind, hd]

theorem State.edited_noPtp {d : Desc} (f : Stored) (h : d.ptp = false) (a b : Time56) : s.edited d f a = s.edited d f b := by
  simp only [State.edited, h, Bool.false_eq_true, if_false]

/-! The START of a native frame (R63, R67). -/

/-- The START of a port's open frame, if it has one, has left. -/
def State.begun (s : State) (p : Nat) : Prop := ∀ f, (s.lport p).frame = some f → f.start = none

/-- Once the START of the open frame has left, none follows, and TAG stands. -/
def State.keepsTag (s t : State) (p : Nat) : Prop := s.begun p → t.begun p ∧ (t.lport p).tag = (s.lport p).tag

theorem State.keepsTag_refl (s : State) (p : Nat) : s.keepsTag s p := fun h => ⟨h, rfl⟩

theorem State.keepsTag_trans {r : State} {p : Nat} (h1 : r.keepsTag s p) (h2 : s.keepsTag t p) : r.keepsTag t p := fun h =>
  have hs := h1 h
  ⟨(h2 hs.1).1, (h2 hs.1).2.trans hs.2⟩

/-- A change of the port that keeps TAG, and the open frame or at least that its START has left. -/
theorem State.keepsTag_modLPort {p : Nat} {f : LPort → LPort} (h : s.keepsTag t p)
    (hf : ∀ x, (f (t.lport p)).frame = some x → (t.lport p).frame = some x ∨ x.start = none) (ht : (f (t.lport p)).tag = (t.lport p).tag) :
    s.keepsTag (t.modLPort p f) p :=
  State.keepsTag_trans h fun hb => by
    refine ⟨fun x hx => ?_, by rw [State.modLPort_lport, if_pos rfl, ht]⟩
    rw [State.modLPort_lport, if_pos rfl] at hx
    exact (hf x hx).elim (hb x) id

theorem State.keepsTag_of_lport {p : Nat} (h : t.lport p = s.lport p) : s.keepsTag t p := fun hb =>
  ⟨fun x hx => hb x (h ▸ hx), congrArg LPort.tag h⟩

theorem State.interrupt_keepsTag (p : Nat) : s.keepsTag (s.interrupt p) p :=
  State.keepsTag_modLPort (s.keepsTag_refl p) (fun _ h => .inl h) rfl

theorem State.creditField_keepsTag (p : Nat) : s.keepsTag (s.creditField p).2 p := by
  unfold State.creditField
  dsimp only
  exact State.keepsTag_modLPort (s.keepsTag_refl p) (fun _ h => .inl h) rfl

theorem State.sendBlk_lport (p n : Nat) (b : Blk) (q : Nat) : (s.sendBlk p n b).lport q = s.lport q := by
  rw [State.sendBlk_eq, State.emit_lport, State.scrambled]
  split <;> simp

theorem State.frameBlk_keepsTag {p : Nat} {x : Blk × State} (h : s.frameBlk p = some x) : s.keepsTag x.2 p := by
  intro hb
  unfold State.frameBlk at h
  split at h
  · cases h
  · next f hf =>
    have hstart := hb f hf
    have paid : s.keepsTag (if (f.octets != [] && f.sent % 256 == 0) = true then s.consume p f.cls 1 else s) p := by
      split
      · exact State.keepsTag_modLPort (s.keepsTag_refl p) (fun _ h => .inl h) rfl
      · exact s.keepsTag_refl p
    rw [hstart] at h
    split at h
    · cases h
    · dsimp only at h
      split at h
      · cases h
      · split at h
        · cases h
          exact State.keepsTag_trans (State.keepsTag_modLPort (s.keepsTag_refl p) (fun _ h => .inl h) rfl) (State.creditField_keepsTag p) hb
        · split at h
          · cases h
            dsimp only
            refine State.keepsTag_modLPort (State.keepsTag_modLPort paid (fun _ h => .inl h) rfl) (fun y hy => .inr ?_) rfl hb
            obtain rfl : _ = y := Option.some.inj hy
            rfl
          · cases h
            exact State.keepsTag_modLPort (State.keepsTag_modLPort paid (fun _ h => .inl h) rfl) (fun y hy => by cases hy) rfl hb

theorem State.idleBlk_keepsTag (p : Nat) : s.keepsTag (s.idleBlk p).2 p :=
  State.keepsTag_trans (State.interrupt_keepsTag p) (State.creditField_keepsTag p)

theorem State.nextBlk_keepsTag (p : Nat) : s.keepsTag (s.nextBlk p).2 p := by
  have rest : s.keepsTag (match s.frameBlk p with | some x => x | none => s.idleBlk p).2 p := by
    cases h : s.frameBlk p with
    | none => exact State.idleBlk_keepsTag p
    | some x => exact State.frameBlk_keepsTag h
  unfold State.nextBlk
  dsimp only
  split
  · exact State.keepsTag_modLPort (State.interrupt_keepsTag p) (fun _ h => .inl h) rfl
  · split
    · exact rest
    · exact State.keepsTag_modLPort (State.interrupt_keepsTag p) (fun _ h => .inl h) rfl
  · exact rest

theorem State.round_keepsTag (p : Nat) (lv : List (Nat × Nat)) (ns : List Nat) (due : List Blk) : s.keepsTag (s.round p lv ns due).2 p := by
  have sent (u : State) (n : Nat) (b : Blk) : u.keepsTag (u.sendBlk p n b) p := State.keepsTag_of_lport (State.sendBlk_lport p n b p)
  induction ns generalizing s due with
  | nil => exact s.keepsTag_refl p
  | cons n ns ih =>
    unfold State.round
    split
    · exact State.keepsTag_trans (sent _ _ _) (ih due)
    · cases due with
      | nil => exact State.keepsTag_trans (State.keepsTag_trans (State.nextBlk_keepsTag p) (sent _ _ _)) (ih [])
      | cons b r => exact State.keepsTag_trans (State.keepsTag_trans (State.interrupt_keepsTag p) (sent _ _ _)) (ih r)

theorem State.rounds_keepsTag (p fuel : Nat) (due : List Blk) : s.keepsTag (s.rounds_ p fuel due) p := by
  induction fuel generalizing s due with
  | zero => exact s.keepsTag_refl p
  | succ k ih =>
    unfold State.rounds_
    split
    · exact s.keepsTag_refl p
    · exact State.keepsTag_trans (State.round_keepsTag p [] _ due) (ih _)

/-- The body of the START of a port's next frame (R63). -/
def State.startBody (s : State) (p q : Nat) (ct : Bool) : Nat :=
  fld 117 3 q + fld 116 1 (b2n ct) + fld 104 12 (s.lport p).tag +
    (fld 29 3 (s.lport p).crNext + fld 16 13 (Tab.get (s.lport p).crOut 0 (s.lport p).crNext))

/-- The frame that a native port opens. -/
def State.frameOpened (s : State) (p q : Nat) (ct : Bool) (b : Bytes) : State :=
  s.modLPort p fun l => { l with frame := some { cls := q, tag := l.tag, start := some ct, octets := b, sent := 0, done := [], ending := none } }

theorem State.frameOpened_lport (p q : Nat) (ct : Bool) (b : Bytes) : (s.frameOpened p q ct b).lport p = { s.lport p with
    frame := some { cls := q, tag := (s.lport p).tag, start := some ct, octets := b, sent := 0, done := [], ending := none } } := by
  rw [State.frameOpened, State.modLPort_lport, if_pos rfl]

/-- A port with active lanes sends at least one round of what is due. -/
theorem State.stream_rounds {p : Nat} (due : List Blk) (ha : s.activeLanes p ≠ []) : ∃ k, s.stream p due = s.rounds_ p (k + 1) due :=
  ⟨_, if_neg ha⟩

/-- A port whose frame has opened with its START (R63). -/
def State.startTaken (s : State) (p q : Nat) (b : Bytes) : State :=
  s.modLPort p fun l => { l with frame := some { cls := q, tag := (s.lport p).tag, start := none, octets := b, sent := 0, done := [], ending := none }, tag := ((s.lport p).tag + 1) % 4096, interrupted := false, gap := min 8 (l.gap + 1) }

theorem State.frameOpened_frameMay {p q : Nat} {ct : Bool} {b : Bytes} (hc : s.hasCredit p q = true) {f : TxFrame} (hf : f.cls = q) :
    (s.frameOpened p q ct b).frameMay p f = true := by
  have hcredit : (s.frameOpened p q ct b).hasCredit p q = true := by
    rw [State.hasCredit, State.frameOpened_lport]
    exact hc
  simp [State.frameMay, hf, hcredit]

/-- A frame that opens where there is credit sends its START next. -/
theorem State.frameOpened_frameBlk {p q : Nat} {ct : Bool} {b : Bytes} (hc : s.hasCredit p q = true) : (s.frameOpened p q ct b).frameBlk p =
    some (.ctl 0x2D (s.startBody p q ct), (((s.frameOpened p q ct b).startTaken p q b).creditField p).2) := by
  have hlport := State.frameOpened_lport (s := s) p q ct b
  simp only [State.frameBlk, hlport, State.frameOpened_frameMay hc, State.startTaken, State.startBody, State.creditField, State.modLPort_lport, if_true, Bool.true_eq_false, if_false]

theorem State.startTaken_begun (p q : Nat) (b : Bytes) : (s.startTaken p q b).begun p ∧ ((s.startTaken p q b).lport p).tag = ((s.lport p).tag + 1) % 4096 := by
  rw [State.begun, State.startTaken, State.modLPort_lport, if_pos rfl]
  exact ⟨fun f hf => by cases hf; rfl, rfl⟩

/-- The START of a frame that opens on lane `n` has left. -/
def State.startSent (s : State) (p n q : Nat) (ct : Bool) (b : Bytes) : State :=
  (((s.frameOpened p q ct b).startTaken p q b).creditField p).2.sendBlk p n (.ctl 0x2D (s.startBody p q ct))

theorem State.startSent_begun (p n q : Nat) (ct : Bool) (b : Bytes) : (s.startSent p n q ct b).begun p ∧
    ((s.startSent p n q ct b).lport p).tag = ((s.lport p).tag + 1) % 4096 := by
  obtain ⟨hbegun, htag⟩ := State.startTaken_begun (s := s.frameOpened p q ct b) p q b
  rw [State.frameOpened_lport] at htag
  obtain ⟨hb, ht⟩ := State.keepsTag_trans (State.creditField_keepsTag (s := (s.frameOpened p q ct b).startTaken p q b) p)
    (State.keepsTag_of_lport (State.sendBlk_lport p n (.ctl 0x2D (s.startBody p q ct)) p)) hbegun
  exact ⟨hb, ht.trans htag⟩

/-- The START of a frame that opens leaves on the first active lane, and TAG goes on by one (R63, R67). -/
theorem State.openFrame_start {p q n : Nat} {ns : List Nat} {ct : Bool} {b : Bytes} (hc : s.hasCredit p q = true) (hh : (s.lport p).hb = [])
    (hm : (s.lport p).mgmt = []) (ha : s.activeLanes p = n :: ns) : (s.openFrame p q ct b).carries p n (.ctl 0x2D (s.startBody p q ct)) ∧
      ((s.openFrame p q ct b).lport p).tag = ((s.lport p).tag + 1) % 4096 := by
  have hlport := State.frameOpened_lport (s := s) p q ct b
  have hlanes : (s.frameOpened p q ct b).activeLanes p = n :: ns := ha
  have hblk := State.frameOpened_frameBlk (ct := ct) (b := b) hc
  have hnext : (s.frameOpened p q ct b).nextBlk p = (.ctl 0x2D (s.startBody p q ct), (((s.frameOpened p q ct b).startTaken p q b).creditField p).2) := by
    simp only [State.nextBlk, hlport, hh, hm, hblk]
  have hdue : ¬ (([] : List Blk) = [] ∧ (s.frameOpened p q ct b).streamDue p = false) := by
    simp [State.streamDue, hlport, State.frameOpened_frameMay hc]
  obtain ⟨k, hk⟩ := State.stream_rounds (s := s.frameOpened p q ct b) (p := p) [] (by simp [hlanes])
  have hround : (s.frameOpened p q ct b).round p [] (n :: ns) [] = (s.startSent p n q ct b).round p [] ns [] := by
    rw [State.round, List.find?_nil, hnext, State.startSent]
  have hopen : s.openFrame p q ct b =
      ((s.startSent p n q ct b).round p [] ns []).2.rounds_ p k ((s.startSent p n q ct b).round p [] ns []).1 := by
    rw [← hround]
    refine hk.trans ?_
    rw [State.rounds_, if_neg hdue, hlanes]
  obtain ⟨hbegun, htag⟩ := State.startSent_begun (s := s) p n q ct b
  have hkeep := State.keepsTag_trans (State.round_keepsTag (s := s.startSent p n q ct b) p [] ns [])
    (State.rounds_keepsTag p k ((s.startSent p n q ct b).round p [] ns []).1)
  rw [hopen]
  exact ⟨State.carries_streams (State.rounds_streams p k _) (State.carries_streams (State.round_streams p [] ns [])
    (State.sendBlk_carries p n _)), (hkeep hbegun).2.trans htag⟩

theorem State.openFrame_streams_only (s : State) (p q : Nat) (ct : Bool) (b : Bytes) : (s.openFrame p q ct b).only s [.out, .lanes, .lports] [] :=
  State.only_trans (State.stream_streams (s := s.frameOpened p q ct b) p []).frame (State.only_modLPort _ _ (State.only_refl _ _ _) (by simp))

/-! A copy starts (R262, R285). -/

/-- A copy in transmission, not by cut-through. -/
def State.copyStarted (s : State) (d : Desc) : State :=
  s.modCellar fun c => { c with copies := c.copies.map fun x => if x = d then { d with started := true, ct := false } else x }

theorem State.copyStarted_only (s : State) (d : Desc) : (s.copyStarted d).only s [.cellar] [] :=
  State.only_modCellar _ (State.only_refl _ _ _) (by simp)

section
variable {d : Desc} {f : Stored} {o : Time56} (hf : s.frame d.fid = some f) (hl : (s.edited d f o).length ≤ 9212) (hp : d.ptp = false)
include hf hl hp

/-- A copy that leaves on an Ethernet port or the house port. -/
theorem State.startCopy_plain (hn : (s.native d.outPort && d.outPort != housePort) = false) :
    s.startCopy d false o = (s.copyStarted d).emit (.frame d.outPort (s.edited d f o) false) := by
  have hed (x : Time56) : s.edited d f x = s.edited d f o := State.edited_noPtp f hp x o
  have hn' : ((s.copyStarted d).native d.outPort && d.outPort != housePort) = false := hn
  rw [State.copyStarted] at hn' ⊢
  unfold State.startCopy
  rw [hf]
  dsimp only
  rw [hed, if_neg (Nat.not_lt.mpr hl), if_neg Bool.false_ne_true, if_neg (Bool.eq_false_iff.mp hp), if_neg (Bool.eq_false_iff.mp hn')]

/-- A copy that leaves on a native port opens its frame there. -/
theorem State.startCopy_native (hn : s.native d.outPort = true) (hh : d.outPort ≠ housePort) : s.startCopy d false o =
    ((s.copyStarted d).openFrame d.outPort d.cls false (s.edited d f o)).emit (.frame d.outPort (s.edited d f o) false) := by
  have hed (x : Time56) : s.edited d f x = s.edited d f o := State.edited_noPtp f hp x o
  have hn' : ((s.copyStarted d).native d.outPort && d.outPort != housePort) = true := by
    rw [Bool.and_eq_true, bne_iff_ne]
    exact ⟨hn, hh⟩
  rw [State.copyStarted] at hn' ⊢
  unfold State.startCopy
  rw [hf]
  dsimp only
  rw [hed, if_neg (Nat.not_lt.mpr hl), if_neg Bool.false_ne_true, if_neg (Bool.eq_false_iff.mp hp), if_pos hn']

end

theorem State.egressStart_of_choose {p : Nat} {d : Desc} (o : Time56) (hs : s.sending p = none) (hu : s.portUp p = true) (hc : s.choose p = (some d, s)) :
    s.egressStart p o = s.startCopy d false o := by
  simp [State.egressStart, hs, hu, hc]

/-! A frame that ends, or runs out of data (R65, R69, R277). -/

theorem State.closeFrame_only (s : State) (p : Nat) (bad : Bool) : (s.closeFrame p bad).only s [.lanes, .lports, .out] [] := by
  unfold State.closeFrame
  exact State.only_modLPort _ _ (State.only_trans (State.only_mono (State.stream_streams p []).frame (by simp) (by simp))
    (State.only_modLPort _ _ (State.only_refl _ _ _) (by simp))) (by simp)

theorem State.cutFrame_only (s : State) (p : Nat) : (s.cutFrame p).only s [.lanes, .lports, .out] [] :=
  State.only_trans (State.closeFrame_only _ p true) (State.only_modLPort _ _ (State.only_refl _ _ _) (by simp))

/-- The end of a copy on an Ethernet port or the house port. -/
theorem State.egressEnd_plain {p : Nat} {d : Desc} (hd : s.sending p = some d) (hn : (s.native p && p != housePort) = false) :
    s.egressEnd p = s.endCopy d d.bad := by
  simp [State.egressEnd, hd, hn]

/-- On a native port the copy ends once its END has left. -/
theorem State.egressEnd_native {p : Nat} {d : Desc} (hd : s.sending p = some d) (hn : s.native p = true) (hh : p ≠ housePort) :
    s.egressEnd p = if ((s.closeFrame p d.bad).lport p).frame.isSome then s.closeFrame p d.bad else (s.closeFrame p d.bad).endCopy d d.bad := by
  have hgo : (s.native p && p != housePort) = true := by simp [hn, hh]
  have hn' : (s.closeFrame p d.bad).native p = s.native p := by
    rw [State.native, State.native, State.group, State.group, (s.closeFrame_only p d.bad).1 .groups (by simp)]
  simp only [State.egressEnd, hd, hgo, if_true, hn', Bool.true_and]

/-- One IDLE of a frame that waits for data, on lane `n` (R62). -/
def State.idleSent (s : State) (p n : Nat) : State := (s.idleBlk p).2.sendBlk p n (s.idleBlk p).1

theorem State.idleSent_streams (p n : Nat) : s.streams (s.idleSent p n) p :=
  State.streams_trans (State.idleBlk_streams p) (State.sendBlk_streams p n _)

theorem State.idleSent_carries (p n : Nat) : ∃ w, (s.idleSent p n).carries p n (.ctl 0x1E w) :=
  ⟨_, State.sendBlk_carries p n _⟩

theorem State.idleBlk_lport (p : Nat) : ((s.idleBlk p).2.lport p).frame = (s.lport p).frame ∧
    ((s.idleBlk p).2.lport p).interrupted = (s.lport p).frame.any (·.start.isNone) := by
  simp [State.idleBlk, State.creditField, State.interrupt]

theorem State.idleSent_lport (p n : Nat) : ((s.idleSent p n).lport p).frame = (s.lport p).frame ∧
    ((s.idleSent p n).lport p).interrupted = (s.lport p).frame.any (·.start.isNone) := by
  rw [State.idleSent, State.sendBlk_lport]
  exact State.idleBlk_lport p

/-- IDLE on each lane of a list; the open frame is interrupted if its START has left. -/
theorem State.forEach_idleSent {p : Nat} (ns : List Nat) : s.streams (forEach ns (fun s n => s.idleSent p n) s) p ∧
    ((forEach ns (fun s n => s.idleSent p n) s).lport p).frame = (s.lport p).frame ∧
    (ns ≠ [] → ((forEach ns (fun s n => s.idleSent p n) s).lport p).interrupted = (s.lport p).frame.any (·.start.isNone)) ∧
    ∀ n ∈ ns, ∃ w, (forEach ns (fun s n => s.idleSent p n) s).carries p n (.ctl 0x1E w) := by
  unfold forEach
  induction ns generalizing s with
  | nil => exact ⟨s.streams_refl p, rfl, fun h => absurd rfl h, fun n hn => by cases hn⟩
  | cons m ms ih =>
    obtain ⟨hstream, hframe, hint, hall⟩ := ih (s := s.idleSent p m)
    obtain ⟨hf, hi⟩ := State.idleSent_lport (s := s) p m
    simp only [List.foldl_cons]
    refine ⟨State.streams_trans (State.idleSent_streams p m) hstream, hframe.trans hf, fun _ => ?_, fun n hn => ?_⟩
    · cases ms with
      | nil => exact hi
      | cons k ks => rw [hint (List.cons_ne_nil _ _), hf]
    · rcases List.mem_cons.mp hn with rfl | hn
      · obtain ⟨w, hw⟩ := State.idleSent_carries (s := s) p n
        exact ⟨w, State.carries_streams hstream hw⟩
      · exact hall n hn

theorem State.ctUnderrun_native {p : Nat} {d : Desc} (hd : s.sending p = some d) (hc : d.ct = true) (hn : s.native p = true) :
    s.ctUnderrun p = forEach (s.activeLanes p) (fun s n => s.idleSent p n) s := by
  simp only [State.ctUnderrun, hd, hc, hn, Bool.not_true, Bool.false_eq_true, if_true, if_false]
  rfl

theorem State.ctUnderrun_ethernet {p : Nat} {d : Desc} (hd : s.sending p = some d) (hc : d.ct = true) (hn : s.native p = false) :
    s.ctUnderrun p = (s.count O.CT_UNDERRUN (p + 1)).endCopy d true := by
  simp [State.ctUnderrun, hd, hc, hn]

/-! Deadlines (R280). -/

/-- A copy that has missed a deadline has been counted and flagged. -/
def State.timedOut (s : State) (p : Nat) : State := (s.count O.DROP_TIMEOUT (p + 1)).raise O.CELLAR_FLAGS 2

theorem State.timedOut_only (s : State) (p : Nat) : (s.timedOut p).only s flagParts (keyOf O.DROP_TIMEOUT (p + 1) :: flagKeys O.CELLAR_FLAGS) :=
  State.only_raise _ _ (State.only_count _ _ _ (State.only_refl _ _ _) (by simp)) (fun _ h => h) (by simp +contextual)

theorem State.timedOut_count {p : Nat} (hp : p < 255) : (s.timedOut p).obj O.DROP_TIMEOUT (p + 1) =
    (s.count O.DROP_TIMEOUT (p + 1)).obj O.DROP_TIMEOUT (p + 1) := by
  rw [State.timedOut, State.raise_obj _ _ _ _ (Obj.key_notMem_flagKeys (by omega) (by decide) (by decide) (by decide))]

theorem State.timedOut_flag (p : Nat) : bit ((s.timedOut p).obj O.CELLAR_FLAGS) 2 = true := State.raise_bit _ _ (by decide) (by decide)

theorem State.startDeadline_eq {p q : Nat} {d : Desc} (hd : s.queueHead p q = some d) : s.startDeadline p q = (s.freeCopy d).timedOut p := by
  simp [State.startDeadline, hd, State.timedOut]

/-- The frame that a native port has open is cut before its copy's end (R280). -/
def State.frameCut (s : State) (p : Nat) : State := if s.native p && p != housePort then s.cutFrame p else s

theorem State.frameCut_only (s : State) (p : Nat) : (s.frameCut p).only s [.lanes, .lports, .out] [] := by
  unfold State.frameCut
  split
  · exact s.cutFrame_only p
  · exact State.only_refl _ _ _

theorem State.endDeadline_eq {p : Nat} {d : Desc} (hd : s.sending p = some d) : s.endDeadline p = ((s.frameCut p).timedOut p).endCopy d true := by
  simp only [State.endDeadline, hd]
  rfl

end Sys2Proof.Machine

open Sys2Proof Sys2Proof.Machine

/-- Settles O28, clause by clause: starts, ends, data that is wanting, and deadlines. -/
theorem framesLeave : Obligations.FramesLeave := by
  unfold Obligations.FramesLeave
  have eth {s : State} {p : Fin 49} (h : p.val < 48 → s.native p = false) : (s.native p && p.val != housePort) = false := by
    by_cases hp : p.val = housePort
    · simp [hp]
    · have hlt : p.val < 48 := lt_of_le_of_ne (Nat.le_of_lt_succ p.isLt) hp
      simp [h hlt]
  refine ⟨?idle, ?start, ?startNative, ?noEnd, ?endClean, ?endBad, ?endNative, ?noUnderrun, ?noCt, ?underrunNative, ?underrun, ?noDeadline,
    ?startDeadline, ?endDeadline⟩
  case idle =>
    intro s p o hh h
    refine runKeep_same hh ?_
    rcases h with h | h | h
    · simp [State.egressStart, h]
    · simp [State.egressStart, h]
    · simp [State.egressStart, State.choose_none h]
  case start =>
    intro s p o q d f hh hs hu hq hb hd hm hhi hf hl hn hp
    obtain ⟨hport, -⟩ := State.queueHead_fields hd
    have ht := (State.egressStart_of_choose o hs hu (State.choose_strict hq hb hd hm hhi)).trans
      (State.startCopy_plain hf hl hp (hport ▸ eth hn))
    have ho : (s.egressStart p o).only s [.cellar, .out] [] :=
      ht ▸ State.only_emit _ (State.only_mono (s.copyStarted_only d) (by simp) (by simp)) (by simp)
    refine ⟨_, runKeep_of_only hh ho (by simp), ?_, ?_, ho⟩ <;> rw [ht]
    · rw [State.emit_out, hport, (s.copyStarted_only d).1 .out (by simp)]
    · rw [State.emit_cellar, State.copyStarted, State.modCellar_cellar]
  case startNative =>
    intro s p o q n ns d f hh hs hu hq hb hd hm hhi hf hl hn hp ha hhb hmgmt
    obtain ⟨hport, hcls⟩ := State.queueHead_fields hd
    have hhouse : p.val ≠ housePort := ne_of_lt p.isLt
    have hcredit : s.hasCredit p q = true := by
      rw [State.maySend, if_neg hhouse, if_pos hn, Bool.and_eq_true] at hm
      exact hm.1
    have ht := (State.egressStart_of_choose o hs hu (State.choose_strict hq hb hd hm hhi)).trans
      (State.startCopy_native hf hl hp (hport ▸ hn) (hport ▸ hhouse))
    rw [hport, hcls] at ht
    obtain ⟨hstart, htag⟩ := State.openFrame_start (s := s.copyStarted d) (ct := false) (b := s.edited d f o) hcredit hhb hmgmt ha
    have hopen := State.openFrame_streams_only (s.copyStarted d) p q false (s.edited d f o)
    have ho : (s.egressStart p o).only s [.cellar, .lanes, .lports, .out] [] :=
      ht ▸ State.only_emit _ (State.only_trans (State.only_mono hopen (by simp) (by simp)) (State.only_mono (s.copyStarted_only d) (by simp) (by simp)))
        (by simp)
    refine ⟨_, runKeep_of_only hh ho (by simp), ?_, ?_, ?_, ?_, ho⟩ <;> rw [ht]
    · rw [State.emit_out]
      exact List.mem_cons_self
    · rw [hcls]
      exact hstart.imp fun v hv => by rw [State.emit_out]; exact List.mem_cons_of_mem _ hv
    · rw [State.emit_lport, htag]
      rfl
    · rw [State.emit_cellar, hopen.1 .cellar (by simp), State.copyStarted, State.modCellar_cellar]
  case noEnd =>
    intro s p hh h
    exact ⟨runKeep_same hh (by simp [State.egressEnd, h]), runKeep_same hh (by simp [State.endDeadline, h])⟩
  case endClean =>
    intro s p d f hh hd hf hbad hn
    have hport := State.sending_outPort hd
    have ht := State.egressEnd_plain hd (eth hn)
    rw [hbad] at ht
    have ho : (s.egressEnd p).only s (.cellar :: .lports :: .out :: flagParts)
        (keyOf O.TX_FRAMES (p + 1) :: keyOf O.TX_BYTES (p + 1) :: keyOf O.DRAIN_STATE :: flagKeys O.CELLAR_FLAGS) :=
      ht ▸ hport ▸ s.endCopy_clean_only d
    have hlen : s.sentLen d = (s.edited d f 0).length := by rw [State.sentLen, hf]
    refine ⟨_, runKeep_of_only hh ho (by decide), ?_, ?_, ?_, ho⟩ <;> rw [ht]
    · exact State.endCopy_copies d false
    · rw [← hport]
      exact State.endCopy_frames false (by omega)
    · rw [← hport, State.endCopy_clean, State.freeCopy_obj d (by omega) (by decide), State.sentCounted_bytes (by omega), hlen]
  case endBad =>
    intro s p d f hh hd hf hbad hn
    have ht := State.egressEnd_plain hd (eth hn)
    rw [hbad] at ht
    have hend := State.endCopy_endsMarked (s := s) (State.sending_outPort hd) (by omega)
    rw [← ht] at hend
    exact ⟨_, runKeep_of_only hh hend.frame (by decide), hend.copies, hend.mark, hend.flag, hend.stomp⟩
  case endNative =>
    intro s p d hh hd hn
    have hport := State.sending_outPort hd
    have ht := State.egressEnd_native hd hn (ne_of_lt p.isLt)
    have hclose := s.closeFrame_only p d.bad
    have hcellar : (s.closeFrame p d.bad).cellar = s.cellar := hclose.1 .cellar (by simp)
    have hframes : (s.closeFrame p d.bad).obj O.TX_FRAMES (p + 1) = s.obj O.TX_FRAMES (p + 1) := State.only_obj hclose (by simp)
    by_cases hopen : ((s.closeFrame p d.bad).lport p).frame.isSome = true
    · rw [if_pos hopen] at ht
      have ho : (s.egressEnd p).only s [.lanes, .lports, .out] [] := ht ▸ hclose
      refine ⟨_, runKeep_of_only hh ho (by simp), ?_⟩
      rw [ht, if_neg (Option.isSome_iff_ne_none.mp hopen), hcellar]
      exact ⟨rfl, hframes, hclose⟩
    · rw [if_neg hopen] at ht
      have hnone : ((s.egressEnd p).lport p).frame = none := by
        rw [ht, State.endCopy_open]
        exact Option.not_isSome_iff_eq_none.mp hopen
      have hhearth : (s.egressEnd p).hearth = s.hearth := by
        cases hbad : d.bad <;> rw [hbad] at ht hclose <;> rw [ht]
        · exact ((State.endCopy_clean_only _ d).1 .hearth (by decide)).trans (hclose.1 .hearth (by simp))
        · exact ((State.endCopy_endsMarked hport (by omega)).frame.1 .hearth (by decide)).trans (hclose.1 .hearth (by simp))
      refine ⟨_, (runKeep_next s _ hh).trans (congrArg _ (State.keeping_eq s hhearth)), ?_⟩
      rw [if_pos hnone, ht, State.endCopy_copies, hcellar]
      have hsent := State.endCopy_frames (s := s.closeFrame p d.bad) (d := d) d.bad (by omega)
      rw [hport] at hsent
      exact ⟨rfl, hsent.trans (State.count_of_obj 1 hframes)⟩
  case noUnderrun =>
    intro s p hh h
    exact runKeep_same hh (by simp [State.ctUnderrun, h])
  case noCt =>
    intro s p d hh hd hc
    exact runKeep_same hh (by simp [State.ctUnderrun, hd, hc])
  case underrunNative =>
    intro s p d hh hd hc hn ha
    have ht := State.ctUnderrun_native hd hc hn
    obtain ⟨hstream, -, hint, hall⟩ := State.forEach_idleSent (s := s) (p := p) (s.activeLanes p)
    rw [← ht] at hstream hint hall
    have ho : (s.ctUnderrun p).only s [.lanes, .lports, .out] [] := State.only_mono hstream.frame (by simp) (by simp)
    exact ⟨_, runKeep_of_only hh ho (by simp), hall, hint ha, hstream.others, ho⟩
  case underrun =>
    intro s p d hh hd hc hn
    have ht := State.ctUnderrun_ethernet hd hc hn
    have hcount := State.only_count (s := s) O.CT_UNDERRUN (p + 1) 1 (State.only_refl s [] [keyOf O.CT_UNDERRUN (p + 1)]) (by simp)
    have hend := State.endCopy_endsMarked (s := s.count O.CT_UNDERRUN (p + 1)) (State.sending_outPort hd) (by omega)
    rw [← ht] at hend
    have ho : (s.ctUnderrun p).only s (.cellar :: .lports :: .out :: flagParts) (keyOf O.TX_FRAMES (p + 1) :: keyOf O.TX_BYTES (p + 1) ::
        keyOf O.CT_UNDERRUN (p + 1) :: keyOf O.CT_STOMP (p + 1) :: keyOf O.DRAIN_STATE :: flagKeys O.CELLAR_FLAGS) :=
      State.only_trans (State.only_mono hend.frame (fun _ h => h) (by simp +contextual [fenceKeys]))
        (State.only_mono hcount (by simp) (by simp))
    refine ⟨_, runKeep_of_only hh ho (by decide), ?_, ?_, ?_, hend.flag, ho⟩
    · rw [hend.copies, State.count_cellar]
    · refine State.only_obj hend.frame ?_
      simp only [List.mem_cons, not_or, fenceKeys]
      exact ⟨Obj.key_ne (by decide) (by omega) (by omega), Obj.key_ne (by decide) (by omega) (by omega),
        Obj.key_ne (by decide) (by omega) (by omega), Obj.key_ne (by decide) (by omega) (by decide),
        Obj.key_notMem_flagKeys (by omega) (by decide) (by decide) (by decide)⟩
    · exact hend.stomp.trans (State.count_of_obj 1 (State.count_obj_ne _ (Obj.key_ne (by decide) (by omega) (by omega))))
  case noDeadline =>
    intro s p q hh h
    exact runKeep_same hh (by simp [State.startDeadline, h])
  case startDeadline =>
    intro s p q d hh hd
    have ht := State.startDeadline_eq hd
    have hfree := s.freeCopy_only d
    have htimed := (s.freeCopy d).timedOut_only p
    have ho : (s.startDeadline p q).only s (.cellar :: .lports :: .out :: flagParts)
        (keyOf O.DROP_TIMEOUT (p + 1) :: keyOf O.DRAIN_STATE :: flagKeys O.CELLAR_FLAGS) :=
      ht ▸ State.only_trans (State.only_mono htimed (by decide) (by simp +contextual))
        (State.only_mono hfree (fun _ h => h) fun _ h => List.mem_cons_of_mem _ h)
    refine ⟨_, runKeep_of_only hh ho (by decide), ?_, ?_, ?_, ho⟩ <;> rw [ht]
    · rw [htimed.1 .cellar (by decide), State.freeCopy_copies]
    · rw [State.timedOut_count (by omega)]
      exact State.count_of_obj 1 (State.freeCopy_obj d (by omega) (by decide))
    · exact State.timedOut_flag p
  case endDeadline =>
    intro s p d hh hd
    have ht := State.endDeadline_eq hd
    have hcut := s.frameCut_only p
    have htimed := (s.frameCut p).timedOut_only p
    have hend := State.endCopy_endsMarked (s := (s.frameCut p).timedOut p) (State.sending_outPort hd) (by omega)
    rw [← ht] at hend
    have hobj {o : Obj} (hi : o.index ≠ O.DROP_TIMEOUT.index) (hc : o.index ≠ O.CELLAR_FLAGS.index)
        (hw : o.index ∉ [O.LT_LOST.index, O.OBS_FLAGS.index, O.ENG_STATE.index, O.ENG_SLOT_IDLE.index]) :
        ((s.frameCut p).timedOut p).obj o (p + 1) = s.obj o (p + 1) :=
      (State.only_obj htimed fun h => (List.mem_cons.mp h).elim (Obj.key_ne hi (by omega) (by omega))
        (Obj.key_notMem_flagKeys (by omega) (by decide) hc hw)).trans (State.only_obj hcut (by simp))
    have hhearth : (s.endDeadline p).hearth = s.hearth :=
      (hend.frame.1 .hearth (by decide)).trans ((htimed.1 .hearth (by decide)).trans (hcut.1 .hearth (by simp)))
    refine ⟨_, (runKeep_next s _ hh).trans (congrArg _ (State.keeping_eq s hhearth)), ?_, ?_, ?_, ?_, hend.flag⟩
    · rw [hend.copies, htimed.1 .cellar (by decide), hcut.1 .cellar (by simp)]
    · refine (State.only_obj hend.frame ?_).trans ((State.timedOut_count (by omega)).trans (State.count_of_obj 1 (State.only_obj hcut (by simp))))
      simp only [List.mem_cons, not_or, fenceKeys]
      exact ⟨Obj.key_ne (by decide) (by omega) (by omega), Obj.key_ne (by decide) (by omega) (by omega),
        Obj.key_ne (by decide) (by omega) (by omega), Obj.key_ne (by decide) (by omega) (by decide),
        Obj.key_notMem_flagKeys (by omega) (by decide) (by decide) (by decide)⟩
    · exact hend.stomp.trans (State.count_of_obj 1 (hobj (by decide) (by decide) (by decide)))
    · exact hend.keeps 2 (by decide) (State.timedOut_flag p)
end

section
/-! PROOF. O27 fails: the statement ranges over every state, among them those whose Cellar holds a copy under the frame number that the next
frame takes. Cut-through then starts that copy, whose egress no state bounds, and counts it in CT_FRAMES under a sub-index that runs on into
the counters of FCS_ERR. -/

namespace Sys2Proof.Machine

/-- A copy of the frame that comes next, for an egress so large that its CT_FRAMES is the object FCS_ERR of port 0. -/
def strayCopy (next : Nat) : Desc :=
  { fid := next, outPort := (O.FCS_ERR.index - O.CT_FRAMES.index) * 256, cls := 0, ct := false, bad := false, ptp := false, ptpOff := 0,
    xport := 0, nh := none, vid := 0, untag := false, noEdit := true, commit := 0, tIn := 0, share := .shared, mgmt := false, limit := 0,
    started := false }

/-- The L2 key of an untagged frame to the address 0, in VID 1. -/
def zeroKey : Nat := 2 ^ 48

/-- Group 0 on Ethernet with port 3 up and cutting through, an L2 entry that sends the address 0 to port 3, and the stray copy. -/
def straySt : State :=
  let s := (State.reset.modGroup 0 fun g => { g with mode := 2 }).setObj O.CT_ENABLE 127 4
  let s := s.modLPort 3 fun l => { l with up := true }
  let s := s.modCellar fun c => { c with copies := [strayCopy c.nextId] }
  s.setEm ((s.probes 0 zeroKey).headD 0) (emMake 0 zeroKey 3)

/-- A frame of 60 octets of 0 with a bad FCS. -/
def badFrame : Frame := ⟨List.replicate 60 0, [], .fcsError, ⟨⟨0, []⟩, 0⟩, 0⟩

theorem straySt_fifoRoom : straySt.fifoRoom (pipelineOf 0) (isMgmt (badFrame.octets.take 128)) = true := by decide +kernel

/-- The frame comes in, and its bad FCS stands in the counter twice. -/
theorem straySt_receives :
    exec (.frameReceive 0 badFrame) straySt = .next (straySt.keeping (·.frameReceive 0 badFrame)) ∧
      (straySt.keeping (·.frameReceive 0 badFrame)).obj O.FCS_ERR 1 = 2 :=
  ⟨run_next straySt (·.keeping (·.frameReceive 0 badFrame)) rfl, by decide +kernel⟩

theorem straySt_counts : (straySt.count O.FCS_ERR 1).obj O.FCS_ERR 1 = 1 := by decide +kernel

end Sys2Proof.Machine

open Sys2Proof Sys2Proof.Machine

/-- Refutes O27 in its third clause: a frame with a bad FCS that cuts through, where the Cellar holds a copy under the number that the frame
takes. The copy that starts is the stray one; its CT_FRAMES is the object FCS_ERR of the ingress port, which counts 2 for the one frame. -/
theorem not_framesEnter : ¬ Obligations.FramesEnter := by
  unfold Obligations.FramesEnter
  rintro ⟨-, -, hcount, -⟩
  obtain ⟨hexec, hobj⟩ := straySt_receives
  obtain ⟨t, ht, hfcs, -⟩ :=
    hcount straySt 0 badFrame rfl (fun _ => by decide +kernel) (fun h => absurd h (by decide)) straySt_fifoRoom (by decide)
  have hone : t.obj O.FCS_ERR 1 = (straySt.count O.FCS_ERR 1).obj O.FCS_ERR 1 := hfcs rfl
  rw [← Host.Outcome.next.inj (hexec.symm.trans ht), hobj, straySt_counts] at hone
  exact absurd hone (by decide)
end

section
/-! PROOF. O18: an exchange completes (R80, R143 to R147, R155, R559), a route change is settled, held or aborted (R171 to R181), DGD is
averaged (R174 to R176), and the asymmetries and the range mode are written (R178, R181, R186). -/

namespace Sys2Proof.Machine

variable {s t : State}

/-- An object of 64 bits with a sign after a write. -/
theorem State.obj_setObjI_i64 (s : State) {o : Obj} (z : Int) (sub : Nat) (ho : o.ty = .i64) :
    (s.setObjI o z sub).obj o sub = ofSigned 64 z % 2 ^ 64 := by
  have h8 : 8 * o.ty.bytes = 64 := by rw [ho]; rfl
  rw [State.setObjI, State.obj_setObj_same, h8]

theorem State.obj_setObjI_other {o o' : Obj} (z : Int) {sub j : Nat} (h : o'.index ≠ o.index) (hj : j < 256) (hs : sub < 256) :
    (s.setObjI o z sub).obj o' j = s.obj o' j := State.obj_setObj_other _ h hj hs

theorem State.routeState_setObj (s : State) {v p : Nat} (hv : v < 256) : (s.setObj O.PORT_ROUTE_STATE v (p + 1)).routeState p = v := by
  rw [State.routeState, State.obj_setObj_same]
  exact Nat.mod_eq_of_lt hv

/-! What a phase reading and an open request leave as they are: the asymmetry of a port (R145, R154). -/

theorem State.samplesOf_laneAt {p i : Nat} (h : t.samplesOf s) : t.laneAt p i = s.laneAt p i := by
  obtain ⟨honly, hlane⟩ := h
  have hls : t.portLanes p = s.portLanes p := State.portLanes_of_only honly (by simp)
  have htest (n : Nat) : ((t.lane n).deskIn.isSome && (t.lane n).posRx == i) = ((s.lane n).deskIn.isSome && (s.lane n).posRx == i) := by
    rw [hlane n]
  simp only [State.laneAt, hls, htest]

theorem State.samplesOf_native {p : Nat} (h : t.samplesOf s) : t.native p = s.native p := by
  unfold State.native State.group
  rw [h.1.1 .groups (by decide)]

theorem State.samplesOf_port {p : Nat} (h : t.samplesOf s) : t.port p = s.port p := by
  unfold State.port
  rw [h.1.1 .ports (by decide)]

theorem State.samplesOf_obj (h : t.samplesOf s) (o : Obj) (j : Nat) : t.obj o j = s.obj o j := State.only_obj h.1 (by simp)

theorem State.samplesOf_alpha {p : Nat} (h : t.samplesOf s) : t.alpha p = s.alpha p := by
  simp only [State.alpha, State.alphaOn, State.timingRx, State.timingLane, State.objI, State.samplesOf_laneAt h, State.samplesOf_obj h]
  rfl

theorem State.samplesOf_asymOf {p : Nat} (d : Int) (h : t.samplesOf s) : t.asymOf p d = s.asymOf p d := by
  simp only [State.asymOf, State.asymWith, State.asymX, State.fibreTrip, State.samplesOf_native h, State.samplesOf_port h,
    State.samplesOf_alpha h, State.samplesOf_obj h]

/-- The REQ of a port is answered; its phase readings are taken. -/
def State.reqClosed (s : State) (p : Nat) (a : Arrival) : State :=
  (s.sampled (p + a.lane) a.codes).modPort p fun t => { t with req := none }

theorem State.reqClosed_only (s : State) (p : Nat) (a : Arrival) : (s.reqClosed p a).only s [.ports, .lanes] [] :=
  State.only_modPort _ _ (State.only_mono (s.sampled_only _ _) (by simp) (by simp)) (by simp)

theorem State.reqClosed_port (s : State) (p q : Nat) (a : Arrival) :
    (s.reqClosed p a).port q = if q = p then { s.port p with req := none } else s.port q := by
  rw [State.reqClosed, State.modPort_port, State.sampled, State.modLane_port, State.modLane_port]

theorem State.reqClosed_obj (s : State) (p : Nat) (a : Arrival) (o : Obj) (j : Nat) : (s.reqClosed p a).obj o j = s.obj o j :=
  State.only_obj (s.reqClosed_only p a) (by simp)

theorem State.reqClosed_hearth (s : State) (p : Nat) (a : Arrival) : (s.reqClosed p a).hearth = s.hearth :=
  (s.reqClosed_only p a).1 .hearth (by decide)

theorem State.reqClosed_native (s : State) (p q : Nat) (a : Arrival) : (s.reqClosed p a).native q = s.native q := by
  unfold State.native State.group
  rw [(s.reqClosed_only p a).1 .groups (by decide)]

/-- A change of a port's records that keeps the figures in force keeps its asymmetry. -/
theorem State.modPort_asymOf {p : Nat} {f : PTime → PTime} (d : Int) (hc : (f (s.port p)).calAct = (s.port p).calAct)
    (hr : (f (s.port p)).routeAct = (s.port p).routeAct) : (s.modPort p f).asymOf p d = s.asymOf p d := by
  have halpha : (s.modPort p f).alpha p = s.alpha p := (rfl)
  have hx : (s.modPort p f).asymX p = s.asymX p := (rfl)
  have htrip : (s.modPort p f).fibreTrip p d = s.fibreTrip p d := (rfl)
  have hnative : (s.modPort p f).native p = s.native p := (rfl)
  simp only [State.asymOf, State.asymWith, halpha, hx, htrip, hnative, State.modPort_port, if_true, hc, hr]

theorem State.reqClosed_asymOf (s : State) (p : Nat) (a : Arrival) (d : Int) : (s.reqClosed p a).asymOf p d = s.asymOf p d :=
  (State.modPort_asymOf (s := s.sampled (p + a.lane) a.codes) d rfl rfl).trans
    (State.samplesOf_asymOf d (s.sampled_samplesOf _ _))

/-! An exchange (R80, R143, R144). -/

/-- θ of an exchange on a native port, whose REQ lane `n` carried. -/
def State.linkTheta (s : State) (p n : Nat) (fwd back : Int) : Int :=
  roundDiv (back - fwd - s.asymOf p (back + fwd)) 2 - s.objI O.LINK_LANE_SKEW (n + 1)

theorem State.reqClosed_linkTheta (s : State) (p n : Nat) (a : Arrival) (fwd back : Int) :
    (s.reqClosed p a).linkTheta p n fwd back = s.linkTheta p n fwd back := by
  rw [State.linkTheta, State.reqClosed_asymOf, State.objI, State.reqClosed_obj]
  rfl

theorem State.respIn_answers {p n seq : Nat} {b : Body} {a : Arrival} {t1 : Time56} (hreq : (s.port p).req = some (seq, t1, n))
    (hn : s.native p = true) (hup : (s.lport p).up = true) (hkind : blk b 119 118 = 1) (hseq : blk b 117 112 = seq) :
    s.respIn p b a = (s.reqClosed p a).exchange p n (tdiff56 (BitVec.ofNat 56 (blk b 111 56) - BitVec.ofNat 56 (blk b 55 16)) t1)
      (tdiff56 ((s.sampled (p + a.lane) a.codes).arrival (p + a.lane) a.tw) (BitVec.ofNat 56 (blk b 111 56))) := by
  unfold State.respIn
  rw [hreq]
  refine (if_neg ?_).trans (by rw [State.reqClosed])
  simp [hn, hup, hkind, hseq]

theorem State.exchange_native {p n : Nat} (fwd back : Int) (hn : s.native p = true) :
    s.exchange p n fwd back = (if (s.port p).complete then s.classify p (back + fwd) (s.linkTheta p n fwd back)
      else s.firstMeasure p (back + fwd) (s.linkTheta p n fwd back)).select := by
  unfold State.exchange
  dsimp only
  rw [if_pos hn]
  rfl

/-- In TRACK only the alternate is chosen anew (R163). -/
theorem State.select_track (h : s.hearth.state = .track) : s.select = s.reselectAlt := by
  have hbusy : s.source ≠ noSource ∨ (s.hearth.state ≠ .free ∧ s.hearth.state ≠ .holdover) := Or.inr (by rw [h]; decide)
  unfold State.select
  dsimp only
  rw [if_pos hbusy, if_neg (by rw [h]; decide : ¬ s.hearth.state = .free),
    if_neg (show ¬ (s.hearth.state = .holdover ∧ _) from fun hx => absurd (h.symm.trans hx.1) (by decide)), ite_self]

/-- Fewer than 8 exchanges are no first measurement: they wait (R559). -/
theorem State.firstMeasure_short {p : Nat} (delta theta : Int) (h : (s.port p).run.length < 7) :
    s.firstMeasure p delta theta = s.modPort p fun t => { t with run := (delta, theta) :: (s.port p).run } := by
  have htake : ((delta, theta) :: (s.port p).run).take 8 = (delta, theta) :: (s.port p).run :=
    List.take_of_length_le (by rw [List.length_cons]; omega)
  have hlen : (((delta, theta) :: (s.port p).run).length == 8) = false := by
    rw [List.length_cons]
    exact beq_false_of_ne (by omega)
  unfold State.firstMeasure
  dsimp only
  rw [htake, hlen]
  rfl

/-- An exchange of a port that is not the source, where no change is pending: within its limits it is ordinary (R155). -/
theorem State.classify_ordinary {p : Nat} {delta theta : Int} (hc : (s.port p).cand = none) (hsrc : s.source ≠ p)
    (hd : within (delta - s.deltaRef p) (s.obj O.ROUTE_LIMIT) = true)
    (ht : (s.port p).settled = true ∨ within (theta - ((s.port p).bias + roundDiv s.hearth.moved (2 ^ 64))) (s.obj O.STEP_MIN) = true) :
    s.classify p delta theta = (s.takeExchange p delta theta).passTheta p theta false false := by
  have hclass : s.classify p delta theta = s.judgeFresh p delta theta := by
    unfold State.classify
    rw [hc]
  have hlimit : s.thetaLimitOf p = s.obj O.STEP_MIN := if_neg hsrc
  rw [hclass]
  unfold State.judgeFresh
  dsimp only
  rw [if_neg (not_not_intro hd)]
  split
  next r hr =>
    rw [hlimit]
    refine if_pos ?_
    unfold State.thetaRes at hr
    split at hr
    next => cases hr
    next hheld =>
      obtain ⟨own, -, hown⟩ := Option.map_eq_some_iff.mp hr
      rw [← hown]
      refine ht.resolve_left fun hset => hheld ?_
      rw [State.thetaHeld, hset, Bool.or_true]
  next => rfl

/-- An exchange accepted on a port that is not the source, with no route change pending: its records. -/
def PTime.accepted (t : PTime) (delta theta moved : Int) : PTime :=
  { t with acc := (delta :: t.acc).take 256, bias := theta - roundDiv moved (2 ^ 64) }

theorem State.setObjI_source {o : Obj} {sub : Nat} (z : Int) (h : O.UPSTREAM_PORT.index ≠ o.index) (hs : sub < 256) :
    (s.setObjI o z sub).source = s.source := State.obj_setObjI_other z h (by decide) hs

theorem State.takeExchange_other {p : Nat} (delta theta : Int) (hp : p < 48) (hst : s.routeState p = 0) (hsrc : s.source ≠ p) :
    ∃ a, s.takeExchange p delta theta =
      (((s.modPort p (·.accepted delta theta s.hearth.moved)).setObjI O.PORT_DELTA delta (p + 1)).setObjI O.PORT_OFFSET theta
        (p + 1)).setObjI O.PORT_ASYM a (p + 1) := by
  refine ⟨(s.modPort p (·.accepted delta theta s.hearth.moved)).asymOf p delta, ?_⟩
  unfold State.takeExchange
  dsimp only
  rw [hst]
  refine (if_neg ?_).trans rfl
  rw [State.setObjI_source _ (by decide) (by omega), State.setObjI_source _ (by decide) (by omega),
    State.setObjI_source _ (by decide) (by omega)]
  exact hsrc

theorem State.exchange_waiting {p n : Nat} {fwd back : Int} (hn : s.native p = true) (htrack : s.hearth.state = .track)
    (hc : (s.port p).complete = false) (hrun : (s.port p).run.length < 7) : s.exchange p n fwd back =
      (s.modPort p fun t => { t with run := (back + fwd, s.linkTheta p n fwd back) :: (s.port p).run }).reselectAlt := by
  rw [State.exchange_native fwd back hn, if_neg (by rw [hc]; decide), State.firstMeasure_short _ _ hrun]
  exact State.select_track htrack

theorem State.exchange_ordinary {p n : Nat} {fwd back : Int} (hp : p < 48) (hn : s.native p = true) (htrack : s.hearth.state = .track)
    (hc : (s.port p).complete = true) (hcand : (s.port p).cand = none) (hst : s.routeState p = 0) (hsrc : s.source ≠ p)
    (hd : within (back + fwd - s.deltaRef p) (s.obj O.ROUTE_LIMIT) = true)
    (ht : (s.port p).settled = true ∨
      within (s.linkTheta p n fwd back - ((s.port p).bias + roundDiv s.hearth.moved (2 ^ 64))) (s.obj O.STEP_MIN) = true) :
    ∃ a, s.exchange p n fwd back =
      ((((s.modPort p (·.accepted (back + fwd) (s.linkTheta p n fwd back) s.hearth.moved)).setObjI O.PORT_DELTA (back + fwd)
        (p + 1)).setObjI O.PORT_OFFSET (s.linkTheta p n fwd back) (p + 1)).setObjI O.PORT_ASYM a (p + 1)).reselectAlt := by
  obtain ⟨a, ha⟩ := State.takeExchange_other (back + fwd) (s.linkTheta p n fwd back) hp hst hsrc
  refine ⟨a, ?_⟩
  rw [State.exchange_native fwd back hn, if_pos hc, State.classify_ordinary hcand hsrc hd ht, ha, State.passTheta, if_neg, State.select_track]
  · simp only [State.setObjI_hearth, State.modPort_hearth, htrack]
  · rw [State.setObjI_source _ (by decide) (by omega), State.setObjI_source _ (by decide) (by omega),
      State.setObjI_source _ (by decide) (by omega)]
    exact fun h => hsrc h.1

/-! A route change is settled (R175, R177, R178). -/

theorem State.settleRoute_port (s : State) (p q : Nat) : (s.settleRoute p).port q =
    if q = p then { s.port p with refSet := false, settled := true, newSum := 0, newN := 0 } else s.port q := by
  rw [State.settleRoute, State.setObj_port, State.modPort_port]

theorem State.settleRoute_routeState (s : State) (p : Nat) : (s.settleRoute p).routeState p = 0 :=
  State.routeState_setObj _ (by decide)

theorem State.settleRoute_obj {p j : Nat} {o : Obj} (hp : p < 48) (hj : j < 256) (ho : o.index ≠ O.PORT_ROUTE_STATE.index) :
    (s.settleRoute p).obj o j = s.obj o j := by
  rw [State.settleRoute, State.obj_setObj_other _ ho hj (by omega), State.modPort_obj]

theorem State.only_settleRoute {l : List Part} {ks : List Nat} {p : Nat} (h : t.only s l ks) (hl : .ports ∈ l)
    (hk : keyOf O.PORT_ROUTE_STATE (p + 1) ∈ ks) : (t.settleRoute p).only s l ks :=
  State.only_setObj _ (State.only_modPort _ _ h hl) hk

/-- The step of PORT_ASYM_ROUTE that FORWARD makes (R177). -/
def State.forwardStep (s : State) (p : Nat) : Int :=
  uToPs (s.forwardSign p * ratRound (s.routeDelta p * 2 ^ 49) (2 ^ 49 + s.alpha p))

theorem State.applyForward_eq (s : State) (p : Nat) : s.applyForward p =
    (s.setObjI O.PORT_ASYM_ROUTE (s.objI O.PORT_ASYM_ROUTE (p + 1) + s.forwardStep p) (p + 1)).settleRoute p := (rfl)

theorem State.applyForward_port (s : State) (p q : Nat) : (s.applyForward p).port q =
    if q = p then { s.port p with refSet := false, settled := true, newSum := 0, newN := 0 } else s.port q := by
  rw [State.applyForward_eq, State.settleRoute_port, State.setObjI_port, State.setObjI_port]

theorem State.applyForward_routeState (s : State) (p : Nat) : (s.applyForward p).routeState p = 0 := by
  rw [State.applyForward_eq, State.settleRoute_routeState]

theorem State.applyForward_asymRoute {p : Nat} (hp : p < 48) : (s.applyForward p).obj O.PORT_ASYM_ROUTE (p + 1) =
    ofSigned 64 (s.objI O.PORT_ASYM_ROUTE (p + 1) + s.forwardStep p) % 2 ^ 64 := by
  rw [State.applyForward_eq, State.settleRoute_obj hp (by omega) (by decide), State.obj_setObjI_i64 _ _ _ rfl]

theorem State.applyForward_only (s : State) (p : Nat) :
    (s.applyForward p).only s [.ports] [keyOf O.PORT_ROUTE_STATE (p + 1), keyOf O.PORT_ASYM_ROUTE (p + 1)] := by
  rw [State.applyForward_eq]
  exact State.only_settleRoute (State.only_setObj _ (State.only_refl _ _ _) (by simp)) (by simp) (by simp)

/-! PORT_ROUTE_CMD and its outcome (R178, R187). -/

theorem State.routeStatus_status {p cmd st : Nat} (hst : st < 16) : (s.routeStatus p cmd st).status O.PORT_ROUTE_STATUS (p + 1) = st :=
  (State.status_cmdStatus s _ _ cmd st 0 (by decide)).trans (Nat.mod_eq_of_lt hst)

theorem State.routeStatus_port (s : State) (p cmd st q : Nat) : (s.routeStatus p cmd st).port q = s.port q := State.setObj_port _ _ _ _ _

theorem State.routeStatus_obj {p j cmd st : Nat} {o : Obj} (hp : p < 48) (hj : j < 256) (ho : o.index ≠ O.PORT_ROUTE_STATUS.index) :
    (s.routeStatus p cmd st).obj o j = s.obj o j := State.obj_setObj_other _ ho hj (by omega)

theorem State.routeStatus_routeState {p cmd st : Nat} (hp : p < 48) : (s.routeStatus p cmd st).routeState p = s.routeState p :=
  State.routeStatus_obj hp (by omega) (by decide)

theorem State.only_routeStatus {l : List Part} {ks : List Nat} {p : Nat} (cmd st : Nat) (h : t.only s l ks)
    (hk : keyOf O.PORT_ROUTE_STATUS (p + 1) ∈ ks) : (t.routeStatus p cmd st).only s l ks := State.only_cmdStatus _ _ _ h hk

/-- A command that ends a route change by its settlement. -/
theorem runKeep_settles {f : State → State} {p cmd : Nat} (hh : s.held = false) (hp : p < 48)
    (hf : f s = (s.settleRoute p).routeStatus p cmd 2) :
    ∃ t, runKeep s f = .next t ∧ t.routeState p = 0 ∧ t.status O.PORT_ROUTE_STATUS (p + 1) = 2 ∧
      t.port p = { s.port p with refSet := false, settled := true, newSum := 0, newN := 0 } ∧
      t.only s [.ports] [keyOf O.PORT_ROUTE_STATE (p + 1), keyOf O.PORT_ROUTE_STATUS (p + 1)] := by
  have ho : (f s).only s [.ports] [keyOf O.PORT_ROUTE_STATE (p + 1), keyOf O.PORT_ROUTE_STATUS (p + 1)] :=
    hf ▸ State.only_routeStatus _ _ (State.only_settleRoute (State.only_refl _ _ _) (by simp) (by simp)) (by simp)
  refine ⟨_, runKeep_of_only hh ho (by decide), ?_, ?_, ?_, ho⟩ <;> rw [hf]
  · rw [State.routeStatus_routeState hp, State.settleRoute_routeState]
  · rw [State.routeStatus_status (by decide)]
  · rw [State.routeStatus_port, State.settleRoute_port, if_pos rfl]

/-- A command of a route change that is refused. -/
theorem runKeep_routeRefused {f : State → State} {p cmd : Nat} (hh : s.held = false) (hf : f s = s.routeStatus p cmd 4) :
    ∃ t, runKeep s f = .next t ∧ t.status O.PORT_ROUTE_STATUS (p + 1) = 4 ∧ t.only s [] [keyOf O.PORT_ROUTE_STATUS (p + 1)] := by
  have ho : (f s).only s [] [keyOf O.PORT_ROUTE_STATUS (p + 1)] :=
    hf ▸ State.only_routeStatus _ _ (State.only_refl _ _ _) (by simp)
  refine ⟨_, runKeep_of_only hh ho (by decide), ?_, ho⟩
  rw [hf, State.routeStatus_status (by decide)]

/-! DGD and ranging (R174 to R176). -/

theorem State.dgdRun_samplesOf (a b : Nat) (r : List (LineTime × LineTime)) (s : State) : (s.dgdRun a b r).1.samplesOf s := by
  induction r generalizing s with
  | nil => exact s.samplesOf_refl
  | cons x r ih =>
    exact State.samplesOf_trans (ih _) (State.samplesOf_trans (State.sampled_samplesOf _ b x.2.codes) (s.sampled_samplesOf a x.1.codes))

/-- The mean of DGD over the rounds of a second (R174). -/
def State.dgdMean (s : State) (p : Nat) (r : List (LineTime × LineTime)) : Int := meanI (s.dgdRun (s.laneAt p 0) (s.laneAt p 1) r).2

/-- The state after the rounds of a second have been averaged. -/
def State.dgdTaken (s : State) (p : Nat) (r : List (LineTime × LineTime)) : State :=
  ((s.dgdRun (s.laneAt p 0) (s.laneAt p 1) r).1.modPort p fun t => { t with dgd := some (s.dgdMean p r) }).setObjI O.PORT_DGD (s.dgdMean p r)
    (p + 1)

theorem State.dgdTaken_only (s : State) (p : Nat) (r : List (LineTime × LineTime)) :
    (s.dgdTaken p r).only s [.ports, .lanes] [keyOf O.PORT_DGD (p + 1)] :=
  State.only_setObj _ (State.only_modPort _ _ (State.only_mono (State.dgdRun_samplesOf _ _ r s).1 (by simp) (by simp)) (by simp)) (by simp)

theorem State.dgdAverage_normal {p : Nat} {r : List (LineTime × LineTime)} (hp : p < 48) (hst : s.routeState p ≠ 2)
    (hmode : s.obj O.PORT_RANGE_MODE (p + 1) = 1) (hn : s.native p = true) (h0 : bit (s.rxAct p) 0 = true) (h1 : bit (s.rxAct p) 1 = true)
    (hr : r ≠ []) : s.dgdAverage p r = s.dgdTaken p r := by
  have hok : (s.obj O.PORT_RANGE_MODE (p + 1) == 1 && s.native p && bit (s.rxAct p) 0 && bit (s.rxAct p) 1 && r != []) = true := by
    simp [hmode, hn, h0, h1, hr]
  have hstate : (s.dgdTaken p r).routeState p ≠ 2 := by
    rw [State.routeState, State.only_obj (s.dgdTaken_only p r) (fun h => ?_)]
    · exact hst
    · exact Obj.key_ne (by decide) (by omega) (by omega) (List.mem_singleton.mp h)
  unfold State.dgdAverage
  dsimp only
  rw [hok]
  exact if_pos (Or.inl hstate)

/-- The records of a port whose ranging has been completed (R179). -/
def State.rangeNoted (s : State) (p : Nat) : State := s.modPort p fun t => { t with rangedAt := some s.hearth.cycles }

theorem State.dgdAverage_fails {p : Nat} {r : List (LineTime × LineTime)} (hst : s.routeState p = 2)
    (he : s.elapsed (s.port p).confirmAt (10 ^ 9) = true) (hmode : s.obj O.PORT_RANGE_MODE (p + 1) ≠ 1) :
    s.dgdAverage p r = (s.rangeNoted p).rangeFail p 2 := by
  have hok : (s.obj O.PORT_RANGE_MODE (p + 1) == 1 && s.native p && bit (s.rxAct p) 0 && bit (s.rxAct p) 1 && r != []) = false := by
    simp [hmode]
  unfold State.dgdAverage
  dsimp only
  rw [hok]
  refine (if_neg ?_).trans rfl
  rintro (h | h)
  · exact h hst
  · exact absurd (he.symm.trans h) (by decide)

/-- The outcome of a ranging that failed, before its flag and the hold (R187). -/
def State.rangeReason (s : State) (p reason : Nat) : State :=
  s.setObj O.PORT_ROUTE_STATUS (s.obj O.PORT_ROUTE_STATUS (p + 1) % 4096 + reason * 4096) (p + 1)

theorem State.rangeFail_eq (s : State) (p reason : Nat) : s.rangeFail p reason =
    ((s.rangeReason p reason).raise O.PORT_TIME_FLAGS 4 (p + 1)).setObj O.PORT_ROUTE_STATE 3 (p + 1) := (rfl)

theorem State.rangeFail_reason {p reason : Nat} (hp : p < 48) (hr : reason < 16) :
    bits ((s.rangeFail p reason).obj O.PORT_ROUTE_STATUS (p + 1)) 15 12 = reason := by
  have hv : s.obj O.PORT_ROUTE_STATUS (p + 1) % 4096 < 4096 := Nat.mod_lt _ (by decide)
  rw [State.rangeFail_eq, State.obj_setObj_other _ (by decide) (by omega) (by omega),
    State.raise_obj _ _ _ _ (Obj.key_notMem_flagKeys (by omega) (by omega) (by decide) (by decide)), State.rangeReason, State.obj_setObj_same]
  show (_ % 2 ^ 16) / 2 ^ 12 % 2 ^ 4 = reason
  omega

theorem State.rangeFail_flag {p reason : Nat} (hp : p < 48) : (s.rangeFail p reason).obj O.PORT_TIME_FLAGS (p + 1) =
    (s.obj O.PORT_TIME_FLAGS (p + 1) ||| 16) % 2 ^ 32 := by
  rw [State.rangeFail_eq, State.obj_setObj_other _ (by decide) (by omega) (by omega),
    State.raise_obj_same _ _ _ _ (Obj.key_notMem_wakeKeys (by omega) (by decide)), State.rangeReason,
    State.obj_setObj_other _ (by decide) (by omega) (by omega)]
  rfl

theorem State.rangeFail_port (s : State) (p q reason : Nat) : (s.rangeFail p reason).port q = s.port q := by
  rw [State.rangeFail_eq, State.setObj_port, State.raise_port, State.rangeReason, State.setObj_port]

theorem State.only_rangeFail {l : List Part} {ks : List Nat} {p : Nat} (reason : Nat) (h : t.only s l ks) (hl : ∀ x ∈ flagParts, x ∈ l)
    (hs : keyOf O.PORT_ROUTE_STATE (p + 1) ∈ ks) (hc : keyOf O.PORT_ROUTE_STATUS (p + 1) ∈ ks)
    (hf : ∀ k ∈ flagKeys O.PORT_TIME_FLAGS (p + 1), k ∈ ks) : (t.rangeFail p reason).only s l ks := by
  rw [State.rangeFail_eq]
  exact State.only_setObj _ (State.only_raise _ _ (State.only_setObj _ h hc) hl hf) hs

/-! Writes (R178, R181, R186). -/

/-- A write that takes a value under its condition, and else leaves the object as it is. -/
theorem runKeep_writeIf {f : State → State} {c : Prop} [Decidable c] {o : Obj} {v sub : Nat} (hh : s.held = false)
    (hf : f s = if c then s.setObj o v sub else s) (hv : v < 2 ^ (8 * o.ty.bytes)) :
    ∃ t, runKeep s f = .next t ∧ t.obj o sub = (if c then v else s.obj o sub) ∧ t.only s [] [keyOf o sub] := by
  by_cases hc : c
  · rw [if_pos hc] at hf ⊢
    have ho : (f s).only s [] [keyOf o sub] := hf ▸ State.only_setObj _ (State.only_refl _ _ _) (by simp)
    refine ⟨_, runKeep_of_only hh ho (by decide), ?_, ho⟩
    rw [hf, State.obj_setObj_same, Nat.mod_eq_of_lt hv]
  · rw [if_neg hc] at hf ⊢
    exact ⟨s, runKeep_same hh hf, rfl, State.only_refl _ _ _⟩

theorem State.asymRouteOk_iff {p : Nat} : s.asymRouteOk p = true ↔ s.routeState p = 4 ∨ (s.routeState p = 0 ∧ s.source ≠ p) := by
  simp only [State.asymRouteOk, Bool.or_eq_true, Bool.and_eq_true, beq_iff_eq, bne_iff_ne]

theorem State.rangeModeOk_iff {p : Nat} {v : Byte} : s.rangeModeOk p v.toNat = true ↔ v = 0 ∨ (v = 1 ∧ s.rangeOk p = true) := by
  have h0 : v.toNat = 0 ↔ v = 0 := BitVec.toNat_inj (y := 0)
  have h1 : v.toNat = 1 ↔ v = 1 := BitVec.toNat_inj (y := 1)
  simp only [State.rangeModeOk, Bool.or_eq_true, Bool.and_eq_true, beq_iff_eq, h0, h1]

end Sys2Proof.Machine

open Sys2Proof Sys2Proof.Machine

/-- Settles O18, instruction by instruction: an exchange runs on the state whose REQ is closed and whose asymmetry the phase reading leaves as
it is; each settlement of a route change goes through `settleRoute`, each refusal through the status word, and a failed ranging through
`rangeFail`. -/
theorem routeChangesSettle : Obligations.RouteChangesSettle := by
  unfold Obligations.RouteChangesSettle
  refine ⟨?_, ?_, ?_, ?_, ?_, ?_, ?_, ?_, ?_, ?_, ?_, ?_, ?_, ?_, ?_, ?_, ?_, ?_, ?_⟩
  -- A RESP that answers no REQ.
  · intro s p b a hh hreq
    have hs : s.respIn p b a = s := by
      unfold State.respIn
      rw [hreq]
    exact (run_next s (·.respIn p b a) hh).trans (by rw [hs])
  -- An exchange of the first measurement.
  · intro s p b a seq n t1 t3 t4 fwd back hh hreq hn hup hkind hseq htrack hc hrun h3 h4 hfwd hback
    subst h3; subst h4; subst hfwd; subst hback
    have hs := State.respIn_answers (a := a) hreq hn hup hkind hseq
    have hport : (s.reqClosed p a).port p = { s.port p with req := none } := by rw [State.reqClosed_port, if_pos rfl]
    rw [State.exchange_waiting ((s.reqClosed_native p p a).trans hn) ((congrArg Hearth.state (s.reqClosed_hearth p a)).trans htrack)
      (by rw [hport]; exact hc) (by rw [hport]; exact hrun), State.reqClosed_linkTheta] at hs
    refine ⟨_, run_next s (·.respIn p b a) hh, ?_, ?_, ?_, ?_⟩ <;> rw [hs]
    · rw [State.reselectAlt, State.setObj_port, State.modPort_port, if_pos rfl, hport]
      rfl
    · intro q hq
      rw [State.reselectAlt, State.setObj_port, State.modPort_port, if_neg hq, State.reqClosed_port, if_neg hq]
    · rw [State.reselectAlt, State.setObj_lanes, State.modPort_lanes, State.reqClosed, State.modPort_lanes]
    · exact State.only_setObj _ (State.only_modPort _ _ (State.only_mono (s.reqClosed_only p a) (by simp) (by simp)) (by simp)) (by simp)
  -- An ordinary exchange of a port that is not the source.
  · intro s p b a seq n t1 t3 t4 fwd back theta hh hreq hn hup hkind hseq htrack hsrc hst hc hcand h3 h4 hfwd hback htheta hd ht
    subst h3; subst h4; subst hfwd; subst hback; subst htheta
    have hs := State.respIn_answers (a := a) hreq hn hup hkind hseq
    have hport : (s.reqClosed p a).port p = { s.port p with req := none } := by rw [State.reqClosed_port, if_pos rfl]
    have hhearth : (s.reqClosed p a).hearth = s.hearth := s.reqClosed_hearth p a
    have hsource : (s.reqClosed p a).source = s.source := s.reqClosed_obj p a _ _
    obtain ⟨asym, ha⟩ := State.exchange_ordinary (s := s.reqClosed p a) (n := n) p.isLt ((s.reqClosed_native p p a).trans hn)
      ((congrArg Hearth.state hhearth).trans htrack) (by rw [hport]; exact hc) (by rw [hport]; exact hcand)
      ((s.reqClosed_obj p a _ _).trans hst) (hsource ▸ hsrc)
      (by rw [State.deltaRef, hport, State.reqClosed_obj]; exact hd)
      (by rw [State.reqClosed_linkTheta, hport, hhearth, State.reqClosed_obj]; exact ht)
    rw [ha, State.reqClosed_linkTheta, hhearth] at hs
    refine ⟨_, run_next s (·.respIn p b a) hh, ?_, ?_, ?_, ?_⟩ <;> rw [hs, State.reselectAlt]
    · rw [State.obj_setObj_other _ (by decide) (by omega) (by decide), State.obj_setObjI_other _ (by decide) (by omega) (by omega),
        State.obj_setObjI_other _ (by decide) (by omega) (by omega), State.obj_setObjI_i64 _ _ _ rfl]
    · rw [State.obj_setObj_other _ (by decide) (by omega) (by decide), State.obj_setObjI_other _ (by decide) (by omega) (by omega),
        State.obj_setObjI_i64 _ _ _ rfl]
      rfl
    · rw [State.setObj_port, State.setObjI_port, State.setObjI_port, State.setObjI_port, State.modPort_port, if_pos rfl, hport]
      rfl
    · exact State.only_setObj _ (State.only_setObj _ (State.only_setObj _ (State.only_setObj _ (State.only_modPort _ _
        (State.only_mono (s.reqClosed_only p a) (by simp) (by simp)) (by simp)) (by simp)) (by simp)) (by simp)) (by simp)
  -- ROUTE_HOLD expires: SPLIT, WAIT and FORWARD.
  · intro s p hh hst hpol
    have hs : s.holdExpire p = s.settleRoute p := by
      unfold State.holdExpire
      rw [if_neg (not_not_intro hst), hpol]
      rfl
    have ho : (s.holdExpire p).only s [.ports] [keyOf O.PORT_ROUTE_STATE (p + 1)] :=
      hs ▸ State.only_settleRoute (State.only_refl _ _ _) (by simp) (by simp)
    refine ⟨_, runKeep_of_only hh ho (by decide), ?_, ?_, ?_, ho⟩ <;> rw [hs]
    · rw [State.settleRoute_routeState]
    · rw [State.settleRoute_port, if_pos rfl]
    · intro q hq
      rw [State.settleRoute_port, if_neg hq]
  · intro s p hh hst hpol
    have hs : s.holdExpire p = s.setObj O.PORT_ROUTE_STATE 4 (p + 1) := by
      unfold State.holdExpire
      rw [if_neg (not_not_intro hst), hpol]
      rfl
    have ho : (s.holdExpire p).only s [] [keyOf O.PORT_ROUTE_STATE (p + 1)] :=
      hs ▸ State.only_setObj _ (State.only_refl _ _ _) (by simp)
    refine ⟨_, runKeep_of_only hh ho (by decide), ?_, ho⟩
    rw [hs, State.routeState_setObj _ (by decide)]
  · intro s p hh hst hpol
    have hs : s.holdExpire p = s.applyForward p := by
      unfold State.holdExpire
      rw [if_neg (not_not_intro hst)]
      split
      next h => omega
      next h => omega
      next => rfl
    have ho : (s.holdExpire p).only s [.ports] [keyOf O.PORT_ROUTE_STATE (p + 1), keyOf O.PORT_ASYM_ROUTE (p + 1)] :=
      hs ▸ s.applyForward_only p
    refine ⟨_, runKeep_of_only hh ho (by decide), ?_, ?_, ?_, ho⟩ <;> rw [hs]
    · rw [State.applyForward_routeState]
    · rw [State.applyForward_port, if_pos rfl]
    · exact State.applyForward_asymRoute p.isLt
  · intro s p hh hst
    exact runKeep_same (g := (·.holdExpire p)) hh (if_pos hst)
  -- APPLY_SPLIT, APPLY_FORWARD and RESUME, taken and refused.
  · intro s p hh hst
    exact runKeep_settles (f := (·.cmdSplit p)) hh p.isLt (if_pos hst)
  · intro s p hh hst
    have hs : s.cmdForward p = (s.applyForward p).routeStatus p 2 2 := if_pos hst
    have ho : (s.cmdForward p).only s [.ports] [keyOf O.PORT_ROUTE_STATE (p + 1), keyOf O.PORT_ROUTE_STATUS (p + 1),
        keyOf O.PORT_ASYM_ROUTE (p + 1)] :=
      hs ▸ State.only_routeStatus _ _ (State.only_mono (s.applyForward_only p) (by simp) (by simp)) (by simp)
    refine ⟨_, runKeep_of_only hh ho (by decide), ?_, ?_, ?_, ?_, ho⟩ <;> rw [hs]
    · rw [State.routeStatus_routeState p.isLt, State.applyForward_routeState]
    · rw [State.routeStatus_status (by decide)]
    · rw [State.routeStatus_port, State.applyForward_port, if_pos rfl]
    · rw [State.routeStatus_obj p.isLt (by omega) (by decide), State.applyForward_asymRoute p.isLt]
      rfl
  · intro s p hh hst
    exact runKeep_settles (f := (·.cmdResume p)) hh p.isLt (if_pos hst)
  · intro s p hh h3 h4
    have hno : ¬ (s.routeState p = 3 ∨ s.routeState p = 4) := fun h => h.elim h3 h4
    exact ⟨runKeep_routeRefused (f := (·.cmdSplit p)) hh (if_neg hno), runKeep_routeRefused (f := (·.cmdForward p)) hh (if_neg hno),
      runKeep_routeRefused (f := (·.cmdResume p)) hh (if_neg h4)⟩
  -- ABORT of ranging: in time, with nothing to abort, and too late.
  · intro s p c hh hc hst
    have hs : s.cmdRouteAbort p c = (s.setObj O.PORT_ROUTE_STATE 3 (p + 1)).routeStatus p 4 3 := by
      unfold State.cmdRouteAbort
      rw [if_neg (fun h => hc.elim (fun h0 => absurd (h0.symm.trans h.1) (by decide)) fun h1 => h1 h.2), if_pos hst]
    have ho : (s.cmdRouteAbort p c).only s [] [keyOf O.PORT_ROUTE_STATE (p + 1), keyOf O.PORT_ROUTE_STATUS (p + 1)] :=
      hs ▸ State.only_routeStatus _ _ (State.only_setObj _ (State.only_refl _ _ _) (by simp)) (by simp)
    refine ⟨_, runKeep_of_only hh ho (by decide), ?_, ?_, ho⟩ <;> rw [hs]
    · rw [State.routeStatus_routeState p.isLt, State.routeState_setObj _ (by decide)]
    · rw [State.routeStatus_status (by decide)]
  · intro s p c hh hc hst
    refine runKeep_routeRefused (f := (·.cmdRouteAbort p c)) (cmd := 4) hh ?_
    unfold State.cmdRouteAbort
    rw [if_neg (fun h => hc.elim (fun h0 => absurd (h0.symm.trans h.1) (by decide)) fun h1 => h1 h.2), if_neg hst]
  · intro s p hh hr
    have hs : s.cmdRouteAbort p true = s.abortLate O.PORT_ROUTE_STATUS (p + 1) 4 O.PORT_TIME_FLAGS 5 (p + 1) := if_pos ⟨rfl, hr⟩
    have ho : (s.cmdRouteAbort p true).only s flagParts (keyOf O.PORT_ROUTE_STATUS (p + 1) :: flagKeys O.PORT_TIME_FLAGS (p + 1)) :=
      hs ▸ State.only_abortLate _ _ (State.only_refl _ _ _) (by simp) (fun _ h => h) (fun _ h => List.mem_cons_of_mem _ h)
    have hstatus := State.setStatus_fields s O.PORT_ROUTE_STATUS (p + 1) 0 true 4 2 (by decide)
    have hkey : O.PORT_ROUTE_STATUS.key (p + 1) ∉ flagKeys O.PORT_TIME_FLAGS (p + 1) :=
      Obj.key_notMem_flagKeys (by omega) (by omega) (by decide) (by decide)
    have hkeep : (s.cmdRouteAbort p true).obj O.PORT_ROUTE_STATUS (p + 1) =
        (s.setStatus O.PORT_ROUTE_STATUS (p + 1) 0 true 4 2).obj O.PORT_ROUTE_STATUS (p + 1) := by
      rw [hs, State.abortLate, State.raise_obj _ _ _ _ hkey]
      rfl
    refine ⟨_, runKeep_of_only hh ho (by decide), ?_, ?_, ?_, ?_, ho⟩
    · exact State.only_obj ho fun h => (List.mem_cons.mp h).elim (Obj.key_ne (by decide) (by omega) (by omega))
        (Obj.key_notMem_flagKeys (by omega) (by omega) (by decide) (by decide))
    · rw [State.status, hkeep]
      exact hstatus.1
    · rw [hkeep]
      exact hstatus.2.2.1
    · rw [hs, State.abortLate, State.raise_obj_same _ _ _ _ (Obj.key_notMem_wakeKeys (by omega) (by decide)),
        State.lateStatus_obj_ne _ _ _ _ (Obj.key_ne (by decide) (by omega) (by omega))]
      rfl
  -- A second of DGD: taken, and without what ranging needs.
  · intro s p r hh hst hmode hn h0 h1 hr
    have hs : s.dgdAverage p r = s.dgdTaken p r := State.dgdAverage_normal p.isLt hst hmode hn h0 h1 hr
    have ho : (s.dgdAverage p r).only s [.ports, .lanes] [keyOf O.PORT_DGD (p + 1)] := hs ▸ s.dgdTaken_only p r
    refine ⟨_, runKeep_of_only hh ho (by decide), ?_, ?_, ho⟩ <;> rw [hs, State.dgdTaken]
    · rw [State.setObjI_port, State.modPort_port, if_pos rfl, State.samplesOf_port (State.dgdRun_samplesOf _ _ r s)]
      rfl
    · rw [State.obj_setObjI_i64 _ _ _ rfl]
      rfl
  · intro s p r hh hst he hmode
    have hs : s.dgdAverage p r = (s.rangeNoted p).rangeFail p 2 := State.dgdAverage_fails hst he hmode
    have ho : (s.dgdAverage p r).only s (.ports :: flagParts) (keyOf O.PORT_ROUTE_STATE (p + 1) :: keyOf O.PORT_ROUTE_STATUS (p + 1) ::
        flagKeys O.PORT_TIME_FLAGS (p + 1)) :=
      hs ▸ State.only_rangeFail 2 (State.only_modPort _ _ (State.only_refl _ _ _) (by simp)) (fun _ h => List.mem_cons_of_mem _ h)
        (by simp) (by simp) (fun _ h => List.mem_cons_of_mem _ (List.mem_cons_of_mem _ h))
    refine ⟨_, runKeep_of_only hh ho (by decide), ?_, ?_, ?_, ?_, ho⟩ <;> rw [hs]
    · rw [State.rangeFail_eq, State.routeState_setObj _ (by decide)]
    · exact State.rangeFail_reason p.isLt (by decide)
    · rw [State.rangeFail_flag p.isLt, State.rangeNoted, State.modPort_obj]
    · rw [State.rangeFail_port, State.rangeNoted, State.modPort_port, if_pos rfl]
  -- The writes.
  · intro s p v hh
    exact runKeep_writeIf (f := fun s => if v.toInt.natAbs ≤ 1000000 then s.setObj O.PORT_ASYM_CAL v.toNat (p + 1) else s) hh rfl v.isLt
  · intro s p v hh
    simp only [← State.asymRouteOk_iff]
    exact runKeep_writeIf (f := fun s => if s.asymRouteOk p then s.setObj O.PORT_ASYM_ROUTE v.toNat (p + 1) else s) hh rfl v.isLt
  · intro s p v hh
    simp only [← State.rangeModeOk_iff]
    exact runKeep_writeIf (f := fun s => if s.rangeModeOk p v.toNat then s.setObj O.PORT_RANGE_MODE v.toNat (p + 1) else s) hh rfl v.isLt
end

section
/-! PROOF. Tests of lanes, locks of Ethernet ports and the modes of groups (R108, R109, R112, R113, R117, R118, R136 to R139, R150, R517), and
O15 from them. -/

namespace Sys2Proof.Machine

variable {s t : State}

/-! Objects outside a frame, by their indices. -/

theorem Obj.key_div_mem {o : Obj} {sub : Nat} {is : List Nat} (hs : sub < 256) (ho : o.index ∈ is) : o.key sub / 256 ∈ is :=
  (o.key_div hs).symm ▸ ho

/-- An object outside a frame, by the indices that the frame's keys have. -/
theorem State.only_obj_index {l : List Part} {ks : List Nat} (h : t.only s l ks) {o : Obj} {j : Nat} {is : List Nat}
    (hk : ∀ k ∈ ks, k / 256 ∈ is) (ho : o.index ∉ is) (hj : j < 256) : t.obj o j = s.obj o j :=
  State.only_obj h fun hm => ho (o.key_div hj ▸ hk _ hm)

/-- The indices of the objects that raising a flag may touch beside its own. -/
def wakeIndices : List Nat := [O.LT_LOST.index, O.OBS_FLAGS.index, O.ENG_STATE.index, O.ENG_SLOT_IDLE.index]

theorem index_of_mem_flagKeys {o : Obj} {sub : Nat} (hs : sub < 256) : ∀ k ∈ flagKeys o sub, k / 256 ∈ o.index :: wakeIndices := by
  intro k hk
  rcases List.mem_cons.mp hk with rfl | hk
  · exact Obj.key_div_mem hs List.mem_cons_self
  · exact List.mem_cons_of_mem _ (index_of_mem_wakeKeys k hk)

/-! A lane goes into its test, and out of it (R136 to R139). The FIFO half full and [6] alone as a test pattern are log entries 50 and 56. -/

/-- A lane of a port that is not in service goes into its test at once. -/
theorem State.leaveService_test {n : Nat} (h : (s.lport (s.portOf n)).up = false) : s.leaveService n 2 = s.startTest n := by
  simp [State.leaveService, h]

/-- A test that has been selected begins on a lane that is neither under test nor about to be. -/
theorem State.testChanged_begins {n : Nat} (hw : s.testWanted n = true) (ht : (s.lane n).test = false) (hl : (s.lane n).leave ≠ 2)
    (hup : (s.lport (s.portOf n)).up = false) : s.testChanged n = s.startTest n := by
  simp [State.testChanged, hw, ht, hl, State.leaveService_test hup]

/-- The last test taken away from a lane under test lets it train. -/
theorem State.testChanged_ends {n : Nat} (hw : s.testWanted n = false) (ht : (s.lane n).test = true) : s.testChanged n =
    ((s.modLane n fun l => { l with test := false, leave := 0 }).startTraining n).emit (s.testSource n) := by
  simp [State.testChanged, hw, ht]

theorem State.startTest_only (s : State) (n : Nat) : (s.startTest n).only s [.lanes, .out] [keyOf O.LINK_STATE (n + 1)] :=
  State.only_emit _ (State.only_modLane _ _ (State.only_setObj _ (State.only_refl _ _ _) (by simp)) (by simp)) (by simp)

theorem State.startTest_lane (n m : Nat) : (s.startTest n).lane m = if m = n then
    { s.lane n with leave := 0, test := true, deskIn := none, fill := 64, seen := 0, seenN := 0 } else s.lane m := by
  simp [State.startTest]

theorem State.startTest_linkState (n : Nat) : (s.startTest n).linkState n = 0 := State.setLinkState_same 0 n

/-- What the transmitter sends from now on is recorded. -/
theorem State.startTest_out (n : Nat) : (s.startTest n).out = (s.startTest n).testSource n :: s.out := rfl

/-- An object of lane `n` written, and the lane changed with it. -/
def State.laneWritten (s : State) (o : Obj) (v n : Nat) (f : Lane → Lane) : State := (s.setObj o v (n + 1)).modLane n f

theorem State.laneWritten_lane (o : Obj) (v n m : Nat) (f : Lane → Lane) :
    (s.laneWritten o v n f).lane m = if m = n then f (s.lane n) else s.lane m := by
  simp [State.laneWritten]

theorem State.laneWritten_only (s : State) (o : Obj) (v n : Nat) (f : Lane → Lane) :
    (s.laneWritten o v n f).only s [.lanes] [keyOf o (n + 1)] :=
  State.only_modLane _ _ (State.only_setObj _ (State.only_refl _ _ _) (by simp)) (by simp)

theorem State.laneWritten_same (o : Obj) (v n : Nat) (f : Lane → Lane) :
    (s.laneWritten o v n f).obj o (n + 1) = v % 2 ^ (8 * o.ty.bytes) := State.obj_setObj_same _ _ _ _

theorem State.laneWritten_obj {o o' : Obj} {n j : Nat} (v : Nat) (f : Lane → Lane) (ho : o'.index ≠ o.index) (hj : j < 256) (hn : n < 48) :
    (s.laneWritten o v n f).obj o' j = s.obj o' j := State.obj_setObj_other v ho hj (by omega)

/-- A write that selects a test on a lane whose port is not in service. -/
theorem State.laneWritten_begins {o : Obj} {v n : Nat} {f : Lane → Lane} (hn : n < 48) (ho : O.PORT_WIDTH.index ≠ o.index)
    (hw : (s.laneWritten o v n f).testWanted n = true) (ht : (f (s.lane n)).test = false) (hl : (f (s.lane n)).leave ≠ 2)
    (hup : (s.lport (s.portOf n)).up = false) : (s.laneWritten o v n f).testChanged n = (s.laneWritten o v n f).startTest n := by
  have hport : (s.laneWritten o v n f).portOf n = s.portOf n :=
    State.portOf_of_width (fun k hk => State.laneWritten_obj v f ho (by omega) hn) hn
  refine State.testChanged_begins hw ?_ ?_ ?_
  · rw [State.laneWritten_lane, if_pos rfl]
    exact ht
  · rw [State.laneWritten_lane, if_pos rfl]
    exact hl
  · rw [hport]
    exact hup

/-- A command that writes an object of a lane and puts the lane into its test (R137). -/
theorem runKeep_testBegins {g : State → State} {o : Obj} {v : Nat} {f : Lane → Lane} (n : Fin 48) (h : s.held = false)
    (hg : g s = (s.laneWritten o v n f).startTest n) (ho : o.index ≠ O.LINK_STATE.index) (hv : v < 2 ^ (8 * o.ty.bytes)) :
    ∃ t, runKeep s g = .next t ∧ t.obj o (n + 1) = v ∧ t.linkState n = 0 ∧
      t.lane n = { f (s.lane n) with leave := 0, test := true, deskIn := none, fill := 64, seen := 0, seenN := 0 } ∧
      (∀ k, k ≠ n.val → t.lane k = s.lane k) ∧ t.out = t.testSource n :: s.out ∧
      t.only s [.lanes, .out] [keyOf o (n + 1), keyOf O.LINK_STATE (n + 1)] := by
  have ho' : (g s).only s [.lanes, .out] [keyOf o (n + 1), keyOf O.LINK_STATE (n + 1)] :=
    hg ▸ State.only_trans (State.only_mono (State.startTest_only _ n) (by simp) (by simp))
      (State.only_mono (s.laneWritten_only o v n f) (by simp) (by simp))
  refine ⟨_, runKeep_of_only h ho' (by simp), ?_, ?_, ?_, fun k hk => ?_, ?_, ho'⟩ <;> rw [hg]
  · have hkey : o.key (n + 1) ≠ O.LINK_STATE.key (n + 1) := Obj.key_ne ho (by omega) (by omega)
    rw [State.only_obj (State.startTest_only _ n) (by simpa using hkey), State.laneWritten_same, Nat.mod_eq_of_lt hv]
  · exact State.startTest_linkState n
  · rw [State.startTest_lane, if_pos rfl, State.laneWritten_lane, if_pos rfl]
  · rw [State.startTest_lane, if_neg hk, State.laneWritten_lane, if_neg hk]
  · exact State.startTest_out n

theorem State.writeLoop_eq {n v : Nat} (hv : v ≤ 3) :
    s.writeLoop n v = (s.laneWritten O.LANE_LOOP v n fun l => { l with fill := 64 }).testChanged n := if_neg (Nat.not_lt.mpr hv)

theorem State.writePrbs_eq {n v : Nat} (hv : s.prbsOk n v = true) :
    s.writePrbs n v = (s.laneWritten O.LANE_PRBS v n fun l => { l with seen := 0, seenN := 0 }).testChanged n := if_neg (by simp [hv])

/-- LANE_LOOP other than 0 selects a test (R137). -/
theorem State.testWanted_loop {n : Nat} (h : s.obj O.LANE_LOOP (n + 1) ≠ 0) : s.testWanted n = true := by
  simp [State.testWanted, h]

/-- LANE_PRBS with one of its enables selects a test (R137, R139; log entry 56). -/
theorem State.testWanted_prbs {n : Nat} (h : 64 ≤ s.obj O.LANE_PRBS (n + 1)) : s.testWanted n = true := by
  simp [State.testWanted, h]

theorem State.testWanted_none {n : Nat} (h0 : s.obj O.LANE_LOOP (n + 1) = 0) (h64 : s.obj O.LANE_PRBS (n + 1) < 64) :
    s.testWanted n = false := by
  simp [State.testWanted, h0, h64]

/-- A lane whose loopback has been taken away. -/
def State.unlooped (s : State) (n : Nat) : State := s.laneWritten O.LANE_LOOP 0 n fun l => { l with fill := 64 }

/-- The same lane out of its test, before it trains. -/
def State.untested (s : State) (n : Nat) : State := (s.unlooped n).modLane n fun l => { l with test := false, leave := 0 }

theorem State.untested_only (s : State) (n : Nat) : (s.untested n).only s [.lanes] [keyOf O.LANE_LOOP (n + 1)] :=
  State.only_modLane _ _ (s.laneWritten_only _ _ _ _) (by simp)

theorem State.untested_loop (n : Nat) : (s.untested n).obj O.LANE_LOOP (n + 1) = 0 := by
  rw [State.untested, State.modLane_obj, State.unlooped, State.laneWritten_same, Nat.zero_mod]

theorem State.untested_obj {o : Obj} {n j : Nat} (ho : o.index ≠ O.LANE_LOOP.index) (hj : j < 256) (hn : n < 48) :
    (s.untested n).obj o j = s.obj o j := by
  rw [State.untested, State.modLane_obj, State.unlooped, State.laneWritten_obj _ _ ho hj hn]

/-- LANE_LOOP 0 on a lane under test without a pattern: it trains. -/
theorem State.writeLoop_ends {n : Nat} (hn : n < 48) (hp : s.obj O.LANE_PRBS (n + 1) < 64) (ht : (s.lane n).test = true) :
    s.writeLoop n 0 = ((s.untested n).startTraining n).emit ((s.unlooped n).testSource n) := by
  rw [State.writeLoop_eq (Nat.zero_le 3)]
  refine State.testChanged_ends (State.testWanted_none (State.laneWritten_same _ _ _ _) ?_) ?_
  · rw [State.laneWritten_obj _ _ (by decide) (by omega) hn]
    exact hp
  · rw [State.laneWritten_lane, if_pos rfl]
    exact ht

/-! An Ethernet port of one lane locks (R117, R118, R127, R150, R151). -/

/-- The keys of a lane that locks. -/
def lockKeys (n : Nat) : List Nat :=
  O.LANE_RX_ALIGN.key (n + 1) :: O.LINK_STATE.key (n + 1) :: O.LINK_CMD_STATUS.key (n + 1) :: flagKeys O.LANE_FLAGS (n + 1)

/-- The indices of the objects of a lane that locks. -/
def lockIndices : List Nat :=
  O.LANE_RX_ALIGN.index :: O.LINK_STATE.index :: O.LINK_CMD_STATUS.index :: O.LANE_FLAGS.index :: wakeIndices

theorem index_of_mem_lockKeys {n : Nat} (hn : n < 48) : ∀ k ∈ lockKeys n, k / 256 ∈ lockIndices := by
  intro k hk
  simp only [lockKeys, List.mem_cons] at hk
  rcases hk with rfl | rfl | rfl | hk
  · exact Obj.key_div_mem (by omega) (by decide)
  · exact Obj.key_div_mem (by omega) (by decide)
  · exact Obj.key_div_mem (by omega) (by decide)
  · exact List.mem_cons_of_mem _ (List.mem_cons_of_mem _ (List.mem_cons_of_mem _ (index_of_mem_flagKeys (by omega) k hk)))

/-- A waiting analogue figure is taken over (R151). -/
def Lane.anaTaken (l : Lane) : Lane :=
  match l.anaNext with
  | some a => { l with anaTx := a.1, anaRx := a.2, anaNext := none }
  | none => l

theorem Lane.anaTaken_eq (l : Lane) : l.anaTaken.eq = l.eq ∧ l.anaTaken.trained = l.trained := by
  unfold Lane.anaTaken
  split <;> exact ⟨rfl, rfl⟩

/-- A lane that locks takes its alignment and a waiting analogue figure. -/
def State.alignTaken (s : State) (n a : Nat) : State := (s.setObj O.LANE_RX_ALIGN a (n + 1)).modLane n (·.anaTaken)

/-- A lane that locks enters RX_READY where it had not yet (R118). -/
def State.readyTaken (s : State) (n : Nat) (eq : List Int) : State :=
  if s.linkState n = 6 ∨ s.linkState n = 2 then s else s.enterReady n eq

/-- A RETRAIN that is BUSY is DONE (R103). -/
def State.retrainDone (s : State) (n : Nat) : State :=
  if s.status O.LINK_CMD_STATUS (n + 1) = 1 then s.endStatus O.LINK_CMD_STATUS (n + 1) 2 else s

theorem State.ethLane_eq (n a : Nat) (eq : List Int) :
    s.ethLane n a eq = (((s.alignTaken n a).readyTaken n eq).setObj O.LINK_STATE 9 (n + 1)).retrainDone n := rfl

theorem State.enterReady_only (s : State) (n : Nat) (eq : List Int) :
    (s.enterReady n eq).only s (.lanes :: flagParts) (flagKeys O.LANE_FLAGS (n + 1)) := by
  have ready (f : Lane → Lane) : (s.modLane n f).only s (.lanes :: flagParts) (flagKeys O.LANE_FLAGS (n + 1)) :=
    State.only_modLane _ _ (State.only_refl _ _ _) (by decide)
  unfold State.enterReady
  dsimp only
  split
  · exact State.only_raise _ _ (ready _) (by decide) (fun _ h => h)
  · exact ready _

/-- The values found become the trained values (R127). -/
theorem State.enterReady_lane (n : Nat) (eq : List Int) : (s.enterReady n eq).lane n =
    { s.lane n with eq := s.eqCodes n eq, trained := s.eqCodes n eq, mode := s.obj O.ADAPT_MODE (n + 1) } := by
  unfold State.enterReady
  dsimp only
  split <;> simp

theorem State.readyTaken_only (s : State) (n : Nat) (eq : List Int) :
    (s.readyTaken n eq).only s (.lanes :: flagParts) (flagKeys O.LANE_FLAGS (n + 1)) := by
  unfold State.readyTaken
  split
  · exact State.only_refl _ _ _
  · exact s.enterReady_only n eq

theorem State.readyTaken_codes (n : Nat) (eq : List Int) : (((s.readyTaken n eq).lane n).eq, ((s.readyTaken n eq).lane n).trained) =
    if s.linkState n = 6 ∨ s.linkState n = 2 then ((s.lane n).eq, (s.lane n).trained) else (s.eqCodes n eq, s.eqCodes n eq) := by
  unfold State.readyTaken
  split
  · rfl
  · rw [State.enterReady_lane]

theorem State.retrainDone_only (s : State) (n : Nat) : (s.retrainDone n).only s [] [O.LINK_CMD_STATUS.key (n + 1)] := by
  unfold State.retrainDone
  split
  · exact State.only_endStatus _ _ (State.only_refl _ _ _) (by simp)
  · exact State.only_refl _ _ _

theorem State.retrainDone_lanes (n : Nat) : (s.retrainDone n).lanes = s.lanes := (s.retrainDone_only n).1 .lanes (by simp)

theorem State.retrainDone_obj {o : Obj} {j n : Nat} (ho : o.index ≠ O.LINK_CMD_STATUS.index) (hj : j < 256) (hn : n < 48) :
    (s.retrainDone n).obj o j = s.obj o j :=
  State.only_obj (s.retrainDone_only n) (by simpa using Obj.key_ne ho hj (by omega))

theorem State.alignTaken_only (s : State) (n a : Nat) : (s.alignTaken n a).only s [.lanes] [O.LANE_RX_ALIGN.key (n + 1)] :=
  State.only_modLane _ _ (State.only_setObj _ (State.only_refl _ _ _) (by simp)) (by simp)

theorem State.ethLane_only (s : State) (n a : Nat) (eq : List Int) : (s.ethLane n a eq).only s (.lanes :: flagParts) (lockKeys n) := by
  have aligned : (s.alignTaken n a).only s (.lanes :: flagParts) (lockKeys n) :=
    State.only_mono (s.alignTaken_only n a) (by simp) (by simp [lockKeys])
  have ready : ((s.alignTaken n a).readyTaken n eq).only s (.lanes :: flagParts) (lockKeys n) :=
    State.only_trans (State.only_mono (State.readyTaken_only _ n eq) (fun _ h => h) (by simp +contextual [lockKeys])) aligned
  rw [State.ethLane_eq]
  exact State.only_trans (State.only_mono (State.retrainDone_only _ n) (by simp) (by simp [lockKeys]))
    (State.only_setObj _ ready (by simp [lockKeys]))

theorem State.ethLane_obj {o : Obj} {j n : Nat} (a : Nat) (eq : List Int) (ho : o.index ∉ lockIndices) (hj : j < 256) (hn : n < 48) :
    (s.ethLane n a eq).obj o j = s.obj o j :=
  State.only_obj_index (s.ethLane_only n a eq) (index_of_mem_lockKeys hn) ho hj

theorem State.ethLane_groups (n a : Nat) (eq : List Int) : (s.ethLane n a eq).groups = s.groups :=
  (s.ethLane_only n a eq).1 .groups (by decide)

theorem State.ethLane_linkState {n : Nat} (a : Nat) (eq : List Int) (hn : n < 48) : (s.ethLane n a eq).linkState n = 9 := by
  rw [State.ethLane_eq, State.linkState, State.retrainDone_obj (by decide) (by omega) hn]
  exact State.setLinkState_same 9 n

theorem State.ethLane_align {n a : Nat} (eq : List Int) (hn : n < 48) (ha : a < 2 ^ 16) :
    (s.ethLane n a eq).obj O.LANE_RX_ALIGN (n + 1) = a := by
  rw [State.ethLane_eq, State.retrainDone_obj (by decide) (by omega) hn, State.obj_setObj_other _ (by decide) (by omega) (by omega),
    State.only_obj_index (State.readyTaken_only _ n eq) (index_of_mem_flagKeys (by omega)) (by decide) (by omega), State.alignTaken,
    State.modLane_obj, State.obj_setObj_same]
  exact Nat.mod_eq_of_lt ha

/-- A receiver that had not entered RX_READY takes the codes that it has found; one that had keeps its own. -/
theorem State.ethLane_codes {n : Nat} (a : Nat) (eq : List Int) (hn : n < 48) :
    (((s.ethLane n a eq).lane n).eq, ((s.ethLane n a eq).lane n).trained) =
      if s.linkState n = 6 ∨ s.linkState n = 2 then ((s.lane n).eq, (s.lane n).trained) else (s.eqCodes n eq, s.eqCodes n eq) := by
  have hlane : (s.ethLane n a eq).lane n = ((s.alignTaken n a).readyTaken n eq).lane n := by
    rw [State.ethLane_eq, State.lane, State.retrainDone_lanes]
    rfl
  have hstate : (s.alignTaken n a).linkState n = s.linkState n := State.setObj_linkState a (by decide) (by omega) (by omega)
  have htaken : (s.alignTaken n a).lane n = (s.lane n).anaTaken := by simp [State.alignTaken]
  obtain ⟨heq, htr⟩ := (s.lane n).anaTaken_eq
  rw [hlane, State.readyTaken_codes, hstate, htaken, heq, htr]
  rfl

theorem State.setEthLat_eq (p d : Nat) : ∃ rx, s.setEthLat p d = (s.setObj O.LINK_TX_LAT (ethUnits (s.groupRate (groupOf p))
    (2 * (ethLatency (s.group (groupOf p)).mode (s.width p) (s.portFec p)).1) (s.lane p).anaTx) (p + 1)).setObj O.LINK_RX_LAT rx (p + 1) :=
  ⟨_, rfl⟩

theorem State.setEthLat_only (s : State) (p d : Nat) :
    (s.setEthLat p d).only s [] [O.LINK_TX_LAT.key (p + 1), O.LINK_RX_LAT.key (p + 1)] := by
  obtain ⟨rx, h⟩ := s.setEthLat_eq p d
  exact h ▸ State.only_setObj _ (State.only_setObj _ (State.only_refl _ _ _) (by simp)) (by simp)

theorem State.setEthLat_obj {o : Obj} {j p : Nat} (d : Nat) (htx : o.index ≠ O.LINK_TX_LAT.index) (hrx : o.index ≠ O.LINK_RX_LAT.index)
    (hj : j < 256) (hp : p < 48) : (s.setEthLat p d).obj o j = s.obj o j :=
  State.only_obj (s.setEthLat_only p d) (by
    simp only [List.mem_cons, List.not_mem_nil, or_false, not_or]
    exact ⟨Obj.key_ne htx hj (by omega), Obj.key_ne hrx hj (by omega)⟩)

theorem State.setEthLat_tx {p : Nat} (d : Nat) (hp : p < 48) : (s.setEthLat p d).obj O.LINK_TX_LAT (p + 1) =
    ethUnits (s.groupRate (groupOf p)) (2 * (ethLatency (s.group (groupOf p)).mode (s.width p) (s.portFec p)).1) (s.lane p).anaTx % 2 ^ 64 := by
  obtain ⟨rx, h⟩ := s.setEthLat_eq p d
  rw [h, State.obj_setObj_other _ (by decide) (by omega) (by omega), State.obj_setObj_same]
  rfl

/-- The rate of a group that stands as before. -/
theorem State.groupRate_of_only {l : List Part} {ks : List Nat} (h : t.only s l ks) (hg : .groups ∉ l) (hc : .clk ∉ l) (g : Nat) :
    t.groupRate g = s.groupRate g := by
  rw [State.groupRate, State.groupRate, State.group, State.f0, h.1 .groups hg, h.1 .clk hc]
  rfl

/-- The FEC in force on a port, through a lock. -/
theorem State.ethLane_portFec {n p : Nat} (a : Nat) (eq : List Int) (hn : n < 48) (hp : p < 48) :
    (s.ethLane n a eq).portFec p = s.portFec p := by
  have hgroup : groupOf p < 8 := by unfold groupOf; omega
  rw [State.portFec, State.portFec, State.group, State.width, State.ethLane_groups, State.ethLane_obj a eq (by decide) (by omega) hn,
    State.ethLane_obj a eq (by decide) (by omega) hn, State.ethLane_obj a eq (by decide) (by omega) hn]
  rfl

/-- The lane of a one-lane port locks with it. -/
def State.soleLocked (s : State) (p : Nat) (al : List (BitVec 16)) (eq : List (List Int)) : State :=
  s.ethLane p (al.getD 0 0).toNat (eq.getD 0 [])

/-- A one-lane port comes up. -/
def State.soleUp (s : State) (p d : Nat) : State :=
  (((s.setEthLat p d).setObj O.PORT_ACTIVE 17 (p + 1)).modLPort p fun l => { l with up := true }).settle (groupOf p)

/-- A one-lane port in ETH_25G whose lane may lock comes up with it. -/
theorem State.portLock_sole {p : Nat} {al : List (BitVec 16)} (d : Nat) (eq : List (List Int)) (hp : p < 48) (hup : (s.lport p).up = false)
    (hport : s.portOf p = p) (hw : s.width p = 1) (hm : (s.group (groupOf p)).mode = 2) (hmay : s.mayLock p = true)
    (hal : al.all (alignOk 2) = true) : s.portLock p al d eq = (s.soleLocked p al eq).soleUp p d := by
  have hlanes : s.portLanes p = [p] := by simp [State.portLanes, hw]
  have hw' : (s.ethLane p (al.getD 0 0).toNat (eq.getD 0 [])).width p = 1 :=
    (State.ethLane_obj _ _ (by decide) (by omega) hp).trans hw
  have hgo : ((s.lport p).up || s.portOf p != p || fecChoices 2 1 == [] || !List.all [p] s.mayLock || !al.all (alignOk 2)) = false := by
    simp [hup, hport, hmay, hal, fecChoices]
  have hone : forEach [p] (fun s n => s.ethLane n (al.getD (n - p) 0).toNat (eq.getD (n - p) [])) s =
      s.ethLane p (al.getD 0 0).toNat (eq.getD 0 []) := by
    simp [forEach]
  unfold State.portLock
  dsimp only
  rw [hm, hw, hlanes, hgo, if_neg Bool.false_ne_true, hone, hw', if_pos rfl, hw']
  rfl

theorem State.soleUp_only (s : State) (p d : Nat) : (s.soleUp p d).only s [.lports, .groups]
    [O.LINK_TX_LAT.key (p + 1), O.LINK_RX_LAT.key (p + 1), O.PORT_ACTIVE.key (p + 1)] := by
  unfold State.soleUp State.settle
  exact State.only_modGroup _ _ (State.only_modLPort _ _ (State.only_setObj _ (State.only_mono (s.setEthLat_only p d) (by simp) (by simp))
    (by simp)) (by simp)) (by simp)

theorem State.soleUp_active (p d : Nat) : (s.soleUp p d).obj O.PORT_ACTIVE (p + 1) = 17 :=
  State.obj_setObj_same (s.setEthLat p d) O.PORT_ACTIVE 17 (p + 1)

/-- An object that the port's latencies and its active sets are not. -/
theorem State.soleUp_obj {o : Obj} {j p : Nat} (d : Nat) (ho : o.index ∉ [O.LINK_TX_LAT.index, O.LINK_RX_LAT.index, O.PORT_ACTIVE.index])
    (hj : j < 256) (hp : p < 48) : (s.soleUp p d).obj o j = s.obj o j := by
  simp only [List.mem_cons, List.not_mem_nil, or_false, not_or] at ho
  obtain ⟨htx, hrx, hact⟩ := ho
  rw [State.soleUp, State.settle, State.modGroup_obj, State.modLPort_obj, State.obj_setObj_other _ hact hj (by omega),
    State.setEthLat_obj d htx hrx hj hp]

theorem State.soleUp_lane (p d m : Nat) : (s.soleUp p d).lane m = s.lane m := by
  rw [State.lane, (s.soleUp_only p d).1 .lanes (by simp)]
  rfl

theorem State.soleUp_up (p d : Nat) : ((s.soleUp p d).lport p).up = true := by
  simp [State.soleUp, State.settle]

theorem State.soleUp_settled (p d : Nat) : ((s.soleUp p d).group (groupOf p)).settled = true := by
  simp [State.soleUp, State.settle]

theorem State.soleUp_tx {p : Nat} (d : Nat) (hp : p < 48) : (s.soleUp p d).obj O.LINK_TX_LAT (p + 1) =
    ethUnits (s.groupRate (groupOf p)) (2 * (ethLatency (s.group (groupOf p)).mode (s.width p) (s.portFec p)).1) (s.lane p).anaTx % 2 ^ 64 := by
  rw [State.soleUp, State.settle, State.modGroup_obj, State.modLPort_obj, State.obj_setObj_other _ (by decide) (by omega) (by omega),
    State.setEthLat_tx d hp]

/-! A group is retuned (R108, R109, R112, R203). That a written NATIVE_TARGET takes effect here is log entry 57. -/

/-- Folding a change for the members of a list stays inside a frame, if each change does so wherever the frame has held so far. -/
theorem State.only_forEach_from {α : Type} {l : List Part} {ks : List Nat} {f : State → α → State} (xs : List α)
    (hf : ∀ u, u.only s l ks → ∀ x ∈ xs, (f u x).only u l ks) (h : t.only s l ks) : (forEach xs f t).only s l ks := by
  unfold forEach
  induction xs generalizing t with
  | nil => exact h
  | cons x xs ih =>
    exact ih (fun u hu y hy => hf u hu y (List.mem_cons_of_mem _ hy)) (State.only_trans (hf t h x List.mem_cons_self) h)

theorem mem_allOf {os : List Obj} {o : Obj} {sub : Nat} (ho : o ∈ os) (hs : sub < 256) : keyOf o sub ∈ allOf os :=
  List.mem_flatMap.mpr ⟨o, ho, List.mem_map_of_mem (List.mem_range.mpr hs)⟩

theorem index_of_mem_allOf {os : List Obj} : ∀ k ∈ allOf os, k / 256 ∈ os.map Obj.index := by
  intro k hk
  obtain ⟨o, ho, hk⟩ := List.mem_flatMap.mp hk
  obtain ⟨sub, hs, rfl⟩ := List.mem_map.mp hk
  exact Obj.key_div_mem (List.mem_range.mp hs) (List.mem_map_of_mem ho)

/-- The objects of ports and lanes that go down with their group. -/
def laneObjs : List Obj := [O.LINK_STATE, O.PORT_ACTIVE, O.PORT_TIMING_POS, O.DROP_DOWN, O.TX_TAPS]

/-- The objects that a group's lanes and ports may touch as they go down. -/
def groupDownKeys : List Nat := keyOf O.DRAIN_STATE :: (flagKeys O.CELLAR_FLAGS ++ allOf laneObjs)

/-- The indices of these objects. -/
def groupDownIndices : List Nat := O.DRAIN_STATE.index :: O.CELLAR_FLAGS.index :: wakeIndices ++ laneObjs.map Obj.index

theorem index_of_mem_groupDownKeys : ∀ k ∈ groupDownKeys, k / 256 ∈ groupDownIndices := by
  intro k hk
  simp only [groupDownKeys, List.mem_cons, List.mem_append] at hk
  rcases hk with rfl | hk | hk
  · exact Obj.key_div_mem (by decide) (by decide)
  · exact List.mem_cons_of_mem _ (List.mem_append_left _ (index_of_mem_flagKeys (by decide) k hk))
  · exact List.mem_cons_of_mem _ (List.mem_append_right (_ :: _) (index_of_mem_allOf k hk))

theorem mem_groupDownKeys {o : Obj} {sub : Nat} (ho : o ∈ laneObjs) (hs : sub < 256) : keyOf o sub ∈ groupDownKeys :=
  List.mem_cons_of_mem _ (List.mem_append_right _ (mem_allOf ho hs))

theorem mem_groupDownKeys_of_fence : ∀ k ∈ fenceKeys, k ∈ groupDownKeys := by
  intro k hk
  rcases List.mem_cons.mp hk with rfl | hk
  · exact List.mem_cons_self
  · exact List.mem_cons_of_mem _ (List.mem_append_left _ hk)

/-- The parts that a group's lanes and ports may touch as they go down. -/
def groupDownParts : List Part := .ports :: .lanes :: .cal :: cellarParts

theorem mem_downKeys_groupDown {p : Nat} (hp : p < 48) (hw : s.width p ≤ 4) : ∀ k ∈ s.downKeys p, k ∈ groupDownKeys := by
  intro k hk
  simp only [State.downKeys, State.activeKeys, List.cons_append, List.mem_cons, List.mem_append, List.mem_map] at hk
  rcases hk with rfl | rfl | rfl | ⟨m, hm, rfl⟩ | hk
  · exact mem_groupDownKeys (by simp [laneObjs]) (by omega)
  · exact mem_groupDownKeys (by simp [laneObjs]) (by omega)
  · exact mem_groupDownKeys (by simp [laneObjs]) (by omega)
  · obtain ⟨i, hi, rfl⟩ := List.mem_map.mp hm
    rw [List.mem_range] at hi
    exact mem_groupDownKeys (by simp [laneObjs]) (by omega)
  · exact mem_groupDownKeys_of_fence k hk

theorem lt_of_mem_groupLanes {g n : Nat} (hg : g < 8) (hn : n ∈ groupLanes g) : n < 48 := by
  simp only [groupLanes, List.mem_cons, List.not_mem_nil, or_false] at hn
  omega

/-- A port's width stands inside the frame of a group that goes down. -/
theorem State.width_of_groupDown {l : List Part} (h : t.only s l groupDownKeys) {p : Nat} (hp : p < 48) : t.width p = s.width p :=
  State.only_obj_index h index_of_mem_groupDownKeys (by decide) (by omega)

/-- The lanes and ports of a group go down within those parts and objects (R109). -/
theorem State.groupDown_only (s : State) {g : Nat} (hg : g < 8) (hw : ∀ p < 48, s.width p ≤ 4) :
    (s.groupDown g).only s groupDownParts groupDownKeys := by
  have portsDown : (forEach (groupLanes g) (fun s p => if (s.lport p).up then s.portDown p else s) s).only s groupDownParts groupDownKeys := by
    refine State.only_forEach_from _ (fun u hu p hp => ?_) (State.only_refl _ _ _)
    have hp48 := lt_of_mem_groupLanes hg hp
    split
    · exact State.only_mono (u.portDown_only hp48) (by decide)
        (mem_downKeys_groupDown hp48 ((State.width_of_groupDown hu hp48).trans_le (hw p hp48)))
    · exact State.only_refl _ _ _
  refine State.only_forEach_from _ (fun u _ n hn => ?_) portsDown
  have hn48 := lt_of_mem_groupLanes hg hn
  have hstate : keyOf O.LINK_STATE (n + 1) ∈ groupDownKeys := mem_groupDownKeys (by simp [laneObjs]) (by omega)
  split
  · exact State.only_setObj _ (State.only_refl _ _ _) hstate
  · exact State.only_startTraining n (State.only_refl _ _ _) (by decide) (by decide) hstate
      (mem_groupDownKeys (by simp [laneObjs]) (by omega))

/-- The keys of the TPLL of group `g`. -/
def tpllKeys (g : Nat) : List Nat := [keyOf O.PLL_STATE (g + 2), keyOf O.PLL_DIV (g + 2), keyOf O.PLL_VCO_KHZ (g + 2)]

theorem State.loadPlan_only (s : State) (g : Nat) (p : Plan) : (s.loadPlan (g + 1) p).only s [.plls, .clk, .cal] (tpllKeys g) :=
  State.only_setObj _ (State.only_modPll _ _ (State.only_setObj _ (State.only_calTrigger _ _ (State.only_refl _ _ _) (by simp))
    (by simp [tpllKeys])) (by simp)) (by simp [tpllKeys])

theorem State.wantFallback_only (s : State) (n : Nat) (v : Bool) : (s.wantFallback n v).only s [.plls, .clk, .cal] [] := by
  unfold State.wantFallback
  split
  · exact State.only_with_clk _ (State.only_refl _ _ _) (by simp)
  · exact State.only_refl _ _ _

/-- A TPLL feeds no clock output (R192). -/
theorem outputsOf_tpll {g : Nat} (hg : g < 8) : outputsOf (g + 1) = [] := if_neg (by omega)

theorem State.tryStep3_only (s : State) (g : Nat) : (s.tryStep3 (g + 1)).only s [.plls, .clk, .cal] (tpllKeys g) := by
  unfold State.tryStep3
  dsimp only
  split
  · exact s.loadPlan_only g _
  · exact State.only_refl _ _ _

/-- The frequency change of a TPLL touches the PLL, the islands' wishes and the plan of calibration (R202, R203, R463). -/
theorem State.startChange_only (s : State) {g : Nat} (hg : g < 8) (p : Plan) :
    (s.startChange (g + 1) p).only s [.plls, .clk, .cal] (tpllKeys g) := by
  have wanted : (s.wantFallback (g + 1) true).only s [.plls, .clk, .cal] (tpllKeys g) :=
    State.only_mono (s.wantFallback_only _ _) (fun _ h => h) (by simp)
  unfold State.startChange
  simp only [outputsOf_tpll hg, forEach, List.foldl_nil]
  split
  · exact State.only_trans (State.tryStep3_only _ g) (State.only_modPll _ _ wanted (by simp))
  · exact State.only_trans (State.loadPlan_only _ g p) wanted

theorem State.pllOff_only (s : State) (g : Nat) : (s.pllOff (g + 1)).only s [.plls, .clk, .cal] (tpllKeys g) :=
  State.only_modPll _ _ (State.only_setObj _ (State.only_setObj _ (State.only_refl _ _ _) (by simp [tpllKeys])) (by simp [tpllKeys])) (by simp)

/-- A group down, with its new mode and N, its Caravan phases idle where it leaves NATIVE, and its rate shown. -/
def State.regrouped (s : State) (g mode n : Nat) : State :=
  let s' := (s.groupDown g).modGroup g fun r => { r with mode := mode, n := n }
  let s' := if (s.group g).mode = 0 ∧ mode ≠ 0 then s'.modCaravan fun c => { c with idle := g :: c.idle.filter (· != g) } else s'
  s'.setObj O.GROUP_RATE_ACT (s'.groupRate g) (g + 1)

theorem State.retune_eq (g mode n : Nat) : s.retune g mode n = if mode = 0xFF then (s.regrouped g mode n).pllOff (g + 1)
    else (s.regrouped g mode n).startChange (g + 1) ((s.regrouped g mode n).planOf (g + 1)) := rfl

/-- The parts that the retuning of a group may touch. -/
def retuneParts : List Part := .caravan :: .groups :: .plls :: .clk :: groupDownParts

/-- The objects that the retuning of a group may touch. -/
def retuneKeys (g : Nat) : List Nat := keyOf O.GROUP_RATE_ACT (g + 1) :: tpllKeys g ++ groupDownKeys

/-- The indices of these objects. -/
def retuneIndices : List Nat :=
  O.GROUP_RATE_ACT.index :: [O.PLL_STATE.index, O.PLL_DIV.index, O.PLL_VCO_KHZ.index] ++ groupDownIndices

theorem index_of_mem_retuneKeys {g : Nat} (hg : g < 8) : ∀ k ∈ retuneKeys g, k / 256 ∈ retuneIndices := by
  intro k hk
  simp only [retuneKeys, tpllKeys, List.cons_append, List.nil_append, List.mem_cons] at hk
  rcases hk with rfl | rfl | rfl | rfl | hk
  · exact Obj.key_div_mem (by omega) (by decide)
  · exact Obj.key_div_mem (by omega) (by decide)
  · exact Obj.key_div_mem (by omega) (by decide)
  · exact Obj.key_div_mem (by omega) (by decide)
  · exact List.mem_append_right (_ :: _) (index_of_mem_groupDownKeys k hk)

theorem State.regrouped_only (s : State) {g : Nat} (mode n : Nat) (hg : g < 8) (hw : ∀ p < 48, s.width p ≤ 4) :
    (s.regrouped g mode n).only s retuneParts (retuneKeys g) := by
  have down : ((s.groupDown g).modGroup g fun r => { r with mode := mode, n := n }).only s retuneParts (retuneKeys g) :=
    State.only_modGroup _ _ (State.only_mono (s.groupDown_only hg hw) (by decide) (by simp +contextual [retuneKeys])) (by decide)
  unfold State.regrouped
  dsimp only
  refine State.only_setObj _ ?_ (by simp [retuneKeys])
  split
  · exact State.only_modCaravan _ down (by decide)
  · exact down

theorem State.retune_only (s : State) {g : Nat} (mode n : Nat) (hg : g < 8) (hw : ∀ p < 48, s.width p ≤ 4) :
    (s.retune g mode n).only s retuneParts (retuneKeys g) := by
  have pll {u : State} (h : u.only (s.regrouped g mode n) [.plls, .clk, .cal] (tpllKeys g)) : u.only s retuneParts (retuneKeys g) :=
    State.only_trans (State.only_mono h (by decide) (by simp +contextual [retuneKeys])) (s.regrouped_only mode n hg hw)
  rw [State.retune_eq]
  split
  · exact pll (State.pllOff_only _ g)
  · exact pll (State.startChange_only _ hg _)

/-- Retuning gives one group its mode and N, and changes nothing else of the groups. -/
theorem State.retune_group {g : Nat} (mode n h : Nat) (hg : g < 8) (hw : ∀ p < 48, s.width p ≤ 4) :
    (s.retune g mode n).group h = if h = g then { s.group g with mode := mode, n := n } else s.group h := by
  have hdown (k : Nat) : (s.groupDown g).group k = s.group k := by
    rw [State.group, (s.groupDown_only hg hw).1 .groups (by decide)]
    rfl
  have hregrouped : (s.regrouped g mode n).group h = if h = g then { s.group g with mode := mode, n := n } else s.group h := by
    unfold State.regrouped
    dsimp only
    rw [State.setObj_group]
    split <;> simp [hdown]
  have pll {u : State} (hu : u.only (s.regrouped g mode n) [.plls, .clk, .cal] (tpllKeys g)) :
      u.group h = (s.regrouped g mode n).group h := by
    rw [State.group, hu.1 .groups (by simp)]
    rfl
  rw [← hregrouped, State.retune_eq]
  split
  · exact pll (State.pllOff_only _ g)
  · exact pll (State.startChange_only _ hg _)

/-- GROUP_MODE and GROUP_N written. -/
def State.modeStored (s : State) (g m v : Nat) : State := (s.setObj O.GROUP_MODE m (g + 1)).setObj O.GROUP_N v (g + 1)

theorem State.modeStored_only (s : State) (g m v : Nat) :
    (s.modeStored g m v).only s [] [keyOf O.GROUP_MODE (g + 1), keyOf O.GROUP_N (g + 1)] :=
  State.only_setObj _ (State.only_setObj _ (State.only_refl _ _ _) (by simp)) (by simp)

theorem State.modeStored_mode {g m : Nat} (v : Nat) (hg : g < 8) (hm : m < 2 ^ 8) : (s.modeStored g m v).obj O.GROUP_MODE (g + 1) = m := by
  rw [State.modeStored, State.obj_setObj_other _ (by decide) (by omega) (by omega), State.obj_setObj_same]
  exact Nat.mod_eq_of_lt hm

theorem State.modeStored_n {g v : Nat} (m : Nat) (hv : v < 2 ^ 16) : (s.modeStored g m v).obj O.GROUP_N (g + 1) = v :=
  (State.obj_setObj_same _ _ _ _).trans (Nat.mod_eq_of_lt hv)

/-- A group begins anew in a mode: nothing of its probe has been found. -/
def State.modeBegun (s : State) (g m v : Nat) : State :=
  (s.modeStored g m v).modGroup g fun r => { r with probe := 0, settled := false }

theorem State.modeBegun_only (s : State) (g m v : Nat) :
    (s.modeBegun g m v).only s [.groups] [keyOf O.GROUP_MODE (g + 1), keyOf O.GROUP_N (g + 1)] :=
  State.only_modGroup _ _ (State.only_mono (s.modeStored_only g m v) (by simp) (by simp)) (by simp)

/-- A group begins anew in a mode with an N: AUTO in NATIVE (R109, R517). -/
def State.retuned (s : State) (g m v : Nat) : State := (s.modeBegun g m v).retune g (if m = 0xFE then 0 else m) (s.effN v)

theorem State.modeBegun_widths {g : Nat} (m v : Nat) (hg : g < 8) (hw : ∀ p < 48, s.width p ≤ 4) :
    ∀ p < 48, (s.modeBegun g m v).width p ≤ 4 := by
  intro p hp
  refine (State.only_obj (s.modeBegun_only g m v) ?_).trans_le (hw p hp)
  simp only [List.mem_cons, List.not_mem_nil, or_false, not_or]
  exact ⟨Obj.key_ne (by decide) (by omega) (by omega), Obj.key_ne (by decide) (by omega) (by omega)⟩

theorem State.retuned_only (s : State) {g : Nat} (m v : Nat) (hg : g < 8) (hw : ∀ p < 48, s.width p ≤ 4) :
    (s.retuned g m v).only s retuneParts (keyOf O.GROUP_MODE (g + 1) :: keyOf O.GROUP_N (g + 1) :: retuneKeys g) :=
  State.only_trans (State.only_mono (State.retune_only _ _ _ hg (State.modeBegun_widths m v hg hw)) (fun _ h => h) (by simp +contextual))
    (State.only_mono (s.modeBegun_only g m v) (by decide) (by simp))

/-- What was written stays through the retuning. -/
theorem State.retuned_obj {g : Nat} (m v : Nat) (hg : g < 8) (hw : ∀ p < 48, s.width p ≤ 4) {o : Obj} (ho : o.index ∉ retuneIndices) :
    (s.retuned g m v).obj o (g + 1) = (s.modeStored g m v).obj o (g + 1) :=
  State.only_obj_index (State.retune_only _ _ _ hg (State.modeBegun_widths m v hg hw)) (index_of_mem_retuneKeys hg) ho (by omega)

theorem State.retuned_group {g : Nat} (m v h : Nat) (hg : g < 8) (hw : ∀ p < 48, s.width p ≤ 4) : (s.retuned g m v).group h = if h = g then
    { s.group g with probe := 0, settled := false, mode := if m = 0xFE then 0 else m, n := s.effN v } else s.group h := by
  rw [State.retuned, State.retune_group _ _ _ hg (State.modeBegun_widths m v hg hw)]
  split
  next => simp [State.modeBegun, State.modeStored]
  next hne => simp [State.modeBegun, State.modeStored, hne]

/-- Values in force change nothing but the objects; others retune the group. -/
theorem State.writeGroupMode_eq {g m v : Nat} (hm : groupModeOk m = true) (hv : s.groupNOk v = true) : s.writeGroupMode g m v =
    if m = s.obj O.GROUP_MODE (g + 1) ∧ (v = s.obj O.GROUP_N (g + 1) ∨ s.effN v = (s.group g).n) then s.modeStored g m v
    else s.retuned g m v := by
  unfold State.writeGroupMode
  rw [if_neg (by simp [hm, hv])]
  rfl

theorem State.writeGroupMode_refused {g m v : Nat} (h : groupModeOk m = false ∨ s.groupNOk v = false) : s.writeGroupMode g m v = s := by
  unfold State.writeGroupMode
  exact if_pos (by simpa using h)

/-! The probe of AUTO (R517). -/

/-- ETH_25G goes on under the other FEC: the rate stays. -/
theorem State.probePhase_fec {g : Nat} (hm : s.obj O.GROUP_MODE (g + 1) = 0xFE) (hs : (s.group g).settled = false)
    (hp : s.tpllOk g = true) (h1 : (s.group g).probe = 1) : s.probePhase g = s.modGroup g fun r => { r with probe := (r.probe + 1) % 4 } := by
  unfold State.probePhase
  dsimp only
  rw [if_neg (by simp [hm, hs, hp]), h1]
  rfl

/-- A group all of whose lanes are DOWN resumes its probe in NATIVE, where it stands. -/
theorem State.probeResume_native {g : Nat} (hm : s.obj O.GROUP_MODE (g + 1) = 0xFE) (hs : (s.group g).settled = true)
    (hd : ∀ n ∈ groupLanes g, s.linkState n = 0) (h0 : (s.group g).mode = 0) :
    s.probeResume g = s.modGroup g fun r => { r with settled := false, probe := 0 } := by
  have hup : (groupLanes g).any (fun n => s.linkState n != 0) = false := by simpa using hd
  unfold State.probeResume
  dsimp only
  rw [if_neg (by simp [hm, hs, hup]), if_pos h0]

/-- A command whose effect is a change of one group. -/
theorem runKeep_modGroup {f : State → State} (g : Nat) (r : Group → Group) (h : s.held = false) (hf : f s = s.modGroup g r) :
    ∃ t, runKeep s f = .next t ∧ t.group g = r (s.group g) ∧ (∀ k, k ≠ g → t.group k = s.group k) ∧ t.only s [.groups] [] := by
  have ho : (f s).only s [.groups] [] := hf ▸ State.only_modGroup _ _ (State.only_refl _ _ _) (by simp)
  exact ⟨_, runKeep_of_only h ho (by simp), by simp [hf], fun k hk => by simp [hf, hk], ho⟩

end Sys2Proof.Machine

open Sys2Proof Sys2Proof.Machine

/-- Settles O15, clause by clause: a test that begins or ends, the lock of a one-lane port, the modes of groups, and the probe of AUTO. -/
theorem groupsAndTests : Obligations.GroupsAndTests := by
  unfold Obligations.GroupsAndTests
  refine ⟨?loop, ?loopEnds, ?loopRange, ?prbs, ?prbsRange, ?lock, ?sameMode, ?newMode, ?modeRange, ?phase, ?resume⟩
  case loop =>
    intro s n v hh h1 h3 hup ht hl
    have hloop : (s.laneWritten O.LANE_LOOP v.toNat n fun l => { l with fill := 64 }).obj O.LANE_LOOP (n + 1) = v.toNat :=
      (State.laneWritten_same _ _ _ _).trans (Nat.mod_eq_of_lt v.isLt)
    have hs := (State.writeLoop_eq h3).trans
      (State.laneWritten_begins n.isLt (by decide) (State.testWanted_loop (by rw [hloop]; omega)) ht hl hup)
    obtain ⟨t, hrun, hobj, hstate, hlane, hother, hout, ho⟩ := runKeep_testBegins (g := (·.writeLoop n v.toNat)) n hh hs (by decide) v.isLt
    exact ⟨t, hrun, hobj, by rw [hlane], hstate, by rw [hlane], hother, hout, ho⟩
  case loopEnds =>
    intro s n hh hp ht
    have hs := State.writeLoop_ends n.isLt hp ht
    have ho : (s.writeLoop n 0).only s [.lanes, .cal, .out]
        [keyOf O.LANE_LOOP (n + 1), keyOf O.LINK_STATE (n + 1), keyOf O.TX_TAPS (n + 1)] :=
      hs ▸ State.only_emit _ (State.only_trans (State.only_mono (State.startTraining_only _ n) (by simp) (by simp))
        (State.only_mono (s.untested_only n) (by simp) (by simp))) (by simp)
    refine ⟨s.writeLoop n 0, runKeep_of_only (f := (·.writeLoop n 0)) hh ho (by simp), ?_, ?_, ?_, ?_, ho⟩ <;> rw [hs]
    · rw [State.emit_obj, State.only_obj (State.startTraining_only _ n) (by
        simp only [List.mem_cons, List.not_mem_nil, or_false, not_or]
        exact ⟨Obj.key_ne (by decide) (by omega) (by omega), Obj.key_ne (by decide) (by omega) (by omega)⟩)]
      exact s.untested_loop n
    · rw [State.emit_lane, State.startTraining_lane, State.untested, State.modLane_lane, if_pos rfl]
    · rw [State.linkState, State.emit_obj]
      exact State.startTraining_linkState n.isLt
    · rw [State.emit_obj, State.startTraining_taps, State.untested_obj (by decide) (by omega) n.isLt]
  case loopRange =>
    intro s n v hh h3
    exact runKeep_same (g := (·.writeLoop n v.toNat)) hh (if_pos h3)
  case prbs =>
    intro s n v hh hok h64 hup ht hl
    have hprbs : (s.laneWritten O.LANE_PRBS v.toNat n fun l => { l with seen := 0, seenN := 0 }).obj O.LANE_PRBS (n + 1) = v.toNat :=
      (State.laneWritten_same _ _ _ _).trans (Nat.mod_eq_of_lt v.isLt)
    have hs := (State.writePrbs_eq hok).trans
      (State.laneWritten_begins n.isLt (by decide) (State.testWanted_prbs (by rw [hprbs]; exact h64)) ht hl hup)
    obtain ⟨t, hrun, hobj, hstate, hlane, hother, hout, ho⟩ := runKeep_testBegins (g := (·.writePrbs n v.toNat)) n hh hs (by decide) v.isLt
    exact ⟨t, hrun, hobj, by rw [hlane], hstate, by rw [hlane], hother, hout, ho⟩
  case prbsRange =>
    intro s n v hh hok
    exact runKeep_same (g := (·.writePrbs n v.toNat)) hh (if_pos (by simp [hok]))
  case lock =>
    intro s p al d eq hh hup hport hw hm hmay hal
    have hs := State.portLock_sole d.toNat eq p.isLt hup hport hw hm hmay hal
    have locked := s.ethLane_only p (al.getD 0 0).toNat (eq.getD 0 [])
    have ho : (s.portLock p al d.toNat eq).only s (.lanes :: .lports :: .groups :: flagParts) (keyOf O.LANE_RX_ALIGN (p + 1) ::
        keyOf O.LINK_STATE (p + 1) :: keyOf O.LINK_CMD_STATUS (p + 1) :: keyOf O.LINK_TX_LAT (p + 1) :: keyOf O.LINK_RX_LAT (p + 1) ::
        keyOf O.PORT_ACTIVE (p + 1) :: flagKeys O.LANE_FLAGS (p + 1)) :=
      hs ▸ State.only_trans (State.only_mono (State.soleUp_only _ p d.toNat) (by simp) (by simp))
        (State.only_mono locked (by simp +contextual) (by simp +contextual [lockKeys]))
    refine ⟨_, runKeep_of_only hh ho (by decide), ?_, ?_, ?_, ?_, ?_, ?_, ?_, ho⟩ <;> rw [hs]
    · rw [State.linkState, State.soleUp_obj d.toNat (by decide) (by omega) p.isLt]
      exact State.ethLane_linkState _ _ p.isLt
    · rw [State.soleUp_obj d.toNat (by decide) (by omega) p.isLt]
      exact State.ethLane_align _ p.isLt (al.getD 0 0).isLt
    · exact State.soleUp_active _ _
    · exact State.soleUp_up _ _
    · exact State.soleUp_settled _ _
    · have hgroup : (s.soleLocked p al eq).group (groupOf p) = s.group (groupOf p) :=
        congrArg (Tab.get · Dflt.group (groupOf p)) (State.ethLane_groups _ _ _)
      have hwidth : (s.soleLocked p al eq).width p = s.width p := State.ethLane_obj _ _ (by decide) (by omega) p.isLt
      have hfec : (s.soleLocked p al eq).portFec p = s.portFec p := State.ethLane_portFec _ _ p.isLt p.isLt
      have hrate : (s.soleLocked p al eq).groupRate (groupOf p) = s.groupRate (groupOf p) :=
        State.groupRate_of_only locked (by decide) (by decide) _
      rw [State.soleUp_tx d.toNat p.isLt, State.soleUp_lane, hrate, hgroup, hm, hwidth, hw, hfec]
    · rw [State.soleUp_lane]
      exact State.ethLane_codes _ _ p.isLt
  case sameMode =>
    intro s g m v hh hm hv hmode hn
    have hs : s.writeGroupMode g m.toNat v.toNat = s.modeStored g m.toNat v.toNat := (State.writeGroupMode_eq hm hv).trans (if_pos ⟨hmode, hn⟩)
    have ho := hs ▸ s.modeStored_only g m.toNat v.toNat
    refine ⟨_, runKeep_of_only (f := (·.writeGroupMode g m.toNat v.toNat)) hh ho (by simp), ?_, ?_, ho⟩ <;> rw [hs]
    · exact State.modeStored_n _ v.isLt
    · exact (State.modeStored_mode _ g.isLt m.isLt).trans hmode
  case newMode =>
    intro s g m v hh hw hm hv hnew
    have hs : s.writeGroupMode g m.toNat v.toNat = s.retuned g m.toNat v.toNat :=
      (State.writeGroupMode_eq hm hv).trans (if_neg fun h => hnew.elim (fun hne => hne h.1) fun hne => h.2.elim hne.1 hne.2)
    have ho := hs ▸ State.only_mono (s.retuned_only m.toNat v.toNat g.isLt hw)
      (l' := .cellar :: .caravan :: .lports :: .ports :: .out :: .lanes :: .cal :: .groups :: .plls :: .clk :: flagParts)
      (ks' := keyOf O.GROUP_MODE (g + 1) :: keyOf O.GROUP_N (g + 1) :: keyOf O.DRAIN_STATE :: keyOf O.GROUP_RATE_ACT (g + 1) ::
        keyOf O.PLL_STATE (g + 2) :: keyOf O.PLL_DIV (g + 2) :: keyOf O.PLL_VCO_KHZ (g + 2) ::
        (flagKeys O.CELLAR_FLAGS ++ allOf [O.LINK_STATE, O.PORT_ACTIVE, O.PORT_TIMING_POS, O.DROP_DOWN, O.TX_TAPS])) (by decide) (by
          simp only [retuneKeys, tpllKeys, groupDownKeys, laneObjs, List.cons_append, List.nil_append, List.mem_cons]
          tauto)
    have hgroup (h : Nat) := State.retuned_group (s := s) m.toNat v.toNat h g.isLt hw
    refine ⟨_, runKeep_of_only (f := (·.writeGroupMode g m.toNat v.toNat)) hh ho (by decide), ?_, ?_, ?_, ?_, ?_, fun k hk => ?_, ho⟩ <;>
      rw [hs]
    · rw [State.retuned_obj _ _ g.isLt hw (by decide), State.modeStored_mode _ g.isLt m.isLt]
    · rw [State.retuned_obj _ _ g.isLt hw (by decide), State.modeStored_n _ v.isLt]
    · rw [hgroup, if_pos rfl]
    · rw [hgroup, if_pos rfl]
    · rw [hgroup, if_pos rfl]
    · rw [hgroup, if_neg hk]
  case modeRange =>
    intro s g m v hh hbad
    exact runKeep_same (g := (·.writeGroupMode g m.toNat v.toNat)) hh (State.writeGroupMode_refused hbad)
  case phase =>
    intro s g hh hm hset hpll h1
    obtain ⟨t, hrun, hg, hother, ho⟩ := runKeep_modGroup (f := (·.probePhase g)) g _ hh (State.probePhase_fec hm hset hpll h1)
    exact ⟨t, hrun, by rw [hg, h1], hother, ho⟩
  case resume =>
    intro s g hh hm hset hd h0
    exact runKeep_modGroup (f := (·.probeResume g)) g _ hh (State.probeResume_native hm hset hd h0)
end

section
/-! PROOF. Captures (R237 to R241), the input PPS_IN (R163, R167, R241) and PTP (R182 to R185, R559), and O19 from them. The rounding of a
capture to its resolution is log entry 5. -/

namespace Sys2Proof.Machine

variable {s t : State}

/-! The runs of calibrations that an edge violates (R465, R466). -/

/-- The objects that the abort of a calibration's run may touch (R476). -/
def calEdgeKeys : List Nat := keyOf O.CAL_LAST_PRECOND :: keyOf O.CAL_ABORTS :: keyOf O.CAL_STATUS :: flagKeys O.CAL_FLAGS

theorem State.only_calEnd {l : List Part} {ks : List Nat} (k i st r : Nat) (h : t.only s l ks) (hk : keyOf O.CAL_STATUS ∈ ks) :
    (t.calEnd k i st r).only s l ks := by
  unfold State.calEnd
  split
  · exact State.only_endStatus _ _ h hk
  · exact h

theorem State.only_ite {u : State} {l : List Part} {ks : List Nat} {c : Prop} [Decidable c] (ht : t.only s l ks) (hu : u.only s l ks) :
    (if c then t else u).only s l ks := by
  split
  · exact ht
  · exact hu

theorem State.calPrecond_only (s : State) (k i c : Nat) (f r : Bool) :
    (s.calPrecond k i c f r).only s (.cal :: flagParts) calEdgeKeys := by
  have hrec : (s.calRecord k i c).only s (.cal :: flagParts) calEdgeKeys :=
    State.only_modCal _ _ _ (State.only_setObj _ (State.only_refl _ _ _) (by simp [calEdgeKeys])) (by simp)
  have hflag {u : State} (b : Nat) (hu : u.only s (.cal :: flagParts) calEdgeKeys) :
      (u.raise O.CAL_FLAGS b).only s (.cal :: flagParts) calEdgeKeys :=
    State.only_raise b _ hu (by simp +contextual) (by simp +contextual [calEdgeKeys])
  have hend {u : State} (g : CalRec → CalRec) (hu : u.only s (.cal :: flagParts) calEdgeKeys) :
      ((u.modCal k i g).calEnd k i 5 1).only s (.cal :: flagParts) calEdgeKeys :=
    State.only_calEnd _ _ _ _ (State.only_modCal _ _ _ hu (by simp)) (by simp [calEdgeKeys])
  have hcount : ((s.calRecord k i c).count O.CAL_ABORTS).only s (.cal :: flagParts) calEdgeKeys :=
    State.only_count _ _ _ hrec (by simp [calEdgeKeys])
  have hwait (g : CalRec → CalRec) := hend g (hflag 0 hcount)
  unfold State.calPrecond
  exact State.only_ite (hend _ hrec) (State.only_ite (hflag 1 (hwait _)) (hwait _))

theorem State.calViolate_only (s : State) (k i c : Nat) : (s.calViolate k i c).only s (.cal :: flagParts) calEdgeKeys := by
  unfold State.calViolate
  dsimp only
  split
  · exact s.calPrecond_only k i c _ _
  · exact State.only_refl _ _ _

theorem State.calEdge_only (s : State) (c : Nat) : (s.calEdge c).only s (.cal :: flagParts) calEdgeKeys :=
  State.only_trans (State.calViolate_only _ 6 c 5) (s.calViolate_only 5 c 5)

/-! What the time of a capture is made of. -/

/-- The indices of the objects that the time of a capture, its quality code and θ of PPS_IN are made of (R18, R167, R238, R240). -/
def clockIndices : List Nat :=
  [O.HEARTH_INC.index, O.HEARTH_WRAP.index, O.HEARTH_SLEW.index, O.ACC_BOUND.index, O.CLK_M.index, O.F0_CNT.index,
   O.TIO_TDC_MODE.index, O.TIO_DELAY.index, O.EXTREF_DELAY.index]

/-- `t` gives an edge the same times as `s`. -/
structure State.sameClock (t s : State) : Prop where
  hearth : t.hearth = s.hearth
  clk : t.clk = s.clk
  obj : ∀ o j, o.index ∈ clockIndices → j < 256 → t.obj o j = s.obj o j

theorem State.sameClock_of_only {l : List Part} {ks : List Nat} (h : t.only s l ks) (hh : .hearth ∉ l) (hc : .clk ∉ l)
    (hk : ∀ k ∈ ks, k / 256 ∉ clockIndices) : t.sameClock s :=
  ⟨h.1 .hearth hh, h.1 .clk hc, fun o _ ho hj => State.only_obj h fun hm => hk _ hm (o.key_div hj ▸ ho)⟩

namespace State.sameClock

theorem own (h : t.sameClock s) (o : Obj) (ho : o.index ∈ clockIndices) (hlo : o.lo < 256) : t.obj o = s.obj o := h.obj o o.lo ho hlo

theorem f0Period (h : t.sameClock s) : t.f0Period = s.f0Period := by
  simp only [State.f0Period, State.hearthM, h.own O.CLK_M (by decide) (by decide), h.own O.HEARTH_INC (by decide) (by decide)]

theorem f0Edge40 (h : t.sameClock s) (n : Int) : t.f0Edge40 n = s.f0Edge40 n := by
  simp only [State.f0Edge40, h.hearth, h.f0Period, h.own O.F0_CNT (by decide) (by decide),
    h.own O.HEARTH_INC (by decide) (by decide)]

theorem now (h : t.sameClock s) : t.now = s.now := by rw [State.now, h.hearth, State.now]

theorem capTime (h : t.sameClock s) {c : Nat} (hc : c < 18) (e : Time56) : t.capTime c e = s.capTime c e := by
  simp only [State.capTime, State.nearNow, State.toCell, State.sinceF0, State.psObj, State.objI, h.now, h.clk, h.f0Period, h.f0Edge40,
    h.own O.F0_CNT (by decide) (by decide), h.obj O.TIO_TDC_MODE (c + 1) (by decide) (by omega),
    h.obj O.TIO_DELAY (c + 1) (by decide) (by omega)]

theorem stampOf (h : t.sameClock s) (e : Time56) : t.stampOf e = s.stampOf e := by
  simp only [State.stampOf, State.quality, State.slewing, State.acc, h.hearth, h.own O.HEARTH_SLEW (by decide) (by decide),
    h.own O.ACC_BOUND (by decide) (by decide)]

theorem ppsTheta (h : t.sameClock s) (e : Time56) : t.ppsTheta e = s.ppsTheta e := by
  simp only [State.ppsTheta, State.extended, State.objI, h.now, h.own O.HEARTH_WRAP (by decide) (by decide),
    h.own O.EXTREF_DELAY (by decide) (by decide)]

theorem tooClose (h : t.sameClock s) (htdc : t.tdcs = s.tdcs) (c : Nat) (e : Time56) : t.tooClose c e = s.tooClose c e := by
  simp only [State.tooClose, State.tdc, h.hearth, h.clk, htdc, h.own O.HEARTH_INC (by decide) (by decide)]

end State.sameClock

/-! An edge that is captured (R237 to R240). -/

/-- An edge has reached a channel: the runs that it violates end, and it is the channel's last. -/
def State.edgeSeen (s : State) (c : Nat) (e : Time56) : State :=
  (s.calEdge c).modTdc c fun d => { d with last := some (e, (s.calEdge c).hearth.cycles) }

/-- The TIMESTAMP of a capture. -/
def State.capStamp (s : State) (c : Nat) (e : Time56) : Nat := s.stampOf (BitVec.ofInt 56 (s.capTime c e))

/-- PPS_IN_LAST and MARK_LAST take the captures of their channels (R240, R242). -/
def State.lastStamped (s : State) (c v : Nat) : State :=
  if c = 16 then s.setObj O.PPS_IN_LAST v else if c = 17 then s.setObj O.MARK_LAST v else s

/-- A capture comes to the queue of its channel: it is kept, or missed where the queue is full (R239). -/
def State.capQueued (s : State) (c : Nat) (e : Time56) (rising : Bool) : State :=
  if 64 ≤ (s.tdc c).recs.length then
    ((s.count O.TIO_MISSED (c + 1)).modTdc c fun d => { d with ovf := true }).raise O.TIO_FLAGS 6 (c + 1)
  else
    let u := s.modTdc c fun d => { d with recs := d.recs ++ [s.capRecord c e rising], seq := (d.seq + 1) % 256, ovf := false }
    if (s.tdc c).recs == [] then u.levelRise (72 + c) O.TIO_FLAGS 9 (c + 1) else u

/-- The objects that a capture may touch. -/
def captureKeys (c : Nat) : List Nat :=
  (if c = 16 then [keyOf O.PPS_IN_LAST] else if c = 17 then [keyOf O.MARK_LAST] else []) ++ keyOf O.TIO_MISSED (c + 1) ::
    keyOf O.CAL_LAST_PRECOND :: keyOf O.CAL_ABORTS :: keyOf O.CAL_STATUS :: keyOf O.CAL_FLAGS :: flagKeys O.TIO_FLAGS (c + 1)

theorem State.captured_iff {c : Nat} {e : Time56} {r : Bool} :
    s.captured c e r = true ↔ s.watches c r = true ∧ s.tooClose c e = false := by
  rw [State.captured, Bool.and_eq_true, Bool.not_eq_true']

theorem State.capture_unwatched {c : Nat} (e : Time56) {r : Bool} (h : s.watches c r = false) : s.capture c e r = s := by
  rw [State.capture, h]
  rfl

theorem State.capture_captured {c : Nat} {e : Time56} {r : Bool} (h : s.captured c e r = true) :
    s.capture c e r = ((s.edgeSeen c e).lastStamped c ((s.edgeSeen c e).capStamp c e)).capQueued c e r := by
  obtain ⟨hwatch, hclose⟩ := State.captured_iff.mp h
  have hedge : (s.calEdge c).sameClock s := State.sameClock_of_only (s.calEdge_only c) (by decide) (by decide) (by decide)
  have hfar : (s.calEdge c).tooClose c e = false := (hedge.tooClose ((s.calEdge_only c).1 .tdcs (by decide)) c e).trans hclose
  unfold State.capture
  dsimp only
  rw [hwatch, hfar]
  rfl

theorem State.edgeSeen_only (s : State) (c : Nat) (e : Time56) : (s.edgeSeen c e).only s (.tdcs :: .cal :: flagParts) calEdgeKeys :=
  State.only_modTdc _ _ (State.only_mono (s.calEdge_only c) (by simp +contextual) (fun _ h => h)) (by simp)

theorem State.edgeSeen_sameClock (s : State) (c : Nat) (e : Time56) : (s.edgeSeen c e).sameClock s :=
  State.sameClock_of_only (s.edgeSeen_only c e) (by decide) (by decide) (by decide)

theorem State.edgeSeen_capStamp (s : State) {c : Nat} (hc : c < 18) (e : Time56) : (s.edgeSeen c e).capStamp c e = s.capStamp c e := by
  rw [State.capStamp, (s.edgeSeen_sameClock c e).capTime hc, (s.edgeSeen_sameClock c e).stampOf, State.capStamp]

theorem State.capQueued_only (s : State) (c : Nat) (e : Time56) (r : Bool) :
    (s.capQueued c e r).only s (.tdcs :: flagParts) (keyOf O.TIO_MISSED (c + 1) :: flagKeys O.TIO_FLAGS (c + 1)) := by
  unfold State.capQueued
  dsimp only
  have hkept (f : Tdc → Tdc) : (s.modTdc c f).only s (.tdcs :: flagParts) (keyOf O.TIO_MISSED (c + 1) :: flagKeys O.TIO_FLAGS (c + 1)) :=
    State.only_modTdc _ _ (State.only_refl _ _ _) (by simp)
  split
  · exact State.only_raise _ _ (State.only_modTdc _ _ (State.only_count _ _ _ (State.only_refl _ _ _) (by simp)) (by simp))
      (by simp +contextual) (by simp +contextual)
  · split
    · exact State.only_levelRise _ _ _ (hkept _) (by simp +contextual) (by simp +contextual [flagKeys])
    · exact hkept _

theorem State.lastStamped_only (s : State) (c v : Nat) : (s.lastStamped c v).only s [] (captureKeys c) := by
  unfold State.lastStamped captureKeys
  split
  · exact State.only_setObj _ (State.only_refl _ _ _) (by simp)
  · split
    · exact State.only_setObj _ (State.only_refl _ _ _) (by simp)
    · exact State.only_refl _ _ _

theorem State.capture_only {c : Nat} {e : Time56} {r : Bool} (h : s.captured c e r = true) :
    (s.capture c e r).only s (.tdcs :: .cal :: flagParts) (captureKeys c) := by
  rw [State.capture_captured h]
  refine State.only_trans (State.only_mono (State.capQueued_only _ c e r) ?_ ?_)
    (State.only_trans (State.only_mono (State.lastStamped_only _ c _) ?_ ?_) (State.only_mono (s.edgeSeen_only c e) ?_ ?_))
  all_goals simp +contextual [captureKeys, calEdgeKeys, flagKeys]

/-- A quality code fills 8 bits (R18). -/
theorem State.quality_lt (s : State) : s.quality < 256 := by
  have hbound (b : Nat) : accOf b ≤ 15 := by
    unfold accOf
    rcases hf : (List.range 15).find? (fun a => decide (b ≤ 2 ^ a)) with _ | a
    · exact le_refl 15
    · exact le_of_lt (List.mem_range.mp (List.mem_of_find?_eq_some hf))
  have hacc : s.acc ≤ 15 := by
    unfold State.acc
    split
    iterate 4 exact le_refl 15
    exact hbound _
  have hcode : s.hearth.state.code ≤ 7 := by cases s.hearth.state <;> decide
  have hslew : b2n s.slewing ≤ 1 := by cases s.slewing <;> decide
  unfold State.quality
  omega

/-- A TIMESTAMP fills 64 bits (R17). -/
theorem State.stampOf_lt (s : State) (e : Time56) : s.stampOf e < 2 ^ 64 := by
  have he : e.toNat < 2 ^ 56 := e.isLt
  have hq := s.quality_lt
  unfold State.stampOf
  omega

/-- PPS_IN_LAST after an edge that is captured. -/
theorem State.capture_ppsLast {e : Time56} {r : Bool} (h : s.captured 16 e r = true) :
    (s.capture 16 e r).obj O.PPS_IN_LAST = s.capStamp 16 e := by
  rw [State.capture_captured h, State.only_obj (State.capQueued_only _ 16 e r) (by decide), State.edgeSeen_capStamp s (by decide),
    State.lastStamped, if_pos rfl, State.obj_setObj_same]
  exact Nat.mod_eq_of_lt (State.stampOf_lt _ _)

/-! PPS_IN (R163, R167, R241). -/

theorem State.ppsCapture_sameClock {e : Time56} (h : s.captured 16 e true = true) : (s.capture 16 e true).sameClock s :=
  State.sameClock_of_only (State.capture_only h) (by decide) (by decide) (by decide)

/-- A captured edge of PPS_IN is noted: EXTREF has its pulse (R163). -/
def State.ppsNoted (s : State) (e : Time56) : State :=
  (s.capture 16 e true).modServo fun m => { m with ppsAt := some s.hearth.cycles, ppsSince := true }

theorem State.ppsNoted_only {e : Time56} (h : s.captured 16 e true = true) :
    (s.ppsNoted e).only s (.servo :: .tdcs :: .cal :: flagParts) (captureKeys 16) :=
  State.only_modServo _ (State.only_mono (State.capture_only h) (by simp +contextual) (fun _ h => h)) (by simp)

theorem State.ppsNoted_servo {e : Time56} (h : s.captured 16 e true = true) :
    (s.ppsNoted e).servo = { s.servo with ppsAt := some s.hearth.cycles, ppsSince := true } := by
  rw [State.ppsNoted, State.modServo_servo, (State.capture_only h).1 .servo (by decide)]

theorem State.ppsIn_unwatched (e : Time56) (h : s.watches 16 true = false) : s.ppsIn e = s := by
  have hcap : s.captured 16 e true = false := by rw [State.captured, h, Bool.false_and]
  unfold State.ppsIn
  dsimp only
  rw [hcap, State.capture_unwatched e h]
  rfl

theorem State.ppsIn_noted {e : Time56} (h : s.captured 16 e true = true) (hm : s.obj O.EXTREF_MODE ≠ 1) : s.ppsIn e = s.ppsNoted e := by
  have hmode : (s.ppsNoted e).obj O.EXTREF_MODE ≠ 1 := by rwa [State.only_obj (State.ppsNoted_only h) (by decide)]
  unfold State.ppsIn
  dsimp only
  rw [h, (State.ppsCapture_sameClock h).hearth]
  exact if_pos hmode

theorem State.ppsIn_theta {e : Time56} (h : s.captured 16 e true = true) (hm : s.obj O.EXTREF_MODE = 1) (hsrc : s.source ≠ extref)
    (htrack : s.hearth.state = .track) :
    s.ppsIn e = ((s.ppsNoted e).modServo fun m => { m with extTh := s.ppsTheta (BitVec.ofInt 56 (s.capTime 16 e)) }).reselectAlt := by
  have ho := State.ppsNoted_only h
  have hclock := State.ppsCapture_sameClock h
  have hmode : ¬ (s.ppsNoted e).obj O.EXTREF_MODE ≠ 1 := by rw [State.only_obj ho (by decide), hm]; decide
  have hsource : (s.ppsNoted e).source ≠ extref := by rwa [State.source, State.only_obj ho (by decide)]
  have htheta (x : Time56) : (s.ppsNoted e).ppsTheta x = s.ppsTheta x := hclock.ppsTheta x
  have hstate : (s.ppsNoted e).hearth.state = .track := (congrArg Hearth.state hclock.hearth).trans htrack
  unfold State.ppsIn
  dsimp only
  rw [h, hclock.hearth, hclock.capTime (by decide)]
  refine (if_neg hmode).trans ?_
  change ((if (s.ppsNoted e).source = extref then _ else (s.ppsNoted e).modServo fun m =>
    { m with extTh := (s.ppsNoted e).ppsTheta (BitVec.ofInt 56 (s.capTime 16 e)) }) : State).select = _
  rw [htheta, if_neg hsource]
  exact State.select_track hstate

/-! PTP messages that leave (R182 to R184). -/

/-- A port that runs no boundary clock, and a slave, send no Sync and no Announce. -/
theorem State.ptpMaster_silent {p : Nat} (h : s.bcPort p = false ∨ (s.port p).ptpSlave = true) :
    (!s.bcPort p || (s.port p).ptpSlave) = true := by
  rcases h with h | h <;> rw [h]
  · rfl
  · exact Bool.or_true _

theorem State.ptpSync_silent {p : Nat} (h : s.bcPort p = false ∨ (s.port p).ptpSlave = true) : s.ptpSync p = s :=
  if_pos (State.ptpMaster_silent h)

theorem State.ptpAnnounce_silent {p : Nat} (h : s.bcPort p = false ∨ (s.port p).ptpSlave = true) : s.ptpAnnounce p = s :=
  if_pos (State.ptpMaster_silent h)

theorem State.ptpSync_master {p : Nat} (hb : s.bcPort p = true) (hm : (s.port p).ptpSlave = false) :
    s.ptpSync p = (s.ptpEmit p 0 ((s.port p).ptpSeq :: s.ptpTime (s.departs p))).ptpNext p := by
  simp [State.ptpSync, hb, hm]

/-- An Announce before PTP_EPOCH has ever been set (R185). -/
theorem State.ptpAnnounce_unset {p : Nat} (hb : s.bcPort p = true) (hm : (s.port p).ptpSlave = false) (he : s.servo.epochSet = false) :
    s.ptpAnnounce p = (s.ptpEmit p 4 [(s.port p).ptpSeq, s.clockClass, clockAccuracy (s.obj O.ACC_BOUND), s.obj O.PTP_PRIORITY1,
      s.obj O.PTP_PRIORITY2, 0, 0xA0]).ptpNext p := by
  simp [State.ptpAnnounce, hb, hm, he, b2n]

theorem State.ptpDelayReq_slave {p : Nat} (hb : s.bcPort p = true) (hm : (s.port p).ptpSlave = true) :
    s.ptpDelayReq p = ((s.ptpEmit p 2 [(s.port p).ptpSeq]).modPort p fun t =>
      { t with ptpT3 := some ((s.port p).ptpSeq, (s.departs p).toNat) }).ptpNext p := by
  unfold State.ptpDelayReq
  exact (if_neg (by simp [hb, hm])).trans rfl

theorem State.only_ptpEmit {l : List Part} {ks : List Nat} (p kind : Nat) (fields : List Nat) (h : t.only s l ks) (hl : .out ∈ l) :
    (t.ptpEmit p kind fields).only s l ks := State.only_emit _ h hl

theorem State.only_ptpNext {l : List Part} {ks : List Nat} (p : Nat) (h : t.only s l ks) (hl : .ports ∈ l) :
    (t.ptpNext p).only s l ks := State.only_modPort _ _ h hl

@[simp] theorem State.ptpEmit_port (p kind q : Nat) (fields : List Nat) : (s.ptpEmit p kind fields).port q = s.port q := (rfl)

@[simp] theorem State.ptpNext_out (p : Nat) : (s.ptpNext p).out = s.out := (rfl)

@[simp] theorem State.ptpNext_port (p q : Nat) : (s.ptpNext p).port q =
    if q = p then { s.port p with ptpSeq := ((s.port p).ptpSeq + 1) % 65536 } else s.port q := State.modPort_port _ _ _ _

/-- A command that sends one message of a master port. -/
theorem runKeep_ptpSend {f : State → State} {p kind : Nat} {fields : List Nat} (hh : s.held = false)
    (hf : f s = (s.ptpEmit p kind fields).ptpNext p) :
    ∃ t, runKeep s f = .next t ∧ t.out = .ptp p kind (s.obj O.PTP_DOMAIN) (s.obj O.PTP_TRANSPORT (p + 1)) fields :: s.out ∧
      t.port p = { s.port p with ptpSeq := ((s.port p).ptpSeq + 1) % 65536 } ∧ (∀ q, q ≠ p → t.port q = s.port q) ∧
      t.only s [.out, .ports] [] := by
  have ho : (f s).only s [.out, .ports] [] :=
    hf ▸ State.only_ptpNext _ (State.only_ptpEmit _ _ _ (State.only_refl _ _ _) (by simp)) (by simp)
  refine ⟨_, runKeep_of_only hh ho (by decide), ?_, ?_, fun q hq => ?_, ho⟩ <;> rw [hf]
  · rfl
  · rw [State.ptpNext_port, if_pos rfl, State.ptpEmit_port]
  · rw [State.ptpNext_port, if_neg hq, State.ptpEmit_port]

/-! PTP messages that reach the part (R182 to R185, R559). -/

theorem State.ptpT1_eq (s : State) (p origin : Nat) (c : Int) (a : Time56) : s.ptpT1 p origin c a = s.modPort p fun t =>
    { t with ptpT1 := some (((origin * 2 ^ 24 + c * 2 ^ 8 : Int) % (2 ^ 56 : Int)).toNat, a.toNat,
                            s.extended a - (origin * 2 ^ 24 + c * 2 ^ 8)), ptpSync := none } := (rfl)

theorem State.ptpIn_refused {p : Nat} {m : PtpMsg} (a : Time56)
    (h : s.bcPort p = false ∨ m.domain.toNat ≠ s.obj O.PTP_DOMAIN ∨ m.transport.toNat ≠ s.obj O.PTP_TRANSPORT (p + 1) ∨
      m.kind = .management ∨ m.kind = .signalling) : s.ptpIn p m a = s := by
  unfold State.ptpIn
  dsimp only
  split
  case isTrue => rfl
  case isFalse hpass =>
    rcases h with h | h | h | h | h
    · exact absurd (by simp [h]) hpass
    · exact absurd (by simp [h]) hpass
    · exact absurd (by simp [h]) hpass
    · rw [h]
    · rw [h]

section
variable {p : Nat} {m : PtpMsg} (a : Time56) (hb : s.bcPort p = true) (hd : m.domain.toNat = s.obj O.PTP_DOMAIN)
  (ht : m.transport.toNat = s.obj O.PTP_TRANSPORT (p + 1))
include hb hd ht

theorem State.ptpIn_announce (hk : m.kind = .announce) : s.ptpIn p m a = (s.ptpAnnounced p m).select := by
  simp [State.ptpIn, hb, hd, ht, hk]

/-- A two-step Sync of the master waits for its Follow_Up. -/
theorem State.ptpIn_twoStep (hk : m.kind = .sync) (h2 : m.twoStep = true) (hs : (s.port p).ptpSlave = true)
    (hm : m.source.toNat = (s.port p).ptpMaster) :
    s.ptpIn p m a = s.modPort p fun t =>
      { t with ptpSync := some (m.seq.toNat, (a - BitVec.ofNat 56 (s.obj O.LINK_RX_LAT (p + 1))).toNat, m.correction) } := by
  simp [State.ptpIn, hb, hd, ht, hk, h2, hs, hm]

theorem State.ptpIn_followUp {r : Nat} {c : Int} (hk : m.kind = .followUp) (hs : (s.port p).ptpSlave = true)
    (hm : m.source.toNat = (s.port p).ptpMaster) (hw : (s.port p).ptpSync = some (m.seq.toNat, r, c)) :
    s.ptpIn p m a = s.ptpT1 p m.origin (c + m.correction) (BitVec.ofNat 56 r) := by
  simp [State.ptpIn, hb, hd, ht, hk, hs, hm, hw]

theorem State.ptpIn_delayReq (hk : m.kind = .delayReq) (hs : (s.port p).ptpSlave = false) :
    s.ptpIn p m a = s.ptpEmit p 3 (m.seq.toNat :: s.ptpTime (a - BitVec.ofNat 56 (s.obj O.LINK_RX_LAT (p + 1))) ++
      [ofSigned 64 m.correction, m.source.toNat]) := by
  simp [State.ptpIn, hb, hd, ht, hk, hs]

end

theorem State.ptpAnnounced_only (s : State) (p : Nat) (m : PtpMsg) : (s.ptpAnnounced p m).only s [.ports] [] := by
  have hport (f : PTime → PTime) : (s.modPort p f).only s [.ports] [] := State.only_modPort _ _ (State.only_refl _ _ _) (by simp)
  unfold State.ptpAnnounced State.ptpMaster
  dsimp only
  split
  · split
    · exact State.only_refl _ _ _
    · exact hport _
  · split
    · exact hport _
    · exact State.only_refl _ _ _

theorem State.ptpAnnounced_other {p q : Nat} (m : PtpMsg) (h : q ≠ p) : (s.ptpAnnounced p m).port q = s.port q := by
  have hport (f : PTime → PTime) : (s.modPort p f).port q = s.port q := by rw [State.modPort_port, if_neg h]
  unfold State.ptpAnnounced State.ptpMaster
  dsimp only
  split
  · split
    · rfl
    · exact hport _
  · split
    · exact hport _
    · rfl

/-- BMCA recommends the sender as the master (R184, R559). -/
theorem State.ptpAnnounced_follows {p : Nat} {m : PtpMsg} (h : m.slave = true) : (s.ptpAnnounced p m).port p =
    if (s.port p).ptpSlave ∧ (s.port p).ptpMaster = m.source.toNat then s.port p
    else { s.port p with ptpSlave := true, ptpMaster := m.source.toNat, complete := false, run := [], cand := none, ptpT1 := none,
                         ptpSync := none, ptpT3 := none } := by
  rw [State.ptpAnnounced, if_pos h]
  unfold State.ptpMaster
  dsimp only
  split
  · rfl
  · rw [State.modPort_port, if_pos rfl]

/-- BMCA does not recommend the sender: the port follows it no more (R184). -/
theorem State.ptpAnnounced_leaves {p : Nat} {m : PtpMsg} (h : m.slave = false) : (s.ptpAnnounced p m).port p =
    { s.port p with ptpSlave := (s.port p).ptpSlave && (s.port p).ptpMaster != m.source.toNat } := by
  rw [State.ptpAnnounced, if_neg (by rw [h]; decide)]
  by_cases hm : (s.port p).ptpMaster = m.source.toNat
  · rw [if_pos hm, State.modPort_port, if_pos rfl, bne_eq_false_iff_eq.mpr hm, Bool.and_false]
  · rw [if_neg hm, bne_iff_ne.mpr hm, Bool.and_true]

/-- An Announce in TRACK: the port's records follow, and the alternate is chosen anew (R163). -/
theorem runPtp_announce {p : Nat} {m : PtpMsg} (a : Time56) (hh : s.held = false) (hb : s.bcPort p = true)
    (hd : m.domain.toNat = s.obj O.PTP_DOMAIN) (ht : m.transport.toNat = s.obj O.PTP_TRANSPORT (p + 1)) (hk : m.kind = .announce)
    (htrack : s.hearth.state = .track) :
    ∃ t, run s (·.ptpIn p m a) = .next t ∧ t.port p = (s.ptpAnnounced p m).port p ∧ (∀ q, q ≠ p → t.port q = s.port q) ∧
      t.only s [.ports] [keyOf O.UPSTREAM_ALT] := by
  have ho := s.ptpAnnounced_only p m
  have hs : s.ptpIn p m a = (s.ptpAnnounced p m).reselectAlt :=
    (State.ptpIn_announce a hb hd ht hk).trans (State.select_track ((congrArg Hearth.state (ho.1 .hearth (by decide))).trans htrack))
  have hport (q : Nat) : (s.ptpAnnounced p m).reselectAlt.port q = (s.ptpAnnounced p m).port q := by
    rw [State.reselectAlt, State.setObj_port]
  refine ⟨_, run_next s (·.ptpIn p m a) hh, ?_, fun q hq => ?_, ?_⟩ <;> rw [hs]
  · exact hport p
  · exact (hport q).trans (State.ptpAnnounced_other m hq)
  · exact State.only_trans (State.only_mono (State.reselectAlt_only _) (by simp) (by simp)) (State.only_mono ho (by simp) (by simp))

/-- A message that only changes the records of its port. -/
theorem runPtp_modPort {p : Nat} {m : PtpMsg} {a : Time56} {f : PTime → PTime} (hh : s.held = false)
    (hs : s.ptpIn p m a = s.modPort p f) :
    ∃ t, run s (·.ptpIn p m a) = .next t ∧ t.port p = f (s.port p) ∧ t.only s [.ports] [] := by
  refine ⟨_, run_next s (·.ptpIn p m a) hh, ?_, ?_⟩ <;> rw [hs]
  · rw [State.modPort_port, if_pos rfl]
  · exact State.only_modPort _ _ (State.only_refl _ _ _) (by simp)

end Sys2Proof.Machine

open Sys2Proof Sys2Proof.Machine

/-- Settles O19, instruction by instruction: an edge on PPS_IN through the frame of a capture, which keeps all that the capture's time is made
of; each message that leaves through `ptpEmit`, each that arrives through what `ptpIn` does with its kind. -/
theorem ppsAndPtp : Obligations.PpsAndPtp := by
  unfold Obligations.PpsAndPtp
  refine ⟨?unwatched, ?noted, ?theta, ?sync, ?silent, ?announce, ?delayReq, ?refused, ?follows, ?leaves, ?twoStep, ?followUp, ?answer⟩
  case unwatched =>
    intro s e hh hw
    exact (run_next s (·.ppsIn e) hh).trans (congrArg _ (State.ppsIn_unwatched e hw))
  case noted =>
    intro s e hh hcap hmode
    refine ⟨_, run_next s (·.ppsIn e) hh, ?_, ?_, ?_⟩ <;> rw [State.ppsIn_noted hcap hmode]
    · exact State.ppsNoted_servo hcap
    · exact State.capture_ppsLast hcap
    · exact State.ppsNoted_only hcap
  case theta =>
    intro s e hh hcap hmode hsrc htrack
    refine ⟨_, run_next s (·.ppsIn e) hh, ?_, ?_⟩ <;> rw [State.ppsIn_theta hcap hmode hsrc htrack]
    · rw [State.reselectAlt, State.setObj_servo, State.modServo_servo, State.ppsNoted_servo hcap]
    · exact State.only_trans (State.only_mono (State.reselectAlt_only _) (by simp) (by simp))
        (State.only_modServo _ (State.only_mono (State.ppsNoted_only hcap) (fun _ h => h) (fun _ h => List.mem_cons_of_mem _ h)) (by simp))
  case sync =>
    intro s p hh hb hm
    exact runKeep_ptpSend hh (State.ptpSync_master hb hm)
  case silent =>
    intro s p hh h
    exact ⟨runKeep_same (g := (·.ptpSync p)) hh (State.ptpSync_silent h), runKeep_same (g := (·.ptpAnnounce p)) hh (State.ptpAnnounce_silent h)⟩
  case announce =>
    intro s p hh hb hm he
    obtain ⟨t, hrun, hout, hport, -, ho⟩ := runKeep_ptpSend (f := (·.ptpAnnounce p)) hh (State.ptpAnnounce_unset hb hm he)
    exact ⟨t, hrun, hout, hport, ho⟩
  case delayReq =>
    intro s p hh hb hm
    have hs := State.ptpDelayReq_slave hb hm
    have ho : (s.ptpDelayReq p).only s [.out, .ports] [] :=
      hs ▸ State.only_ptpNext _ (State.only_modPort _ _ (State.only_ptpEmit _ _ _ (State.only_refl _ _ _) (by simp)) (by simp)) (by simp)
    refine ⟨_, runKeep_of_only hh ho (by decide), ?_, ?_, ho⟩ <;> rw [hs]
    · rfl
    · rw [State.ptpNext_port, if_pos rfl, State.modPort_port, if_pos rfl, State.ptpEmit_port]
  case refused =>
    intro s p m a hh h
    exact (run_next s (·.ptpIn p m a) hh).trans (congrArg _ (State.ptpIn_refused a h))
  case follows =>
    intro s p m a hh hb hd ht hk hslave htrack
    obtain ⟨t, hrun, hport, hother, ho⟩ := runPtp_announce a hh hb hd ht hk htrack
    exact ⟨t, hrun, hport.trans (State.ptpAnnounced_follows hslave), hother, ho⟩
  case leaves =>
    intro s p m a hh hb hd ht hk hslave htrack
    obtain ⟨t, hrun, hport, hother, ho⟩ := runPtp_announce a hh hb hd ht hk htrack
    exact ⟨t, hrun, hport.trans (State.ptpAnnounced_leaves hslave), hother, ho⟩
  case twoStep =>
    intro s p m a hh hb hd ht hk h2 hs hm
    exact runPtp_modPort hh (State.ptpIn_twoStep a hb hd ht hk h2 hs hm)
  case followUp =>
    intro s p m a r c hh hb hd ht hk hs hm hw
    exact runPtp_modPort hh ((State.ptpIn_followUp a hb hd ht hk hs hm hw).trans (State.ptpT1_eq ..))
  case answer =>
    intro s p m a hh hb hd ht hk hs
    have hin := State.ptpIn_delayReq a hb hd ht hk hs
    refine ⟨_, run_next s (·.ptpIn p m a) hh, ?_, ?_⟩ <;> rw [hin]
    · rfl
    · exact State.only_ptpEmit _ _ _ (State.only_refl _ _ _) (by simp)
end

section
/-! PROOF. Resets of the whole part and of a part that is held (R201, R509, R511, R531): O4 and O55. That a falling rail resets as POR_N does is
log entry 24, that the test access port works during internal reset log entry 10. -/

namespace Sys2Proof.Machine

variable {s : State}

/-! What a reset leaves (R509). -/

/-- The parts that a reset does not set to their state after reset; one without power also keeps the test access port. -/
def keptByReset (por : Bool) : List Part := [.pending, .out, .free, .fuses, .flash, .irq, .power] ++ if por then [] else [.jtag]

theorem State.resetTo_same (s : State) (cause : Nat) (por : Bool) (straps : BitVec 5) {p : Part} (hp : p ∉ keptByReset por) :
    p.same State.reset (s.resetTo cause por straps) := by
  cases por <;> cases p <;> simp [keptByReset] at hp <;> rfl

theorem State.resetTo_por_obj (s : State) (cause : Nat) (straps : BitVec 5) (o : Obj) (sub : Nat) :
    (s.resetTo cause true straps).obj o sub = o.dflt := rfl

/-- TEMP and TEMP_PEAK stay with the sensors (R509, R529). -/
theorem State.resetTo_warm_obj (s : State) (cause : Nat) (straps : BitVec 5) (o : Obj) {sub : Nat} (h : sub < 256) :
    (s.resetTo cause false straps).obj o sub = if o.index = O.TEMP.index ∨ o.index = O.TEMP_PEAK.index then s.obj o sub else o.dflt :=
  s.sysReset_obj o h

/-- An internal reset is a reset, but for what holds the part. -/
theorem State.holdReset_only (s : State) (rail : Bool) (cause : Nat) :
    (s.holdReset rail cause).only (s.resetTo cause rail s.power.straps) [.power] [] :=
  State.only_with_power _ (State.only_refl _ _ _) (by simp)

theorem State.holdReset_same (s : State) (rail : Bool) (cause : Nat) {p : Part} (hp : p ∉ keptByReset rail) :
    p.same State.reset (s.holdReset rail cause) :=
  Part.same_trans ((s.holdReset_only rail cause).1 p fun h => hp (by simp [keptByReset, List.mem_singleton.mp h])) (s.resetTo_same _ _ _ hp)

/-- A part in internal reset is held by the rail or by the crystal. -/
theorem State.holdReset_held (s : State) (rail : Bool) (cause : Nat) : (s.holdReset rail cause).held = true := by
  cases rail <;> simp [State.holdReset, State.held]

theorem State.release_only (s : State) (rail : Bool) (straps : BitVec 5) : (s.release rail straps).only s [.power] [] :=
  State.only_modPower _ (State.only_refl _ _ _) (by simp)

/-! What a part that is held does (R509). -/

/-- A command of the Hearth's chapter or of another, by its operand. -/
theorem ite_run_held {c : Prop} [Decidable c] {f g : State → State} (h : s.held = true) :
    (if c then run s f else runKeep s g) = .next s := by
  split
  · exact run_held s f h
  · exact runKeep_held s g h

/-- Every command but those that act on a part that is held begins by asking whether it is. -/
theorem exec_held {c : Instr} (hc : actsWhileHeld c = false) (h : s.held = true) : exec c s = .next s := by
  cases c with
  | tioCapture => exact ite_run_held h
  | lockWindowEnd => exact ite_run_held h
  | pllLoss => exact ite_run_held h
  | _ => cases hc <;> exact congrArg Host.Outcome.next (if_pos h)

end Sys2Proof.Machine

open Sys2Proof Sys2Proof.Machine

/-- Settles O4: POR_N and RST_N by what `resetTo` leaves, a rail or the crystal by what `holdReset` and `release` leave. -/
theorem resetsClearThePart : Obligations.ResetsClearThePart := by
  unfold Obligations.ResetsClearThePart
  refine ⟨?por, ?warm, ?rail, ?crystal, ?railBack, ?crystalBack⟩
  case por =>
    intro s straps
    exact ⟨s.resetTo 2 true straps, rfl, s.resetTo_por_obj 2 straps, fun p hp => s.resetTo_same 2 true straps hp,
      rfl, rfl, rfl, rfl, rfl, rfl, rfl, rfl, rfl, rfl⟩
  case warm =>
    intro s straps
    exact ⟨s.resetTo 4 false straps, rfl, fun o _ h => s.resetTo_warm_obj 4 straps o h, fun p hp => s.resetTo_same 4 false straps hp,
      rfl, rfl, rfl, rfl, rfl, rfl, rfl, rfl, rfl, rfl, rfl⟩
  case rail =>
    intro s rail hup
    have hrun : exec (.railUndervoltage rail) s = .next (s.holdReset true 2) := congrArg Host.Outcome.next (if_neg (by simp [hup]))
    exact ⟨_, hrun, s.holdReset_held true 2, rfl, s.resetTo_por_obj 2 s.power.straps, rfl, fun p hp => s.holdReset_same true 2 hp⟩
  case crystal =>
    intro s cause hup
    have hrun : exec (.xoLoss cause) s = .next (s.holdReset false (match cause with | .spllLost => 16 | .xoAbsent => 8)) :=
      congrArg Host.Outcome.next (if_neg (by simp [hup]))
    refine ⟨_, hrun, s.holdReset_held false _, ?_, rfl, fun p hp => s.holdReset_same false _ hp⟩
    cases cause <;> rfl
  case railBack =>
    intro s straps hdown
    have hrun : exec (.railRestore straps) s = .next (s.release true straps) := congrArg Host.Outcome.next (if_pos hdown)
    exact ⟨_, hrun, Bool.and_false _, Bool.and_true _, rfl, s.release_only true straps⟩
  case crystalBack =>
    intro s straps hdown
    have hrun : exec (.xoRestore straps) s = .next (s.release false straps) := congrArg Host.Outcome.next (if_pos hdown)
    exact ⟨_, hrun, Bool.and_false _, Bool.and_true _, rfl, s.release_only false straps⟩

/-- Settles O55, command by command. -/
theorem heldPartIgnoresCommands : Obligations.HeldPartIgnoresCommands := by
  unfold Obligations.HeldPartIgnoresCommands
  exact fun c s hs hc => exec_held hc hs
end

section
/-! PROOF. The PLLs (R198 to R202, R204, R206, R219, R220): windows of the lock detector, lock and loss, acquisitions that fail, and O16 from
them. -/

namespace Sys2Proof.Machine

variable {s : State}

/-! A window of the lock detector closes (R198, R199). -/

/-- The VCO cycles of a window at the frequency that the dividers give. -/
def State.windowCount (s : State) (n : Nat) : Nat := 65536 * if n = 0 then (s.planOf 0).fb else s.feedback n

theorem State.windowCount_spll (s : State) : s.windowCount 0 = 65536 * (s.planOf 0).fb := by rw [State.windowCount, if_pos rfl]

theorem State.windowCount_of_pos {n : Nat} (h : 0 < n) : s.windowCount n = 65536 * s.feedback n := by
  rw [State.windowCount, if_neg (by omega)]

/-- The frequency that a window has counted is shown (R219). -/
def State.vcoShown (s : State) (n count : Nat) : State :=
  s.setObj O.PLL_VCO_KHZ ((2 * count * s.pfd n + 65536 * 10 ^ 6) / (2 * 65536 * 10 ^ 6)) (n + 1)

theorem State.vcoShown_only (s : State) (n count : Nat) : (s.vcoShown n count).only s [] [keyOf O.PLL_VCO_KHZ (n + 1)] :=
  State.only_setObj _ (State.only_refl _ _ _) (by simp)

theorem State.vcoShown_shown (s : State) (n count : Nat) : (s.vcoShown n count).obj O.PLL_VCO_KHZ (n + 1) =
    (2 * count * s.pfd n + 65536 * 10 ^ 6) / (2 * 65536 * 10 ^ 6) % 2 ^ 32 := State.obj_setObj_same _ _ _ _

theorem State.vcoShown_obj {o : Obj} {j n : Nat} (count : Nat) (ho : o.index ≠ O.PLL_VCO_KHZ.index) (hj : j < 256) (hn : n < 15) :
    (s.vcoShown n count).obj o j = s.obj o j := State.obj_setObj_other _ ho hj (by omega)

theorem State.vcoShown_pll (n count q : Nat) : (s.vcoShown n count).pll q = s.pll q := State.setObj_pll _ _ _ _ _

/-- A PLL's windows in a row that were within 20 ppm. -/
def State.countGood (s : State) (n k : Nat) : State := s.modPll n fun q => { q with good := k }

theorem State.only_countGood {t : State} {l : List Part} {ks : List Nat} (n k : Nat) (h : t.only s l ks) (hl : .plls ∈ l) :
    (t.countGood n k).only s l ks := State.only_modPll _ _ h hl

theorem State.countGood_pll (n k q : Nat) : (s.countGood n k).pll q = if q = n then { s.pll n with good := k } else s.pll q :=
  State.modPll_pll _ _ _ _

theorem State.countGood_obj (n k : Nat) (o : Obj) (j : Nat) : (s.countGood n k).obj o j = s.obj o j := State.modPll_obj _ _ _ _ _

/-- A window of a PLL that acquires or reacquires: one within 20 ppm counts, the fourth in a row locks, and any other starts the count anew. -/
theorem State.lockWindow_acquiring {n : Nat} (count : Nat) (h : s.pllState n = 1 ∨ s.pllState n = 3) : s.lockWindow n count =
    if max count (s.windowCount n) - min count (s.windowCount n) ≤ s.windowCount n * 20 / 1000000 then
      (if 4 ≤ (s.pll n).good + 1 then (s.vcoShown n count).pllLocked n else (s.vcoShown n count).countGood n ((s.pll n).good + 1))
    else (s.vcoShown n count).countGood n 0 := by
  have h0 : s.pllState n ≠ 0 := by omega
  have h2 : s.pllState n ≠ 2 := by omega
  unfold State.lockWindow
  dsimp only
  rw [if_neg h0, if_neg h2]
  simp only [State.setObj_pll, State.windowCount, State.vcoShown, State.countGood]
  exact if_congr decide_eq_true_iff rfl rfl

theorem State.lockWindow_counts {n count : Nat} (h : s.pllState n = 1 ∨ s.pllState n = 3) (hg : (s.pll n).good < 3)
    (hw : max count (s.windowCount n) - min count (s.windowCount n) ≤ s.windowCount n * 20 / 1000000) :
    s.lockWindow n count = (s.vcoShown n count).countGood n ((s.pll n).good + 1) := by
  rw [State.lockWindow_acquiring count h, if_pos hw, if_neg (by omega)]

theorem State.lockWindow_locks {n count : Nat} (h : s.pllState n = 1 ∨ s.pllState n = 3) (hg : 3 ≤ (s.pll n).good)
    (hw : max count (s.windowCount n) - min count (s.windowCount n) ≤ s.windowCount n * 20 / 1000000) :
    s.lockWindow n count = (s.vcoShown n count).pllLocked n := by
  rw [State.lockWindow_acquiring count h, if_pos hw, if_pos (by omega)]

theorem State.lockWindow_anew {n count : Nat} (h : s.pllState n = 1 ∨ s.pllState n = 3)
    (hw : s.windowCount n * 20 / 1000000 < max count (s.windowCount n) - min count (s.windowCount n)) :
    s.lockWindow n count = (s.vcoShown n count).countGood n 0 := by
  rw [State.lockWindow_acquiring count h, if_neg (Nat.not_le.mpr hw)]

/-- A window that does not touch the Hearth is the whole effect of its command, whichever the PLL. -/
theorem exec_lockWindowEnd {p : Fin 15} {count : Nat} {u : State} {l : List Part} {ks : List Nat} (hh : s.held = false)
    (hu : s.lockWindow p count = u) (ho : u.only s l ks) (hl : .hearth ∉ l) : exec (.lockWindowEnd p count) s = .next u := by
  subst hu
  change execLockWindowEnd p count s = _
  unfold execLockWindowEnd
  split
  · next h0 => rw [← h0]; exact run_next s (·.lockWindow p count) hh
  · exact runKeep_of_only hh ho hl

/-! A PLL locks (R198, R203). -/

/-- A PLL is LOCKED, and its lock detector begins anew. -/
def State.lockNoted (s : State) (n : Nat) : State := (s.setObj O.PLL_STATE 2 (n + 1)).countGood n 0

theorem State.lockNoted_only (s : State) (n : Nat) : (s.lockNoted n).only s [.plls] [keyOf O.PLL_STATE (n + 1)] :=
  State.only_countGood _ _ (State.only_setObj _ (State.only_refl _ _ _) (by simp)) (by simp)

theorem State.lockNoted_state (s : State) (n : Nat) : (s.lockNoted n).obj O.PLL_STATE (n + 1) = 2 :=
  State.obj_setObj_same s O.PLL_STATE 2 (n + 1)

theorem State.lockNoted_good (s : State) (n : Nat) : ((s.lockNoted n).pll n).good = 0 := by
  rw [State.lockNoted, State.countGood_pll, if_pos rfl]

/-- The SPLL feeds no island of CLK_FALLBACK and no output (R192, R219). -/
theorem State.pllLocked_spll (s : State) : s.pllLocked 0 = s.lockNoted 0 := rfl

theorem State.readyGate_only (s : State) (n : Nat) : (s.readyGate n).only s [.clkouts] [] := by
  unfold State.readyGate
  exact State.only_ite (State.only_modClkout _ _ (State.only_refl _ _ _) (by simp)) (State.only_refl _ _ _)

/-- An OPLL that locks sets the gates of its two outputs to open. -/
def State.opllNoted (s : State) (k : Nat) : State := ((s.lockNoted (k + 9)).readyGate (2 * k)).readyGate (2 * k + 1)

theorem State.opllNoted_gates (s : State) (k : Nat) : (s.opllNoted k).only (s.lockNoted (k + 9)) [.clkouts] [] :=
  State.only_trans (State.readyGate_only _ _) (State.readyGate_only _ _)

theorem State.opllNoted_obj {o : Obj} {j k : Nat} (ho : o.index ≠ O.PLL_STATE.index) (hj : j < 256) (hk : k < 4) :
    (s.opllNoted k).obj o j = s.obj o j :=
  (State.only_obj (s.opllNoted_gates k) (by simp)).trans (State.obj_setObj_other (s := s) (sub := k + 9 + 1) 2 ho hj (by omega))

/-- An OPLL that was BUSY is DONE as it locks (R204, R207). -/
theorem State.pllLocked_opll {k : Nat} (hk : k < 4) (hb : s.status O.OPLL_STATUS (k + 1) = 1) :
    s.pllLocked (k + 9) = (s.opllNoted k).setObj O.OPLL_STATUS 2 (k + 1) := by
  have houts : outputsOf (k + 9) = [2 * k, 2 * k + 1] := (if_pos (by omega)).trans (by simp)
  have hnone : islandBit (k + 9) = none := by rw [islandBit, if_neg (by omega), if_neg (by omega), if_neg (by omega)]
  have hislands (u : State) : u.wantFallback (k + 9) false = u := by rw [State.wantFallback, hnone]
  have hbusy : (s.opllNoted k).status O.OPLL_STATUS (k + 1) = 1 := by
    rw [State.status, State.opllNoted_obj (by decide) (by omega) hk]; exact hb
  unfold State.pllLocked
  simp only [hislands, houts]
  rw [if_neg (by omega), if_pos (by omega)]
  exact if_pos hbusy

/-! A LOCKED PLL is lost (R199 to R201). -/

/-- The bit of PLL_FLAGS of a cause of loss (R220). -/
def lossFlag (cause : PllLossCause) : Nat := if cause = .cycleSlip then 2 else 3

theorem exec_pllLoss (p : Fin 15) (cause : PllLossCause) (s : State) : exec (.pllLoss p cause) s =
    if p.val = 0 then run s fun s => if s.pllState 0 = 2 then s.pllLost 0 (lossFlag cause) else s
    else runKeep s fun s => if s.pllState p = 2 then s.pllLost p (lossFlag cause) else s := by
  cases cause <;> rfl

theorem exec_pllLoss_unlocked {p : Fin 15} (cause : PllLossCause) (hh : s.held = false) (h : s.pllState p ≠ 2) :
    exec (.pllLoss p cause) s = .next s := by
  rw [exec_pllLoss]
  split
  · next h0 => exact (run_next _ _ hh).trans (congrArg _ (if_neg (h0 ▸ h)))
  · exact runKeep_same hh (if_neg h)

/-- The CPLL has lost its lock: the loss is flagged and counted. -/
def State.cpllLossNoted (s : State) (flag : Nat) : State :=
  (((s.setObj O.PLL_STATE 3 14).countGood 13 0).raise O.PLL_FLAGS flag 14).count O.PLL_UNLOCKS 14

/-- Its island shall run on FBCLK, and its VCO band is calibrated anew. -/
theorem State.pllLost_cpll (s : State) (flag : Nat) :
    s.pllLost 13 flag = ((s.cpllLossNoted flag).wantFallback 13 true).calTrigger 2 13 := rfl

theorem State.cpllLossNoted_only (s : State) (flag : Nat) : (s.cpllLossNoted flag).only s (.plls :: flagParts)
    (keyOf O.PLL_STATE 14 :: keyOf O.PLL_UNLOCKS 14 :: flagKeys O.PLL_FLAGS 14) :=
  State.only_count _ _ _ (State.only_raise _ _ (State.only_countGood _ _ (State.only_setObj _ (State.only_refl _ _ _) (by simp)) (by simp))
    (by simp +contextual) (by simp +contextual)) (by simp)

theorem State.pllLost_cpll_only (s : State) (flag : Nat) : (s.pllLost 13 flag).only (s.cpllLossNoted flag) [.plls, .clk, .cal] [] :=
  s.pllLost_cpll flag ▸ State.only_calTrigger _ _ (State.wantFallback_only _ _ _) (by simp)

theorem State.pllLost_cpll_obj (s : State) (flag : Nat) (o : Obj) (j : Nat) :
    (s.pllLost 13 flag).obj o j = (s.cpllLossNoted flag).obj o j := State.only_obj (s.pllLost_cpll_only flag) (by simp)

theorem State.cpllLossNoted_state (s : State) (flag : Nat) : (s.cpllLossNoted flag).obj O.PLL_STATE 14 = 3 := by
  have hkey : O.PLL_STATE.key 14 ≠ O.PLL_UNLOCKS.key 14 := by decide
  rw [State.cpllLossNoted, State.count_obj_ne _ hkey, State.raise_obj _ _ _ _ (by decide)]
  exact State.obj_setObj_same s O.PLL_STATE 3 14

theorem State.cpllLossNoted_flags (s : State) (flag : Nat) :
    (s.cpllLossNoted flag).obj O.PLL_FLAGS 14 = (s.obj O.PLL_FLAGS 14 ||| 2 ^ flag) % 2 ^ 32 := by
  have hcount : O.PLL_FLAGS.key 14 ≠ O.PLL_UNLOCKS.key 14 := by decide
  have hstate : O.PLL_FLAGS.key 14 ≠ O.PLL_STATE.key 14 := by decide
  rw [State.cpllLossNoted, State.count_obj_ne _ hcount, State.raise_obj_same _ _ _ _ (by decide), State.countGood, State.modPll_obj,
    State.obj_setObj_ne _ _ hstate]
  rfl

theorem State.cpllLossNoted_unlocks (s : State) (flag : Nat) :
    (s.cpllLossNoted flag).obj O.PLL_UNLOCKS 14 = min (s.obj O.PLL_UNLOCKS 14 + 1) (2 ^ 32 - 1) := by
  have hstate : O.PLL_UNLOCKS.key 14 ≠ O.PLL_STATE.key 14 := by decide
  rw [State.cpllLossNoted, State.count_u32 _ _ _ _ rfl, State.raise_obj _ _ _ _ (by decide), State.countGood, State.modPll_obj,
    State.obj_setObj_ne _ _ hstate]

/-- The CPLL's island shall run on FBCLK, whatever wanted it before. -/
theorem State.pllLost_cpll_clk (s : State) (flag : Nat) :
    (s.pllLost 13 flag).clk = { s.clk with want := setBit s.clk.want 0 true } := by
  have hclk : (s.cpllLossNoted flag).clk = s.clk := (s.cpllLossNoted_only flag).1 .clk (by decide)
  rw [← hclk]
  rfl

theorem State.pllLost_cpll_good (s : State) (flag : Nat) : ((s.pllLost 13 flag).pll 13).good = 0 := by
  have hpll (t : State) : ((t.wantFallback 13 true).calTrigger 2 13).pll 13 = t.pll 13 := rfl
  rw [State.pllLost_cpll, hpll, State.cpllLossNoted, State.count_pll, State.raise_pll, State.countGood_pll, if_pos rfl]

/-! Step 3 of a frequency change, and its repetition (R203, R206). -/

theorem Plan.word_lt (p : Plan) : p.word < 2 ^ 32 := by
  unfold Plan.word
  omega

theorem State.acquire_only (s : State) (n : Nat) (p : Plan) : (s.acquire n p).only s [.plls, .cal] [keyOf O.PLL_DIV (n + 1)] :=
  State.only_modPll _ _ (State.only_setObj _ (State.only_calTrigger _ _ (State.only_refl _ _ _) (by simp)) (by simp)) (by simp)

theorem State.acquire_div (s : State) (n : Nat) (p : Plan) : (s.acquire n p).obj O.PLL_DIV (n + 1) = p.word :=
  (State.obj_setObj_same (s.calTrigger 2 n) O.PLL_DIV p.word (n + 1)).trans (Nat.mod_eq_of_lt p.word_lt)

theorem State.acquire_pll (s : State) (n : Nat) (p : Plan) : (s.acquire n p).pll n =
    { s.pll n with good := 0, change := false, forced := false, eth := decide (1 ≤ n ∧ n ≤ 8) && s.ethGroup (n - 1) } := by
  simp [State.acquire, State.calTrigger, State.ethGroup]

/-- VCO_BAND runs at every acquisition: an instance that was idle becomes PENDING (R463). -/
theorem State.acquire_vcoBand (s : State) (n : Nat) (p : Plan) :
    ((s.acquire n p).calRec 2 n).state = if (s.calRec 2 n).state = 0 then 1 else (s.calRec 2 n).state := by
  rw [State.acquire, State.modPll_calRec, State.setObj_calRec, State.calTrigger, State.calRec_modCal_same]
  split_ifs with h2 h0 h0
  · rw [h2] at h0
    cases h0
  · rfl
  · rfl
  · rfl

/-- The dividers that an acquisition that has failed loads again (R206). -/
def State.planAgain (s : State) (n : Nat) : Plan := if n = 0 then s.planOf 0 else planOfWord (s.obj O.PLL_DIV (n + 1))

theorem State.acqFail_eq {n : Nat} (h : s.pllState n = 1 ∨ s.pllState n = 3) :
    s.acqFail n = (s.raise O.PLL_FLAGS 4 (n + 1)).acquire n (s.planAgain n) := if_pos h

theorem State.raise_ethGroup (o : Obj) (b sub g : Nat) : (s.raise o b sub).ethGroup g = s.ethGroup g := by
  rw [State.ethGroup, State.raise_group, State.ethGroup]

theorem State.acqFail_only {n : Nat} (h : s.pllState n = 1 ∨ s.pllState n = 3) : (s.acqFail n).only s (.plls :: .cal :: flagParts)
    (keyOf O.PLL_DIV (n + 1) :: flagKeys O.PLL_FLAGS (n + 1)) :=
  State.acqFail_eq h ▸ State.only_trans (State.only_mono (State.acquire_only _ _ _) (by simp) (by simp))
    (State.only_mono (s.raise_only O.PLL_FLAGS 4 (n + 1)) (by simp +contextual) (by simp +contextual))

theorem State.acqFail_flags {n : Nat} (hn : n < 15) (h : s.pllState n = 1 ∨ s.pllState n = 3) :
    (s.acqFail n).obj O.PLL_FLAGS (n + 1) = (s.obj O.PLL_FLAGS (n + 1) ||| 16) % 2 ^ 32 := by
  have hdiv : O.PLL_FLAGS.key (n + 1) ≠ O.PLL_DIV.key (n + 1) := Obj.key_ne (by decide) (by omega) (by omega)
  rw [State.acqFail_eq h, State.only_obj (State.acquire_only _ _ _) (by simpa using hdiv),
    State.raise_obj_same _ _ _ _ (Obj.key_notMem_wakeKeys (by omega) (by decide))]
  rfl

/-! A multiplexer of an island completes (R202). -/

/-- A PLL that is in no frequency change goes to no step 3. -/
theorem State.tryStep3_same {n : Nat} (h : (s.pll n).change = false) : s.tryStep3 n = s := if_neg (by simp [h])

/-- An island runs from the source that is wanted for it. -/
def State.islandSwitched (s : State) (i : Island) : State :=
  s.setObj O.CLK_FALLBACK (setBit (s.obj O.CLK_FALLBACK) (islandPll i).2 (bit s.clk.want (islandPll i).2))

theorem State.islandSwitched_only (s : State) (i : Island) : (s.islandSwitched i).only s [] [keyOf O.CLK_FALLBACK] :=
  State.only_setObj _ (State.only_refl _ _ _) (by simp)

theorem exec_clockSwitch {i : Island} (hh : s.held = false) (hch : (s.pll (islandPll i).1).change = false) :
    exec (.clockSwitch i) s = .next (s.islandSwitched i) := by
  have hs : (s.islandSwitched i).tryStep3 (islandPll i).1 = s.islandSwitched i := State.tryStep3_same hch
  exact (runKeep_of_only (f := fun s => (s.islandSwitched i).tryStep3 (islandPll i).1) hh (hs.symm ▸ s.islandSwitched_only i) (by simp)).trans
    (congrArg _ hs)

/-! The sub-window of the frequency limit (R204). -/

/-- Whether a sub-window has found the VCO above 1.03 times its frequency. -/
def State.limitNoted (s : State) (n count : Nat) : State :=
  s.modPll n fun q => { q with forced := decide (103 * 1024 * s.feedback n < 100 * count) }

theorem State.limitNoted_only (s : State) (n count : Nat) : (s.limitNoted n count).only s [.plls] [] :=
  State.only_modPll _ _ (State.only_refl _ _ _) (by simp)

theorem exec_bandLimitCheck {p : Fin 15} {count : Nat} (hh : s.held = false) (hp : 0 < p.val) (hst : s.pllState p ≠ 0) :
    exec (.bandLimitCheck p count) s = .next (s.limitNoted p count) := by
  have hs : (if s.pllState p = 0 then s else s.modPll p fun q => { q with
      forced := decide (103 * 1024 * (if p.val = 0 then (s.planOf 0).fb else s.feedback p) < 100 * count) }) = s.limitNoted p count := by
    rw [if_neg hst, if_neg (by omega)]
    rfl
  exact (runKeep_of_only hh (hs.symm ▸ s.limitNoted_only p count) (by simp)).trans (congrArg _ hs)

end Sys2Proof.Machine

open Sys2Proof Sys2Proof.Machine

/-- Settles O16: the windows of the lock detector by `lockWindow_acquiring`, a lock, a loss and an acquisition that fails by what each leaves. -/
theorem pllsLockAndLose : Obligations.PllsLockAndLose := by
  unfold Obligations.PllsLockAndLose
  refine ⟨?spllCounts, ?spllLocks, ?counts, ?anew, ?opllLocks, ?cpllLost, ?spllLost, ?unlocked, ?acqFails, ?bandLimit, ?switch⟩
  case spllCounts =>
    intro s c hh hst hg hw
    rw [← State.windowCount_spll] at hw
    have ho : ((s.vcoShown 0 c).countGood 0 ((s.pll 0).good + 1)).only s [.plls] [keyOf O.PLL_VCO_KHZ 1] :=
      State.only_countGood _ _ (State.only_mono (s.vcoShown_only 0 c) (by simp) (by simp)) (by simp)
    have hrun := exec_lockWindowEnd (p := 0) hh (State.lockWindow_counts hst hg hw) ho (by simp)
    refine ⟨(s.vcoShown 0 c).countGood 0 _, hrun, ?_, fun q hq => ?_, ho⟩
    · rw [State.countGood_pll, if_pos rfl, State.vcoShown_pll]
      rfl
    · rw [State.countGood_pll, if_neg hq, State.vcoShown_pll]
  case spllLocks =>
    intro s c hh hst hg hw
    rw [← State.windowCount_spll] at hw
    have ho : ((s.vcoShown 0 c).lockNoted 0).only s [.plls] [keyOf O.PLL_VCO_KHZ 1, keyOf O.PLL_STATE 1] :=
      State.only_trans (State.only_mono (State.lockNoted_only _ 0) (by simp) (by simp)) (State.only_mono (s.vcoShown_only 0 c) (by simp) (by simp))
    have hrun := exec_lockWindowEnd (p := 0) hh ((State.lockWindow_locks hst hg hw).trans (State.pllLocked_spll _)) ho (by simp)
    refine ⟨(s.vcoShown 0 c).lockNoted 0, hrun, ?_, State.lockNoted_good _ 0, ho⟩
    simp [State.pllState, State.lockNoted_state _ 0]
  case counts =>
    intro s p c hh hp hst hg hw
    rw [← State.windowCount_of_pos hp] at hw
    have ho : ((s.vcoShown p c).countGood p ((s.pll p).good + 1)).only s [.plls] [keyOf O.PLL_VCO_KHZ (p + 1)] :=
      State.only_countGood _ _ (State.only_mono (s.vcoShown_only p c) (by simp) (by simp)) (by simp)
    refine ⟨_, exec_lockWindowEnd hh (State.lockWindow_counts hst hg hw) ho (by simp), ?_, ?_, fun q hq => ?_, ho⟩
    · rw [State.countGood_pll, if_pos rfl, State.vcoShown_pll]
    · rw [State.countGood_obj, State.vcoShown_shown]
    · rw [State.countGood_pll, if_neg hq, State.vcoShown_pll]
  case anew =>
    intro s p c hh hp hst hw
    rw [← State.windowCount_of_pos hp] at hw
    have ho : ((s.vcoShown p c).countGood p 0).only s [.plls] [keyOf O.PLL_VCO_KHZ (p + 1)] :=
      State.only_countGood _ _ (State.only_mono (s.vcoShown_only p c) (by simp) (by simp)) (by simp)
    refine ⟨_, exec_lockWindowEnd hh (State.lockWindow_anew hst hw) ho (by simp), ?_, ?_, ho⟩
    · rw [State.countGood_pll, if_pos rfl, State.vcoShown_pll]
    · rw [State.countGood_obj, State.vcoShown_obj c (by decide) (by omega) p.isLt]
  case opllLocks =>
    intro s k c hh hst hg hb hw
    have hk : k.val < 4 := k.isLt
    rw [← State.windowCount_of_pos (by omega)] at hw
    have hshown : (s.vcoShown (k + 9) c).status O.OPLL_STATUS (k + 1) = 1 := by
      rw [State.status, State.vcoShown_obj c (by decide) (by omega) (by omega)]
      exact hb
    have ho : (((s.vcoShown (k + 9) c).opllNoted k).setObj O.OPLL_STATUS 2 (k + 1)).only s [.plls, .clkouts]
        [keyOf O.PLL_VCO_KHZ (k + 10), keyOf O.PLL_STATE (k + 10), keyOf O.OPLL_STATUS (k + 1)] :=
      State.only_setObj _ (State.only_trans (State.only_mono (State.opllNoted_gates _ k) (by simp) (by simp))
        (State.only_trans (State.only_mono (State.lockNoted_only _ (k + 9)) (by simp) (by simp))
          (State.only_mono (s.vcoShown_only (k + 9) c) (by simp) (by simp)))) (by simp)
    refine ⟨_, exec_lockWindowEnd hh ((State.lockWindow_locks hst hg hw).trans (State.pllLocked_opll hk hshown)) ho (by simp), ?_, ?_, ?_, ho⟩
    · rw [State.obj_setObj_other _ (by decide) (by omega) (by omega), State.only_obj (State.opllNoted_gates _ k) (by simp)]
      exact State.lockNoted_state _ (k + 9)
    · rw [State.status, State.obj_setObj_same]
      rfl
    · rw [State.setObj_pll, State.pll, (State.opllNoted_gates _ k).1 .plls (by simp)]
      exact State.lockNoted_good _ (k + 9)
  case cpllLost =>
    intro s c hh hst
    have ho : (s.pllLost 13 (lossFlag c)).only s (.plls :: .clk :: .cal :: flagParts)
        (keyOf O.PLL_STATE 14 :: keyOf O.PLL_UNLOCKS 14 :: flagKeys O.PLL_FLAGS 14) :=
      State.only_trans (State.only_mono (s.pllLost_cpll_only _) (by simp) (by simp))
        (State.only_mono (s.cpllLossNoted_only _) (by simp +contextual) (fun _ h => h))
    have hrun : exec (.pllLoss 13 c) s = .next (s.pllLost 13 (lossFlag c)) := by
      have hlost : (if s.pllState 13 = 2 then s.pllLost 13 (lossFlag c) else s) = s.pllLost 13 (lossFlag c) := if_pos hst
      rw [exec_pllLoss, if_neg (by decide)]
      exact (runKeep_of_only hh (hlost ▸ ho) (by decide)).trans (congrArg _ hlost)
    refine ⟨_, hrun, ?_, ?_, ?_, s.pllLost_cpll_clk _, s.pllLost_cpll_good _, ho⟩ <;> rw [State.pllLost_cpll_obj]
    · exact s.cpllLossNoted_state _
    · rw [State.cpllLossNoted_flags]
      cases c <;> rfl
    · exact s.cpllLossNoted_unlocks _
  case spllLost =>
    intro s c hh hst
    have hrun : exec (.pllLoss 0 c) s = .next (s.holdReset false 16) := by
      have hlost : (if s.pllState 0 = 2 then s.pllLost 0 (lossFlag c) else s) = s.holdReset false 16 := if_pos hst
      rw [exec_pllLoss]
      exact (run_next _ _ hh).trans (congrArg _ hlost)
    exact ⟨_, hrun, s.holdReset_held false 16, rfl, rfl⟩
  case unlocked =>
    intro s p c hh hst
    exact exec_pllLoss_unlocked c hh hst
  case acqFails =>
    intro s p hh hst
    have ho := State.acqFail_only hst
    refine ⟨_, runKeep_of_only (f := (·.acqFail p)) hh ho (by decide), State.acqFail_flags p.isLt hst, ?_, ?_, ?_, ho⟩ <;>
      rw [State.acqFail_eq hst]
    · exact State.acquire_div _ _ _
    · rw [State.acquire_vcoBand, State.raise_calRec]
    · rw [State.acquire_pll, State.raise_pll, State.raise_ethGroup]
  case bandLimit =>
    intro s p c hh hp hst
    refine ⟨_, exec_bandLimitCheck hh hp hst, ?_, fun q hq => ?_, s.limitNoted_only p c⟩
    · rw [State.limitNoted, State.modPll_pll, if_pos rfl]
    · rw [State.limitNoted, State.modPll_pll, if_neg hq]
  case switch =>
    intro s i hh hch
    have ho := s.islandSwitched_only i
    refine ⟨_, exec_clockSwitch hh hch, State.obj_setObj_same _ _ _ _, ho⟩
end

section
/-! PROOF. Clock outputs and REFIN (R203, R205, R207, R209 to R214, R218, R221): the settings of an OPLL, the gates and the phases of its
outputs, the windows of REFIN, and O17 from them. The rounding of the time of a pin is log entry 5. -/

namespace Sys2Proof.Machine

variable {s : State}

/-! The settings of an OPLL and its outputs (R205, R207, R211). -/

theorem State.opllBusy_iff {k : Nat} : s.opllBusy k = true ↔ s.status O.OPLL_STATUS (k + 1) = 1 := beq_iff_eq

theorem State.status_of_zero {o : Obj} {sub : Nat} (h : s.obj o sub = 0) : s.status o sub = 0 := by
  rw [State.status, h]
  rfl

theorem State.opllBusy_idle {k : Nat} (h : s.obj O.OPLL_STATUS (k + 1) = 0) : s.opllBusy k = false := by
  rw [State.opllBusy, State.status_of_zero h]
  rfl

theorem State.opllCommit_refused {old : State} {k : Nat} (mult : Bool) (h : s.opllOk k = false) :
    s.opllCommit old k mult = old.setObj O.OPLL_STATUS 4 (k + 1) := if_pos (by simp [h])

/-- An output that stays enabled or disabled takes settings without a sequence if they are those in force, or if its gate is not OPEN. -/
theorem State.outputApply_same {old : State} {n : Nat} (hen : s.obj O.CLKOUT_EN (n + 1) = old.obj O.CLKOUT_EN (n + 1))
    (h : (s.obj O.CLKOUT_DIV (n + 1) = old.obj O.CLKOUT_DIV (n + 1) ∧ s.obj O.CLKOUT_STD (n + 1) = old.obj O.CLKOUT_STD (n + 1)) ∨
      s.gate n ≠ 2) : s.outputApply old n = s := by
  unfold State.outputApply
  dsimp only
  rw [hen, if_neg fun hx => hx.2 hx.1, if_neg fun hx => hx.1 hx.2]
  split_ifs with hsame hgate
  · rfl
  · exact absurd h (by simp_all)
  · rfl

/-- The gate of an output that is newly enabled: GATED until the OPLL is LOCKED. -/
def State.outputGated (s : State) (n : Nat) : State :=
  (s.setObj O.CLKOUT_GATE 1 (n + 1)).modClkout n fun c => { c with off := false, closing := false }

theorem State.outputGated_only (s : State) (n : Nat) : (s.outputGated n).only s [.clkouts] [keyOf O.CLKOUT_GATE (n + 1)] :=
  State.only_modClkout _ _ (State.only_setObj _ (State.only_refl _ _ _) (by simp)) (by simp)

theorem State.outputGated_obj {o : Obj} {j n : Nat} (ho : o.index ≠ O.CLKOUT_GATE.index) (hj : j < 256) (hn : n < 8) :
    (s.outputGated n).obj o j = s.obj o j :=
  State.only_obj (s.outputGated_only n) (by simpa using Obj.key_ne ho hj (by omega))

theorem State.outputGated_gate (s : State) (n : Nat) : (s.outputGated n).gate n = 1 :=
  State.obj_setObj_same s O.CLKOUT_GATE 1 (n + 1)

theorem State.outputApply_enabled {old : State} {n : Nat} (hn : n < 8) (hen : s.obj O.CLKOUT_EN (n + 1) = 1)
    (hold : old.obj O.CLKOUT_EN (n + 1) ≠ 1) (hgate : s.gate n ≠ 2) (hoff : s.obj O.PLL_STATE (n / 2 + 10) ≠ 2) :
    s.outputApply old n = s.outputGated n := by
  have hpll : ¬ ((s.outputGated n).obj O.PLL_STATE (n / 2 + 10) = 2 ∧ ¬ ((s.outputGated n).pll (n / 2 + 9)).change) := by
    rw [State.outputGated_obj (by decide) (by omega) hn]
    exact fun h => hoff h.1
  unfold State.outputApply
  dsimp only
  rw [if_pos ⟨hen, hold⟩, if_neg hgate]
  exact if_neg hpll

/-- The settings of an OPLL that is OFF: it starts where an output is enabled. -/
theorem State.opllCommit_off {old w : State} {k : Nat} (mult : Bool) (hok : s.opllOk k = true) (hst : s.obj O.OPLL_STATUS (k + 1) = 0)
    (happly : (s.outputApply old (2 * k)).outputApply old (2 * k + 1) = w) (hoff : w.obj O.PLL_STATE (k + 10) = 0) :
    s.opllCommit old k mult = if (w.obj O.CLKOUT_EN (2 * k + 1) == 1 || w.obj O.CLKOUT_EN (2 * k + 2) == 1) = true then
      (w.loadPlan (k + 9) (w.planOf (k + 9))).setObj O.OPLL_STATUS 1 (k + 1) else w := by
  have hne : ¬ s.status O.OPLL_STATUS (k + 1) = 4 := by rw [State.status_of_zero hst]; decide
  unfold State.opllCommit
  dsimp only
  rw [if_neg (by simp [hok]), if_neg hne, happly, if_pos hoff]

/-- Settings written for an OPLL that is OFF with both outputs disabled wait for it to start. -/
theorem State.opllCommit_waits {old : State} {k : Nat} (mult : Bool) (hok : s.opllOk k = true) (hst : s.obj O.OPLL_STATUS (k + 1) = 0)
    (h0 : s.outputApply old (2 * k) = s) (h1 : s.outputApply old (2 * k + 1) = s) (hoff : s.obj O.PLL_STATE (k + 10) = 0)
    (he0 : s.obj O.CLKOUT_EN (2 * k + 1) = 0) (he1 : s.obj O.CLKOUT_EN (2 * k + 2) = 0) : s.opllCommit old k mult = s := by
  rw [State.opllCommit_off mult hok hst (by rw [h0, h1]) hoff, he0, he1]
  exact if_neg (by decide)

theorem State.writeOpllMult_eq {k : Nat} (v : Nat) (h : s.opllBusy k = false) :
    s.writeOpllMult k v = (s.setObj O.OPLL_MULT v (k + 1)).opllCommit s k true := if_neg (by simp [h])

theorem State.writeOpllMult_off {k v : Nat} (hk : k < 4) (hst : s.obj O.OPLL_STATUS (k + 1) = 0)
    (hok : (s.setObj O.OPLL_MULT v (k + 1)).opllOk k = true) (hoff : s.obj O.PLL_STATE (k + 10) = 0)
    (he0 : s.obj O.CLKOUT_EN (2 * k + 1) = 0) (he1 : s.obj O.CLKOUT_EN (2 * k + 2) = 0) :
    s.writeOpllMult k v = s.setObj O.OPLL_MULT v (k + 1) := by
  have hobj {o : Obj} {j : Nat} (ho : o.index ≠ O.OPLL_MULT.index) (hj : j < 256) : (s.setObj O.OPLL_MULT v (k + 1)).obj o j = s.obj o j :=
    State.obj_setObj_other v ho hj (by omega)
  have happly {n : Nat} (hn : n < 8) : (s.setObj O.OPLL_MULT v (k + 1)).outputApply s n = s.setObj O.OPLL_MULT v (k + 1) :=
    State.outputApply_same (hobj (by decide) (by omega)) (.inl ⟨hobj (by decide) (by omega), hobj (by decide) (by omega)⟩)
  rw [State.writeOpllMult_eq v (State.opllBusy_idle hst)]
  refine State.opllCommit_waits true hok ?_ (happly (by omega)) (happly (by omega)) ?_ ?_ ?_ <;> rwa [hobj (by decide) (by omega)]

/-- CLKOUT_DIV and CLKOUT_STD written. -/
def State.divWritten (s : State) (n d std : Nat) : State := (s.setObj O.CLKOUT_DIV d (n + 1)).setObj O.CLKOUT_STD std (n + 1)

theorem State.divWritten_only (s : State) (n d std : Nat) :
    (s.divWritten n d std).only s [] [keyOf O.CLKOUT_DIV (n + 1), keyOf O.CLKOUT_STD (n + 1)] :=
  State.only_setObj _ (State.only_setObj _ (State.only_refl _ _ _) (by simp)) (by simp)

theorem State.divWritten_obj {o : Obj} {j n : Nat} (d std : Nat) (hd : o.index ≠ O.CLKOUT_DIV.index) (hs : o.index ≠ O.CLKOUT_STD.index)
    (hj : j < 256) (hn : n < 8) : (s.divWritten n d std).obj o j = s.obj o j := by
  rw [State.divWritten, State.obj_setObj_other _ hs hj (by omega), State.obj_setObj_other _ hd hj (by omega)]

/-- The settings of the other output of the OPLL stand. -/
theorem State.divWritten_other {n m : Nat} (d std : Nat) (hn : n < 8) (hm : m < 8) (h : m ≠ n) :
    (s.divWritten n d std).obj O.CLKOUT_DIV (m + 1) = s.obj O.CLKOUT_DIV (m + 1) ∧
      (s.divWritten n d std).obj O.CLKOUT_STD (m + 1) = s.obj O.CLKOUT_STD (m + 1) := by
  constructor
  · rw [State.divWritten, State.obj_setObj_other _ (by decide) (by omega) (by omega), State.obj_setObj_sub _ (by omega)]
  · rw [State.divWritten, State.obj_setObj_sub _ (by omega), State.obj_setObj_other _ (by decide) (by omega) (by omega)]

theorem State.writeClkoutDiv_off {n k d std : Nat} (hk : k < 4) (hn : n / 2 = k) (hst : s.obj O.OPLL_STATUS (k + 1) = 0) (hd : d ≤ 4096)
    (hstd : std ≤ 2) (hoff : s.obj O.PLL_STATE (k + 10) = 0) (he0 : s.obj O.CLKOUT_EN (2 * k + 1) = 0)
    (he1 : s.obj O.CLKOUT_EN (2 * k + 2) = 0) (hgate : s.gate n = 0) (hok : (s.divWritten n d std).opllOk k = true) :
    s.writeClkoutDiv n d std = s.divWritten n d std := by
  have hn8 : n < 8 := by omega
  have happly {m : Nat} (hm : m < 8) : (s.divWritten n d std).outputApply s m = s.divWritten n d std := by
    refine State.outputApply_same (State.divWritten_obj d std (by decide) (by decide) (by omega) hn8) ?_
    by_cases h : m = n
    · have hg : (s.divWritten n d std).gate n = s.gate n := State.divWritten_obj d std (by decide) (by decide) (by omega) hn8
      exact .inr (by rw [h, hg, hgate]; decide)
    · exact .inl (State.divWritten_other d std hn8 hm h)
  have hgo : ¬ (s.opllBusy (n / 2) = true ∨ 4096 < d ∨ 2 < std) := by
    rw [hn, State.opllBusy_idle hst]
    simp only [Bool.false_eq_true, false_or]
    omega
  unfold State.writeClkoutDiv
  rw [if_neg hgo, hn]
  change (s.divWritten n d std).opllCommit s k false = _
  refine State.opllCommit_waits false hok ?_ (happly (by omega)) (happly (by omega)) ?_ ?_ ?_ <;>
    rwa [State.divWritten_obj d std (by decide) (by decide) (by omega) hn8]

/-- An output enabled. -/
def State.enWritten (s : State) (n : Nat) : State := s.setObj O.CLKOUT_EN 1 (n + 1)

theorem State.enWritten_obj {o : Obj} {j n : Nat} (ho : o.index ≠ O.CLKOUT_EN.index) (hj : j < 256) (hn : n < 8) :
    (s.enWritten n).obj o j = s.obj o j := State.obj_setObj_other 1 ho hj (by omega)

theorem State.enWritten_same (s : State) (n : Nat) : (s.enWritten n).obj O.CLKOUT_EN (n + 1) = 1 :=
  State.obj_setObj_same s O.CLKOUT_EN 1 (n + 1)

/-- An output enabled, and its gate GATED. -/
def State.enGated (s : State) (n : Nat) : State := (s.enWritten n).outputGated n

theorem State.enGated_obj {o : Obj} {j n : Nat} (he : o.index ≠ O.CLKOUT_EN.index) (hg : o.index ≠ O.CLKOUT_GATE.index) (hj : j < 256)
    (hn : n < 8) : (s.enGated n).obj o j = s.obj o j := by
  rw [State.enGated, State.outputGated_obj hg hj hn, State.enWritten_obj he hj hn]

theorem State.enGated_en {n : Nat} (hn : n < 8) : (s.enGated n).obj O.CLKOUT_EN (n + 1) = 1 := by
  rw [State.enGated, State.outputGated_obj (by decide) (by omega) hn, State.enWritten_same]

theorem State.enGated_only (s : State) (n : Nat) :
    (s.enGated n).only s [.clkouts] [keyOf O.CLKOUT_EN (n + 1), keyOf O.CLKOUT_GATE (n + 1)] :=
  State.only_trans (State.only_mono (State.outputGated_only _ n) (by simp) (by simp)) (State.only_setObj _ (State.only_refl _ _ _) (by simp))

/-- The other output of the OPLL keeps its settings as one is enabled. -/
theorem State.enWritten_applyOther {n m : Nat} (hn : n < 8) (hm : m < 8) (h : m ≠ n) : (s.enWritten n).outputApply s m = s.enWritten n :=
  State.outputApply_same (State.obj_setObj_sub 1 (by omega))
    (.inl ⟨State.enWritten_obj (by decide) (by omega) hn, State.enWritten_obj (by decide) (by omega) hn⟩)

theorem State.enGated_applyOther {n m : Nat} (hn : n < 8) (hm : m < 8) (h : m ≠ n) : (s.enGated n).outputApply s m = s.enGated n :=
  State.outputApply_same ((State.outputGated_obj (by decide) (by omega) hn).trans (State.obj_setObj_sub 1 (by omega)))
    (.inl ⟨State.enGated_obj (by decide) (by decide) (by omega) hn, State.enGated_obj (by decide) (by decide) (by omega) hn⟩)

/-- Of the outputs of an OPLL that is OFF, both disabled, one is enabled and the other is not. -/
theorem State.enWritten_apply {k : Nat} (b : Bool) (hk : k < 4) (hen : s.obj O.CLKOUT_EN (2 * k + b2n b + 1) = 0)
    (hgate : s.gate (2 * k + b2n b) ≠ 2) (hoff : s.obj O.PLL_STATE (k + 10) = 0) :
    ((s.enWritten (2 * k + b2n b)).outputApply s (2 * k)).outputApply s (2 * k + 1) = s.enGated (2 * k + b2n b) := by
  have hb : b2n b ≤ 1 := by cases b <;> decide
  have hn : 2 * k + b2n b < 8 := by omega
  have hthis : (s.enWritten (2 * k + b2n b)).outputApply s (2 * k + b2n b) = s.enGated (2 * k + b2n b) := by
    refine State.outputApply_enabled hn (s.enWritten_same _) (by rw [hen]; decide) ?_ ?_
    · rwa [State.gate, State.enWritten_obj (by decide) (by omega) hn]
    · rw [State.enWritten_obj (by decide) (by omega) hn, show (2 * k + b2n b) / 2 = k by omega, hoff]
      decide
  cases b with
  | false => exact (congrArg (State.outputApply · s (2 * k + 1)) hthis).trans (State.enGated_applyOther hn (by omega) (by simp [b2n]))
  | true => exact (congrArg (State.outputApply · s (2 * k + 1)) (State.enWritten_applyOther hn (by omega) (by simp [b2n]))).trans hthis

/-- The dividers of a plan load, and the PLL acquires. -/
theorem State.loadPlan_frame (s : State) (n : Nat) (p : Plan) :
    (s.loadPlan n p).only s [.plls, .cal] [keyOf O.PLL_DIV (n + 1), keyOf O.PLL_STATE (n + 1)] :=
  State.only_setObj _ (State.only_mono (s.acquire_only n p) (fun _ h => h) (by simp)) (by simp)

theorem State.loadPlan_state (s : State) (n : Nat) (p : Plan) : (s.loadPlan n p).obj O.PLL_STATE (n + 1) = 1 :=
  State.obj_setObj_same (s.acquire n p) O.PLL_STATE 1 (n + 1)

/-- An OPLL starts. -/
def State.opllStarted (s : State) (k : Nat) : State := (s.loadPlan (k + 9) (s.planOf (k + 9))).setObj O.OPLL_STATUS 1 (k + 1)

theorem State.opllStarted_only (s : State) (k : Nat) : (s.opllStarted k).only s [.plls, .cal]
    [keyOf O.PLL_DIV (k + 10), keyOf O.PLL_STATE (k + 10), keyOf O.OPLL_STATUS (k + 1)] :=
  State.only_setObj _ (State.only_mono (s.loadPlan_frame (k + 9) _) (fun _ h => h) (by simp +contextual)) (by simp)

theorem State.opllStarted_obj {o : Obj} {j k : Nat} (hd : o.index ≠ O.PLL_DIV.index) (hp : o.index ≠ O.PLL_STATE.index)
    (hs : o.index ≠ O.OPLL_STATUS.index) (hj : j < 256) (hk : k < 4) : (s.opllStarted k).obj o j = s.obj o j :=
  State.only_obj (s.opllStarted_only k) (by
    simp only [List.mem_cons, List.not_mem_nil, or_false, not_or]
    exact ⟨Obj.key_ne hd hj (by omega), Obj.key_ne hp hj (by omega), Obj.key_ne hs hj (by omega)⟩)

theorem State.opllStarted_state {k : Nat} (hk : k < 4) : (s.opllStarted k).obj O.PLL_STATE (k + 10) = 1 := by
  rw [State.opllStarted, State.obj_setObj_other _ (by decide) (by omega) (by omega)]
  exact State.loadPlan_state _ (k + 9) _

theorem State.opllStarted_good (s : State) (k : Nat) : ((s.opllStarted k).pll (k + 9)).good = 0 := by
  rw [State.opllStarted, State.setObj_pll, State.loadPlan, State.setObj_pll, State.acquire_pll]

theorem State.writeClkoutEn_starts {k : Nat} (b : Bool) (hk : k < 4) (hst : s.obj O.OPLL_STATUS (k + 1) = 0)
    (hoff : s.obj O.PLL_STATE (k + 10) = 0) (hen : s.obj O.CLKOUT_EN (2 * k + b2n b + 1) = 0) (hgate : s.gate (2 * k + b2n b) ≠ 2)
    (hok : (s.enWritten (2 * k + b2n b)).opllOk k = true) :
    s.writeClkoutEn (2 * k + b2n b) 1 = (s.enGated (2 * k + b2n b)).opllStarted k := by
  have hb : b2n b ≤ 1 := by cases b <;> decide
  have hn : 2 * k + b2n b < 8 := by omega
  have hhalf : (2 * k + b2n b) / 2 = k := by omega
  have hon : ((s.enGated (2 * k + b2n b)).obj O.CLKOUT_EN (2 * k + 1) == 1 ||
      (s.enGated (2 * k + b2n b)).obj O.CLKOUT_EN (2 * k + 2) == 1) = true := by
    have h1 := State.enGated_en (s := s) hn
    cases b with
    | false => exact Bool.or_eq_true_iff.mpr (.inl (beq_iff_eq.mpr h1))
    | true => exact Bool.or_eq_true_iff.mpr (.inr (beq_iff_eq.mpr h1))
  unfold State.writeClkoutEn
  rw [hhalf, if_neg (by simp [State.opllBusy_idle hst])]
  refine (State.opllCommit_off false hok ?_ (State.enWritten_apply b hk hen hgate hoff) ?_).trans (if_pos hon)
  · rwa [State.enWritten_obj (by decide) (by omega) hn]
  · rwa [State.enGated_obj (by decide) (by decide) (by omega) hn]

/-! The gates of outputs (R203, R211, R212). -/

/-- A gate that is not DISABLED keeps its OPLL from going OFF. -/
theorem State.opllMaybeOff_same {n : Nat} (h : s.gate n ≠ 0) : s.opllMaybeOff (n / 2) = s := by
  have hboth : ¬ (s.gate (2 * (n / 2)) = 0 ∧ s.gate (2 * (n / 2) + 1) = 0) := by
    rintro ⟨h0, h1⟩
    rcases Nat.mod_two_eq_zero_or_one n with hm | hm
    · exact h (by rwa [show 2 * (n / 2) = n by omega] at h0)
    · exact h (by rwa [show 2 * (n / 2) + 1 = n by omega] at h1)
  exact if_neg fun hx => hboth ⟨hx.1, hx.2.1⟩

/-- A gate that has closed, of an output that stays enabled. -/
def State.gateShut (s : State) (n : Nat) : State :=
  (((s.setObj O.CLKOUT_GATE 1 (n + 1)).setObj O.CLKOUT_FREQ_ACT 0 (n + 1)).modClkout n fun c =>
    { c with closing := false, off := false, walk := false }).emit (.pin 2 n false s.now.toNat)

theorem State.gateShut_only (s : State) (n : Nat) :
    (s.gateShut n).only s [.clkouts, .out] [keyOf O.CLKOUT_GATE (n + 1), keyOf O.CLKOUT_FREQ_ACT (n + 1)] :=
  State.only_emit _ (State.only_modClkout _ _ (State.only_setObj _ (State.only_setObj _ (State.only_refl _ _ _) (by simp)) (by simp))
    (by simp)) (by simp)

theorem State.gateShut_gate {n : Nat} (hn : n < 8) : (s.gateShut n).gate n = 1 := by
  rw [State.gateShut, State.gate, State.emit_obj, State.modClkout_obj, State.obj_setObj_other _ (by decide) (by omega) (by omega),
    State.obj_setObj_same]
  rfl

theorem State.gateShut_freq (s : State) (n : Nat) : (s.gateShut n).obj O.CLKOUT_FREQ_ACT (n + 1) = 0 := by
  rw [State.gateShut, State.emit_obj, State.modClkout_obj, State.obj_setObj_same]
  exact Nat.zero_mod _

theorem State.gateShut_clkout (s : State) (n : Nat) :
    (s.gateShut n).clkout n = { s.clkout n with closing := false, off := false, walk := false } := by
  simp [State.gateShut]

/-- What follows a gate that has closed: it is set to open again where the OPLL is LOCKED, and an OPLL with both outputs disabled goes OFF. -/
def State.afterGate (s : State) (n : Nat) : State :=
  (if s.obj O.PLL_STATE (n / 2 + 10) = 2 ∧ ¬ (s.pll (n / 2 + 9)).change then s.readyGate n else s).opllMaybeOff (n / 2)

theorem State.afterGate_same {n : Nat} (hg : s.gate n ≠ 0) (hpll : s.obj O.PLL_STATE (n / 2 + 10) ≠ 2) : s.afterGate n = s := by
  rw [State.afterGate, if_neg fun h => hpll h.1, State.opllMaybeOff_same hg]

theorem State.gateClosed_eq {n : Nat} (hc : (s.clkout n).closing = true) (hoff : (s.clkout n).off = false) :
    s.gateClosed n = ((s.gateShut n).tryStep3 (n / 2 + 9)).afterGate n := by
  unfold State.gateClosed
  dsimp only
  rw [if_neg (by simp [hc]), hoff, if_neg Bool.false_ne_true]
  rfl

/-- Where the OPLL is not LOCKED and no frequency change waits, the gate stays closed. -/
theorem State.gateClosed_shut {n : Nat} (hn : n < 8) (hc : (s.clkout n).closing = true) (hoff : (s.clkout n).off = false)
    (hch : (s.pll (n / 2 + 9)).change = false) (hpll : s.obj O.PLL_STATE (n / 2 + 10) ≠ 2) : s.gateClosed n = s.gateShut n := by
  have hstep : (s.gateShut n).tryStep3 (n / 2 + 9) = s.gateShut n := State.tryStep3_same (by simpa [State.gateShut] using hch)
  have hstate : (s.gateShut n).obj O.PLL_STATE (n / 2 + 10) ≠ 2 := by
    rw [State.gateShut, State.emit_obj, State.modClkout_obj, State.obj_setObj_other _ (by decide) (by omega) (by omega),
      State.obj_setObj_other _ (by decide) (by omega) (by omega)]
    exact hpll
  rw [State.gateClosed_eq hc hoff, hstep]
  exact State.afterGate_same (by rw [State.gateShut_gate hn]; decide) hstate

/-- The objects of an output whose gate opens. -/
def State.openShown (s : State) (n : Nat) : State :=
  (((s.setObj O.CLKOUT_PHASE (s.obj O.CLKOUT_PHASE (n + 1) % s.phaseUnits n) (n + 1)).setObj O.CLKOUT_PHASE_ACT
    (s.obj O.CLKOUT_PHASE (n + 1) % s.phaseUnits n) (n + 1)).setObj O.CLKOUT_GATE 2 (n + 1)).setObj O.CLKOUT_FREQ_ACT
    ((2 * (s.outFreq n).1 + 1000 * (s.outFreq n).2) / (2000 * (s.outFreq n).2)) (n + 1)

/-- The time of the first rising edge of an output that opens on a boundary (R212). -/
def State.firstEdge (s : State) (first every : Nat) (ph : Nat) : Int :=
  s.f0Edge40 (s.nextBoundary first every) / 2 ^ 16 + roundDiv ((ph : Int) * 2 ^ 24) 2000

/-- An output that opens: its phase is CLKOUT_PHASE, and the whole correction of its delay is in force (R214, R474). -/
def Clkout.opened (c : Clkout) : Clkout :=
  { c with ready := false, walk := false, edges := 0, trim := c.trim + c.trimIn, trimIn := 0 }

def State.gateOpened (s : State) (n first every : Nat) : State :=
  ((s.openShown n).modClkout n fun c => c.opened).emit
    (.pin 2 n true (BitVec.ofInt 56 (s.firstEdge first every (s.obj O.CLKOUT_PHASE (n + 1) % s.phaseUnits n))).toNat)

theorem State.openShown_only (s : State) (n : Nat) : (s.openShown n).only s [] [keyOf O.CLKOUT_GATE (n + 1), keyOf O.CLKOUT_FREQ_ACT (n + 1),
    keyOf O.CLKOUT_PHASE (n + 1), keyOf O.CLKOUT_PHASE_ACT (n + 1)] :=
  State.only_setObj _ (State.only_setObj _ (State.only_setObj _ (State.only_setObj _ (State.only_refl _ _ _) (by simp)) (by simp)) (by simp))
    (by simp)

theorem State.openShown_sameClock {n : Nat} (hn : n < 8) : (s.openShown n).sameClock s := by
  refine State.sameClock_of_only (s.openShown_only n) (by simp) (by simp) fun k hk => ?_
  simp only [List.mem_cons, List.not_mem_nil, or_false] at hk
  rcases hk with rfl | rfl | rfl | rfl <;> rw [Obj.key_div _ (by omega)] <;> decide

theorem State.sameClock.firstEdge {t : State} (h : t.sameClock s) (first every ph : Nat) :
    t.firstEdge first every ph = s.firstEdge first every ph := by
  rw [State.firstEdge, State.firstEdge, h.f0Edge40, State.nextBoundary, State.nextBoundary, h.hearth, h.own O.F0_CNT (by decide) (by decide)]

theorem State.clkoutOpen_opened {n first every : Nat} (hn : n < 8) (hr : (s.clkout n).ready = true) (hh : s.outHold = false)
    (ho : s.outOff = false) (hg : s.gate n = 1) (hb : s.boundary n = some (first, every)) (hu : s.phaseUnits n ≠ 0) :
    s.clkoutOpen n = s.gateOpened n first every := by
  unfold State.clkoutOpen
  dsimp only
  rw [if_neg (by simp [hr, hh, ho, hg, hu]), hb]
  change ((s.openShown n).modClkout n fun c => c.opened).emit
    (.pin 2 n true (BitVec.ofInt 56 ((s.openShown n).firstEdge first every (s.obj O.CLKOUT_PHASE (n + 1) % s.phaseUnits n))).toNat) = _
  rw [(State.openShown_sameClock hn).firstEdge]
  rfl

theorem State.gateOpened_only (s : State) (n first every : Nat) : (s.gateOpened n first every).only s [.clkouts, .out]
    [keyOf O.CLKOUT_GATE (n + 1), keyOf O.CLKOUT_FREQ_ACT (n + 1), keyOf O.CLKOUT_PHASE (n + 1), keyOf O.CLKOUT_PHASE_ACT (n + 1)] :=
  State.only_emit _ (State.only_modClkout _ _ (State.only_mono (s.openShown_only n) (by simp) (fun _ h => h)) (by simp)) (by simp)

theorem State.gateOpened_obj (s : State) (n first every : Nat) (o : Obj) (j : Nat) :
    (s.gateOpened n first every).obj o j = (s.openShown n).obj o j := by
  rw [State.gateOpened, State.emit_obj, State.modClkout_obj]

theorem State.openShown_gate {n : Nat} (hn : n < 8) : (s.openShown n).obj O.CLKOUT_GATE (n + 1) = 2 := by
  rw [State.openShown, State.obj_setObj_other _ (by decide) (by omega) (by omega), State.obj_setObj_same]
  rfl

theorem State.openShown_phase {n : Nat} (hn : n < 8) :
    (s.openShown n).obj O.CLKOUT_PHASE_ACT (n + 1) = s.obj O.CLKOUT_PHASE (n + 1) % s.phaseUnits n % 2 ^ 32 := by
  rw [State.openShown, State.obj_setObj_other _ (by decide) (by omega) (by omega), State.obj_setObj_other _ (by decide) (by omega) (by omega),
    State.obj_setObj_same]
  rfl

theorem State.openShown_freq (s : State) (n : Nat) : (s.openShown n).obj O.CLKOUT_FREQ_ACT (n + 1) =
    (2 * (s.outFreq n).1 + 1000 * (s.outFreq n).2) / (2000 * (s.outFreq n).2) % 2 ^ 32 := State.obj_setObj_same _ _ _ _

theorem State.gateOpened_clkout (s : State) (n first every : Nat) : (s.gateOpened n first every).clkout n = (s.clkout n).opened := by
  simp [State.gateOpened, State.openShown]

/-! The phase of an output (R213, R214). -/

theorem State.setObj_phaseUnits {o : Obj} (v : Nat) {sub n : Nat} (hm : O.OPLL_MULT.index ≠ o.index) (hd : O.CLKOUT_DIV.index ≠ o.index)
    (hs : sub < 256) (hn : n < 8) : (s.setObj o v sub).phaseUnits n = s.phaseUnits n := by
  rw [State.phaseUnits, State.outFreq, State.obj_setObj_other v hm (by omega) hs, State.obj_setObj_other v hd (by omega) hs]
  rfl

theorem State.writeClkoutPhase_range {n v : Nat} (h : s.phaseUnits n ≤ v) : s.writeClkoutPhase n v = s := if_pos h

theorem State.writeClkoutPhase_waits {n v : Nat} (hn : n < 8) (h : v < s.phaseUnits n) (hg : s.gate n ≠ 2) :
    s.writeClkoutPhase n v = s.setObj O.CLKOUT_PHASE v (n + 1) := by
  have hgate : (s.setObj O.CLKOUT_PHASE v (n + 1)).gate n ≠ 2 := by
    rwa [State.gate, State.obj_setObj_other v (by decide) (by omega) (by omega)]
  exact (if_neg (Nat.not_le.mpr h)).trans (if_pos hgate)

/-- The way from the phase in force to `v`, upwards. -/
def State.wayTo (s : State) (n v : Nat) : Nat :=
  (v + s.phaseUnits n - s.obj O.CLKOUT_PHASE_ACT (n + 1) % s.phaseUnits n) % s.phaseUnits n

/-- A walk of an output along the shorter way round. -/
def Clkout.walking (c : Clkout) (d u : Nat) : Clkout :=
  { c with walk := d != 0, fwd := decide (2 * d ≤ u), edges := if c.walk then c.edges else 0 }

theorem State.writeClkoutPhase_walks {n v : Nat} (hn : n < 8) (h : v < s.phaseUnits n) (hg : s.gate n = 2) :
    s.writeClkoutPhase n v = (s.setObj O.CLKOUT_PHASE v (n + 1)).modClkout n fun c => c.walking (s.wayTo n v) (s.phaseUnits n) := by
  have hgate : ¬ (s.setObj O.CLKOUT_PHASE v (n + 1)).gate n ≠ 2 := by
    rw [State.gate, State.obj_setObj_other v (by decide) (by omega) (by omega)]
    exact not_not.mpr hg
  unfold State.writeClkoutPhase
  dsimp only
  rw [if_neg (Nat.not_le.mpr h), if_neg hgate, State.obj_setObj_other v (by decide) (by omega) (by omega)]
  rfl

/-- A command that writes an object of an output and changes the output. -/
theorem runKeep_outputWritten {f : State → State} {o : Obj} {v n : Nat} {g : Clkout → Clkout} (hh : s.held = false)
    (hf : f s = (s.setObj o v (n + 1)).modClkout n g) :
    ∃ t, runKeep s f = .next t ∧ t.obj o (n + 1) = v % 2 ^ (8 * o.ty.bytes) ∧ t.clkout n = g (s.clkout n) ∧
      (∀ m, m ≠ n → t.clkout m = s.clkout m) ∧ t.only s [.clkouts] [keyOf o (n + 1)] := by
  have ho : (f s).only s [.clkouts] [keyOf o (n + 1)] :=
    hf ▸ State.only_modClkout _ _ (State.only_setObj _ (State.only_refl _ _ _) (by simp)) (by simp)
  refine ⟨_, runKeep_of_only hh ho (by simp), ?_, ?_, fun m hm => ?_, ho⟩ <;> rw [hf]
  · rw [State.modClkout_obj, State.obj_setObj_same]
  · rw [State.modClkout_clkout, if_pos rfl, State.setObj_clkout]
  · rw [State.modClkout_clkout, if_neg hm, State.setObj_clkout]

theorem State.writeStepEvery_eq {n v : Nat} (h : v ≠ 0) :
    s.writeStepEvery n v = (s.setObj O.CLKOUT_STEP_EVERY v (n + 1)).modClkout n fun c => { c with edges := 0 } := if_neg h

/-- The steps of a walk that some rising edges make due. -/
def State.stepsDue (s : State) (n e : Nat) : Nat := ((s.clkout n).edges + e) / max 1 (s.obj O.CLKOUT_STEP_EVERY (n + 1))

/-- The phase in force of a walk, and the steps that are left of it. -/
def State.phaseNow (s : State) (n : Nat) : Nat := s.obj O.CLKOUT_PHASE_ACT (n + 1) % s.phaseUnits n

def State.stepsLeft (s : State) (n : Nat) : Nat :=
  let v := s.obj O.CLKOUT_PHASE (n + 1) % s.phaseUnits n
  if (s.clkout n).fwd then (v + s.phaseUnits n - s.phaseNow n) % s.phaseUnits n else (s.phaseNow n + s.phaseUnits n - v) % s.phaseUnits n

/-- The phase after `k` steps. -/
def State.phaseAfter (s : State) (n k : Nat) : Nat :=
  if (s.clkout n).fwd then (s.phaseNow n + k) % s.phaseUnits n else (s.phaseNow n + s.phaseUnits n - k) % s.phaseUnits n

/-- An output after rising edges: `m` steps of its delay's correction are in force too (R463). -/
def Clkout.stepped (more : Bool) (e every : Nat) (m : Int) (c : Clkout) : Clkout :=
  { c with walk := c.walk && more, edges := (c.edges + e) % max 1 every, trim := c.trim + m, trimIn := c.trimIn - m }

/-- Rising edges of an OPEN output with a walk: it moves by the steps that are due and left. -/
theorem State.phaseStep_walks {n e : Nat} (hg : s.gate n = 2) (hw : (s.clkout n).walk = true) (hu : s.phaseUnits n ≠ 0) :
    ∃ more m, s.phaseStep n e = (s.setObj O.CLKOUT_PHASE_ACT (s.phaseAfter n (min (s.stepsDue n e) (s.stepsLeft n))) (n + 1)).modClkout n
      (Clkout.stepped more e (s.obj O.CLKOUT_STEP_EVERY (n + 1)) m) := by
  unfold State.phaseStep
  dsimp only
  rw [if_neg (by simp [hg, hw, hu]), hw]
  exact ⟨_, _, rfl⟩

theorem State.phaseAfter_zero {n : Nat} (h : s.obj O.CLKOUT_PHASE_ACT (n + 1) < s.phaseUnits n) :
    s.phaseAfter n 0 = s.obj O.CLKOUT_PHASE_ACT (n + 1) := by
  rw [State.phaseAfter, State.phaseNow, Nat.mod_eq_of_lt h, Nat.add_zero, Nat.sub_zero, Nat.add_mod_right, Nat.mod_eq_of_lt h, ite_self]

/-- A walk that has not reached its phase has a step left. -/
theorem State.stepsLeft_pos {n : Nat} (hu : s.phaseUnits n ≠ 0) (hne : s.obj O.CLKOUT_PHASE (n + 1) % s.phaseUnits n ≠ s.phaseNow n) :
    0 < s.stepsLeft n := by
  have hpos : 0 < s.phaseUnits n := Nat.pos_of_ne_zero hu
  have hv : s.obj O.CLKOUT_PHASE (n + 1) % s.phaseUnits n < s.phaseUnits n := Nat.mod_lt _ hpos
  have ha : s.phaseNow n < s.phaseUnits n := Nat.mod_lt _ hpos
  have way {x y : Nat} (hx : x < s.phaseUnits n) (hy : y < s.phaseUnits n) (h : x ≠ y) : 0 < (x + s.phaseUnits n - y) % s.phaseUnits n := by
    rcases Nat.lt_or_ge x y with hlt | hge
    · rw [Nat.mod_eq_of_lt (by omega)]; omega
    · rw [Nat.mod_eq_sub_mod (by omega), Nat.mod_eq_of_lt (by omega)]; omega
  unfold State.stepsLeft
  dsimp only
  split
  · exact way hv ha hne
  · exact way ha hv hne.symm

/-- A command that moves the phase of an output by `k` steps. -/
theorem exec_phaseStep {n : Fin 8} {e k : Nat} (hh : s.held = false) (hg : s.gate n = 2) (hw : (s.clkout n).walk = true)
    (hu : s.phaseUnits n ≠ 0) (hk : min (s.stepsDue n e) (s.stepsLeft n) = k) :
    ∃ t, exec (.clkoutPhaseStep ⟨n, e⟩) s = .next t ∧ t.obj O.CLKOUT_PHASE_ACT (n + 1) = s.phaseAfter n k % 2 ^ 32 ∧
      (t.clkout n).edges = ((s.clkout n).edges + e) % max 1 (s.obj O.CLKOUT_STEP_EVERY (n + 1)) ∧
      t.only s [.clkouts] [keyOf O.CLKOUT_PHASE_ACT (n + 1)] := by
  obtain ⟨more, m, hs⟩ := State.phaseStep_walks (e := e) hg hw hu
  rw [hk] at hs
  have ho : (s.phaseStep n e).only s [.clkouts] [keyOf O.CLKOUT_PHASE_ACT (n + 1)] :=
    hs ▸ State.only_modClkout _ _ (State.only_setObj _ (State.only_refl _ _ _) (by simp)) (by simp)
  refine ⟨_, runKeep_of_only (f := (·.phaseStep n e)) hh ho (by simp), ?_, ?_, ho⟩ <;> rw [hs]
  · rw [State.modClkout_obj, State.obj_setObj_same]
    rfl
  · rw [State.modClkout_clkout, if_pos rfl, State.setObj_clkout]
    rfl

/-! The windows of REFIN (R218). -/

/-- REFIN_STATE, and what its qualification remembers. -/
def State.refNoted (s : State) (st : Nat) (c : ClkSys) : State := { s.setObj O.REFIN_STATE st with clk := c }

theorem State.refNoted_only (s : State) (st : Nat) (c : ClkSys) : (s.refNoted st c).only s [.clk] [keyOf O.REFIN_STATE] :=
  State.only_with_clk _ (State.only_setObj _ (State.only_refl _ _ _) (by simp)) (by simp)

theorem State.refNoted_state (s : State) {st : Nat} (c : ClkSys) (h : st < 2 ^ 8) : (s.refNoted st c).obj O.REFIN_STATE = st :=
  (State.obj_setObj_same s O.REFIN_STATE st _).trans (Nat.mod_eq_of_lt h)

/-- A command that finds REFIN in a state. -/
theorem runKeep_refNoted {f : State → State} {st : Nat} {c : ClkSys} (hh : s.held = false) (hst : st < 2 ^ 8) (hf : f s = s.refNoted st c) :
    ∃ t, runKeep s f = .next t ∧ t.obj O.REFIN_STATE = st ∧ t.clk = c ∧ t.only s [.clk] [keyOf O.REFIN_STATE] := by
  have ho := s.refNoted_only st c
  refine ⟨_, runKeep_of_only hh (hf ▸ ho) (by simp), ?_, ?_, hf ▸ ho⟩ <;> rw [hf]
  · exact s.refNoted_state c hst
  · rfl

theorem State.refinWindow_far {d : Int} (h : 1000000 < d.natAbs) :
    s.refinWindow d = s.refNoted 0 { s.clk with refGood := 0, refSeen := true } := if_pos h

theorem State.refinWindow_part {d : Int} (h : d.natAbs ≤ 1000000) (hseen : s.clk.refSeen = false) :
    s.refinWindow d = { s with clk := { s.clk with refSeen := true } } := by
  unfold State.refinWindow
  dsimp only
  rw [if_neg (Nat.not_lt.mpr h), hseen]
  rfl

/-- What a whole window at `d` ppb from its place makes of REFIN. -/
def State.refWhole (s : State) (d : Nat) : State :=
  let inTol := decide (d ≤ s.obj O.REFIN_TOL * 1000)
  s.refNoted (if s.obj O.REFIN_STATE = 2 ∧ inTol then 2 else 1)
    { s.clk with refGood := if s.obj O.REFIN_STATE ≠ 0 ∧ inTol then s.clk.refGood + 1 else 0 }

theorem State.refinWindow_eq_refWhole {d : Int} (h : d.natAbs ≤ 1000000) (hseen : s.clk.refSeen = true) :
    s.refinWindow d = s.refWhole d.natAbs := by
  have hs : { s with clk := { s.clk with refSeen := true } } = s := by rw [← hseen]
  have hbranch : s.refinWindow d = if !s.clk.refSeen then { s with clk := { s.clk with refSeen := true } }
      else { s with clk := { s.clk with refSeen := true } }.refWhole d.natAbs := if_neg (Nat.not_lt.mpr h)
  rw [hbranch, hs, hseen]
  rfl

theorem State.refinWindow_whole {d : Int} (h : d.natAbs ≤ 1000000) (hseen : s.clk.refSeen = true) : s.refinWindow d =
    s.refNoted (if s.obj O.REFIN_STATE = 2 ∧ d.natAbs ≤ s.obj O.REFIN_TOL * 1000 then 2 else 1)
      { s.clk with refGood := if s.obj O.REFIN_STATE ≠ 0 ∧ d.natAbs ≤ s.obj O.REFIN_TOL * 1000 then s.clk.refGood + 1 else 0 } := by
  rw [State.refinWindow_eq_refWhole h hseen]
  simp only [State.refWhole, decide_eq_true_eq]

theorem State.refinQualified_only (s : State) :
    ((s.setObj O.REFIN_STATE 2).modServo fun m => { m with ppsSince := false }).only s [.servo] [keyOf O.REFIN_STATE] :=
  State.only_modServo _ (State.only_setObj _ (State.only_refl _ _ _) (by simp)) (by simp)

end Sys2Proof.Machine

open Sys2Proof Sys2Proof.Machine

/-- Settles O17: the settings of an OPLL that is OFF by `opllCommit_off`, a gate that closes or opens and a phase by what each leaves, REFIN by
its windows. -/
theorem clockOutputsFollow : Obligations.ClockOutputsFollow := by
  unfold Obligations.ClockOutputsFollow
  refine ⟨?busy, ?multRefused, ?multWritten, ?enabled, ?divWritten, ?phaseRange, ?phaseWaits, ?phaseWalks, ?stepEvery, ?gateCloses,
    ?gateOpens, ?stepDue, ?noStepDue, ?refAbsent, ?refFar, ?refPart, ?refWhole, ?refQualified⟩
  case busy =>
    intro s k v hh hb
    exact runKeep_same (g := (·.writeOpllMult k v.toNat)) hh (if_pos hb)
  case multRefused =>
    intro s k v hh hb hok
    have hs : s.writeOpllMult k v.toNat = s.setObj O.OPLL_STATUS 4 (k + 1) :=
      (State.writeOpllMult_eq _ hb).trans (State.opllCommit_refused true hok)
    have ho : (s.writeOpllMult k v.toNat).only s [] [keyOf O.OPLL_STATUS (k + 1)] :=
      hs ▸ State.only_setObj _ (State.only_refl _ _ _) (by simp)
    refine ⟨_, runKeep_of_only (f := (·.writeOpllMult k v.toNat)) hh ho (by simp), ?_, ?_, ho⟩ <;> rw [hs]
    · rw [State.status, State.obj_setObj_same]
      rfl
    · exact State.obj_setObj_other 4 (by decide) (by omega) (by omega)
  case multWritten =>
    intro s k v hh hst hok hoff he0 he1
    have hs := State.writeOpllMult_off k.isLt hst hok hoff he0 he1
    have ho : (s.writeOpllMult k v.toNat).only s [] [keyOf O.OPLL_MULT (k + 1)] :=
      hs ▸ State.only_setObj _ (State.only_refl _ _ _) (by simp)
    refine ⟨_, runKeep_of_only (f := (·.writeOpllMult k v.toNat)) hh ho (by simp), ?_, ho⟩
    rw [hs, State.obj_setObj_same]
    exact Nat.mod_eq_of_lt v.isLt
  case enabled =>
    intro s k b hh hst hoff he0 he1 hgate hok
    have hk : k.val < 4 := k.isLt
    have hb : b2n b ≤ 1 := by cases b <;> decide
    have hn : 2 * k.val + b2n b < 8 := by omega
    have hen : s.obj O.CLKOUT_EN (2 * k + b2n b + 1) = 0 := by cases b <;> assumption
    have hs := State.writeClkoutEn_starts b hk hst hoff hen hgate hok
    have ho : (s.writeClkoutEn (2 * k + b2n b) 1).only s [.clkouts, .plls, .cal] [keyOf O.CLKOUT_EN (2 * k + b2n b + 1),
        keyOf O.CLKOUT_GATE (2 * k + b2n b + 1), keyOf O.PLL_STATE (k + 10), keyOf O.PLL_DIV (k + 10), keyOf O.OPLL_STATUS (k + 1)] :=
      hs ▸ State.only_trans (State.only_mono (State.opllStarted_only _ k) (by simp) (by simp))
        (State.only_mono (s.enGated_only (2 * k + b2n b)) (by simp) (by simp))
    refine ⟨_, runKeep_of_only (f := (·.writeClkoutEn (2 * k + b2n b) 1)) hh ho (by simp), ?_, ?_, ?_, ?_, ?_, ho⟩ <;> rw [hs]
    · rw [State.opllStarted_obj (by decide) (by decide) (by decide) (by omega) hk, State.enGated_en hn]
    · rw [State.gate, State.opllStarted_obj (by decide) (by decide) (by decide) (by omega) hk]
      exact State.outputGated_gate _ _
    · exact State.opllStarted_state hk
    · rw [State.status, State.opllStarted, State.obj_setObj_same]
      rfl
    · exact State.opllStarted_good _ k
  case divWritten =>
    intro s k b d std hh hst hd hstd hoff he0 he1 hgate hok
    have hb : b2n b ≤ 1 := by cases b <;> decide
    have hs := State.writeClkoutDiv_off k.isLt (by omega) hst hd hstd hoff he0 he1 hgate hok
    have ho := hs ▸ s.divWritten_only (2 * k + b2n b) d.toNat std.toNat
    refine ⟨_, runKeep_of_only (f := (·.writeClkoutDiv (2 * k + b2n b) d.toNat std.toNat)) hh ho (by simp), ?_, ?_, ho⟩ <;> rw [hs]
    · rw [State.divWritten, State.obj_setObj_other _ (by decide) (by omega) (by omega), State.obj_setObj_same]
      exact Nat.mod_eq_of_lt d.isLt
    · rw [State.divWritten, State.obj_setObj_same]
      exact Nat.mod_eq_of_lt std.isLt
  case phaseRange =>
    intro s n v hh h
    exact runKeep_same (g := (·.writeClkoutPhase n v.toNat)) hh (State.writeClkoutPhase_range h)
  case phaseWaits =>
    intro s n v hh h hg
    have hs := State.writeClkoutPhase_waits n.isLt h hg
    have ho : (s.writeClkoutPhase n v.toNat).only s [] [keyOf O.CLKOUT_PHASE (n + 1)] :=
      hs ▸ State.only_setObj _ (State.only_refl _ _ _) (by simp)
    refine ⟨_, runKeep_of_only (f := (·.writeClkoutPhase n v.toNat)) hh ho (by simp), ?_, ho⟩
    rw [hs, State.obj_setObj_same]
    exact Nat.mod_eq_of_lt v.isLt
  case phaseWalks =>
    intro s n v hh h hg
    have hs := State.writeClkoutPhase_walks n.isLt h hg
    obtain ⟨t, hrun, hobj, hout, hother, ho⟩ := runKeep_outputWritten (f := (·.writeClkoutPhase n v.toNat)) hh hs
    exact ⟨t, hrun, hobj.trans (Nat.mod_eq_of_lt v.isLt), hout, hother, ho⟩
  case stepEvery =>
    intro s n v hh h
    obtain ⟨t, hrun, hobj, hout, hother, ho⟩ := runKeep_outputWritten (f := (·.writeStepEvery n v.toNat)) hh (State.writeStepEvery_eq h)
    exact ⟨t, hrun, hobj.trans (Nat.mod_eq_of_lt v.isLt), hout, hother, ho⟩
  case gateCloses =>
    intro s n hh hc hoff hch hpll
    have hs := State.gateClosed_shut n.isLt hc hoff hch hpll
    have ho := hs ▸ s.gateShut_only n
    refine ⟨_, runKeep_of_only (f := (·.gateClosed n)) hh ho (by simp), ?_, ?_, ?_, ?_, ho⟩ <;> rw [hs]
    · exact State.gateShut_gate n.isLt
    · exact s.gateShut_freq n
    · exact s.gateShut_clkout n
    · rfl
  case gateOpens =>
    intro s n first every hh hr hhold hout hg hb hu
    have hs := State.clkoutOpen_opened n.isLt hr hhold hout hg hb hu
    have ho := hs ▸ s.gateOpened_only n first every
    refine ⟨_, runKeep_of_only (f := (·.clkoutOpen n)) hh ho (by simp), ?_, ?_, ?_, ?_, ?_, ho⟩ <;> rw [hs]
    · exact (s.gateOpened_obj ..).trans (State.openShown_gate n.isLt)
    · exact (s.gateOpened_obj ..).trans (State.openShown_phase n.isLt)
    · exact (s.gateOpened_obj ..).trans (s.openShown_freq n)
    · exact s.gateOpened_clkout n first every
    · rfl
  case stepDue =>
    intro s n e hh hg hw hu hdue htrim hne
    have hleft : 0 < s.stepsLeft n := State.stepsLeft_pos hu hne
    exact exec_phaseStep hh hg hw hu (k := 1) (by rw [State.stepsDue, hdue]; omega)
  case noStepDue =>
    intro s n e hh hg hw hu hlt hact
    obtain ⟨t, hrun, hobj, hedges, ho⟩ := exec_phaseStep (e := e) hh hg hw hu (k := 0)
      (by rw [State.stepsDue, Nat.div_eq_of_lt hlt, Nat.zero_min])
    exact ⟨t, hrun, by rw [hobj, State.phaseAfter_zero hact], by rw [hedges, Nat.mod_eq_of_lt hlt], ho⟩
  case refAbsent =>
    intro s hh
    exact runKeep_refNoted hh (by decide) rfl
  case refFar =>
    intro s d hh h
    exact runKeep_refNoted (f := (·.refinWindow d)) hh (by decide) (State.refinWindow_far h)
  case refPart =>
    intro s d hh h hseen
    have hs := State.refinWindow_part h hseen
    have ho : (s.refinWindow d).only s [.clk] [] := hs ▸ State.only_with_clk _ (State.only_refl _ _ _) (by simp)
    exact ⟨_, runKeep_of_only (f := (·.refinWindow d)) hh ho (by simp), by rw [hs], ho⟩
  case refWhole =>
    intro s d hh h hseen
    exact runKeep_refNoted (f := (·.refinWindow d)) hh (by split <;> decide) (State.refinWindow_whole h hseen)
  case refQualified =>
    intro s hh hst hq
    have hs : (if s.obj O.REFIN_STATE = 1 ∧ s.obj O.REFIN_QUAL ≤ s.clk.refGood * 100 then
        (s.setObj O.REFIN_STATE 2).modServo fun m => { m with ppsSince := false } else s) =
        (s.setObj O.REFIN_STATE 2).modServo fun m => { m with ppsSince := false } := if_pos ⟨hst, hq⟩
    exact ⟨_, (runKeep_of_only hh (hs.symm ▸ s.refinQualified_only) (by simp)).trans (congrArg _ hs),
      State.obj_setObj_same s O.REFIN_STATE 2 _, rfl, s.refinQualified_only⟩
end

section
/-! PROOF. Pulse generators and levels (R226 to R236): what a pin's output and an edge leave, ARM, DISARM and the writes of TIO_MODE and
TIO_LEVEL, and O20 from them. That ARM on a generator that runs is REFUSED is log entry 58. -/

namespace Sys2Proof.Machine

variable {s t : State} {l : List Part} {ks : List Nat} {p : Nat}

/-! The frames of a pin's output and of a pulse. -/

theorem State.only_drivePin (p : Nat) (level : Bool) (x : Int) (h : t.only s l ks) (hl : .out ∈ l) : (t.drivePin p level x).only s l ks := by
  unfold State.drivePin
  exact State.only_ite h (State.only_emit _ h hl)

theorem State.drivePin_out (level : Bool) (x : Int) (h : s.outOff = false) : (s.drivePin p level x).out =
    .pin 0 p (Bool.xor (level && !s.outHold) (s.obj O.TIO_POL (p + 1) == 1)) (BitVec.ofInt 56 (toPs x)).toNat :: s.out := by
  rw [State.drivePin, if_neg (by rw [h]; decide)]
  rfl

/-- The generators stand where a frame leaves them out. -/
theorem State.only_gen (h : t.only s l ks) (hl : .gens ∉ l) (q : Nat) : t.gen q = s.gen q := by
  rw [State.gen, h.1 .gens hl, State.gen]

@[simp] theorem State.drivePin_gen (p : Nat) (level : Bool) (x : Int) (q : Nat) : (s.drivePin p level x).gen q = s.gen q :=
  State.only_gen (State.only_drivePin p level x (State.only_refl s [.out] []) (by simp)) (by simp) q

@[simp] theorem State.drivePin_obj (p : Nat) (level : Bool) (x : Int) (o : Obj) (j : Nat) : (s.drivePin p level x).obj o j = s.obj o j :=
  State.only_obj (State.only_drivePin p level x (State.only_refl s [.out] []) (by simp)) (by simp)

/-- The end of a pulse (R227). -/
def Gen.lowered (g : Gen) : Gen := { g with high := false, width := 0 }

/-- The time at which the pulse that a pin stands in ends (R227). -/
def Gen.fallAt (g : Gen) : Time56 := g.rose + BitVec.ofInt 56 (psToU g.width)

theorem State.falling_low (h : (s.gen p).high = false) : s.falling p = s := if_pos (by rw [h]; rfl)

theorem State.falling_high (h : (s.gen p).high = true) (hs : s.tio.suspended = false) :
    s.falling p = (s.modGen p Gen.lowered).drivePin p false (s.gen p).fallAt.toNat :=
  (if_neg (by rw [h]; decide)).trans
    (congrArg (fun x : Time56 => (s.modGen p Gen.lowered).drivePin p false x.toNat) (if_neg (by rw [hs]; exact Bool.false_ne_true)))

theorem State.only_falling (p : Nat) (h : t.only s l ks) (hg : .gens ∈ l) (ho : .out ∈ l) : (t.falling p).only s l ks := by
  unfold State.falling
  exact State.only_ite h (State.only_drivePin _ _ _ (State.only_modGen _ _ h hg) ho)

/-- The start of a pulse of `w` ps (R227). -/
def Gen.raised (g : Gen) (x : Int) (w : Nat) : Gen := { g with high := true, width := w, rose := BitVec.ofInt 56 x }

theorem State.riseAt_missed {x : Int} (w : Nat) (h : (s.gen p).high = true) (hx : tdiff56 (BitVec.ofInt 56 x) (s.gen p).fallAt < 0) :
    s.riseAt p x w = s.count O.TIO_MISSED (p + 1) := if_pos (by rw [h, Bool.true_and, decide_eq_true_eq]; exact hx)

theorem State.riseAt_low (x : Int) (w : Nat) (h : (s.gen p).high = false) :
    s.riseAt p x w = (s.modGen p (·.raised x w)).drivePin p true x := by
  simp [State.riseAt, h, State.falling_low h, Gen.raised]

theorem State.only_riseAt (p : Nat) (x : Int) (w : Nat) (h : t.only s l ks) (hg : .gens ∈ l) (ho : .out ∈ l)
    (hk : O.TIO_MISSED.key (p + 1) ∈ ks) : (t.riseAt p x w).only s l ks := by
  unfold State.riseAt
  exact State.only_ite (State.only_count _ _ _ h hk)
    (State.only_drivePin _ _ _ (State.only_modGen _ _ (State.only_falling p h hg ho) hg) ho)

theorem State.falling_k : ((s.falling p).gen p).k = (s.gen p).k := by
  unfold State.falling
  dsimp only
  split
  · rfl
  · simp

/-- A pulse that begins, or is missed, is none of the generator's count of edges. -/
theorem State.riseAt_k (x : Int) (w : Nat) : ((s.riseAt p x w).gen p).k = (s.gen p).k := by
  unfold State.riseAt
  dsimp only
  split
  · simp
  · simp [State.falling_k]

/-! A rising edge that falls due (R227, R231, R233, R234). -/

theorem State.calEdge_idle {c : Nat} (h5 : (s.calRec 5 c).state ≠ 2) (h6 : (s.calRec 6 c).state ≠ 2) : s.calEdge c = s := by
  simp [State.calEdge, State.calViolate, h5, h6]

/-- The generator goes on to the edge after F0 edge `e`. -/
def Gen.passed (g : Gen) (e period : Nat) : Gen := { g with k := g.k + 1, fromF0 := e + 1, due := g.due + period }

/-- A generator's edge has passed. -/
def State.edgePassed (s : State) (p e : Nat) : State := s.modGen p (·.passed e (s.obj O.TIO_PERIOD (p + 1)))

/-- The generator's edge leaves, or is missed (R233). -/
def State.edgeLeaves (s : State) (p : Nat) : State :=
  (s.riseAt p (s.riseTime p) (s.obj O.TIO_WIDTH (p + 1))).edgePassed p (s.nextF0 p)

theorem State.only_edgePassed (p e : Nat) (h : t.only s l ks) (hg : .gens ∈ l) : (t.edgePassed p e).only s l ks :=
  State.only_modGen _ _ h hg

theorem State.only_edgeLeaves (p : Nat) (h : t.only s l ks) (hg : .gens ∈ l) (ho : .out ∈ l) (hk : O.TIO_MISSED.key (p + 1) ∈ ks) :
    (t.edgeLeaves p).only s l ks := State.only_edgePassed _ _ (State.only_riseAt _ _ _ h hg ho hk) hg

@[simp] theorem State.edgePassed_gen (p e : Nat) : (s.edgePassed p e).gen p = (s.gen p).passed e (s.obj O.TIO_PERIOD (p + 1)) := by
  simp [State.edgePassed]

/-- The pulse that an edge begins on a pin that is low (R227). -/
theorem State.edgeLeaves_low (h : (s.gen p).high = false) : s.edgeLeaves p = ((s.modGen p (·.raised (s.riseTime p)
    (s.obj O.TIO_WIDTH (p + 1)))).drivePin p true (s.riseTime p)).edgePassed p (s.nextF0 p) := by
  rw [State.edgeLeaves, State.riseAt_low _ _ h]

/-- An edge within the active phase of the previous pulse (R233). -/
theorem State.edgeLeaves_missed (h : (s.gen p).high = true) (hx : tdiff56 (BitVec.ofInt 56 (s.riseTime p)) (s.gen p).fallAt < 0) :
    s.edgeLeaves p = (s.count O.TIO_MISSED (p + 1)).edgePassed p (s.nextF0 p) := by
  rw [State.edgeLeaves, State.riseAt_missed _ h hx]

/-- A missed edge counts, and the generator goes on. -/
theorem State.missed_passed (hp : p < 16) (e : Nat) :
    ((s.count O.TIO_MISSED (p + 1)).edgePassed p e).obj O.TIO_MISSED (p + 1) = min (s.obj O.TIO_MISSED (p + 1) + 1) (2 ^ 32 - 1) ∧
    ((s.count O.TIO_MISSED (p + 1)).edgePassed p e).gen p = (s.gen p).passed e (s.obj O.TIO_PERIOD (p + 1)) ∧
    ((s.count O.TIO_MISSED (p + 1)).edgePassed p e).only s [.gens] [keyOf O.TIO_MISSED (p + 1)] := by
  refine ⟨s.count_u32 O.TIO_MISSED (p + 1) 1 rfl, ?_, State.only_edgePassed _ _ (State.only_count _ _ _ (State.only_refl _ _ _) (by simp))
    (by simp)⟩
  rw [State.edgePassed_gen, State.count_gen, State.count_obj_ne _ (Obj.key_ne (by decide) (by omega) (by omega))]

theorem State.edgeLeaves_k : ((s.edgeLeaves p).gen p).k = (s.gen p).k + 1 := by
  simp [State.edgeLeaves, Gen.passed, State.riseAt_k]

theorem State.rising_eq (hg : s.isGen p = true) (hb : s.genBusy p = true) : s.rising p =
    let u := s.calEdge p
    if u.tio.suspended then
      if u.tioMode p == 2 && (u.gen p).k != 0 then u else (u.count O.TIO_MISSED (p + 1)).edgePassed p (u.nextF0 p)
    else if u.lastEdge p (u.gen p).k then (u.edgeLeaves p).genEnd p 2 else u.edgeLeaves p :=
  if_neg (by rw [hg, hb]; decide)

theorem State.rising_suspended (hg : s.isGen p = true) (hb : s.genBusy p = true) (h5 : (s.calRec 5 p).state ≠ 2)
    (h6 : (s.calRec 6 p).state ≠ 2) (hs : s.tio.suspended = true) (h : s.tioMode p = 3 ∨ (s.gen p).k = 0) :
    s.rising p = (s.count O.TIO_MISSED (p + 1)).edgePassed p (s.nextF0 p) := by
  rw [State.rising_eq hg hb, State.calEdge_idle h5 h6]
  exact (if_pos hs).trans (if_neg (by rcases h with h | h <;> simp [h]))

theorem State.rising_leaves (hg : s.isGen p = true) (hb : s.genBusy p = true) (h5 : (s.calRec 5 p).state ≠ 2)
    (h6 : (s.calRec 6 p).state ≠ 2) (hs : s.tio.suspended = false) :
    s.rising p = if s.lastEdge p (s.gen p).k then (s.edgeLeaves p).genEnd p 2 else s.edgeLeaves p := by
  rw [State.rising_eq hg hb, State.calEdge_idle h5 h6]
  exact if_neg (by rw [hs]; decide)

/-- An object outside the reach of an abort of a calibration's run. -/
theorem Obj.key_notMem_calEdgeKeys {o : Obj} {j : Nat} (hj : j < 256) (ho : o.index ∉ calEdgeKeys.map (· / 256)) : o.key j ∉ calEdgeKeys :=
  fun h => ho (o.key_div hj ▸ List.mem_map_of_mem h)

theorem State.calEdge_obj {c j : Nat} (o : Obj) (hj : j < 256) (ho : o.index ∉ calEdgeKeys.map (· / 256)) :
    (s.calEdge c).obj o j = s.obj o j :=
  State.only_obj (s.calEdge_only c) (Obj.key_notMem_calEdgeKeys hj ho)

/-- The last edge ends the generator, whatever runs of calibrations it violates. -/
theorem State.rising_last (hp : p < 16) (hg : s.isGen p = true) (hb : s.genBusy p = true) (hs : s.tio.suspended = false)
    (hlast : s.lastEdge p (s.gen p).k = true) : s.rising p = ((s.calEdge p).edgeLeaves p).genEnd p 2 := by
  have ho := s.calEdge_only p
  have htio : (s.calEdge p).tio.suspended = false := (congrArg Tio.suspended (ho.1 .tio (by decide))).trans hs
  have hl : (s.calEdge p).lastEdge p ((s.calEdge p).gen p).k = true := by
    rw [State.only_gen ho (by decide), State.lastEdge, State.tioMode, State.calEdge_obj _ (by omega) (by decide),
      State.calEdge_obj _ (by omega) (by decide)]
    exact hlast
  rw [State.rising_eq hg hb]
  exact (if_neg (by rw [htio]; decide)).trans (if_pos hl)

theorem State.only_genEnd (p st : Nat) (h : t.only s l ks) (hg : .gens ∈ l) (hk : O.TIO_STATUS.key (p + 1) ∈ ks) :
    (t.genEnd p st).only s l ks := State.only_modGen _ _ (State.only_endStatus _ _ h hk) hg

@[simp] theorem State.genEnd_gen (p st : Nat) : (s.genEnd p st).gen p = { s.gen p with on := false } := by
  simp [State.genEnd, State.endStatus]

@[simp] theorem State.genEnd_status (p st : Nat) : (s.genEnd p st).status O.TIO_STATUS (p + 1) = st % 16 :=
  State.status_endStatus s O.TIO_STATUS (p + 1) st 0 (by decide)

theorem State.lastEdge_only (s : State) (p : Nat) : (((s.calEdge p).edgeLeaves p).genEnd p 2).only s (.gens :: .out :: .cal :: flagParts)
    (keyOf O.TIO_STATUS (p + 1) :: keyOf O.TIO_MISSED (p + 1) :: calEdgeKeys) :=
  State.only_genEnd _ _ (State.only_edgeLeaves _ (State.only_mono (s.calEdge_only p) (by simp +contextual) (by simp +contextual)) (by simp)
    (by simp) (by simp)) (by simp) (by simp)

/-! ARM and DISARM (R227, R228, R231). -/

/-- The generator waits for its first edge from the arming edge on (R227). -/
def Gen.armed (g : Gen) (f0 : Nat) (due : Int) : Gen := { g with on := true, k := 0, fromF0 := f0, due := due }

theorem State.armGen_refused (f0 now : Nat) (h : s.isGen p = false ∨ s.genBusy p = true ∨ s.genOk p = false) :
    s.armGen p f0 now = s.cmdStatus O.TIO_STATUS (p + 1) 1 4 :=
  if_pos (by rcases h with h | h | h <;> simp [h])

section
variable {f0 now : Nat} (hg : s.isGen p = true) (hb : s.genBusy p = false) (hok : s.genOk p = true)
include hg hb hok

theorem State.armGen_late (h0 : s.obj O.TIO_TIMEBASE (p + 1) = 0) (hl : tdiff (s.obj O.TIO_T0 (p + 1) / 2 ^ 32) now < 100) :
    s.armGen p f0 now = (s.cmdStatus O.TIO_STATUS (p + 1) 1 6).raise O.TIO_FLAGS 4 (p + 1) :=
  (if_neg (by rw [hg, hb, hok]; decide)).trans (if_pos ⟨h0, hl⟩)

theorem State.armGen_armed (h : s.obj O.TIO_TIMEBASE (p + 1) ≠ 0 ∨ 100 ≤ tdiff (s.obj O.TIO_T0 (p + 1) / 2 ^ 32) now) :
    s.armGen p f0 now = (s.cmdStatus O.TIO_STATUS (p + 1) 1 1).modGen p
      (·.armed f0 (s.extended (BitVec.ofNat 56 (s.obj O.TIO_T0 (p + 1) / 256)))) := by
  refine (if_neg (by rw [hg, hb, hok]; decide)).trans (if_neg ?_)
  rintro ⟨h0, hl⟩
  rcases h with h | h
  · exact h h0
  · omega

end

/-- DISARM that comes with the last edge or behind it (R231). -/
def State.disarmLate (s : State) (p : Nat) : State := s.abortLate O.TIO_STATUS (p + 1) 2 O.TIO_FLAGS 2 (p + 1)

/-- DISARM that ends the generator. -/
def State.disarmed (s : State) (p : Nat) : State :=
  (s.cmdStatus O.TIO_STATUS (p + 1) 2 3).modGen p fun g => { g with on := false }

theorem State.disarmGen_wins {c : Bool} (hb : s.genBusy p = true)
    (h : c = false ∨ s.isGen p = false ∨ s.lastEdge p (s.gen p).k = false ∨ s.tio.suspended = true) :
    s.disarmGen p c = s.disarmed p :=
  (if_pos hb).trans (if_neg (by rcases h with h | h | h | h <;> simp [h]))

theorem State.disarmGen_loses (hb : s.genBusy p = true) (hg : s.isGen p = true) (hlast : s.lastEdge p (s.gen p).k = true)
    (hs : s.tio.suspended = false) : s.disarmGen p true = (s.rising p).disarmLate p :=
  (if_pos hb).trans (if_pos (by simp [hg, hlast, hs]))

theorem State.disarmGen_done (hb : s.genBusy p = false) (hg : s.isGen p = true) (hst : s.status O.TIO_STATUS (p + 1) = 2)
    (hcmd : bits (s.obj O.TIO_STATUS (p + 1)) 7 4 = 1) : s.disarmGen p true = s.disarmLate p := by
  rw [State.status] at hst
  exact (if_neg (by rw [hb]; decide)).trans (if_pos (by simp [hg, hst, hcmd]))

theorem State.disarmGen_refused {c : Bool} (hb : s.genBusy p = false) (h : c = false ∨ s.isGen p = false ∨
    s.status O.TIO_STATUS (p + 1) ≠ 2 ∨ bits (s.obj O.TIO_STATUS (p + 1)) 7 4 ≠ 1) :
    s.disarmGen p c = s.cmdStatus O.TIO_STATUS (p + 1) 2 4 := by
  simp only [State.status] at h
  exact (if_neg (by rw [hb]; decide)).trans (if_neg (by rcases h with h | h | h | h <;> simp [h]))

theorem State.only_disarmLate (p : Nat) (h : t.only s l ks) (hl : ∀ x ∈ flagParts, x ∈ l) (hk : O.TIO_STATUS.key (p + 1) ∈ ks)
    (hw : ∀ k ∈ flagKeys O.TIO_FLAGS (p + 1), k ∈ ks) : (t.disarmLate p).only s l ks := State.only_abortLate _ _ h hk hl hw

@[simp] theorem State.disarmLate_gen (q : Nat) : (s.disarmLate p).gen q = s.gen q := by
  simp [State.disarmLate, State.abortLate, State.lateStatus]

/-- A pin's status word stands where flags are raised. -/
theorem State.raise_tioStatus {f : Obj} {b j : Nat} (hp : p < 16) (hj : j < 256) (hf : O.TIO_STATUS.index ≠ f.index) :
    (s.raise f b j).obj O.TIO_STATUS (p + 1) = s.obj O.TIO_STATUS (p + 1) :=
  State.raise_obj _ _ _ _ (Obj.key_notMem_flagKeys (by omega) hj hf (by decide))

/-- A bit of a pin's flags that is raised. -/
theorem State.raise_tioFlags (b : Nat) (hp : p < 18) :
    (s.raise O.TIO_FLAGS b (p + 1)).obj O.TIO_FLAGS (p + 1) = (s.obj O.TIO_FLAGS (p + 1) ||| 2 ^ b) % 2 ^ 32 :=
  State.raise_obj_same _ _ _ _ (Obj.key_notMem_wakeKeys (by omega) (by decide))

/-- An abort that lost: DONE with ABORT_LATE, and its latched copy (R228, R231). -/
theorem State.disarmLate_fields (hp : p < 16) : (s.disarmLate p).status O.TIO_STATUS (p + 1) = 2 ∧
    bit ((s.disarmLate p).obj O.TIO_STATUS (p + 1)) 8 = true ∧
    (s.disarmLate p).obj O.TIO_FLAGS (p + 1) = (s.obj O.TIO_FLAGS (p + 1) ||| 4) % 2 ^ 32 := by
  obtain ⟨hst, -, hlate, -⟩ := s.setStatus_fields O.TIO_STATUS (p + 1) 0 true 2 2 (by decide)
  rw [State.status] at hst ⊢
  rw [State.disarmLate, State.abortLate, State.raise_tioStatus hp (by omega) (by decide), State.raise_tioFlags _ (by omega)]
  refine ⟨hst, hlate, ?_⟩
  rw [State.lateStatus, State.setStatus, State.obj_setObj_other _ (by decide) (by omega) (by omega)]
  rfl

/-! Writes of TIO_MODE and TIO_LEVEL, and the safe timeout (R226, R236, R463). -/

theorem State.writeTioMode_refused {v : Nat} (h : s.tioModeOk p v = false) : s.writeTioMode p v = s := if_pos (by rw [h]; rfl)

/-- A mode that is written, and taken: the pulse that the pin stands in is over. -/
def State.modeTaken (s : State) (p v : Nat) : State := (s.setObj O.TIO_MODE v (p + 1)).modGen p Gen.lowered

theorem State.only_modeTaken (p v : Nat) (h : t.only s l ks) (hg : .gens ∈ l) (hk : O.TIO_MODE.key (p + 1) ∈ ks) :
    (t.modeTaken p v).only s l ks := State.only_modGen _ _ (State.only_setObj _ h hk) hg

theorem State.modeTaken_mode {v : Nat} (hv : v < 2 ^ 8) : (s.modeTaken p v).tioMode p = v :=
  (State.obj_setObj_same s O.TIO_MODE v _).trans (Nat.mod_eq_of_lt hv)

@[simp] theorem State.modeTaken_gen (v q : Nat) : (s.modeTaken p v).gen q = if q = p then (s.gen p).lowered else s.gen q := by
  rw [State.modeTaken, State.modGen_gen]
  rfl

theorem State.writeTioMode_capture (hok : s.tioModeOk p 1 = true) (h0 : s.tioMode p = 0) :
    s.writeTioMode p 1 = (s.modeTaken p 1).calTrigger 5 p := by
  have hv : s.tioMode p ≠ 1 := by omega
  unfold State.writeTioMode
  rw [if_neg (by simp [hok])]
  dsimp only
  rw [if_neg hv, if_pos h0, if_pos (by decide)]
  rfl

theorem State.writeTioMode_output {v : Nat} (hok : s.tioModeOk p v = true) (h0 : s.tioMode p ≠ 0) (hv : s.tioMode p ≠ v)
    (h2 : 2 ≤ v) (h4 : v ≠ 4) : s.writeTioMode p v = (s.modeTaken p v).drivePin p false s.now.toNat := by
  unfold State.writeTioMode
  rw [if_neg (by simp [hok])]
  dsimp only
  rw [if_neg hv, if_neg h0, if_neg (Nat.not_lt.mpr h2), if_neg fun h => h4 h.1]
  rfl

/-- A pin's mode stands where another object is written. -/
theorem State.setObj_tioMode {o : Obj} (v : Nat) {sub : Nat} (hp : p < 16) (ho : O.TIO_MODE.index ≠ o.index) (hs : sub < 256) :
    (s.setObj o v sub).tioMode p = s.tioMode p := State.obj_setObj_other v ho (by omega) hs

theorem State.setLevel_held {v : Nat} (hp : p < 16) (h : s.tioMode p ≠ 4) : s.setLevel p v = s.setObj O.TIO_LEVEL v (p + 1) :=
  if_neg (by rwa [State.setObj_tioMode v hp (by decide) (by omega)])

theorem State.setLevel_driven {v : Nat} (hp : p < 16) (h : s.tioMode p = 4) :
    s.setLevel p v = (s.setObj O.TIO_LEVEL v (p + 1)).drivePin p (v == 1) s.now.toNat :=
  if_pos (by rwa [State.setObj_tioMode v hp (by decide) (by omega)])

theorem State.writeLevel_range {v : Nat} (h : 1 < v) : (if v ≤ 1 then s.setLevel p v else s) = s := if_neg (Nat.not_le.mpr h)

theorem State.only_setLevel (p v : Nat) (h : t.only s l ks) (hl : .out ∈ l) (hk : O.TIO_LEVEL.key (p + 1) ∈ ks) :
    (t.setLevel p v).only s l ks := by
  unfold State.setLevel State.setLevelAt
  exact State.only_ite (State.only_drivePin _ _ _ (State.only_setObj _ h hk) hl) (State.only_setObj _ h hk)

theorem State.setLevel_obj {v : Nat} (o : Obj) (j : Nat) : (s.setLevel p v).obj o j = (s.setObj O.TIO_LEVEL v (p + 1)).obj o j := by
  unfold State.setLevel State.setLevelAt
  dsimp only
  split
  · exact State.drivePin_obj ..
  · rfl

/-- One pin at the safe timeout (R236). -/
def State.safePin (s : State) (p : Nat) : State :=
  if s.tioMode p = 4 ∧ s.obj O.TIO_SAFE_LEVEL (p + 1) < 2 then
    (s.setLevel p (s.obj O.TIO_SAFE_LEVEL (p + 1))).raise O.TIO_FLAGS 5 (p + 1)
  else s

theorem State.safeTimeout_never (h : s.obj O.TIO_SAFE_TIMEOUT = 0 ∨ s.obj O.HIER_RANK = 0) : s.safeTimeout = s := if_pos h

theorem State.safeTimeout_pins (ht : s.obj O.TIO_SAFE_TIMEOUT ≠ 0) (hr : s.obj O.HIER_RANK ≠ 0) :
    s.safeTimeout = forEach (List.range 16) State.safePin s := if_neg (not_or.mpr ⟨ht, hr⟩)

/-- Folding an effect over elements that have views of their own: an element's view changes as its own effect says. -/
theorem forEach_view {α β : Type} {f : State → α → State} (v : State → β) (g : β → β) {x : α} {xs : List α} (hd : xs.Nodup)
    (hx : x ∈ xs) (hown : ∀ u, v (f u x) = g (v u)) (hother : ∀ u, ∀ y ∈ xs, y ≠ x → v (f u y) = v u) (s : State) :
    v (forEach xs f s) = g (v s) := by
  have hrest (ys : List α) (hsub : ∀ y ∈ ys, y ∈ xs) (hno : x ∉ ys) : ∀ u, v (forEach ys f u) = v u := by
    induction ys with
    | nil => exact fun _ => rfl
    | cons y ys ih =>
      intro u
      obtain ⟨hne, hno⟩ := not_or.mp (List.mem_cons.not.mp hno)
      exact (ih (fun z hz => hsub z (List.mem_cons_of_mem _ hz)) hno (f u y)).trans
        (hother u y (hsub y List.mem_cons_self) (Ne.symm hne))
  obtain ⟨as, bs, rfl⟩ := List.append_of_mem hx
  have hsplit : forEach (as ++ x :: bs) f s = forEach bs f (f (forEach as f s) x) := List.foldl_append
  rw [List.nodup_append] at hd
  obtain ⟨-, hdb, hab⟩ := hd
  rw [hsplit, hrest bs (by simp +contextual) (List.nodup_cons.mp hdb).1, hown,
    hrest as (by simp +contextual) fun h => hab x h x List.mem_cons_self rfl]

theorem State.safePin_only (s : State) (p : Nat) :
    (s.safePin p).only s (.out :: flagParts) (keyOf O.TIO_LEVEL (p + 1) :: flagKeys O.TIO_FLAGS (p + 1)) := by
  unfold State.safePin
  exact State.only_ite (State.only_raise _ _ (State.only_setLevel _ _ (State.only_refl _ _ _) (by simp) (by simp)) (by simp +contextual)
    (by simp +contextual)) (State.only_refl _ _ _)

/-- What the safe timeout reads and writes of a pin: its mode, its safe level, its level and its flags. -/
def State.safeView (s : State) (p : Nat) : Nat × Nat × Nat × Nat :=
  (s.tioMode p, s.obj O.TIO_SAFE_LEVEL (p + 1), s.obj O.TIO_LEVEL (p + 1), s.obj O.TIO_FLAGS (p + 1))

/-- A pin at the safe timeout, as its view has it. -/
def safeStep (v : Nat × Nat × Nat × Nat) : Nat × Nat × Nat × Nat :=
  if v.1 = 4 ∧ v.2.1 < 2 then (v.1, v.2.1, v.2.1, (v.2.2.2 ||| 32) % 2 ^ 32) else v

theorem State.safePin_own (hp : p < 16) : (s.safePin p).safeView p = safeStep (s.safeView p) := by
  by_cases h : s.tioMode p = 4 ∧ s.obj O.TIO_SAFE_LEVEL (p + 1) < 2
  · have hmode : ((s.safePin p).tioMode p) = s.tioMode p := State.only_obj (s.safePin_only p) (by
      simp only [List.mem_cons, not_or]
      exact ⟨Obj.key_ne (by decide) (by omega) (by omega), Obj.key_notMem_flagKeys (by omega) (by omega) (by decide) (by decide)⟩)
    have hsafe : ((s.safePin p).obj O.TIO_SAFE_LEVEL (p + 1)) = s.obj O.TIO_SAFE_LEVEL (p + 1) := State.only_obj (s.safePin_only p) (by
      simp only [List.mem_cons, not_or]
      exact ⟨Obj.key_ne (by decide) (by omega) (by omega), Obj.key_notMem_flagKeys (by omega) (by omega) (by decide) (by decide)⟩)
    have hlevel : (s.safePin p).obj O.TIO_LEVEL (p + 1) = s.obj O.TIO_SAFE_LEVEL (p + 1) := by
      rw [State.safePin, if_pos h, State.raise_obj _ _ _ _ (Obj.key_notMem_flagKeys (by omega) (by omega) (by decide) (by decide)),
        State.setLevel_obj, State.obj_setObj_same]
      exact Nat.mod_eq_of_lt (h.2.trans (by decide))
    have hflags : (s.safePin p).obj O.TIO_FLAGS (p + 1) = (s.obj O.TIO_FLAGS (p + 1) ||| 32) % 2 ^ 32 := by
      rw [State.safePin, if_pos h, State.raise_tioFlags _ (by omega), State.setLevel_obj,
        State.obj_setObj_other _ (by decide) (by omega) (by omega)]
      rfl
    rw [State.safeView, hmode, hsafe, hlevel, hflags]
    exact (if_pos h).symm
  · rw [State.safePin, if_neg h]
    exact (if_neg h).symm

theorem State.safePin_other {q : Nat} (hp : p < 16) (hq : q < 16) (h : q ≠ p) : (s.safePin q).safeView p = s.safeView p := by
  have hkeep {o : Obj} (hk : o.key (p + 1) ≠ O.TIO_LEVEL.key (q + 1) ∧ o.key (p + 1) ≠ O.TIO_FLAGS.key (q + 1))
      (hw : o.index ∉ [O.LT_LOST.index, O.OBS_FLAGS.index, O.ENG_STATE.index, O.ENG_SLOT_IDLE.index]) :
      (s.safePin q).obj o (p + 1) = s.obj o (p + 1) := State.only_obj (s.safePin_only q) (by
    simp only [flagKeys, List.mem_cons, not_or]
    exact ⟨hk.1, hk.2, Obj.key_notMem_wakeKeys (by omega) hw⟩)
  have hne (o : Obj) : o.key (p + 1) ≠ o.key (q + 1) := by unfold Obj.key; omega
  have hdiff {o o' : Obj} (ho : o.index ≠ o'.index) : o.key (p + 1) ≠ o'.key (q + 1) := Obj.key_ne ho (by omega) (by omega)
  rw [State.safeView, State.tioMode, hkeep ⟨hdiff (by decide), hdiff (by decide)⟩ (by decide),
    hkeep ⟨hdiff (by decide), hdiff (by decide)⟩ (by decide), hkeep ⟨hne _, hdiff (by decide)⟩ (by decide),
    hkeep ⟨hdiff (by decide), hne _⟩ (by decide)]
  rfl

theorem State.safeTimeout_view (hp : p < 16) (ht : s.obj O.TIO_SAFE_TIMEOUT ≠ 0) (hr : s.obj O.HIER_RANK ≠ 0) :
    s.safeTimeout.safeView p = safeStep (s.safeView p) := by
  rw [State.safeTimeout_pins ht hr]
  exact forEach_view (·.safeView p) safeStep List.nodup_range (List.mem_range.mpr hp) (fun _ => State.safePin_own hp)
    (fun _ _ hq h => State.safePin_other hp (List.mem_range.mp hq) h) s

theorem State.safeTimeout_only (ht : s.obj O.TIO_SAFE_TIMEOUT ≠ 0) (hr : s.obj O.HIER_RANK ≠ 0) :
    s.safeTimeout.only s (.out :: flagParts) (wakeKeys ++ allOf [O.TIO_LEVEL, O.TIO_FLAGS]) := by
  rw [State.safeTimeout_pins ht hr]
  refine State.only_forEach_mem _ (fun u q hq => State.only_mono (u.safePin_only q) (fun _ h => h) ?_) (State.only_refl _ _ _)
  have hq16 := List.mem_range.mp hq
  intro k hk
  rcases List.mem_cons.mp hk with rfl | hk
  · exact List.mem_append_right _ (mem_allOf (by simp) (by omega))
  rcases List.mem_cons.mp hk with rfl | hk
  · exact List.mem_append_right _ (mem_allOf (by simp) (by omega))
  · exact List.mem_append_left _ hk

/-- A command of another chapter than the Hearth's, from what its effect is and that state's frame. -/
theorem runKeep_eq {f : State → State} {u : State} (hh : s.held = false) (hs : f s = u) (ho : u.only s l ks) (hl : .hearth ∉ l) :
    runKeep s f = .next u := (runKeep_of_only hh (hs ▸ ho) hl).trans (congrArg _ hs)

theorem State.tioStatus_only (s : State) (p c st : Nat) :
    (s.cmdStatus O.TIO_STATUS (p + 1) c st).only s [] [keyOf O.TIO_STATUS (p + 1)] :=
  State.only_cmdStatus _ _ _ (State.only_refl _ _ _) (by simp)

/-- A command of a pin that is answered REFUSED (R228). -/
theorem runKeep_tioRefused {f : State → State} {c : Nat} (hh : s.held = false) (hs : f s = s.cmdStatus O.TIO_STATUS (p + 1) c 4) :
    ∃ u, runKeep s f = .next u ∧ u.status O.TIO_STATUS (p + 1) = 4 ∧ u.only s [] [keyOf O.TIO_STATUS (p + 1)] :=
  ⟨_, runKeep_eq hh hs (s.tioStatus_only p c 4) (by simp), s.status_cmdStatus O.TIO_STATUS (p + 1) c 4 0 (by decide), s.tioStatus_only p c 4⟩

end Sys2Proof.Machine

open Sys2Proof Sys2Proof.Machine

/-- Settles O20, clause by clause: writes of TIO_MODE and TIO_LEVEL, ARM and DISARM by the equation of each case, edges by `rising_eq` and
`falling_high`, and the safe timeout pin by pin. -/
theorem generatorsPulse : Obligations.GeneratorsPulse := by
  unfold Obligations.GeneratorsPulse
  refine ⟨?modeRefused, ?modeCapture, ?modeOutput, ?levelDriven, ?levelHeld, ?levelRange, ?armed, ?armLate, ?armRefused, ?disarmWins,
    ?disarmLoses, ?disarmDone, ?disarmRefused, ?rises, ?missedLast, ?missedSuspended, ?falls, ?safe, ?safeNever⟩
  case modeRefused =>
    intro s t v hh h
    exact runKeep_same (g := (·.writeTioMode t v.toNat)) hh (State.writeTioMode_refused h)
  case modeCapture =>
    intro s t hh hok h0
    have ho : ((s.modeTaken t 1).calTrigger 5 t).only s [.gens, .cal] [keyOf O.TIO_MODE (t + 1)] :=
      State.only_calTrigger _ _ (State.only_modeTaken _ _ (State.only_refl _ _ _) (by simp) (by simp)) (by simp)
    refine ⟨_, runKeep_eq (f := (·.writeTioMode t 1)) hh (State.writeTioMode_capture hok h0) ho (by simp), ?_, ?_, fun q hq => ?_, ho⟩
    · exact State.modeTaken_mode (v := 1) (by decide)
    · simp [State.calTrigger, Gen.lowered]
    · simp [State.calTrigger, hq]
  case modeOutput =>
    intro s t v hh hok h0 hv h2 h4 hoff
    have ho : ((s.modeTaken t v.toNat).drivePin t false s.now.toNat).only s [.gens, .out] [keyOf O.TIO_MODE (t + 1)] :=
      State.only_drivePin _ _ _ (State.only_modeTaken _ _ (State.only_refl _ _ _) (by simp) (by simp)) (by simp)
    refine ⟨_, runKeep_eq (f := (·.writeTioMode t v.toNat)) hh (State.writeTioMode_output hok h0 hv h2 h4) ho (by simp), ?_, ?_, ?_, ho⟩
    · exact (State.drivePin_obj ..).trans (State.modeTaken_mode v.isLt)
    · simp [Gen.lowered]
    · rw [State.drivePin_out (s := s.modeTaken t v.toNat) _ _ hoff, Bool.false_and, Bool.false_xor, State.modeTaken, State.modGen_obj,
        State.obj_setObj_other _ (by decide) (by omega) (by omega)]
      rfl
  case levelDriven =>
    intro s t v hh hv h4 hoff hhold
    have ho := State.only_setLevel t v.toNat (State.only_refl s [.out] [keyOf O.TIO_LEVEL (t + 1)]) (by simp) (by simp)
    refine ⟨_, runKeep_eq hh (if_pos hv) ho (by simp), ?_, ?_, ho⟩
    · rw [State.setLevel_obj, State.obj_setObj_same]
      exact Nat.mod_eq_of_lt v.isLt
    · have hhold' : (s.setObj O.TIO_LEVEL v.toNat (t + 1)).outHold = false := by
        rw [State.outHold, State.obj_setObj_other _ (by decide) (by decide) (by omega)]
        exact hhold
      rw [State.setLevel_driven t.isLt h4, State.drivePin_out (s := s.setObj O.TIO_LEVEL v.toNat (t + 1)) _ _ hoff, hhold',
        Bool.not_false, Bool.and_true, State.obj_setObj_other _ (by decide) (by omega) (by omega)]
      rfl
  case levelHeld =>
    intro s t v hh hv h4
    have hs := State.setLevel_held (v := v.toNat) t.isLt h4
    have ho : (s.setLevel t v.toNat).only s [] [keyOf O.TIO_LEVEL (t + 1)] := hs ▸ State.only_setObj _ (State.only_refl _ _ _) (by simp)
    refine ⟨_, runKeep_eq hh (if_pos hv) ho (by simp), ?_, ho⟩
    rw [hs, State.obj_setObj_same]
    exact Nat.mod_eq_of_lt v.isLt
  case levelRange =>
    intro s t v hh hv
    exact runKeep_same hh (State.writeLevel_range hv)
  case armed =>
    intro s t hh hg hb hok h
    have ho := State.only_modGen t (Gen.armed · s.nextLattice (s.extended (BitVec.ofNat 56 (s.obj O.TIO_T0 (t + 1) / 256))))
      (State.only_mono (s.tioStatus_only t 1 1) (l' := [.gens]) (by simp) (fun _ h => h)) (by simp)
    refine ⟨_, runKeep_eq hh (State.armGen_armed hg hb hok h) ho (by simp), ?_, ?_, fun q hq => ?_, ho⟩
    · exact s.status_cmdStatus O.TIO_STATUS (t + 1) 1 1 0 (by decide)
    · simp [State.cmdStatus, Gen.armed]
    · simp [State.cmdStatus, hq]
  case armLate =>
    intro s t hh hg hb hok h0 hl
    have ho := State.only_raise (o := O.TIO_FLAGS) 4 (t + 1) (State.only_mono (s.tioStatus_only t 1 6) (l' := flagParts)
      (ks' := keyOf O.TIO_STATUS (t + 1) :: flagKeys O.TIO_FLAGS (t + 1)) (by simp) (by simp)) (fun _ h => h) (by simp +contextual)
    refine ⟨_, runKeep_eq hh (State.armGen_late hg hb hok h0 hl) ho (by decide), ?_, ?_, ho⟩
    · rw [State.status, State.raise_tioStatus t.isLt (by omega) (by decide)]
      exact s.status_cmdStatus O.TIO_STATUS (t + 1) 1 6 0 (by decide)
    · rw [State.raise_tioFlags _ (by omega), State.cmdStatus, State.setStatus, State.obj_setObj_other _ (by decide) (by omega) (by omega)]
      rfl
  case armRefused =>
    intro s t hh h
    exact runKeep_tioRefused hh (State.armGen_refused _ _ h)
  case disarmWins =>
    intro s t c hh hb h
    have ho : (s.disarmed t).only s [.gens] [keyOf O.TIO_STATUS (t + 1)] :=
      State.only_modGen _ _ (State.only_cmdStatus _ _ _ (State.only_refl _ _ _) (by simp)) (by simp)
    obtain ⟨hst, hcmd, -, -⟩ := s.setStatus_fields O.TIO_STATUS (t + 1) 0 false 2 3 (by decide)
    exact ⟨_, runKeep_eq (f := (·.disarmGen t c)) hh (State.disarmGen_wins hb h) ho (by simp), hst, hcmd, by
      simp [State.disarmed, State.cmdStatus], ho⟩
  case disarmRefused =>
    intro s t c hh hb h
    exact runKeep_tioRefused (f := (·.disarmGen t c)) hh (State.disarmGen_refused hb h)
  case disarmDone =>
    intro s t hh hb hg hst hcmd
    have ho := State.only_disarmLate t (State.only_refl s flagParts (keyOf O.TIO_STATUS (t + 1) :: flagKeys O.TIO_FLAGS (t + 1)))
      (fun _ h => h) (by simp) (by simp +contextual)
    obtain ⟨hst', hlate, hflags⟩ := s.disarmLate_fields t.isLt
    exact ⟨_, runKeep_eq (f := (·.disarmGen t true)) hh (State.disarmGen_done hb hg hst hcmd) ho (by decide), hst', hlate, hflags, ho⟩
  case safe =>
    intro s hh ht hr
    have ho := State.safeTimeout_only ht hr
    refine ⟨_, runKeep_of_only hh ho (by decide), fun q hq => ?_, ho⟩
    have hview := State.safeTimeout_view hq ht hr
    split
    next h =>
      have hpos := hview.trans (if_pos h)
      exact ⟨congrArg (·.2.2.1) hpos, congrArg (·.2.2.2) hpos⟩
    next h => exact congrArg (·.2.2.1) (hview.trans (if_neg h))
  case safeNever =>
    intro s hh h
    exact runKeep_same hh (State.safeTimeout_never h)
  case disarmLoses =>
    intro s t hh hb hg hlast hs
    have hrise := State.rising_last t.isLt hg hb hs hlast
    have ho : ((s.rising t).disarmLate t).only s (.gens :: .out :: .cal :: flagParts) (keyOf O.TIO_STATUS (t + 1) ::
        keyOf O.TIO_MISSED (t + 1) :: keyOf O.CAL_LAST_PRECOND :: keyOf O.CAL_ABORTS :: keyOf O.CAL_STATUS :: keyOf O.CAL_FLAGS ::
        flagKeys O.TIO_FLAGS (t + 1)) := by
      rw [hrise]
      refine State.only_disarmLate _ (State.only_mono (s.lastEdge_only t) (fun _ h => h) ?_) ?_ ?_ ?_
      all_goals simp +contextual [calEdgeKeys, flagKeys]
    obtain ⟨hst, hlate, hflags⟩ := (s.rising t).disarmLate_fields t.isLt
    refine ⟨_, runKeep_eq (f := (·.disarmGen t true)) hh (State.disarmGen_loses hb hg hlast hs) ho (by decide), hst, hlate, ?_, ?_, ?_, ho⟩
    · have hkeep : (s.rising t).obj O.TIO_FLAGS (t + 1) = s.obj O.TIO_FLAGS (t + 1) := by
        rw [hrise]
        refine State.only_obj (s.lastEdge_only t) ?_
        simp only [List.mem_cons, not_or]
        exact ⟨Obj.key_ne (by decide) (by omega) (by omega), Obj.key_ne (by decide) (by omega) (by omega),
          Obj.key_notMem_calEdgeKeys (by omega) (by decide)⟩
      rw [hflags, hkeep]
    · rw [State.disarmLate_gen, hrise, State.genEnd_gen]
    · rw [State.disarmLate_gen, hrise, State.genEnd_gen, ← State.only_gen (s.calEdge_only t) (by decide) t]
      exact State.edgeLeaves_k
  case rises =>
    intro s t hh hg hb hs hlow hlast hoff hhold h5 h6
    have hrise : s.rising t = s.edgeLeaves t := (State.rising_leaves hg hb h5 h6 hs).trans (if_neg (by rw [hlast]; decide))
    have heq := hrise.trans (State.edgeLeaves_low hlow)
    have ho : (s.rising t).only s [.gens, .out] [] := by
      rw [heq]
      exact State.only_edgePassed _ _ (State.only_drivePin _ _ _ (State.only_modGen _ _ (State.only_refl _ _ _) (by simp)) (by simp)) (by simp)
    refine ⟨_, runKeep_of_only (f := (·.rising t)) hh ho (by simp), ?_, ?_, fun q hq => ?_, ho⟩ <;> rw [heq]
    · simp [Gen.raised, Gen.passed]
    · refine (State.drivePin_out (s := s.modGen t _) true (s.riseTime t) hoff).trans ?_
      have hhold' : (s.modGen t (·.raised (s.riseTime t) (s.obj O.TIO_WIDTH (t + 1)))).outHold = false := hhold
      rw [hhold', Bool.not_false, Bool.and_true, Bool.true_xor]
      rfl
    · simp [State.edgePassed, hq]
  case missedLast =>
    intro s t hh hg hb hs hhigh hx hlast h5 h6
    have hrise : s.rising t = (s.edgeLeaves t).genEnd t 2 := (State.rising_leaves hg hb h5 h6 hs).trans (if_pos hlast)
    have heq := hrise.trans (congrArg (·.genEnd t 2) (State.edgeLeaves_missed hhigh hx))
    obtain ⟨hcount, hgen, hmissed⟩ := State.missed_passed (s := s) t.isLt (s.nextF0 t)
    have ho := State.only_genEnd t 2 (State.only_mono hmissed (l' := [.gens])
      (ks' := [keyOf O.TIO_STATUS (t + 1), keyOf O.TIO_MISSED (t + 1)]) (by simp) (by simp)) (by simp) (by simp)
    refine ⟨_, runKeep_eq (f := (·.rising t)) hh heq ho (by simp), State.genEnd_status _ _, ?_, ?_, ?_, ?_, ho⟩
    · rw [← hcount]
      exact State.obj_setObj_other _ (by decide) (by omega) (by omega)
    all_goals rw [State.genEnd_gen, hgen]
    · rfl
    · exact hhigh
  case missedSuspended =>
    intro s t hh hg hb hs h h5 h6
    obtain ⟨hcount, hgen, ho⟩ := State.missed_passed (s := s) t.isLt (s.nextF0 t)
    exact ⟨_, runKeep_eq (f := (·.rising t)) hh (State.rising_suspended hg hb h5 h6 hs h) ho (by simp), hcount, hgen, ho⟩
  case falls =>
    intro s t hh hhigh hoff hs
    have ho : (s.falling t).only s [.gens, .out] [] := State.only_falling _ (State.only_refl _ _ _) (by simp) (by simp)
    refine ⟨_, runKeep_of_only (f := (·.falling t)) hh ho (by simp), ?_, ?_, ho⟩ <;> rw [State.falling_high hhigh hs]
    · simp [Gen.lowered]
    · rw [State.drivePin_out (s := s.modGen t Gen.lowered) _ _ hoff, Bool.false_and, Bool.false_xor]
      rfl
end

section
/-! PROOF. Captures on the pins (R237 to R240), MARK_IN (R242), CAP_FLUSH (R228) and PPS_OUT (R241), and O21 from them. What CAP_FLUSH does
outside CAPTURE is log entry 58. -/

namespace Sys2Proof.Machine

variable {s t : State} {c : Nat} {e : Time56} {r : Bool}

/-! The count of an interrupt source's events (R454). -/

theorem State.modSrc_src (n m : Nat) (f : IrqSrc → IrqSrc) : (s.modSrc n f).src m = if m = n then f (s.src n) else s.src m := by
  simp only [State.src, State.modSrc, State.modIrq, Tab.get_set]

theorem State.setObj_src (o : Obj) (v sub n : Nat) : (s.setObj o v sub).src n = s.src n := (rfl)

theorem State.count_src (o : Obj) (sub k n : Nat) : (s.count o sub k).src n = s.src n := by
  obtain ⟨v, hv⟩ := s.count_setObj o sub k
  rw [hv, State.setObj_src]

theorem State.forEach_src_ev {α : Type} {f : State → α → State} {n : Nat} (hf : ∀ u x, ((f u x).src n).ev = (u.src n).ev) (xs : List α)
    (u : State) : ((forEach xs f u).src n).ev = (u.src n).ev := by
  unfold forEach
  induction xs generalizing u with
  | nil => rfl
  | cons x xs ih => exact (ih (f u x)).trans (hf u x)

theorem State.endHolds_ev (n : Nat) : (s.endHolds.src n).ev = (s.src n).ev := by
  refine State.forEach_src_ev (fun u x => ?_) _ s
  dsimp only
  split
  · rw [State.modSrc_src]
    split
    next h => rw [h]
    next => rfl
  · rfl

theorem State.leaveWfi_src (k v n : Nat) : (s.leaveWfi k v).src n = s.src n := by
  rw [State.leaveWfi, State.setObj_src, State.count_src]

theorem State.presentTo_src (k n : Nat) : (s.presentTo k).src n = s.src n := by
  have wakes (u : State) : (if k < 12 ∧ u.obj O.ENG_STATE (k + 1) = 2 then u.leaveWfi k 1 else u).src n = u.src n := by
    split
    · exact State.leaveWfi_src k 1 n
    · rfl
  unfold State.presentTo
  split
  · rfl
  · refine (wakes _).trans ?_
    split <;> rfl

/-- Presentation changes no source's count. -/
theorem State.irqPresent_ev (n : Nat) : (s.irqPresent.src n).ev = (s.src n).ev :=
  (State.forEach_src_ev (fun _ _ => congrArg IrqSrc.ev (State.presentTo_src _ _)) _ s.endHolds).trans (State.endHolds_ev n)

/-- EVCNT of an event's source, and of every other (R454). -/
theorem State.irqEvent_ev (m n : Nat) : ((s.irqEvent m).src n).ev = if n = m then min 255 ((s.src m).ev + 1) else (s.src n).ev := by
  rw [State.irqEvent, State.irqPresent_ev, State.modSrc_src]
  split <;> rfl

/-- A packet for the Lantern is no event of another source than LT_LOSS. -/
theorem State.lanternPush_ev {n : Nat} (ty : Nat) (x : Bytes) (hn : n ≠ 212) : ((s.lanternPush ty x).src n).ev = (s.src n).ev := by
  unfold State.lanternPush
  split
  · rfl
  · dsimp only
    split
    · rfl
    · rw [State.lanternLoss, State.irqEvent_ev, if_neg hn]
      exact congrArg IrqSrc.ev (State.count_src O.LT_LOST 0 1 n)

theorem State.levelRise_ev {n : Nat} (o : Obj) (b sub : Nat) (hn : n ≠ 212) :
    ((s.levelRise n o b sub).src n).ev = min 255 ((s.src n).ev + 1) := by
  rw [State.levelRise, State.flagPacket, State.lanternPush_ev _ _ hn, State.irqEvent_ev, if_pos rfl]
  rfl

/-! An edge on a pin's channel (R237 to R240). -/

/-- An edge is the last of its channel. -/
def State.edgeNoted (s : State) (c : Nat) (e : Time56) : State := s.modTdc c fun d => { d with last := some (e, s.hearth.cycles) }

theorem State.edgeNoted_tdc (e : Time56) : (s.edgeNoted c e).tdc c = { s.tdc c with last := some (e, s.hearth.cycles) } := by
  simp [State.edgeNoted]

theorem State.only_edgeNoted {l : List Part} {ks : List Nat} (c : Nat) (e : Time56) (h : t.only s l ks) (hl : .tdcs ∈ l) :
    (t.edgeNoted c e).only s l ks := State.only_modTdc _ _ h hl

/-- The record of a capture does not hold the edge before it. -/
theorem State.edgeNoted_capRecord : (s.edgeNoted c e).capRecord c e r = s.capRecord c e r := by
  rw [State.capRecord, State.edgeNoted_tdc]
  rfl

section
variable (h5 : (s.calRec 5 c).state ≠ 2) (h6 : (s.calRec 6 c).state ≠ 2)
include h5 h6

theorem State.edgeSeen_idle (e : Time56) : s.edgeSeen c e = s.edgeNoted c e := by
  rw [State.edgeSeen, State.calEdge_idle h5 h6, State.edgeNoted]

theorem State.capture_close (hw : s.watches c r = true) (hx : s.tooClose c e = true) :
    s.capture c e r = (s.edgeNoted c e).count O.TIO_MISSED (c + 1) := by
  unfold State.capture
  dsimp only
  rw [State.calEdge_idle h5 h6, hw]
  exact (if_neg (by decide)).trans (if_pos hx)

theorem State.capture_pin (hc : c < 16) (hw : s.watches c r = true) (hx : s.tooClose c e = false) :
    s.capture c e r = (s.edgeNoted c e).capQueued c e r := by
  have hlast (u : State) (v : Nat) : u.lastStamped c v = u := (if_neg (by omega)).trans (if_neg (by omega))
  rw [State.capture_captured (State.captured_iff.mpr ⟨hw, hx⟩), hlast, State.edgeSeen_idle h5 h6]

end

/-- A record joins its queue. -/
def State.recorded (s : State) (c : Nat) (rec_ : Bytes) : State :=
  s.modTdc c fun d => { d with recs := d.recs ++ [rec_], seq := (d.seq + 1) % 256, ovf := false }

theorem State.capQueued_full (h : 64 ≤ (s.tdc c).recs.length) : s.capQueued c e r =
    ((s.count O.TIO_MISSED (c + 1)).modTdc c fun d => { d with ovf := true }).raise O.TIO_FLAGS 6 (c + 1) := if_pos h

theorem State.capQueued_first (h : (s.tdc c).recs = []) :
    s.capQueued c e r = (s.recorded c (s.capRecord c e r)).levelRise (72 + c) O.TIO_FLAGS 9 (c + 1) := by
  unfold State.capQueued
  rw [if_neg (by rw [h]; decide)]
  exact if_pos (by rw [h]; rfl)

theorem State.capQueued_next (hne : (s.tdc c).recs ≠ []) (h : (s.tdc c).recs.length < 64) :
    s.capQueued c e r = s.recorded c (s.capRecord c e r) := by
  unfold State.capQueued
  rw [if_neg (Nat.not_le.mpr h)]
  exact if_neg (by rwa [beq_iff_eq])

theorem State.only_recorded {l : List Part} {ks : List Nat} (c : Nat) (x : Bytes) (h : t.only s l ks) (hl : .tdcs ∈ l) :
    (t.recorded c x).only s l ks := State.only_modTdc _ _ h hl

/-- Where TIMEDIO runs on FBCLK no channel watches (R234). -/
theorem State.watches_suspended (h : s.tio.suspended = true) : s.watches c r = false := by simp [State.watches, h]

theorem State.markIn_unwatched (e : Time56) (h : s.watches 17 true = false) : s.markIn e = s := by
  have hcap : s.captured 17 e true = false := by rw [State.captured, h, Bool.false_and]
  unfold State.markIn
  dsimp only
  rw [hcap, State.capture_unwatched e h]
  rfl

/-! An edge of MARK_IN that is captured (R242). -/

theorem State.markCapture_sameClock (h : s.captured 17 e true = true) : (s.capture 17 e true).sameClock s :=
  State.sameClock_of_only (State.capture_only h) (by decide) (by decide) (by decide)

theorem State.markCapture_obj (h : s.captured 17 e true = true) {o : Obj} (hk : o.key o.lo ∉ captureKeys 17) :
    (s.capture 17 e true).obj o = s.obj o := State.only_obj (State.capture_only h) hk

theorem State.markCapture_own (h : s.captured 17 e true = true) : (s.capture 17 e true).markOwn e = s.markOwn e := by
  have hclock := State.markCapture_sameClock h
  have hskew := State.markCapture_obj h (o := O.F0_SKEW) (by decide)
  have hdelay : (s.capture 17 e true).obj O.MARK_DELAY 0 = s.obj O.MARK_DELAY 0 := State.markCapture_obj h (o := O.MARK_DELAY) (by decide)
  rw [State.markOwn, hclock.capTime (by decide), hclock.f0Edge40, hclock.own O.F0_CNT (by decide) (by decide), State.psObj, State.objI,
    State.objI, hdelay, hskew]
  rfl

/-- How far a MARK_IN edge lies past the lattice edge that it is assigned to, 2^-40 ns. -/
def State.markOff (s : State) (e : Time56) : Int := s.markOwn e - nearestEdge s.f0Period (s.markOwn e) * s.f0Period

/-- The lattice edge that a MARK_IN edge is assigned to, as F0_CNT counts it. -/
def State.markEdge (s : State) (e : Time56) : Int := s.obj O.F0_CNT + nearestEdge s.f0Period (s.markOwn e)

/-- A MARK_IN edge is captured, and flagged where it lies far from its lattice edge. -/
def State.markNoted (s : State) (e : Time56) : State :=
  if 3 * (s.f0Period : Int) ≤ 8 * (s.markOff e).natAbs then (s.capture 17 e true).raise O.TIO_SYS_FLAGS 5 else s.capture 17 e true

/-- The parts and the objects that a captured edge of MARK_IN may touch before it is used. -/
def markKeys : List Nat := keyOf O.TIO_SYS_FLAGS :: captureKeys 17

theorem State.markNoted_only (h : s.captured 17 e true = true) : (s.markNoted e).only s (.tdcs :: .cal :: flagParts) markKeys := by
  have hcap : (s.capture 17 e true).only s (.tdcs :: .cal :: flagParts) markKeys :=
    State.only_mono (State.capture_only h) (fun _ h => h) (fun _ h => List.mem_cons_of_mem _ h)
  unfold State.markNoted
  exact State.only_ite (State.only_raise _ _ hcap (by simp +contextual) (by simp +contextual [markKeys, captureKeys, flagKeys])) hcap

/-- What is done with an edge of MARK_IN assigned to lattice edge `n`, `k` edges on from the part's last: nothing, the first alignment, or the
check of every later one. -/
def State.markUsed (s : State) (n k : Int) : State :=
  let mode := s.obj O.MARK_MODE
  if mode = 0 then s
  else if mode = 2 ∧ ¬ s.tio.aligned then
    let run := match s.tio.markLast with
      | some m => if n - m = s.obj O.MC_LEN then s.tio.markRun + 1 else 1
      | none => 1
    if 8 ≤ run then
      (s.loadF0Flag ((-k) % (2 ^ 64 : Int)).toNat).modTio fun x => { x with aligned := true, markRun := 0, markLast := none }
    else s.modTio fun x => { x with markRun := run, markLast := some n.toNat }
  else s.markCheck n

theorem State.markIn_captured (h : s.captured 17 e true = true) (hp : 0 < s.f0Period) :
    s.markIn e = (s.markNoted e).markUsed (s.markEdge e) (nearestEdge s.f0Period (s.markOwn e)) := by
  have hclock := State.markCapture_sameClock h
  unfold State.markIn
  dsimp only
  rw [h, hclock.f0Period, State.markCapture_own h, hclock.own O.F0_CNT (by decide) (by decide)]
  exact if_neg (by simp [Nat.ne_of_gt hp])

theorem State.markUsed_off (n k : Int) (h : s.obj O.MARK_MODE = 0) : s.markUsed n k = s := if_pos h

theorem State.markUsed_checks (n k : Int) (h : s.obj O.MARK_MODE = 1 ∨ (s.obj O.MARK_MODE = 2 ∧ s.tio.aligned = true)) :
    s.markUsed n k = s.markCheck n := by
  refine (if_neg ?_).trans (if_neg ?_) <;> rcases h with h | ⟨h, ha⟩ <;> simp [h]
  exact ha

theorem State.markUsed_first (n k : Int) (h : s.obj O.MARK_MODE = 2) (ha : s.tio.aligned = false) (hl : s.tio.markLast = none) :
    s.markUsed n k = s.modTio fun x => { x with markRun := 1, markLast := some n.toNat } := by
  unfold State.markUsed
  dsimp only
  rw [if_neg (by rw [h]; decide), if_pos ⟨h, by rw [ha]; decide⟩, hl]
  exact if_neg (by decide : ¬ 8 ≤ 1)

theorem State.markCheck_slips {n : Int} (h : n % s.obj O.MC_LEN_ACT ≠ 0) :
    s.markCheck n = (s.count O.MARK_SLIPS).raise O.TIO_SYS_FLAGS 4 := if_neg h

theorem State.markNoted_far (h : 3 * (s.f0Period : Int) ≤ 8 * (s.markOff e).natAbs) :
    s.markNoted e = (s.capture 17 e true).raise O.TIO_SYS_FLAGS 5 := if_pos h

theorem State.markNoted_near (h : 8 * ((s.markOff e).natAbs : Int) < 3 * s.f0Period) : s.markNoted e = s.capture 17 e true :=
  if_neg (not_le.mpr h)

/-- MARK_LAST after an edge that is captured. -/
theorem State.capture_markLast (h : s.captured 17 e true = true) : (s.capture 17 e true).obj O.MARK_LAST = s.capStamp 17 e := by
  rw [State.capture_captured h, State.only_obj (State.capQueued_only _ 17 e true) (by decide), State.edgeSeen_capStamp s (by decide),
    State.lastStamped, if_neg (by decide), if_pos rfl, State.obj_setObj_same]
  exact Nat.mod_eq_of_lt (State.stampOf_lt _ _)

/-- A bit of TIO_SYS_FLAGS that is raised. -/
theorem State.raise_sysFlags (b : Nat) : (s.raise O.TIO_SYS_FLAGS b).obj O.TIO_SYS_FLAGS = (s.obj O.TIO_SYS_FLAGS ||| 2 ^ b) % 2 ^ 32 :=
  State.raise_obj_same _ _ _ _ (by decide)

/-! Captures that are read, CAP_FLUSH and PPS_OUT (R228, R239, R241). -/

theorem State.capFlush_capture {p : Nat} (h : s.tioMode p = 1) :
    s.capFlush p = (s.cmdStatus O.TIO_STATUS (p + 1) 3 2).modTdc p fun d => { d with recs := [] } := if_pos h

theorem State.capFlush_refused {p : Nat} (h : s.tioMode p ≠ 1) : s.capFlush p = s.cmdStatus O.TIO_STATUS (p + 1) 3 4 := if_neg h

theorem State.ppsRise_off (h : s.obj O.PPS_OUT_EN = 0) : s.ppsRise = s := if_pos (.inl h)

theorem State.ppsRise_on (h : s.obj O.PPS_OUT_EN ≠ 0) (hl : s.tio.ppsHigh = false) (ho : s.outOff = false) : s.ppsRise =
    (s.modTio fun x => { x with ppsHigh := true, ppsSec := some s.ppsNext, ppsRose := BitVec.ofInt 56 (s.ppsTime s.ppsNext) }).emit
      (.pin 1 0 true (BitVec.ofInt 56 (s.ppsTime s.ppsNext)).toNat) := if_neg (by simp [h, hl, ho])

theorem State.ppsFall_high (h : s.tio.ppsHigh = true) : s.ppsFall = (s.modTio fun x => { x with ppsHigh := false }).emit
    (.pin 1 0 false (s.tio.ppsRose + BitVec.ofNat 56 (s.obj O.PPS_OUT_WIDTH * 2 ^ 24)).toNat) := if_pos h

/-! The commands of captures. -/

/-- An edge on a pin's channel (R237). -/
theorem exec_tioCapture_pin (c : Fin 16) (e : Time56) (r : Bool) (s : State) :
    exec (.tioCapture ⟨c, by omega⟩ e r) s = runKeep s (·.capture c e r) := by
  have h16 : c.val ≠ 16 := by omega
  have h17 : c.val ≠ 17 := by omega
  refine (if_neg h16).trans ?_
  simp only [if_neg h17]

/-- Channel 16 captures PPS_IN, on rising edges (R237, R241). -/
theorem exec_tioCapture_pps (e : Time56) (r : Bool) (s : State) :
    exec (.tioCapture 16 e r) s = run s fun s => if r then s.ppsIn e else s := rfl

/-- Channel 17 captures MARK_IN, on rising edges (R237, R242). -/
theorem exec_tioCapture_mark (e : Time56) (r : Bool) (s : State) :
    exec (.tioCapture 17 e r) s = runKeep s fun s => if r then s.markIn e else s := rfl

/-- A command of a capture on a part that no channel watches. -/
theorem exec_tioCapture_suspended (c : Fin 18) (hh : s.held = false) (h : s.tio.suspended = true) : exec (.tioCapture c e r) s = .next s := by
  have hw (n : Nat) (b : Bool) : s.watches n b = false := State.watches_suspended h
  rcases lt_or_ge c.val 16 with hc | hc
  · exact (exec_tioCapture_pin ⟨c, hc⟩ e r s).trans (runKeep_same (g := (·.capture c e r)) hh (State.capture_unwatched e (hw _ _)))
  · obtain rfl | rfl : c = 16 ∨ c = 17 := by omega
    · rw [exec_tioCapture_pps, run_next s _ hh]
      cases r
      · rfl
      · exact congrArg _ (State.ppsIn_unwatched e (hw _ _))
    · rw [exec_tioCapture_mark]
      refine runKeep_same hh ?_
      cases r
      · rfl
      · exact State.markIn_unwatched e (hw _ _)

end Sys2Proof.Machine

open Sys2Proof Sys2Proof.Machine

/-- Settles O21, clause by clause: an edge on a pin by what its queue does with it, MARK_IN by what `markUsed` does with the edge, and the
reads, CAP_FLUSH and PPS_OUT by the equation of each case. -/
theorem capturesAndMarks : Obligations.CapturesAndMarks := by
  unfold Obligations.CapturesAndMarks
  refine ⟨?next, ?first, ?close, ?full, ?unwatched, ?channels, ?suspended, ?read, ?readEmpty, ?flush, ?flushRefused, ?markUnwatched, ?markFar,
    ?markSlips, ?markFirst, ?realign, ?ppsRises, ?ppsOff, ?ppsFalls⟩
  case next =>
    intro s c e r hh hw hx h5 h6 hne hlen
    have hq := s.edgeNoted_tdc (c := c) (e := e)
    have hs := (State.capture_pin h5 h6 c.isLt hw hx).trans (State.capQueued_next (by rwa [hq]) (by rwa [hq]))
    have ho : (s.capture c e r).only s [.tdcs] [] :=
      hs ▸ State.only_recorded _ _ (State.only_edgeNoted _ _ (State.only_refl _ _ _) (by simp)) (by simp)
    refine ⟨_, (exec_tioCapture_pin c e r s).trans (runKeep_of_only hh ho (by simp)), ?_, fun d hd => ?_, ho⟩ <;> rw [hs]
    · simp [State.recorded, hq, State.edgeNoted_capRecord]
    · simp [State.recorded, State.edgeNoted, hd]
  case first =>
    intro s c e r hh hw hx h5 h6 hnil
    have hq := s.edgeNoted_tdc (c := c) (e := e)
    have hs := (State.capture_pin h5 h6 c.isLt hw hx).trans (State.capQueued_first (by rwa [hq]))
    have ho : (s.capture c e r).only s (.tdcs :: flagParts) wakeKeys :=
      hs ▸ State.only_levelRise _ _ _ (State.only_recorded _ _ (State.only_edgeNoted _ _ (State.only_refl _ _ _) (by simp)) (by simp))
        (by simp +contextual) (fun _ h => h)
    refine ⟨_, (exec_tioCapture_pin c e r s).trans (runKeep_of_only hh ho (by decide)), ?_, ?_, ho⟩ <;> rw [hs]
    · simp [State.recorded, hq, State.edgeNoted_capRecord, hnil]
    · exact State.levelRise_ev _ _ _ (by omega)
  case close =>
    intro s c e r hh hw hx h5 h6
    have hs := State.capture_close h5 h6 hw hx
    have ho : (s.capture c e r).only s [.tdcs] [keyOf O.TIO_MISSED (c + 1)] :=
      hs ▸ State.only_count _ _ _ (State.only_edgeNoted _ _ (State.only_refl _ _ _) (by simp)) (by simp)
    refine ⟨_, (exec_tioCapture_pin c e r s).trans (runKeep_of_only hh ho (by simp)), ?_, ?_, ho⟩ <;> rw [hs]
    · rw [State.count_tdc, State.edgeNoted_tdc]
    · exact (s.edgeNoted c e).count_u32 O.TIO_MISSED (c + 1) 1 rfl
  case full =>
    intro s c e r hh hw hx h5 h6 hlen
    have hq := s.edgeNoted_tdc (c := c) (e := e)
    have hs := (State.capture_pin h5 h6 c.isLt hw hx).trans (State.capQueued_full (by rwa [hq]))
    have ho : (s.capture c e r).only s (.tdcs :: flagParts) (keyOf O.TIO_MISSED (c + 1) :: flagKeys O.TIO_FLAGS (c + 1)) :=
      hs ▸ State.only_raise _ _ (State.only_modTdc _ _ (State.only_count _ _ _ (State.only_edgeNoted _ _ (State.only_refl _ _ _) (by simp))
        (by simp)) (by simp)) (by simp +contextual) (by simp +contextual)
    refine ⟨_, (exec_tioCapture_pin c e r s).trans (runKeep_of_only hh ho (by decide)), ?_, ?_, ?_, ho⟩ <;> rw [hs]
    · simp [hq]
    · rw [State.raise_obj _ _ _ _ (Obj.key_notMem_flagKeys (by omega) (by omega) (by decide) (by decide))]
      exact (s.edgeNoted c e).count_u32 O.TIO_MISSED (c + 1) 1 rfl
    · rw [State.raise_tioFlags _ (by omega), State.modTdc_obj, State.count_obj_ne _ (Obj.key_ne (by decide) (by omega) (by omega))]
      rfl
  case unwatched =>
    intro s c e r hh hw
    exact (exec_tioCapture_pin c e r s).trans (runKeep_same (g := (·.capture c e r)) hh (State.capture_unwatched e hw))
  case channels =>
    intro s e hh
    exact ⟨rfl, run_next s _ hh, rfl, runKeep_same hh rfl⟩
  case suspended =>
    intro s c e r hh h
    exact exec_tioCapture_suspended c hh h
  case read =>
    intro s c x xs hh hx
    have hs : s.capRead c = (x, s.modTdc c fun d => { d with recs := xs }) := by rw [State.capRead, hx]
    have ho : ((s.capRead c).2.emit (.bytes (s.capRead c).1)).only s [.tdcs, .out] [] := by
      rw [hs]
      dsimp only
      exact State.only_emit _ (State.only_modTdc _ _ (State.only_refl _ _ _) (by simp)) (by simp)
    refine ⟨_, runKeep_of_only hh ho (by simp), ?_, ?_, fun d hd => ?_, ho⟩ <;> rw [hs]
    · simp
    · rfl
    · simp [hd]
  case readEmpty =>
    intro s c hh hx
    have hs : s.capRead c = ([], s) := by rw [State.capRead, hx]
    have ho : ((s.capRead c).2.emit (.bytes (s.capRead c).1)).only s [.out] [] :=
      State.only_emit _ (hs ▸ State.only_refl _ _ _) (by simp)
    exact ⟨_, runKeep_of_only hh ho (by simp), by simp [hs], ho⟩
  case flush =>
    intro s t hh h
    have ho := State.only_modTdc t (fun d : Tdc => { d with recs := [] }) (State.only_mono (s.tioStatus_only t 3 2) (l' := [.tdcs])
      (by simp) (fun _ h => h)) (by simp)
    obtain ⟨hst, hcmd, -, -⟩ := s.setStatus_fields O.TIO_STATUS (t + 1) 0 false 3 2 (by decide)
    exact ⟨_, runKeep_eq (f := (·.capFlush t)) hh (State.capFlush_capture h) ho (by simp), by simp [State.cmdStatus], hst, hcmd, ho⟩
  case flushRefused =>
    intro s t hh h
    exact runKeep_tioRefused (f := (·.capFlush t)) hh (State.capFlush_refused h)
  case markUnwatched =>
    intro s e hh hw
    exact runKeep_same (g := (·.markIn e)) hh (State.markIn_unwatched e hw)
  case markFar =>
    intro s e hh hcap hp hmode hfar
    have ho := State.markNoted_only hcap
    have hs : s.markIn e = s.markNoted e := (State.markIn_captured hcap hp).trans
      (State.markUsed_off _ _ ((State.only_obj ho (by decide)).trans hmode))
    refine ⟨_, runKeep_eq (f := (·.markIn e)) hh hs ho (by decide), ?_, ?_, ho⟩ <;> rw [State.markNoted_far hfar]
    · rw [State.raise_sysFlags, State.markCapture_obj hcap (by decide)]
      rfl
    · rw [State.raise_obj _ _ _ _ (by decide), State.capture_markLast hcap]
      rfl
  case markSlips =>
    intro s e hh hcap hp hmode hn
    have ho := State.markNoted_only hcap
    have hobj {o : Obj} (hk : o.key o.lo ∉ markKeys) : (s.markNoted e).obj o = s.obj o := State.only_obj ho hk
    have htio : (s.markNoted e).tio = s.tio := ho.1 .tio (by decide)
    have hs : s.markIn e = ((s.markNoted e).count O.MARK_SLIPS).raise O.TIO_SYS_FLAGS 4 := by
      rw [State.markIn_captured hcap hp, State.markUsed_checks _ _ (by rw [hobj (by decide), htio]; exact hmode),
        State.markCheck_slips (by rw [hobj (by decide)]; exact hn)]
    have ho' : (s.markIn e).only s (.tdcs :: .cal :: flagParts) (keyOf O.TIO_SYS_FLAGS :: keyOf O.MARK_LAST :: keyOf O.MARK_SLIPS ::
        keyOf O.TIO_MISSED 18 :: keyOf O.CAL_LAST_PRECOND :: keyOf O.CAL_ABORTS :: keyOf O.CAL_STATUS :: keyOf O.CAL_FLAGS ::
        flagKeys O.TIO_FLAGS 18) := by
      rw [hs]
      refine State.only_raise _ _ (State.only_count _ _ _ (State.only_mono ho ?_ ?_) ?_) ?_ ?_
      all_goals simp +contextual [markKeys, captureKeys, flagKeys]
    refine ⟨_, runKeep_of_only (f := (·.markIn e)) hh ho' (by decide), ?_, ?_, ho'⟩ <;> rw [hs]
    · rw [State.raise_obj _ _ _ _ (by decide), State.count_u32 _ O.MARK_SLIPS _ _ rfl, State.count_u32 _ O.MARK_SLIPS _ _ rfl,
        hobj (by decide)]
    · exact State.raise_bit _ O.TIO_SYS_FLAGS (by decide) (by decide)
  case markFirst =>
    intro s e hh hcap hp hmode ha hl hnear
    have ho := State.markNoted_only hcap
    have hcapo := State.capture_only hcap
    have htio : (s.markNoted e).tio = s.tio := ho.1 .tio (by decide)
    have hs : s.markIn e = (s.capture 17 e true).modTio fun x => { x with markRun := 1, markLast := some (s.markEdge e).toNat } := by
      rw [State.markIn_captured hcap hp, State.markUsed_first _ _ ((State.only_obj ho (by decide)).trans hmode) (by rw [htio]; exact ha)
        (by rw [htio]; exact hl), State.markNoted_near hnear]
    have ho' : (s.markIn e).only s (.tio :: .tdcs :: .cal :: flagParts) (captureKeys 17) :=
      hs ▸ State.only_modTio _ (State.only_mono hcapo (fun _ h => List.mem_cons_of_mem _ h) (fun _ h => h)) (by simp)
    refine ⟨_, runKeep_of_only (f := (·.markIn e)) hh ho' (by decide), ?_, ho'⟩
    rw [hs, State.modTio_tio, hcapo.1 .tio (by decide)]
    rfl
  case realign =>
    intro s hh
    have ho : s.realign.only s [.tio] [] := State.only_modTio _ (State.only_refl _ _ _) (by simp)
    exact ⟨_, runKeep_of_only hh ho (by simp), rfl, ho⟩
  case ppsRises =>
    intro s hh hen hlow hoff
    have hs := State.ppsRise_on hen hlow hoff
    have ho : s.ppsRise.only s [.tio, .out] [] := hs ▸ State.only_emit _ (State.only_modTio _ (State.only_refl _ _ _) (by simp)) (by simp)
    refine ⟨_, runKeep_of_only hh ho (by simp), ?_, ?_, ho⟩ <;> rw [hs] <;> rfl
  case ppsOff =>
    intro s hh h
    exact runKeep_same hh (State.ppsRise_off h)
  case ppsFalls =>
    intro s hh h
    have hs := State.ppsFall_high h
    have ho : s.ppsFall.only s [.tio, .out] [] := hs ▸ State.only_emit _ (State.only_modTio _ (State.only_refl _ _ _) (by simp)) (by simp)
    refine ⟨_, runKeep_of_only hh ho (by simp), ?_, ?_, ho⟩ <;> rw [hs] <;> rfl
end

section
/-! PROOF. O23 fails in its second clause: the run up to a command's execution edge ends on that edge where the HEARTH cycles of the present F0
cycle do not fill one (R224, R247), and the statement lets a state hold more of them. -/

namespace Sys2Proof.Machine

variable {s : State}

/-- The HEARTH cycles of the present F0 cycle, and F0_CNT, after `k` more HEARTH cycles (R224). -/
theorem State.hearthRun_f0 (hr : s.hearth.running = true) (hm : s.hearthM ≠ 0) (k : Nat) :
    (s.hearthRun k).hearth.f0Div = (s.hearth.f0Div + k) % s.hearthM ∧
    (s.hearthRun k).obj O.F0_CNT = (s.obj O.F0_CNT + (s.hearth.f0Div + k) / s.hearthM) % 2 ^ 64 := by
  have hrun : (s.modHearth fun h => { h with cycles := h.cycles + k }).f0Run k =
      ((s.modHearth fun h => { h with cycles := h.cycles + k }).setObj O.F0_CNT
        (s.obj O.F0_CNT + (s.hearth.f0Div + k) / s.hearthM)).modHearth fun h => { h with f0Div := (s.hearth.f0Div + k) % s.hearthM } :=
    if_neg hm
  rw [State.hearthRun, if_neg (by rw [hr]; decide), State.setCount_hearth, State.only_obj (State.setCount_only _ _) (by decide), hrun]
  exact ⟨rfl, State.obj_setObj_same ..⟩

/-- On a Hearth that runs, time passes up to an edge that lies ahead (R247, log entry 12). -/
theorem State.takeCmd_f0 {b : Body} (hr : s.hearth.running = true) (hm : s.hearthM ≠ 0) (hi : s.obj O.HEARTH_INC ≠ 0)
    (he : (s.obj O.F0_CNT : Int) < s.execEdge b) :
    (s.takeCmd b).hearth.f0Div = (s.hearth.f0Div + s.toF0 (s.execEdge b).toNat) % s.hearthM ∧
    (s.takeCmd b).obj O.F0_CNT = (s.obj O.F0_CNT + (s.hearth.f0Div + s.toF0 (s.execEdge b).toNat) / s.hearthM) % 2 ^ 64 := by
  have hmax : max (s.execEdge b) (s.obj O.F0_CNT) = s.execEdge b := max_eq_left he.le
  have hruns : (s.hearth.running && s.hearthM != 0 && s.obj O.HEARTH_INC != 0) = true := by
    rw [hr, bne_iff_ne.mpr hm, bne_iff_ne.mpr hi]
    rfl
  have htake : s.takeCmd b = (s.modTio fun x => { x with execQ := x.execQ.tail }).hearthRun (s.toF0 (s.execEdge b).toNat) := by
    unfold State.takeCmd
    dsimp only
    rw [hmax]
    exact if_pos hruns
  rw [htake]
  exact State.hearthRun_f0 (s := s.modTio fun x => { x with execQ := x.execQ.tail }) hr hm _

/-- What the second clause of O23 says, where the HEARTH cycles of the present F0 cycle do not fill one. -/
theorem State.takeCmd_reachesEdge {b : Body} (hr : s.hearth.running = true) (hi : s.obj O.HEARTH_INC ≠ 0)
    (he : (s.obj O.F0_CNT : Int) < s.execEdge b) (h64 : s.execEdge b < 2 ^ 64) (hdiv : s.hearth.f0Div < s.hearthM) :
    ((s.takeCmd b).obj O.F0_CNT : Int) = s.execEdge b ∧ (s.takeCmd b).hearth.f0Div = 0 := by
  have hm : s.hearthM ≠ 0 := by omega
  have hahead : s.hearthM ≤ ((s.execEdge b).toNat - s.obj O.F0_CNT) * s.hearthM := Nat.le_mul_of_pos_left _ (by omega)
  have hsum : s.hearth.f0Div + s.toF0 (s.execEdge b).toNat = ((s.execEdge b).toNat - s.obj O.F0_CNT) * s.hearthM := by
    unfold State.toF0; omega
  obtain ⟨hf0Div, hf0Cnt⟩ := State.takeCmd_f0 hr hm hi he
  rw [hf0Div, hf0Cnt, hsum, Nat.mul_div_cancel _ (by omega)]
  exact ⟨by omega, Nat.mul_mod_left _ _⟩

/-- The body of a RESYNC. -/
def resyncBody : Body := BitVec.ofNat 104 (2 ^ 100)

/-- A Hearth that stands 5 HEARTH cycles into an F0 cycle of 4, with a RESYNC first in the execution queue. -/
def overrun : State :=
  (((State.reset.setObj O.CLK_M 4).setObj O.HEARTH_INC (2 ^ 24)).modHearth fun h => { h with running := true, f0Div := 5 }).modTio
    fun x => { x with execQ := [resyncBody.toNat] }

theorem overrun_runs : overrun.hearth.running = true ∧ overrun.hearthM = 4 ∧ overrun.obj O.HEARTH_INC ≠ 0 ∧ overrun.hearth.f0Div = 5 := by
  decide +kernel

/-- The edge lies one F0 cycle ahead of F0_CNT, which reads 0. -/
theorem overrun_execEdge : overrun.obj O.F0_CNT = 0 ∧ overrun.execEdge resyncBody = 1 := by decide +kernel

/-- No HEARTH cycle is left up to the edge, and one of the 5 stays in the F0 cycle that begins there. -/
theorem overrun_takeCmd : (overrun.takeCmd resyncBody).hearth.f0Div = 1 := by
  obtain ⟨hr, hm, hi, hdiv⟩ := overrun_runs
  obtain ⟨hcnt, hedge⟩ := overrun_execEdge
  have hleft : overrun.toF0 1 = 0 := by rw [State.toF0, hcnt, hm, hdiv]
  have hf0Div := (State.takeCmd_f0 (s := overrun) (b := resyncBody) hr (by rw [hm]; decide) hi (by rw [hcnt, hedge]; decide)).1
  rw [hf0Div, hedge, hm, hdiv]
  exact congrArg (fun k => (5 + k) % 4) hleft

end Sys2Proof.Machine

open Sys2Proof Sys2Proof.Machine

/-- Refutes O23 in its second clause, with 5 HEARTH cycles counted into an F0 cycle of CLK_M = 4: the command's edge is F0 edge 1, no HEARTH
cycle is left up to it, and the run ends one HEARTH cycle past it. The clause lacks the hypothesis that the HEARTH cycles counted are fewer than
CLK_M (R224), under which `takeCmd_reachesEdge` proves it. -/
theorem not_fastCommandsAct : ¬ Obligations.FastCommandsAct := by
  unfold Obligations.FastCommandsAct
  rintro ⟨-, hreaches, -⟩
  obtain ⟨hr, hm, hi, -⟩ := overrun_runs
  obtain ⟨hcnt, hedge⟩ := overrun_execEdge
  have hzero := (hreaches overrun resyncBody rfl rfl _ rfl hr (by rw [hm]; decide) hi (by rw [hcnt, hedge]; decide)
    (by rw [hedge]; decide)).2
  rw [overrun_takeCmd] at hzero
  exact absurd hzero (by decide)
end

section
/-! PROOF. Pauses (R272) and the drain fence (R264, R265): the bits of a set of paused priorities, the pause frame that is repeated, and the
write of DRAIN_FENCE, and O29 from them. That the governor, its allowance used up, holds a pause (R273) is log entry 26. -/

namespace Sys2Proof.Machine

variable {s : State}

/-! Bits that are cleared or set. -/

/-- Half of a number whose bits have been cleared is its half with half the mask's bits cleared. -/
theorem clearBits_div_two (v m : Nat) : clearBits v m / 2 = clearBits (v / 2) (m / 2) := by
  have hhalf : (v &&& m) / 2 = v / 2 &&& m / 2 := Nat.and_div_two
  have hle : v / 2 &&& m / 2 ≤ v / 2 := Nat.and_le_left
  have hodd : (v &&& m) % 2 ≤ v % 2 := Nat.and_mod_two_pow (n := 1) ▸ Nat.and_le_left
  unfold clearBits
  omega

/-- The lowest bit of a number whose bits have been cleared. -/
theorem clearBits_mod_two (v m : Nat) : clearBits v m % 2 = v % 2 - (v % 2 &&& m % 2) := by
  have hmod : (v &&& m) % 2 = v % 2 &&& m % 2 := Nat.and_mod_two_pow (n := 1)
  have hle : v &&& m ≤ v := Nat.and_le_left
  have hodd : v % 2 &&& m % 2 ≤ v % 2 := Nat.and_le_left
  unfold clearBits
  omega

theorem bit_clearBits (v m k : Nat) : bit (clearBits v m) k = (bit v k && !bit m k) := by
  simp only [bit]
  induction k generalizing v m with
  | zero =>
    rw [Nat.testBit_zero, Nat.testBit_zero, Nat.testBit_zero, clearBits_mod_two]
    rcases Nat.mod_two_eq_zero_or_one v with hv | hv <;> rcases Nat.mod_two_eq_zero_or_one m with hm | hm <;> simp [hv, hm]
  | succ k ih => rw [Nat.testBit_succ, Nat.testBit_succ, Nat.testBit_succ, clearBits_div_two, ih]

theorem bit_setBit (v b k : Nat) (x : Bool) : bit (setBit v b x) k = if k = b then x else bit v k := by
  have hpow : bit (2 ^ b) k = decide (k = b) := by simp [bit, Nat.testBit_two_pow, eq_comm]
  cases x with
  | true =>
    have hor : bit (setBit v b true) k = (bit v k || bit (2 ^ b) k) := Nat.testBit_or ..
    rw [hor, hpow]
    by_cases hk : k = b <;> simp [hk]
  | false =>
    have hclear : bit (setBit v b false) k = (bit v k && !bit (2 ^ b) k) := bit_clearBits v (2 ^ b) k
    rw [hclear, hpow]
    by_cases hk : k = b <;> simp [hk]

/-- Bits that are set one after the other, as `on` names them, to what `f` gives: each depends on itself alone. -/
theorem bit_foldl_setBit (on f : Nat → Bool) (l : List Nat) (m k : Nat) :
    bit (l.foldl (fun m v => if on v then setBit m v (f v) else m) m) k = if k ∈ l ∧ on k then f k else bit m k := by
  induction l generalizing m with
  | nil => simp
  | cons v l ih =>
    rw [List.foldl_cons, ih]
    by_cases hl : k ∈ l ∧ on k = true
    · rw [if_pos hl, if_pos ⟨List.mem_cons_of_mem _ hl.1, hl.2⟩]
    · rw [if_neg hl]
      by_cases hv : k = v
      · subst hv
        by_cases hon : on k = true <;> simp [hon, bit_setBit]
      · have hstep : bit (if on v then setBit m v (f v) else m) k = bit m k := by
          split
          · rw [bit_setBit, if_neg hv]
          · rfl
        rw [hstep, if_neg]
        simpa [hv] using hl

/-! The priorities that a received pause stops (R272). -/

/-- The priorities that stand paused on a port are set anew. -/
def State.pausedSet (s : State) (p m : Nat) : State := s.modCellar fun c => { c with paused := Tab.set c.paused 0 p m }

/-- A command whose effect is a new set of paused priorities on one port, from its bits: those of the other ports and the copies stand. -/
theorem runKeep_pausedSet {f : State → State} {p m : Nat} {g : Nat → Bool} (hh : s.held = false) (hf : f s = s.pausedSet p m)
    (hg : ∀ k < 8, bit m k = g k) :
    ∃ t, runKeep s f = .next t ∧ (∀ k < 8, bit (Tab.get t.cellar.paused 0 p) k = g k) ∧
      (∀ r, r ≠ p → Tab.get t.cellar.paused 0 r = Tab.get s.cellar.paused 0 r) ∧
      t.cellar.copies = s.cellar.copies ∧ t.only s [.cellar] [] := by
  have hget : Tab.get (s.pausedSet p m).cellar.paused 0 p = m := Tab.get_set_same _ _ _ _
  have ho : (s.pausedSet p m).only s [.cellar] [] := State.only_modCellar _ (State.only_refl _ _ _) (by simp)
  exact ⟨_, runKeep_eq hh hf ho (by simp), fun k hk => hget.symm ▸ hg k hk, fun r hr => Tab.get_set_ne _ _ _ _ hr, rfl, ho⟩

/-! The drain fence (R265). -/

/-- A fence is set and PENDING. -/
def State.fencePending (s : State) (c : Nat) : State := (s.modCellar fun x => { x with fence := c }).setObj O.DRAIN_STATE 1

/-- A fence is reached. -/
def State.fenceDone (s : State) : State := (s.setObj O.DRAIN_STATE 2).raise O.CELLAR_FLAGS 7

theorem State.fencePending_only (s : State) (c : Nat) : (s.fencePending c).only s [.cellar] [keyOf O.DRAIN_STATE] :=
  State.only_setObj _ (State.only_modCellar _ (State.only_refl _ _ _) (by simp)) (by simp)

theorem State.fencePending_state (s : State) (c : Nat) : (s.fencePending c).obj O.DRAIN_STATE = 1 := State.obj_setObj_same _ _ _ _

theorem State.fencePending_cellar (s : State) (c : Nat) : (s.fencePending c).cellar = { s.cellar with fence := c } := rfl

theorem State.fenceDone_only (s : State) : s.fenceDone.only s flagParts fenceKeys :=
  State.only_raise _ _ (State.only_setObj _ (State.only_refl _ _ _) List.mem_cons_self) (fun _ h => h) fun _ h => List.mem_cons_of_mem _ h

theorem State.fenceDone_state (s : State) : s.fenceDone.obj O.DRAIN_STATE = 2 := by
  rw [State.fenceDone, State.raise_obj _ _ _ _ (Obj.key_notMem_flagKeys (by decide) (by decide) (by decide) (by decide)), State.obj_setObj_same]
  rfl

theorem State.fenceDone_flags (s : State) : s.fenceDone.obj O.CELLAR_FLAGS = (s.obj O.CELLAR_FLAGS ||| 128) % 2 ^ 32 := by
  rw [State.fenceDone, State.raise_obj_same _ _ _ _ (by decide), State.obj_setObj_ne _ _ (by decide)]
  rfl

theorem State.fenceWrite_refused {c : Nat} (h : s.fenceOk c = false) : s.fenceWrite c = s := by simp [State.fenceWrite, h]

theorem State.fenceWrite_waits {c : Nat} (h : s.fenceOk c = true) (hd : ∃ d ∈ s.cellar.copies, commitBefore d.commit c = true) :
    s.fenceWrite c = s.fencePending c := by
  have hany : s.cellar.copies.any (fun d => commitBefore d.commit c) = true := List.any_eq_true.mpr hd
  rw [State.fenceWrite, if_pos h]
  exact if_neg fun hdone => hdone.2 hany

theorem State.fenceWrite_done {c : Nat} (h : s.fenceOk c = true) (hd : ∀ d ∈ s.cellar.copies, commitBefore d.commit c = false) :
    s.fenceWrite c = (s.fencePending c).fenceDone := by
  have hnone : ¬ s.cellar.copies.any (fun d => commitBefore d.commit c) = true := by simpa using hd
  rw [State.fenceWrite, if_pos h]
  exact if_pos ⟨s.fencePending_state c, hnone⟩

end Sys2Proof.Machine

open Sys2Proof Sys2Proof.Machine

/-- Settles O29, clause by clause: the refresh of a pause, pauses received and run out by the bits that they set and clear, and the write of
DRAIN_FENCE by whether a copy with an earlier COMMIT remains. -/
theorem pausesAndFence : Obligations.PausesAndFence := by
  unfold Obligations.PausesAndFence
  refine ⟨?repeats, ?noRepeat, ?native, ?receives, ?expires, ?refused, ?waits, ?done⟩
  case repeats =>
    intro s p q hh hx habove
    have ho : (s.sendPfc p q 0xFFFF).only s [.out] [] := State.only_emit _ (State.only_refl _ _ _) (by simp)
    exact ⟨_, runKeep_eq hh (if_pos ⟨hx, habove⟩) ho (by simp), State.emit_out _ _, ho⟩
  case noRepeat =>
    intro s p q hh h
    refine runKeep_same hh (if_neg ?_)
    rintro ⟨hx, habove⟩
    rcases h with hoff | ⟨hxon, hgov⟩
    · exact absurd hx (by simp [hoff])
    · exact habove.elim (Nat.not_lt.mpr hxon) (by simp [hgov])
  case native =>
    intro s p e v hh hn
    exact runKeep_same hh (if_pos hn)
  case receives =>
    intro s p e v hh hn
    refine runKeep_pausedSet hh (if_neg (by simp [hn])) fun k hk => ?_
    rw [bit_foldl_setBit]
    simp [hk]
  case expires =>
    intro s p m hh
    refine runKeep_pausedSet hh rfl fun k _ => ?_
    rw [bit_clearBits, ← BitVec.testBit_toNat, bit, bit]
  case refused =>
    intro s v hh hc
    exact runKeep_same hh (State.fenceWrite_refused hc)
  case waits =>
    intro s v hh hc hd
    have ho := s.fencePending_only v.toNat
    exact ⟨_, runKeep_eq hh (State.fenceWrite_waits hc hd) ho (by simp), s.fencePending_cellar _, s.fencePending_state _, ho⟩
  case done =>
    intro s v hh hc hd
    have hpend := s.fencePending_only v.toNat
    have hdone := (s.fencePending v.toNat).fenceDone_only
    have ho : (s.fencePending v.toNat).fenceDone.only s (.cellar :: flagParts) (keyOf O.DRAIN_STATE :: flagKeys O.CELLAR_FLAGS) :=
      State.only_trans (State.only_mono hdone (by simp +contextual) (fun _ h => h)) (State.only_mono hpend (by simp) (by simp))
    refine ⟨_, runKeep_eq hh (State.fenceWrite_done hc hd) ho (by decide), ?_, State.fenceDone_state _, ?_, ho⟩
    · exact (hdone.1 .cellar (by decide)).trans (s.fencePending_cellar _)
    · rw [State.fenceDone_flags, State.only_obj hpend (by decide)]
end

section
/-! PROOF. O30 fails in its clause on the swap: the statement ranges over every state, and the frame of the swap names CARAVAN_DISCARD alone,
where a state's bay may hold a cell under a source port that the part does not have. The clause as it holds of the part's 48 ports (R303, R306,
R315) comes first. -/

namespace Sys2Proof.Machine

variable {s : State}

/-- A fold keeps what each of its steps keeps. -/
theorem forEach_keeps {α β : Type} {f : State → α → State} (v : State → β) {xs : List α} (hf : ∀ u, ∀ x ∈ xs, v (f u x) = v u)
    (s : State) : v (forEach xs f s) = v s := by
  unfold forEach
  induction xs generalizing s with
  | nil => rfl
  | cons x xs ih => exact (ih (fun u y hy => hf u y (List.mem_cons_of_mem _ hy)) (f s x)).trans (hf s x List.mem_cons_self)

/-- Another BLOB stands. -/
theorem State.blob_setBlob_ne {o o' : Obj} (b : Blob) {sub j : Nat} (h : o'.key j ≠ o.key sub) : (s.setBlob o b sub).blob o' j = s.blob o' j :=
  Tab.get_set_ne _ _ _ _ h

/-! The bay is emptied (R297, R306). -/

/-- The objects that the discard of cells may touch. -/
def discardKeys : List Nat := flagKeys O.CARAVAN_FLAGS ++ allOf [O.CARAVAN_DISCARD]

/-- A discard counts under the source port, and raises the flag. -/
theorem State.discard_only (s : State) {p : Nat} (hp : p < 48) (n : Nat) : (s.discard p n).only s flagParts discardKeys := by
  unfold State.discard
  split
  · exact State.only_refl _ _ _
  · exact State.only_raise _ _ (State.only_count _ _ _ (State.only_refl _ _ _) (List.mem_append_right _ (mem_allOf (by simp) (by omega))))
      (fun _ h => h) (fun _ h => List.mem_append_left _ h)

theorem State.discard_caravan (p n : Nat) : (s.discard p n).caravan = s.caravan := by
  unfold State.discard
  split
  · rfl
  · rw [State.raise_caravan, State.count_caravan]

theorem State.discard_blob (s : State) (p n : Nat) (o : Obj) (j : Nat) : (s.discard p n).blob o j = s.blob o j := by
  unfold State.discard
  split
  · rfl
  · rw [State.raise_blob, State.count_blob]

theorem State.emptyBay_caravan (s : State) : s.emptyBay.caravan = { s.caravan with bay := [] } :=
  congrArg (fun c : Caravan => { c with bay := [] }) (forEach_keeps (·.caravan) (fun _ _ _ => State.discard_caravan _ _) _)

theorem State.emptyBay_only (hbay : ∀ c ∈ s.caravan.bay, c.srcPort < 48) : s.emptyBay.only s (.caravan :: flagParts) discardKeys :=
  State.only_modCaravan _ (State.only_forEach_mem _ (fun u c hc => State.only_mono (u.discard_only (hbay c hc) 1) (by simp +contextual)
    fun _ h => h) (State.only_refl _ _ _)) (by simp)

/-! The swap, stage by stage (R303, R306, R315). -/

/-- The shadow tables of the 48 ports become active. -/
def State.tablesActive (s : State) : State :=
  forEach (List.range 48) (fun s p => s.setBlob O.CARAVAN_ACTIVE (s.blob O.CARAVAN_SHADOW (p + 1)) (p + 1)) s

/-- The shadow tables become active, and with them the shadow of the sinks. -/
def State.shadowsActive (s : State) : State :=
  s.tablesActive.setBlob O.CARAVAN_SINK (s.tablesActive.blob O.CARAVAN_SINK_SHADOW)

/-- The entries that the tables `old` did not hold are re-established. -/
def State.newReestablished (s : State) (old : List (List SchedEntry)) : State :=
  forEach (List.range 48) (fun s p => forEach ((s.activeTable p).filter fun e => !((old.getD p []).any fun o => o.word == e.word))
    (fun s e => s.reestablish (e.key p)) s) s

/-- The swap is recorded: records of sources that no entry names are dropped, and nothing waits or idles any more. -/
def State.swapNoted (s : State) (n : Nat) : State :=
  let mapped (k : Nat) : Bool := (s.activeTable (k / 768)).any fun e => e.srcPort == k % 768 / 16
  s.modCaravan fun c => { c with recs := c.recs.filter (fun r => mapped r.1), swapCycle := some n, idle := [], waiting := false, initial := false }

/-- The tables in force on the 48 ports. -/
def State.activeTables (s : State) : List (List SchedEntry) := (List.range 48).map s.activeTable

theorem State.swapTables_eq (n : Nat) :
    s.swapTables n = ((s.emptyBay.shadowsActive.newReestablished s.activeTables).swapNoted n).raise O.CARAVAN_FLAGS 4 := rfl

theorem State.tablesActive_only (s : State) : s.tablesActive.only s [.blobs] [] :=
  State.only_forEach _ (fun u _ => State.only_setBlob _ _ _ (State.only_refl u _ _) (by simp)) (State.only_refl _ _ _)

theorem State.tablesActive_active {p : Nat} (hp : p < 48) :
    s.tablesActive.blob O.CARAVAN_ACTIVE (p + 1) = s.blob O.CARAVAN_SHADOW (p + 1) := by
  have hview := forEach_view (f := fun s q => s.setBlob O.CARAVAN_ACTIVE (s.blob O.CARAVAN_SHADOW (q + 1)) (q + 1))
    (fun u => (u.blob O.CARAVAN_ACTIVE (p + 1), u.blob O.CARAVAN_SHADOW (p + 1))) (fun x => (x.2, x.2)) List.nodup_range
    (List.mem_range.mpr hp) (fun u => ?own) (fun u q hq hne => ?other) s
  case own => exact Prod.ext (State.blob_setBlob_same ..) (State.blob_setBlob_ne _ (Obj.key_ne (by decide) (by omega) (by omega)))
  case other =>
    have hq48 := List.mem_range.mp hq
    exact Prod.ext (State.blob_setBlob_ne _ fun hk => hne (by unfold Obj.key at hk; omega))
      (State.blob_setBlob_ne _ (Obj.key_ne (by decide) (by omega) (by omega)))
  exact (Prod.mk.inj hview).1

theorem State.tablesActive_sinkShadow (s : State) : s.tablesActive.blob O.CARAVAN_SINK_SHADOW = s.blob O.CARAVAN_SINK_SHADOW :=
  forEach_keeps (·.blob O.CARAVAN_SINK_SHADOW) (fun u q hq => State.blob_setBlob_ne _
    (Obj.key_ne (by decide) (by decide) (by have := List.mem_range.mp hq; omega))) s

theorem State.shadowsActive_only (s : State) : s.shadowsActive.only s [.blobs] [] :=
  State.only_setBlob _ _ _ s.tablesActive_only (by simp)

theorem State.shadowsActive_active {p : Nat} (hp : p < 48) :
    s.shadowsActive.blob O.CARAVAN_ACTIVE (p + 1) = s.blob O.CARAVAN_SHADOW (p + 1) :=
  (State.blob_setBlob_ne _ (Obj.key_ne (by decide) (by omega) (by decide))).trans (State.tablesActive_active hp)

theorem State.shadowsActive_sink (s : State) : s.shadowsActive.blob O.CARAVAN_SINK = s.blob O.CARAVAN_SINK_SHADOW :=
  (State.blob_setBlob_same ..).trans s.tablesActive_sinkShadow

theorem State.reestablish_bay (s : State) (k : Nat) : (s.reestablish k).caravan.bay = s.caravan.bay := rfl

theorem State.newReestablished_only (s : State) (old : List (List SchedEntry)) : (s.newReestablished old).only s [.caravan] [] :=
  State.only_forEach _ (fun u p => State.only_forEach _ (fun v e => v.reestablish_only (e.key p)) (State.only_refl u _ _))
    (State.only_refl _ _ _)

theorem State.newReestablished_bay (s : State) (old : List (List SchedEntry)) : (s.newReestablished old).caravan.bay = s.caravan.bay := by
  unfold State.newReestablished
  refine forEach_keeps (·.caravan.bay) (fun u p _ => ?_) s
  exact forEach_keeps (f := fun v (e : SchedEntry) => v.reestablish (e.key p)) (·.caravan.bay) (fun v e _ => v.reestablish_bay (e.key p)) u

theorem State.swapNoted_only (s : State) (n : Nat) : (s.swapNoted n).only s [.caravan] [] := by
  unfold State.swapNoted
  exact State.only_modCaravan _ (State.only_refl _ _ _) (by simp)

theorem State.swapNoted_caravan (s : State) (n : Nat) : (s.swapNoted n).caravan.bay = s.caravan.bay ∧
    (s.swapNoted n).caravan.waiting = false ∧ (s.swapNoted n).caravan.swapCycle = some n := ⟨rfl, rfl, rfl⟩

theorem State.swapTables_only (n : Nat) (hbay : ∀ c ∈ s.caravan.bay, c.srcPort < 48) :
    (s.swapTables n).only s (.caravan :: .blobs :: flagParts) discardKeys := by
  have hempty := State.only_mono (State.emptyBay_only hbay) (l' := .caravan :: .blobs :: flagParts) (by simp +contextual) fun _ h => h
  have hactive := State.only_trans (State.only_mono s.emptyBay.shadowsActive_only (by simp) (by simp)) hempty
  have hnew := State.only_trans (State.only_mono (State.newReestablished_only _ s.activeTables) (by simp) (by simp)) hactive
  have hnoted := State.only_trans (State.only_mono (State.swapNoted_only _ n) (by simp) (by simp)) hnew
  rw [State.swapTables_eq]
  exact State.only_raise _ _ hnoted (by simp +contextual) fun _ h => List.mem_append_left _ h

/-- The BLOBs after the swap are those that the shadows left. -/
theorem State.swapTables_blob (n : Nat) (o : Obj) (j : Nat) : (s.swapTables n).blob o j = s.emptyBay.shadowsActive.blob o j := by
  have hnew := State.newReestablished_only s.emptyBay.shadowsActive s.activeTables
  have hblobs := (State.only_trans (State.only_mono (State.swapNoted_only _ n) (fun _ h => h) (by simp)) hnew).1 .blobs (by simp)
  rw [State.swapTables_eq, State.raise_blob]
  exact congrArg (fun b => Tab.get b (blobDflt o) (o.key j)) hblobs

theorem State.emptyBay_blob (s : State) (o : Obj) (j : Nat) : s.emptyBay.blob o j = s.blob o j := by
  rw [State.emptyBay, State.modCaravan_blob]
  exact forEach_keeps (f := fun v (c : BayCell) => v.discard c.srcPort) (·.blob o j) (fun u c _ => u.discard_blob c.srcPort 1 o j) s

/-- What the scheduler holds after the swap: an empty bay, nothing that waits, and the cycle of the new tables. -/
theorem State.swapTables_caravan (s : State) (n : Nat) : (s.swapTables n).caravan.bay = [] ∧ (s.swapTables n).caravan.waiting = false ∧
    (s.swapTables n).caravan.swapCycle = some n := by
  obtain ⟨hbay, hwaiting, hcycle⟩ := (s.emptyBay.shadowsActive.newReestablished s.activeTables).swapNoted_caravan n
  have hempty : s.emptyBay.shadowsActive.caravan.bay = [] := by
    rw [s.emptyBay.shadowsActive_only.1 .caravan (by simp), State.emptyBay_caravan]
  rw [State.swapTables_eq, State.raise_caravan]
  exact ⟨hbay.trans ((State.newReestablished_bay _ _).trans hempty), hwaiting, hcycle⟩

/-- What O30 says of the swap, where every cell of the bay came in on one of the part's 48 ports. -/
theorem exec_caravanSwap_waiting (hh : s.held = false) (hw : s.caravan.waiting = true) (hbay : ∀ c ∈ s.caravan.bay, c.srcPort < 48) :
    ∃ t, exec .caravanSwap s = .next t ∧ t.status O.CARAVAN_STATUS 0 = 2 ∧
      (∀ p < 48, t.blob O.CARAVAN_ACTIVE (p + 1) = s.blob O.CARAVAN_SHADOW (p + 1)) ∧
      t.blob O.CARAVAN_SINK = s.blob O.CARAVAN_SINK_SHADOW ∧ t.caravan.bay = [] ∧ t.caravan.waiting = false ∧
      t.caravan.swapCycle = some (s.obj O.CARAVAN_LOAD_AT) ∧ bit (t.obj O.CARAVAN_FLAGS) 4 = true ∧
      t.only s (.caravan :: .blobs :: flagParts) (keyOf O.CARAVAN_STATUS :: flagKeys O.CARAVAN_FLAGS ++ allOf [O.CARAVAN_DISCARD]) := by
  have hs : s.caravanSwap = (s.swapTables (s.obj O.CARAVAN_LOAD_AT)).endStatus O.CARAVAN_STATUS 0 2 := if_pos hw
  have ho : ((s.swapTables (s.obj O.CARAVAN_LOAD_AT)).endStatus O.CARAVAN_STATUS 0 2).only s (.caravan :: .blobs :: flagParts)
      (keyOf O.CARAVAN_STATUS :: discardKeys) :=
    State.only_endStatus _ _ (State.only_mono (State.swapTables_only _ hbay) (fun _ h => h) fun _ h => List.mem_cons_of_mem _ h) List.mem_cons_self
  obtain ⟨hempty, hwaiting, hcycle⟩ := s.swapTables_caravan (s.obj O.CARAVAN_LOAD_AT)
  refine ⟨_, runKeep_eq hh hs ho (by decide), State.status_endStatus _ _ _ _ _ (by decide), fun p hp => ?_, ?_, ?_, ?_, ?_, ?_, ho⟩
  · rw [State.endStatus_blob, State.swapTables_blob, State.shadowsActive_active hp, State.emptyBay_blob]
  · rw [State.endStatus_blob, State.swapTables_blob, State.shadowsActive_sink, State.emptyBay_blob]
  · rw [State.endStatus_caravan, hempty]
  · rw [State.endStatus_caravan, hwaiting]
  · rw [State.endStatus_caravan, hcycle]
  · rw [State.endStatus_obj_ne _ _ _ _ _ (Obj.key_ne (by decide) (by decide) (by decide)), State.swapTables_eq]
    exact State.raise_bit _ _ (by decide) (Obj.key_notMem_wakeKeys (by decide) (by decide))

/-! The counterexample. -/

/-- A swap that waits, with a cell in the bay whose CARAVAN_DISCARD is the CARAVAN_WIDTH_DROP of port 0. -/
def straySwap : State :=
  State.reset.modCaravan fun c => { c with waiting := true, bay := [⟨256, 0, 0, 0, 0, 0, 0, 1, [], false⟩] }

theorem straySwap_widthDrop : straySwap.obj O.CARAVAN_WIDTH_DROP 1 = 0 := by decide +kernel

/-- The cell that the swap discards is counted there. -/
theorem straySwap_swaps : exec .caravanSwap straySwap = .next (straySwap.keeping (·.caravanSwap)) ∧
    (straySwap.keeping (·.caravanSwap)).obj O.CARAVAN_WIDTH_DROP 1 = 1 :=
  ⟨runKeep_next straySwap (·.caravanSwap) rfl, by decide +kernel⟩

/-- CARAVAN_WIDTH_DROP stands outside the frame of the swap. -/
theorem widthDrop_notMem_swapKeys :
    O.CARAVAN_WIDTH_DROP.key 1 ∉ keyOf O.CARAVAN_STATUS :: flagKeys O.CARAVAN_FLAGS ++ allOf [O.CARAVAN_DISCARD] := by
  intro hmem
  rcases List.mem_append.mp hmem with h | h
  · rcases List.mem_cons.mp h with h | h
    · exact Obj.key_ne (by decide) (by decide) (by decide) h
    · exact Obj.key_notMem_flagKeys (by decide) (by decide) (by decide) (by decide) h
  · exact absurd (index_of_mem_allOf _ h) (by decide)

end Sys2Proof.Machine

open Sys2Proof Sys2Proof.Machine

/-- Refutes O30 in its ninth clause, with a cell in the bay that came in on a port 256: its discard counts under CARAVAN_DISCARD's sub-index
257, which is the object CARAVAN_WIDTH_DROP of port 0, outside the clause's frame. No command stores such a cell, but the clause ranges over
every state; it lacks the hypothesis that the cells of the bay came in on the part's 48 ports, under which `exec_caravanSwap_waiting` proves
it. -/
theorem not_caravanTablesSwap : ¬ Obligations.CaravanTablesSwap := by
  unfold Obligations.CaravanTablesSwap
  rintro ⟨-, -, -, -, -, -, -, -, hswap, -⟩
  obtain ⟨hexec, hobj⟩ := straySwap_swaps
  obtain ⟨t, ht, -, -, -, -, -, -, -, honly⟩ := hswap straySwap rfl rfl
  have hkept := State.only_obj honly widthDrop_notMem_swapKeys
  rw [← Host.Outcome.next.inj (hexec.symm.trans ht), hobj, straySwap_widthDrop] at hkept
  exact absurd hkept (by decide)
end

section
/-! SUPPORT. Fields of numbers, octets of the Pantry, and entries of the exact-match table (R5, R327, R438): what is read after a write. -/

namespace Sys2Proof.Machine

variable {s t : State}

/-! Fields of numbers. -/

theorem bit_bits (v hi lo k : Nat) : bit (bits v hi lo) k = (decide (k < hi - lo + 1) && bit v (lo + k)) := by
  simp only [bit, bits, Nat.testBit_mod_two_pow, Nat.testBit_div_two_pow]
  rw [Nat.add_comm k lo]

/-- A field depends on its bits alone. -/
theorem bits_congr {v w hi lo : Nat} (h : ∀ k, lo ≤ k → k < lo + (hi - lo + 1) → bit v k = bit w k) : bits v hi lo = bits w hi lo := by
  refine Nat.eq_of_testBit_eq fun k => ?_
  have hbits := fun x => bit_bits x hi lo k
  simp only [bit] at hbits h
  rw [hbits, hbits]
  by_cases hk : k < hi - lo + 1
  · rw [h (lo + k) (by omega) (by omega)]
  · simp [hk]

/-- The bits of a number with one field replaced. -/
theorem bit_replaced (e r hi lo k : Nat) : bit (e - bits e hi lo * 2 ^ lo + r % 2 ^ (hi - lo + 1) * 2 ^ lo) k =
    if lo ≤ k ∧ k < lo + (hi - lo + 1) then bit r (k - lo) else bit e k := by
  unfold bit bits
  generalize hi - lo + 1 = w
  have hlow : e % 2 ^ lo < 2 ^ lo := Nat.mod_lt _ (by positivity)
  have hfield : r % 2 ^ w < 2 ^ w := Nat.mod_lt _ (by positivity)
  have hsplit : e = 2 ^ lo * (2 ^ w * (e / 2 ^ lo / 2 ^ w) + e / 2 ^ lo % 2 ^ w) + e % 2 ^ lo := by
    rw [Nat.div_add_mod, Nat.div_add_mod]
  have hnew : e - e / 2 ^ lo % 2 ^ w * 2 ^ lo + r % 2 ^ w * 2 ^ lo =
      2 ^ lo * (2 ^ w * (e / 2 ^ lo / 2 ^ w) + r % 2 ^ w) + e % 2 ^ lo := by
    generalize e / 2 ^ lo % 2 ^ w = f at *
    have hsum : e = (2 ^ lo * (2 ^ w * (e / 2 ^ lo / 2 ^ w)) + e % 2 ^ lo) + f * 2 ^ lo := by
      rw [Nat.mul_add, Nat.mul_comm _ f] at hsplit; omega
    have hle : e - f * 2 ^ lo = 2 ^ lo * (2 ^ w * (e / 2 ^ lo / 2 ^ w)) + e % 2 ^ lo := by omega
    rw [hle, Nat.mul_add, Nat.mul_comm (2 ^ lo) (r % 2 ^ w)]; omega
  rw [hnew, Nat.testBit_two_pow_mul_add _ hlow, Nat.testBit_two_pow_mul_add _ hfield, Nat.testBit_mod_two_pow, Nat.testBit_mod_two_pow,
    Nat.testBit_div_two_pow, Nat.testBit_div_two_pow]
  by_cases hlo : k < lo
  · simp [hlo, Nat.not_le.mpr hlo]
  · by_cases hhi : k - lo < w
    · simp [hlo, hhi, Nat.not_lt.mp hlo, show k < lo + w by omega]
    · simp [hlo, hhi, show ¬ k < lo + w by omega, show k - lo - w + w + lo = k by omega]

/-- The lowest octet of a number cleared. -/
theorem bit_sub_octet (e k : Nat) : bit (e - e % 256) k = (decide (8 ≤ k) && bit e k) := by
  have hdiv : e - e % 256 = e / 2 ^ 8 * 2 ^ 8 := by omega
  rw [hdiv, bit, Nat.testBit_mul_two_pow, Nat.testBit_div_two_pow]
  by_cases h : 8 ≤ k
  · simp [h, bit]
  · simp [h]

/-! Octets. -/

@[simp] theorem length_leBytes (n v : Nat) : (leBytes n v).length = n := by
  induction n generalizing v with
  | zero => rfl
  | succ n ih => simp [leBytes, ih]

/-- Octets that are written are read back in their width. -/
@[simp] theorem ofLe_leBytes (n v : Nat) : ofLe (leBytes n v) = v % 2 ^ (8 * n) := by
  induction n generalizing v with
  | zero => simp [leBytes, ofLe, Nat.mod_one]
  | succ n ih =>
    have hpow : 2 ^ (8 * (n + 1)) = 256 * 2 ^ (8 * n) := by rw [Nat.mul_succ, pow_add]; omega
    rw [leBytes, ofLe, ih, hpow, Nat.mod_mul, BitVec.toNat_ofNat]

theorem Tab.getElem_getRun {α : Type} (m : Tab α) (d : α) (k n i : Nat) (h : i < (m.getRun d k n).length) :
    (m.getRun d k n)[i] = m.get d (k + i) := by
  induction n generalizing k i with
  | zero => simp [Tab.getRun] at h
  | succ n ih =>
    cases i with
    | zero => rfl
    | succ i =>
      have hi : i < (m.getRun d (k + 1) n).length := by simpa using h
      exact (ih (k + 1) i hi).trans (congrArg _ (by omega))

/-- What stands in the middle of a written run is read back. -/
theorem State.pantryRead_write_mid (a : Nat) (pre l post : Bytes) :
    (s.pantryWrite a (pre ++ l ++ post)).pantryRead (a + pre.length) l.length = l := by
  refine List.ext_getElem (by simp [State.pantryRead]) fun i _ hi => ?_
  have hin : pre.length + i < (pre ++ l ++ post).length := by simp; omega
  have hread := Tab.get_setRun_in s.pantry 0 a _ hin
  simp only [State.pantryRead, State.pantryWrite]
  rw [Tab.getElem_getRun, Nat.add_assoc, hread]
  simp [List.getElem_append_left, List.getElem_append_right, hi]

theorem State.pantryRead_write_same (a : Nat) (l : Bytes) : (s.pantryWrite a l).pantryRead a l.length = l := by
  simpa using s.pantryRead_write_mid a [] l []

/-- Octets outside a written run stand. -/
theorem State.pantryRead_write_out {a b n : Nat} {l : Bytes} (h : b + n ≤ a ∨ a + l.length ≤ b) :
    (s.pantryWrite a l).pantryRead b n = s.pantryRead b n := by
  refine List.ext_getElem (by simp [State.pantryRead]) fun i hi _ => ?_
  have hlt : i < n := by simpa [State.pantryRead] using hi
  simp only [State.pantryRead, State.pantryWrite]
  rw [Tab.getElem_getRun, Tab.getElem_getRun, Tab.get_setRun_out _ _ _ _ _ (by omega)]

/-- A word of the Pantry after its write. -/
theorem State.pantryRead_leBytes (a n v : Nat) : (s.pantryWrite a (leBytes n v)).pantryRead a n = leBytes n v := by
  simpa using s.pantryRead_write_same a (leBytes n v)

theorem State.pantryRead_of_pantry {a n : Nat} (h : t.pantry = s.pantry) : t.pantryRead a n = s.pantryRead a n := by
  rw [State.pantryRead, State.pantryRead, h]

end Sys2Proof.Machine
end

section
/-! SUPPORT. Entries of the exact-match table and rows of the TCAM (R327, R340, R345, R347). -/

namespace Sys2Proof.Machine

variable {s t : State}

/-! Entries: each field after RESULT or GEN has been replaced. -/

theorem bit_emSetResult (e r k : Nat) : bit (emSetResult e r) k = if 44 ≤ k ∧ k < 60 then bit r (k - 44) else bit e k :=
  bit_replaced e r 59 44 k

theorem bit_withGen (e g k : Nat) : bit (withGen e g) k = if k = 43 then bit g 0 else bit e k := by
  have h := bit_replaced e g 43 43 k
  by_cases hk : k = 43
  · rw [if_pos (by omega)] at h
    subst hk
    exact h
  · rw [if_neg (by omega)] at h
    rw [if_neg hk]
    exact h

theorem bit_imageEntry (e k : Nat) : bit (imageEntry e) k =
    if k = 127 then true else if k = 124 ∨ k = 43 then false else decide (8 ≤ k) && bit e k := by
  rw [imageEntry, bit_setBit, bit_setBit, bit_withGen, bit_sub_octet]
  by_cases h127 : k = 127
  · simp [h127]
  · by_cases h124 : k = 124
    · simp [h124]
    · by_cases h43 : k = 43 <;> simp [h127, h124, h43, bit]

theorem emType_imageEntry (e : Nat) : emType (imageEntry e) = emType e :=
  bits_congr fun k hlo hhi => by
    rw [bit_imageEntry, if_neg (by omega), if_neg (by omega), decide_eq_true (by omega : 8 ≤ k), Bool.true_and]

theorem emKey_imageEntry (e : Nat) : emKey (imageEntry e) = emKey e :=
  bits_congr fun k hlo hhi => by
    rw [bit_imageEntry, if_neg (by omega), if_neg (by omega), decide_eq_true (by omega : 8 ≤ k), Bool.true_and]

/-! One entry is written (R327, R334). -/

theorem State.setEm_only (s : State) (l e : Nat) : (s.setEm l e).only s [.tables] [] :=
  State.only_modTables _ (State.only_refl _ _ _) (by simp)

theorem State.em_setEm_ne {l k : Nat} (e : Nat) (h : k ≠ l) : (s.setEm l e).em k = s.em k := Tab.get_set_ne _ _ _ _ h

theorem State.em_setEm_same (l e : Nat) : (s.setEm l e).em l = if bit e 127 then e - e % 256 else 0 := Tab.get_set_same _ _ _ _

theorem State.em_setEm_valid {l e : Nat} (h : bit e 127 = true) : (s.setEm l e).em l = e - e % 256 :=
  (State.em_setEm_same l e).trans (if_pos h)

/-- A field above the ECC octet of an entry that was written. -/
theorem State.bit_em_setEm {l e k : Nat} (h : bit e 127 = true) (hk : 8 ≤ k) : bit ((s.setEm l e).em l) k = bit e k := by
  rw [State.em_setEm_valid h, bit_sub_octet, decide_eq_true hk, Bool.true_and]

theorem State.bits_em_setEm {l e hi lo : Nat} (h : bit e 127 = true) (hlo : 8 ≤ lo) : bits ((s.setEm l e).em l) hi lo = bits e hi lo :=
  bits_congr fun _ hk _ => State.bit_em_setEm h (hlo.trans hk)

theorem State.em_setEm_zero (l : Nat) : (s.setEm l 0).em l = 0 := (State.em_setEm_same l 0).trans (if_neg (by decide))

/-- An entry that is found is VALID (R332). -/
theorem State.emFind_valid {type key l : Nat} (h : s.emFind type key = some l) : bit (s.em l) 127 = true := by
  have hmatch := List.find?_some h
  simp only [State.emMatch, Bool.and_eq_true] at hmatch
  exact hmatch.1.1

theorem State.emLookup_valid {type key l : Nat} (h : s.emLookup type key = some l) : bit (s.em l) 127 = true := by
  have hmatch := List.find?_some h
  simp only [State.emMatch, Bool.and_eq_true] at hmatch
  exact hmatch.1.1.1

/-! One row of the TCAM is written in its four copies (R347). -/

theorem State.setTcam_tcamCopy {i k : Nat} (p : Prefix) (hk : k < 4) : (s.setTcam i p).tcamCopy k i = p := by
  simp only [State.tcamCopy, State.setTcam, State.modTables_tables, List.foldl, Tab.get_set]
  interval_cases k <;> simp

theorem State.setTcam_tcam_ne {i j : Nat} (p : Prefix) (hi : i < 16384) (hj : j < 16384) (h : j ≠ i) :
    (s.setTcam i p).tcam j = s.tcam j := by
  simp only [State.tcam, State.tcamCopy, State.setTcam, State.modTables_tables, List.foldl]
  rw [Tab.get_set_ne _ _ _ _ (by omega), Tab.get_set_ne _ _ _ _ (by omega), Tab.get_set_ne _ _ _ _ (by omega),
    Tab.get_set_ne _ _ _ _ (by omega)]

end Sys2Proof.Machine
end

section
/-! SUPPORT. The completion of a descriptor (R348, R349, R351), and what every operation of the update unit may touch. -/

namespace Sys2Proof.Machine

variable {s t u : State} {r : Nat} {d : DmaResult}

/-- Word 0 of a completed descriptor: OWN cleared, the status and the INFO octet, and ABORT_LATE where an abort lost. -/
def dmaWord0 (w : Nat) (d : DmaResult) (late : Bool) : Nat :=
  let v := w - bits w 31 31 * 2 ^ 31 - bits w 15 0 + d.status * 256 + d.info % 256
  if late then setBit v 26 true else v

/-- A word of the Pantry is written where there is one. -/
def State.pantryOpt (s : State) (a n : Nat) (o : Option Nat) : State := o.elim s fun v => s.pantryWrite a (leBytes n v)

/-- The words of the descriptor at the tail of a ring are written. -/
def State.dmaStored (s : State) (r : Nat) (d : DmaResult) (late : Bool) : State :=
  (((s.pantryWrite (s.dmaAddr r) (leBytes 4 (dmaWord0 (s.dmaWord r 0) d late))).pantryOpt (s.dmaAddr r + 4) 4 d.w1).pantryWrite
    (s.dmaAddr r + 12) (leBytes 4 (s.obj O.TABLE_COMMIT))).pantryOpt (s.dmaAddr r + 16) 16 d.entry

/-- The tail of a ring advances. -/
def State.dmaAdvance (s : State) (r : Nat) : State :=
  s.setObj O.TDMA_TAIL ((s.obj O.TDMA_TAIL (r + 1) + 1) % 2 ^ s.obj O.TDMA_SIZE (r + 1)) (r + 1)

/-- A completion writes the descriptor, advances the tail, and is an event where IRQ is set. -/
theorem State.dmaFinish_eq (s : State) (r : Nat) (d : DmaResult) (late : Bool) : s.dmaFinish r d late =
    if bit (s.dmaWord r 0) 30 then ((s.dmaStored r d late).dmaAdvance r).sharedEvent (126 + r)
    else (s.dmaStored r d late).dmaAdvance r := by
  obtain ⟨status, info, w1, entry⟩ := d
  cases w1 <;> cases entry <;> rfl

theorem State.only_pantryOpt {l : List Part} {ks : List Nat} (a n : Nat) (o : Option Nat) (h : t.only s l ks) (hl : .pantry ∈ l) :
    (t.pantryOpt a n o).only s l ks := by
  cases o with
  | none => exact h
  | some v => exact State.only_pantryWrite _ _ h hl

theorem State.dmaStored_only (s : State) (r : Nat) (d : DmaResult) (late : Bool) : (s.dmaStored r d late).only s [.pantry] [] :=
  State.only_pantryOpt _ _ _ (State.only_pantryWrite _ _ (State.only_pantryOpt _ _ _
    (State.only_pantryWrite _ _ (State.only_refl _ _ _) (by simp)) (by simp)) (by simp)) (by simp)

/-- A completion touches the Pantry, the tail and what its event reaches. -/
theorem State.dmaFinish_only (s : State) (r : Nat) (d : DmaResult) (late : Bool) :
    (s.dmaFinish r d late).only s dmaParts (keyOf O.TDMA_TAIL (r + 1) :: wakeKeys) := by
  have hstored := State.only_mono (s.dmaStored_only r d late) (l' := dmaParts) (ks' := keyOf O.TDMA_TAIL (r + 1) :: wakeKeys)
    (by simp [dmaParts]) (by simp)
  have hadvance : ((s.dmaStored r d late).dmaAdvance r).only s dmaParts (keyOf O.TDMA_TAIL (r + 1) :: wakeKeys) :=
    State.only_setObj _ hstored List.mem_cons_self
  rw [State.dmaFinish_eq]
  split
  · exact State.only_sharedEvent _ hadvance (by simp +contextual [dmaParts]) (by simp [dmaParts]) fun _ h => List.mem_cons_of_mem _ h
  · exact hadvance

theorem State.dmaFinish_pantry (s : State) (r : Nat) (d : DmaResult) (late : Bool) :
    (s.dmaFinish r d late).pantry = (s.dmaStored r d late).pantry := by
  rw [State.dmaFinish_eq]
  split
  · rw [State.sharedEvent_pantry]; rfl
  · rfl

/-! What stands in the Pantry after a completion. -/

theorem State.pantryOpt_read_some (a n v : Nat) : (s.pantryOpt a n (some v)).pantryRead a n = leBytes n v := State.pantryRead_leBytes a n v

theorem State.pantryOpt_read_out {a n b m : Nat} (o : Option Nat) (h : b + m ≤ a ∨ a + n ≤ b) :
    (s.pantryOpt a n o).pantryRead b m = s.pantryRead b m := by
  cases o with
  | none => rfl
  | some v => exact State.pantryRead_write_out (by simpa using h)

/-- Outside its 32 octets a completion leaves the Pantry as it was. -/
theorem State.dmaFinish_read_out {b n : Nat} (late : Bool) (h : b + n ≤ s.dmaAddr r ∨ s.dmaAddr r + 32 ≤ b) :
    (s.dmaFinish r d late).pantryRead b n = s.pantryRead b n := by
  rw [State.pantryRead_of_pantry (s.dmaFinish_pantry r d late), State.dmaStored, State.pantryOpt_read_out _ (by omega),
    State.pantryRead_write_out (by simp; omega), State.pantryOpt_read_out _ (by omega), State.pantryRead_write_out (by simp; omega)]

theorem State.dmaFinish_word0 (late : Bool) :
    (s.dmaFinish r d late).pantryRead (s.dmaAddr r) 4 = leBytes 4 (dmaWord0 (s.dmaWord r 0) d late) := by
  rw [State.pantryRead_of_pantry (s.dmaFinish_pantry r d late), State.dmaStored, State.pantryOpt_read_out _ (by omega),
    State.pantryRead_write_out (.inl (by omega)), State.pantryOpt_read_out _ (by omega), State.pantryRead_leBytes]

theorem State.dmaFinish_word1 {w : Nat} (late : Bool) (h : d.w1 = some w) :
    (s.dmaFinish r d late).pantryRead (s.dmaAddr r + 4) 4 = leBytes 4 w := by
  rw [State.pantryRead_of_pantry (s.dmaFinish_pantry r d late), State.dmaStored, State.pantryOpt_read_out _ (by omega),
    State.pantryRead_write_out (.inl (by omega)), h, State.pantryOpt_read_some]

theorem State.dmaFinish_commit (late : Bool) :
    (s.dmaFinish r d late).pantryRead (s.dmaAddr r + 12) 4 = leBytes 4 (s.obj O.TABLE_COMMIT) := by
  rw [State.pantryRead_of_pantry (s.dmaFinish_pantry r d late), State.dmaStored, State.pantryOpt_read_out _ (by omega),
    State.pantryRead_leBytes]

theorem State.dmaFinish_image {e : Nat} (late : Bool) (h : d.entry = some e) :
    (s.dmaFinish r d late).pantryRead (s.dmaAddr r + 16) 16 = leBytes 16 e := by
  rw [State.pantryRead_of_pantry (s.dmaFinish_pantry r d late), State.dmaStored, h, State.pantryOpt_read_some]

/-! The completion as a whole. -/

/-- OWN and STATUS of a completed descriptor. -/
theorem dmaWord0_own (w : Nat) (hd : d.status < 256) :
    bit (dmaWord0 w d false % 2 ^ 32) 31 = false ∧ bits (dmaWord0 w d false % 2 ^ 32) 15 8 = d.status := by
  have hinfo : d.info % 256 < 256 := Nat.mod_lt _ (by decide)
  have hword : dmaWord0 w d false = w - w / 2 ^ 31 % 2 * 2 ^ 31 - w % 2 ^ 16 + d.status * 256 + d.info % 256 := by
    simp [dmaWord0, bits]
  generalize dmaWord0 w d false = v at hword
  constructor
  · have hlt : v % 2 ^ 32 < 2 ^ 31 := by omega
    exact Nat.testBit_lt_two_pow hlt
  · simp only [bits]
    omega

theorem State.dmaFinish_commitObj (hr : r < 4) (late : Bool) : (s.dmaFinish r d late).obj O.TABLE_COMMIT = s.obj O.TABLE_COMMIT :=
  State.only_obj (s.dmaFinish_only r d late) fun h => (List.mem_cons.mp h).elim (Obj.key_ne (by decide) (by decide) (by omega))
    (Obj.key_notMem_wakeKeys (by decide) (by decide))

theorem State.dmaFinish_tail (hr : r < 4) (late : Bool) : (s.dmaFinish r d late).obj O.TDMA_TAIL (r + 1) =
    (s.obj O.TDMA_TAIL (r + 1) + 1) % 2 ^ s.obj O.TDMA_SIZE (r + 1) % 2 ^ 16 := by
  have hstored := s.dmaStored_only r d late
  have hadvance : ((s.dmaStored r d late).dmaAdvance r).obj O.TDMA_TAIL (r + 1) =
      (s.obj O.TDMA_TAIL (r + 1) + 1) % 2 ^ s.obj O.TDMA_SIZE (r + 1) % 2 ^ 16 := by
    rw [State.dmaAdvance, State.obj_setObj_same, State.only_obj hstored (by simp), State.only_obj hstored (by simp)]
    rfl
  rw [State.dmaFinish_eq]
  split
  · rw [State.sharedEvent_obj _ _ (Obj.key_notMem_wakeKeys (by omega) (by decide)), hadvance]
  · exact hadvance

/-- A completion leaves the descriptor done (R348, R349). -/
theorem State.dmaFinish_done (hr : r < 4) (hd : d.status < 256) : (s.dmaFinish r d false).dmaDone s r d.status := by
  obtain ⟨hown, hstatus⟩ := dmaWord0_own (s.dmaWord r 0) hd
  refine ⟨?_, ?_, ?_, State.dmaFinish_tail hr false⟩
  · rw [State.dmaFinish_word0, ofLe_leBytes]; exact hown
  · rw [State.dmaFinish_word0, ofLe_leBytes]; exact hstatus
  · rw [State.dmaFinish_commit, ofLe_leBytes, State.dmaFinish_commitObj hr]

end Sys2Proof.Machine
end

section
/-! SUPPORT. What the operations of the update unit may touch, and the ring that performs one (R334 to R336, R350 to R352, R354). -/

namespace Sys2Proof.Machine

variable {s t u : State} {r : Nat} {l : List Part} {ks : List Nat}

theorem State.only_setEm (q e : Nat) (h : t.only s l ks) (hl : .tables ∈ l) : (t.setEm q e).only s l ks := State.only_modTables _ h hl

/-! The placement of an entry (R334 to R336). -/

theorem State.only_emMove (a b : Nat) (h : t.only s l ks) (hl : .tables ∈ l) : (t.emMove a b).only s l ks :=
  State.only_setEm _ _ (State.only_setEm _ _ h hl) hl

theorem State.only_runPath (path : List Nat) (dst : Nat) (h : t.only s l ks) (hl : .tables ∈ l) : (t.runPath path dst).2.only s l ks := by
  induction path generalizing t dst with
  | nil => exact h
  | cons q qs ih => exact ih q (State.only_emMove q dst h hl)

/-- A placement writes entries, and in the stash may raise a flag. -/
theorem State.emPlace_only (s : State) (r g e : Nat) (stash : Bool) :
    (s.emPlace r g e stash).2.only s (.tables :: flagParts) (flagKeys O.TABLE_FLAGS) := by
  have hself : s.only s (.tables :: flagParts) (flagKeys O.TABLE_FLAGS) := State.only_refl _ _ _
  unfold State.emPlace
  dsimp only
  split
  · exact State.only_setEm _ _ hself List.mem_cons_self
  · split
    · exact State.only_setEm _ _ (State.only_runPath _ _ hself List.mem_cons_self) List.mem_cons_self
    · split
      next q _ =>
        have hset := State.only_setEm q (withGen e g) hself List.mem_cons_self
        exact State.only_ite (State.only_raise _ _ hset (fun _ h => List.mem_cons_of_mem _ h) fun _ h => h) hset
      next => exact hself

theorem State.only_drainBack (q : Nat) (h : t.only s l ks) (hl : .tables ∈ l) : (t.drainBack q).only s l ks := by
  unfold State.drainBack
  split
  · exact h
  · dsimp only
    split
    · exact h
    · split
      · exact h
      · exact State.only_emMove _ _ h hl

theorem State.only_tableCommit (h : t.only s l ks) (hk : keyOf O.TABLE_COMMIT ∈ ks) : t.tableCommit.only s l ks := State.only_setObj _ h hk

/-- Freeing a location: the entry is removed, one of the stash may move there, and TABLE_COMMIT advances. -/
theorem State.only_emRemoved (q : Nat) (h : t.only s l ks) (hl : .tables ∈ l) (hk : keyOf O.TABLE_COMMIT ∈ ks) :
    ((t.setEm q 0).drainBack q).tableCommit.only s l ks :=
  State.only_tableCommit (State.only_drainBack _ (State.only_setEm _ _ h hl) hl) hk

/-! The operations (R350). -/

/-- The objects that an operation may touch, but for the ring's own. -/
def opKeys : List Nat := keyOf O.TABLE_COMMIT :: flagKeys O.TABLE_FLAGS

/-- The parts that an operation may touch. -/
def opParts : List Part := .tables :: .pantry :: flagParts

/-- An operation answers with a status octet, and touches the tables, the Pantry, TABLE_COMMIT and TABLE_FLAGS alone. -/
def State.dmaSound (s : State) (p : DmaResult × State) : Prop := p.1.status < 256 ∧ p.2.only s opParts opKeys

theorem State.dmaSound_same {d : DmaResult} (h : d.status < 256) : s.dmaSound (d, s) := ⟨h, State.only_refl _ _ _⟩

theorem State.dmaSound_status {n : Nat} (hn : n < 256) (h : u.only s opParts opKeys) : s.dmaSound (dmaStatus n, u) := ⟨hn, h⟩

theorem State.lockTest_lt (s : State) (r b : Nat) (req writes : Bool) : s.lockTest r b req writes < 256 := by
  unfold State.lockTest
  split_ifs <;> decide

theorem State.locTest_lt (s : State) (r q : Nat) (req writes : Bool) : s.locTest r q req writes < 256 := by
  unfold State.locTest
  split
  · decide
  · exact s.lockTest_lt _ _ _ _

theorem State.keyOp_sound {img w0 : Nat} {ok writes : Bool} {f : Nat → DmaResult × State} (hf : ∀ q, s.dmaSound (f q)) :
    s.dmaSound (s.keyOp r img w0 ok writes f) := by
  unfold State.keyOp
  dsimp only
  split
  · exact State.dmaSound_same (by decide)
  · split
    · exact State.dmaSound_same (by decide)
    · split
      · exact State.dmaSound_same (s.locTest_lt _ _ _ _)
      · split
        · exact State.dmaSound_same (by decide)
        · exact hf _

theorem State.dmaRemoved_sound (q : Nat) : s.dmaSound (dmaStatus 1, ((s.setEm q 0).drainBack q).tableCommit) :=
  State.dmaSound_status (by decide) (State.only_emRemoved q (State.only_refl _ _ _) (by simp [opParts]) (by simp [opKeys]))

theorem State.dmaInsert_sound (s : State) (r : Nat) : s.dmaSound (s.dmaInsert r) := by
  unfold State.dmaInsert
  dsimp only
  split
  · exact State.dmaSound_same (by decide)
  · split
    next st hst =>
      refine State.dmaSound_status ?_ (State.only_refl _ _ _)
      split at hst
      · obtain ⟨b, -, rfl⟩ := List.mem_map.mp (List.mem_of_find?_eq_some hst)
        exact s.lockTest_lt r b true true
      · cases hst
    next =>
      split
      · exact State.dmaSound_same (by unfold dmaStatus; dsimp only; split <;> decide)
      · have hplace := State.only_mono (s.emPlace_only r s.placeSet (imageEntry (ofLe (s.pantryRead (s.dmaAddr r + 16) 16))) true)
          (l' := opParts) (ks' := opKeys) (by simp +contextual [opParts]) fun _ h => List.mem_cons_of_mem _ h
        have hraise : ∀ (v : State) (b : Nat), v.only s opParts opKeys → (v.raise O.TABLE_FLAGS b).only s opParts opKeys := fun v b hv =>
          State.only_raise _ _ hv (by simp +contextual [opParts]) fun _ h => List.mem_cons_of_mem _ h
        split
        next hp =>
          rw [hp] at hplace
          exact ⟨by simp, State.only_tableCommit hplace (by simp [opKeys])⟩
        next hp =>
          rw [hp] at hplace
          exact State.dmaSound_status (by decide) (hraise _ _ (hraise _ _ hplace))

theorem State.dmaReadBucket_sound (s : State) (r : Nat) : s.dmaSound (s.dmaReadBucket r) := by
  unfold State.dmaReadBucket
  dsimp only
  split
  · exact State.dmaSound_same (by decide)
  · split
    · exact State.dmaSound_same (s.locTest_lt _ _ _ _)
    · split
      · exact State.dmaSound_same (by decide)
      · refine ⟨by simp, ?_⟩
        have hwrite := fun b => State.only_pantryWrite (s.dmaWord r 2) b (State.only_refl s opParts opKeys) (by simp [opParts])
        dsimp only
        split
        · refine State.only_forEach _ (fun v q => ?_) (hwrite _)
          split
          · exact State.only_setEm _ _ (State.only_refl _ _ _) (by simp [opParts])
          · exact State.only_refl _ _ _
        · exact hwrite _

theorem State.dmaLock_sound (s : State) (r : Nat) : s.dmaSound (s.dmaLock r) := by
  have hforget : ∀ b, (s.forgetExpiry r b).only s opParts opKeys := fun b =>
    State.only_modTables _ (State.only_refl _ _ _) (by simp [opParts])
  unfold State.dmaLock
  split
  · exact State.dmaSound_same (by decide)
  · dsimp only
    split
    · split
      · exact State.dmaSound_status (by decide) (State.only_modTables _ (hforget _) (by simp [opParts]))
      · exact State.dmaSound_status (by decide) (hforget _)
    · split
      · exact State.dmaSound_status (by decide) (hforget _)
      · exact State.dmaSound_status (by decide) (State.only_modTables _ (hforget _) (by simp [opParts]))

theorem State.dmaUnlock_sound (s : State) (r : Nat) : s.dmaSound (s.dmaUnlock r) := by
  unfold State.dmaUnlock
  split
  · exact State.dmaSound_same (by decide)
  · split
    · exact State.dmaSound_status (by decide) (State.only_modTables _ (State.only_refl _ _ _) (by simp [opParts]))
    · split
      · exact State.dmaSound_status (by decide) (State.only_modTables _ (State.only_refl _ _ _) (by simp [opParts]))
      · exact State.dmaSound_same (by decide)

theorem State.only_setTcam (i : Nat) (p : Prefix) (h : t.only s l ks) (hl : .tables ∈ l) : (t.setTcam i p).only s l ks :=
  State.only_modTables _ h hl

theorem State.dmaTcamSet_sound (i : Nat) (p : Prefix) : s.dmaSound (dmaStatus 1, (s.setTcam i p).tableCommit) :=
  State.dmaSound_status (by decide) (State.only_tableCommit (State.only_setTcam _ _ (State.only_refl _ _ _) (by simp [opParts])) (by simp [opKeys]))

theorem State.dmaTcamWrite_sound (s : State) (r : Nat) : s.dmaSound (s.dmaTcamWrite r) := by
  unfold State.dmaTcamWrite
  dsimp only
  split
  · exact State.dmaSound_same (by decide)
  · split
    · exact State.dmaSound_same (by decide)
    · exact State.dmaTcamSet_sound _ _

theorem State.dmaTcamRead_sound (s : State) (r : Nat) : s.dmaSound (s.dmaTcamRead r) := by
  unfold State.dmaTcamRead
  dsimp only
  split
  · exact State.dmaSound_same (by decide)
  · exact State.dmaSound_status (by decide) (State.only_pantryWrite _ _ (State.only_refl _ _ _) (by simp [opParts]))

theorem State.dmaTcamClear_sound (s : State) (r : Nat) : s.dmaSound (s.dmaTcamClear r) := by
  unfold State.dmaTcamClear
  dsimp only
  split
  · exact State.dmaSound_same (by decide)
  · exact State.dmaTcamSet_sound _ _

/-- Every operation answers with a status octet and stays inside the frame of the update unit. -/
theorem State.dmaOp_sound (s : State) (r op : Nat) : s.dmaSound (s.dmaOp r op) := by
  unfold State.dmaOp
  split
  · exact State.keyOp_sound fun q => State.dmaSound_same (by simp)
  · exact s.dmaInsert_sound r
  · exact State.keyOp_sound fun q => State.dmaSound_status (by decide) (State.only_tableCommit
      (State.only_setEm _ _ (State.only_refl _ _ _) (by simp [opParts])) (by simp [opKeys]))
  · exact State.keyOp_sound fun q => State.dmaRemoved_sound q
  · refine State.keyOp_sound fun q => ?_
    split
    · exact State.dmaSound_same (by decide)
    · exact State.dmaRemoved_sound q
  · exact s.dmaReadBucket_sound r
  · exact s.dmaLock_sound r
  · exact s.dmaUnlock_sound r
  · exact State.dmaSound_same (by decide)
  · exact s.dmaTcamWrite_sound r
  · exact s.dmaTcamRead_sound r
  · exact s.dmaTcamClear_sound r
  · exact State.dmaSound_same (by decide)

/-! The ring performs the operation at its tail (R348). -/

/-- The ring's own objects stand outside the frame of an operation. -/
theorem State.obj_of_op {o : Obj} {sub : Nat} (h : u.only s opParts opKeys) (hs : sub < 256)
    (ho : o.index ∈ [O.TDMA_STATUS.index, O.TDMA_BASE.index, O.TDMA_SIZE.index, O.TDMA_TAIL.index]) : u.obj o sub = s.obj o sub := by
  refine State.only_obj h fun hk => ?_
  simp only [List.mem_cons, List.not_mem_nil, or_false] at ho
  rcases List.mem_cons.mp hk with hc | hf
  · exact Obj.key_ne (by rcases ho with ho | ho | ho | ho <;> rw [ho] <;> decide) hs (by decide) hc
  · exact Obj.key_notMem_flagKeys hs (by decide) (by rcases ho with ho | ho | ho | ho <;> rw [ho] <;> decide)
      (by rcases ho with ho | ho | ho | ho <;> rw [ho] <;> decide) hf

theorem State.dmaAddr_of_op (h : u.only s opParts opKeys) (hr : r < 4) : u.dmaAddr r = s.dmaAddr r := by
  unfold State.dmaAddr
  rw [State.obj_of_op h (by omega) (by decide), State.obj_of_op h (by omega) (by decide), State.obj_of_op h (by omega) (by decide)]

/-- A descriptor that is completed after its operation is done as seen from before it. -/
theorem State.dmaDone_of_op {st : Nat} (h : u.only s opParts opKeys) (hr : r < 4) (hd : t.dmaDone u r st) : t.dmaDone s r st := by
  unfold State.dmaDone at *
  rwa [State.dmaAddr_of_op h hr, State.obj_of_op h (by omega) (by decide), State.obj_of_op h (by omega) (by decide)] at hd

theorem State.dmaRun_done (s : State) (hr : r < 4) : ∃ st, (s.dmaRun r false).dmaDone s r st := by
  obtain ⟨hst, hop⟩ := s.dmaOp_sound r (bits (s.dmaWord r 0) 23 16)
  exact ⟨_, State.dmaDone_of_op hop hr (State.dmaFinish_done hr hst)⟩

/-- The frame of an operation with its completion, which the frame of the operation itself widens. -/
theorem State.dmaFinish_only_of {d : DmaResult} (late : Bool) (h : u.only s l ks) :
    (u.dmaFinish r d late).only s (l ++ dmaParts) (ks ++ keyOf O.TDMA_TAIL (r + 1) :: wakeKeys) :=
  State.only_trans (State.only_mono (u.dmaFinish_only r d late) (fun _ h => List.mem_append_right _ h) fun _ h => List.mem_append_right _ h)
    (State.only_mono h (fun _ h => List.mem_append_left _ h) fun _ h => List.mem_append_left _ h)

theorem State.dmaRun_only (s : State) (r : Nat) (late : Bool) : (s.dmaRun r late).only s (.tables :: dmaParts)
    (keyOf O.TDMA_TAIL (r + 1) :: keyOf O.TABLE_COMMIT :: flagKeys O.TABLE_FLAGS) := by
  refine State.only_mono (State.dmaFinish_only_of late (s.dmaOp_sound r (bits (s.dmaWord r 0) 23 16)).2)
    (fun p h => ?_) fun k h => ?_
  · simp only [opParts, dmaParts, List.cons_append, List.mem_cons, List.mem_append] at h ⊢
    tauto
  · simp only [opKeys, flagKeys, List.cons_append, List.mem_cons, List.mem_append] at h ⊢
    tauto

theorem runKeep_dmaIdle {sel : Nat → Bool} (hh : s.held = false) (h : s.dmaReady r = false ∨ sel (bits (s.dmaWord r 0) 23 16) = false) :
    runKeep s (·.dmaServe r sel) = .next s := by
  refine runKeep_same hh (if_neg ?_)
  rcases h with h | h <;> simp [h]

theorem runKeep_dmaRun {sel : Nat → Bool} (hh : s.held = false) (hr : s.dmaReady r = true) (h : sel (bits (s.dmaWord r 0) 23 16) = true) :
    runKeep s (·.dmaServe r sel) = .next (s.dmaRun r false) :=
  runKeep_eq hh (if_pos (by simp [hr, h])) (s.dmaRun_only r false) (by simp [dmaParts, flagParts])

end Sys2Proof.Machine
end

section
/-! PROOF. The table operations (R334, R336, R337, R340, R345 to R354): what each operation answers and leaves, and O32 from them. -/

namespace Sys2Proof.Machine

variable {s u : State} {r : Nat} {d : DmaResult}

/-! A completion leaves the tables and TABLE_COMMIT as the operation left them. -/

theorem State.dmaFinish_tables (s : State) (r : Nat) (d : DmaResult) (late : Bool) : (s.dmaFinish r d late).tables = s.tables :=
  (s.dmaFinish_only r d late).1 .tables (by decide)

theorem State.dmaFinish_em (late : Bool) (l : Nat) : (s.dmaFinish r d late).em l = s.em l := by
  rw [State.em, State.dmaFinish_tables, State.em]

theorem State.dmaFinish_tcam (late : Bool) (i : Nat) : (s.dmaFinish r d late).tcam i = s.tcam i := by
  rw [State.tcam, State.tcamCopy, State.dmaFinish_tables]; rfl

/-- The next value of TABLE_COMMIT (R337). -/
theorem State.tableCommit_commit (s : State) : s.tableCommit.obj O.TABLE_COMMIT = (s.obj O.TABLE_COMMIT + 1) % 2 ^ 32 :=
  State.obj_setObj_same _ _ _ _

/-! The commands of the update unit. -/

/-- The commands of the update unit with their OP codes (R350). -/
def dmaInstrs (r : Fin 4) : List (Instr × Nat) :=
  [(.lookup r, 1), (.insert r, 2), (.update r, 3), (.delete r, 4), (.delIfClear r, 5), (.readBucket r, 6), (.lock r, 7), (.unlock r, 8),
   (.fence r, 9), (.tcamWrite r, 0x10), (.tcamRead r, 0x11), (.tcamClear r, 0x12)]

theorem exec_dmaInstr (r : Fin 4) (s : State) : ∀ c ∈ dmaInstrs r, exec c.1 s = runKeep s (·.dmaServe r (· == c.2)) := by
  simp only [dmaInstrs, List.forall_mem_cons]
  exact ⟨rfl, rfl, rfl, rfl, rfl, rfl, rfl, rfl, rfl, rfl, rfl, rfl, by simp⟩

/-- A ring that is due performs its operation and completes the descriptor. -/
theorem runKeep_dmaDue {r : Fin 4} {op : Nat} {sel : Nat → Bool} (hdue : s.dmaDue r op) (hsel : sel op = true)
    (hop : s.dmaOp r op = (d, u)) :
    runKeep s (·.dmaServe r sel) = .next (u.dmaFinish r d false) ∧ (u.dmaFinish r d false).dmaDone s r d.status := by
  obtain ⟨hh, hr, rfl⟩ := hdue
  obtain ⟨hst, hframe⟩ := s.dmaOp_sound r (bits (s.dmaWord r 0) 23 16)
  rw [hop] at hst hframe
  refine ⟨(runKeep_dmaRun hh hr hsel).trans ?_, State.dmaDone_of_op hframe r.isLt (State.dmaFinish_done r.isLt hst)⟩
  rw [State.dmaRun, hop]

theorem exec_dmaDue {r : Fin 4} {c : Instr} {op : Nat} (hc : (c, op) ∈ dmaInstrs r) (hdue : s.dmaDue r op)
    (hop : s.dmaOp r op = (d, u)) :
    exec c s = .next (u.dmaFinish r d false) ∧ (u.dmaFinish r d false).dmaDone s r d.status := by
  rw [exec_dmaInstr r s _ hc]
  exact runKeep_dmaDue hdue (by simp) hop

/-- An operation that changes nothing completes its descriptor alone. -/
theorem exec_dmaAnswer {r : Fin 4} {c : Instr} {op : Nat} (hc : (c, op) ∈ dmaInstrs r) (hdue : s.dmaDue r op) {n : Nat}
    (hop : s.dmaOp r op = (dmaStatus n, s)) :
    ∃ t, exec c s = .next t ∧ t.dmaDone s r n ∧ t.only s dmaParts (keyOf O.TDMA_TAIL (r + 1) :: wakeKeys) :=
  ⟨_, (exec_dmaDue hc hdue hop).1, (exec_dmaDue hc hdue hop).2, s.dmaFinish_only r _ false⟩

/-! The operations on the entry with a key (R350, R351). -/

theorem State.keyOp_absent {img w0 : Nat} {ok writes : Bool} {f : Nat → DmaResult × State} (hk : keyOk img = true) (ho : ok = true)
    (hf : s.emFind (emType img) (emKey img) = none) : s.keyOp r img w0 ok writes f = (dmaStatus 2, s) := by
  simp [State.keyOp, hk, ho, hf]

theorem State.keyOp_found {img w0 l : Nat} {ok writes : Bool} {f : Nat → DmaResult × State} (hk : keyOk img = true) (ho : ok = true)
    (hf : s.emFind (emType img) (emKey img) = some l) (hl : s.locTest r l (bit w0 29) writes = 0)
    (hb : s.tables.emBad.contains l = false) : s.keyOp r img w0 ok writes f = f l := by
  simp only [State.keyOp, hk, ho, hf, hl]
  exact if_neg (Bool.eq_false_iff.mp hb)

/-- Without LOCK_REQ a read passes every lock (R352). -/
theorem State.locTest_read (s : State) (r l : Nat) : s.locTest r l false false = 0 := by
  unfold State.locTest
  split <;> rfl

theorem keyOk_of_imageOk {e : Nat} (h : imageOk e = true) : keyOk e = true := by
  simp only [imageOk, Bool.and_eq_true] at h
  exact h.1.1.1

/-- LOOKUP answers with the location and the image. -/
theorem State.dmaLookup_found {l : Nat} (hk : keyOk (s.dmaImage r) = true)
    (hf : s.emFind (emType (s.dmaImage r)) (emKey (s.dmaImage r)) = some l) (h29 : bit (s.dmaWord r 0) 29 = false)
    (hb : s.tables.emBad.contains l = false) : s.dmaLookup r = (⟨1, 0, some (locW1 l), some (emImage (s.em l))⟩, s) :=
  State.keyOp_found hk rfl hf (by rw [h29, State.locTest_read]) hb

theorem locW1_lt (l : Nat) : locW1 l < 2 ^ 32 := by
  unfold locW1
  omega

/-! INSERT (R334). -/

/-- A free slot in the first bucket takes an entry directly. -/
theorem State.emPlace_direct {g e l : Nat} {stash : Bool} (hw : s.mayWrite r (s.bucketOf g 0 (emType e) (emKey e)) = true)
    (hf : s.freeSlot 0 (s.bucketOf g 0 (emType e) (emKey e)) = some l) :
    s.emPlace r g e stash = (some l, s.setEm l (withGen e g)) := by
  simp [State.emPlace, List.filter_cons, hw, hf]

theorem State.dmaInsert_placed {l : Nat} (hi : imageOk (s.dmaImage r) = true) (h29 : bit (s.dmaWord r 0) 29 = false)
    (hf : s.emFind (emType (s.dmaImage r)) (emKey (s.dmaImage r)) = none)
    (hw : s.mayWrite r (s.bucketOf s.placeSet 0 (emType (s.dmaImage r)) (emKey (s.dmaImage r))) = true)
    (hs : s.freeSlot 0 (s.bucketOf s.placeSet 0 (emType (s.dmaImage r)) (emKey (s.dmaImage r))) = some l) :
    s.dmaInsert r = (⟨1, 0, some (locW1 l), none⟩, (s.setEm l (withGen (imageEntry (s.dmaImage r)) s.placeSet)).tableCommit) := by
  have hplace := State.emPlace_direct (stash := true) (e := imageEntry (s.dmaImage r)) (by rwa [emType_imageEntry, emKey_imageEntry])
    (by rwa [emType_imageEntry, emKey_imageEntry])
  simp only [State.dmaImage] at hi hf hplace
  simp [State.dmaInsert, State.dmaImage, hi, h29, hf, hplace]

theorem State.dmaInsert_known {l : Nat} (hi : imageOk (s.dmaImage r) = true) (h29 : bit (s.dmaWord r 0) 29 = false)
    (hf : s.emFind (emType (s.dmaImage r)) (emKey (s.dmaImage r)) = some l) (hb : s.tables.emBad.contains l = false) :
    s.dmaInsert r = (dmaStatus 3, s) := by
  have hgood : l ∉ s.tables.emBad := by simpa using hb
  simp only [State.dmaImage] at hi hf
  simp [State.dmaInsert, hi, h29, hf, hgood]

/-- An inserted entry is VALID and its ECC octet is clear. -/
theorem imageEntry_stored (e g : Nat) : bit (withGen (imageEntry e) g) 127 = true ∧ withGen (imageEntry e) g % 256 = 0 := by
  constructor
  · rw [bit_withGen, if_neg (by decide), bit_imageEntry, if_pos rfl]
  · refine Nat.eq_of_testBit_eq fun k => ?_
    rw [show 256 = 2 ^ 8 from rfl, Nat.testBit_mod_two_pow, Nat.zero_testBit]
    by_cases hk : k < 8
    · have hlow : bit (withGen (imageEntry e) g) k = false := by
        rw [bit_withGen, if_neg (by omega), bit_imageEntry, if_neg (by omega), if_neg (by omega), decide_eq_false (by omega), Bool.false_and]
      rw [← bit, hlow, Bool.and_false]
    · simp [hk]

theorem State.em_setEm_image (l e g : Nat) : (s.setEm l (withGen (imageEntry e) g)).em l = withGen (imageEntry e) g := by
  obtain ⟨hvalid, hecc⟩ := imageEntry_stored e g
  rw [State.em_setEm_valid hvalid, hecc, Nat.sub_zero]

/-! UPDATE (R340, R350). -/

/-- The entry that UPDATE leaves: RESULT and STATIC replaced, LEARNED clear. -/
def updatedEntry (e img : Nat) : Nat := setBit (setBit (emSetResult e (emResult img)) 125 (bit img 125)) 124 false

theorem bit_updatedEntry (e img k : Nat) : bit (updatedEntry e img) k =
    if k = 124 then false else if k = 125 then bit img 125 else if 44 ≤ k ∧ k < 60 then bit (emResult img) (k - 44) else bit e k := by
  rw [updatedEntry, bit_setBit, bit_setBit, bit_emSetResult]

/-- RESULT of an entry whose RESULT bits are those of a 16-bit number. -/
theorem emResult_of_bits {e v : Nat} (hv : v < 2 ^ 16) (h : ∀ k < 16, bit e (44 + k) = bit v k) : emResult e = v := by
  have hshift : emResult e = bits v 15 0 := Nat.eq_of_testBit_eq fun k => by
    have hl := bit_bits e 59 44 k
    have hr := bit_bits v 15 0 k
    simp only [bit, emResult] at hl hr h ⊢
    rw [hl, hr]
    by_cases hk : k < 16
    · rw [h k hk, Nat.zero_add]
    · simp [hk]
  rw [hshift, bits, Nat.pow_zero, Nat.div_one]
  exact Nat.mod_eq_of_lt hv

theorem emResult_lt (e : Nat) : emResult e < 2 ^ 16 := Nat.mod_lt _ (by decide)

theorem emResult_updatedEntry (e img : Nat) : emResult (updatedEntry e img) = emResult img :=
  emResult_of_bits (emResult_lt img) fun k hk => by
    rw [bit_updatedEntry, if_neg (by omega), if_neg (by omega), if_pos (by omega), Nat.add_sub_cancel_left]

theorem emKey_updatedEntry (e img : Nat) : emKey (updatedEntry e img) = emKey e :=
  bits_congr fun k _ _ => by rw [bit_updatedEntry, if_neg (by omega), if_neg (by omega), if_neg (by omega)]

theorem State.dmaUpdate_found {l : Nat} (hi : imageOk (s.dmaImage r) = true)
    (hf : s.emFind (emType (s.dmaImage r)) (emKey (s.dmaImage r)) = some l) (hl : s.locTest r l (bit (s.dmaWord r 0) 29) true = 0)
    (hb : s.tables.emBad.contains l = false) :
    s.dmaUpdate r = (dmaStatus 1, (s.setEm l (updatedEntry (s.em l) (s.dmaImage r))).tableCommit) :=
  State.keyOp_found (keyOk_of_imageOk hi) hi hf hl hb

/-! DELETE and DEL_IF_CLEAR (R336, R350). -/

/-- An empty stash gives nothing back. -/
theorem State.drainBack_empty {l : Nat} (h : ∀ q ∈ stashLocs, bit (s.em q) 127 = false) : s.drainBack l = s := by
  unfold State.drainBack
  split
  · rfl
  · dsimp only
    split
    · rfl
    · rw [List.find?_eq_none.mpr fun q hq => by simp [h q hq]]

theorem State.em_removed_stash {l q : Nat} (h : bit (s.em q) 127 = false) : bit ((s.setEm l 0).em q) 127 = false := by
  by_cases hq : q = l
  · rw [hq, State.em_setEm_zero]; decide
  · rw [State.em_setEm_ne 0 hq, h]

theorem State.dmaDelete_found {l : Nat} (hk : keyOk (s.dmaImage r) = true)
    (hf : s.emFind (emType (s.dmaImage r)) (emKey (s.dmaImage r)) = some l) (hl : s.locTest r l (bit (s.dmaWord r 0) 29) true = 0)
    (hb : s.tables.emBad.contains l = false) (hs : ∀ q ∈ stashLocs, bit (s.em q) 127 = false) :
    s.dmaDelete r = (dmaStatus 1, (s.setEm l 0).tableCommit) := by
  have hempty := State.drainBack_empty (l := l) fun q hq => State.em_removed_stash (l := l) (hs q hq)
  exact (State.keyOp_found hk rfl hf hl hb).trans (by rw [hempty])

theorem State.dmaDelIfClear_clear {l : Nat} (hk : keyOk (s.dmaImage r) = true)
    (hf : s.emFind (emType (s.dmaImage r)) (emKey (s.dmaImage r)) = some l) (hl : s.locTest r l (bit (s.dmaWord r 0) 29) true = 0)
    (hb : s.tables.emBad.contains l = false) (hs : ∀ q ∈ stashLocs, bit (s.em q) 127 = false) (hhit : bit (s.em l) 126 = false) :
    s.dmaDelIfClear r = (dmaStatus 1, (s.setEm l 0).tableCommit) := by
  have hempty := State.drainBack_empty (l := l) fun q hq => State.em_removed_stash (l := l) (hs q hq)
  exact (State.keyOp_found hk rfl hf hl hb).trans (by rw [if_neg (by simp [hhit]), hempty])

theorem State.dmaDelIfClear_hit {l : Nat} (hk : keyOk (s.dmaImage r) = true)
    (hf : s.emFind (emType (s.dmaImage r)) (emKey (s.dmaImage r)) = some l) (hl : s.locTest r l (bit (s.dmaWord r 0) 29) true = 0)
    (hb : s.tables.emBad.contains l = false) (hhit : bit (s.em l) 126 = true) : s.dmaDelIfClear r = (dmaStatus 5, s) :=
  (State.keyOp_found hk rfl hf hl hb).trans (if_pos hhit)

/-! READ_BUCKET (R350). -/

/-- The octets of a bucket's four images. -/
def State.bucketImages (s : State) (area b : Nat) : Bytes := (slotsOf area b).flatMap fun l => leBytes 16 (emImage (s.em l))

theorem State.length_bucketImages (s : State) (area b : Nat) : (s.bucketImages area b).length = 64 := by
  simp [State.bucketImages, slotsOf]

theorem State.dmaReadBucket_ok (ha : bits (s.dmaWord r 1) 17 16 < 3) (hw : w1Ok (s.dmaWord r 1) = true)
    (hbuf : bufOk (s.dmaWord r 2) 64 = true) (h29 : bit (s.dmaWord r 0) 29 = false) (h28 : bit (s.dmaWord r 0) 28 = false)
    (hb : ∀ l ∈ slotsOf (bits (s.dmaWord r 1) 17 16) (bits (s.dmaWord r 1) 14 0), s.tables.emBad.contains l = false) :
    ∃ n, s.dmaReadBucket r = (⟨1, n, none, none⟩,
      s.pantryWrite (s.dmaWord r 2) (s.bucketImages (bits (s.dmaWord r 1) 17 16) (bits (s.dmaWord r 1) 14 0))) := by
  have hbad : (slotsOf (bits (s.dmaWord r 1) 17 16) (bits (s.dmaWord r 1) 14 0)).any (fun l => s.tables.emBad.contains l) = false := by
    simpa using hb
  refine ⟨((slotsOf (bits (s.dmaWord r 1) 17 16) (bits (s.dmaWord r 1) 14 0)).filter fun l => bit (s.em l) 127).length, ?_⟩
  simp only [State.dmaReadBucket, hw, hbuf, h29, h28, hbad, State.locTest_read, decide_eq_false (Nat.ne_of_lt ha)]
  rfl

/-! Locks (R354). -/

theorem State.lockOf_added {b r a : Nat} (h : s.lockOf b = none) (c : Nat) :
    (s.modTables fun t => { t with locks := t.locks ++ [⟨b, r, a⟩] }).lockOf c = if c = b then some r else s.lockOf c := by
  simp only [State.lockOf, State.modTables_tables, List.find?_append, Option.map_eq_none_iff] at h ⊢
  by_cases hc : c = b
  · subst hc; simp [h]
  · simp [hc, Ne.symm hc]

theorem State.lockOf_removed (b c : Nat) :
    (s.modTables fun t => { t with locks := t.locks.filter fun l => l.bucket != b }).lockOf c = if c = b then none else s.lockOf c := by
  simp only [State.lockOf, State.modTables_tables, List.find?_filter]
  by_cases hc : c = b
  · subst hc
    simp
  · rw [if_neg hc]
    congr 2
    funext l
    by_cases hl : l.bucket = c <;> simp [hl, hc]

/-- The lock of a bucket taken by a ring, the record of its expiry gone. -/
def State.lockTaken (s : State) (r b : Nat) : State :=
  (s.forgetExpiry r b).modTables fun t => { t with locks := t.locks ++ [⟨b, r, s.hearth.cycles⟩] }

theorem State.lockTaken_lockOf {b : Nat} (h : s.lockOf b = none) (c : Nat) :
    (s.lockTaken r b).lockOf c = if c = b then some r else s.lockOf c := State.lockOf_added (s := s.forgetExpiry r b) h c

theorem State.lockTaken_only (s : State) (r b : Nat) : (s.lockTaken r b).only s [.tables] [] :=
  State.only_modTables _ (State.only_modTables _ (State.only_refl _ _ _) (by simp)) (by simp)

theorem State.dmaLock_free {b : Nat} (hb : w1Bucket (s.dmaWord r 1) = some b) (hl : s.lockOf b = none) (hn : s.locksOf r < 16) :
    s.dmaLock r = (dmaStatus 1, s.lockTaken r b) := by
  have hfree : (s.forgetExpiry r b).lockOf b = none := hl
  have hroom : ¬ 16 ≤ (s.forgetExpiry r b).locksOf r := Nat.not_le.mpr hn
  simp only [State.dmaLock, hb, hfree, if_neg hroom]
  rfl

theorem State.dmaLock_taken {b q : Nat} (hb : w1Bucket (s.dmaWord r 1) = some b) (hl : s.lockOf b = some q) (hq : q ≠ r) :
    s.dmaLock r = (dmaStatus 6, s.forgetExpiry r b) := by
  have hheld : (s.forgetExpiry r b).lockOf b = some q := hl
  simp only [State.dmaLock, hb, hheld, if_neg hq]

/-- The lock of a bucket given back. -/
def State.unlocked (s : State) (b : Nat) : State := s.modTables fun t => { t with locks := t.locks.filter fun l => l.bucket != b }

theorem State.unlocked_only (s : State) (b : Nat) : (s.unlocked b).only s [.tables] [] :=
  State.only_modTables _ (State.only_refl _ _ _) (by simp)

theorem State.dmaUnlock_own {b : Nat} (hb : w1Bucket (s.dmaWord r 1) = some b) (he : s.tables.expired.contains (r, b) = false)
    (hl : s.lockOf b = some r) : s.dmaUnlock r = (dmaStatus 1, s.unlocked b) := by
  simp only [State.dmaUnlock, hb, if_neg (Bool.eq_false_iff.mp he), if_pos hl]
  rfl

theorem State.dmaUnlock_other {b : Nat} (hb : w1Bucket (s.dmaWord r 1) = some b) (he : s.tables.expired.contains (r, b) = false)
    (hl : s.lockOf b ≠ some r) : s.dmaUnlock r = (dmaStatus 8, s) := by
  simp only [State.dmaUnlock, hb, if_neg (Bool.eq_false_iff.mp he), if_neg hl]

/-! Rows of the TCAM (R345 to R347, R350). -/

/-- Area 3 with a row of 14 bits. -/
theorem w1Ok_row {w : Nat} (ha : bits w 17 16 = 3) (h14 : bit w 14 = false) : w1Ok w = true := by
  simp [w1Ok, ha, h14]

/-- The octets of a row as TCAM_WRITE and TCAM_READ pass them, `rest` behind VALUE, MASK and RESULT. -/
def rowOctets (v m x : Nat) (rest : Bytes) : Bytes := leBytes 20 v ++ leBytes 20 m ++ leBytes 2 x ++ rest

theorem rowOctets_parts (v m x : Nat) (rest : Bytes) : (rowOctets v m x rest).take 20 = leBytes 20 v ∧
    ((rowOctets v m x rest).drop 20).take 20 = leBytes 20 m ∧ ((rowOctets v m x rest).drop 40).take 2 = leBytes 2 x ∧
    (rowOctets v m x rest).drop 42 = rest ∧ (rowOctets v m x rest).drop 43 = rest.tail := by
  have hv : (leBytes 20 v).length = 20 := length_leBytes _ _
  have hm : (leBytes 20 v ++ leBytes 20 m).length = 40 := by simp
  have hx : (leBytes 20 v ++ leBytes 20 m ++ leBytes 2 x).length = 42 := by simp
  have hrest : (rowOctets v m x rest).drop 42 = rest := List.drop_left' hx
  refine ⟨?_, ?_, ?_, hrest, ?_⟩
  · rw [rowOctets, List.append_assoc, List.append_assoc, List.take_left' hv]
  · rw [rowOctets, List.append_assoc, List.append_assoc, List.drop_left' hv, List.take_left' (length_leBytes _ _)]
  · rw [rowOctets, List.append_assoc, List.drop_left' hm, List.take_left' (length_leBytes _ _)]
  · rw [← List.drop_one, show 43 = 42 + 1 from rfl, ← List.drop_drop, hrest]

theorem State.dmaTcamWrite_ok {v m x : Nat} (ha : bits (s.dmaWord r 1) 17 16 = 3) (h14 : bit (s.dmaWord r 1) 14 = false)
    (hbuf : bufOk (s.dmaWord r 2) 48 = true) (hv : v < 2 ^ 160) (hm : m < 2 ^ 160) (hx : x < 2 ^ 16)
    (hread : s.pantryRead (s.dmaWord r 2) 48 = leBytes 20 v ++ leBytes 20 m ++ leBytes 2 x ++ leBytes 6 1) (hrow : tcamOk v m = true)
    (hres : resultOk 3 x = true) (hzone : inZone (s.blob O.TCAM_ZONE).bytes (bits (s.dmaWord r 1) 13 0) (maskLen m) = true) :
    s.dmaTcamWrite r = (dmaStatus 1, (s.setTcam (bits (s.dmaWord r 1) 13 0) ⟨v, m, x, true⟩).tableCommit) := by
  obtain ⟨htv, htm, htx, hflags, hpad⟩ := rowOctets_parts v m x (leBytes 6 1)
  have hvalue : ofLe (leBytes 20 v) = v := (ofLe_leBytes 20 v).trans (Nat.mod_eq_of_lt hv)
  have hmask : ofLe (leBytes 20 m) = m := (ofLe_leBytes 20 m).trans (Nat.mod_eq_of_lt hm)
  have hresult : ofLe (leBytes 2 x) = x := (ofLe_leBytes 2 x).trans (Nat.mod_eq_of_lt hx)
  have hflag : ofLe ((leBytes 6 1).take 1) = 1 := by decide
  have hzero : ofLe (leBytes 6 1).tail = 0 := by decide
  change s.pantryRead (s.dmaWord r 2) 48 = rowOctets v m x (leBytes 6 1) at hread
  simp [State.dmaTcamWrite, hread, htv, htm, htx, hflags, hpad, hvalue, hmask, hresult, hflag, hzero, ha, w1Ok_row ha h14, hbuf, hrow, hres,
    hzone]

theorem State.dmaTcamRead_ok (ha : bits (s.dmaWord r 1) 17 16 = 3) (h14 : bit (s.dmaWord r 1) 14 = false)
    (hbuf : bufOk (s.dmaWord r 2) 48 = true) : ∃ rest : Bytes, rest.length = 6 ∧
    s.dmaTcamRead r = (dmaStatus 1, s.pantryWrite (s.dmaWord r 2) (rowOctets (s.tcam (bits (s.dmaWord r 1) 13 0)).value
      (s.tcam (bits (s.dmaWord r 1) 13 0)).mask (s.tcam (bits (s.dmaWord r 1) 13 0)).result rest)) :=
  ⟨leBytes 1 (b2n (s.tcam (bits (s.dmaWord r 1) 13 0)).valid) ++ [0, 0, 0, 0, 0], by simp,
   by simp [State.dmaTcamRead, ha, w1Ok_row ha h14, hbuf, rowOctets]⟩

theorem State.dmaTcamClear_ok (ha : bits (s.dmaWord r 1) 17 16 = 3) (h14 : bit (s.dmaWord r 1) 14 = false) :
    s.dmaTcamClear r = (dmaStatus 1,
      (s.setTcam (bits (s.dmaWord r 1) 13 0) { s.tcam (bits (s.dmaWord r 1) 13 0) with valid := false }).tableCommit) := by
  simp [State.dmaTcamClear, ha, w1Ok_row ha h14]

/-- An operation that is none of R350's gives BAD_OP. -/
theorem State.dmaOp_unknown {op : Nat} (h : op ∉ dmaOps) : s.dmaOp r op = (dmaStatus 0x0C, s) := by
  unfold State.dmaOp
  split
  case h_13 => rfl
  all_goals exact absurd (by decide) h

end Sys2Proof.Machine

namespace Sys2Proof.Machine

variable {s u : State} {d : DmaResult} {r : Fin 4} {c : Instr} {op : Nat}

/-! What a command of the update unit leaves, by what its operation writes. -/

/-- An operation that writes one entry. -/
theorem exec_dmaEntry (hc : (c, op) ∈ dmaInstrs r) (hdue : s.dmaDue r op) {l e : Nat}
    (hop : s.dmaOp r op = (d, (s.setEm l e).tableCommit)) :
    ∃ t, exec c s = .next t ∧ t.dmaDone s r d.status ∧ t.em l = (s.setEm l e).em l ∧ (∀ k, k ≠ l → t.em k = s.em k) ∧
      t.obj O.TABLE_COMMIT = (s.obj O.TABLE_COMMIT + 1) % 2 ^ 32 := by
  obtain ⟨hexec, hdone⟩ := exec_dmaDue hc hdue hop
  have hem : ∀ k, (((s.setEm l e).tableCommit).dmaFinish r d false).em k = (s.setEm l e).em k := State.dmaFinish_em false
  refine ⟨_, hexec, hdone, hem l, fun k hk => (hem k).trans (State.em_setEm_ne e hk), ?_⟩
  rw [State.dmaFinish_commitObj r.isLt, State.tableCommit_commit]
  rfl

/-- An operation that writes one row of the TCAM. -/
theorem exec_dmaRow (hc : (c, op) ∈ dmaInstrs r) (hdue : s.dmaDue r op) {i : Nat} {p : Prefix} (hi : i < 16384)
    (hop : s.dmaOp r op = (d, (s.setTcam i p).tableCommit)) :
    ∃ t, exec c s = .next t ∧ t.dmaDone s r d.status ∧ t.tcam i = p ∧ (∀ j < 16384, j ≠ i → t.tcam j = s.tcam j) ∧
      t.obj O.TABLE_COMMIT = (s.obj O.TABLE_COMMIT + 1) % 2 ^ 32 := by
  obtain ⟨hexec, hdone⟩ := exec_dmaDue hc hdue hop
  have hrow : ∀ j, (((s.setTcam i p).tableCommit).dmaFinish r d false).tcam j = (s.setTcam i p).tcam j := State.dmaFinish_tcam false
  refine ⟨_, hexec, hdone, (hrow i).trans (State.setTcam_tcamCopy p (by decide)),
    fun j hj hne => (hrow j).trans (State.setTcam_tcam_ne p hi hj hne), ?_⟩
  rw [State.dmaFinish_commitObj r.isLt, State.tableCommit_commit]
  rfl

/-- An operation that changes the tables alone. -/
theorem exec_dmaTables (hc : (c, op) ∈ dmaInstrs r) (hdue : s.dmaDue r op) (hop : s.dmaOp r op = (d, u)) (hu : u.only s [.tables] []) :
    ∃ t, exec c s = .next t ∧ t.dmaDone s r d.status ∧ t.tables = u.tables ∧
      t.only s (.tables :: dmaParts) (keyOf O.TDMA_TAIL (r + 1) :: wakeKeys) :=
  ⟨_, (exec_dmaDue hc hdue hop).1, (exec_dmaDue hc hdue hop).2, u.dmaFinish_tables r d false, State.dmaFinish_only_of false hu⟩

theorem State.dmaAddr_pantryWrite (s : State) (a : Nat) (b : Bytes) (r : Nat) : (s.pantryWrite a b).dmaAddr r = s.dmaAddr r := rfl

/-- An operation that fills a buffer apart from its descriptor. -/
theorem exec_dmaBuffer (hc : (c, op) ∈ dmaInstrs r) (hdue : s.dmaDue r op) {a : Nat} {b : Bytes}
    (hop : s.dmaOp r op = (d, s.pantryWrite a b)) (hapart : a + b.length ≤ s.dmaAddr r ∨ s.dmaAddr r + 32 ≤ a) :
    ∃ t, exec c s = .next t ∧ t.dmaDone s r d.status ∧
      (∀ pre l post, b = pre ++ l ++ post → t.pantryRead (a + pre.length) l.length = l) ∧
      t.only s dmaParts (keyOf O.TDMA_TAIL (r + 1) :: wakeKeys) := by
  obtain ⟨hexec, hdone⟩ := exec_dmaDue hc hdue hop
  have hwrite : (s.pantryWrite a b).only s dmaParts [] := State.only_pantryWrite _ _ (State.only_refl _ _ _) (by simp [dmaParts])
  refine ⟨_, hexec, hdone, fun pre l post hb => ?_, State.only_mono (State.dmaFinish_only_of false hwrite) (by simp) (by simp)⟩
  subst hb
  simp only [List.length_append] at hapart
  rw [State.dmaFinish_read_out false (by rw [State.dmaAddr_pantryWrite]; omega), State.pantryRead_write_mid]

end Sys2Proof.Machine

open Sys2Proof Sys2Proof.Machine

/-- Settles O32, clause by clause: every command of the update unit is its ring's operation with a completion, and each clause names what
that operation answers and writes. -/
theorem tableDmaWorks : Obligations.TableDmaWorks := by
  unfold Obligations.TableDmaWorks
  refine ⟨?performs, ?unknownIdle, ?unknown, ?lookupNone, ?lookup, ?insert, ?insertKnown, ?update, ?delete, ?hit, ?readBucket, ?lock,
    ?lockTaken, ?unlock, ?unlockOther, ?fence, ?tcamWrite, ?tcamRead, ?tcamClear⟩
  case performs =>
    intro s r hh c hc
    rw [exec_dmaInstr r s c hc]
    refine ⟨fun h => runKeep_dmaIdle hh (h.imp id (by simp)), fun hr hop => ?_⟩
    obtain ⟨st, hdone⟩ := s.dmaRun_done r.isLt
    exact ⟨_, st, runKeep_dmaRun hh hr (by simp [hop]), hdone, s.dmaRun_only r false⟩
  case unknownIdle =>
    intro s r hh h
    exact runKeep_dmaIdle hh (h.imp id (by simp))
  case unknown =>
    intro s r op hdue hop
    obtain ⟨hexec, hdone⟩ := runKeep_dmaDue (sel := (!dmaOps.contains ·)) hdue (by simpa using hop) (State.dmaOp_unknown hop)
    exact ⟨_, hexec, hdone, s.dmaFinish_only r _ false⟩
  case lookupNone =>
    intro s r hdue hk hf
    exact exec_dmaAnswer (by simp [dmaInstrs]) hdue (State.keyOp_absent hk rfl hf)
  case lookup =>
    intro s r l hdue hk hf h29 hb
    obtain ⟨hexec, hdone⟩ := exec_dmaDue (c := .lookup r) (by simp [dmaInstrs]) hdue (State.dmaLookup_found hk hf h29 hb)
    refine ⟨_, hexec, hdone, ?_, ?_, s.dmaFinish_only r _ false⟩
    · rw [State.dmaFinish_image false rfl, ofLe_leBytes]
    · rw [State.dmaFinish_word1 false rfl, ofLe_leBytes]
      exact Nat.mod_eq_of_lt (locW1_lt l)
  case insert =>
    intro s r l hdue hi h29 hf hw hs
    obtain ⟨t, hexec, hdone, hl, hk, hcommit⟩ := exec_dmaEntry (c := .insert r) (by simp [dmaInstrs]) hdue
      (State.dmaInsert_placed hi h29 hf hw hs)
    exact ⟨t, hexec, hdone, hl.trans (State.em_setEm_image _ _ _), hk, hcommit⟩
  case insertKnown =>
    intro s r l hdue hi h29 hf hb
    exact exec_dmaAnswer (by simp [dmaInstrs]) hdue (State.dmaInsert_known hi h29 hf hb)
  case update =>
    intro s r l hdue hi hf ht hb
    obtain ⟨t, hexec, hdone, hl, hk, hcommit⟩ := exec_dmaEntry (c := .update r) (by simp [dmaInstrs]) hdue
      (State.dmaUpdate_found hi hf ht hb)
    have hvalid : bit (updatedEntry (s.em l) (s.dmaImage r)) 127 = true := by
      rw [bit_updatedEntry, if_neg (by decide), if_neg (by decide), if_neg (by decide), State.emFind_valid hf]
    refine ⟨t, hexec, hdone, ?_, ?_, ?_, ?_, ?_, hk, hcommit⟩ <;> rw [hl]
    · exact (State.bits_em_setEm hvalid (by decide)).trans (emResult_updatedEntry _ _)
    · exact (State.bits_em_setEm hvalid (by decide)).trans (emKey_updatedEntry _ _)
    · rw [State.bit_em_setEm hvalid (by decide), bit_updatedEntry]; rfl
    · rw [State.bit_em_setEm hvalid (by decide), bit_updatedEntry]; rfl
    · rw [State.bit_em_setEm hvalid (by decide), bit_updatedEntry]; rfl
  case delete =>
    intro s r l hh hr hop hk hf ht hb hs
    have hremoved : ∀ {c : Instr} {op : Nat}, (c, op) ∈ dmaInstrs r → bits (s.dmaWord r 0) 23 16 = op →
        s.dmaOp r op = (dmaStatus 1, (s.setEm l 0).tableCommit) → ∃ t, exec c s = .next t ∧ t.dmaDone s r 1 ∧ t.em l = 0 ∧
          (∀ k, k ≠ l → t.em k = s.em k) ∧ t.obj O.TABLE_COMMIT = (s.obj O.TABLE_COMMIT + 1) % 2 ^ 32 := fun hc hop hd => by
      obtain ⟨t, hexec, hdone, hl, hkept, hcommit⟩ := exec_dmaEntry hc ⟨hh, hr, hop⟩ hd
      exact ⟨t, hexec, hdone, hl.trans (State.em_setEm_zero l), hkept, hcommit⟩
    rcases hop with h4 | ⟨h5, hhit⟩
    · rw [if_pos h4]
      exact hremoved (by simp [dmaInstrs]) h4 (State.dmaDelete_found hk hf ht hb hs)
    · rw [if_neg (by omega)]
      exact hremoved (by simp [dmaInstrs]) h5 (State.dmaDelIfClear_clear hk hf ht hb hs hhit)
  case hit =>
    intro s r l hdue hk hf ht hb hhit
    exact exec_dmaAnswer (by simp [dmaInstrs]) hdue (State.dmaDelIfClear_hit hk hf ht hb hhit)
  case readBucket =>
    intro s r hdue ha hw hbuf hapart h29 h28 hb
    obtain ⟨n, hop⟩ := State.dmaReadBucket_ok ha hw hbuf h29 h28 hb
    obtain ⟨t, hexec, hdone, hread, ho⟩ := exec_dmaBuffer (c := .readBucket r) (by simp [dmaInstrs]) hdue hop
      (by rwa [State.length_bucketImages])
    have himages := hread [] (s.bucketImages (bits (s.dmaWord r 1) 17 16) (bits (s.dmaWord r 1) 14 0)) [] (by simp)
    rw [State.length_bucketImages] at himages
    exact ⟨t, hexec, hdone, himages, ho⟩
  case lock =>
    intro s r b hdue hb hl hn
    obtain ⟨t, hexec, hdone, htables, ho⟩ := exec_dmaTables (c := .lock r) (by simp [dmaInstrs]) hdue (State.dmaLock_free hb hl hn)
      (s.lockTaken_only r b)
    have hlocks : ∀ c, t.lockOf c = if c = b then some r.val else s.lockOf c := fun c => by
      rw [State.lockOf, htables]
      exact State.lockTaken_lockOf hl c
    exact ⟨t, hexec, hdone, by rw [hlocks, if_pos rfl], fun c hc => by rw [hlocks, if_neg hc], ho⟩
  case lockTaken =>
    intro s r b q hdue hb hl hq
    obtain ⟨t, hexec, hdone, htables, ho⟩ := exec_dmaTables (c := .lock r) (by simp [dmaInstrs]) hdue (State.dmaLock_taken hb hl hq)
      (State.only_modTables _ (State.only_refl _ _ _) (by simp))
    exact ⟨t, hexec, hdone, by rw [htables]; rfl, ho⟩
  case unlock =>
    intro s r b hdue hb he hl
    obtain ⟨t, hexec, hdone, htables, ho⟩ := exec_dmaTables (c := .unlock r) (by simp [dmaInstrs]) hdue (State.dmaUnlock_own hb he hl)
      (s.unlocked_only b)
    have hlocks : ∀ c, t.lockOf c = if c = b then none else s.lockOf c := fun c => by
      rw [State.lockOf, htables]
      exact State.lockOf_removed b c
    exact ⟨t, hexec, hdone, by rw [hlocks, if_pos rfl], fun c hc => by rw [hlocks, if_neg hc], ho⟩
  case unlockOther =>
    intro s r b hdue hb he hl
    exact exec_dmaAnswer (by simp [dmaInstrs]) hdue (State.dmaUnlock_other hb he hl)
  case fence =>
    intro s r hdue
    exact exec_dmaAnswer (by simp [dmaInstrs]) hdue rfl
  case tcamWrite =>
    intro s r v m x hdue ha h14 hbuf hv hm hx hread hrow hres hzone
    exact exec_dmaRow (by simp [dmaInstrs]) hdue (Nat.mod_lt _ (by decide))
      (State.dmaTcamWrite_ok ha h14 hbuf hv hm hx hread hrow hres hzone)
  case tcamRead =>
    intro s r hdue ha h14 hbuf hapart
    obtain ⟨rest, hrest, hop⟩ := State.dmaTcamRead_ok ha h14 hbuf
    obtain ⟨t, hexec, hdone, hread, ho⟩ := exec_dmaBuffer (c := .tcamRead r) (by simp [dmaInstrs]) hdue hop
      (by simpa [rowOctets, hrest] using hapart)
    have hvalue := hread [] (leBytes 20 _) (leBytes 20 _ ++ leBytes 2 _ ++ rest) (by simp [rowOctets]; rfl)
    have hmask := hread (leBytes 20 _) (leBytes 20 _) (leBytes 2 _ ++ rest) (by simp [rowOctets]; rfl)
    have hresult := hread (leBytes 20 _ ++ leBytes 20 _) (leBytes 2 _) rest rfl
    simp only [List.length_append, length_leBytes, List.length_nil] at hvalue hmask hresult
    exact ⟨t, hexec, hdone, hvalue, hmask, hresult, ho⟩
  case tcamClear =>
    intro s r hdue ha h14
    exact exec_dmaRow (by simp [dmaInstrs]) hdue (Nat.mod_lt _ (by decide)) (State.dmaTcamClear_ok ha h14)
end

section
/-! PROOF. Rings, locks, scrubbing and table objects (R337, R346, R348, R353, R354, R358, R362), and O33 from them. That STOP is immediate is
log entry 11, that a struck entry is found at the next visit log entry 61, and the content that most good copies hold log entry 64. -/

namespace Sys2Proof.Machine

variable {s t u : State} {r : Nat}

/-! A ring's status word (R353, R362). -/

/-- A field and a bit of a number that is stored in 16 bits. -/
theorem bit_mod_word (v : Nat) {k : Nat} (h : k < 16) : bit (v % 2 ^ 16) k = bit v k := by
  rw [bit, Nat.testBit_mod_two_pow, decide_eq_true h, Bool.true_and, bit]

theorem State.setRunning_bit (s : State) (r : Nat) (v : Bool) {k : Nat} (hk : k < 16) :
    bit ((s.setRunning r v).obj O.TDMA_STATUS (r + 1)) k = if k = 9 then v else bit (s.obj O.TDMA_STATUS (r + 1)) k := by
  rw [State.setRunning, State.obj_setObj_same]
  exact (bit_mod_word _ hk).trans (bit_setBit _ _ _ _)

theorem State.setRunning_status (s : State) (r : Nat) (v : Bool) :
    (s.setRunning r v).status O.TDMA_STATUS (r + 1) = s.status O.TDMA_STATUS (r + 1) :=
  bits_congr fun k _ hk => by rw [State.setRunning_bit s r v (by omega), if_neg (by omega)]

theorem State.only_setRunning {l : List Part} {ks : List Nat} (v : Bool) (h : t.only s l ks) (hk : keyOf O.TDMA_STATUS (r + 1) ∈ ks) :
    (t.setRunning r v).only s l ks := State.only_setObj _ h hk

/-- A command of a ring is answered, and the ring runs or stands. -/
def State.ringSays (s : State) (r c st : Nat) (v : Bool) : State := (s.cmdStatus O.TDMA_STATUS (r + 1) c st).setRunning r v

theorem State.ringSays_only (s : State) (r c st : Nat) (v : Bool) : (s.ringSays r c st v).only s [] [keyOf O.TDMA_STATUS (r + 1)] :=
  State.only_setRunning v (State.only_cmdStatus _ _ _ (State.only_refl _ _ _) (by simp)) (by simp)

theorem State.ringSays_fields (s : State) (r c : Nat) {st : Nat} (v : Bool) (h : st < 16) :
    (s.ringSays r c st v).status O.TDMA_STATUS (r + 1) = st ∧ bit ((s.ringSays r c st v).obj O.TDMA_STATUS (r + 1)) 9 = v := by
  constructor
  · rw [State.ringSays, State.setRunning_status, State.status_cmdStatus _ _ _ _ _ _ (by decide), Nat.mod_eq_of_lt h]
  · rw [State.ringSays, State.setRunning_bit _ _ _ (by decide), if_pos rfl]

theorem runKeep_ringSays {f : State → State} {c st : Nat} {v : Bool} (hh : s.held = false) (hf : f s = s.ringSays r c st v) (h : st < 16) :
    ∃ t, runKeep s f = .next t ∧ t.status O.TDMA_STATUS (r + 1) = st ∧ bit (t.obj O.TDMA_STATUS (r + 1)) 9 = v ∧
      t.only s [] [keyOf O.TDMA_STATUS (r + 1)] :=
  ⟨_, runKeep_eq hh hf (s.ringSays_only r c st v) (by simp), (s.ringSays_fields r c v h).1, (s.ringSays_fields r c v h).2,
    s.ringSays_only r c st v⟩

/-- Answering a command leaves a completed descriptor done. -/
theorem State.dmaDone_ringSays {st c n : Nat} {v : Bool} (hr : r < 4) (h : u.dmaDone s r st) : (u.ringSays r c n v).dmaDone s r st := by
  have ho := u.ringSays_only r c n v
  have hother : ∀ {o : Obj} {j : Nat}, o.index ≠ O.TDMA_STATUS.index → j < 256 → (u.ringSays r c n v).obj o j = u.obj o j := fun hi hj =>
    State.only_obj ho (by simpa using Obj.key_ne hi hj (by omega))
  unfold State.dmaDone at *
  rwa [State.pantryRead_of_pantry (ho.1 .pantry (by simp)), State.pantryRead_of_pantry (ho.1 .pantry (by simp)),
    hother (by decide) (by decide), hother (by decide) (by omega)]

/-! ABORT (R353). -/

theorem State.tdmaAbort_idle (c : Bool) (h : s.dmaReady r = false) : s.tdmaAbort r c = s.ringSays r 3 2 false := if_neg (by simp [h])

/-- The operation at the tail is given up: its descriptor is completed with ABORTED. -/
def State.dmaAborted (s : State) (r : Nat) : State := (s.dmaFinish r (dmaStatus 0x0D) false).ringSays r 3 3 false

theorem State.tdmaAbort_stops (h : s.dmaReady r = true) : s.tdmaAbort r false = s.dmaAborted r := if_pos h

theorem State.dmaAborted_only (s : State) (r : Nat) :
    (s.dmaAborted r).only s dmaParts (keyOf O.TDMA_STATUS (r + 1) :: keyOf O.TDMA_TAIL (r + 1) :: wakeKeys) :=
  State.only_trans (State.only_mono (State.ringSays_only _ _ _ _ _) (by simp) (by simp))
    (State.only_mono (s.dmaFinish_only r _ false) (fun _ h => h) fun _ h => List.mem_cons_of_mem _ h)

/-- The operation at the tail commits in the abort's own cycle: the abort is late. -/
def State.dmaCommitted (s : State) (r : Nat) : State :=
  ((s.dmaRun r true).abortLate O.TDMA_STATUS (r + 1) 3 O.TABLE_FLAGS 5).setRunning r false

theorem State.tdmaAbort_late (h : s.dmaReady r = true) : s.tdmaAbort r true = s.dmaCommitted r := if_pos h

/-- The objects that an abort which comes too late may touch. -/
def lateKeys (r : Nat) : List Nat :=
  keyOf O.TDMA_STATUS (r + 1) :: keyOf O.TDMA_TAIL (r + 1) :: keyOf O.TABLE_COMMIT :: flagKeys O.TABLE_FLAGS

theorem State.dmaCommitted_only (s : State) (r : Nat) : (s.dmaCommitted r).only s (.tables :: dmaParts) (lateKeys r) := by
  have hrun := State.only_mono (s.dmaRun_only r true) (fun _ h => h) (ks' := lateKeys r) fun _ h => List.mem_cons_of_mem _ h
  exact State.only_setRunning _ (State.only_abortLate _ _ hrun List.mem_cons_self (by simp +contextual [dmaParts])
    fun _ h => List.mem_cons_of_mem _ (List.mem_cons_of_mem _ (List.mem_cons_of_mem _ h))) List.mem_cons_self

/-- What an abort that came too late leaves: DONE with ABORT_LATE, the ring stopped, the flag raised. -/
theorem State.dmaCommitted_fields (s : State) (hr : r < 4) : (s.dmaCommitted r).status O.TDMA_STATUS (r + 1) = 2 ∧
    bit ((s.dmaCommitted r).obj O.TDMA_STATUS (r + 1)) 8 = true ∧ bit ((s.dmaCommitted r).obj O.TDMA_STATUS (r + 1)) 9 = false ∧
    bit ((s.dmaCommitted r).obj O.TABLE_FLAGS) 5 = true := by
  obtain ⟨hstatus, -, hlate, -⟩ := (s.dmaRun r true).setStatus_fields O.TDMA_STATUS (r + 1) 0 true 3 2 (by decide)
  have hraise : ((s.dmaRun r true).abortLate O.TDMA_STATUS (r + 1) 3 O.TABLE_FLAGS 5).obj O.TDMA_STATUS (r + 1) =
      ((s.dmaRun r true).setStatus O.TDMA_STATUS (r + 1) 0 true 3 2).obj O.TDMA_STATUS (r + 1) :=
    State.raise_obj _ _ _ _ (Obj.key_notMem_flagKeys (by omega) (by decide) (by decide) (by decide))
  refine ⟨?_, ?_, ?_, ?_⟩
  · rw [State.dmaCommitted, State.setRunning_status, State.status, hraise]; exact hstatus
  · rw [State.dmaCommitted, State.setRunning_bit _ _ _ (by decide), if_neg (by decide), hraise, hlate]
  · rw [State.dmaCommitted, State.setRunning_bit _ _ _ (by decide), if_pos rfl]
  · rw [State.dmaCommitted, State.setRunning, State.obj_setObj_other _ (by decide) (by decide) (by omega)]
    exact State.raise_bit _ _ (by decide) (Obj.key_notMem_wakeKeys (by decide) (by decide))

/-! RESET (R353). -/

/-- A stopped ring is emptied with its locks. -/
def State.ringEmptied (s : State) (r : Nat) : State :=
  (((s.cmdStatus O.TDMA_STATUS (r + 1) 4 2).setObj O.TDMA_HEAD 0 (r + 1)).setObj O.TDMA_TAIL 0 (r + 1)).modTables
    fun t => { t with locks := t.locks.filter fun l => l.ring != r }

theorem State.ringEmptied_only (s : State) (r : Nat) : (s.ringEmptied r).only s [.tables]
    [keyOf O.TDMA_STATUS (r + 1), keyOf O.TDMA_HEAD (r + 1), keyOf O.TDMA_TAIL (r + 1)] :=
  State.only_modTables _ (State.only_setObj _ (State.only_setObj _ (State.only_cmdStatus _ _ _ (State.only_refl _ _ _) (by simp)) (by simp))
    (by simp)) (by simp)

theorem State.ringEmptied_fields (s : State) (hr : r < 4) : (s.ringEmptied r).status O.TDMA_STATUS (r + 1) = 2 ∧
    (s.ringEmptied r).obj O.TDMA_HEAD (r + 1) = 0 ∧ (s.ringEmptied r).obj O.TDMA_TAIL (r + 1) = 0 := by
  refine ⟨?_, ?_, ?_⟩
  · rw [State.status, State.ringEmptied, State.modTables_obj, State.obj_setObj_other _ (by decide) (by omega) (by omega),
      State.obj_setObj_other _ (by decide) (by omega) (by omega)]
    exact State.status_cmdStatus _ _ _ _ _ _ (by decide)
  · rw [State.ringEmptied, State.modTables_obj, State.obj_setObj_other _ (by decide) (by omega) (by omega), State.obj_setObj_same, Nat.zero_mod]
  · rw [State.ringEmptied, State.modTables_obj, State.obj_setObj_same, Nat.zero_mod]

/-! Locks that time out (R354). -/

/-- The locks that a ring holds on a bucket beyond LOCK_TIMEOUT. -/
def State.lockOverdue (s : State) (r b : Nat) : Bool :=
  s.tables.locks.any fun l => l.bucket == b && l.ring == r && s.elapsed l.at_ (s.obj O.LOCK_TIMEOUT * 1000000)

/-- A lock is released, and its expiry recorded. -/
def State.lockExpired (s : State) (r b : Nat) : State :=
  (s.modTables fun t => { t with locks := t.locks.filter fun l => l.bucket != b,
                                 expired := if t.expired.contains (r, b) then t.expired else (r, b) :: t.expired }).raise O.TABLE_FLAGS 4

theorem exec_lockExpire (r : Fin 4) (x : Bool) (b : BitVec 15) (s : State) : exec (.lockExpire r x b) s =
    runKeep s fun s => if s.lockOverdue r (32768 * b2n x + b.toNat) then s.lockExpired r (32768 * b2n x + b.toNat) else s := rfl

theorem State.lockExpired_only (s : State) (r b : Nat) : (s.lockExpired r b).only s (.tables :: flagParts) (flagKeys O.TABLE_FLAGS) :=
  State.only_raise _ _ (State.only_modTables _ (State.only_refl _ _ _) (by simp)) (fun _ h => List.mem_cons_of_mem _ h) fun _ h => h

theorem State.lockExpired_tables (s : State) (r b : Nat) : (s.lockExpired r b).lockOf b = none ∧ (r, b) ∈ (s.lockExpired r b).tables.expired ∧
    (s.lockExpired r b).tables.em = s.tables.em := by
  refine ⟨?_, ?_, ?_⟩
  · rw [State.lockOf, State.lockExpired, State.raise_tables]
    exact (State.lockOf_removed (s := s) b b).trans (if_pos rfl)
  · rw [State.lockExpired, State.raise_tables]
    by_cases h : (r, b) ∈ s.tables.expired <;> simp [h]
  · rw [State.lockExpired, State.raise_tables]; rfl

/-- A flag of the tables that is raised, by its mask. -/
theorem State.raise_tableFlags (s : State) (b : Nat) : (s.raise O.TABLE_FLAGS b).obj O.TABLE_FLAGS = (s.obj O.TABLE_FLAGS ||| 2 ^ b) % 2 ^ 32 :=
  State.raise_obj_same _ _ _ _ (Obj.key_notMem_wakeKeys (by decide) (by decide))

theorem State.lockExpired_flags (s : State) (r b : Nat) : (s.lockExpired r b).obj O.TABLE_FLAGS = (s.obj O.TABLE_FLAGS ||| 16) % 2 ^ 32 := by
  rw [State.lockExpired, State.raise_tableFlags, State.modTables_obj]
  rfl

/-- TABLE_FLAGS reaches none of the other objects of the chapter. -/
theorem State.raise_tableObj (s : State) (b : Nat) {o : Obj} {j : Nat} (hj : j < 256) (hi : o.index ≠ O.TABLE_FLAGS.index)
    (ho : o.index ∉ [O.LT_LOST.index, O.OBS_FLAGS.index, O.ENG_STATE.index, O.ENG_SLOT_IDLE.index]) :
    (s.raise O.TABLE_FLAGS b).obj o j = s.obj o j := State.raise_obj _ _ _ _ (Obj.key_notMem_flagKeys hj (by decide) hi ho)

/-! The scrubber of the exact-match table (R358). -/

/-- An uncorrectable entry is deleted, counted and named in EM_ECC_LAST. -/
def State.emLost (s : State) (l : Nat) : State :=
  ((((s.setEm l 0).modTables fun t => { t with emBad := t.emBad.filter (· != l) }).raise O.TABLE_FLAGS 6).count O.EM_ECC_LOSS).setObj
    O.EM_ECC_LAST (locW1 l)

/-- An entry is struck: its next visit finds it uncorrectable. -/
def State.emStruck (s : State) (l : Nat) : State :=
  s.modTables fun t => if bit (s.em l) 127 && !t.emBad.contains l then { t with emBad := l :: t.emBad } else t

/-- What the scrubber does at one location. -/
def State.emScrubbed (s : State) (l : Nat) (f : ScrubFinding) : State :=
  if f = .struck then s.emStruck l
  else if s.tables.emBad.contains l || decide (f = .uncorrectable) then s.emLost l
  else if f = .corrected then s.count O.EM_ECC_CORR
  else s

theorem exec_emScrub (a : BitVec 2) (i : BitVec 15) (c : BitVec 2) (f : ScrubFinding) (s : State) :
    exec (.emScrub a i c f) s = runKeep s (·.emScrubbed (emLoc a.toNat i.toNat c.toNat) f) := rfl

theorem State.emScrubbed_lost {l : Nat} {f : ScrubFinding} (hf : f ≠ .struck)
    (h : s.tables.emBad.contains l = true ∨ f = .uncorrectable) : s.emScrubbed l f = s.emLost l := by
  rw [State.emScrubbed, if_neg hf, if_pos (by simpa using h)]

theorem State.emScrubbed_corrected {l : Nat} (h : s.tables.emBad.contains l = false) : s.emScrubbed l .corrected = s.count O.EM_ECC_CORR := by
  rw [State.emScrubbed, if_neg (by decide), if_neg (by rw [h]; decide), if_pos rfl]

theorem State.emLost_only (s : State) (l : Nat) : (s.emLost l).only s (.tables :: flagParts)
    (keyOf O.EM_ECC_LOSS :: keyOf O.EM_ECC_LAST :: flagKeys O.TABLE_FLAGS) := by
  have hgone := State.only_modTables (fun t => { t with emBad := t.emBad.filter (· != l) }) (State.only_mono (s.setEm_only l 0)
    (l' := .tables :: flagParts) (ks' := keyOf O.EM_ECC_LOSS :: keyOf O.EM_ECC_LAST :: flagKeys O.TABLE_FLAGS) (by simp) (by simp)) (by simp)
  exact State.only_setObj _ (State.only_count _ _ _ (State.only_raise _ _ hgone (fun _ h => List.mem_cons_of_mem _ h)
    fun _ h => List.mem_cons_of_mem _ (List.mem_cons_of_mem _ h)) (by simp)) (by simp)

theorem State.emLost_tables (s : State) (l : Nat) : (s.emLost l).em l = 0 ∧ (s.emLost l).tables.emBad.contains l = false := by
  have htables : (s.emLost l).tables = { (s.setEm l 0).tables with emBad := (s.setEm l 0).tables.emBad.filter (· != l) } := by
    rw [State.emLost, State.setObj_tables, State.count_tables, State.raise_tables]; rfl
  constructor
  · rw [State.em, htables]; exact State.em_setEm_zero l
  · rw [htables]; simp

theorem State.emLost_objs (s : State) (l : Nat) : (s.emLost l).obj O.EM_ECC_LOSS = (s.count O.EM_ECC_LOSS).obj O.EM_ECC_LOSS ∧
    (s.emLost l).obj O.EM_ECC_LAST = locW1 l ∧ (s.emLost l).obj O.TABLE_FLAGS = (s.obj O.TABLE_FLAGS ||| 64) % 2 ^ 32 := by
  refine ⟨?_, ?_, ?_⟩
  · rw [State.emLost, State.obj_setObj_other _ (by decide) (by decide) (by decide)]
    exact State.count_of_obj 1 (State.raise_tableObj _ _ (by decide) (by decide) (by decide))
  · rw [State.emLost, State.obj_setObj_same]
    exact Nat.mod_eq_of_lt (locW1_lt l)
  · rw [State.emLost, State.obj_setObj_other _ (by decide) (by decide) (by decide), State.count_obj_ne _ (by decide), State.raise_tableFlags]
    rfl

theorem State.emStruck_only (s : State) (l : Nat) : (s.emStruck l).only s [.tables] [] :=
  State.only_modTables _ (State.only_refl _ _ _) (by simp)

theorem State.emStruck_tables {l : Nat} (h : bit (s.em l) 127 = true) :
    (s.emStruck l).tables.emBad.contains l = true ∧ (s.emStruck l).tables.em = s.tables.em := by
  rw [State.emStruck, State.modTables_tables, h, Bool.true_and]
  by_cases hb : s.tables.emBad.contains l = true
  · rw [hb, if_neg (by decide)]
    exact ⟨hb, rfl⟩
  · rw [if_pos (by simpa using hb)]
    exact ⟨by simp, rfl⟩

/-! The scrubber of the TCAM (R358). -/

/-- The copies of a row that pass parity. -/
def State.goodCopies (s : State) (i : Nat) (m : BitVec 4) : List Prefix :=
  ([0, 1, 2, 3].filter fun k => !m.getLsbD k).map fun k => s.tcamCopy k i

/-- A row takes a content in its four copies, and is counted. -/
def State.rowRepaired (s : State) (i : Nat) (p : Prefix) : State := ((s.setTcam i p).count O.TCAM_REPAIR).raise O.TABLE_FLAGS 7

theorem State.goodCopies_all (s : State) (i : Nat) :
    (s.goodCopies i 0).all (· == s.tcam i) = true ↔ ∀ k < 4, s.tcamCopy k i = s.tcam i := by
  simp only [State.goodCopies, BitVec.ofNat_eq_ofNat, BitVec.getLsbD_zero, Bool.not_false, List.filter_true, List.map_cons, List.map_nil,
    List.all_cons, List.all_nil, Bool.and_eq_true, beq_iff_eq]
  constructor
  · rintro ⟨h0, h1, h2, h3, -⟩ k hk
    interval_cases k <;> assumption
  · exact fun h => ⟨h 0 (by decide), h 1 (by decide), h 2 (by decide), h 3 (by decide), trivial⟩

theorem exec_tcamScrub_same {i : BitVec 14} (hh : s.held = false) (h : ∀ k < 4, s.tcamCopy k i.toNat = s.tcam i.toNat) :
    exec (.tcamScrub i 0) s = .next s :=
  runKeep_same hh (if_pos ⟨rfl, (s.goodCopies_all i.toNat).mpr h⟩)

theorem exec_tcamScrub_repairs {i : BitVec 14} {m : BitVec 4} {x : Prefix} (hh : s.held = false)
    (hm : m ≠ 0 ∨ ∃ k < 4, s.tcamCopy k i.toNat ≠ s.tcam i.toNat) (hx : mostHeld (s.goodCopies i.toNat m) = some x)
    {l : List Part} {ks : List Nat} (ho : (s.rowRepaired i.toNat x).only s l ks) (hl : .hearth ∉ l) :
    exec (.tcamScrub i m) s = .next (s.rowRepaired i.toNat x) := by
  have hbad : ¬ (m = 0 ∧ (s.goodCopies i.toNat m).all (· == s.tcam i.toNat) = true) := by
    rintro ⟨rfl, hall⟩
    rcases hm with hm | ⟨k, hk, hne⟩
    · exact hm rfl
    · exact hne ((s.goodCopies_all i.toNat).mp hall k hk)
  refine runKeep_eq hh ((if_neg hbad).trans ?_) ho hl
  change mostHeld (([0, 1, 2, 3].filter fun k => !m.getLsbD k).map fun k => s.tcamCopy k i.toNat) = some x at hx
  rw [hx]
  rfl

theorem State.rowRepaired_only (s : State) (i : Nat) (p : Prefix) :
    (s.rowRepaired i p).only s (.tables :: flagParts) (keyOf O.TCAM_REPAIR :: flagKeys O.TABLE_FLAGS) :=
  State.only_raise _ _ (State.only_count _ _ _ (State.only_setTcam _ _ (State.only_refl _ _ _) (by simp)) (by simp))
    (fun _ h => List.mem_cons_of_mem _ h) fun _ h => List.mem_cons_of_mem _ h

theorem State.rowRepaired_tables (s : State) (i : Nat) (p : Prefix) : (s.rowRepaired i p).tables = (s.setTcam i p).tables := by
  rw [State.rowRepaired, State.raise_tables, State.count_tables]

theorem State.rowRepaired_objs (s : State) (i : Nat) (p : Prefix) :
    (s.rowRepaired i p).obj O.TCAM_REPAIR = (s.count O.TCAM_REPAIR).obj O.TCAM_REPAIR ∧
      (s.rowRepaired i p).obj O.TABLE_FLAGS = (s.obj O.TABLE_FLAGS ||| 128) % 2 ^ 32 := by
  constructor
  · rw [State.rowRepaired, State.raise_tableObj _ _ (by decide) (by decide) (by decide)]
    exact State.count_of_obj 1 rfl
  · rw [State.rowRepaired, State.raise_tableFlags, State.count_obj_ne _ (by decide)]
    rfl

/-! Table objects (R337, R346). -/

/-- What a write of a table object does. -/
def State.tableWritten (s : State) (o : Option Obj) (v : Bytes) : State :=
  o.elim s fun o => if s.tableBlobOk o v then s.tableBlob o v else s

theorem exec_tableBlobWrite (i : BitVec 16) (v : Bytes) (s : State) :
    exec (.tableBlobWrite i v) s = runKeep s (·.tableWritten (tableObj i.toNat) v) := by
  refine congrArg (runKeep s) (funext fun s => ?_)
  dsimp only [State.tableWritten]
  cases tableObj i.toNat <;> rfl

theorem State.tableBlob_only (s : State) (o : Obj) (v : Bytes) : (s.tableBlob o v).only s [.blobs] [keyOf O.TABLE_COMMIT] :=
  State.only_tableCommit (State.only_setBlob _ _ _ (State.only_refl _ _ _) (by simp)) (by simp)

end Sys2Proof.Machine

open Sys2Proof Sys2Proof.Machine

/-- Settles O33, clause by clause: the status word of a ring after each of its commands, and the state after an expiry, a scrubber's finding
and a write of a table object. -/
theorem ringsLocksAndScrubs : Obligations.RingsLocksAndScrubs := by
  unfold Obligations.RingsLocksAndScrubs
  refine ⟨?head, ?start, ?stop, ?abortIdle, ?abort, ?abortLate, ?resetRefused, ?reset, ?lockKept, ?lockExpires, ?lost, ?corrected, ?struck,
    ?rowSame, ?rowRepaired, ?blobWritten, ?blobRefused⟩
  case head =>
    intro s r v hh
    have ho : (s.setObj O.TDMA_HEAD v.toNat (r + 1)).only s [] [keyOf O.TDMA_HEAD (r + 1)] :=
      State.only_setObj _ (State.only_refl _ _ _) (by simp)
    exact ⟨_, runKeep_eq hh rfl ho (by simp), (State.obj_setObj_same _ _ _ _).trans (Nat.mod_eq_of_lt v.isLt), ho⟩
  case start =>
    intro s r hh
    exact runKeep_ringSays hh rfl (by decide)
  case stop =>
    intro s r hh
    exact runKeep_ringSays hh rfl (by decide)
  case abortIdle =>
    intro s r c hh hr
    exact runKeep_ringSays hh (State.tdmaAbort_idle c hr) (by decide)
  case abort =>
    intro s r hh hr
    have ho := s.dmaAborted_only r
    obtain ⟨hstatus, hrun⟩ := (s.dmaFinish r (dmaStatus 0x0D) false).ringSays_fields r 3 false (by decide : 3 < 16)
    exact ⟨_, runKeep_eq hh (State.tdmaAbort_stops hr) ho (by decide),
      State.dmaDone_ringSays r.isLt (State.dmaFinish_done r.isLt (by decide)), hstatus, hrun, ho⟩
  case abortLate =>
    intro s r hh hr
    exact ⟨_, runKeep_eq hh (State.tdmaAbort_late hr) (s.dmaCommitted_only r) (by decide), s.dmaCommitted_fields r.isLt⟩
  case resetRefused =>
    intro s r hh hrun
    have ho : (s.cmdStatus O.TDMA_STATUS (r + 1) 4 4).only s [] [keyOf O.TDMA_STATUS (r + 1)] :=
      State.only_cmdStatus _ _ _ (State.only_refl _ _ _) (by simp)
    exact ⟨_, runKeep_eq hh (if_pos hrun) ho (by simp), State.status_cmdStatus _ _ _ _ _ _ (by decide), ho⟩
  case reset =>
    intro s r hh hrun
    have ho := s.ringEmptied_only r
    obtain ⟨hstatus, hhead, htail⟩ := s.ringEmptied_fields r.isLt
    exact ⟨_, runKeep_eq hh (if_neg (by simp [hrun])) ho (by simp), hstatus, hhead, htail, rfl, ho⟩
  case lockKept =>
    intro s r x b hh h
    exact runKeep_same hh (if_neg (Bool.eq_false_iff.mp h))
  case lockExpires =>
    intro s r x b hh h
    have ho := s.lockExpired_only r (32768 * b2n x + b.toNat)
    obtain ⟨hlock, hexpired, hem⟩ := s.lockExpired_tables r (32768 * b2n x + b.toNat)
    exact ⟨_, (exec_lockExpire r x b s).trans (runKeep_eq hh (if_pos h) ho (by decide)), hlock, hexpired, hem, s.lockExpired_flags _ _, ho⟩
  case lost =>
    intro s a i c f hh hf h
    have ho := s.emLost_only (emLoc a.toNat i.toNat c.toNat)
    obtain ⟨hem, hbad⟩ := s.emLost_tables (emLoc a.toNat i.toNat c.toNat)
    obtain ⟨hloss, hlast, hflags⟩ := s.emLost_objs (emLoc a.toNat i.toNat c.toNat)
    exact ⟨_, (exec_emScrub a i c f s).trans (runKeep_eq hh (State.emScrubbed_lost hf h) ho (by decide)), hem, hbad, hloss, hlast, hflags, ho⟩
  case corrected =>
    intro s a i c hh h
    have ho : (s.count O.EM_ECC_CORR).only s [] [keyOf O.EM_ECC_CORR] := State.only_count _ _ _ (State.only_refl _ _ _) (by simp)
    exact ⟨_, (exec_emScrub a i c .corrected s).trans (runKeep_eq hh (State.emScrubbed_corrected h) ho (by simp)), rfl, ho⟩
  case struck =>
    intro s a i c hh h
    have ho := s.emStruck_only (emLoc a.toNat i.toNat c.toNat)
    obtain ⟨hbad, hem⟩ := State.emStruck_tables h
    exact ⟨_, (exec_emScrub a i c .struck s).trans (runKeep_eq hh (if_pos rfl) ho (by simp)), hbad, hem, ho⟩
  case rowSame =>
    intro s i hh h
    exact exec_tcamScrub_same hh h
  case rowRepaired =>
    intro s i m x hh hm hx
    have ho := s.rowRepaired_only i.toNat x
    have htables := s.rowRepaired_tables i.toNat x
    obtain ⟨hcount, hflags⟩ := s.rowRepaired_objs i.toNat x
    refine ⟨_, exec_tcamScrub_repairs hh hm hx ho (by decide), fun k hk => ?_, fun j hj hne => ?_, ?_, hcount, hflags, ho⟩
    · rw [State.tcamCopy, htables]; exact State.setTcam_tcamCopy x hk
    · rw [State.tcam, State.tcamCopy, htables]; exact State.setTcam_tcam_ne x i.isLt hj hne
    · rw [htables]; rfl
  case blobWritten =>
    intro s i v o hh ho hok
    have hframe := s.tableBlob_only o v
    have hwritten : s.tableWritten (tableObj i.toNat) v = s.tableBlob o v := by rw [ho]; exact if_pos hok
    exact ⟨_, (exec_tableBlobWrite i v s).trans (runKeep_eq hh hwritten hframe (by simp)), State.blob_setBlob_same _ _ _ _,
      State.tableCommit_commit _, hframe⟩
  case blobRefused =>
    intro s i v hh h
    refine (exec_tableBlobWrite i v s).trans (runKeep_same hh ?_)
    rcases h with hnone | ⟨o, ho, hbad⟩
    · rw [hnone]; rfl
    · rw [ho]; exact if_neg (Bool.eq_false_iff.mp hbad)
end

section
/-! PROOF. Learning and live rehash (R338, R339, R341, R343, R344), and O34 from them. -/

namespace Sys2Proof.Machine

variable {s t u : State}

/-! Learning (R338, R339). -/

/-- The oldest learn request leaves the queue. -/
def State.learnPopped (s : State) (l : List LearnReq) : State := s.modTables fun t => { t with learnQ := l }

theorem State.learnPopped_only (s : State) (l : List LearnReq) : (s.learnPopped l).only s [.tables] [] :=
  State.only_modTables _ (State.only_refl _ _ _) (by simp)

theorem exec_learn_idle (hh : s.held = false) (hq : s.tables.learnQ = []) : exec .learn s = .next s :=
  runKeep_same hh (by rw [hq])

theorem exec_learn_serves {q : LearnReq} {l : List LearnReq} {ks : List Nat} (hh : s.held = false) (hq : s.tables.learnQ = q :: l)
    (hu : (s.learnPopped l).learnOne q = u) (ho : u.only s [.tables] ks) : exec .learn s = .next u :=
  runKeep_eq hh (by rw [hq]; exact hu) ho (by simp)

/-- The bucket of a location is locked. -/
def State.locLocked (s : State) (l : Nat) : Bool := (locBucket l).any fun b => (s.lockOf b).isSome

/-- An entry whose address has moved to another port: RESULT replaced, LEARNED set. -/
def movedEntry (e port : Nat) : Nat := setBit (emSetResult e port) 124 true

/-- A known address: what a learn request does with its entry. -/
theorem State.learnOne_known {q : LearnReq} {e : Nat} (h : s.emLookup 0 q.key = some e) : s.learnOne q =
    if emResult (s.em e) = q.port then s
    else if bit (s.em e) 125 = true then s.count O.LEARN_BLOCKED
    else if bits (emResult (s.em e)) 15 14 ≠ 0 then s
    else if s.locLocked e = true then s.count O.LEARN_BLOCKED
    else (s.setEm e (movedEntry (s.em e) q.port)).count O.LEARN_MOVE := by
  unfold State.learnOne State.locLocked
  rw [h]
  dsimp only
  cases locBucket e <;> rfl

theorem State.learnOne_full {q : LearnReq} (h : s.emLookup 0 q.key = none) (hmax : s.obj O.LEARN_MAX ≤ s.emLearned) :
    s.learnOne q = s.count O.LEARN_FULL := by
  unfold State.learnOne
  rw [h]
  exact if_pos hmax

/-- A request that changes no entry. -/
theorem exec_learn_keeps {q : LearnReq} {l : List LearnReq} (hh : s.held = false) (hq : s.tables.learnQ = q :: l)
    (hu : (s.learnPopped l).learnOne q = s.learnPopped l) (e : Nat) :
    ∃ t, exec .learn s = .next t ∧ t.tables.learnQ = l ∧ t.em e = s.em e ∧ t.only s [.tables] [] :=
  ⟨_, exec_learn_serves hh hq hu (s.learnPopped_only l), rfl, rfl, s.learnPopped_only l⟩

/-- A request that only counts. -/
theorem exec_learn_counts {q : LearnReq} {l : List LearnReq} {o : Obj} (hh : s.held = false) (hq : s.tables.learnQ = q :: l)
    (hu : (s.learnPopped l).learnOne q = (s.learnPopped l).count o) :
    ∃ t, exec .learn s = .next t ∧ t.tables = { s.tables with learnQ := l } ∧ t.obj o = (s.count o).obj o ∧ t.only s [.tables] [keyOf o] := by
  have ho : ((s.learnPopped l).count o).only s [.tables] [keyOf o] :=
    State.only_count _ _ _ (State.only_mono (s.learnPopped_only l) (fun _ h => h) (by simp)) (by simp)
  exact ⟨_, exec_learn_serves hh hq hu ho, State.count_tables .., State.count_of_obj 1 (State.modTables_obj ..), ho⟩

/-- An entry that moves to another port, the request gone. -/
def State.learnMoved (s : State) (l : List LearnReq) (e port : Nat) : State :=
  ((s.learnPopped l).setEm e (movedEntry (s.em e) port)).count O.LEARN_MOVE

theorem State.learnMoved_only (s : State) (l : List LearnReq) (e port : Nat) {ks : List Nat} (hk : keyOf O.LEARN_MOVE ∈ ks) :
    (s.learnMoved l e port).only s [.tables] ks :=
  State.only_count _ _ _ (State.only_setEm _ _ (State.only_mono (s.learnPopped_only l) (fun _ h => h) (by simp)) (by simp)) hk

theorem State.learnMoved_learnQ (s : State) (l : List LearnReq) (e port : Nat) : (s.learnMoved l e port).tables.learnQ = l := by
  rw [State.learnMoved, State.count_tables]; rfl

theorem bit_movedEntry (e port k : Nat) :
    bit (movedEntry e port) k = if k = 124 then true else if 44 ≤ k ∧ k < 60 then bit port (k - 44) else bit e k := by
  rw [movedEntry, bit_setBit, bit_emSetResult]

theorem emResult_movedEntry (e : Nat) {port : Nat} (h : port < 2 ^ 16) : emResult (movedEntry e port) = port :=
  emResult_of_bits h fun k hk => by rw [bit_movedEntry, if_neg (by omega), if_pos (by omega), Nat.add_sub_cancel_left]

theorem emKey_movedEntry (e port : Nat) : emKey (movedEntry e port) = emKey e :=
  bits_congr fun k _ _ => by rw [bit_movedEntry, if_neg (by omega), if_neg (by omega)]

theorem State.learnMoved_em (s : State) (l : List LearnReq) (e port k : Nat) :
    (s.learnMoved l e port).em k = (s.setEm e (movedEntry (s.em e) port)).em k := by
  rw [State.em, State.learnMoved, State.count_tables]; rfl

theorem State.learnMoved_count (s : State) (l : List LearnReq) (e port : Nat) :
    (s.learnMoved l e port).obj O.LEARN_MOVE = (s.count O.LEARN_MOVE).obj O.LEARN_MOVE :=
  State.count_of_obj (t := (s.learnPopped l).setEm e (movedEntry (s.em e) port)) 1 (by rw [State.setEm, State.learnPopped, State.modTables_obj,
    State.modTables_obj])

/-! Migrations (R341, R343). -/

/-- A migration is in DUAL, its walk anew unless the same target resumes it. -/
def State.migrationBegun (s : State) (g : Nat) : State :=
  ((s.cmdStatus O.EM_STATUS 0 (g + 1) 1).setObj O.EM_STATE (2 + g)).modTables fun x =>
    { x with walk := if s.obj O.EM_STATE = 2 + g then x.walk else 0, skipped := if s.obj O.EM_STATE = 2 + g then x.skipped else [],
             rehash := false }

theorem State.migrate_refused {g : Nat} (hb : s.status O.EM_STATUS ≠ 1)
    (h : s.obj O.EM_STATE = g ∨ (s.obj O.EM_STATE ≠ g ∧ s.seedsOk g = false)) :
    s.migrate g = s.cmdStatus O.EM_STATUS 0 (g + 1) 4 (if s.obj O.EM_STATE = g then 0 else 2) := by
  rw [State.migrate, if_neg hb]
  rcases h with hs | ⟨hs, hseeds⟩
  · rw [if_pos hs, if_pos hs]
  · rw [if_neg hs, if_neg hs, if_pos (by rw [hseeds]; rfl)]

theorem State.migrate_begins {g : Nat} (hb : s.status O.EM_STATUS ≠ 1) (hs : s.obj O.EM_STATE ≠ g) (hok : s.seedsOk g = true) :
    s.migrate g = s.migrationBegun g := by
  rw [State.migrate, if_neg hb, if_neg hs, if_neg (by rw [hok]; decide)]
  rfl

theorem State.only_migrationBegun {l : List Part} {ks : List Nat} (g : Nat) (h : t.only s l ks) (hl : .tables ∈ l)
    (hst : keyOf O.EM_STATUS ∈ ks) (hk : keyOf O.EM_STATE ∈ ks) : (t.migrationBegun g).only s l ks :=
  State.only_modTables _ (State.only_setObj _ (State.only_cmdStatus _ _ _ h hst) hk) hl

theorem State.migrationBegun_fields (s : State) {g : Nat} (hg : g < 2) :
    (s.migrationBegun g).status O.EM_STATUS 0 = 1 ∧ (s.migrationBegun g).obj O.EM_STATE = 2 + g := by
  constructor
  · rw [State.status, State.migrationBegun, State.modTables_obj, State.obj_setObj_other _ (by decide) (by decide) (by decide)]
    exact State.status_cmdStatus _ _ _ _ _ _ (by decide)
  · rw [State.migrationBegun, State.modTables_obj, State.obj_setObj_same]
    exact Nat.mod_eq_of_lt (show 2 + g < 2 ^ 8 by omega)

/-- A walk that is not resumed starts anew. -/
theorem State.migrationBegun_tables {g : Nat} (h : s.obj O.EM_STATE ≠ 2 + g) :
    (s.migrationBegun g).tables = { s.tables with walk := 0, skipped := [], rehash := false } := by
  simp only [State.migrationBegun, State.modTables_tables, if_neg h]
  rfl

/-- The commands that start a migration, with their target sets. -/
def migrateInstrs : List (Instr × Nat) := [(.migrateToA, 0), (.migrateToB, 1)]

theorem exec_migrate (s : State) : ∀ c ∈ migrateInstrs, c.2 < 2 ∧ exec c.1 s = runKeep s (·.migrate c.2) := by
  simp only [migrateInstrs, List.forall_mem_cons]
  exact ⟨⟨by decide, rfl⟩, ⟨by decide, rfl⟩, by simp⟩

/-- A command on EM_STATUS that is answered and does no more. -/
theorem runKeep_emAnswered {f : State → State} {c st r : Nat} (hh : s.held = false) (hf : f s = s.cmdStatus O.EM_STATUS 0 c st r)
    (hst : st < 16) (hr : r < 16) : ∃ t, runKeep s f = .next t ∧ t.status O.EM_STATUS 0 = st ∧ bits (t.obj O.EM_STATUS 0) 15 12 = r ∧
      t.only s [] [keyOf O.EM_STATUS] := by
  have ho : (s.cmdStatus O.EM_STATUS 0 c st r).only s [] [keyOf O.EM_STATUS] := State.only_cmdStatus _ _ _ (State.only_refl _ _ _) List.mem_cons_self
  obtain ⟨hstatus, -, -, hreason⟩ := s.setStatus_fields O.EM_STATUS 0 r false c st (by decide)
  exact ⟨_, runKeep_eq hh hf ho (by simp), hstatus.trans (Nat.mod_eq_of_lt hst), hreason.trans (Nat.mod_eq_of_lt hr), ho⟩

/-- The walk has ended: the target set is active. -/
def State.migrationDone (s : State) : State :=
  ((s.endStatus O.EM_STATUS 0 2).setObj O.EM_STATE s.placeSet).modTables fun t => { t with walk := 0, skipped := [], rehash := false }

theorem State.migrateEnd_done (h : s.tables.rehash = false) : s.migrateEnd = s.migrationDone := by
  simp only [State.migrateEnd, h]
  rfl

theorem State.migrationDone_only (s : State) : s.migrationDone.only s [.tables] [keyOf O.EM_STATUS, keyOf O.EM_STATE] :=
  State.only_modTables _ (State.only_setObj _ (State.only_endStatus _ _ (State.only_refl _ _ _) List.mem_cons_self) (by simp)) (by simp)

theorem State.migrationDone_fields (s : State) : s.migrationDone.status O.EM_STATUS 0 = 2 ∧ s.migrationDone.obj O.EM_STATE = s.placeSet := by
  constructor
  · rw [State.status, State.migrationDone, State.modTables_obj, State.obj_setObj_other _ (by decide) (by decide) (by decide)]
    exact State.status_endStatus _ _ _ _ _ (by decide)
  · rw [State.migrationDone, State.modTables_obj, State.obj_setObj_same]
    have hset : s.placeSet < 2 := Nat.mod_lt _ (by decide)
    exact Nat.mod_eq_of_lt (show s.placeSet < 2 ^ 8 by omega)

/-- A walk that is through, with no bucket to come back to, moves nothing. -/
theorem State.migrateStep_through (hb : s.status O.EM_STATUS = 1) (hw : 65552 ≤ s.tables.walk) (hk : s.tables.skipped = [])
    (hl : s.migrateLeft = 0) : s.migrateStep = s.migrateEnd := by
  have hsame : (s.modTables fun t => { t with walk := s.tables.walk, skipped := t.skipped.tail }) = s := by
    simp only [State.modTables, hk, List.tail_nil]
    rw [← hk]
  simp [State.migrateStep, hb, hw, hk, hsame, hl]

/-! The migration that E9 starts (R344). -/

/-- A seed of E9's choosing, its halves unequal. -/
def chosenSeed (n : Nat) : Nat := if bits n 63 32 = bits n 31 0 then n ^^^ 1 else n

theorem bit_xor_one (n k : Nat) : bit (n ^^^ 1) k = Bool.xor (bit n k) (decide (0 = k)) :=
  (Nat.testBit_xor ..).trans (congrArg (Bool.xor _) (Nat.testBit_two_pow (n := 0)))

theorem chosenSeed_halves (n : Nat) : bits (chosenSeed n) 63 32 ≠ bits (chosenSeed n) 31 0 := by
  unfold chosenSeed
  split
  next h =>
    have hhigh : bits (n ^^^ 1) 63 32 = bits n 63 32 := bits_congr fun k hk _ => by
      rw [bit_xor_one, decide_eq_false (by omega), Bool.xor_false]
    rw [hhigh, h]
    intro heq
    have hbit := congrArg (bit · 0) heq
    simp only [bit_bits, Nat.zero_add, bit_xor_one] at hbit
    simp at hbit
  next h => exact h

/-- The object that holds the seeds of a set (R331). -/
def seedObj (g : Nat) : Obj := if g = 0 then O.EM_SEED_A else O.EM_SEED_B

theorem State.seedsOk_eq (s : State) (g : Nat) : s.seedsOk g = (bits (s.obj (seedObj g)) 63 32 != bits (s.obj (seedObj g)) 31 0) := by
  by_cases hg : g = 0
  · subst hg; rfl
  · simp only [State.seedsOk, State.seed, seedObj, if_neg hg]
    rfl

end Sys2Proof.Machine

namespace Sys2Proof.Machine

variable {s t u : State}

theorem seedObj_index (g : Nat) : (seedObj g).index = O.EM_SEED_A.index ∨ (seedObj g).index = O.EM_SEED_B.index := by
  unfold seedObj
  split
  · exact .inl rfl
  · exact .inr rfl

theorem seedObj_lo (g : Nat) : (seedObj g).lo = 0 := by
  unfold seedObj
  split <;> rfl

theorem seedObj_ty (g : Nat) : (seedObj g).ty = .u64 := by
  unfold seedObj
  split <;> rfl

/-- E9 writes a seed of its choosing to a set. -/
def State.reseeded (s : State) (g : Nat) : State := s.fresh.setObj (seedObj g) (chosenSeed (Config.lineBits s.free).toNat)

theorem State.reseeded_only (s : State) (g : Nat) {l : List Part} {ks : List Nat} (hl : .free ∈ l) (hk : keyOf (seedObj g) ∈ ks) :
    (s.reseeded g).only s l ks := State.only_setObj _ (State.only_fresh (State.only_refl _ _ _) hl) hk

/-- E9 starts a migration to a set under seeds of its choosing. -/
def State.rehashStarted (s : State) (g : Nat) : State :=
  ((s.reseeded g).migrationBegun g).modTables fun x => { x with rehash := true }

theorem State.reseeded_seed (s : State) (g : Nat) : (s.reseeded g).obj (seedObj g) = chosenSeed (Config.lineBits s.free).toNat := by
  have hlt : chosenSeed (Config.lineBits s.free).toNat < 2 ^ 64 := by
    unfold chosenSeed
    split
    · exact Nat.xor_lt_two_pow (Config.lineBits s.free).isLt (by decide)
    · exact (Config.lineBits s.free).isLt
  rw [State.reseeded, State.obj_setObj_same, seedObj_ty]
  exact Nat.mod_eq_of_lt hlt

/-- The seeds that E9 chooses are admissible. -/
theorem State.reseeded_seedsOk (s : State) (g : Nat) : (s.reseeded g).seedsOk g = true := by
  rw [State.seedsOk_eq, State.reseeded_seed]
  exact bne_iff_ne.mpr (chosenSeed_halves _)

/-- A seed's object is none of the migration's. -/
theorem seedObj_key_ne (g : Nat) {o : Obj} {j : Nat} (ho : o.index = O.EM_STATUS.index ∨ o.index = O.EM_STATE.index) (hj : j < 256) :
    (seedObj g).key (seedObj g).lo ≠ o.key j := by
  refine Obj.key_ne ?_ (by rw [seedObj_lo]; decide) hj
  rcases seedObj_index g with hg | hg <;> rcases ho with ho | ho <;> rw [hg, ho] <;> decide

theorem State.reseeded_obj (s : State) (g : Nat) {o : Obj} {j : Nat} (ho : o.index = O.EM_STATUS.index ∨ o.index = O.EM_STATE.index)
    (hj : j < 256) : (s.reseeded g).obj o j = s.obj o j :=
  (State.obj_setObj_ne _ _ (seedObj_key_ne g ho hj).symm).trans (State.fresh_obj ..)

/-- The migration of E9 leaves the seeds that it wrote. -/
theorem State.rehashStarted_seedsOk (s : State) (g : Nat) : (s.rehashStarted g).seedsOk g = true := by
  have hseed : (s.rehashStarted g).obj (seedObj g) = (s.reseeded g).obj (seedObj g) := by
    rw [State.rehashStarted, State.migrationBegun, State.modTables_obj, State.modTables_obj,
      State.obj_setObj_ne _ _ (seedObj_key_ne g (.inr rfl) (by decide)), State.cmdStatus_obj_ne _ _ _ _ _ _ (seedObj_key_ne g (.inl rfl) (by decide))]
  rw [State.seedsOk_eq, hseed, ← State.seedsOk_eq]
  exact s.reseeded_seedsOk g

theorem State.rehashStarted_only (s : State) (g : Nat) :
    (s.rehashStarted g).only s [.tables, .free] [keyOf O.EM_STATUS, keyOf O.EM_STATE, keyOf (seedObj g)] :=
  State.only_modTables _ (State.only_migrationBegun g (s.reseeded_only g (by simp) (by simp)) (by simp) (by simp) (by simp)) (by simp)

/-- When E9 starts a migration of its own (R344). -/
def State.rehashDue (s : State) : Prop :=
  s.engUp 9 = true ∧ s.obj O.EM_AUTO_REHASH = 1 ∧ bit (s.obj O.TABLE_FLAGS) 2 = true ∧ s.obj O.EM_STATE < 2 ∧ s.status O.EM_STATUS ≠ 1 ∧
    s.status O.EM_STATUS ≠ 5

theorem exec_autoRehash_idle (hh : s.held = false) (h : ¬ s.rehashDue) : exec .autoRehash s = .next s := runKeep_same hh (if_neg h)

theorem exec_autoRehash_starts (hh : s.held = false) (h : s.rehashDue) :
    exec .autoRehash s = .next (s.rehashStarted (1 - s.obj O.EM_STATE)) := by
  refine runKeep_eq hh ((if_pos h).trans ?_) (s.rehashStarted_only _) (by simp)
  obtain ⟨-, -, -, hstate, hbusy, -⟩ := h
  have hstatus : (s.reseeded (1 - s.obj O.EM_STATE)).status O.EM_STATUS ≠ 1 := by
    rw [State.status, State.reseeded_obj s _ (.inl rfl) (by decide)]; exact hbusy
  have hother : (s.reseeded (1 - s.obj O.EM_STATE)).obj O.EM_STATE ≠ 1 - s.obj O.EM_STATE := by
    rw [State.reseeded_obj s _ (.inr rfl) (by decide)]; omega
  rw [State.rehashStarted, ← State.migrate_begins hstatus hother (s.reseeded_seedsOk _)]
  by_cases hg : 1 - s.obj O.EM_STATE = 0
  · simp only [State.reseeded, seedObj, if_pos hg]
    rfl
  · simp only [State.reseeded, seedObj, if_neg hg]
    rfl

theorem State.rehashStarted_fields (h : s.obj O.EM_STATE < 2) : (s.rehashStarted (1 - s.obj O.EM_STATE)).status O.EM_STATUS 0 = 1 ∧
    (s.rehashStarted (1 - s.obj O.EM_STATE)).obj O.EM_STATE = 3 - s.obj O.EM_STATE := by
  obtain ⟨hstatus, hdual⟩ := (s.reseeded (1 - s.obj O.EM_STATE)).migrationBegun_fields (g := 1 - s.obj O.EM_STATE) (by omega)
  constructor
  · rw [State.status, State.rehashStarted, State.modTables_obj]; exact hstatus
  · rw [State.rehashStarted, State.modTables_obj, hdual]; omega

theorem State.rehashStarted_tables (h : s.obj O.EM_STATE < 2) :
    (s.rehashStarted (1 - s.obj O.EM_STATE)).tables = { s.tables with walk := 0, skipped := [], rehash := true } := by
  have hfresh : (s.reseeded (1 - s.obj O.EM_STATE)).obj O.EM_STATE ≠ 2 + (1 - s.obj O.EM_STATE) := by
    rw [State.reseeded_obj s _ (.inr rfl) (by decide)]; omega
  rw [State.rehashStarted, State.modTables_tables, State.migrationBegun_tables hfresh]
  rfl

end Sys2Proof.Machine

open Sys2Proof Sys2Proof.Machine

/-- Settles O34, clause by clause: a learn request by what it finds, a migration by EM_STATUS, EM_STATE and the walk. -/
theorem learningAndRehash : Obligations.LearningAndRehash := by
  unfold Obligations.LearningAndRehash
  refine ⟨?idle, ?known, ?moves, ?full, ?migrate, ?abortRefused, ?abort, ?stepIdle, ?through, ?rehashIdle, ?rehash⟩
  case idle =>
    intro s hh hq
    exact exec_learn_idle hh hq
  case known =>
    intro s q l e hh hq he
    have hknown := State.learnOne_known (s := s.learnPopped l) he
    by_cases hport : emResult (s.em e) = q.port
    · simp only [if_pos hport]
      exact exec_learn_keeps hh hq (hknown.trans (if_pos hport)) e
    replace hknown := hknown.trans (if_neg hport)
    simp only [if_neg hport]
    by_cases hstatic : bit (s.em e) 125 = true
    · simp only [if_pos hstatic]
      obtain ⟨t, hexec, htables, hcount, ho⟩ := exec_learn_counts hh hq (hknown.trans (if_pos hstatic))
      exact ⟨t, hexec, by rw [htables], by rw [State.em, htables]; rfl, hcount, ho⟩
    replace hknown := hknown.trans (if_neg hstatic)
    simp only [if_neg hstatic]
    by_cases hhop : bits (emResult (s.em e)) 15 14 ≠ 0
    · simp only [if_pos hhop]
      exact exec_learn_keeps hh hq (hknown.trans (if_pos hhop)) e
    replace hknown := hknown.trans (if_neg hhop)
    simp only [if_neg hhop]
    by_cases hlock : s.locLocked e = true
    · obtain ⟨t, hexec, htables, -, ho⟩ := exec_learn_counts hh hq (hknown.trans (if_pos hlock))
      exact ⟨t, hexec, by rw [htables], State.only_mono ho (fun _ h => h) (by simp)⟩
    · have ho := s.learnMoved_only l e q.port (ks := [keyOf O.LEARN_BLOCKED, keyOf O.LEARN_MOVE]) (by simp)
      exact ⟨_, exec_learn_serves hh hq (hknown.trans (if_neg hlock)) ho, s.learnMoved_learnQ l e q.port, ho⟩
  case moves =>
    intro s q l e hh hq hp he hport hstatic hhop hfree
    have hlock : ¬ s.locLocked e = true := by
      rw [State.locLocked, Option.any_eq_true]
      rintro ⟨b, hb, hlocked⟩
      rw [hfree b hb] at hlocked
      exact absurd hlocked (by decide)
    have hmoved : (s.learnPopped l).learnOne q = s.learnMoved l e q.port :=
      (State.learnOne_known (s := s.learnPopped l) he).trans ((if_neg hport).trans ((if_neg (Bool.eq_false_iff.mp hstatic)).trans
        ((if_neg (not_not.mpr hhop)).trans (if_neg hlock))))
    have hvalid : bit (movedEntry (s.em e) q.port) 127 = true := by
      rw [bit_movedEntry, if_neg (by decide), if_neg (by decide), State.emLookup_valid he]
    refine ⟨_, exec_learn_serves hh hq hmoved (s.learnMoved_only l e q.port (ks := [keyOf O.LEARN_MOVE]) (by simp)), ?_, ?_, ?_, fun k hk => ?_,
      s.learnMoved_count l e q.port⟩
    · rw [State.learnMoved_em]
      exact (State.bits_em_setEm hvalid (by decide)).trans (emResult_movedEntry _ hp)
    · rw [State.learnMoved_em]
      exact (State.bits_em_setEm hvalid (by decide)).trans (emKey_movedEntry _ _)
    · rw [State.learnMoved_em, State.bit_em_setEm hvalid (by decide), bit_movedEntry, if_pos rfl]
    · rw [State.learnMoved_em, State.em_setEm_ne _ hk]
  case full =>
    intro s q l hh hq he hmax
    exact exec_learn_counts hh hq (State.learnOne_full (s := s.learnPopped l) he hmax)
  case migrate =>
    intro s hh c hc
    obtain ⟨hg, hexec⟩ := exec_migrate s c hc
    rw [hexec]
    refine ⟨fun hb => runKeep_same hh (if_pos hb), fun hb h => ?_, fun hb hs hok => ?_⟩
    · exact runKeep_emAnswered hh (State.migrate_refused hb h) (by decide) (by split <;> decide)
    · have ho := State.only_migrationBegun c.2 (State.only_refl s [.tables] [keyOf O.EM_STATUS, keyOf O.EM_STATE]) (by simp) (by simp) (by simp)
      obtain ⟨hstatus, hstate⟩ := s.migrationBegun_fields hg
      exact ⟨_, runKeep_eq hh (State.migrate_begins hb hs hok) ho (by simp), hstatus, hstate, State.migrationBegun_tables, ho⟩
  case abortRefused =>
    intro s c hh hb
    obtain ⟨t, hexec, hstatus, -, ho⟩ := runKeep_emAnswered (f := (·.emAbort c)) (c := 3) (st := 4) (r := 0) hh
      (if_pos hb) (by decide) (by decide)
    exact ⟨t, hexec, hstatus, ho⟩
  case abort =>
    intro s hh hb
    obtain ⟨t, hexec, hstatus, -, ho⟩ := runKeep_emAnswered (f := (·.emAbort false)) (c := 3) (st := 3) (r := 0) hh
      (if_neg (not_not.mpr hb)) (by decide) (by decide)
    exact ⟨t, hexec, hstatus, ho⟩
  case stepIdle =>
    intro s hh hb
    exact runKeep_same hh (if_pos hb)
  case through =>
    intro s hh hb hw hk hl hr
    have hdone := (State.migrateStep_through hb hw hk hl).trans (State.migrateEnd_done hr)
    obtain ⟨hstatus, hstate⟩ := s.migrationDone_fields
    exact ⟨_, runKeep_eq hh hdone s.migrationDone_only (by simp), hstatus, hstate, rfl, s.migrationDone_only⟩
  case rehashIdle =>
    intro s hh h
    refine exec_autoRehash_idle hh ?_
    rintro ⟨hup, hauto, hflag, hstate, hbusy, hfailed⟩
    rcases h with h | h | h | h | h | h
    · simp [h] at hup
    · exact h hauto
    · simp [h] at hflag
    · exact absurd hstate (Nat.not_lt.mpr h)
    · exact hbusy h
    · exact hfailed h
  case rehash =>
    intro s hh hup hauto hflag hstate hbusy hfailed
    obtain ⟨hstatus, hdual⟩ := State.rehashStarted_fields hstate
    have hseed : seedObj (1 - s.obj O.EM_STATE) = if s.obj O.EM_STATE = 1 then O.EM_SEED_A else O.EM_SEED_B :=
      if_congr (by omega) rfl rfl
    have ho := s.rehashStarted_only (1 - s.obj O.EM_STATE)
    rw [hseed] at ho
    exact ⟨_, exec_autoRehash_starts hh ⟨hup, hauto, hflag, hstate, hbusy, hfailed⟩, hstatus, hdual, s.rehashStarted_seedsOk _,
      State.rehashStarted_tables hstate, ho⟩
end

section
/-! SUPPORT. The block's memories as one value (R390, R438, R446), and how loops, branches and changes of engines keep them. -/

namespace Sys2Proof.Machine

variable {s t : State}

/-- The block's memories: the Pantry, the flash and the two memories of each engine. -/
def State.memory (s : State) : Memory × Memory × (Nat → Memory × Memory) :=
  (s.pantry, s.flash, fun e => ((s.eng e).itcm, (s.eng e).dtcm))

/-- The same memories are as canonical as before. -/
theorem State.memoryOk_of_memory (hm : t.memory = s.memory) (h : s.memoryOk) : t.memoryOk := by
  obtain ⟨hp, hf, he⟩ := h
  simp only [State.memory, Prod.mk.injEq] at hm
  obtain ⟨h1, h2, h3⟩ := hm
  refine ⟨h1 ▸ hp, h2 ▸ hf, fun e => ?_⟩
  have h4 := congrFun h3 e
  simp only [Prod.mk.injEq] at h4
  rw [h4.1, h4.2]
  exact he e

@[simp] theorem State.forEach_memory {α : Type} {f : State → α → State} (hf : ∀ u x, (f u x).memory = u.memory) (xs : List α)
    (t : State) : (forEach xs f t).memory = t.memory := by
  unfold forEach
  induction xs generalizing t with
  | nil => rfl
  | cons x xs ih => exact (ih (f t x)).trans (hf t x)

@[simp] theorem State.ite_memory {c : Prop} [Decidable c] {a b : State} :
    (if c then a else b).memory = if c then a.memory else b.memory := apply_ite _ _ _ _

@[simp] theorem State.ite_snd_memory {α : Type} {c : Prop} [Decidable c] {a b : α × State} :
    (if c then a else b).2.memory = if c then a.2.memory else b.2.memory := by split <;> rfl

@[simp] theorem State.keeping_memory (f : State → State) : (s.keeping f).memory = (f s).memory := (rfl)

/-- A change of an engine that leaves its two memories alone. -/
@[simp] theorem State.modEng_memory (e : Nat) (f : Engine → Engine)
    (hi : (f (s.eng e)).itcm = (s.eng e).itcm) (hd : (f (s.eng e)).dtcm = (s.eng e).dtcm) : (s.modEng e f).memory = s.memory := by
  simp only [State.memory, State.modEng, Prod.mk.injEq, true_and]
  funext j
  simp only [State.eng, Tab.get_set]
  split
  · next hj => subst hj; exact Prod.ext hi hd
  · rfl

@[simp] theorem State.with_clk_memory (c : ClkSys) : ({ s with clk := c } : State).memory = s.memory := (rfl)

/-- A branch reaches the same memories either way. -/
theorem State.memory_of_ite {c : Prop} [Decidable c] {a b : State} {m : Memory × Memory × (Nat → Memory × Memory)}
    (ha : a.memory = m) (hb : b.memory = m) : (if c then a else b).memory = m := by
  split <;> assumption

end Sys2Proof.Machine
end

section
/-! PROOF. The memories (R390, R438, R446): what the state, its flags, the Hearth, streams, the Caravan and the tables do leaves the
memories as they are. -/

namespace Sys2Proof.Machine

variable {s t : State}

/-! The named operations of the state. -/

@[simp] theorem State.setObj_memory (o : Obj) (v sub : Nat) : (s.setObj o v sub).memory = s.memory := (rfl)

@[simp] theorem State.setObjI_memory (o : Obj) (z : Int) (sub : Nat) : (s.setObjI o z sub).memory = s.memory := by simp [State.setObjI]

@[simp] theorem State.count_memory (o : Obj) (sub n : Nat) : (s.count o sub n).memory = s.memory := by
  unfold State.count
  dsimp only
  repeat' split
  all_goals simp

@[simp] theorem State.setBlob_memory (o : Obj) (b : Blob) (sub : Nat) : (s.setBlob o b sub).memory = s.memory := (rfl)

@[simp] theorem State.setStatus_memory (o : Obj) (sub reason : Nat) (late : Bool) (cmd st : Nat) :
    (s.setStatus o sub reason late cmd st).memory = s.memory := by
  simp [State.setStatus]

@[simp] theorem State.cmdStatus_memory (o : Obj) (sub cmd st reason : Nat) : (s.cmdStatus o sub cmd st reason).memory = s.memory := by
  simp [State.cmdStatus]

@[simp] theorem State.endStatus_memory (o : Obj) (sub st reason : Nat) : (s.endStatus o sub st reason).memory = s.memory := by
  simp [State.endStatus]

@[simp] theorem State.lateStatus_memory (o : Obj) (sub cmd : Nat) : (s.lateStatus o sub cmd).memory = s.memory := by simp [State.lateStatus]

@[simp] theorem State.modLane_memory (n : Nat) (f : Lane → Lane) : (s.modLane n f).memory = s.memory := (rfl)

@[simp] theorem State.modLPort_memory (p : Nat) (f : LPort → LPort) : (s.modLPort p f).memory = s.memory := (rfl)

@[simp] theorem State.modPort_memory (p : Nat) (f : PTime → PTime) : (s.modPort p f).memory = s.memory := (rfl)

@[simp] theorem State.modGroup_memory (g : Nat) (f : Group → Group) : (s.modGroup g f).memory = s.memory := (rfl)

@[simp] theorem State.modPll_memory (n : Nat) (f : Pll → Pll) : (s.modPll n f).memory = s.memory := (rfl)

@[simp] theorem State.modClkout_memory (n : Nat) (f : Clkout → Clkout) : (s.modClkout n f).memory = s.memory := (rfl)

@[simp] theorem State.modGen_memory (t : Nat) (f : Gen → Gen) : (s.modGen t f).memory = s.memory := (rfl)

@[simp] theorem State.modTdc_memory (c : Nat) (f : Tdc → Tdc) : (s.modTdc c f).memory = s.memory := (rfl)

@[simp] theorem State.modCal_memory (kind inst : Nat) (f : CalRec → CalRec) : (s.modCal kind inst f).memory = s.memory := (rfl)

@[simp] theorem State.modHearth_memory (f : Hearth → Hearth) : (s.modHearth f).memory = s.memory := (rfl)

@[simp] theorem State.modServo_memory (f : ServoMem → ServoMem) : (s.modServo f).memory = s.memory := (rfl)

@[simp] theorem State.modCellar_memory (f : Cellar → Cellar) : (s.modCellar f).memory = s.memory := (rfl)

@[simp] theorem State.modCaravan_memory (f : Caravan → Caravan) : (s.modCaravan f).memory = s.memory := (rfl)

@[simp] theorem State.modTables_memory (f : Tables → Tables) : (s.modTables f).memory = s.memory := (rfl)

@[simp] theorem State.modTio_memory (f : Tio → Tio) : (s.modTio f).memory = s.memory := (rfl)

@[simp] theorem State.modFalri_memory (f : Falri → Falri) : (s.modFalri f).memory = s.memory := (rfl)

@[simp] theorem State.modTwin_memory (f : Twin → Twin) : (s.modTwin f).memory = s.memory := (rfl)

@[simp] theorem State.modHier_memory (f : Hier → Hier) : (s.modHier f).memory = s.memory := (rfl)

@[simp] theorem State.modPower_memory (f : Power → Power) : (s.modPower f).memory = s.memory := (rfl)

@[simp] theorem State.modIrq_memory (f : Irq → Irq) : (s.modIrq f).memory = s.memory := (rfl)

@[simp] theorem State.emit_memory (e : Emit) : (s.emit e).memory = s.memory := (rfl)

@[simp] theorem State.fresh_memory : s.fresh.memory = s.memory := (rfl)

@[simp] theorem State.counterClear_memory (o : Obj) (sub : Nat) : (s.counterClear o sub).memory = s.memory := by simp [State.counterClear]

@[simp] theorem State.leaveWfi_memory (e v : Nat) : (s.leaveWfi e v).memory = s.memory := by simp [State.leaveWfi]

/-! Flags, interrupts and the Lantern. -/

@[simp] theorem State.setSrcCfg_memory (n v : Nat) : (s.setSrcCfg n v).memory = s.memory := by simp [State.setSrcCfg]

@[simp] theorem State.modSrc_memory (n : Nat) (f : IrqSrc → IrqSrc) : (s.modSrc n f).memory = s.memory := by simp [State.modSrc]

@[simp] theorem State.endHolds_memory : s.endHolds.memory = s.memory := by simp [State.endHolds]

@[simp] theorem State.presentTo_memory (t : Nat) : (s.presentTo t).memory = s.memory := by
  unfold State.presentTo
  dsimp only
  repeat' split
  all_goals simp

@[simp] theorem State.irqPresent_memory : s.irqPresent.memory = s.memory := by simp [State.irqPresent]

@[simp] theorem State.irqEvent_memory (n : Nat) : (s.irqEvent n).memory = s.memory := by simp [State.irqEvent]

@[simp] theorem State.claim_memory (t : Nat) : (s.claim t).2.memory = s.memory := by
  unfold State.claim
  dsimp only
  repeat' split
  all_goals simp

@[simp] theorem State.completeSrc_memory (n : Nat) : (s.completeSrc n).memory = s.memory := by simp [State.completeSrc]

@[simp] theorem State.complete_memory (t n : Nat) : (s.complete t n).memory = s.memory := by simp [State.complete]

@[simp] theorem State.completeAll_memory (t : Nat) : (s.completeAll t).memory = s.memory := by simp [State.completeAll]

@[simp] theorem State.lanternLoss_memory : s.lanternLoss.memory = s.memory := by simp [State.lanternLoss]

@[simp] theorem State.lanternPush_memory (type : Nat) (payload : Bytes) : (s.lanternPush type payload).memory = s.memory := by
  unfold State.lanternPush
  dsimp only
  split
  · rfl
  split
  · rfl
  · exact State.lanternLoss_memory

@[simp] theorem State.flagPacket_memory (n index sub mask : Nat) : (s.flagPacket n index sub mask).memory = s.memory := by
  simp [State.flagPacket]

@[simp] theorem State.sharedEvent_memory (n : Nat) : (s.sharedEvent n).memory = s.memory := by simp [State.sharedEvent]

@[simp] theorem State.raise_memory (o : Obj) (b sub : Nat) : (s.raise o b sub).memory = s.memory := by
  unfold State.raise
  dsimp only
  repeat' split
  all_goals simp

@[simp] theorem State.levelRise_memory (n : Nat) (o : Obj) (b sub : Nat) : (s.levelRise n o b sub).memory = s.memory := by
  simp [State.levelRise]

@[simp] theorem State.clear_memory (o : Obj) (m sub : Nat) : (s.clear o m sub).memory = s.memory := by simp [State.clear]

@[simp] theorem State.abortLate_memory (st : Obj) (sub cmd : Nat) (flags : Obj) (b fsub : Nat) :
    (s.abortLate st sub cmd flags b fsub).memory = s.memory := by
  simp [State.abortLate]

/-! The plan of calibrations. -/

@[simp] theorem State.modCalib_memory (f : Cal → Cal) : (s.modCalib f).memory = s.memory := (rfl)

@[simp] theorem State.calTrigger_memory (kind inst : Nat) : (s.calTrigger kind inst).memory = s.memory := by simp [State.calTrigger]

@[simp] theorem State.calTriggerLane_memory (n : Nat) : (s.calTriggerLane n).memory = s.memory := by simp [State.calTriggerLane]

@[simp] theorem State.calTrain_memory (n : Nat) : (s.calTrain n).memory = s.memory := by simp [State.calTrain]

@[simp] theorem State.calEnd_memory (kind inst st reason : Nat) : (s.calEnd kind inst st reason).memory = s.memory := by simp [State.calEnd]

@[simp] theorem State.calRecord_memory (kind inst cond : Nat) : (s.calRecord kind inst cond).memory = s.memory := by simp [State.calRecord]

@[simp] theorem State.calPrecond_memory (kind inst cond : Nat) (forced retry : Bool) :
    (s.calPrecond kind inst cond forced retry).memory = s.memory := by
  simp [State.calPrecond]

@[simp] theorem State.calViolate_memory (kind inst cond : Nat) : (s.calViolate kind inst cond).memory = s.memory := by
  simp [State.calViolate]

@[simp] theorem State.calEdge_memory (c : Nat) : (s.calEdge c).memory = s.memory := by simp [State.calEdge]

@[simp] theorem State.calBusyLane_memory (n : Nat) : (s.calBusyLane n).memory = s.memory := by simp [State.calBusyLane]

/-! The Hearth. -/

@[simp] theorem State.setCount_memory (v : Int) : (s.setCount v).memory = s.memory := by simp [State.setCount]

@[simp] theorem State.f0Run_memory (k : Nat) : (s.f0Run k).memory = s.memory := by simp [State.f0Run]

@[simp] theorem State.hearthRun_memory (k : Nat) : (s.hearthRun k).memory = s.memory := by simp [State.hearthRun]

@[simp] theorem State.runToF0_memory (n : Nat) : (s.runToF0 n).memory = s.memory := by simp [State.runToF0]

@[simp] theorem State.setServo_memory (st : Servo) : (s.setServo st).memory = s.memory := by simp [State.setServo]

@[simp] theorem State.stopSlew_memory : s.stopSlew.memory = s.memory := by simp [State.stopSlew]

@[simp] theorem State.slewBy_memory (theta : Int) : (s.slewBy theta).memory = s.memory := by simp [State.slewBy]

@[simp] theorem State.endInterval_memory : s.endInterval.memory = s.memory := by simp [State.endInterval]

@[simp] theorem State.startInterval_memory : s.startInterval.memory = s.memory := by simp [State.startInterval]

@[simp] theorem State.commitShare_memory : s.commitShare.memory = s.memory := by simp [State.commitShare]

/-! Blocks and the port stream. -/

@[simp] theorem State.sendBlk_memory (p n : Nat) (b : Blk) : (s.sendBlk p n b).memory = s.memory := by
  unfold State.sendBlk
  dsimp only
  repeat' split
  all_goals simp

@[simp] theorem State.creditField_memory (p : Nat) : (s.creditField p).2.memory = s.memory := by simp [State.creditField]

@[simp] theorem State.consume_memory (p q n : Nat) : (s.consume p q n).memory = s.memory := by simp [State.consume]

@[simp] theorem State.interrupt_memory (p : Nat) : (s.interrupt p).memory = s.memory := by simp [State.interrupt]

@[simp] theorem State.idleBlk_memory (p : Nat) : (s.idleBlk p).2.memory = s.memory := by simp [State.idleBlk]

theorem State.frameBlk_memory {p : Nat} {x : Blk × State} (h : s.frameBlk p = some x) : x.2.memory = s.memory := by
  unfold State.frameBlk at h
  repeat' split at h
  all_goals cases h
  all_goals simp

@[simp] theorem State.nextBlk_memory (p : Nat) : (s.nextBlk p).2.memory = s.memory := by
  have hrest : (match s.frameBlk p with | some x => x | none => s.idleBlk p).2.memory = s.memory := by
    split
    next x h => exact State.frameBlk_memory h
    next => simp
  unfold State.nextBlk
  dsimp only
  split
  · simp
  · split
    · exact hrest
    · simp
  · exact hrest

@[simp] theorem State.round_memory (p : Nat) (lv : List (Nat × Nat)) (ns : List Nat) (due : List Blk) :
    (s.round p lv ns due).2.memory = s.memory := by
  induction ns generalizing s due with
  | nil => rfl
  | cons n ns ih =>
    unfold State.round
    split
    · simp [ih]
    · cases due <;> simp [ih]

/-! The Caravan. -/

@[simp] theorem State.rounds_memory (p fuel : Nat) (due : List Blk) : (s.rounds_ p fuel due).memory = s.memory := by
  induction fuel generalizing s due with
  | zero => rfl
  | succ n ih =>
    unfold State.rounds_
    split
    · rfl
    · simp [ih]

/-! Blocks and the port stream. -/

@[simp] theorem State.stream_memory (p : Nat) (due : List Blk) : (s.stream p due).memory = s.memory := by simp [State.stream]

@[simp] theorem State.timeRound_memory (p : Nat) (lv : List (Nat × Nat)) : (s.timeRound p lv).memory = s.memory := by
  simp [State.timeRound]

@[simp] theorem State.rxLane_memory (n : Nat) : (s.rxLane n).memory = s.memory := by simp [State.rxLane]

@[simp] theorem State.rxPort_memory (p k : Nat) : (s.rxPort p k).memory = s.memory := by
  induction k generalizing s with
  | zero => rfl
  | succ k ih =>
    unfold State.rxPort
    split
    · rfl
    · simp [ih]

@[simp] theorem State.sampled_memory (n : Nat) (codes : List PhaseRun) : (s.sampled n codes).memory = s.memory := by simp [State.sampled]

/-! The Caravan. -/

@[simp] theorem State.modPhase_memory (k : Nat) (f : Phase → Phase) : (s.modPhase k f).memory = s.memory := by simp [State.modPhase]

@[simp] theorem State.reestablish_memory (k : Nat) : (s.reestablish k).memory = s.memory := by simp [State.reestablish]

@[simp] theorem State.reestablishAll_memory : s.reestablishAll.memory = s.memory := by simp [State.reestablishAll]

@[simp] theorem State.reestablishPort_memory (p : Nat) : (s.reestablishPort p).memory = s.memory := by simp [State.reestablishPort]

@[simp] theorem State.discard_memory (p n : Nat) : (s.discard p n).memory = s.memory := by simp [State.discard]

@[simp] theorem State.emptyBay_memory : s.emptyBay.memory = s.memory := by simp [State.emptyBay]

@[simp] theorem State.loadF0_memory (n : Nat) : (s.loadF0 n).memory = s.memory := by simp [State.loadF0]

@[simp] theorem State.swapTables_memory (n : Nat) : (s.swapTables n).memory = s.memory := by simp [State.swapTables]

@[simp] theorem State.caravanLoad_memory : s.caravanLoad.memory = s.memory := by simp [State.caravanLoad]

@[simp] theorem State.caravanChecked_memory : s.caravanChecked.memory = s.memory := by simp [State.caravanChecked]

@[simp] theorem State.caravanSwap_memory : s.caravanSwap.memory = s.memory := by simp [State.caravanSwap]

@[simp] theorem State.caravanCancel_memory (coincident : Bool) : (s.caravanCancel coincident).memory = s.memory := by
  simp [State.caravanCancel]

@[simp] theorem State.caravanRearm_memory : s.caravanRearm.memory = s.memory := by simp [State.caravanRearm]

@[simp] theorem State.caravanBoot_memory : s.caravanBoot.memory = s.memory := by simp [State.caravanBoot]

@[simp] theorem State.modLmbox_memory (m : Nat) (f : Mailbox → Mailbox) : (s.modLmbox m f).memory = s.memory := by simp [State.modLmbox]

@[simp] theorem State.modSmbox_memory (m : Nat) (f : Mailbox → Mailbox) : (s.modSmbox m f).memory = s.memory := by simp [State.modSmbox]

@[simp] theorem State.emptyLmboxes_memory : s.emptyLmboxes.memory = s.memory := by simp [State.emptyLmboxes]

@[simp] theorem State.cycleStart_memory : s.cycleStart.memory = s.memory := by simp [State.cycleStart]

@[simp] theorem State.judge_memory (p : Nat) (e : SchedEntry) (sent : Nat) (dstar : Int) :
    (s.judge p e sent dstar).2.memory = s.memory := by
  unfold State.judge
  dsimp only
  repeat' split
  all_goals simp

@[simp] theorem State.toSink_memory (k hdr payload ns : Nat) : (s.toSink k hdr payload ns).memory = s.memory := by simp [State.toSink]

@[simp] theorem State.judgeAll_memory (sent : Nat) (dstar : Int) (l : List (Nat × SchedEntry)) :
    (s.judgeAll sent dstar l).2.memory = s.memory := by
  induction l generalizing s with
  | nil => rfl
  | cons x l ih =>
    obtain ⟨q, e⟩ := x
    have hj := s.judge_memory q e sent dstar
    unfold State.judgeAll
    split
    · split
      next h => rw [h] at hj; simp [ih, hj]
      next h => rw [h] at hj; simp [ih, hj]
    · exact ih

@[simp] theorem State.cellReceive_memory (p : Nat) (body : Body) (blocks : CellBlocks) (time : Arrival) :
    (s.cellReceive p body blocks time).memory = s.memory := by
  have hin : ((s.rxPort p 5).sampled (p + time.lane) time.codes).memory = s.memory := by simp
  unfold State.cellReceive
  dsimp only
  refine State.memory_of_ite rfl ?_
  generalize (s.rxPort p 5).sampled (p + time.lane) time.codes = u at hin ⊢
  rw [← hin]
  split
  · rfl
  refine State.memory_of_ite (by simp) (State.memory_of_ite (by simp) (State.memory_of_ite (by simp) (State.memory_of_ite (by simp)
    (State.memory_of_ite (by simp) (State.memory_of_ite (by simp) (State.memory_of_ite ?_ (State.memory_of_ite ?_ ?_)))))))
  all_goals simp

@[simp] theorem State.setTaken_memory (p slot : Nat) (t : Option Taken) : (s.setTaken p slot t).memory = s.memory := by
  simp [State.setTaken]

@[simp] theorem State.atReadPoint_memory (p slot : Nat) : (s.atReadPoint p slot).memory = s.memory := by
  unfold State.atReadPoint
  dsimp only
  repeat' split
  all_goals simp

@[simp] theorem State.recordLat_memory (p : Nat) (e : SchedEntry) (t : Taken) (x : Nat × Nat × Time56 × Int) :
    (s.recordLat p e t x).memory = s.memory := by
  obtain ⟨ip, iw, arr, margin⟩ := x
  unfold State.recordLat
  dsimp only
  rw [State.modCaravan_memory, State.modPhase_memory]
  split <;> split <;> simp

@[simp] theorem State.atSlot_memory (p slot lag : Nat) : (s.atSlot p slot lag).memory = s.memory := by
  unfold State.atSlot
  dsimp only
  repeat' split
  all_goals simp

/-! The lookup tables. -/

@[simp] theorem State.setEm_memory (l e : Nat) : (s.setEm l e).memory = s.memory := by simp [State.setEm]

@[simp] theorem State.emMove_memory (src dst : Nat) : (s.emMove src dst).memory = s.memory := by simp [State.emMove]

@[simp] theorem State.runPath_memory (l : List Nat) (dst : Nat) : (s.runPath l dst).2.memory = s.memory := by
  induction l generalizing s dst with
  | nil => rfl
  | cons a l ih =>
    unfold State.runPath
    simp [ih]

@[simp] theorem State.emPlace_memory (r t e : Nat) (stash : Bool) : (s.emPlace r t e stash).2.memory = s.memory := by
  unfold State.emPlace
  dsimp only
  repeat' split
  all_goals simp

theorem State.emPlace_eq_memory {r t e : Nat} {stash : Bool} {x : Option Nat} {u : State} (h : s.emPlace r t e stash = (x, u)) :
    u.memory = s.memory := by
  have hm := s.emPlace_memory r t e stash
  rwa [h] at hm

@[simp] theorem State.tableCommit_memory : s.tableCommit.memory = s.memory := by simp [State.tableCommit]

@[simp] theorem State.drainBack_memory (l : Nat) : (s.drainBack l).memory = s.memory := by
  unfold State.drainBack
  dsimp only
  repeat' split
  all_goals simp

@[simp] theorem State.keyOp_memory {r img w0 : Nat} {ok writes : Bool} {f : Nat → DmaResult × State}
    (hf : ∀ l, (f l).2.memory = s.memory) : (s.keyOp r img w0 ok writes f).2.memory = s.memory := by
  unfold State.keyOp
  dsimp only
  repeat' split
  case h_2.isFalse.isFalse => exact hf _
  all_goals rfl

@[simp] theorem State.dmaLookup_memory (r : Nat) : (s.dmaLookup r).2.memory = s.memory := by simp [State.dmaLookup]

@[simp] theorem State.dmaInsert_memory (r : Nat) : (s.dmaInsert r).2.memory = s.memory := by
  unfold State.dmaInsert
  dsimp only
  split
  · rfl
  split
  · rfl
  split
  · rfl
  split
  next h => simpa using State.emPlace_eq_memory h
  next h => simpa using State.emPlace_eq_memory h

@[simp] theorem State.dmaUpdate_memory (r : Nat) : (s.dmaUpdate r).2.memory = s.memory := by simp [State.dmaUpdate]

@[simp] theorem State.dmaDelete_memory (r : Nat) : (s.dmaDelete r).2.memory = s.memory := by simp [State.dmaDelete]

@[simp] theorem State.dmaDelIfClear_memory (r : Nat) : (s.dmaDelIfClear r).2.memory = s.memory := by simp [State.dmaDelIfClear]

@[simp] theorem State.forgetExpiry_memory (r b : Nat) : (s.forgetExpiry r b).memory = s.memory := by simp [State.forgetExpiry]

@[simp] theorem State.dmaLock_memory (r : Nat) : (s.dmaLock r).2.memory = s.memory := by
  unfold State.dmaLock
  dsimp only
  repeat' split
  all_goals simp

@[simp] theorem State.dmaUnlock_memory (r : Nat) : (s.dmaUnlock r).2.memory = s.memory := by
  unfold State.dmaUnlock
  repeat' split
  all_goals simp

@[simp] theorem State.dmaFence_memory (_x : Nat) : (s.dmaFence _x).2.memory = s.memory := by simp [State.dmaFence]

@[simp] theorem State.setTcam_memory (i : Nat) (p : Prefix) : (s.setTcam i p).memory = s.memory := by simp [State.setTcam]

@[simp] theorem State.dmaTcamWrite_memory (r : Nat) : (s.dmaTcamWrite r).2.memory = s.memory := by simp [State.dmaTcamWrite]

@[simp] theorem State.dmaTcamClear_memory (r : Nat) : (s.dmaTcamClear r).2.memory = s.memory := by simp [State.dmaTcamClear]

@[simp] theorem State.setRunning_memory (r : Nat) (v : Bool) : (s.setRunning r v).memory = s.memory := by simp [State.setRunning]

@[simp] theorem State.tdmaStart_memory (r : Nat) : (s.tdmaStart r).memory = s.memory := by simp [State.tdmaStart]

@[simp] theorem State.tdmaStop_memory (r : Nat) : (s.tdmaStop r).memory = s.memory := by simp [State.tdmaStop]

@[simp] theorem State.tdmaReset_memory (r : Nat) : (s.tdmaReset r).memory = s.memory := by simp [State.tdmaReset]

@[simp] theorem State.learnRequest_memory (key port : Nat) : (s.learnRequest key port).memory = s.memory := by simp [State.learnRequest]

@[simp] theorem State.learnOne_memory (q : LearnReq) : (s.learnOne q).memory = s.memory := by
  unfold State.learnOne
  split
  · simp
  · split
    · simp
    · dsimp only
      split
      next h => simpa using State.emPlace_eq_memory h
      next h => simpa using State.emPlace_eq_memory h

@[simp] theorem State.migrate_memory (t : Nat) : (s.migrate t).memory = s.memory := by simp [State.migrate]

@[simp] theorem State.migrateEnd_memory : s.migrateEnd.memory = s.memory := by simp [State.migrateEnd]

@[simp] theorem State.migrateSlots_memory (l : List Nat) : (s.migrateSlots l).2.memory = s.memory := by
  induction l generalizing s with
  | nil => rfl
  | cons a l ih =>
    have hp := s.emPlace_memory 4 s.placeSet (s.em a) true
    unfold State.migrateSlots
    dsimp only
    split
    · split
      next h => rw [h] at hp; simp [ih, hp]
      next h => rw [h] at hp; exact hp
    · exact ih

@[simp] theorem State.migrateFail_memory : s.migrateFail.memory = s.memory := by simp [State.migrateFail]

@[simp] theorem State.migrateStep_memory : s.migrateStep.memory = s.memory := by simp [State.migrateStep]

@[simp] theorem State.emAbort_memory (coincident : Bool) : (s.emAbort coincident).memory = s.memory := by simp [State.emAbort]

@[simp] theorem State.tableBlob_memory (o : Obj) (l : Bytes) : (s.tableBlob o l).memory = s.memory := by simp [State.tableBlob]

end Sys2Proof.Machine
end

section
/-! PROOF. The memories (R390, R438, R446): the Cellar, links, timed I/O, clocks and lanes leave the memories as they are. -/

namespace Sys2Proof.Machine

variable {s t : State}

/-! The Cellar. -/

@[simp] theorem State.fifoPut_memory (k : Nat) (mgmt : Bool) : (s.fifoPut k mgmt).memory = s.memory := by simp [State.fifoPut]

@[simp] theorem State.sendPfc_memory (p q quanta : Nat) : (s.sendPfc p q quanta).memory = s.memory := by simp [State.sendPfc]

@[simp] theorem State.setXoff_memory (p q : Nat) (v : Bool) : (s.setXoff p q v).memory = s.memory := by simp [State.setXoff]

@[simp] theorem State.pfcRise_memory (p q : Nat) : (s.pfcRise p q).memory = s.memory := by simp [State.pfcRise]

@[simp] theorem State.pfcFall_memory (p q : Nat) : (s.pfcFall p q).memory = s.memory := by simp [State.pfcFall]

@[simp] theorem State.creditReturn_memory (p q n : Nat) : (s.creditReturn p q n).memory = s.memory := by simp [State.creditReturn]

@[simp] theorem State.creditBack_memory (p : Nat) (x : Option (Nat × Nat × Nat)) : (s.creditBack p x).memory = s.memory := by
  unfold State.creditBack
  split
  · rfl
  · simp

@[simp] theorem State.creditRelease_memory : s.creditRelease.memory = s.memory := by simp [State.creditRelease]

@[simp] theorem State.notePassed_memory : s.notePassed.memory = s.memory := by simp [State.notePassed]

@[simp] theorem State.newPeriod_memory : s.newPeriod.memory = s.memory := by simp [State.newPeriod]

@[simp] theorem State.fenceCheck_memory : s.fenceCheck.memory = s.memory := by simp [State.fenceCheck]

@[simp] theorem State.freeCopy_memory (d : Desc) : (s.freeCopy d).memory = s.memory := by
  unfold State.freeCopy
  dsimp only
  repeat' split
  all_goals simp

@[simp] theorem State.freeCopies_memory (f : Desc → Bool) : (s.freeCopies f).memory = s.memory := by simp [State.freeCopies]

@[simp] theorem State.dropQueues_memory (p : Nat) : (s.dropQueues p).memory = s.memory := by simp [State.dropQueues]

@[simp] theorem State.admitCopy_memory (l : Look) (p : Nat) : (s.admitCopy l p).2.memory = s.memory := by
  unfold State.admitCopy
  dsimp only
  repeat' split
  all_goals simp

theorem State.admitCopy_eq_memory {l : Look} {p : Nat} {x : Option Share} {u : State} (h : s.admitCopy l p = (x, u)) :
    u.memory = s.memory := by
  have hm := s.admitCopy_memory l p
  rwa [h] at hm

@[simp] theorem State.notePeak_memory (p q : Nat) : (s.notePeak p q).memory = s.memory := by simp [State.notePeak]

@[simp] theorem State.addCopy_memory (l : Look) (fid p : Nat) (nh : Option Nat) (vid : Nat) (edit ct : Bool) :
    (s.addCopy l fid p nh vid edit ct).2.memory = s.memory := by
  unfold State.addCopy
  split
  next h => exact State.admitCopy_eq_memory h
  next h =>
    rw [← State.admitCopy_eq_memory h]
    dsimp only
    split <;> split <;> simp

theorem State.addCopy_eq_memory {l : Look} {fid p : Nat} {nh : Option Nat} {vid : Nat} {edit ct b : Bool} {u : State}
    (h : s.addCopy l fid p nh vid edit ct = (b, u)) : u.memory = s.memory := by
  have hm := s.addCopy_memory l fid p nh vid edit ct
  rwa [h] at hm

@[simp] theorem State.addCopies_memory (l : Look) (ports : List Nat) (nh : Option Nat) (vid : Nat) (edit : Bool) :
    (s.addCopies l ports nh vid edit).memory = s.memory := by
  simp [State.addCopies]

@[simp] theorem State.addDeficit_memory (p v : Nat) : (s.addDeficit p v).memory = s.memory := by simp [State.addDeficit]

@[simp] theorem State.drr_memory (p : Nat) (ok : Nat → Bool) (fuel v : Nat) : (s.drr p ok fuel v).2.memory = s.memory := by
  induction fuel generalizing s v with
  | zero => rfl
  | succ n ih =>
    unfold State.drr
    dsimp only
    split
    · split
      · simp
      · simp [ih]
    · simp [ih]

@[simp] theorem State.choose_memory (p : Nat) : (s.choose p).2.memory = s.memory := by
  unfold State.choose
  dsimp only
  repeat' split
  all_goals simp

@[simp] theorem State.openFrame_memory (p q : Nat) (ct : Bool) (b : Bytes) : (s.openFrame p q ct b).memory = s.memory := by
  simp [State.openFrame]

@[simp] theorem State.startCopy_memory (d : Desc) (ct : Bool) (tOut : Time56) : (s.startCopy d ct tOut).memory = s.memory := by
  unfold State.startCopy
  dsimp only
  repeat' split
  all_goals simp

@[simp] theorem State.endCopy_memory (d : Desc) (mark : Bool) : (s.endCopy d mark).memory = s.memory := by simp [State.endCopy]

@[simp] theorem State.unicast_memory (l : Look) (p : Nat) (nh : Option Nat) (vid : Nat) (edit : Bool) :
    (s.unicast l p nh vid edit).memory = s.memory := by
  unfold State.unicast
  dsimp only
  split
  · rfl
  split
  next h =>
    have hu := State.addCopy_eq_memory h
    rw [State.modCellar_memory] at hu
    rw [← hu]
    repeat' split
    all_goals simp
  next h =>
    have hu := State.addCopy_eq_memory h
    rw [State.modCellar_memory] at hu
    rw [← hu]
    split <;> simp

@[simp] theorem State.punt_memory (l : Look) (reason : Nat) : (s.punt l reason).memory = s.memory := by simp [State.punt]

@[simp] theorem State.setHit_memory (l : Nat) : (s.setHit l).memory = s.memory := by simp [State.setHit]

@[simp] theorem State.deliver_memory (l : Look) (result : Nat) (route : Bool) : (s.deliver l result route).memory = s.memory := by
  unfold State.deliver
  dsimp only
  repeat' split
  all_goals simp

@[simp] theorem State.missAction_memory (l : Look) (action reason : Nat) : (s.missAction l action reason).memory = s.memory := by
  simp [State.missAction]

@[simp] theorem State.forwardL2_memory (l : Look) : (s.forwardL2 l).memory = s.memory := by
  unfold State.forwardL2
  repeat' split
  all_goals simp

@[simp] theorem State.forward_memory (l : Look) : (s.forward l).memory = s.memory := by
  unfold State.forward
  dsimp only
  repeat' split
  all_goals simp

@[simp] theorem State.decideDest_memory (l : Look) : (s.decideDest l).memory = s.memory := by
  unfold State.decideDest
  repeat' split
  all_goals simp

@[simp] theorem State.maybeLearn_memory (l : Look) : (s.maybeLearn l).memory = s.memory := by
  unfold State.maybeLearn
  dsimp only
  repeat' split
  all_goals simp

@[simp] theorem State.countEnd_memory (p : Nat) (e : FrameEnd) : (s.countEnd p e).memory = s.memory := by
  cases e <;> simp [State.countEnd]

@[simp] theorem State.frameIn_memory (p : Nat) (octets : Bytes) (cls : Nat) (mgmt noEdit : Bool) (fin : FrameEnd)
    (tIn ctOut : Time56) (credit : Option (Nat × Nat × Nat)) :
    (s.frameIn p octets cls mgmt noEdit fin tIn ctOut credit).memory = s.memory := by
  simp [State.frameIn]

@[simp] theorem State.inject_memory (b : Bytes) (f : Frame) (tIn : Time56) : (s.inject b f tIn).memory = s.memory := by simp [State.inject]

@[simp] theorem State.nativeFrame_memory (p : Nat) (f : Frame) (tIn : Time56) : (s.nativeFrame p f tIn).memory = s.memory := by
  unfold State.nativeFrame
  dsimp only
  repeat' split
  all_goals simp

@[simp] theorem State.frameReceive_memory (p : Nat) (f : Frame) : (s.frameReceive p f).memory = s.memory := by simp [State.frameReceive]

@[simp] theorem State.egressStart_memory (p : Nat) (tOut : Time56) : (s.egressStart p tOut).memory = s.memory := by
  have hc := s.choose_memory p
  unfold State.egressStart
  split
  · rfl
  split
  next h => rw [h] at hc; simpa using hc
  next h => rw [h] at hc; exact hc

@[simp] theorem State.closeFrame_memory (p : Nat) (bad : Bool) : (s.closeFrame p bad).memory = s.memory := by simp [State.closeFrame]

@[simp] theorem State.egressEnd_memory (p : Nat) : (s.egressEnd p).memory = s.memory := by
  unfold State.egressEnd
  dsimp only
  repeat' split
  all_goals simp

@[simp] theorem State.ctUnderrun_memory (p : Nat) : (s.ctUnderrun p).memory = s.memory := by
  unfold State.ctUnderrun
  dsimp only
  repeat' split
  all_goals simp

@[simp] theorem State.startDeadline_memory (p q : Nat) : (s.startDeadline p q).memory = s.memory := by
  unfold State.startDeadline
  repeat' split
  all_goals simp

@[simp] theorem State.cutFrame_memory (p : Nat) : (s.cutFrame p).memory = s.memory := by simp [State.cutFrame]

@[simp] theorem State.endDeadline_memory (p : Nat) : (s.endDeadline p).memory = s.memory := by
  unfold State.endDeadline
  dsimp only
  repeat' split
  all_goals simp

@[simp] theorem State.fenceWrite_memory (c : Nat) : (s.fenceWrite c).memory = s.memory := by simp [State.fenceWrite]

/-! The Efrov link. -/

@[simp] theorem State.setLat_memory (n : Nat) : (s.setLat n).memory = s.memory := by simp [State.setLat]

@[simp] theorem State.refreshStates_memory (p : Nat) : (s.refreshStates p).memory = s.memory := by simp [State.refreshStates]

@[simp] theorem State.moveTiming_memory (p : Nat) : (s.moveTiming p).memory = s.memory := by
  unfold State.moveTiming
  repeat' split
  all_goals simp

@[simp] theorem State.setActive_memory (p tx rx : Nat) : (s.setActive p tx rx).memory = s.memory := by simp [State.setActive]

@[simp] theorem State.portDown_memory (p : Nat) : (s.portDown p).memory = s.memory := by simp [State.portDown]

@[simp] theorem State.portUpNative_memory (p tx : Nat) : (s.portUpNative p tx).memory = s.memory := by simp [State.portUpNative]

@[simp] theorem State.abortTraining_memory (n : Nat) : (s.abortTraining n).memory = s.memory := by simp [State.abortTraining]

@[simp] theorem State.toState_memory (n v : Nat) : (s.toState n v).memory = s.memory := by simp [State.toState]

@[simp] theorem State.startTraining_memory (n : Nat) : (s.startTraining n).memory = s.memory := by simp [State.startTraining]

@[simp] theorem State.failTraining_memory (n reason : Nat) : (s.failTraining n reason).memory = s.memory := by simp [State.failTraining]

@[simp] theorem State.laneReady_memory (n : Nat) : (s.laneReady n).memory = s.memory := by simp [State.laneReady]

@[simp] theorem State.laneLost_memory (n : Nat) : (s.laneLost n).memory = s.memory := by simp [State.laneLost]

@[simp] theorem State.startTest_memory (n : Nat) : (s.startTest n).memory = s.memory := by simp [State.startTest]

@[simp] theorem State.afterLeave_memory (n : Nat) : (s.afterLeave n).memory = s.memory := by simp [State.afterLeave]

@[simp] theorem State.round1_memory (p : Nat) : (s.round1 p).memory = s.memory := by simp [State.round1]

@[simp] theorem State.laneSuperframe_memory (n : Nat) : (s.laneSuperframe n).memory = s.memory := by simp [State.laneSuperframe]

@[simp] theorem State.superframe_memory (g : Nat) : (s.superframe g).memory = s.memory := by simp [State.superframe]

@[simp] theorem State.superIn_memory (n : Nat) (b : Body) (arrival : LineTime) : (s.superIn n b arrival).memory = s.memory := by
  simp [State.superIn]

@[simp] theorem State.skewFail_memory (p : Nat) : (s.skewFail p).memory = s.memory := by simp [State.skewFail]

@[simp] theorem State.alignPort_memory (p : Nat) : (s.alignPort p).memory = s.memory := by
  unfold State.alignPort
  dsimp only
  repeat' split
  all_goals simp

@[simp] theorem State.lanemapIn_memory (n : Nat) (b : Body) : (s.lanemapIn n b).memory = s.memory := by simp [State.lanemapIn]

@[simp] theorem State.tapHandshake_memory (n : Nat) (b : Body) : (s.tapHandshake n b).memory = s.memory := by simp [State.tapHandshake]

@[simp] theorem State.enterReady_memory (n : Nat) (eq : List Int) : (s.enterReady n eq).memory = s.memory := by simp [State.enterReady]

@[simp] theorem State.tapWishes_memory (n : Nat) (b : Body) (rx : RxFinding) : (s.tapWishes n b rx).memory = s.memory := by
  simp [State.tapWishes]

@[simp] theorem State.adapting_memory (n : Nat) (rx : RxFinding) : (s.adapting n rx).memory = s.memory := by simp [State.adapting]

@[simp] theorem State.trainAdvance_memory (n : Nat) (b : Body) (rx : RxFinding) : (s.trainAdvance n b rx).memory = s.memory := by
  unfold State.trainAdvance
  dsimp only
  repeat' split
  all_goals simp

@[simp] theorem State.ethTrain_memory (n : Nat) (b : Body) (rx : RxFinding) : (s.ethTrain n b rx).memory = s.memory := by
  unfold State.ethTrain
  dsimp only
  repeat' split
  all_goals simp

@[simp] theorem State.trainIn_memory (n : Nat) (b : Body) (rx : RxFinding) : (s.trainIn n b rx).memory = s.memory := by simp [State.trainIn]

@[simp] theorem State.dropOpen_memory (p : Nat) : (s.dropOpen p).memory = s.memory := by simp [State.dropOpen]

@[simp] theorem State.frameSeq_memory (p type : Nat) (b : Body) : (s.frameSeq p type b).memory = s.memory := by simp [State.frameSeq]

@[simp] theorem State.creditTake_memory (p : Nat) (b : Body) : (s.creditTake p b).memory = s.memory := by simp [State.creditTake]

@[simp] theorem State.creditIn_memory (p type : Nat) (b : Body) : (s.creditIn p type b).memory = s.memory := by simp [State.creditIn]

@[simp] theorem State.checkPattern_memory (n : Nat) (block : BitVec 130) : (s.checkPattern n block).memory = s.memory := by
  simp [State.checkPattern]

@[simp] theorem State.blockError_memory (n : Nat) (block : BitVec 130) : (s.blockError n block).memory = s.memory := by
  simp [State.blockError]

@[simp] theorem State.reqSend_memory (p : Nat) : (s.reqSend p).memory = s.memory := by simp [State.reqSend]

@[simp] theorem State.reqIn_memory (p : Nat) (b : Body) (time : Arrival) : (s.reqIn p b time).memory = s.memory := by simp [State.reqIn]

@[simp] theorem State.respSend_memory (p : Nat) : (s.respSend p).memory = s.memory := by simp [State.respSend]

@[simp] theorem State.reqDrop_memory (p : Nat) : (s.reqDrop p).memory = s.memory := by
  unfold State.reqDrop
  repeat' split
  all_goals simp

@[simp] theorem State.setSend_memory (p : Nat) : (s.setSend p).memory = s.memory := by simp [State.setSend]

@[simp] theorem State.cdrLock_memory (n : Nat) : (s.cdrLock n).memory = s.memory := by simp [State.cdrLock]

@[simp] theorem State.bitslip_memory (n : Nat) (tried : List (List (BitVec 2))) : (s.bitslip n tried).memory = s.memory := by
  unfold State.bitslip
  dsimp only
  repeat' split
  all_goals simp

@[simp] theorem State.settle_memory (g : Nat) : (s.settle g).memory = s.memory := by simp [State.settle]

@[simp] theorem State.lockConfirm_memory (n : Nat) (headers : List (BitVec 2)) : (s.lockConfirm n headers).memory = s.memory := by
  simp [State.lockConfirm]

@[simp] theorem State.trained_memory (n : Nat) : (s.trained n).memory = s.memory := by simp [State.trained]

@[simp] theorem State.lockLoss_memory (n : Nat) : (s.lockLoss n).memory = s.memory := by simp [State.lockLoss]

@[simp] theorem State.readmit_memory (n : Nat) : (s.readmit n).memory = s.memory := by simp [State.readmit]

@[simp] theorem State.leaveService_memory (n why : Nat) : (s.leaveService n why).memory = s.memory := by simp [State.leaveService]

@[simp] theorem State.retrain_memory (n : Nat) : (s.retrain n).memory = s.memory := by simp [State.retrain]

@[simp] theorem State.linkAbort_memory (n : Nat) (coincident : Bool) : (s.linkAbort n coincident).memory = s.memory := by
  simp [State.linkAbort]

@[simp] theorem State.removeLane_memory (n : Nat) : (s.removeLane n).memory = s.memory := by simp [State.removeLane]

@[simp] theorem State.idleLane_memory (n : Nat) : (s.idleLane n).memory = s.memory := by simp [State.idleLane]

/-! The release of a held part. -/

@[simp] theorem State.release_memory (rail : Bool) (straps : BitVec 5) : (s.release rail straps).memory = s.memory := by
  simp [State.release]

/-! Timed I/O. -/

@[simp] theorem State.drivePin_memory (t : Nat) (level : Bool) (at_ : Int) : (s.drivePin t level at_).memory = s.memory := by
  simp [State.drivePin]

@[simp] theorem State.repolarise_memory (old : State) (t : Nat) : (s.repolarise old t).memory = s.memory := by simp [State.repolarise]

@[simp] theorem State.genEnd_memory (t st : Nat) : (s.genEnd t st).memory = s.memory := by simp [State.genEnd]

@[simp] theorem State.armGen_memory (t armF0 now : Nat) : (s.armGen t armF0 now).memory = s.memory := by simp [State.armGen]

@[simp] theorem State.falling_memory (t : Nat) : (s.falling t).memory = s.memory := by simp [State.falling]

@[simp] theorem State.riseAt_memory (t : Nat) (at_ : Int) (width : Nat) : (s.riseAt t at_ width).memory = s.memory := by simp [State.riseAt]

@[simp] theorem State.rising_memory (t : Nat) : (s.rising t).memory = s.memory := by simp [State.rising]

@[simp] theorem State.disarmGen_memory (t : Nat) (coincident : Bool) : (s.disarmGen t coincident).memory = s.memory := by
  simp [State.disarmGen]

@[simp] theorem State.capFlush_memory (t : Nat) : (s.capFlush t).memory = s.memory := by simp [State.capFlush]

@[simp] theorem State.writeTioMode_memory (t v : Nat) : (s.writeTioMode t v).memory = s.memory := by simp [State.writeTioMode]

@[simp] theorem State.setLevelAt_memory (t v : Nat) (at_ : Int) : (s.setLevelAt t v at_).memory = s.memory := by simp [State.setLevelAt]

@[simp] theorem State.setLevel_memory (t v : Nat) : (s.setLevel t v).memory = s.memory := by simp [State.setLevel]

@[simp] theorem State.safeTimeout_memory : s.safeTimeout.memory = s.memory := by simp [State.safeTimeout]

@[simp] theorem State.tioStepped_memory (fwd : Bool) : (s.tioStepped fwd).memory = s.memory := by
  refine State.forEach_memory (fun u t => ?_) _ _
  dsimp only
  repeat' split
  all_goals simp

@[simp] theorem State.tioSuspend_memory : s.tioSuspend.memory = s.memory := by simp [State.tioSuspend]

@[simp] theorem State.tioResume_memory : s.tioResume.memory = s.memory := by simp [State.tioResume]

@[simp] theorem State.capture_memory (c : Nat) (t : Time56) (rising : Bool) : (s.capture c t rising).memory = s.memory := by
  simp [State.capture]

@[simp] theorem State.capRead_memory (c : Nat) : (s.capRead c).2.memory = s.memory := by
  unfold State.capRead
  repeat' split
  all_goals simp

@[simp] theorem State.loadF0Flag_memory (n : Nat) : (s.loadF0Flag n).memory = s.memory := by simp [State.loadF0Flag]

@[simp] theorem State.markCheck_memory (n : Int) : (s.markCheck n).memory = s.memory := by simp [State.markCheck]

@[simp] theorem State.markIn_memory (t : Time56) : (s.markIn t).memory = s.memory := by simp [State.markIn]

@[simp] theorem State.realign_memory : s.realign.memory = s.memory := by simp [State.realign]

@[simp] theorem State.ppsRise_memory : s.ppsRise.memory = s.memory := by simp [State.ppsRise]

@[simp] theorem State.ppsFall_memory : s.ppsFall.memory = s.memory := by
  unfold State.ppsFall
  split <;> rfl

/-! Clocks. -/

@[simp] theorem State.wantFallback_memory (n : Nat) (v : Bool) : (s.wantFallback n v).memory = s.memory := by
  unfold State.wantFallback
  repeat' split
  all_goals rfl

@[simp] theorem State.closeGate_memory (n : Nat) : (s.closeGate n).memory = s.memory := by simp [State.closeGate]

@[simp] theorem State.readyGate_memory (n : Nat) : (s.readyGate n).memory = s.memory := by simp [State.readyGate]

@[simp] theorem State.acquire_memory (n : Nat) (p : Plan) : (s.acquire n p).memory = s.memory := by simp [State.acquire]

@[simp] theorem State.loadPlan_memory (n : Nat) (p : Plan) : (s.loadPlan n p).memory = s.memory := by simp [State.loadPlan]

@[simp] theorem State.tryStep3_memory (n : Nat) : (s.tryStep3 n).memory = s.memory := by simp [State.tryStep3]

@[simp] theorem State.startChange_memory (n : Nat) (p : Plan) : (s.startChange n p).memory = s.memory := by simp [State.startChange]

@[simp] theorem State.pllOff_memory (n : Nat) : (s.pllOff n).memory = s.memory := by simp [State.pllOff]

@[simp] theorem State.groupDown_memory (g : Nat) : (s.groupDown g).memory = s.memory := by simp [State.groupDown]

@[simp] theorem State.pllLocked_memory (n : Nat) : (s.pllLocked n).memory = s.memory := by simp [State.pllLocked]

@[simp] theorem State.acqFail_memory (n : Nat) : (s.acqFail n).memory = s.memory := by simp [State.acqFail]

@[simp] theorem State.opllRefuse_memory (k : Nat) : (s.opllRefuse k).memory = s.memory := by simp [State.opllRefuse]

@[simp] theorem State.outputApply_memory (old : State) (n : Nat) : (s.outputApply old n).memory = s.memory := by simp [State.outputApply]

@[simp] theorem State.opllMaybeOff_memory (k : Nat) : (s.opllMaybeOff k).memory = s.memory := by simp [State.opllMaybeOff]

/-- A change of an OPLL's settings is taken, or the state before it stands (R207). -/
theorem State.opllCommit_memory_cases (old : State) (k : Nat) (mult : Bool) :
    (s.opllCommit old k mult).memory = s.memory ∨ (s.opllCommit old k mult).memory = old.memory := by
  unfold State.opllCommit
  split
  · exact .inr (by simp)
  · refine .inl ?_
    dsimp only
    repeat' split
    all_goals simp

@[simp] theorem State.opllCommit_memory {old : State} (k : Nat) (mult : Bool) (h : old.memory = s.memory) :
    (s.opllCommit old k mult).memory = s.memory :=
  (s.opllCommit_memory_cases old k mult).elim id (·.trans h)

@[simp] theorem State.writeOpllMult_memory (k v : Nat) : (s.writeOpllMult k v).memory = s.memory := by simp [State.writeOpllMult]

@[simp] theorem State.writeClkoutEn_memory (n v : Nat) : (s.writeClkoutEn n v).memory = s.memory := by simp [State.writeClkoutEn]

@[simp] theorem State.writeClkoutDiv_memory (n d std : Nat) : (s.writeClkoutDiv n d std).memory = s.memory := by simp [State.writeClkoutDiv]

@[simp] theorem State.writeClkoutPhase_memory (n v : Nat) : (s.writeClkoutPhase n v).memory = s.memory := by simp [State.writeClkoutPhase]

@[simp] theorem State.writeStepEvery_memory (n v : Nat) : (s.writeStepEvery n v).memory = s.memory := by simp [State.writeStepEvery]

@[simp] theorem State.gateClosed_memory (n : Nat) : (s.gateClosed n).memory = s.memory := by simp [State.gateClosed]

@[simp] theorem State.clkoutOpen_memory (n : Nat) : (s.clkoutOpen n).memory = s.memory := by
  unfold State.clkoutOpen
  dsimp only
  repeat' split
  all_goals simp

@[simp] theorem State.phaseStep_memory (n edges : Nat) : (s.phaseStep n edges).memory = s.memory := by simp [State.phaseStep]

@[simp] theorem State.retune_memory (g mode n : Nat) : (s.retune g mode n).memory = s.memory := by simp [State.retune]

@[simp] theorem State.writeGroupMode_memory (g m v : Nat) : (s.writeGroupMode g m v).memory = s.memory := by simp [State.writeGroupMode]

@[simp] theorem State.refinWindow_memory (ppb : Int) : (s.refinWindow ppb).memory = s.memory := by
  unfold State.refinWindow
  dsimp only
  repeat' split
  all_goals rfl

@[simp] theorem State.clockStart_memory : s.clockStart.memory = s.memory := by simp [State.clockStart]

/-! Lanes. -/

@[simp] theorem State.probePhase_memory (g : Nat) : (s.probePhase g).memory = s.memory := by
  unfold State.probePhase
  dsimp only
  repeat' split
  all_goals simp

@[simp] theorem State.probeResume_memory (g : Nat) : (s.probeResume g).memory = s.memory := by simp [State.probeResume]

@[simp] theorem State.setEthLat_memory (p deskew : Nat) : (s.setEthLat p deskew).memory = s.memory := by simp [State.setEthLat]

@[simp] theorem State.ethLane_memory (n align : Nat) (eq : List Int) : (s.ethLane n align eq).memory = s.memory := by simp [State.ethLane]

@[simp] theorem State.portLock_memory (p : Nat) (aligns : List (BitVec 16)) (deskew : Nat) (eq : List (List Int)) :
    (s.portLock p aligns deskew eq).memory = s.memory := by
  simp [State.portLock]

@[simp] theorem State.adaptOne_memory (n i : Nat) (move : Int) : (s.adaptOne n i move).memory = s.memory := by simp [State.adaptOne]

@[simp] theorem State.adaptUpdate_memory (n : Nat) (moves : List Int) : (s.adaptUpdate n moves).memory = s.memory := by
  simp [State.adaptUpdate]

@[simp] theorem State.monitor_memory (w : Windows) : (s.monitor w).memory = s.memory := by simp [State.monitor]

@[simp] theorem State.degrade_memory (n : Nat) : (s.degrade n).memory = s.memory := by simp [State.degrade]

@[simp] theorem State.takeOut_memory (n : Nat) : (s.takeOut n).memory = s.memory := by simp [State.takeOut]

@[simp] theorem State.eyeSweep_memory (n : Nat) (phases thresholds : List EyeRow) : (s.eyeSweep n phases thresholds).memory = s.memory := by
  simp [State.eyeSweep]

@[simp] theorem State.writeRxEq_memory (n : Nat) (v : Bytes) : (s.writeRxEq n v).memory = s.memory := by simp [State.writeRxEq]

@[simp] theorem State.testChanged_memory (n : Nat) : (s.testChanged n).memory = s.memory := by simp [State.testChanged]

@[simp] theorem State.writeLoop_memory (n v : Nat) : (s.writeLoop n v).memory = s.memory := by simp [State.writeLoop]

@[simp] theorem State.writePrbs_memory (n v : Nat) : (s.writePrbs n v).memory = s.memory := by simp [State.writePrbs]

@[simp] theorem State.loopSlip_memory (m : FifoMove) : (s.loopSlip m).memory = s.memory := by simp [State.loopSlip]

@[simp] theorem State.writeFec_memory (p v : Nat) : (s.writeFec p v).memory = s.memory := by simp [State.writeFec]

end Sys2Proof.Machine
end

section
/-! PROOF. The memories (R390, R438, R446): calibrations, commands, engines, the servo and the exchanges of time leave the memories as they
are. -/

namespace Sys2Proof.Machine

variable {s t : State}

/-! Calibrations. -/

@[simp] theorem State.calBegin_memory (kind inst : Nat) (retry : Bool) : (s.calBegin kind inst retry).memory = s.memory := by
  simp [State.calBegin]

@[simp] theorem State.calAwaitTrain_memory (inst : Nat) : (s.calAwaitTrain inst).memory = s.memory := by simp [State.calAwaitTrain]

@[simp] theorem State.calStart_memory (kind inst : Nat) (quiet : Bool) : (s.calStart kind inst quiet).memory = s.memory := by
  unfold State.calStart
  dsimp only
  repeat' split
  all_goals simp

@[simp] theorem State.calRetry_memory (kind inst : Nat) (quiet : Bool) : (s.calRetry kind inst quiet).memory = s.memory := by
  unfold State.calRetry
  repeat' split
  all_goals simp

@[simp] theorem State.calStorePut_memory (k : Nat) (l : Bytes) : (s.calStorePut k l).memory = s.memory := by simp [State.calStorePut]

@[simp] theorem State.edgeLat_memory (n rx : Nat) : (s.edgeLat n rx).memory = s.memory := by simp [State.edgeLat]

@[simp] theorem State.replaceSlicer_memory (n b rx : Nat) : (s.replaceSlicer n b rx).memory = s.memory := by
  unfold State.replaceSlicer
  dsimp only
  repeat' split
  all_goals simp

@[simp] theorem State.slicerFailed_memory (n b rx : Nat) : (s.slicerFailed n b rx).memory = s.memory := by simp [State.slicerFailed]

@[simp] theorem State.takeSubs_memory (g : Nat) : (s.takeSubs g).memory = s.memory := by simp [State.takeSubs]

@[simp] theorem State.cellFailed_memory (c b : Nat) : (s.cellFailed c b).memory = s.memory := by simp [State.cellFailed]

@[simp] theorem State.spareProc_memory (kind inst : Nat) (v : CalResult) : (s.spareProc kind inst v).memory = s.memory := by
  unfold State.spareProc
  repeat' split
  all_goals simp

@[simp] theorem State.calApply_memory (kind inst : Nat) (v : CalResult) : (s.calApply kind inst v).memory = s.memory := by
  simp [State.calApply]

@[simp] theorem State.calOver_memory (kind inst idle : Nat) : (s.calOver kind inst idle).memory = s.memory := by simp [State.calOver]

@[simp] theorem State.calBoundary_memory (kind inst : Nat) (v : CalResult) : (s.calBoundary kind inst v).memory = s.memory := by
  simp [State.calBoundary]

@[simp] theorem State.calRetrigger_memory (kind inst : Nat) : (s.calRetrigger kind inst).memory = s.memory := by simp [State.calRetrigger]

@[simp] theorem State.calPeriod_memory (kind inst : Nat) : (s.calPeriod kind inst).memory = s.memory := by
  unfold State.calPeriod
  repeat' split
  all_goals simp

@[simp] theorem State.calWarmth_memory (kind inst : Nat) : (s.calWarmth kind inst).memory = s.memory := by simp [State.calWarmth]

@[simp] theorem State.calTemps_memory : s.calTemps.memory = s.memory := by simp [State.calTemps]

@[simp] theorem State.calStatus_memory (kind inst cmd st reason : Nat) : (s.calStatus kind inst cmd st reason).memory = s.memory := by
  simp [State.calStatus]

@[simp] theorem State.calRunCmd_memory (kind inst : Nat) (quiet : Bool) : (s.calRunCmd kind inst quiet).memory = s.memory := by
  simp [State.calRunCmd]

@[simp] theorem State.calAbort_memory (kind inst : Nat) (coincident : Bool) : (s.calAbort kind inst coincident).memory = s.memory := by
  simp [State.calAbort]

@[simp] theorem State.clearDefer_memory (kind inst : Nat) : (s.clearDefer kind inst).memory = s.memory := by simp [State.clearDefer]

@[simp] theorem State.calAbandon_memory (kind inst : Nat) : (s.calAbandon kind inst).memory = s.memory := by simp [State.calAbandon]

@[simp] theorem State.bootSpares_memory (n : Nat) : (s.bootSpares n).memory = s.memory := by
  refine State.forEach_memory (fun u r => ?_) _ _
  repeat' split
  all_goals simp

@[simp] theorem State.calBoot_memory : s.calBoot.memory = s.memory := by simp [State.calBoot]

/-! Fast commands. -/

@[simp] theorem State.setLastSeq_memory (iss : Nat) (v : Option Nat) : (s.setLastSeq iss v).memory = s.memory := by simp [State.setLastSeq]

@[simp] theorem State.queueExec_memory (b : Nat) : (s.queueExec b).memory = s.memory := by simp [State.queueExec]

@[simp] theorem State.queueRelay_memory (p b : Nat) : (s.queueRelay p b).memory = s.memory := by simp [State.queueRelay]

@[simp] theorem State.cmdIn_memory (p : Nat) (b : Body) : (s.cmdIn p b).memory = s.memory := by simp [State.cmdIn]

@[simp] theorem State.launchIssue_memory : s.launchIssue.memory = s.memory := by
  unfold State.launchIssue
  dsimp only
  repeat' split
  all_goals simp

@[simp] theorem State.slot0_memory (p : Nat) : (s.slot0 p).memory = s.memory := by simp [State.slot0]

@[simp] theorem State.cmdIssue_memory (v : Bytes) : (s.cmdIssue v).memory = s.memory := by
  unfold State.cmdIssue
  dsimp only
  repeat' split
  all_goals simp

@[simp] theorem State.takeCmd_memory (b : Body) : (s.takeCmd b).memory = s.memory := by simp [State.takeCmd]

@[simp] theorem State.lateCmd_memory : s.lateCmd.memory = s.memory := by simp [State.lateCmd]

@[simp] theorem State.execFast_memory {b : Body} {op : Nat} {f : Int → State → State} (hf : ∀ e u, (f e u).memory = u.memory) :
    (s.execFast b op f).memory = s.memory := by
  unfold State.execFast
  dsimp only
  repeat' split
  all_goals simp [hf]

@[simp] theorem State.resync_memory (b : Body) : (s.resync b).memory = s.memory := by simp [State.resync]

@[simp] theorem State.pulseCmd_memory (b : Body) (edge : Int) : (s.pulseCmd b edge).memory = s.memory := by simp [State.pulseCmd]

@[simp] theorem State.levelCmd_memory (b : Body) (edge : Int) : (s.levelCmd b edge).memory = s.memory := by simp [State.levelCmd]

@[simp] theorem State.armCmd_memory (b : Body) (edge : Int) : (s.armCmd b edge).memory = s.memory := by simp [State.armCmd]

@[simp] theorem State.stopCmd_memory (b : Body) (edge : Int) : (s.stopCmd b edge).memory = s.memory := by simp [State.stopCmd]

@[simp] theorem State.reservedOp_memory (b : Body) : (s.reservedOp b).memory = s.memory := by simp [State.reservedOp]

/-! Messages that leave. -/

@[simp] theorem State.sendPort_memory (p da : Nat) (tag : Option (BitVec 32)) (m : Bytes) : (s.sendPort p da tag m).memory = s.memory := by
  simp [State.sendPort]

@[simp] theorem State.mbHold_memory (m : Bytes) (note : Bool) : (s.mbHold m note).memory = s.memory := by simp [State.mbHold]

@[simp] theorem State.mbDeliver_memory (m : Bytes) (note : Bool) : (s.mbDeliver m note).memory = s.memory := by simp [State.mbDeliver]

@[simp] theorem State.mbRelease_memory : s.mbRelease.memory = s.memory := by
  unfold State.mbRelease
  dsimp only
  repeat' split
  all_goals simp

@[simp] theorem State.sendPath_memory (path da : Nat) (tag : Option (BitVec 32)) (m : Bytes) :
    (s.sendPath path da tag m).memory = s.memory := by
  simp [State.sendPath]

@[simp] theorem State.nextSeq_memory : s.nextSeq.2.memory = s.memory := by simp [State.nextSeq]

@[simp] theorem State.request_memory (ports : List Nat) (op dst count : Nat) (payload : Bytes) :
    (s.request ports op dst count payload).memory = s.memory := by
  simp [State.request]

/-! Engines and their devices. -/

@[simp] theorem State.setEngState_memory (e v : Nat) : (s.setEngState e v).memory = s.memory := by simp [State.setEngState]

@[simp] theorem State.whenRun_memory {e : Nat} {f : State → State} (hf : ∀ u : State, (f u).memory = u.memory) :
    (s.whenRun e f).memory = s.memory := by
  unfold State.whenRun
  split
  · exact hf s
  · rfl

@[simp] theorem State.retire_memory (e : Nat) : (s.retire e).memory = s.memory := by simp [State.retire]

@[simp] theorem State.instr_memory {e : Nat} {f : State → State} (hf : ∀ u : State, (f u).memory = u.memory) :
    (s.instr e f).memory = s.memory :=
  State.whenRun_memory fun _ => (hf _).trans (State.retire_memory e)

@[simp] theorem State.trapTo_memory (e cause tval : Nat) : (s.trapTo e cause tval).memory = s.memory := by simp [State.trapTo]

@[simp] theorem State.dropTransfers_memory : s.dropTransfers.memory = s.memory := by simp [State.dropTransfers]

@[simp] theorem State.vendorReset_memory (e : Nat) : (s.vendorReset e).memory = s.memory := by simp [State.vendorReset]

@[simp] theorem State.engineReset_memory (e : Nat) : (s.engineReset e).memory = s.memory := by
  have hsem (u : State) (x : Tab Nat) : ({ u with sems := x } : State).memory = u.memory := rfl
  unfold State.engineReset
  dsimp only
  rw [State.irqPresent_memory, State.vendorReset_memory, State.modEng_memory _ _ rfl rfl]
  split
  · rw [State.tdmaStop_memory, hsem]
    split <;> simp
  · rw [hsem]
    split <;> simp

@[simp] theorem State.engineFault_memory (e cause : Nat) : (s.engineFault e cause).memory = s.memory := by simp [State.engineFault]

@[simp] theorem State.engTrap_memory (e : Nat) (v : EngEvent) : (s.engTrap e v).memory = s.memory := by
  unfold State.engTrap
  repeat' split
  all_goals simp

@[simp] theorem State.userPop_memory (e : Nat) : (s.userPop e).memory = s.memory := by
  unfold State.userPop
  repeat' split
  all_goals simp

@[simp] theorem State.userPush_memory (e arg t : Nat) : (s.userPush e arg t).memory = s.memory := by simp [State.userPush]

@[simp] theorem State.setHostEn_memory (w v : Nat) : (s.setHostEn w v).memory = s.memory := by simp [State.setHostEn]

@[simp] theorem State.startEngine_memory (e : Nat) : (s.startEngine e).memory = s.memory := by simp [State.startEngine]

@[simp] theorem State.userStatus_memory (e cmd st reason : Nat) : (s.userStatus e cmd st reason).memory = s.memory := by
  simp [State.userStatus]

@[simp] theorem State.userStart_memory (e : Nat) : (s.userStart e).memory = s.memory := by simp [State.userStart]

@[simp] theorem State.userStop_memory (e : Nat) : (s.userStop e).memory = s.memory := by simp [State.userStop]

@[simp] theorem State.userCmdOther_memory (e code : Nat) : (s.userCmdOther e code).memory = s.memory := by simp [State.userCmdOther]

@[simp] theorem State.writeImage_memory (e : Nat) (v : Bytes) : (s.writeImage e v).memory = s.memory := by simp [State.writeImage]

@[simp] theorem State.engScrub_memory (place : EngMem) (f : ScrubFinding) : (s.engScrub place f).memory = s.memory := by
  unfold State.engScrub
  repeat' split
  all_goals simp

@[simp] theorem State.doorbell_memory (v : Nat) : (s.doorbell v).memory = s.memory := by simp [State.doorbell]

@[simp] theorem State.swiSet_memory (k : Nat) : (s.swiSet k).memory = s.memory := by simp [State.swiSet]

@[simp] theorem State.semRead_memory (r k : Nat) : (s.semRead r k).memory = s.memory := by
  unfold State.semRead
  repeat' split
  all_goals rfl

@[simp] theorem State.semWrite_memory (r k v : Nat) : (s.semWrite r k v).memory = s.memory := by
  unfold State.semWrite
  split <;> rfl

@[simp] theorem State.writeSharedCfg_memory (v : Bytes) : (s.writeSharedCfg v).memory = s.memory := by simp [State.writeSharedCfg]

@[simp] theorem State.extirq_memory (i : Nat) (level : Bool) : (s.extirq i level).memory = s.memory := by simp [State.extirq]

/-! Snapshots. -/

@[simp] theorem State.clearCounters_memory : s.clearCounters.memory = s.memory := by simp [State.clearCounters]

@[simp] theorem State.modSnap_memory (f : Snap → Snap) : (s.modSnap f).memory = s.memory := (rfl)

@[simp] theorem State.takeSnap_memory (source tag : Nat) : (s.takeSnap source tag).memory = s.memory := by
  unfold State.takeSnap
  dsimp only
  repeat' split
  all_goals simp

@[simp] theorem State.snapStepped_memory : s.snapStepped.memory = s.memory := by simp [State.snapStepped]

/-! The servo. -/

@[simp] theorem State.updateBound_memory : s.updateBound.memory = s.memory := by simp [State.updateBound]

@[simp] theorem State.noteBound_memory : s.noteBound.memory = s.memory := by simp [State.noteBound]

@[simp] theorem State.enterTrack_memory (theta : Int) : (s.enterTrack theta).memory = s.memory := by simp [State.enterTrack]

@[simp] theorem State.enterHoldover_memory : s.enterHoldover.memory = s.memory := by simp [State.enterHoldover]

@[simp] theorem State.toFree_memory : s.toFree.memory = s.memory := by simp [State.toFree]

@[simp] theorem State.reepoch_memory : s.reepoch.memory = s.memory := by simp [State.reepoch]

@[simp] theorem State.computeStep_memory : s.computeStep.memory = s.memory := by simp [State.computeStep]

@[simp] theorem State.shareDone_memory : s.shareDone.memory = s.memory := by simp [State.shareDone]

@[simp] theorem State.acceptDone_memory : s.acceptDone.memory = s.memory := by simp [State.acceptDone]

@[simp] theorem State.conditioner_memory : s.conditioner.memory = s.memory := by simp [State.conditioner]

@[simp] theorem State.stepSums_memory (d : Int) : (s.stepSums d).memory = s.memory := by simp [State.stepSums]

@[simp] theorem State.stepCommit_memory : s.stepCommit.memory = s.memory := by simp [State.stepCommit]

@[simp] theorem State.acquired_memory : s.acquired.memory = s.memory := by simp [State.acquired]

@[simp] theorem State.switchTo_memory (q : Nat) : (s.switchTo q).memory = s.memory := by simp [State.switchTo]

@[simp] theorem State.markLost_memory (q : Nat) : (s.markLost q).memory = s.memory := by simp [State.markLost]

@[simp] theorem State.loseSource_memory (alt : Nat) (wasFrozen : Bool) : (s.loseSource alt wasFrozen).memory = s.memory := by
  unfold State.loseSource
  repeat' split
  all_goals simp

@[simp] theorem State.reselectAlt_memory : s.reselectAlt.memory = s.memory := by simp [State.reselectAlt]

@[simp] theorem State.sourceLost_memory : s.sourceLost.memory = s.memory := by simp [State.sourceLost]

@[simp] theorem State.select_memory : s.select.memory = s.memory := by simp [State.select]

@[simp] theorem State.qualStart_memory (theta : Int) : (s.qualStart theta).memory = s.memory := by simp [State.qualStart]

@[simp] theorem State.qualStep_memory (theta : Int) : (s.qualStep theta).memory = s.memory := by simp [State.qualStep]

@[simp] theorem State.refJumped_memory (theta : Int) : (s.refJumped theta).memory = s.memory := by simp [State.refJumped]

@[simp] theorem State.policyWritten_memory : s.policyWritten.memory = s.memory := by simp [State.policyWritten]

@[simp] theorem State.masterJump_memory : s.masterJump.memory = s.memory := by simp [State.masterJump]

@[simp] theorem State.servoTheta_memory (theta : Int) (stepped beyond : Bool) : (s.servoTheta theta stepped beyond).memory = s.memory := by
  unfold State.servoTheta
  dsimp only
  repeat' split
  all_goals simp

@[simp] theorem State.qualShort_memory : s.qualShort.memory = s.memory := by simp [State.qualShort]

@[simp] theorem State.qualLong_memory : s.qualLong.memory = s.memory := by simp [State.qualLong]

@[simp] theorem State.cmdReepoch_memory : s.cmdReepoch.memory = s.memory := by simp [State.cmdReepoch]

@[simp] theorem State.abortAcq_memory (coincident : Bool) : (s.abortAcq coincident).memory = s.memory := by
  unfold State.abortAcq
  repeat' split
  all_goals simp

@[simp] theorem State.accept_memory : s.accept.memory = s.memory := by simp [State.accept]

@[simp] theorem State.hearthCmdOther_memory (code : Nat) : (s.hearthCmdOther code).memory = s.memory := by simp [State.hearthCmdOther]

@[simp] theorem State.takeOffset_memory : s.takeOffset.memory = s.memory := by simp [State.takeOffset]

@[simp] theorem State.steer_memory (input : Int) : (s.steer input).memory = s.memory := by simp [State.steer]

@[simp] theorem State.watchSlope_memory (input : Option Int) : (s.watchSlope input).memory = s.memory := by
  unfold State.watchSlope
  repeat' split
  all_goals simp

@[simp] theorem State.loopRun_memory (input : Option Int) : (s.loopRun input).memory = s.memory := by simp [State.loopRun]

@[simp] theorem State.switchWaiting_memory : s.switchWaiting.memory = s.memory := by
  unfold State.switchWaiting
  dsimp only
  repeat' split
  all_goals simp

@[simp] theorem State.servoRun_memory : s.servoRun.memory = s.memory := by simp [State.servoRun]

@[simp] theorem State.sourceRevert_memory : s.sourceRevert.memory = s.memory := by simp [State.sourceRevert]

/-! Delay and asymmetry. -/

@[simp] theorem State.takeExchange_memory (p : Nat) (delta theta : Int) : (s.takeExchange p delta theta).memory = s.memory := by
  simp [State.takeExchange]

@[simp] theorem State.routeChange_memory (p : Nat) (dnew before : Int) (returned : Bool) :
    (s.routeChange p dnew before returned).memory = s.memory := by
  simp [State.routeChange]

@[simp] theorem State.settleRoute_memory (p : Nat) : (s.settleRoute p).memory = s.memory := by simp [State.settleRoute]

@[simp] theorem State.addRoute_memory (p : Nat) (u : Int) : (s.addRoute p u).memory = s.memory := by simp [State.addRoute]

@[simp] theorem State.applyForward_memory (p : Nat) : (s.applyForward p).memory = s.memory := by simp [State.applyForward]

@[simp] theorem State.holdExpire_memory (p : Nat) : (s.holdExpire p).memory = s.memory := by
  unfold State.holdExpire
  repeat' split
  all_goals simp

@[simp] theorem State.judgeReturn_memory (p : Nat) (mean : Int) : (s.judgeReturn p mean).memory = s.memory := by
  unfold State.judgeReturn
  dsimp only
  repeat' split
  all_goals simp

@[simp] theorem State.firstMeasure_memory (p : Nat) (delta theta : Int) : (s.firstMeasure p delta theta).memory = s.memory := by
  unfold State.firstMeasure
  dsimp only
  repeat' split
  all_goals simp

@[simp] theorem State.dropCand_memory (p : Nat) : (s.dropCand p).memory = s.memory := by
  unfold State.dropCand
  dsimp only
  repeat' split
  all_goals simp

@[simp] theorem State.passTheta_memory (p : Nat) (theta : Int) (stepped beyond : Bool) :
    (s.passTheta p theta stepped beyond).memory = s.memory := by
  simp [State.passTheta]

@[simp] theorem State.judgeFresh_memory (p : Nat) (delta theta : Int) : (s.judgeFresh p delta theta).memory = s.memory := by
  unfold State.judgeFresh
  dsimp only
  repeat' split
  all_goals simp

@[simp] theorem State.confirmTheta_memory (p : Nat) (delta theta res : Int) : (s.confirmTheta p delta theta res).memory = s.memory := by
  simp [State.confirmTheta]

@[simp] theorem State.confirmRoute_memory (p : Nat) (delta theta : Int) : (s.confirmRoute p delta theta).memory = s.memory := by
  simp [State.confirmRoute]

@[simp] theorem State.classify_memory (p : Nat) (delta theta : Int) : (s.classify p delta theta).memory = s.memory := by
  unfold State.classify
  dsimp only
  repeat' split
  all_goals simp

@[simp] theorem State.exchange_memory (p n : Nat) (fwd back : Int) : (s.exchange p n fwd back).memory = s.memory := by simp [State.exchange]

@[simp] theorem State.respIn_memory (p : Nat) (b : Body) (arrival : Arrival) : (s.respIn p b arrival).memory = s.memory := by
  unfold State.respIn
  dsimp only
  repeat' split
  all_goals simp

@[simp] theorem State.skewTheta_memory (p n : Nat) (e : SkewEx) : (s.skewTheta p n e).2.memory = s.memory := by simp [State.skewTheta]

@[simp] theorem State.skewSum_memory (p n : Nat) (l : List SkewEx) (a : Int) : (s.skewSum p n l a).2.memory = s.memory := by
  induction l generalizing s a with
  | nil => rfl
  | cons e l ih => simp [State.skewSum, ih]

@[simp] theorem State.skewMeans_memory (p i : Nat) (l : List (List SkewEx)) : (s.skewMeans p i l).2.memory = s.memory := by
  induction l generalizing s i with
  | nil => rfl
  | cons e l ih => simp [State.skewMeans, ih]

@[simp] theorem State.skewDone_memory (p : Nat) (ex : List (List SkewEx)) : (s.skewDone p ex).memory = s.memory := by simp [State.skewDone]

@[simp] theorem State.calMoved_memory (m : Int) : (s.calMoved m).memory = s.memory := by
  unfold State.calMoved
  dsimp only
  repeat' split
  all_goals simp

@[simp] theorem State.takeAsym_memory (p : Nat) : (s.takeAsym p).memory = s.memory := by simp [State.takeAsym]

@[simp] theorem State.timePacket_memory : s.timePacket.memory = s.memory := by simp [State.timePacket]

@[simp] theorem State.servoUpdate_memory : s.servoUpdate.memory = s.memory := by simp [State.servoUpdate]

@[simp] theorem State.rangeFail_memory (p reason : Nat) : (s.rangeFail p reason).memory = s.memory := by simp [State.rangeFail]

@[simp] theorem State.dgdRun_memory (a b : Nat) (l : List (LineTime × LineTime)) : (s.dgdRun a b l).1.memory = s.memory := by
  induction l generalizing s with
  | nil => rfl
  | cons r l ih => simp [State.dgdRun, ih]

@[simp] theorem State.deriveRange_memory (p : Nat) (dgd : Int) : (s.deriveRange p dgd).memory = s.memory := by
  unfold State.deriveRange
  dsimp only
  repeat' split
  all_goals simp

@[simp] theorem State.dgdAverage_memory (p : Nat) (rounds : List (LineTime × LineTime)) : (s.dgdAverage p rounds).memory = s.memory := by
  simp [State.dgdAverage]

@[simp] theorem State.routeStatus_memory (p cmd st : Nat) : (s.routeStatus p cmd st).memory = s.memory := by simp [State.routeStatus]

@[simp] theorem State.cmdSplit_memory (p : Nat) : (s.cmdSplit p).memory = s.memory := by simp [State.cmdSplit]

@[simp] theorem State.cmdForward_memory (p : Nat) : (s.cmdForward p).memory = s.memory := by simp [State.cmdForward]

@[simp] theorem State.cmdResume_memory (p : Nat) : (s.cmdResume p).memory = s.memory := by simp [State.cmdResume]

@[simp] theorem State.cmdRouteAbort_memory (p : Nat) (coincident : Bool) : (s.cmdRouteAbort p coincident).memory = s.memory := by
  simp [State.cmdRouteAbort]

@[simp] theorem State.cmdRouteOther_memory (p code : Nat) : (s.cmdRouteOther p code).memory = s.memory := by simp [State.cmdRouteOther]

@[simp] theorem State.setExtCand_memory (l : List Int) : (s.setExtCand l).memory = s.memory := by simp [State.setExtCand]

@[simp] theorem State.extFresh_memory (theta : Int) (res : Option Int) : (s.extFresh theta res).memory = s.memory := by
  unfold State.extFresh
  repeat' split
  all_goals simp

@[simp] theorem State.extClassify_memory (theta : Int) : (s.extClassify theta).memory = s.memory := by
  unfold State.extClassify
  dsimp only
  repeat' split
  all_goals simp

@[simp] theorem State.ppsIn_memory (t : Time56) : (s.ppsIn t).memory = s.memory := by simp [State.ppsIn]

@[simp] theorem State.ptpEmit_memory (p kind : Nat) (fields : List Nat) : (s.ptpEmit p kind fields).memory = s.memory := by
  simp [State.ptpEmit]

@[simp] theorem State.ptpNext_memory (p : Nat) : (s.ptpNext p).memory = s.memory := by simp [State.ptpNext]

@[simp] theorem State.ptpSync_memory (p : Nat) : (s.ptpSync p).memory = s.memory := by simp [State.ptpSync]

@[simp] theorem State.ptpAnnounce_memory (p : Nat) : (s.ptpAnnounce p).memory = s.memory := by simp [State.ptpAnnounce]

@[simp] theorem State.ptpDelayReq_memory (p : Nat) : (s.ptpDelayReq p).memory = s.memory := by simp [State.ptpDelayReq]

@[simp] theorem State.ptpT1_memory (p origin : Nat) (correction : Int) (arrival : Time56) :
    (s.ptpT1 p origin correction arrival).memory = s.memory := by
  simp [State.ptpT1]

@[simp] theorem State.ptpMaster_memory (p master : Nat) : (s.ptpMaster p master).memory = s.memory := by simp [State.ptpMaster]

@[simp] theorem State.ptpAnnounced_memory (p : Nat) (m : PtpMsg) : (s.ptpAnnounced p m).memory = s.memory := by simp [State.ptpAnnounced]

@[simp] theorem State.ptpExchange_memory (p t1 t2 t3 : Nat) (diff : Int) (m : PtpMsg) :
    (s.ptpExchange p t1 t2 t3 diff m).memory = s.memory := by
  simp [State.ptpExchange]

@[simp] theorem State.ptpIn_memory (p : Nat) (m : PtpMsg) (time : Time56) : (s.ptpIn p m time).memory = s.memory := by
  unfold State.ptpIn
  dsimp only
  repeat' split
  all_goals simp

end Sys2Proof.Machine
end

section
/-! PROOF. The memories (R390, R438, R446): the hierarchy, twins, observation, and what the dictionary and the Falri service do beside the
writes of memories, leave them as they are. -/

namespace Sys2Proof.Machine

variable {s t : State}

/-! The hierarchy. -/

@[simp] theorem State.pollPort_memory (p : Nat) (a : Option Bytes) : (s.pollPort p a).memory = s.memory := by simp [State.pollPort]

@[simp] theorem State.pollAll_memory (answered : Nat) (ps : List Nat) (l : List Bytes) :
    (s.pollAll answered ps l).memory = s.memory := by
  induction ps generalizing s l with
  | nil => rfl
  | cons p ps ih =>
    unfold State.pollAll
    repeat' split
    all_goals simp [ih]

@[simp] theorem State.setRank_memory (r : Nat) : (s.setRank r).memory = s.memory := by simp [State.setRank]

@[simp] theorem State.adopt_memory (k : Nat) : (s.adopt k).memory = s.memory := by simp [State.adopt]

@[simp] theorem State.rerank_memory : s.rerank.memory = s.memory := by simp [State.rerank]

@[simp] theorem State.epDelete_memory (key : Nat) : (s.epDelete key).memory = s.memory := by
  unfold State.epDelete
  repeat' split
  all_goals simp

@[simp] theorem State.epSync_memory (old v e : Nat) : (s.epSync old v e).memory = s.memory := by
  have h1 : (if bit old 31 ∧ (¬ bit v 31 ∨ epKey old e ≠ epKey v e) then s.epDelete (epKey old e) else s).memory = s.memory := by
    split <;> simp
  unfold State.epSync
  dsimp only
  generalize (if bit old 31 ∧ (¬ bit v 31 ∨ epKey old e ≠ epKey v e) then s.epDelete (epKey old e) else s) = u at h1 ⊢
  rw [← h1]
  refine State.memory_of_ite rfl (State.memory_of_ite (by simp) ?_)
  split
  · simp
  split
  · split <;> simp
  · split
    next h => simpa using State.emPlace_eq_memory h
    next h => simpa using State.emPlace_eq_memory h

@[simp] theorem State.regSync_memory (old : Tab Nat) : (s.regSync old).memory = s.memory := by simp [State.regSync]

@[simp] theorem State.setRegistry_memory (v : Bytes) : (s.setRegistry v).memory = s.memory := by simp [State.setRegistry]

@[simp] theorem State.maybeFetch_memory : s.maybeFetch.memory = s.memory := by
  unfold State.maybeFetch
  dsimp only
  repeat' split
  all_goals simp

@[simp] theorem State.noteAlone_memory : s.noteAlone.memory = s.memory := by simp [State.noteAlone]

@[simp] theorem State.neighbourPoll_memory (answered : Nat) (adverts : List Bytes) :
    (s.neighbourPoll answered adverts).memory = s.memory := by
  simp [State.neighbourPoll]

@[simp] theorem State.registryFetched_memory (v : Bytes) : (s.registryFetched v).memory = s.memory := by simp [State.registryFetched]

@[simp] theorem State.provRoot_memory : s.provRoot.memory = s.memory := by simp [State.provRoot]

@[simp] theorem State.discoverSend_memory : s.discoverSend.memory = s.memory := by simp [State.discoverSend]

@[simp] theorem State.assignFor_memory (serial : Nat) : (s.assignFor serial).memory = s.memory := by
  unfold State.assignFor
  split
  · simp
  · rw [State.request_memory, State.modHier_memory]

@[simp] theorem State.discovered_memory (serial dev : Nat) : (s.discovered serial dev).memory = s.memory := by simp [State.discovered]

@[simp] theorem State.setDevPort_memory (d p : Nat) : (s.setDevPort d p).memory = s.memory := by simp [State.setDevPort]

@[simp] theorem State.learnDev_memory (path src : Nat) : (s.learnDev path src).memory = s.memory := by simp [State.learnDev]

@[simp] theorem State.takeId_memory (d : Nat) : (s.takeId d).memory = s.memory := by simp [State.takeId]

/-! Observation. -/

@[simp] theorem State.snapArm_memory : s.snapArm.memory = s.memory := by simp [State.snapArm]

@[simp] theorem State.toSnapEdge_memory : s.toSnapEdge.memory = s.memory := by simp [State.toSnapEdge]

@[simp] theorem State.snapCancel_memory (coincident : Bool) : (s.snapCancel coincident).memory = s.memory := by simp [State.snapCancel]

@[simp] theorem State.snapOther_memory (code : Nat) : (s.snapOther code).memory = s.memory := by simp [State.snapOther]

@[simp] theorem State.snapComplete_memory : s.snapComplete.memory = s.memory := by
  unfold State.snapComplete
  dsimp only
  repeat' split
  all_goals simp

@[simp] theorem State.preciseSample_memory (e : Nat) (v : Sample) : (s.preciseSample e v).memory = s.memory := by simp [State.preciseSample]

@[simp] theorem State.sampleRead_memory (e : Nat) : (s.sampleRead e).2.memory = s.memory := by simp [State.sampleRead]

@[simp] theorem State.lanternSend_memory : s.lanternSend.memory = s.memory := by
  unfold State.lanternSend
  repeat' split
  all_goals rfl

@[simp] theorem State.setIr_memory (ir : Nat) : (s.setIr ir).memory = s.memory := (rfl)

@[simp] theorem State.jtagBypass_memory : s.jtagBypass.memory = s.memory := by simp [State.jtagBypass]

@[simp] theorem State.jtagTest_memory (ir : Nat) (rstLow drives : Bool) : (s.jtagTest ir rstLow drives).memory = s.memory := by
  simp [State.jtagTest]

/-! Twins. -/

@[simp] theorem State.hbSend_memory : s.hbSend.memory = s.memory := by
  unfold State.hbSend
  dsimp only
  repeat' split
  all_goals simp

@[simp] theorem State.becomeActive_memory : s.becomeActive.memory = s.memory := by simp [State.becomeActive]

@[simp] theorem State.twinTo_memory (st : Nat) : (s.twinTo st).memory = s.memory := by simp [State.twinTo]

@[simp] theorem State.becomeSyncing_memory : s.becomeSyncing.memory = s.memory := by simp [State.becomeSyncing]

@[simp] theorem State.twinBoot_memory : s.twinBoot.memory = s.memory := by simp [State.twinBoot]

@[simp] theorem State.epochFinish_memory : s.epochFinish.memory = s.memory := by simp [State.epochFinish]

@[simp] theorem State.epochBegin_memory : s.epochBegin.memory = s.memory := by simp [State.epochBegin]

@[simp] theorem State.epochSend_memory : s.epochSend.memory = s.memory := by simp [State.epochSend]

@[simp] theorem State.sharedWritten_memory (index type : Nat) (v : Bytes) : (s.sharedWritten index type v).memory = s.memory := by
  simp [State.sharedWritten]

@[simp] theorem State.sharedApply_memory (r : Nat × Nat × Nat × Bytes) : (s.sharedApply r).memory = s.memory := by
  simp [State.sharedApply]

@[simp] theorem State.journalRun_memory (n : Nat) : (s.journalRun n).memory = s.memory := by
  induction n generalizing s with
  | zero => rfl
  | succ n ih =>
    unfold State.journalRun
    dsimp only
    split
    · rfl
    · simp [ih]

@[simp] theorem State.journalIn_memory (v : Bytes) : (s.journalIn v).memory = s.memory := by simp [State.journalIn]

@[simp] theorem State.epochCommit_memory : s.epochCommit.memory = s.memory := by simp [State.epochCommit]

@[simp] theorem State.renewalIn_memory (q : Nat) : (s.renewalIn q).memory = s.memory := by simp [State.renewalIn]

@[simp] theorem State.ackIn_memory (q : Nat) : (s.ackIn q).memory = s.memory := by
  unfold State.ackIn
  dsimp only
  repeat' split
  all_goals simp

@[simp] theorem State.hbAct_memory (role : Nat) (b : Body) (first : Option Bool) : (s.hbAct role b first).memory = s.memory := by
  unfold State.hbAct
  dsimp only
  repeat' split
  all_goals simp

@[simp] theorem State.hbIn_memory (pins : Bool) (b : Body) (first : Option Bool) : (s.hbIn pins b first).memory = s.memory := by
  simp [State.hbIn]

@[simp] theorem State.pathDegraded_memory (pins : Bool) : (s.pathDegraded pins).memory = s.memory := by simp [State.pathDegraded]

@[simp] theorem State.leaseExpire_memory : s.leaseExpire.memory = s.memory := by simp [State.leaseExpire]

@[simp] theorem State.takeover_memory : s.takeover.memory = s.memory := by simp [State.takeover]

@[simp] theorem State.startingEnds_memory : s.startingEnds.memory = s.memory := by simp [State.startingEnds]

@[simp] theorem State.twinRefuse_memory (cmd reason : Nat) : (s.twinRefuse cmd reason).memory = s.memory := by simp [State.twinRefuse]

@[simp] theorem State.twinClaim_memory : s.twinClaim.memory = s.memory := by simp [State.twinClaim]

@[simp] theorem State.twinHandover_memory : s.twinHandover.memory = s.memory := by simp [State.twinHandover]

@[simp] theorem State.handoverTimeout_memory : s.handoverTimeout.memory = s.memory := by simp [State.handoverTimeout]

@[simp] theorem State.abortCopy_memory (coincident : Bool) : (s.abortCopy coincident).memory = s.memory := by simp [State.abortCopy]

@[simp] theorem State.twinCmdOther_memory (code : Nat) : (s.twinCmdOther code).memory = s.memory := by simp [State.twinCmdOther]

/-! Reads. -/

@[simp] theorem State.readClears_memory (o : Obj) (sub : Nat) : (s.readClears o sub).memory = s.memory := by simp [State.readClears]

/-! The configuration store. -/

@[simp] theorem State.freeBytes_memory (n : Nat) : (s.freeBytes n).2.memory = s.memory := (rfl)

@[simp] theorem State.endJob_memory : s.endJob.memory = s.memory := by simp [State.endJob]

@[simp] theorem State.eraseDone_memory : s.eraseDone.memory = s.memory := by simp [State.eraseDone]

@[simp] theorem State.cfgOther_memory (code : Nat) : (s.cfgOther code).memory = s.memory := by simp [State.cfgOther]

/-! Writes of the dictionary. -/

@[simp] theorem State.rawSet_memory (o : Obj) (sub : Nat) (v : Bytes) : (s.rawSet o sub v).memory = s.memory := by simp [State.rawSet]

@[simp] theorem State.noteOpll_memory (fin : State) (i : FalriItem) (st : Nat) : (s.noteOpll fin i st).memory = s.memory := by
  unfold State.noteOpll
  repeat' split
  all_goals simp

@[simp] theorem State.setSession_memory (x : Nat) : (s.setSession x).memory = s.memory := by simp [State.setSession]

@[simp] theorem State.tioCmd_memory (n x : Nat) : (s.tioCmd n x).memory = s.memory := by
  unfold State.tioCmd
  repeat' split
  all_goals simp

@[simp] theorem State.calCmd_memory (x : Nat) : (s.calCmd x).memory = s.memory := by
  unfold State.calCmd
  dsimp only
  repeat' split
  all_goals simp

@[simp] theorem State.writeRegistry_memory (v : Bytes) : (s.writeRegistry v).memory = s.memory := by simp [State.writeRegistry]

@[simp] theorem State.writeValue_memory (o : Obj) (sub : Nat) (v : Bytes) : (s.writeValue o sub v).memory = s.memory := by
  unfold State.writeValue
  dsimp only
  repeat' split
  all_goals simp

@[simp] theorem State.hearthCmd_memory (x : Nat) : (s.hearthCmd x).memory = s.memory := by
  unfold State.hearthCmd
  repeat' split
  all_goals simp

@[simp] theorem State.noteItems_memory (items : List FalriItem) (sts : List Nat) : (s.noteItems items sts).memory = s.memory := by
  unfold State.noteItems
  dsimp only
  generalize items.foldl State.stageItem s = fin
  induction items.zip sts generalizing s with
  | nil => rfl
  | cons x xs ih => exact (ih).trans (State.noteOpll_memory _ _ _)

@[simp] theorem State.denied_memory (path : Nat) : (s.denied path).memory = s.memory := by simp [State.denied]

@[simp] theorem State.winStatus_memory (e st : Nat) : (s.winStatus e st).memory = s.memory := by simp [State.winStatus]

@[simp] theorem State.readAt_memory (index sub : Nat) : (s.readAt index sub).2.2.memory = s.memory := by
  unfold State.readAt
  repeat' split
  all_goals simp

@[simp] theorem State.windowLoad_memory (e a : Nat) : (s.windowLoad e a).memory = s.memory := by
  unfold State.windowLoad
  obtain ⟨i, j, w⟩ := windowAt a
  have hr := s.readAt_memory i j
  obtain ⟨st, v, t⟩ := s.readAt i j
  refine State.memory_of_ite (by simp) (State.memory_of_ite (by simp) (State.memory_of_ite (by simp) (State.memory_of_ite (by simp) ?_)))
  rw [State.emit_memory, State.modEng_memory _ _ rfl rfl]
  exact hr

/-! The Falri service. -/

@[simp] theorem State.readItems_memory (room : Nat) (full : Bool) (l : List FalriItem) :
    (s.readItems room full l).2.2.memory = s.memory := by
  induction l generalizing s room full with
  | nil => rfl
  | cons i l ih =>
    unfold State.readItems
    dsimp only
    repeat' split
    all_goals simp [ih]

@[simp] theorem State.serveRead_memory (items : List FalriItem) : (s.serveRead items).2.memory = s.memory := by simp [State.serveRead]

@[simp] theorem State.useBuf_memory (path src key : Nat) (data : Bytes) : (s.useBuf path src key data).memory = s.memory := by
  simp [State.useBuf]

@[simp] theorem State.blockReadBlob_memory (path src : Nat) (o : Obj) (sub : Nat) (p : Bytes) :
    (s.blockReadBlob path src o sub p).2.memory = s.memory := by
  unfold State.blockReadBlob
  dsimp only
  repeat' split
  all_goals simp

@[simp] theorem State.serveBlockRead_memory (path src : Nat) (p : Bytes) : (s.serveBlockRead path src p).2.memory = s.memory := by
  unfold State.serveBlockRead
  dsimp only
  repeat' split
  all_goals simp

@[simp] theorem State.setStaging_memory (path src : Nat) (g : Option Staging) : (s.setStaging path src g).memory = s.memory := by
  simp [State.setStaging]

@[simp] theorem State.forgetLost_memory (path src : Nat) : (s.forgetLost path src).memory = s.memory := by simp [State.forgetLost]

@[simp] theorem State.serveAssign_memory (may : Bool) (path : Nat) (p : Bytes) : (s.serveAssign may path p).2.memory = s.memory := by
  simp [State.serveAssign]

@[simp] theorem State.serveDenied_memory (path : Nat) (m : Msg) : (s.serveDenied path m).2.memory = s.memory := by
  unfold State.serveDenied
  dsimp only
  split <;> rw [State.keeping_memory] <;> repeat' split
  all_goals simp

@[simp] theorem State.answer_memory (path : Path) (hdr : FalriHdr) (m : Msg) (r : Reply) : (s.answer path hdr m r).memory = s.memory := by
  simp [State.answer]

@[simp] theorem State.relayAll_memory (path : Nat) (m : Msg) : (s.relayAll path m).memory = s.memory := by simp [State.relayAll]

@[simp] theorem State.addProxy_memory (path : Nat) (hdr : FalriHdr) (m : Msg) : (s.addProxy path hdr m).memory = s.memory := by
  simp [State.addProxy]

@[simp] theorem State.relayDevice_memory (path : Nat) (hdr : FalriHdr) (m : Msg) (record : Bool) :
    (s.relayDevice path hdr m record).memory = s.memory := by
  unfold State.relayDevice
  dsimp only
  repeat' split
  all_goals simp

@[simp] theorem State.forwardOn_memory (path : Nat) (hdr : FalriHdr) (m : Msg) (record : Bool) :
    (s.forwardOn path hdr m record).memory = s.memory := by
  unfold State.forwardOn
  dsimp only
  repeat' split
  all_goals simp

@[simp] theorem State.responseIn_memory (path : Nat) (hdr : FalriHdr) (m : Msg) : (s.responseIn path hdr m).memory = s.memory := by
  unfold State.responseIn
  repeat' split
  all_goals simp

@[simp] theorem State.notifyIn_memory (path : Nat) (hdr : FalriHdr) (m : Msg) : (s.notifyIn path hdr m).memory = s.memory := by
  simp [State.notifyIn]

@[simp] theorem State.discardMsg_memory (path : Nat) : (s.discardMsg path).memory = s.memory := by simp [State.discardMsg]

@[simp] theorem State.discoverAnswer_memory (hdr : FalriHdr) : (s.discoverAnswer hdr).memory = s.memory := by
  unfold State.discoverAnswer
  dsimp only
  repeat' split
  all_goals simp

@[simp] theorem State.notifySend_memory (index sub : Nat) : (s.notifySend index sub).memory = s.memory := by
  unfold State.notifySend
  dsimp only
  repeat' split
  all_goals simp

@[simp] theorem State.enumerate_memory : s.enumerate.memory = s.memory := by simp [State.enumerate]

@[simp] theorem State.enumFrame_memory (v : Nat) : (s.enumFrame v).memory = s.memory := by simp [State.enumFrame]

/-! First light. -/

@[simp] theorem State.hearthStart_memory : s.hearthStart.memory = s.memory := by simp [State.hearthStart]

@[simp] theorem State.idle_memory : s.idle.memory = s.memory := by simp [State.idle]

/-! Temperature and power. -/

@[simp] theorem State.takeTemp_memory (i : Nat) (t : Int) : (s.takeTemp i t).memory = s.memory := by simp [State.takeTemp]

@[simp] theorem State.idleLanes_memory (l : List Nat) : (s.idleLanes l).memory = s.memory := by simp [State.idleLanes]

@[simp] theorem State.wakeLanes_memory : s.wakeLanes.memory = s.memory := by simp [State.wakeLanes]

@[simp] theorem State.enterShed_memory : s.enterShed.memory = s.memory := by simp [State.enterShed]

@[simp] theorem State.enterCrit_memory : s.enterCrit.memory = s.memory := by simp [State.enterCrit]

@[simp] theorem State.critCheck_memory : s.critCheck.memory = s.memory := by
  unfold State.critCheck
  repeat' split
  all_goals simp

@[simp] theorem State.tempSample_memory (l : List Int) : (s.tempSample l).memory = s.memory := by
  have h1 : (forEach (List.range 9) (fun s i => match l[i]? with | some t => s.takeTemp i t | none => s) s).memory = s.memory := by
    refine State.forEach_memory (fun u i => ?_) _ _
    split <;> simp
  unfold State.tempSample
  dsimp only
  generalize forEach _ _ s = u at h1 ⊢
  rw [← h1]
  split <;> simp

@[simp] theorem State.lowPass_memory : s.lowPass.memory = s.memory := by simp [State.lowPass]

@[simp] theorem State.admitLoop_memory (pred : Int) : (s.admitLoop pred).memory = s.memory := by simp [State.admitLoop]

@[simp] theorem State.govFree_memory (pred : Int) : (s.govFree pred).memory = s.memory := by simp [State.govFree]

@[simp] theorem State.govShed_memory (pred : Int) : (s.govShed pred).memory = s.memory := by simp [State.govShed]

@[simp] theorem State.govTick_memory (rails : List Nat) : (s.govTick rails).memory = s.memory := by
  unfold State.govTick
  dsimp only
  repeat' split
  all_goals simp

@[simp] theorem State.govRelease_memory : s.govRelease.memory = s.memory := by simp [State.govRelease]

@[simp] theorem State.idleLookups_memory (cycles : Nat) : (s.idleLookups cycles).memory = s.memory := by simp [State.idleLookups]

@[simp] theorem State.curgovTick_memory (ma cycles : Nat) : (s.curgovTick ma cycles).memory = s.memory := by simp [State.curgovTick]

end Sys2Proof.Machine
end

section
/-! PROOF. What writes the Pantry, the flash or an engine's memories keeps them canonical (R390, R438, R446): the update unit, resets,
loads, the configuration store, and the writes and messages that reach them. -/

namespace Sys2Proof.Machine

variable {s t : State}

theorem State.memoryOk_ite {c : Prop} [Decidable c] {a b : State} (ha : a.memoryOk) (hb : b.memoryOk) :
    (if c then a else b).memoryOk := by
  split <;> assumption

theorem State.memoryOk_keeping {f : State → State} (h : (f s).memoryOk) : (s.keeping f).memoryOk :=
  State.memoryOk_of_memory rfl h

theorem State.memoryOk_forEach {α : Type} {f : State → α → State} (hf : ∀ u x, u.memoryOk → (f u x).memoryOk) (xs : List α)
    (h : s.memoryOk) : (forEach xs f s).memoryOk := by
  unfold forEach
  induction xs generalizing s with
  | nil => exact h
  | cons x xs ih => exact ih (hf s x h)

/-! The update unit writes the Pantry -/

theorem State.memoryOk_dmaFinish (h : s.memoryOk) (r : Nat) (d : DmaResult) (late : Bool) : (s.dmaFinish r d late).memoryOk := by
  have hopt (u : State) (hu : u.memoryOk) (a n : Nat) (x : Option Nat) :
      (match x with | some w => u.pantryWrite a (leBytes n w) | none => u).memoryOk := by
    cases x with
    | none => exact hu
    | some w => exact State.memoryOk_pantryWrite hu _ _
  unfold State.dmaFinish
  refine State.memoryOk_of_memory
    (State.memory_of_ite ((State.sharedEvent_memory _).trans (State.setObj_memory _ _ _)) (State.setObj_memory _ _ _)) ?_
  exact hopt _ (State.memoryOk_pantryWrite (hopt _ (State.memoryOk_pantryWrite h _ _) _ _ _) _ _) _ _ _

theorem State.memoryOk_dmaReadBucket (h : s.memoryOk) (r : Nat) : (s.dmaReadBucket r).2.memoryOk := by
  unfold State.dmaReadBucket
  dsimp only
  split
  · exact h
  split
  · exact h
  split
  · exact h
  · refine State.memoryOk_ite (State.memoryOk_forEach (fun u l hu => ?_) _ ?_) ?_
    · exact State.memoryOk_of_memory (State.memory_of_ite (State.setEm_memory _ _) rfl) hu
    all_goals exact State.memoryOk_pantryWrite h _ _

theorem State.memoryOk_dmaTcamRead (h : s.memoryOk) (r : Nat) : (s.dmaTcamRead r).2.memoryOk := by
  unfold State.dmaTcamRead
  dsimp only
  split
  · exact h
  · exact State.memoryOk_pantryWrite h _ _

theorem State.memoryOk_dmaOp (h : s.memoryOk) (r op : Nat) : (s.dmaOp r op).2.memoryOk := by
  unfold State.dmaOp
  split
  case h_6 => exact State.memoryOk_dmaReadBucket h r
  case h_11 => exact State.memoryOk_dmaTcamRead h r
  all_goals exact State.memoryOk_of_memory (by simp) h

theorem State.memoryOk_dmaRun (h : s.memoryOk) (r : Nat) (late : Bool) : (s.dmaRun r late).memoryOk :=
  State.memoryOk_dmaFinish (State.memoryOk_dmaOp h _ _) _ _ _

theorem State.memoryOk_dmaServe (h : s.memoryOk) (r : Nat) (sel : Nat → Bool) : (s.dmaServe r sel).memoryOk :=
  State.memoryOk_ite (State.memoryOk_dmaRun h _ _) h

theorem State.memoryOk_tdmaAbort (h : s.memoryOk) (r : Nat) (c : Bool) : (s.tdmaAbort r c).memoryOk := by
  unfold State.tdmaAbort
  refine State.memoryOk_ite (State.memoryOk_ite ?_ ?_) (State.memoryOk_of_memory (by simp) h)
  · exact State.memoryOk_of_memory (by simp) (State.memoryOk_dmaRun h r true)
  · exact State.memoryOk_of_memory (by simp) (State.memoryOk_dmaFinish h r (dmaStatus 0x0D) false)

/-! Resets -/

theorem State.memoryOk_resetTo (h : s.memoryOk) (c : Nat) (por : Bool) (x : BitVec 5) : (s.resetTo c por x).memoryOk :=
  ⟨rfl, h.2.1, fun _ => ⟨rfl, rfl⟩⟩

theorem State.memoryOk_holdReset (h : s.memoryOk) (r : Bool) (c : Nat) : (s.holdReset r c).memoryOk :=
  State.memoryOk_of_memory (s := s.resetTo c r s.power.straps) rfl (State.memoryOk_resetTo h _ _ _)

theorem State.memoryOk_sysReset (h : s.memoryOk) : s.sysReset.memoryOk :=
  State.memoryOk_of_memory (State.emit_memory _) (State.memoryOk_resetTo h _ _ _)

theorem State.memoryOk_pllLost (h : s.memoryOk) (n flag : Nat) : (s.pllLost n flag).memoryOk := by
  unfold State.pllLost
  refine State.memoryOk_ite (State.memoryOk_holdReset h _ _) (State.memoryOk_of_memory ?_ h)
  simp

theorem State.memoryOk_lockWindow (h : s.memoryOk) (n count : Nat) : (s.lockWindow n count).memoryOk := by
  unfold State.lockWindow
  dsimp only
  have hs (x : Nat) : (s.setObj O.PLL_VCO_KHZ x (n + 1)).memoryOk := State.memoryOk_of_memory (State.setObj_memory _ _ _) h
  refine State.memoryOk_ite h (State.memoryOk_ite (State.memoryOk_ite (State.memoryOk_pllLost (hs _) _ _) (hs _)) ?_)
  exact State.memoryOk_of_memory (by simp) h

/-! Engines that are loaded -/

theorem State.memoryOk_userLoad (h : s.memoryOk) (e : Nat) : (s.userLoad e).memoryOk := by
  unfold State.userLoad
  refine State.memoryOk_ite (State.memoryOk_of_memory (by simp) h) (State.memoryOk_ite ?_ (State.memoryOk_of_memory (by simp) h))
  exact State.memoryOk_of_memory (State.userStatus_memory _ _ _ _) (State.memoryOk_loadImage h _ _)

theorem State.memoryOk_engineRestart (h : s.memoryOk) (e : Nat) : (s.engineRestart e).memoryOk := by
  unfold State.engineRestart
  refine State.memoryOk_ite h (State.memoryOk_ite (State.memoryOk_of_memory (by simp) h) (State.memoryOk_ite ?_
    (State.memoryOk_of_memory (by simp) h)))
  exact State.memoryOk_of_memory (State.startEngine_memory _) (State.memoryOk_loadImage h _ _)

theorem State.memoryOk_userBoot (h : s.memoryOk) (e : Nat) : (s.userBoot e).memoryOk :=
  State.memoryOk_ite (State.memoryOk_of_memory (State.userStart_memory _) (State.memoryOk_userLoad h e)) h

theorem State.memoryOk_loadSegment (h : s.memoryOk) (g : Segment) : (s.loadSegment g).memoryOk := by
  unfold State.loadSegment
  split
  · exact State.memoryOk_pantryWrite h _ _
  · refine State.memoryOk_forEach (fun u e hu => State.memoryOk_modEng hu e _ ?_) _ h
    exact ⟨(hu.2.2 e).1, Tab.wf_setRun (hu.2.2 e).2 _ _⟩
  · refine State.memoryOk_forEach (fun u e hu => State.memoryOk_modEng hu e _ ?_) _ h
    exact ⟨Tab.wf_setRun (hu.2.2 e).1 _ _, (hu.2.2 e).2⟩

theorem State.memoryOk_firmwareLoad (h : s.memoryOk) : s.firmwareLoad.memoryOk := by
  unfold State.firmwareLoad
  dsimp only
  refine State.memoryOk_of_memory (State.forEach_memory (fun _ _ => State.startEngine_memory _) _ _) ?_
  refine State.memoryOk_of_memory ((State.fresh_memory).trans (State.setObj_memory _ _ _)) ?_
  split
  · exact State.memoryOk_of_memory (State.setObj_memory _ _ _) h
  · exact State.memoryOk_forEach (fun u g hu => State.memoryOk_loadSegment hu g) _ (State.memoryOk_of_memory (State.setObj_memory _ _ _) h)

/-! The configuration store writes the flash -/

theorem State.memoryOk_beginJob (h : s.memoryOk) (k : Nat) (hdr body : Bytes) : (s.beginJob k hdr body).memoryOk :=
  State.memoryOk_of_memory ((State.modFalri_memory _).trans (State.cmdStatus_memory _ _ _ _ _)) (State.memoryOk_flashErase h _ _)

theorem State.memoryOk_cfgCommit (h : s.memoryOk) : s.cfgCommit.memoryOk := by
  unfold State.cfgCommit
  refine State.memoryOk_ite h (State.memoryOk_ite (State.memoryOk_of_memory (by simp) h) ?_)
  exact State.memoryOk_beginJob (State.memoryOk_of_memory State.fresh_memory h) _ _ _

theorem State.memoryOk_cfgInstall (h : s.memoryOk) : s.cfgInstall.memoryOk := by
  unfold State.cfgInstall
  exact State.memoryOk_ite h (State.memoryOk_ite (State.memoryOk_of_memory (by simp) h) (State.memoryOk_beginJob h _ _ _))

theorem State.memoryOk_cfgErase (h : s.memoryOk) : s.cfgErase.memoryOk :=
  State.memoryOk_ite h (State.memoryOk_of_memory ((State.modFalri_memory _).trans (State.cmdStatus_memory _ _ _ _ _))
    (State.memoryOk_flashErase (State.memoryOk_flashErase h _ _) _ _))

theorem State.memoryOk_programCopy (h : s.memoryOk) (j : FlashJob) (v : Bool) : (s.programCopy j v).memoryOk :=
  State.memoryOk_ite (State.memoryOk_flashProgram (State.memoryOk_flashProgram h _ _) _ _)
    (State.memoryOk_flashProgram (State.memoryOk_of_memory (State.freeBytes_memory _) h) _ _)

theorem State.memoryOk_commitDone (h : s.memoryOk) (v : Bool) : (s.commitDone v).memoryOk := by
  unfold State.commitDone
  split
  · exact h
  · next j _ =>
    exact State.memoryOk_ite h (State.memoryOk_of_memory (s := s.programCopy j v) (by simp) (State.memoryOk_programCopy h j v))

theorem State.memoryOk_installDone (h : s.memoryOk) (v : Bool) : (s.installDone v).memoryOk := by
  unfold State.installDone
  split
  · exact h
  · next j _ =>
    exact State.memoryOk_ite h (State.memoryOk_of_memory (s := s.programCopy j v) (by simp) (State.memoryOk_programCopy h j v))

/-! Writes of the dictionary -/

theorem State.memoryOk_writeCmd (h : s.memoryOk) (o : Obj) (sub x : Nat) : (s.writeCmd o sub x).memoryOk := by
  have hm {u : State} (hu : u.memory = s.memory) : u.memoryOk := State.memoryOk_of_memory hu h
  unfold State.writeCmd
  dsimp only
  split
  case h_6 =>
    split
    case h_3 => exact State.memoryOk_tdmaAbort h _ _
    all_goals exact hm (by simp)
  case h_12 =>
    split
    · exact State.memoryOk_cfgCommit h
    · exact State.memoryOk_cfgInstall h
    · exact State.memoryOk_cfgErase h
    · exact hm (by simp)
  case h_13 =>
    split
    · exact State.memoryOk_userLoad h _
    all_goals exact hm (by simp)
  all_goals repeat' split
  all_goals exact hm (by simp)

theorem State.memoryOk_writePlain (h : s.memoryOk) (o : Obj) (sub : Nat) (v : Bytes) : (s.writePlain o sub v).memoryOk := by
  unfold State.writePlain
  refine State.memoryOk_ite (State.memoryOk_of_memory (by simp) h) (State.memoryOk_ite (State.memoryOk_writeCmd h _ _ _) ?_)
  exact State.memoryOk_of_memory (by simp) h

theorem State.memoryOk_writeObj (h : s.memoryOk) (o : Obj) (sub : Nat) (v : Bytes) : (s.writeObj o sub v).memoryOk := by
  have hp : (s.keeping (·.writePlain o sub v)).memoryOk := State.memoryOk_keeping (State.memoryOk_writePlain h _ _ _)
  unfold State.writeObj
  refine State.memoryOk_ite (State.memoryOk_of_memory (by simp) h) ?_
  exact State.memoryOk_ite (State.memoryOk_of_memory State.policyWritten_memory hp) hp

theorem State.memoryOk_applyItem (h : s.memoryOk) (i : FalriItem) : (s.applyItem i).memoryOk := by
  unfold State.applyItem
  split
  · exact State.memoryOk_ite (State.memoryOk_of_memory (by simp) h) (State.memoryOk_writeObj h _ _ _)
  · exact h

theorem State.memoryOk_foldl_applyItem (h : s.memoryOk) (items : List FalriItem) : (items.foldl State.applyItem s).memoryOk := by
  induction items generalizing s with
  | nil => exact h
  | cons i is ih => exact ih (State.memoryOk_applyItem h i)

theorem State.memoryOk_opllCommit (h : s.memoryOk) {old : State} (ho : old.memoryOk) (k : Nat) (mult : Bool) :
    (s.opllCommit old k mult).memoryOk :=
  (s.opllCommit_memory_cases old k mult).elim (State.memoryOk_of_memory · h) (State.memoryOk_of_memory · ho)

theorem State.memoryOk_applyItems (h : s.memoryOk) (items : List FalriItem) : (s.applyItems items).memoryOk := by
  have ht := State.memoryOk_foldl_applyItem h items
  generalize hu : State.keeping (items.foldl State.applyItem s) (forEach [0, 1, 2, 3] fun t k =>
    if (items.filterMap itemOpll).any fun e => e.1 == k then t.opllCommit s k ((items.filterMap itemOpll).contains (k, true)) else t) = u
  have hk : u.memoryOk :=
    hu ▸ State.memoryOk_keeping (State.memoryOk_forEach (fun _ _ hw => State.memoryOk_ite (State.memoryOk_opllCommit hw h _ _) hw) _ ht)
  unfold State.applyItems
  dsimp only
  rw [hu]
  exact State.memoryOk_ite (State.memoryOk_sysReset hk) hk

theorem State.memoryOk_writeItems (h : s.memoryOk) (path : Nat) (items : List FalriItem) : (s.writeItems path items).memoryOk :=
  State.memoryOk_ite (State.memoryOk_applyItems h _) (State.memoryOk_of_memory (by simp) h)

theorem State.memoryOk_objectWrite (h : s.memoryOk) (path i sub : Nat) (v : Bytes) : (s.objectWrite path i sub v).memoryOk :=
  State.memoryOk_ite (State.memoryOk_of_memory (by simp) h) (State.memoryOk_writeItems h _ _)

theorem State.memoryOk_windowStore (h : s.memoryOk) (e a v : Nat) : (s.windowStore e a v).memoryOk := by
  have hk {f : Engine → Engine} (hi : (f (s.eng e)).itcm = (s.eng e).itcm) (hd : (f (s.eng e)).dtcm = (s.eng e).dtcm) :
      (s.keeping (·.modEng e f)).memoryOk := State.memoryOk_of_memory (State.modEng_memory _ _ hi hd) h
  unfold State.windowStore
  refine State.memoryOk_ite (hk rfl rfl) (State.memoryOk_ite (State.memoryOk_of_memory (by simp) h) (State.memoryOk_ite (hk rfl rfl) ?_))
  exact State.memoryOk_writeItems (hk rfl rfl) _ _

/-! Messages -/

theorem State.memoryOk_serveBlockWrite (h : s.memoryOk) (path src : Nat) (p : Bytes) : (s.serveBlockWrite path src p).2.memoryOk := by
  have hm {u : State} (hu : u.memory = s.memory) : u.memoryOk := State.memoryOk_of_memory hu h
  unfold State.serveBlockWrite
  dsimp only
  split
  · exact h
  split
  · exact hm (by simp)
  split
  · split
    · exact h
    · exact State.memoryOk_writeItems (hm (by simp)) _ _
  · exact hm (by simp)

theorem State.memoryOk_serveCommit (h : s.memoryOk) : s.serveCommit.2.memoryOk := by
  unfold State.serveCommit
  split
  · exact h
  · exact State.memoryOk_keeping (State.memoryOk_cfgCommit h)

theorem State.memoryOk_serveRequest (h : s.memoryOk) (path : Path) (hdr : FalriHdr) (m : Msg) : (s.serveRequest path hdr m).2.memoryOk := by
  have hm {u : State} (hu : u.memory = s.memory) : u.memoryOk := State.memoryOk_of_memory hu h
  unfold State.serveRequest
  dsimp only
  split
  · exact h
  split
  · exact h
  split
  · exact hm (by simp)
  split
  · exact hm (by simp)
  split
  · exact hm (by simp)
  · exact hm (by simp)
  · exact State.memoryOk_writeItems h _ _
  · exact State.memoryOk_writeItems h _ _
  · exact hm (by simp)
  · exact State.memoryOk_serveBlockWrite h _ _ _
  · exact State.memoryOk_serveCommit h
  · split
    · exact hm (by simp)
    · exact h

theorem State.memoryOk_ownRequest (h : s.memoryOk) (path : Path) (hdr : FalriHdr) (m : Msg) : (s.ownRequest path hdr m).memoryOk := by
  unfold State.ownRequest
  split
  · exact State.memoryOk_of_memory (by simp) h
  · dsimp only
    generalize hu : State.keeping s _ = u
    have hr : (u.serveRequest path hdr m).2.memoryOk :=
      State.memoryOk_serveRequest (hu ▸ State.memoryOk_of_memory (by simp) h) _ _ _
    split
    next hx => rw [hx] at hr; exact State.memoryOk_of_memory (by simp) hr
    next hx => rw [hx] at hr; exact hr

theorem State.memoryOk_messageIn (h : s.memoryOk) (path : Path) (hdr : FalriHdr) (m : Msg) : (s.messageIn path hdr m).memoryOk := by
  have hl : (s.keeping (·.learnDev (pathCode path) m.src)).memoryOk := State.memoryOk_of_memory (by simp) h
  unfold State.messageIn State.requestIn
  refine State.memoryOk_ite (State.memoryOk_of_memory (by simp) h) (State.memoryOk_ite (State.memoryOk_of_memory (by simp) hl)
    (State.memoryOk_ite (State.memoryOk_of_memory (by simp) hl) (State.memoryOk_ite hl (State.memoryOk_ite ?_ ?_))))
  · exact State.memoryOk_ownRequest hl _ _ _
  · exact State.memoryOk_of_memory (by simp) hl

theorem State.memoryOk_mailboxGo (h : s.memoryOk) (r : Bytes) (en : Bool) : (s.mailboxGo r en).memoryOk := by
  have hm {u : State} (hu : u.memory = s.memory) : u.memoryOk := State.memoryOk_of_memory hu h
  unfold State.mailboxGo
  refine State.memoryOk_ite (hm (by simp)) ?_
  split
  · exact hm (by simp)
  · exact State.memoryOk_messageIn (hm (by simp)) _ _ _

/-! First light -/

theorem State.memoryOk_recordApply (h : s.memoryOk) (r : Nat × Nat × Nat × Bytes) : (s.recordApply r).memoryOk := by
  unfold State.recordApply
  split
  · refine State.memoryOk_ite (State.memoryOk_of_memory ?_ h) (State.memoryOk_ite (State.memoryOk_of_memory (by simp) h) ?_)
    · exact (State.with_clk_memory _).trans (State.rawSet_memory _ _ _)
    · exact State.memoryOk_writePlain h _ _ _
  · exact h

theorem State.memoryOk_recordPass (h : s.memoryOk) (rs : List (Nat × Nat × Nat × Bytes)) : (s.recordPass rs).2.memoryOk := by
  induction rs generalizing s with
  | nil => exact h
  | cons r rs ih =>
    unfold State.recordPass
    dsimp only
    split
    · exact ih (State.memoryOk_recordApply h r)
    · exact ih h

theorem State.memoryOk_recordRetry (h : s.memoryOk) (rs : List (Nat × Nat × Nat × Nat × Bytes)) : (s.recordRetry rs).2.memoryOk := by
  induction rs generalizing s with
  | nil => exact h
  | cons r rs ih =>
    unfold State.recordRetry
    dsimp only
    split <;> split
    · exact ih (State.memoryOk_recordApply h _)
    · exact ih h
    · exact ih (State.memoryOk_recordApply h _)
    · exact ih h

theorem State.memoryOk_loadRecords (h : s.memoryOk) (rs : List (Nat × Nat × Nat × Bytes)) : (s.loadRecords rs).memoryOk := by
  have hr := State.memoryOk_recordRetry (State.memoryOk_recordPass h rs) (s.recordPass rs).1
  unfold State.loadRecords
  dsimp only
  split
  · exact hr
  · exact State.memoryOk_of_memory (by simp) hr

theorem State.memoryOk_configLoad (h : s.memoryOk) : s.configLoad.memoryOk := by
  unfold State.configLoad
  split
  · exact State.memoryOk_of_memory (by simp) h
  · exact State.memoryOk_loadRecords (State.memoryOk_of_memory (by simp) h) _

theorem State.memoryOk_boot (h : s.memoryOk) (ms : Nat) : (s.boot ms).memoryOk := by
  have hl := State.memoryOk_configLoad (State.memoryOk_firmwareLoad h)
  unfold State.boot
  refine State.memoryOk_ite h (State.memoryOk_of_memory (State.modPower_memory _) ?_)
  exact State.memoryOk_userBoot (State.memoryOk_userBoot (State.memoryOk_of_memory (by simp) hl) _) _

end Sys2Proof.Machine
end

section
/-! PROOF. Every command and every step keep the memories canonical, and O53 from it. -/

namespace Sys2Proof.Machine

variable {s t : State}

/-- An outcome in which the block's memories are canonical. -/
def keepsMemory (o : Host.Outcome State Fault Refusal) : Prop := ∀ t, o = .next t → t.memoryOk

theorem keepsMemory_next (h : t.memoryOk) : keepsMemory (.next t) := by
  rintro _ ⟨⟩
  exact h

theorem keepsMemory_run {f : State → State} (h : s.memoryOk) (hf : (f s).memoryOk) : keepsMemory (run s f) :=
  keepsMemory_next (State.memoryOk_ite h hf)

theorem keepsMemory_runKeep {f : State → State} (h : s.memoryOk) (hf : (f s).memoryOk) : keepsMemory (runKeep s f) :=
  keepsMemory_run h (State.memoryOk_keeping hf)

/-- The usual case: a command that touches no memory. -/
theorem keepsMemory_same {f : State → State} (h : s.memoryOk) (hf : (f s).memory = s.memory) : keepsMemory (runKeep s f) :=
  keepsMemory_runKeep h (State.memoryOk_of_memory hf h)

theorem keepsMemory_message (h : s.memoryOk) (p : Path) (hdr : FalriHdr) (m : Msg) : keepsMemory (run s (·.messageIn p hdr m)) :=
  keepsMemory_run h (State.memoryOk_messageIn h _ _ _)

theorem keepsMemory_write (h : s.memoryOk) (p i sub : Nat) (v : Bytes) : keepsMemory (run s (·.objectWrite p i sub v)) :=
  keepsMemory_run h (State.memoryOk_objectWrite h _ _ _ _)

theorem keepsMemory_dma (h : s.memoryOk) (r : Nat) (sel : Nat → Bool) : keepsMemory (runKeep s (·.dmaServe r sel)) :=
  keepsMemory_runKeep h (State.memoryOk_dmaServe h _ _)

/-- Every command keeps the memories canonical: most touch none, the others each by what it writes. -/
theorem keepsMemory_exec (h : s.memoryOk) (c : Instr) : keepsMemory (exec c s) := by
  have hm {u : State} (hu : u.memory = s.memory) : u.memoryOk := State.memoryOk_of_memory hu h
  cases c with
  | powerOnReset => exact keepsMemory_next (State.memoryOk_resetTo h _ _ _)
  | warmReset => exact keepsMemory_next (State.memoryOk_resetTo h _ _ _)
  | railUndervoltage => exact keepsMemory_next (State.memoryOk_ite h (State.memoryOk_holdReset h _ _))
  | railRestore => exact keepsMemory_next (State.memoryOk_ite (hm (State.release_memory _ _)) h)
  | xoLoss => exact keepsMemory_next (State.memoryOk_ite h (State.memoryOk_holdReset h _ _))
  | xoRestore => exact keepsMemory_next (State.memoryOk_ite (hm (State.release_memory _ _)) h)
  | bootLoaderStart ms => exact keepsMemory_run (f := (·.boot ms)) h (State.memoryOk_boot h ms)
  | thermtrip => exact keepsMemory_next (hm (by simp))
  | thermtripLatchClear => exact keepsMemory_next (hm (by simp))
  | bypass => exact keepsMemory_next (hm (by simp))
  | idcode => exact keepsMemory_next (hm (by simp))
  | samplePreload => exact keepsMemory_next (hm rfl)
  | extest => exact keepsMemory_next (hm (by simp))
  | extestPulse => exact keepsMemory_next (hm (by simp))
  | extestTrain => exact keepsMemory_next (hm (by simp))
  | clamp => exact keepsMemory_next (hm (by simp))
  | highz => exact keepsMemory_next (hm (by simp))
  | conditionerUpdate => exact keepsMemory_run h (hm (by simp))
  | stepCommit => exact keepsMemory_run h (hm (by simp))
  | acquireComplete => exact keepsMemory_run h (hm (by simp))
  | servoUpdate => exact keepsMemory_run h (hm (by simp))
  | sourceLost => exact keepsMemory_run h (hm (by simp))
  | qualShortExpire => exact keepsMemory_run h (hm (by simp))
  | qualLongExpire => exact keepsMemory_run h (hm (by simp))
  | reepoch => exact keepsMemory_run h (hm (by simp))
  | abortAcq c => exact keepsMemory_run (f := (·.abortAcq c)) h (hm (by simp))
  | accept => exact keepsMemory_run h (hm (by simp))
  | takeover => exact keepsMemory_run h (hm (by simp))
  | timeRespReceive p b a => exact keepsMemory_run (f := (·.respIn p b a)) h (hm (by simp))
  | ppsInEdge a => exact keepsMemory_run (f := (·.ppsIn a)) h (hm (by simp))
  | ptpMessageReceive p m a => exact keepsMemory_run (f := (·.ptpIn p m a)) h (hm (by simp))
  | tioCapture ch a r =>
    show keepsMemory (execTioCapture ch a r s)
    unfold execTioCapture
    split
    · exact keepsMemory_run h (hm (by simp))
    · exact keepsMemory_same h (by simp)
  | lockWindowEnd p n =>
    show keepsMemory (execLockWindowEnd p n s)
    unfold execLockWindowEnd
    split
    · exact keepsMemory_run h (State.memoryOk_lockWindow h _ _)
    · exact keepsMemory_runKeep h (State.memoryOk_lockWindow h _ _)
  | pllLoss p l =>
    show keepsMemory (execPllLoss p l s)
    unfold execPllLoss
    dsimp only
    split
    · exact keepsMemory_run h (State.memoryOk_ite (State.memoryOk_pllLost h _ _) h)
    · exact keepsMemory_runKeep h (State.memoryOk_ite (State.memoryOk_pllLost h _ _) h)
  | lookup => exact keepsMemory_dma h _ _
  | insert => exact keepsMemory_dma h _ _
  | update => exact keepsMemory_dma h _ _
  | delete => exact keepsMemory_dma h _ _
  | delIfClear => exact keepsMemory_dma h _ _
  | readBucket => exact keepsMemory_dma h _ _
  | lock => exact keepsMemory_dma h _ _
  | unlock => exact keepsMemory_dma h _ _
  | fence => exact keepsMemory_dma h _ _
  | tcamWrite => exact keepsMemory_dma h _ _
  | tcamRead => exact keepsMemory_dma h _ _
  | tcamClear => exact keepsMemory_dma h _ _
  | unknownOp => exact keepsMemory_dma h _ _
  | tdmaAbort => exact keepsMemory_runKeep h (State.memoryOk_tdmaAbort h _ _)
  | read => exact keepsMemory_message h _ _ _
  | write => exact keepsMemory_message h _ _ _
  | readMulti => exact keepsMemory_message h _ _ _
  | writeMulti => exact keepsMemory_message h _ _ _
  | blockRead => exact keepsMemory_message h _ _ _
  | blockWrite => exact keepsMemory_message h _ _ _
  | commit => exact keepsMemory_message h _ _ _
  | discover => exact keepsMemory_message h _ _ _
  | assignId => exact keepsMemory_message h _ _ _
  | notifyReceive => exact keepsMemory_message h _ _ _
  | falriErr p b =>
    show keepsMemory (execFalriErr p b s)
    unfold execFalriErr
    refine keepsMemory_run h ?_
    split
    · exact hm (by simp)
    · exact State.memoryOk_messageIn h _ _ _
  | mailboxGo r e => exact keepsMemory_run (f := (·.mailboxGo r e)) h (State.memoryOk_mailboxGo h r e)
  | objectWrite => exact keepsMemory_write h _ _ _ _
  | epRegistryWrite => exact keepsMemory_write h _ _ _ _
  | sysReset => exact keepsMemory_write h _ _ _ _
  | expertSessionWrite => exact keepsMemory_write h _ _ _ _
  | gateWrite p ports chain =>
    show keepsMemory (execGateWrite p ports chain s)
    unfold execGateWrite
    exact keepsMemory_run h (State.memoryOk_objectWrite (State.memoryOk_objectWrite h _ _ _ _) _ _ _ _)
  | dictWindowStore =>
    refine keepsMemory_run h (State.memoryOk_ite (State.memoryOk_windowStore (hm ?_) _ _ _) h)
    simp
  | cfgCommit => exact keepsMemory_runKeep h (State.memoryOk_cfgCommit h)
  | install => exact keepsMemory_runKeep h (State.memoryOk_cfgInstall h)
  | eraseBoth => exact keepsMemory_runKeep h (State.memoryOk_cfgErase h)
  | commitComplete => exact keepsMemory_runKeep h (State.memoryOk_commitDone h _)
  | installComplete => exact keepsMemory_runKeep h (State.memoryOk_installDone h _)
  | engineRestart => exact keepsMemory_runKeep h (State.memoryOk_engineRestart h _)
  | userLoad => exact keepsMemory_runKeep h (State.memoryOk_userLoad h _)
  | tcamScrub =>
    refine keepsMemory_same h (State.memory_of_ite rfl ?_)
    refine (State.raise_memory _ _ _).trans ((State.count_memory _ _ _).trans ?_)
    split <;> simp
  | tableBlobWrite =>
    refine keepsMemory_same h ?_
    split <;> simp
  | falriResponse =>
    refine keepsMemory_same h ?_
    split <;> simp
  | readBufferLapse =>
    refine keepsMemory_same h ?_
    split <;> simp
  | refinEdgeMissing => exact keepsMemory_same h ((State.with_clk_memory _).trans (State.setObj_memory _ _ _))
  | learn =>
    refine keepsMemory_same h ?_
    split <;> simp
  | stagingLapse =>
    refine keepsMemory_same h ?_
    split <;> simp
  | _ => exact keepsMemory_same h (by simp)

end Sys2Proof.Machine

open Sys2Proof Sys2Proof.Machine

/-- Settles O53, by what every command does to the Pantry, the flash and the engines' memories. -/
theorem stepKeepsMemoryCanonical : Obligations.StepKeepsMemoryCanonical := by
  unfold Obligations.StepKeepsMemoryCanonical
  intro s t hs h
  unfold step at h
  split at h
  case h_1 =>
    obtain rfl := Host.Outcome.next.inj h
    exact State.memoryOk_of_memory State.idle_memory hs
  case h_2 c rest _ =>
    have hp : ({ s with pending := rest } : State).memoryOk := State.memoryOk_of_memory (by rfl) hs
    exact keepsMemory_exec hp c t h
end

section
/-! PROOF. Memories (R390, R438): runs of octets are read back after their write, an erase leaves 0xFF, and O58 from them. -/

namespace Sys2Proof.Machine

variable {s : State}

/-- A written run is read back whole. -/
theorem Tab.getRun_setRun {α : Type} [DecidableEq α] (m : Tab α) (d : α) (k : Nat) (l : List α) :
    (m.setRun d k l).getRun d k l.length = l := by
  refine List.ext_getElem (by simp) fun i _ hi => ?_
  rw [Tab.getElem_getRun, Tab.get_setRun_in m d k l hi]

/-- A run beside a written one reads as before. -/
theorem Tab.getRun_setRun_out {α : Type} [DecidableEq α] (m : Tab α) (d : α) {a k n : Nat} {l : List α}
    (h : k + n ≤ a ∨ a + l.length ≤ k) : (m.setRun d a l).getRun d k n = m.getRun d k n := by
  refine List.ext_getElem (by simp) fun i hi _ => ?_
  have hlt : i < n := by simpa using hi
  rw [Tab.getElem_getRun, Tab.getElem_getRun, Tab.get_setRun_out m d d a l (by omega)]

theorem State.only_flashErase {t : State} {l : List Part} {ks : List Nat} (a k : Nat) (h : t.only s l ks) (hl : .flash ∈ l) :
    (t.flashErase a k).only s l ks :=
  State.only_with_flash _ h hl

theorem State.only_flashProgram {t : State} {l : List Part} {ks : List Nat} (a : Nat) (b : Bytes) (h : t.only s l ks) (hl : .flash ∈ l) :
    (t.flashProgram a b).only s l ks :=
  State.only_with_flash _ h hl

/-- An erased octet reads 0xFF, every other as before (R390). -/
theorem State.flashErase_get (s : State) (a k i : Nat) :
    Tab.get (s.flashErase a k).flash 0xFF i = if a ≤ i ∧ i < a + 65536 * k then 0xFF else Tab.get s.flash 0xFF i := by
  have h := Tab.get_filter s.flash (fun x => decide (x < a) || decide (a + 65536 * k ≤ x)) 0xFF i
  refine h.trans ?_
  by_cases hi : a ≤ i ∧ i < a + 65536 * k
  · rw [if_pos hi, if_neg (by simp; omega)]
  · rw [if_neg hi, if_pos (by simp; omega)]

end Sys2Proof.Machine

open Sys2Proof Sys2Proof.Machine

/-- Settles O58: a run is read back where it was written and nowhere else, and an erase is a filter on the addresses. -/
theorem memoryReadsBack : Obligations.MemoryReadsBack := by
  unfold Obligations.MemoryReadsBack
  refine ⟨fun s a l => ⟨s.pantryRead_write_same a l, State.only_pantryWrite a l (s.only_refl _ _) (by decide), fun i hi => ?_⟩,
    fun s a l => ⟨Tab.getRun_setRun _ _ a l, State.only_flashProgram a l (s.only_refl _ _) (by decide), fun i hi => ?_⟩,
    fun s a k => ⟨State.only_flashErase a k (s.only_refl _ _) (by decide), s.flashErase_get a k⟩⟩
  · exact Tab.get_setRun_out _ _ _ a l hi
  · exact Tab.get_setRun_out _ _ _ a l hi
end

section
/-! PROOF. The configuration store (R390 to R394, R398): what a job begun, a copy programmed and a job ended leave, and O38 from them. -/

namespace Sys2Proof.Machine

variable {s t : State}

/-! CFG_STATUS and the flags of the dictionary. -/

theorem State.status_of_obj {o : Obj} {j : Nat} (h : t.obj o j = s.obj o j) : t.status o j = s.status o j := by
  rw [State.status, State.status, h]

theorem State.cfgStatus_cmd (s : State) (c st r : Nat) : (s.cmdStatus O.CFG_STATUS 0 c st r).status O.CFG_STATUS 0 = st % 16 :=
  s.status_cmdStatus _ _ _ _ _ (by decide)

theorem State.cfgStatus_end (s : State) (st r : Nat) : (s.endStatus O.CFG_STATUS 0 st r).status O.CFG_STATUS 0 = st % 16 :=
  s.status_endStatus _ _ _ _ (by decide)

theorem State.cfgReason_cmd (s : State) (c st r : Nat) :
    bits ((s.cmdStatus O.CFG_STATUS 0 c st r).obj O.CFG_STATUS 0) 15 12 = r % 16 :=
  (State.setStatus_fields s O.CFG_STATUS 0 r false c st (by decide)).2.2.2

theorem State.cfgReason_end (s : State) (st r : Nat) :
    bits ((s.endStatus O.CFG_STATUS 0 st r).obj O.CFG_STATUS 0) 15 12 = r % 16 :=
  (State.setStatus_fields s O.CFG_STATUS 0 r _ _ st (by decide)).2.2.2

/-- DICT_FLAGS reaches none of the objects of the store. -/
theorem State.raise_dictObj (s : State) (b : Nat) {o : Obj} {j : Nat} (hj : j < 256) (hi : o.index ≠ O.DICT_FLAGS.index)
    (ho : o.index ∉ [O.LT_LOST.index, O.OBS_FLAGS.index, O.ENG_STATE.index, O.ENG_SLOT_IDLE.index]) :
    (s.raise O.DICT_FLAGS b).obj o j = s.obj o j := State.raise_obj _ _ _ _ (Obj.key_notMem_flagKeys hj (by decide) hi ho)

theorem State.raise_dictFlags (s : State) (b : Nat) : (s.raise O.DICT_FLAGS b).obj O.DICT_FLAGS = (s.obj O.DICT_FLAGS ||| 2 ^ b) % 2 ^ 32 :=
  State.raise_obj_same _ _ _ _ (Obj.key_notMem_wakeKeys (by decide) (by decide))

/-! Jobs. -/

/-- What a job that begins holds (R393, R394). -/
def Falri.jobBegun (f : Falri) (kind copy seq : Nat) (hdr body : Bytes) : Falri :=
  { f with jobKind := kind, job := some { copy := copy, seq := seq, body := body, hdr := hdr } }

theorem State.beginJob_eq (s : State) (kind : Nat) (hdr body : Bytes) :
    s.beginJob kind hdr body = ((s.flashErase (cfgBase s.nextCopy) (sectorsOf body.length)).cmdStatus O.CFG_STATUS 0 kind 1).modFalri
      (·.jobBegun kind s.nextCopy s.nextCfgSeq hdr body) := rfl

theorem State.beginJob_only (s : State) (kind : Nat) (hdr body : Bytes) :
    (s.beginJob kind hdr body).only s [.falri, .flash] [keyOf O.CFG_STATUS] := by
  rw [State.beginJob_eq]
  exact State.only_modFalri' _ (State.only_cmdStatus _ _ _ (State.only_flashErase _ _ (s.only_refl _ _) (by decide)) (by decide))
    (by decide) rfl

theorem State.beginJob_status (s : State) (kind : Nat) (hdr body : Bytes) : (s.beginJob kind hdr body).status O.CFG_STATUS 0 = 1 := by
  rw [State.beginJob_eq, State.status, State.modFalri_obj]
  exact State.cfgStatus_cmd _ _ _ _

theorem State.beginJob_falri (s : State) (kind : Nat) (hdr body : Bytes) :
    (s.beginJob kind hdr body).falri =
      { s.falri with jobKind := kind, job := some { copy := s.nextCopy, seq := s.nextCfgSeq, body := body, hdr := hdr } } := rfl

theorem State.beginJob_flash (s : State) (kind : Nat) (hdr body : Bytes) :
    (s.beginJob kind hdr body).flash = (s.flashErase (cfgBase s.nextCopy) (sectorsOf body.length)).flash := rfl

theorem State.programCopy_only (s : State) (j : FlashJob) (v : Bool) : (s.programCopy j v).only s [.flash, .free] [] := by
  cases v with
  | true => exact State.only_flashProgram _ _ (State.only_flashProgram _ _ (s.only_refl _ _) (by decide)) (by decide)
  | false =>
    refine State.only_flashProgram _ _ ?_ (by decide)
    exact ⟨fun p hp => by cases p <;> simp_all [Part.same, State.freeBytes], fun _ _ _ => rfl⟩

/-- A copy that verifies takes no octet of its own choice. -/
theorem State.programCopy_true_only (s : State) (j : FlashJob) : (s.programCopy j true).only s [.flash] [] :=
  State.only_flashProgram _ _ (State.only_flashProgram _ _ (s.only_refl _ _) (by decide)) (by decide)

/-- A job's copy stands in `t`: its header and behind it its body (R390, R393). -/
def State.holdsCopy (t : State) (j : FlashJob) : Prop :=
  t.flashRead (cfgBase j.copy) 32 = j.hdr ∧ t.flashRead (cfgBase j.copy + 32) j.body.length = j.body

theorem State.holdsCopy_of_flash {j : FlashJob} (h : t.flash = s.flash) (hs : s.holdsCopy j) : t.holdsCopy j := by
  simpa only [State.holdsCopy, State.flashRead, h] using hs

theorem State.programCopy_holds (s : State) {j : FlashJob} (h : j.hdr.length = 32) : (s.programCopy j true).holdsCopy j := by
  have hread := Tab.getRun_setRun (s.flashProgram (cfgBase j.copy + 32) j.body).flash 0xFF (cfgBase j.copy) j.hdr
  rw [h] at hread
  refine ⟨hread, (Tab.getRun_setRun_out _ _ (.inr ?_)).trans (Tab.getRun_setRun _ _ _ _)⟩
  omega

theorem State.only_endJob {l : List Part} {ks : List Nat} (h : t.only s l ks) (hl : .falri ∈ l) : t.endJob.only s l ks :=
  State.only_modFalri' _ h hl rfl

theorem State.endJob_flash (s : State) : s.endJob.flash = s.flash := rfl

theorem State.endJob_job (s : State) : s.endJob.falri.job = none := rfl

/-- A change outside the management service moves at most its NOTIFY bits. -/
theorem State.only_falri {l : List Part} {ks : List Nat} (h : t.only s l ks) (hl : .falri ∉ l) :
    t.falri = { s.falri with notify := t.falri.notify } :=
  have hsame : { t.falri with notify := [] } = { s.falri with notify := [] } := h.1 .falri hl
  have hback := congrArg (fun f : Falri => { f with notify := t.falri.notify }) hsame
  hback

theorem State.raise_job (s : State) (b : Nat) : (s.raise O.DICT_FLAGS b).falri.job = s.falri.job := by
  rw [State.only_falri (s.raise_only O.DICT_FLAGS b O.DICT_FLAGS.lo) (by decide)]

/-! COMMIT, INSTALL and ERASE_BOTH (R393, R394, R398). -/

theorem State.cfgCommit_busy (h : s.cfgBusy = true) : s.cfgCommit = s := if_pos h

theorem State.cfgCommit_tooLong (h : s.cfgBusy = false) (hl : bodyMax < s.commitBody.length) :
    s.cfgCommit = s.cmdStatus O.CFG_STATUS 0 1 5 3 := by
  simp [State.cfgCommit, h, hl]

theorem State.cfgCommit_begins (h : s.cfgBusy = false) (hl : s.commitBody.length ≤ bodyMax) :
    ∃ hdr, s.cfgCommit = s.fresh.beginJob 1 hdr s.commitBody :=
  ⟨_, (if_neg (by simp [h])).trans (if_neg (Nat.not_lt.mpr hl))⟩

theorem State.cfgInstall_busy (h : s.cfgBusy = true) : s.cfgInstall = s := if_pos h

theorem State.cfgInstall_bad (h : s.cfgBusy = false) (hi : imageOkFor cfgMagic (s.blob O.CFG_UPLOAD).bytes = false) :
    s.cfgInstall = s.cmdStatus O.CFG_STATUS 0 2 5 2 := by
  simp [State.cfgInstall, h, hi]

theorem State.cfgInstall_begins (h : s.cfgBusy = false) (hi : imageOkFor cfgMagic (s.blob O.CFG_UPLOAD).bytes = true) :
    ∃ hdr, s.cfgInstall = s.beginJob 2 hdr (((s.blob O.CFG_UPLOAD).bytes.drop 32).take (octets (s.blob O.CFG_UPLOAD).bytes 8 4)) :=
  ⟨_, (if_neg (by simp [h])).trans (if_neg (by simp [hi]))⟩

theorem State.cfgErase_busy (h : s.cfgBusy = true) : s.cfgErase = s := if_pos h

/-- The service while ERASE_BOTH runs (R394). -/
def Falri.eraseBegun (f : Falri) : Falri := { f with jobKind := 3, job := none }

theorem State.cfgErase_begins (h : s.cfgBusy = false) :
    s.cfgErase = (((s.flashErase (cfgBase 0) 1).flashErase (cfgBase 1) 1).cmdStatus O.CFG_STATUS 0 3 1).modFalri Falri.eraseBegun :=
  if_neg (by simp [h])

/-- After ERASE_BOTH the first sector of either copy reads 0xFF. -/
theorem State.flashErase_both {c k : Nat} (hc : c < 2) (hk : k < 65536) :
    Tab.get ((s.flashErase (cfgBase 0) 1).flashErase (cfgBase 1) 1).flash 0xFF (cfgBase c + k) = 0xFF := by
  rw [State.flashErase_get, State.flashErase_get]
  obtain rfl | rfl : c = 0 ∨ c = 1 := by omega
  · split
    · rfl
    · rw [if_pos (by omega)]
  · rw [if_pos (by omega)]

theorem State.cfgOther_busy (h : s.cfgBusy = true) (c : Nat) : s.cfgOther c = s := if_pos h

theorem State.cfgOther_refused (h : s.cfgBusy = false) (c : Nat) : s.cfgOther c = s.cmdStatus O.CFG_STATUS 0 c 4 := if_neg (by simp [h])

/-! Completions (R393, R394). -/

theorem State.commitDone_idle (h : s.falri.job = none ∨ s.falri.jobKind ≠ 1) (v : Bool) : s.commitDone v = s := by
  unfold State.commitDone
  split
  · rfl
  · next j hj => exact if_pos (h.resolve_left (by simp [hj]))

theorem State.installDone_idle (h : s.falri.job = none ∨ s.falri.jobKind ≠ 2) (v : Bool) : s.installDone v = s := by
  unfold State.installDone
  split
  · rfl
  · next j hj => exact if_pos (h.resolve_left (by simp [hj]))

/-- A commit that verifies is loaded under its SEQ; one that does not fails with VERIFY. -/
theorem State.commitDone_ends {j : FlashJob} (hj : s.falri.job = some j) (hk : s.falri.jobKind = 1) :
    s.commitDone true = (((((s.programCopy j true).endJob).setObj O.CFG_LOADED j.copy).setObj O.CFG_SEQ j.seq).endStatus
      O.CFG_STATUS 0 2).raise O.DICT_FLAGS 6 ∧
    s.commitDone false = (((s.programCopy j false).endJob).endStatus O.CFG_STATUS 0 5 1).raise O.DICT_FLAGS 7 := by
  simp [State.commitDone, hj, hk]

theorem State.installDone_ends {j : FlashJob} (hj : s.falri.job = some j) (hk : s.falri.jobKind = 2) :
    s.installDone true = ((s.programCopy j true).endJob).endStatus O.CFG_STATUS 0 2 ∧
    s.installDone false = ((s.programCopy j false).endJob).endStatus O.CFG_STATUS 0 5 1 := by
  simp [State.installDone, hj, hk]

/-! The commands on the store. -/

theorem cfgCommands_busy (hh : s.held = false) (hb : s.cfgBusy = true) :
    exec .cfgCommit s = .next s ∧ exec .install s = .next s ∧ exec .eraseBoth s = .next s ∧ ∀ c, exec (.cfgCmdOther c) s = .next s :=
  ⟨runKeep_same hh (State.cfgCommit_busy hb), runKeep_same hh (State.cfgInstall_busy hb), runKeep_same hh (State.cfgErase_busy hb),
    fun c => runKeep_same hh (by simp [State.cfgOther_busy hb])⟩

/-- A command that is answered at once with a status and a reason. -/
theorem runKeep_cfgAnswered {f : State → State} {c st r : Nat} (hh : s.held = false) (hf : f s = s.cmdStatus O.CFG_STATUS 0 c st r)
    (hst : st < 16) (hr : r < 16) :
    ∃ t, runKeep s f = .next t ∧ t.status O.CFG_STATUS 0 = st ∧ bits (t.obj O.CFG_STATUS 0) 15 12 = r ∧ t.only s [] [keyOf O.CFG_STATUS] :=
  have ho : (s.cmdStatus O.CFG_STATUS 0 c st r).only s [] [keyOf O.CFG_STATUS] := State.only_cmdStatus _ _ _ (s.only_refl _ _) (by decide)
  ⟨_, runKeep_eq hh hf ho (by decide), (s.cfgStatus_cmd c st r).trans (Nat.mod_eq_of_lt hst),
    (s.cfgReason_cmd c st r).trans (Nat.mod_eq_of_lt hr), ho⟩

theorem cfgCommit_begins (hh : s.held = false) (hb : s.cfgBusy = false) (hl : s.commitBody.length ≤ bodyMax) :
    ∃ t h, exec .cfgCommit s = .next t ∧ t.status O.CFG_STATUS 0 = 1 ∧ t.falri = { s.falri with
        jobKind := 1, job := some { copy := s.nextCopy, seq := s.nextCfgSeq, body := s.commitBody, hdr := h } } ∧
      (∀ a, Tab.get t.flash 0xFF a = if cfgBase s.nextCopy ≤ a ∧
        a < cfgBase s.nextCopy + 65536 * sectorsOf s.commitBody.length then 0xFF else Tab.get s.flash 0xFF a) ∧
      t.only s [.falri, .flash, .free] [keyOf O.CFG_STATUS] := by
  obtain ⟨hdr, hbegins⟩ := State.cfgCommit_begins hb hl
  have ho : (s.fresh.beginJob 1 hdr s.commitBody).only s [.falri, .flash, .free] [keyOf O.CFG_STATUS] :=
    State.only_trans (State.only_mono (s.fresh.beginJob_only 1 hdr s.commitBody) (by decide) (by decide))
      (State.only_fresh (s.only_refl _ _) (by decide))
  exact ⟨_, hdr, runKeep_eq hh hbegins ho (by decide), State.beginJob_status _ _ _ _, rfl, s.flashErase_get _ _, ho⟩

theorem install_begins (hh : s.held = false) (hb : s.cfgBusy = false) (hi : imageOkFor cfgMagic (s.blob O.CFG_UPLOAD).bytes = true) :
    ∃ t h, exec .install s = .next t ∧ t.status O.CFG_STATUS 0 = 1 ∧ t.falri.jobKind = 2 ∧
      t.falri.job = some ⟨s.nextCopy, s.nextCfgSeq, ((s.blob O.CFG_UPLOAD).bytes.drop 32).take
        (octets (s.blob O.CFG_UPLOAD).bytes 8 4), h⟩ ∧
      t.only s [.falri, .flash] [keyOf O.CFG_STATUS] := by
  obtain ⟨hdr, hbegins⟩ := State.cfgInstall_begins hb hi
  exact ⟨_, hdr, runKeep_eq hh hbegins (s.beginJob_only 2 hdr _) (by decide), State.beginJob_status _ _ _ _, rfl, rfl,
    s.beginJob_only 2 hdr _⟩

theorem eraseBoth_begins (hh : s.held = false) (hb : s.cfgBusy = false) :
    ∃ t, exec .eraseBoth s = .next t ∧ t.status O.CFG_STATUS 0 = 1 ∧ t.falri = { s.falri with jobKind := 3, job := none } ∧
      (∀ c < 2, ∀ k < 65536, Tab.get t.flash 0xFF (cfgBase c + k) = 0xFF) ∧ t.only s [.falri, .flash] [keyOf O.CFG_STATUS] := by
  have herase : ((s.flashErase (cfgBase 0) 1).flashErase (cfgBase 1) 1).only s [.falri, .flash] [keyOf O.CFG_STATUS] :=
    State.only_flashErase _ _ (State.only_flashErase _ _ (s.only_refl _ _) (by decide)) (by decide)
  have ho := State.only_modFalri' Falri.eraseBegun (State.only_cmdStatus (o := O.CFG_STATUS) (sub := 0) 3 1 0 herase (by decide))
    (by decide) rfl
  refine ⟨_, runKeep_eq hh (State.cfgErase_begins hb) ho (by decide), ?_, rfl, fun c hc k hk => State.flashErase_both hc hk, ho⟩
  rw [State.status, State.modFalri_obj]
  exact State.cfgStatus_cmd _ _ _ _

theorem commitComplete_verified {j : FlashJob} (hh : s.held = false) (hj : s.falri.job = some j) (hk : s.falri.jobKind = 1)
    (hl : j.hdr.length = 32) :
    ∃ t, exec (.commitComplete true) s = .next t ∧ t.obj O.CFG_LOADED = j.copy % 256 ∧ t.obj O.CFG_SEQ = j.seq % 2 ^ 32 ∧
      t.status O.CFG_STATUS 0 = 2 ∧ t.obj O.DICT_FLAGS = (s.obj O.DICT_FLAGS ||| 64) % 2 ^ 32 ∧
      t.flashRead (cfgBase j.copy) 32 = j.hdr ∧ t.flashRead (cfgBase j.copy + 32) j.body.length = j.body ∧
      t.falri.job = none ∧ t.only s (.falri :: .flash :: flagParts)
        (keyOf O.CFG_LOADED :: keyOf O.CFG_SEQ :: keyOf O.CFG_STATUS :: flagKeys O.DICT_FLAGS) := by
  have hends := (State.commitDone_ends hj hk).1
  have hcopy : (s.programCopy j true).endJob.only s [.falri, .flash] [] :=
    State.only_endJob (State.only_mono (s.programCopy_true_only j) (by decide) (by decide)) (by decide)
  have hset : (((s.programCopy j true).endJob.setObj O.CFG_LOADED j.copy).setObj O.CFG_SEQ j.seq |>.endStatus O.CFG_STATUS 0 2).only s
      (.falri :: .flash :: flagParts) (keyOf O.CFG_LOADED :: keyOf O.CFG_SEQ :: keyOf O.CFG_STATUS :: flagKeys O.DICT_FLAGS) :=
    State.only_endStatus _ _ (State.only_setObj _ (State.only_setObj _ (State.only_mono hcopy (by decide) (by decide)) (by decide))
      (by decide)) (by decide)
  have ho := State.only_raise (o := O.DICT_FLAGS) 6 O.DICT_FLAGS.lo hset (by decide) (by decide)
  obtain ⟨hhdr, hbody⟩ := (s.programCopy_holds hl)
  refine ⟨_, runKeep_eq hh hends ho (by decide), ?_, ?_, ?_, ?_, ?_, ?_, ?_, ho⟩
  · rw [State.raise_dictObj _ _ (by decide) (by decide) (by decide), State.endStatus, State.setStatus_obj_ne _ _ _ _ _ _ _ (by decide),
      State.obj_setObj_ne _ _ (by decide), State.obj_setObj_same]
    rfl
  · rw [State.raise_dictObj _ _ (by decide) (by decide) (by decide), State.endStatus, State.setStatus_obj_ne _ _ _ _ _ _ _ (by decide),
      State.obj_setObj_same]
    rfl
  · exact (State.status_of_obj (State.raise_dictObj _ _ (by decide) (by decide) (by decide))).trans (State.cfgStatus_end _ _ _)
  · rw [State.raise_dictFlags, State.endStatus, State.setStatus_obj_ne _ _ _ _ _ _ _ (by decide), State.obj_setObj_ne _ _ (by decide),
      State.obj_setObj_ne _ _ (by decide), State.only_obj hcopy (by decide)]
    rfl
  · simpa [State.flashRead, State.endJob_flash] using hhdr
  · simpa [State.flashRead, State.endJob_flash] using hbody
  · exact State.raise_job _ _

theorem commitComplete_failed {j : FlashJob} (hh : s.held = false) (hj : s.falri.job = some j) (hk : s.falri.jobKind = 1) :
    ∃ t, exec (.commitComplete false) s = .next t ∧ t.status O.CFG_STATUS 0 = 5 ∧ bits (t.obj O.CFG_STATUS 0) 15 12 = 1 ∧
      t.obj O.DICT_FLAGS = (s.obj O.DICT_FLAGS ||| 128) % 2 ^ 32 ∧ t.falri.job = none ∧
      t.only s (.falri :: .flash :: .free :: flagParts) (keyOf O.CFG_STATUS :: flagKeys O.DICT_FLAGS) := by
  have hends := (State.commitDone_ends hj hk).2
  have hcopy : (s.programCopy j false).endJob.only s [.falri, .flash, .free] [] :=
    State.only_endJob (State.only_mono (s.programCopy_only j false) (by decide) (by decide)) (by decide)
  have hset : ((s.programCopy j false).endJob.endStatus O.CFG_STATUS 0 5 1).only s
      (.falri :: .flash :: .free :: flagParts) (keyOf O.CFG_STATUS :: flagKeys O.DICT_FLAGS) :=
    State.only_endStatus _ _ (State.only_mono hcopy (by decide) (by decide)) (by decide)
  have ho := State.only_raise (o := O.DICT_FLAGS) 7 O.DICT_FLAGS.lo hset (by decide) (by decide)
  refine ⟨_, runKeep_eq hh hends ho (by decide), ?_, ?_, ?_, State.raise_job _ _, ho⟩
  · exact (State.status_of_obj (State.raise_dictObj _ _ (by decide) (by decide) (by decide))).trans (State.cfgStatus_end _ _ _)
  · rw [State.raise_dictObj _ _ (by decide) (by decide) (by decide)]
    exact State.cfgReason_end _ _ _
  · rw [State.raise_dictFlags, State.endStatus, State.setStatus_obj_ne _ _ _ _ _ _ _ (by decide), State.only_obj hcopy (by decide)]
    rfl

theorem installComplete_verified {j : FlashJob} (hh : s.held = false) (hj : s.falri.job = some j) (hk : s.falri.jobKind = 2)
    (hl : j.hdr.length = 32) :
    ∃ t, exec (.installComplete true) s = .next t ∧ t.status O.CFG_STATUS 0 = 2 ∧ t.falri.job = none ∧
      t.flashRead (cfgBase j.copy) 32 = j.hdr ∧ t.flashRead (cfgBase j.copy + 32) j.body.length = j.body ∧
      t.only s [.falri, .flash] [keyOf O.CFG_STATUS] := by
  have hcopy := State.only_mono (ks' := [keyOf O.CFG_STATUS]) (s.programCopy_true_only j) (l' := [.falri, .flash]) (by decide) (by decide)
  have ho := State.only_endStatus (o := O.CFG_STATUS) (sub := 0) 2 0 (State.only_endJob hcopy (by decide)) (by decide)
  obtain ⟨hhdr, hbody⟩ := s.programCopy_holds hl
  exact ⟨_, runKeep_eq hh (State.installDone_ends hj hk).1 ho (by decide), State.cfgStatus_end _ _ _, rfl, hhdr, hbody, ho⟩

theorem installComplete_failed {j : FlashJob} (hh : s.held = false) (hj : s.falri.job = some j) (hk : s.falri.jobKind = 2) :
    ∃ t, exec (.installComplete false) s = .next t ∧ t.status O.CFG_STATUS 0 = 5 ∧ t.falri.job = none ∧
      t.only s [.falri, .flash, .free] [keyOf O.CFG_STATUS] := by
  have hcopy := State.only_mono (ks' := [keyOf O.CFG_STATUS]) (s.programCopy_only j false) (l' := [.falri, .flash, .free])
    (by decide) (by decide)
  have ho := State.only_endStatus (o := O.CFG_STATUS) (sub := 0) 5 1 (State.only_endJob hcopy (by decide)) (by decide)
  exact ⟨_, runKeep_eq hh (State.installDone_ends hj hk).2 ho (by decide), State.cfgStatus_end _ _ _, rfl, ho⟩

theorem eraseComplete_ends (hh : s.held = false) (hk : s.falri.jobKind = 3) :
    ∃ t, exec .eraseComplete s = .next t ∧ t.status O.CFG_STATUS 0 = 2 ∧
      t.falri = { s.falri with job := none, jobKind := 0 } ∧ t.only s [.falri] [keyOf O.CFG_STATUS] := by
  have ho : (s.endJob.endStatus O.CFG_STATUS 0 2).only s [.falri] [keyOf O.CFG_STATUS] :=
    State.only_endStatus _ _ (State.only_endJob (s.only_refl _ _) (by decide)) (by decide)
  exact ⟨_, runKeep_eq hh (if_pos hk) ho (by decide), State.cfgStatus_end _ _ _, rfl, ho⟩

theorem cfgCmdOther_refused (hh : s.held = false) (hb : s.cfgBusy = false) {c : Byte} (hc : c.toNat = 0 ∨ 3 < c.toNat) :
    ∃ t, exec (.cfgCmdOther c) s = .next t ∧ t.status O.CFG_STATUS 0 = 4 ∧ t.only s [] [keyOf O.CFG_STATUS] := by
  obtain ⟨t, ht, hst, -, ho⟩ := runKeep_cfgAnswered (f := fun s => if 1 ≤ c.toNat ∧ c.toNat ≤ 3 then s else s.cfgOther c.toNat) hh
    ((if_neg (by omega)).trans (State.cfgOther_refused hb c.toNat)) (by decide) (by decide)
  exact ⟨t, ht, hst, ho⟩

end Sys2Proof.Machine

open Sys2Proof Sys2Proof.Machine

/-- Settles O38, command by command: CFG_STATUS says how each ends, and a copy programmed is read back header and body. -/
theorem configStoreWorks : Obligations.ConfigStoreWorks := by
  unfold Obligations.ConfigStoreWorks
  exact ⟨fun s hh hb => cfgCommands_busy hh hb,
    fun s hh hb hl => runKeep_cfgAnswered hh (State.cfgCommit_tooLong hb hl) (by decide) (by decide),
    fun s hh hb hl => cfgCommit_begins hh hb hl,
    fun s hh hb hi => runKeep_cfgAnswered hh (State.cfgInstall_bad hb hi) (by decide) (by decide),
    fun s hh hb hi => install_begins hh hb hi,
    fun s hh hb => eraseBoth_begins hh hb,
    fun s v hh hj => runKeep_same hh (State.commitDone_idle hj v),
    fun s v hh hj => runKeep_same hh (State.installDone_idle hj v),
    fun s hh hk => runKeep_same hh (if_neg hk),
    fun s j hh hj hk hl => commitComplete_verified hh hj hk hl,
    fun s j hh hj hk => commitComplete_failed hh hj hk,
    fun s j hh hj hk hl => installComplete_verified hh hj hk hl,
    fun s j hh hj hk => installComplete_failed hh hj hk,
    fun s hh hk => eraseComplete_ends hh hk,
    fun s c hh hb hc => cfgCmdOther_refused hh hb hc,
    fun s c hh h1 h3 => runKeep_same hh (if_pos ⟨h1, h3⟩)⟩
end

section
/-! SUPPORT. The Falri service (R368 to R386): what a message that leaves touches, what the answer of a request leaves behind, and how a
message that the part takes is served. -/

namespace Sys2Proof.Machine

variable {s t u : State} {l : List Part} {ks : List Nat}

/-! Changes beside the service. -/

/-- A change outside the service and its NOTIFY bits leaves both. -/
theorem State.only_falri_eq (h : t.only s l ks) (hl : .falri ∉ l) (hn : .notify ∉ l) : t.falri = s.falri := by
  have hnotify : t.falri.notify = s.falri.notify := h.1 .notify hn
  rw [State.only_falri h hl, hnotify]

theorem State.only_mbHeld (h : t.only s l ks) (hl : .falri ∉ l) : t.falri.mbHeld = s.falri.mbHeld := by rw [State.only_falri h hl]

theorem State.keeping_of_only {f : State → State} (h : (f s).only s l ks) (hl : .hearth ∉ l) : s.keeping f = f s :=
  State.keeping_eq s (h.1 .hearth hl)

/-- The service but for what a message that leaves may move: the responses kept, the mailbox's queues, the NOTIFY bits. -/
def Falri.work (f : Falri) : Falri := { f with dups := [], notify := [], mbHeld := none, mbWait := [], mbNotes := [] }

theorem State.only_work (h : t.only s l ks) (hl : .falri ∉ l) : t.falri.work = s.falri.work := by
  rw [State.only_falri h hl]
  rfl

/-! A message leaves (R381 to R386). -/

theorem State.only_sendPort (p da : Nat) (tag : Option (BitVec 32)) (m : Bytes) (h : t.only s l ks) (ho : .out ∈ l) (hn : .lanes ∈ l)
    (hp : .lports ∈ l) : (t.sendPort p da tag m).only s l ks := by
  unfold State.sendPort
  split
  · split
    · exact h
    · have hstream := (State.stream_streams (s := t.modLPort p fun x => { x with mgmt := x.mgmt ++ fragments m }) p []).frame
      have hwide := State.only_mono hstream (l' := l) (ks' := ks) (by simp [ho, hn, hp]) (by simp)
      exact State.only_trans hwide (State.only_modLPort _ _ h hp)
  · exact State.only_emit _ h ho

theorem State.mbHold_only (s : State) (m : Bytes) (note : Bool) : (s.mbHold m note).only s (.falri :: .free :: flagParts) wakeKeys :=
  State.only_sharedEvent _ (State.only_modFalri' _ (s.only_refl _ _) (by decide) rfl) (by decide) (by decide) fun _ hk => hk

theorem State.mbDeliver_only (s : State) (m : Bytes) (note : Bool) :
    (s.mbDeliver m note).only s (.falri :: .free :: flagParts) wakeKeys := by
  unfold State.mbDeliver
  split
  · exact s.mbHold_only m note
  · exact State.only_ite (State.only_modFalri' _ (s.only_refl _ _) (by decide) rfl)
      (State.only_modFalri' _ (s.only_refl _ _) (by decide) rfl)

theorem State.sendPath_only (s : State) (path da : Nat) (tag : Option (BitVec 32)) (m : Bytes) :
    (s.sendPath path da tag m).only s falriParts wakeKeys := by
  unfold State.sendPath
  split
  · exact State.only_mono (s.mbDeliver_only m false) (by decide) fun _ hk => hk
  · exact State.only_ite (State.only_emit _ (s.only_refl _ _) (by decide))
      (State.only_sendPort _ _ _ _ (s.only_refl _ _) (by decide) (by decide) (by decide))

theorem State.mbHold_work (s : State) (m : Bytes) (note : Bool) : (s.mbHold m note).falri.work = s.falri.work := by
  rw [State.mbHold, State.only_work (State.sharedEvent_only _ 140) (by decide)]
  rfl

/-- The mailbox that was free holds the message. -/
theorem State.mbHold_mbHeld (s : State) (m : Bytes) (note : Bool) : (s.mbHold m note).falri.mbHeld = some (m, note) := by
  rw [State.mbHold, State.only_mbHeld (State.sharedEvent_only _ 140) (by decide)]
  rfl

theorem State.mbDeliver_free (h : s.falri.mbHeld = none) (m : Bytes) (note : Bool) : s.mbDeliver m note = s.mbHold m note :=
  if_pos (by simp [h])

theorem State.mbDeliver_work (s : State) (m : Bytes) (note : Bool) : (s.mbDeliver m note).falri.work = s.falri.work := by
  unfold State.mbDeliver
  split
  · exact s.mbHold_work m note
  · split <;> rfl

theorem State.sendPath_work (s : State) (path da : Nat) (tag : Option (BitVec 32)) (m : Bytes) :
    (s.sendPath path da tag m).falri.work = s.falri.work := by
  unfold State.sendPath
  split
  · exact s.mbDeliver_work m false
  · split
    · rfl
    · exact State.only_work (l := [.out, .lanes, .lports]) (ks := [])
        (State.only_sendPort _ _ _ _ (s.only_refl _ _) (by decide) (by decide) (by decide)) (by decide)

/-! The answer of a request (R377, R381). -/

theorem State.answer_only (s : State) (p : Path) (h : FalriHdr) (m : Msg) (r : Reply) : (s.answer p h m r).only s falriParts wakeKeys := by
  unfold State.answer
  exact State.only_modFalri' _ (s.sendPath_only _ _ _ _) (by decide) rfl

theorem State.answer_work (s : State) (p : Path) (h : FalriHdr) (m : Msg) (r : Reply) : (s.answer p h m r).falri.work = s.falri.work :=
  s.sendPath_work (pathCode p) h.sa.toNat h.tag (s.responseTo m r).bytes

/-- A response names its part by its DEVICE_ID alone. -/
theorem State.responseTo_of_deviceId (h : t.obj O.DEVICE_ID = s.obj O.DEVICE_ID) (m : Msg) (r : Reply) :
    t.responseTo m r = s.responseTo m r := by
  have hown : t.ownAddr = s.ownAddr := by rw [State.ownAddr, State.ownAddr, State.deviceId, State.deviceId, h]
  rw [State.responseTo, State.responseTo, hown]

/-- A port's number is neither the chain's nor HBUS's. -/
theorem pathCode_eq_hbus (p : Path) : pathCode p = hbusPath ↔ p = .hbus := by
  cases p with
  | port q => simp [pathCode, hbusPath]; omega
  | chain => simp [pathCode, hbusPath, chainPath]
  | hbus => simp [pathCode]

/-- The request has been answered, if the mailbox was as free as before when its answer left. -/
theorem State.answer_answered (p : Path) (h : FalriHdr) (m : Msg) (r : Reply) (hm : u.falri.mbHeld = s.falri.mbHeld) :
    (u.answer p h m r).answered s p m r := by
  have hsame : (u.answer p h m r).responseTo m r = u.responseTo m r :=
    State.responseTo_of_deviceId (State.only_obj (u.answer_only p h m r) (by decide)) m r
  rw [State.answered, hsame]
  refine ⟨rfl, ?_, ?_⟩
  · rintro rfl
    rfl
  · rintro rfl hfree
    have hheld := (u.mbHold_mbHeld (u.responseTo m r).bytes false)
    rw [← State.mbDeliver_free (hm.trans hfree)] at hheld
    exact hheld

/-! Counting a request. -/

/-- A request has been counted. -/
abbrev State.heard (s : State) : State := s.count O.FALRI_RX

theorem State.heard_only (s : State) : s.heard.only s [] [keyOf O.FALRI_RX] := State.only_count _ _ _ (s.only_refl _ _) (by decide)

theorem State.heard_falri (s : State) : s.heard.falri = s.falri := s.count_falri _ _ _

theorem State.heard_obj (s : State) {o : Obj} {j : Nat} (h : o.key j ≠ keyOf O.FALRI_RX) : s.heard.obj o j = s.obj o j :=
  s.count_obj_ne h

/-! A message that the part takes (R368, R369, R377, R383). -/

/-- A request for this part is served as its own. -/
theorem State.messageIn_own {p : Path} {m : Msg} (h : FalriHdr) (hb : bodyOk m = true) (hop : m.op < 128) (h10 : m.op ≠ 10)
    (hl : s.learnDev (pathCode p) m.src = s) (hr : s.headRemoves (pathCode p) m.src = false)
    (hd : s.ownDst (pathCode p) m.dst = true) : s.messageIn p h m = s.ownRequest p h m := by
  have hlearn : s.keeping (·.learnDev (pathCode p) m.src) = s := (s.keeping_eq (by rw [hl])).trans hl
  simp only [State.messageIn, hb, hlearn, State.requestIn, hr, hd, h10, Nat.not_le.mpr hop, if_true, if_false, Bool.not_true,
    Bool.false_eq_true]

/-- How a request that has been served ends: with its answer, if it has one (R377). -/
def State.finished (p : Path) (h : FalriHdr) (m : Msg) : Option Reply × State → State
  | (some r, t) => t.keeping (·.answer p h m r)
  | (none, t) => t

/-- A request that repeats none of the last second and goes to this part alone is counted and served. -/
theorem State.ownRequest_alone {p : Path} {m : Msg} (h : FalriHdr) (hk : addrKind m.dst ≠ 2) (hd : s.duplicate (pathCode p) m = none) :
    s.ownRequest p h m = State.finished p h m (s.heard.serveRequest p h m) := by
  have hcount : (s.keeping fun s => let u := s.count O.FALRI_RX
      if addrKind m.dst ≠ 2 then u
      else
        let v := u.relayAll (pathCode p) m
        if p = .chain then v.emit (.message chainPath m.bytes) else v) = s.heard := by
    simp only [if_pos hk]
    exact s.keeping_eq (by simp)
  simp only [State.ownRequest, hd]
  rw [hcount]
  rfl

/-- A request that is taken and answered ends with its answer. -/
theorem State.messageIn_answered {p : Path} {m : Msg} {r : Reply} (h : FalriHdr) (ht : s.takes p m) (hop : m.op < 128) (h10 : m.op ≠ 10)
    (hs : s.heard.serveRequest p h m = (some r, u)) : s.messageIn p h m = u.answer p h m r := by
  obtain ⟨-, hb, hd, hk, hr, hl, hdup⟩ := ht
  rw [State.messageIn_own h hb hop h10 hl hr hd, State.ownRequest_alone h hk hdup, hs]
  exact State.keeping_of_only (f := (·.answer p h m r)) (u.answer_only p h m r) (by decide)

/-- What is said of a request that is taken and answered: `u` is the state that it is served in. -/
theorem run_answered {p : Path} {m : Msg} {r : Reply} (h : FalriHdr) (ht : s.takes p m) (hop : m.op < 128) (h10 : m.op ≠ 10)
    (hs : s.heard.serveRequest p h m = (some r, u)) (hm : u.falri.mbHeld = s.falri.mbHeld) :
    ∃ t, run s (·.messageIn p h m) = .next t ∧ t.answered s p m r ∧ t.falri.work = u.falri.work ∧ t.only u falriParts wakeKeys :=
  ⟨_, (run_next _ _ ht.1).trans (congrArg _ (State.messageIn_answered h ht hop h10 hs)), State.answer_answered p h m r hm,
    u.answer_work p h m r, u.answer_only p h m r⟩

/-- The same for a request of one of the ten opcodes below NOTIFY. -/
theorem run_msgAnswered {p : Path} {h : FalriHdr} {op count : Nat} {b : Bytes} {r : Reply} (ht : s.takes p (msgOf h op count b))
    (hop : op < 10) (hs : s.heard.serveRequest p h (msgOf h op count b) = (some r, u)) (hm : u.falri.mbHeld = s.falri.mbHeld) :
    ∃ t, run s (·.messageIn p h (msgOf h op count b)) = .next t ∧ t.answered s p (msgOf h op count b) r ∧
      t.falri.work = u.falri.work ∧ t.only u falriParts wakeKeys :=
  run_answered h ht (show op < 128 by omega) (show op ≠ 10 by omega) hs hm

/-- A request that is taken and not answered. -/
theorem run_unanswered {p : Path} {m : Msg} (h : FalriHdr) (ht : s.takes p m) (hop : m.op < 128) (h10 : m.op ≠ 10)
    (hs : s.heard.serveRequest p h m = (none, u)) : run s (·.messageIn p h m) = .next u := by
  obtain ⟨hh, hb, hd, hk, hr, hl, hdup⟩ := ht
  rw [run_next _ _ hh, State.messageIn_own h hb hop h10 hl hr hd, State.ownRequest_alone h hk hdup, hs, State.finished]

end Sys2Proof.Machine
end

section
/-! PROOF. Requests of Falri (R371 to R380, R387, R406, R408): the octets of their items, how BLOCK_READ, BLOCK_WRITE, COMMIT, DISCOVER
and ASSIGN_ID are served, and O36 from them. -/

namespace Sys2Proof.Machine

variable {s t u : State} {l : List Part} {ks : List Nat}

/-! Octets of numbers (R5). -/

theorem ofBe_foldl (l : Bytes) (a : Nat) : l.foldl (fun a b => a * 256 + b.toNat) a = a * 256 ^ l.length + ofBe l := by
  induction l generalizing a with
  | nil => simp [ofBe]
  | cons b l ih =>
    rw [ofBe, List.foldl_cons, List.foldl_cons, ih, ih (0 * 256 + b.toNat), List.length_cons, pow_succ]
    ring

/-- Octets that are written most significant first are read back in their width. -/
@[simp] theorem ofBe_beBytes (n v : Nat) : ofBe (beBytes n v) = v % 256 ^ n := by
  induction n with
  | zero => simp [beBytes, ofBe, Nat.mod_one]
  | succ n ih =>
    rw [beBytes, ofBe, List.foldl_cons, ofBe_foldl, ih, Sys2Proof.Tests.beBytes_length, BitVec.toNat_ofNat, Nat.zero_mul, Nat.zero_add,
      pow_succ 256 n, Nat.mod_mul, Nat.mul_comm, Nat.add_comm]

/-- A field of a message is the number that was written in its place. -/
theorem octets_of_beBytes {b : Bytes} {k n v : Nat} (h : (b.drop k).take n = beBytes n v) (hv : v < 256 ^ n) : octets b k n = v := by
  rw [octets, h, ofBe_beBytes, Nat.mod_eq_of_lt hv]

/-- A BLOCK_READ item is read as it was written (R375). -/
theorem BlockReadItem.octets_bytes (i : BlockReadItem) :
    octets (BlockReadItem.bytes i) 0 2 = i.index.toNat ∧ octets (BlockReadItem.bytes i) 2 1 = i.sub.toNat ∧
      octets (BlockReadItem.bytes i) 4 4 = i.offset.toNat ∧
      octets (BlockReadItem.bytes i) 8 2 = i.dlen.toNat :=
  ⟨octets_of_beBytes rfl i.index.isLt, octets_of_beBytes rfl i.sub.isLt, octets_of_beBytes rfl i.offset.isLt,
    octets_of_beBytes rfl i.dlen.isLt⟩

/-- A BLOCK_WRITE item's header is read as it was written (R376). -/
theorem BlockWriteItem.octets_bytes (i : BlockWriteItem) :
    octets (BlockWriteItem.bytes i) 0 2 = i.index.toNat ∧ octets (BlockWriteItem.bytes i) 2 1 = i.sub.toNat ∧
      octets (BlockWriteItem.bytes i) 3 1 = i.flags.toNat ∧
      octets (BlockWriteItem.bytes i) 4 4 = i.offset.toNat ∧ octets (BlockWriteItem.bytes i) 8 4 = i.total.toNat :=
  ⟨octets_of_beBytes rfl i.index.isLt, octets_of_beBytes rfl i.sub.isLt, octets_of_beBytes rfl i.flags.isLt,
    octets_of_beBytes rfl i.offset.isLt, octets_of_beBytes rfl i.total.isLt⟩

/-- The octets of a BLOCK_WRITE item that a message has room for. -/
theorem BlockWriteItem.data_bytes (i : BlockWriteItem) (h : i.data.length < 65536) :
    ((BlockWriteItem.bytes i).drop 14).take (octets (BlockWriteItem.bytes i) 12 2) = i.data := by
  have hdlen : octets (BlockWriteItem.bytes i) 12 2 = i.data.length := octets_of_beBytes rfl h
  have hdrop : (BlockWriteItem.bytes i).drop 14 = i.data := rfl
  rw [hdlen, hdrop, List.take_length]

/-- An ASSIGN_ID's payload is read as it was written (R378). -/
theorem octets_assign (x : BitVec 64) (d : BitVec 16) :
    octets (beBytes 8 x.toNat ++ beBytes 2 d.toNat) 0 8 = x.toNat ∧ octets (beBytes 8 x.toNat ++ beBytes 2 d.toNat) 8 2 = d.toNat :=
  ⟨octets_of_beBytes rfl x.isLt, octets_of_beBytes rfl d.isLt⟩

/-! What counting a request leaves to its service. -/

theorem State.heard_mayWritePath (s : State) (p : Nat) : s.heard.mayWritePath p = s.mayWritePath p := by
  rw [State.mayWritePath, State.mayWritePath, s.heard_obj (o := O.GATE_CHAIN) (by decide), s.heard_obj (o := O.GATE_PORTS) (by decide)]

theorem State.heard_cfgBusy (s : State) : s.heard.cfgBusy = s.cfgBusy := by
  rw [State.cfgBusy, State.cfgBusy, State.status_of_obj (s.heard_obj (by decide))]

theorem State.heard_segmentStatus (s : State) (p : Bytes) : s.heard.segmentStatus p = s.segmentStatus p := by
  unfold State.segmentStatus
  rw [s.heard_falri]

theorem State.heard_discoverPayload (s : State) : s.heard.discoverPayload = s.discoverPayload := by
  rw [State.discoverPayload, State.discoverPayload, State.deviceId, State.deviceId, s.heard_obj (o := O.MAC_ACT) (by decide),
    s.heard_obj (o := O.DEVICE_ID) (by decide), s.heard_obj (o := O.CHAIN_ADDR_ACT) (by decide), State.modeStrap, State.modeStrap,
    State.count_power, State.count_fuses]

theorem State.heard_manager (s : State) : s.heard.manager = s.manager := by
  rw [State.manager, State.manager, State.modeStrap, State.modeStrap, State.count_power]

/-! Which service a request has (R371). -/

theorem State.serveRequest_blockRead {p : Path} {h : FalriHdr} {b : Bytes} {r : Reply}
    (hr : s.serveBlockRead (pathCode p) h.src.toNat b = (r, t)) :
    s.serveRequest p h (msgOf h 5 1 b) = (some r, t) := by
  simp [State.serveRequest, msgOf, countOk, hr]

theorem State.serveRequest_blockWrite {p : Path} {h : FalriHdr} {b : Bytes} {r : Reply} (hw : s.mayWritePath (pathCode p) = true)
    (hr : s.serveBlockWrite (pathCode p) h.src.toNat b = (r, t)) : s.serveRequest p h (msgOf h 6 1 b) = (some r, t) := by
  simp [State.serveRequest, msgOf, countOk, hw, hr]

theorem State.serveRequest_commit {p : Path} (h : FalriHdr) {r : Reply} (hw : s.mayWritePath (pathCode p) = true)
    (hr : s.serveCommit = (r, t)) : s.serveRequest p h (msgOf h 7 0 []) = (some r, t) := by
  simp [State.serveRequest, msgOf, countOk, hw, hr]

theorem State.serveRequest_commitDenied {p : Path} (h : FalriHdr) (hw : s.mayWritePath (pathCode p) = false) :
    s.serveRequest p h (msgOf h 7 0 []) = (some ⟨stGatehouse, 0, []⟩, s.keeping (·.denied (pathCode p))) := by
  simp [State.serveRequest, msgOf, countOk, hw, State.serveDenied]

theorem State.serveRequest_discover {p : Path} {h : FalriHdr} (hk : addrKind h.dst.toNat ≠ 2) :
    s.serveRequest p h (msgOf h 8 0 []) = (some ⟨0, 0, s.discoverPayload⟩, s) := by
  simp [State.serveRequest, msgOf, countOk, hk]

/-- A DISCOVER with DST ALL waits for its delay (R380, R406). -/
theorem State.serveRequest_discoverAll {p : Path} {h : FalriHdr} (hk : addrKind h.dst.toNat = 2)
    (hd : s.falri.deferred.contains (h, p) = false) :
    s.serveRequest p h (msgOf h 8 0 []) =
      (none, s.keeping (·.modFalri fun f => { f with deferred := f.deferred ++ [(h, p)] })) := by
  simp only [State.serveRequest, msgOf, countOk, hk, hd, if_true]
  simp

theorem State.serveRequest_assign (s : State) (p : Path) (h : FalriHdr) (b : Bytes) :
    s.serveRequest p h (msgOf h 9 1 b) = s.serveAssign (s.mayWritePath (pathCode p)) (pathCode p) b := by
  simp [State.serveRequest, msgOf, countOk]

/-! The state behind an answer. -/

/-- Two states of the service with the same work agree but for the rest. -/
theorem Falri.eq_of_work {f g : Falri} (h : f.work = g.work) :
    f = { g with dups := f.dups, notify := f.notify, mbHeld := f.mbHeld, mbWait := f.mbWait, mbNotes := f.mbNotes } :=
  have hback := congrArg
    (fun w : Falri => { w with dups := f.dups, notify := f.notify, mbHeld := f.mbHeld, mbWait := f.mbWait, mbNotes := f.mbNotes }) h
  hback

/-- The frame of a request that is counted, served within `l` and `ks`, and answered. -/
theorem State.only_served (ht : t.only u falriParts wakeKeys) (hu : u.only s.heard l ks) :
    t.only s (l ++ falriParts) (keyOf O.FALRI_RX :: ks ++ wakeKeys) :=
  State.only_trans (State.only_mono ht (fun _ h => List.mem_append_right _ h) fun _ h => List.mem_append_right _ h)
    (State.only_trans (State.only_mono hu (fun _ h => List.mem_append_left _ h)
        fun _ h => List.mem_append_left _ (List.mem_cons_of_mem _ h))
      (State.only_mono s.heard_only (by simp) (by simp)))

/-- The same for a request whose service moves only the service itself. -/
theorem State.only_servedWithin (ht : t.only u falriParts wakeKeys) (hu : u.only s.heard [.falri] []) :
    t.only s falriParts (keyOf O.FALRI_RX :: wakeKeys) :=
  State.only_mono (State.only_served ht hu) (by decide) (by decide)

/-! BLOCK_READ (R375). -/

/-- What a read clears is not in the service. -/
theorem State.readClears_falri (s : State) (o : Obj) (sub : Nat) : (s.readClears o sub).falri = s.falri := by
  unfold State.readClears
  split
  · rfl
  split
  · unfold State.capRead
    split
    · rfl
    · exact s.modTdc_falri _ _
  split
  · exact s.modEng_falri _ _
  split
  · exact State.only_falri_eq (l := [.cellar]) (ks := []) (State.only_forEach _ (fun v q => State.only_modCellar _ (v.only_refl _ _)
      (by decide)) (s.only_refl _ _)) (by decide) (by decide)
  split
  · exact (State.modPower_falri _ _).trans (s.setObj_falri _ _ _)
  split
  · exact s.setBlob_falri _ _ _
  · exact s.setObj_falri _ _ _

theorem State.readClears_of_acc {o : Obj} (h : o.acc ≠ .rc) (sub : Nat) : s.readClears o sub = s := if_pos h

theorem State.only_useBuf (path src key : Nat) (v : Bytes) (h : t.only s l ks) (hl : .falri ∈ l) : (t.useBuf path src key v).only s l ks :=
  State.only_modFalri' _ h hl rfl

/-- BLOCK_READ from offset 0 reads the value, and its buffer is the newest. -/
theorem State.serveBlockRead_first {path src : Nat} {i : BlockReadItem} {o : Obj} (ho : findObj i.index.toNat i.sub.toNat = .obj o)
    (hacc : o.acc ≠ .wo) (hty : o.ty = .blob) (hoff : i.offset = 0) (h1 : 1 ≤ i.dlen.toNat) (h2 : i.dlen.toNat ≤ 1000) :
    s.serveBlockRead path src (BlockReadItem.bytes i) =
      (⟨0, 1, blockReadItem (BlockReadItem.bytes i) 0 (s.valueBytes o i.sub.toNat).length ((s.valueBytes o i.sub.toNat).take i.dlen.toNat)⟩,
        s.keeping fun _ => (s.readClears o i.sub.toNat).useBuf path src (o.key i.sub.toNat) (s.valueBytes o i.sub.toNat)) := by
  obtain ⟨hindex, hsub, hoffset, hdlen⟩ := BlockReadItem.octets_bytes i
  have hzero : i.offset.toNat = 0 := by rw [hoff]; rfl
  have hgood : ¬ (i.dlen.toNat = 0 ∨ 1000 < i.dlen.toNat) := by omega
  simp only [State.serveBlockRead, State.blockReadBlob, hindex, hsub, hoffset, hdlen, ho, hacc, hty, hzero, if_false, if_true,
    Nat.not_lt_zero, or_self, ne_eq, not_true_eq_false, not_or.mp hgood]

/-- BLOCK_READ of what is no object, no subindex or no BLOB. -/
theorem State.serveBlockRead_refused {path src st : Nat} {i : BlockReadItem}
    (h : (st = 1 ∧ findObj i.index.toNat i.sub.toNat = .noObject) ∨ (st = 2 ∧ findObj i.index.toNat i.sub.toNat = .noSub) ∨
      (st = 6 ∧ ∃ o, findObj i.index.toNat i.sub.toNat = .obj o ∧ o.acc ≠ .wo ∧ o.ty ≠ .blob)) :
    s.serveBlockRead path src (BlockReadItem.bytes i) = (⟨st, 1, blockReadItem (BlockReadItem.bytes i) st 0 []⟩, s) := by
  obtain ⟨hindex, hsub, -, -⟩ := BlockReadItem.octets_bytes i
  obtain ⟨rfl, ho⟩ | ⟨rfl, ho⟩ | ⟨rfl, o, ho, hacc, hty⟩ := h
  · simp only [State.serveBlockRead, hindex, hsub, ho]
  · simp only [State.serveBlockRead, hindex, hsub, ho]
  · simp only [State.serveBlockRead, hindex, hsub, ho, hacc, hty, if_false, ne_eq, not_false_eq_true, if_true]

theorem blockRead_first {p : Path} {h : FalriHdr} {i : BlockReadItem} {o : Obj} (ht : s.takes p (msgOf h 5 1 (BlockReadItem.bytes i)))
    (ho : findObj i.index.toNat i.sub.toNat = .obj o) (hacc : o.acc ≠ .wo) (hty : o.ty = .blob) (hoff : i.offset = 0)
    (h1 : 1 ≤ i.dlen.toNat) (h2 : i.dlen.toNat ≤ 1000) :
    ∃ t, exec (.blockRead p h i) s = .next t ∧
      t.answered s p (msgOf h 5 1 (BlockReadItem.bytes i)) ⟨0, 1, blockReadItem (BlockReadItem.bytes i) 0
        ((s.count O.FALRI_RX).valueBytes o i.sub.toNat).length
        (((s.count O.FALRI_RX).valueBytes o i.sub.toNat).take i.dlen.toNat)⟩ ∧
      (o.acc ≠ .rc → t.only s falriParts (keyOf O.FALRI_RX :: wakeKeys)) := by
  have hserve := State.serveRequest_blockRead (s := s.heard) (p := p) (h := h)
    (State.serveBlockRead_first ho hacc hty hoff h1 h2)
  have hmb : ((s.heard.readClears o i.sub.toNat).useBuf (pathCode p) h.src.toNat (o.key i.sub.toNat)
      (s.heard.valueBytes o i.sub.toNat)).falri.mbHeld = s.falri.mbHeld := by
    rw [← s.heard_falri, ← s.heard.readClears_falri o i.sub.toNat]
    rfl
  obtain ⟨t, hrun, hans, -, honly⟩ := run_msgAnswered ht (by decide) hserve hmb
  refine ⟨t, hrun, hans, fun hrc => State.only_servedWithin honly ?_⟩
  rw [State.readClears_of_acc hrc]
  exact State.only_keeping (State.only_useBuf _ _ _ _ (State.only_refl _ [.falri] []) (by decide))

theorem blockRead_refused {p : Path} {h : FalriHdr} {i : BlockReadItem} {st : Nat}
    (ht : s.takes p (msgOf h 5 1 (BlockReadItem.bytes i)))
    (hst : (st = 1 ∧ findObj i.index.toNat i.sub.toNat = .noObject) ∨ (st = 2 ∧ findObj i.index.toNat i.sub.toNat = .noSub) ∨
      (st = 6 ∧ ∃ o, findObj i.index.toNat i.sub.toNat = .obj o ∧ o.acc ≠ .wo ∧ o.ty ≠ .blob)) :
    ∃ t, exec (.blockRead p h i) s = .next t ∧
      t.answered s p (msgOf h 5 1 (BlockReadItem.bytes i)) ⟨st, 1, blockReadItem (BlockReadItem.bytes i) st 0 []⟩ ∧
      t.only s falriParts (keyOf O.FALRI_RX :: wakeKeys) := by
  have hserve := State.serveRequest_blockRead (s := s.heard) (p := p) (h := h) (State.serveBlockRead_refused hst)
  obtain ⟨t, hrun, hans, -, honly⟩ := run_msgAnswered ht (by decide) hserve (by rw [s.heard_falri])
  exact ⟨t, hrun, hans, State.only_servedWithin honly (State.only_refl _ _ _)⟩

/-! BLOCK_WRITE (R376). -/

/-- A message has room for a segment of less than 64 KiB. -/
theorem State.takes_data {p : Path} {h : FalriHdr} {i : BlockWriteItem} (ht : s.takes p (msgOf h 6 1 (BlockWriteItem.bytes i))) :
    i.data.length < 65536 := by
  obtain ⟨-, hbody, -⟩ := ht
  have hlen : (BlockWriteItem.bytes i).length = 14 + i.data.length := by
    simp only [BlockWriteItem.bytes, List.length_append, Sys2Proof.Tests.beBytes_length]
  have hroom : (BlockWriteItem.bytes i).length ≤ 1024 := of_decide_eq_true (Bool.and_eq_true_iff.mp hbody).1
  omega

/-- FIRST at offset 0 opens a staging buffer with the segment's octets. -/
theorem State.serveBlockWrite_first {path src : Nat} {i : BlockWriteItem} (hst : s.segmentStatus (BlockWriteItem.bytes i) = 0)
    (hflags : i.flags = 1) (hoff : i.offset = 0) (hlen : i.data.length < 65536) :
    s.serveBlockWrite path src (BlockWriteItem.bytes i) = (⟨0, 1, blockWriteItem (BlockWriteItem.bytes i) 0⟩,
      s.keeping (·.setStaging path src (some { path := path, src := src, key := i.index.toNat * 256 + i.sub.toNat,
                                               total := i.total.toNat, data := i.data, at_ := s.hearth.cycles }))) := by
  obtain ⟨hindex, hsub, hfl, hoffset, htotal⟩ := BlockWriteItem.octets_bytes i
  have hone : i.flags.toNat = 1 := by rw [hflags]; rfl
  have hzero : i.offset.toNat = 0 := by rw [hoff]; rfl
  have hbit0 : bit 1 0 = true := rfl
  have hbit1 : bit 1 1 = false := rfl
  simp only [State.serveBlockWrite, State.stagingFor, hst, hindex, hsub, hfl, hoffset, htotal, hone, hzero, hbit0, hbit1,
    BlockWriteItem.data_bytes i hlen, ne_eq, not_true_eq_false, if_false, if_true, Bool.false_eq_true, List.nil_append]

/-- A segment without a staging buffer is BLOCK_LOST. -/
theorem State.serveBlockWrite_lost {path src : Nat} {i : BlockWriteItem} (hst : s.segmentStatus (BlockWriteItem.bytes i) = 0)
    (hflags : i.flags.getLsbD 0 = false) (hnone : s.falri.staging = none) :
    s.serveBlockWrite path src (BlockWriteItem.bytes i) = (⟨11, 1, blockWriteItem (BlockWriteItem.bytes i) 11⟩,
      s.keeping (·.forgetLost path src)) := by
  obtain ⟨-, -, hfl, -, -⟩ := BlockWriteItem.octets_bytes i
  have hbit : bit i.flags.toNat 0 = false := hflags
  have hlost : s.stagingFor path src (BlockWriteItem.bytes i) = .error 11 := by
    simp only [State.stagingFor, hfl, hbit, hnone, Bool.false_eq_true, if_false, ite_self]
  simp only [State.serveBlockWrite, hst, hlost, ne_eq, not_true_eq_false, if_false, if_true]

theorem blockWrite_first {p : Path} {h : FalriHdr} {i : BlockWriteItem} (ht : s.takes p (msgOf h 6 1 (BlockWriteItem.bytes i)))
    (hw : s.mayWritePath (pathCode p) = true) (hst : s.segmentStatus (BlockWriteItem.bytes i) = 0) (hflags : i.flags = 1)
    (hoff : i.offset = 0) :
    ∃ t, exec (.blockWrite p h i) s = .next t ∧
      t.answered s p (msgOf h 6 1 (BlockWriteItem.bytes i)) ⟨0, 1, blockWriteItem (BlockWriteItem.bytes i) 0⟩ ∧
      t.falri.staging = some { path := pathCode p, src := h.src.toNat, key := i.index.toNat * 256 + i.sub.toNat,
                               total := i.total.toNat, data := i.data, at_ := s.hearth.cycles } ∧
      t.only s falriParts (keyOf O.FALRI_RX :: wakeKeys) := by
  have hserve := State.serveRequest_blockWrite (h := h) ((s.heard_mayWritePath _).trans hw)
    (State.serveBlockWrite_first ((s.heard_segmentStatus _).trans hst) hflags hoff (State.takes_data ht))
  obtain ⟨t, hrun, hans, hwork, honly⟩ := run_msgAnswered ht (by decide) hserve (by rw [← s.heard_falri]; rfl)
  refine ⟨t, hrun, hans, ?_, State.only_servedWithin honly (State.only_keeping (State.only_modFalri' _ (State.only_refl _ [.falri] [])
    (by decide) rfl))⟩
  rw [Falri.eq_of_work hwork, ← State.count_hearth s O.FALRI_RX O.FALRI_RX.lo 1]
  rfl

theorem blockWrite_lost {p : Path} {h : FalriHdr} {i : BlockWriteItem} (ht : s.takes p (msgOf h 6 1 (BlockWriteItem.bytes i)))
    (hw : s.mayWritePath (pathCode p) = true) (hst : s.segmentStatus (BlockWriteItem.bytes i) = 0)
    (hflags : i.flags.getLsbD 0 = false) (hnone : s.falri.staging = none) :
    ∃ t, exec (.blockWrite p h i) s = .next t ∧
      t.answered s p (msgOf h 6 1 (BlockWriteItem.bytes i)) ⟨11, 1, blockWriteItem (BlockWriteItem.bytes i) 11⟩ ∧
      t.only s falriParts (keyOf O.FALRI_RX :: wakeKeys) := by
  have hserve := State.serveRequest_blockWrite (h := h) ((s.heard_mayWritePath _).trans hw)
    (State.serveBlockWrite_lost ((s.heard_segmentStatus _).trans hst) hflags (by rw [s.heard_falri, hnone]))
  obtain ⟨t, hrun, hans, -, honly⟩ := run_msgAnswered ht (by decide) hserve (by rw [← s.heard_falri]; rfl)
  exact ⟨t, hrun, hans, State.only_servedWithin honly (State.only_keeping (State.only_modFalri' _ (State.only_refl _ [.falri] [])
    (by decide) rfl))⟩

/-! COMMIT (R380, R387, R393). -/

theorem commit_denied {p : Path} {h : FalriHdr} (ht : s.takes p (msgOf h 7 0 [])) (hw : s.mayWritePath (pathCode p) = false) :
    ∃ t, exec (.commit p h) s = .next t ∧ t.answered s p (msgOf h 7 0 []) ⟨stGatehouse, 0, []⟩ ∧
      t.obj O.GATE_DENIED = (s.count O.GATE_DENIED).obj O.GATE_DENIED ∧
      t.only s falriParts (keyOf O.FALRI_RX :: keyOf O.GATE_DENIED :: keyOf O.GATE_LAST_DENIED :: flagKeys O.DICT_FLAGS) := by
  have hserve := State.serveRequest_commitDenied h ((s.heard_mayWritePath _).trans hw)
  have hdenied := s.heard.denied_only (pathCode p)
  rw [State.keeping_of_only (f := (·.denied (pathCode p))) hdenied (by decide)] at hserve
  obtain ⟨t, hrun, hans, -, honly⟩ := run_msgAnswered ht (by decide) hserve
    ((State.only_mbHeld hdenied (by decide)).trans (by rw [s.heard_falri]))
  refine ⟨t, hrun, hans, ?_, State.only_mono (State.only_served honly hdenied) (by decide) (by decide)⟩
  rw [State.only_obj honly (by decide), State.denied_count, s.heard_obj (by decide)]
  exact (s.count_u32 _ _ _ rfl).symm

theorem commit_busy {p : Path} {h : FalriHdr} (ht : s.takes p (msgOf h 7 0 [])) (hw : s.mayWritePath (pathCode p) = true)
    (hb : s.cfgBusy = true) :
    ∃ t, exec (.commit p h) s = .next t ∧ t.answered s p (msgOf h 7 0 []) ⟨7, 0, []⟩ ∧
      t.only s falriParts (keyOf O.FALRI_RX :: wakeKeys) := by
  have hserve := State.serveRequest_commit h ((s.heard_mayWritePath _).trans hw) (if_pos (s.heard_cfgBusy.trans hb))
  obtain ⟨t, hrun, hans, -, honly⟩ := run_msgAnswered ht (by decide) hserve (by rw [s.heard_falri])
  exact ⟨t, hrun, hans, State.only_servedWithin honly (State.only_refl _ _ _)⟩

theorem commit_begins {p : Path} {h : FalriHdr} (ht : s.takes p (msgOf h 7 0 [])) (hw : s.mayWritePath (pathCode p) = true)
    (hb : s.cfgBusy = false) (hl : (s.count O.FALRI_RX).commitBody.length ≤ bodyMax) :
    ∃ t, exec (.commit p h) s = .next t ∧ t.answered s p (msgOf h 7 0 []) ⟨17, 0, []⟩ ∧ t.status O.CFG_STATUS 0 = 1 ∧
      t.falri.jobKind = 1 ∧ t.only s (.flash :: falriParts) (keyOf O.FALRI_RX :: keyOf O.CFG_STATUS :: wakeKeys) := by
  have hidle : s.heard.cfgBusy = false := s.heard_cfgBusy.trans hb
  obtain ⟨hdr, hbegins⟩ := State.cfgCommit_begins hidle hl
  have hjob : s.heard.cfgCommit.only s.heard [.falri, .flash, .free] [keyOf O.CFG_STATUS] := by
    rw [hbegins]
    exact State.only_trans (State.only_mono (s.heard.fresh.beginJob_only 1 hdr _) (by decide) (by decide))
      (State.only_fresh (State.only_refl _ _ _) (by decide))
  have hserve := State.serveRequest_commit h ((s.heard_mayWritePath _).trans hw) (if_neg (by simp [hidle]))
  rw [State.keeping_of_only hjob (by decide), hbegins] at hserve
  rw [hbegins] at hjob
  obtain ⟨t, hrun, hans, hwork, honly⟩ := run_msgAnswered ht (by decide) hserve (by rw [← s.heard_falri]; rfl)
  refine ⟨t, hrun, hans, ?_, ?_, State.only_mono (State.only_served honly hjob) (by decide) (by decide)⟩
  · exact (State.status_of_obj (State.only_obj honly (by decide))).trans (State.beginJob_status _ _ _ _)
  · rw [Falri.eq_of_work hwork]
    rfl

/-! DISCOVER (R380, R406). -/

theorem discover_answered {p : Path} {h : FalriHdr} (ht : s.takes p (msgOf h 8 0 [])) :
    ∃ t, exec (.discover p h) s = .next t ∧ t.answered s p (msgOf h 8 0 []) ⟨0, 0, s.discoverPayload⟩ ∧
      t.only s falriParts (keyOf O.FALRI_RX :: wakeKeys) := by
  have hkind : addrKind h.dst.toNat ≠ 2 := ht.2.2.2.1
  have hserve := State.serveRequest_discover (s := s.heard) (p := p) hkind
  rw [s.heard_discoverPayload] at hserve
  obtain ⟨t, hrun, hans, -, honly⟩ := run_msgAnswered ht (by decide) hserve (by rw [s.heard_falri])
  exact ⟨t, hrun, hans, State.only_servedWithin honly (State.only_refl _ _ _)⟩

/-- A request with DST ALL goes on down the tree, or is counted (R383). -/
theorem State.relayAll_only (s : State) (path : Nat) (m : Msg) :
    (s.relayAll path m).only s [.out, .lanes, .lports] [keyOf O.FALRI_ERR] := by
  unfold State.relayAll
  split
  · exact State.only_count _ _ _ (s.only_refl _ _) (by decide)
  · exact State.only_ite (s.only_refl _ _) (State.only_forEach _ (fun v q => State.only_sendPort _ _ _ _ (v.only_refl _ _) (by decide)
      (by decide) (by decide)) (s.only_refl _ _))

/-- A request with DST ALL has been counted and has gone on, on the chain too where it came from there (R383, R384). -/
def State.passedOn (s : State) (p : Path) (m : Msg) : State :=
  let v := s.heard.relayAll (pathCode p) m
  if p = .chain then v.emit (.message chainPath m.bytes) else v

theorem State.passedOn_only (s : State) (p : Path) (m : Msg) :
    (s.passedOn p m).only s [.out, .lanes, .lports] [keyOf O.FALRI_RX, keyOf O.FALRI_ERR] := by
  have hrelay := State.only_trans (State.only_mono (s.heard.relayAll_only (pathCode p) m) (fun _ h => h) (by decide))
    (State.only_mono s.heard_only (l' := [.out, .lanes, .lports]) (ks' := [keyOf O.FALRI_RX, keyOf O.FALRI_ERR]) (by decide) (by decide))
  exact State.only_ite (State.only_emit _ hrelay (by decide)) hrelay

/-- A request with DST ALL that repeats none of the last second has gone on before it is served. -/
theorem State.ownRequest_all {p : Path} {m : Msg} (h : FalriHdr) (hk : addrKind m.dst = 2) (hd : s.duplicate (pathCode p) m = none) :
    s.ownRequest p h m = State.finished p h m ((s.passedOn p m).serveRequest p h m) := by
  have hpassed := State.keeping_of_only (f := (·.passedOn p m)) (s.passedOn_only p m) (by decide)
  rw [← hpassed]
  simp only [State.ownRequest, hd, hk, State.passedOn, ne_eq, not_true_eq_false, if_false]
  rfl

theorem discover_all {p : Path} {h : FalriHdr} (hh : s.held = false) (hk : addrKind h.dst.toNat = 2)
    (hr : s.headRemoves (pathCode p) h.src.toNat = false) (hl : s.learnDev (pathCode p) h.src.toNat = s)
    (hd : s.duplicate (pathCode p) (msgOf h 8 0 []) = none) (hc : s.falri.deferred.contains (h, p) = false) :
    ∃ t, exec (.discover p h) s = .next t ∧ t.falri.deferred = s.falri.deferred ++ [(h, p)] ∧ t.falri.dups = s.falri.dups ∧
      t.only s falriParts (keyOf O.FALRI_RX :: keyOf O.FALRI_ERR :: wakeKeys) := by
  have hpassed := s.passedOn_only p (msgOf h 8 0 [])
  have hfalri := State.only_falri_eq hpassed (by decide) (by decide)
  have hown : s.ownDst (pathCode p) h.dst.toNat = true := by simp [State.ownDst, hk]
  have hserve := State.serveRequest_discoverAll (s := s.passedOn p (msgOf h 8 0 [])) (p := p) hk (by rw [hfalri, hc])
  have hin : s.messageIn p h (msgOf h 8 0 []) = _ :=
    (State.messageIn_own h rfl (show 8 < 128 by decide) (show 8 ≠ 10 by decide) hl hr hown).trans (State.ownRequest_all h hk hd)
  rw [hserve, State.finished] at hin
  refine ⟨_, (run_next s (·.messageIn p h (msgOf h 8 0 [])) hh).trans (congrArg _ hin), ?_, ?_, ?_⟩
  · rw [← hfalri]
    rfl
  · rw [← hfalri]
    rfl
  · exact State.only_trans (State.only_keeping (State.only_modFalri' _ (State.only_refl _ falriParts _) (by decide) rfl))
      (State.only_mono hpassed (by decide) (by decide))

theorem discoverAnswer_none {h : FalriHdr} (hf : s.falri.deferred.find? (fun d => d.1 == h) = none) : s.discoverAnswer h = s := by
  simp only [State.discoverAnswer, hf]

theorem discoverAnswer_due {h : FalriHdr} {d : FalriHdr × Path} (hh : s.held = false)
    (hf : s.falri.deferred.find? (fun d => d.1 == h) = some d) :
    ∃ t, exec (.discoverAnswer h) s = .next t ∧ t.falri.deferred = s.falri.deferred.erase d ∧
      t.answered s d.2 (msgOf h 8 0 []) ⟨0, 0, s.discoverPayload⟩ ∧ t.only s falriParts wakeKeys := by
  have hdef : s.discoverAnswer h = (s.modFalri fun f => { f with deferred := f.deferred.erase d }).answer d.2 h (msgOf h 8 0 [])
      ⟨0, 0, s.discoverPayload⟩ := by
    simp only [State.discoverAnswer, hf]
    rfl
  have ho := State.only_trans (State.answer_only _ d.2 h (msgOf h 8 0 []) ⟨0, 0, s.discoverPayload⟩)
    (State.only_modFalri' (fun f => { f with deferred := f.deferred.erase d }) (s.only_refl falriParts wakeKeys) (by decide) rfl)
  refine ⟨_, runKeep_eq hh hdef ho (by decide), ?_, State.answer_answered _ _ _ _ rfl, ho⟩
  rw [Falri.eq_of_work (State.answer_work _ _ _ _ _)]
  rfl

/-! ASSIGN_ID (R378, R408, R412). -/

theorem State.serveAssign_foreign {may : Bool} {path : Nat} {x : BitVec 64} {d : BitVec 16} (hx : x.toNat ≠ s.fuses.serial) :
    s.serveAssign may path (beBytes 8 x.toNat ++ beBytes 2 d.toNat) = (none, s) :=
  if_pos ((octets_assign x d).1.symm ▸ hx)

theorem State.serveAssign_refused {path : Nat} {x : BitVec 64} {d : BitVec 16} (hx : x.toNat = s.fuses.serial)
    (hd : s.manager = true ∨ d.toNat < 3 ∨ 1023 < d.toNat) :
    s.serveAssign true path (beBytes 8 x.toNat ++ beBytes 2 d.toNat) =
      (some ⟨8, 1, beBytes 8 x.toNat ++ beBytes 2 d.toNat⟩, s) := by
  obtain ⟨hsent, hdevice⟩ := octets_assign x d
  have hserial := hsent.trans hx
  simp only [State.serveAssign, hserial, hdevice, hd, ne_eq, not_true_eq_false, if_false, if_true, Bool.not_true, Bool.false_eq_true]

theorem State.serveAssign_taken {path : Nat} {x : BitVec 64} {d : BitVec 16} (hx : x.toNat = s.fuses.serial)
    (hm : s.manager = false) (h3 : 3 ≤ d.toNat) (h1023 : d.toNat ≤ 1023) :
    s.serveAssign true path (beBytes 8 x.toNat ++ beBytes 2 d.toNat) =
      (some ⟨0, 1, beBytes 8 x.toNat ++ beBytes 2 d.toNat⟩, s.keeping (·.takeId d.toNat)) := by
  obtain ⟨hsent, hdevice⟩ := octets_assign x d
  have hserial := hsent.trans hx
  have hd : ¬ (s.manager = true ∨ d.toNat < 3 ∨ 1023 < d.toNat) := by simp [hm]; omega
  simp only [State.serveAssign, hserial, hdevice, hd, ne_eq, not_true_eq_false, if_false, Bool.not_true, Bool.false_eq_true]

/-- The objects that following the registry may touch. -/
def syncKeys : List Nat := keyOf O.TABLE_COMMIT :: keyOf O.TABLE_FLAGS :: flagKeys O.HIER_FLAGS

/-- What following the registry keeps: all but the tables and their flags, and every flag of the hierarchy that stands (R412). -/
structure State.synced (s t : State) : Prop where
  frame : t.only s (.tables :: flagParts) syncKeys
  flags : ∀ b < 32, bit (s.obj O.HIER_FLAGS) b = true → bit (t.obj O.HIER_FLAGS) b = true

theorem State.synced_refl (s : State) : s.synced s := ⟨s.only_refl _ _, fun _ _ h => h⟩

theorem State.synced_trans {r : State} (h1 : s.synced t) (h2 : t.synced r) : s.synced r :=
  ⟨State.only_trans h2.frame h1.frame, fun b hb h => h2.flags b hb (h1.flags b hb h)⟩

/-- A change of the tables that leaves HIER_FLAGS alone. -/
theorem State.synced_of_only (h : t.only s l ks) (hl : ∀ x ∈ l, x ∈ Part.tables :: flagParts) (hk : ∀ k ∈ ks, k ∈ syncKeys)
    (hf : keyOf O.HIER_FLAGS ∉ ks) : s.synced t :=
  ⟨State.only_mono h hl hk, fun b _ hs => by rw [State.only_obj h hf]; exact hs⟩

theorem State.synced_raise (b : Nat) (h : s.synced t) : s.synced (t.raise O.HIER_FLAGS b) :=
  State.synced_trans h ⟨State.only_mono (t.raise_only O.HIER_FLAGS b _) (by decide) (by decide),
    fun _ hb hs => State.raise_keeps_bit (by decide) hb hs⟩

theorem State.epDelete_synced (s : State) (key : Nat) : s.synced (s.epDelete key) := by
  unfold State.epDelete
  split
  · split
    · exact State.synced_of_only (l := [.tables]) (ks := [keyOf O.TABLE_COMMIT]) (State.only_emRemoved _ (s.only_refl _ _) (by decide)
        (by decide)) (by decide) (by decide) (by decide)
    · exact s.synced_refl
  · exact s.synced_refl

/-- The flags of a table without room. -/
theorem State.tableFull_synced (s : State) : s.synced ((s.raise O.TABLE_FLAGS 2).raise O.TABLE_FLAGS 3) :=
  State.synced_of_only (l := flagParts) (ks := flagKeys O.TABLE_FLAGS)
    (State.only_trans (State.raise_only _ _ _ _) (State.raise_only _ _ _ _)) (by decide) (by decide) (by decide)

/-- An entry that is written anew. -/
theorem State.epWritten_synced (s : State) (q e : Nat) : s.synced (s.setEm q e).tableCommit :=
  State.synced_of_only (l := [.tables]) (ks := [keyOf O.TABLE_COMMIT])
    (State.only_tableCommit (State.only_setEm q e (s.only_refl _ _) (by decide)) (by decide)) (by decide) (by decide) (by decide)

/-- An entry that is placed, if there is room. -/
theorem State.epPlaced_synced {q : Option Nat} {r g e : Nat} (h : s.emPlace r g e true = (q, t)) :
    s.synced t ∧ s.synced t.tableCommit := by
  have hplace := s.emPlace_only r g e true
  rw [h] at hplace
  have htable : s.synced t := State.synced_of_only hplace (by decide) (by decide) (by decide)
  exact ⟨htable, State.synced_trans htable (State.synced_of_only (l := []) (ks := [keyOf O.TABLE_COMMIT])
    (State.only_tableCommit (t.only_refl _ _) (by decide)) (by decide) (by decide) (by decide))⟩

theorem State.synced_ite {c : Prop} [Decidable c] (ht : s.synced t) (hu : s.synced u) : s.synced (if c then t else u) := by
  split
  · exact ht
  · exact hu

theorem State.forEach_synced {α : Type} {f : State → α → State} (xs : List α) (hf : ∀ (v : State) x, v.synced (f v x)) (h : s.synced t) :
    s.synced (forEach xs f t) := by
  unfold forEach
  induction xs generalizing t with
  | nil => exact h
  | cons x xs ih => exact ih (State.synced_trans h (hf t x))

/-- The entry of an endpoint as its registry word asks for it: deleted without a port, else written anew or placed (R412). -/
def State.epWrite (s : State) (v e : Nat) : State :=
  match s.epOut v with
  | none => s.epDelete (epKey v e)
  | some p =>
    match s.emFind 1 (epKey v e) with
    | some l => if s.epMay l then (s.setEm l (setBit (setBit (emSetResult (s.em l) p) 125 true) 124 false)).tableCommit else s
    | none =>
      match s.emPlace 0 s.placeSet (setBit (emMake 1 (epKey v e) p) 125 true) true with
      | (some _, s) => s.tableCommit
      | (none, s) => (s.raise O.TABLE_FLAGS 2).raise O.TABLE_FLAGS 3

theorem State.epWrite_synced (s : State) (v e : Nat) : s.synced (s.epWrite v e) := by
  unfold State.epWrite
  split
  · exact State.epDelete_synced _ _
  · split
    · exact State.synced_ite (State.epWritten_synced s _ _) s.synced_refl
    · split
      next hplace => exact (State.epPlaced_synced hplace).2
      next hplace => exact State.synced_trans (State.epPlaced_synced hplace).1 (State.tableFull_synced _)

/-- An entry whose word is gone, or has another key, without its old one. -/
def State.epCleared (s : State) (old v e : Nat) : State :=
  if bit old 31 ∧ (¬ bit v 31 ∨ epKey old e ≠ epKey v e) then s.epDelete (epKey old e) else s

theorem State.epCleared_synced (s : State) (old v e : Nat) : s.synced (s.epCleared old v e) :=
  State.synced_ite (State.epDelete_synced _ _) s.synced_refl

/-- The steps by which an endpoint's entry follows its word: `warn` says that its port here is no open one, `same` that the entry stands
as it should. -/
theorem State.epSync_steps (s : State) (old v e : Nat) : ∃ warn same : Bool, s.epSync old v e =
    if !bit v 31 then s.epCleared old v e
    else if same then (if warn then (s.epCleared old v e).raise O.HIER_FLAGS 3 else s.epCleared old v e)
    else (if warn then (s.epCleared old v e).raise O.HIER_FLAGS 3 else s.epCleared old v e).epWrite v e :=
  ⟨_, _, rfl⟩

theorem State.epSync_synced (s : State) (old v e : Nat) : s.synced (s.epSync old v e) := by
  obtain ⟨warn, same, hsteps⟩ := s.epSync_steps old v e
  have hcleared := s.epCleared_synced old v e
  have hwarned := State.synced_ite (c := warn = true) (State.synced_raise 3 hcleared) hcleared
  rw [hsteps]
  exact State.synced_ite hcleared (State.synced_ite hwarned (State.synced_trans hwarned (State.epWrite_synced _ _ _)))

theorem State.regSync_synced (s : State) (old : Tab Nat) : s.synced (s.regSync old) :=
  State.forEach_synced _ (fun v _ => State.epSync_synced v _ _ _) s.synced_refl

/-- The part takes an ID, and says so (R408). -/
theorem State.takeId_only (s : State) (d : Nat) :
    (s.takeId d).only s (.tables :: flagParts) (keyOf O.DEVICE_ID :: syncKeys) := by
  have hset := State.only_setObj (o := O.DEVICE_ID) (sub := O.DEVICE_ID.lo) d
    (s.only_refl (.tables :: flagParts) (keyOf O.DEVICE_ID :: syncKeys)) (by decide)
  have hraise := State.only_raise (o := O.HIER_FLAGS) 0 O.HIER_FLAGS.lo hset (by decide) (by decide)
  exact State.only_trans (State.only_mono (State.regSync_synced _ _).frame (by decide) (by decide)) hraise

theorem State.takeId_deviceId (s : State) {d : Nat} (h : d < 65536) : (s.takeId d).obj O.DEVICE_ID = d := by
  rw [State.takeId, State.only_obj (State.regSync_synced _ _).frame (by decide), State.raise_obj _ _ _ _ (by decide), State.obj_setObj_same]
  exact Nat.mod_eq_of_lt h

theorem State.takeId_flag (s : State) (d : Nat) : bit ((s.takeId d).obj O.HIER_FLAGS) 0 = true :=
  (State.regSync_synced _ _).flags 0 (by decide) (State.raise_bit _ O.HIER_FLAGS (by decide) (by decide))

theorem assignId_foreign {p : Path} {h : FalriHdr} {x : BitVec 64} {d : BitVec 16}
    (ht : s.takes p (msgOf h 9 1 (beBytes 8 x.toNat ++ beBytes 2 d.toNat))) (hx : x.toNat ≠ s.fuses.serial) :
    ∃ t, exec (.assignId p h x d) s = .next t ∧ t.falri.dups = s.falri.dups ∧
      t.obj O.FALRI_RX = (s.count O.FALRI_RX).obj O.FALRI_RX ∧ t.only s [] [keyOf O.FALRI_RX] := by
  have hserve := s.heard.serveRequest_assign p h (beBytes 8 x.toNat ++ beBytes 2 d.toNat)
  rw [State.serveAssign_foreign (by rwa [State.count_fuses])] at hserve
  exact ⟨_, run_unanswered h ht (show 9 < 128 by decide) (show 9 ≠ 10 by decide) hserve, by rw [s.heard_falri], rfl, s.heard_only⟩

theorem assignId_refused {p : Path} {h : FalriHdr} {x : BitVec 64} {d : BitVec 16}
    (ht : s.takes p (msgOf h 9 1 (beBytes 8 x.toNat ++ beBytes 2 d.toNat))) (hx : x.toNat = s.fuses.serial)
    (hw : s.mayWritePath (pathCode p) = true) (hd : s.manager = true ∨ d.toNat < 3 ∨ 1023 < d.toNat) :
    ∃ t, exec (.assignId p h x d) s = .next t ∧ t.answered s p (msgOf h 9 1 (beBytes 8 x.toNat ++ beBytes 2 d.toNat))
        ⟨8, 1, beBytes 8 x.toNat ++ beBytes 2 d.toNat⟩ ∧ t.only s falriParts (keyOf O.FALRI_RX :: wakeKeys) := by
  have hserve := s.heard.serveRequest_assign p h (beBytes 8 x.toNat ++ beBytes 2 d.toNat)
  rw [s.heard_mayWritePath, hw, State.serveAssign_refused (by rwa [State.count_fuses]) (by rwa [s.heard_manager])] at hserve
  obtain ⟨t, hrun, hans, -, honly⟩ := run_msgAnswered ht (by decide) hserve (by rw [s.heard_falri])
  exact ⟨t, hrun, hans, State.only_servedWithin honly (State.only_refl _ _ _)⟩

theorem assignId_taken {p : Path} {h : FalriHdr} {x : BitVec 64} {d : BitVec 16}
    (ht : s.takes p (msgOf h 9 1 (beBytes 8 x.toNat ++ beBytes 2 d.toNat))) (hx : x.toNat = s.fuses.serial)
    (hw : s.mayWritePath (pathCode p) = true) (hm : s.manager = false) (h3 : 3 ≤ d.toNat) (h1023 : d.toNat ≤ 1023) :
    ∃ t, exec (.assignId p h x d) s = .next t ∧ t.answered s p (msgOf h 9 1 (beBytes 8 x.toNat ++ beBytes 2 d.toNat))
        ⟨0, 1, beBytes 8 x.toNat ++ beBytes 2 d.toNat⟩ ∧ t.obj O.DEVICE_ID = d.toNat ∧ bit (t.obj O.HIER_FLAGS) 0 = true ∧
      t.only s (.tables :: falriParts) (keyOf O.FALRI_RX :: keyOf O.DEVICE_ID :: keyOf O.TABLE_COMMIT :: keyOf O.TABLE_FLAGS ::
        flagKeys O.HIER_FLAGS) := by
  have htake := s.heard.takeId_only d.toNat
  have hserve := s.heard.serveRequest_assign p h (beBytes 8 x.toNat ++ beBytes 2 d.toNat)
  rw [s.heard_mayWritePath, hw, State.serveAssign_taken (by rwa [State.count_fuses]) (by rwa [s.heard_manager]) h3 h1023,
    State.keeping_of_only (f := (·.takeId d.toNat)) htake (by decide)] at hserve
  obtain ⟨t, hrun, hans, -, honly⟩ := run_msgAnswered ht (by decide) hserve
    ((State.only_mbHeld htake (by decide)).trans (by rw [s.heard_falri]))
  refine ⟨t, hrun, hans, ?_, ?_, State.only_mono (State.only_served honly htake) (by decide) (by decide)⟩
  · exact (State.only_obj honly (by decide)).trans (State.takeId_deviceId _ (by omega))
  · rw [State.only_obj honly (by decide)]
    exact State.takeId_flag _ _

end Sys2Proof.Machine

open Sys2Proof Sys2Proof.Machine

/-- Settles O36, request by request: each is counted, served, and answered on its own path, and the frame is what its service touches. -/
theorem falriBlocksAndNames : Obligations.FalriBlocksAndNames := by
  unfold Obligations.FalriBlocksAndNames
  exact ⟨fun s p h i o ht ho hacc hty hoff h1 h2 => blockRead_first ht ho hacc hty hoff h1 h2,
    fun s p h i st ht hst => blockRead_refused ht hst,
    fun s p h i ht hw hst hflags hoff => blockWrite_first ht hw hst hflags hoff,
    fun s p h i ht hw hst hflags hnone => blockWrite_lost ht hw hst hflags hnone,
    fun s p h ht hw => commit_denied ht hw,
    fun s p h ht hw hb => commit_busy ht hw hb,
    fun s p h ht hw hb hl => commit_begins ht hw hb hl,
    fun s p h ht => discover_answered ht,
    fun s p h hh hk hr hl hd hc => discover_all hh hk hr hl hd hc,
    fun s h hh hf => runKeep_same hh (discoverAnswer_none hf),
    fun s h d hh hf => discoverAnswer_due hh hf,
    fun s p h x d ht hx => assignId_foreign ht hx,
    fun s p h x d ht hx hw hd => assignId_refused ht hx hw hd,
    fun s p h x d ht hx hw hm h3 h1023 => assignId_taken ht hx hw hm h3 h1023⟩
end

section
/-! PROOF. The service of Falri beside its requests (R368, R371, R375 to R379, R383 to R386): messages that fail, responses,
notifications, what lapses, the mailbox and the chain, and O37 from them. -/

namespace Sys2Proof.Machine

variable {s t u : State} {l : List Part} {ks : List Nat}

/-! Messages that fail, and requests that no service knows (R368, R371). -/

theorem State.discardMsg_only (s : State) (path : Nat) : (s.discardMsg path).only s [.falri] [keyOf O.FALRI_ERR] :=
  State.only_modFalri' _ (State.only_count _ _ _ (s.only_refl _ _) (by decide)) (by decide) rfl

theorem State.discardMsg_falri (s : State) (path : Nat) :
    (s.discardMsg path).falri = { s.falri with mbErr := s.falri.mbErr || path == hbusPath } := by
  rw [State.discardMsg, State.modFalri_falri, State.count_falri]

theorem State.discardMsg_obj (s : State) (path : Nat) : (s.discardMsg path).obj O.FALRI_ERR = (s.count O.FALRI_ERR).obj O.FALRI_ERR := by
  rw [State.discardMsg, State.modFalri_obj]

theorem exec_falriErr_none {p : Path} {b : Bytes} (hh : s.held = false) (hb : parseMsg b = none) :
    exec (.falriErr p b) s = .next (s.discardMsg (pathCode p)) := by
  have hrun : exec (.falriErr p b) s = run s fun s => s.keeping (·.discardMsg (pathCode p)) := by
    show execFalriErr p b s = _
    simp only [execFalriErr, hb]
  rw [hrun, run_next _ _ hh, State.keeping_of_only (f := (·.discardMsg (pathCode p))) (s.discardMsg_only _) (by decide)]

theorem exec_falriErr_some {p : Path} {b : Bytes} {m : Msg} (hb : parseMsg b = some m) :
    exec (.falriErr p b) s = run s (·.messageIn p (hdrOf m) m) := by
  show execFalriErr p b s = _
  simp only [execFalriErr, hb]

theorem exec_falriResponse_none {p : Path} {b : Bytes} (hh : s.held = false) (hb : parseMsg b = none) :
    exec (.falriResponse p b) s = .next (s.discardMsg (pathCode p)) :=
  runKeep_eq hh (by simp only [hb]) (s.discardMsg_only _) (by decide)

/-- Both commands that carry octets discard and count what fails R368. -/
theorem falriErr_discards {p : Path} {b : Bytes} (hh : s.held = false) (hb : parseMsg b = none) :
    ∀ c ∈ [Instr.falriErr p b, .falriResponse p b],
      ∃ t, exec c s = .next t ∧ t.falri = { s.falri with mbErr := s.falri.mbErr || decide (p = .hbus) } ∧
        t.obj O.FALRI_ERR = (s.count O.FALRI_ERR).obj O.FALRI_ERR ∧ t.only s [.falri] [keyOf O.FALRI_ERR] := by
  have hfalri := s.discardMsg_falri (pathCode p)
  rw [beq_eq_decide, decide_eq_decide.mpr (pathCode_eq_hbus p)] at hfalri
  intro c hc
  simp only [List.mem_cons, List.not_mem_nil, or_false] at hc
  obtain rfl | rfl := hc
  · exact ⟨_, exec_falriErr_none hh hb, hfalri, s.discardMsg_obj _, s.discardMsg_only _⟩
  · exact ⟨_, exec_falriResponse_none hh hb, hfalri, s.discardMsg_obj _, s.discardMsg_only _⟩

/-- An opcode that no request has is answered 14, a COUNT outside its column 15 (R371). -/
theorem State.serveRequest_unknown {p : Path} {h : FalriHdr} {m : Msg}
    (hm : m.op = 0 ∨ 11 ≤ m.op ∨ (m.op ≠ 10 ∧ countOk m.op m.count = false)) :
    s.serveRequest p h m = (some ⟨if m.op = 0 ∨ 11 ≤ m.op then 14 else 15, 0, []⟩, s) := by
  by_cases hop : m.op = 0 ∨ 11 ≤ m.op
  · have hten : m.op = 0 ∨ 10 ≤ m.op := by omega
    simp only [State.serveRequest, hop, hten, if_true]
  · have hcount : countOk m.op m.count = false := by
      obtain h0 | h11 | hc := hm
      · exact absurd (.inl h0) hop
      · exact absurd (.inr h11) hop
      · exact hc.2
    have hten : ¬ (m.op = 0 ∨ 10 ≤ m.op) := by
      rintro (h0 | h10)
      · exact hop (.inl h0)
      · rw [show m.op = 10 by omega] at hm
        simp at hm
    simp only [State.serveRequest, hop, hten, hcount, if_false, if_true, Bool.not_false]

theorem falriErr_answered {p : Path} {b : Bytes} {m : Msg} (hb : parseMsg b = some m) (ht : s.takes p m) (hop : m.op < 128)
    (hm : m.op = 0 ∨ 11 ≤ m.op ∨ (m.op ≠ 10 ∧ countOk m.op m.count = false)) :
    ∃ t, exec (.falriErr p b) s = .next t ∧
      t.answered s p m ⟨if m.op = 0 ∨ 11 ≤ m.op then 14 else 15, 0, []⟩ ∧
      t.only s falriParts (keyOf O.FALRI_RX :: wakeKeys) := by
  have h10 : m.op ≠ 10 := by omega
  obtain ⟨t, hrun, hans, -, honly⟩ := run_answered (hdrOf m) ht hop h10 (State.serveRequest_unknown hm) (by rw [s.heard_falri])
  exact ⟨t, (exec_falriErr_some hb).trans hrun, hans, State.only_servedWithin honly (State.only_refl _ _ _)⟩

/-! Responses (R383). -/

theorem falriResponse_request {p : Path} {b : Bytes} {m : Msg} (hh : s.held = false) (hb : parseMsg b = some m) (hop : m.op < 128) :
    exec (.falriResponse p b) s = .next s :=
  runKeep_same hh (by simp only [hb, Nat.not_le.mpr hop, if_false])

theorem falriResponse_chain {p : Path} {b : Bytes} {m : Msg} {q : Proxy} (hh : s.held = false) (hb : parseMsg b = some m)
    (hop : 128 ≤ m.op) (hl : s.learnDev (pathCode p) m.src = s) (hr : s.headRemoves (pathCode p) m.src = false)
    (hq : s.proxyFor m = some q) (hc : q.path = chainPath) :
    ∃ t, exec (.falriResponse p b) s = .next t ∧ t.out = .message chainPath m.bytes :: s.out ∧ t.only s [.out] [] := by
  have hsend : s.sendPath chainPath q.mac q.tag m.bytes = s.emit (.message chainPath m.bytes) := rfl
  have ho := State.only_emit (.message chainPath m.bytes) (s.only_refl [.out] []) (by decide)
  refine ⟨_, runKeep_eq hh ?_ ho (by decide), rfl, ho⟩
  simp only [hb, hop, hl, State.responseIn, hr, hq, hc, hsend, if_true, Bool.false_eq_true, if_false]

/-! Notifications (R379, R386). -/

/-- The message that a NOTIFY is (R379). -/
def notifyMsg (h : FalriHdr) (i : BitVec 16) (j : BitVec 8) (v : BitVec 32) (x : BitVec 64) : Msg :=
  msgOf h 10 1 (beBytes 2 i.toNat ++ beBytes 1 j.toNat ++ [0] ++ beBytes 4 v.toNat ++ beBytes 8 x.toNat)

theorem State.messageIn_notify {p : Path} {h : FalriHdr} {i : BitVec 16} {j : BitVec 8} {v : BitVec 32} {x : BitVec 64}
    (hl : s.learnDev (pathCode p) h.src.toNat = s) :
    s.messageIn p h (notifyMsg h i j v x) = s.keeping (·.notifyIn (pathCode p) h (notifyMsg h i j v x)) := by
  have hbody : bodyOk (notifyMsg h i j v x) = true := rfl
  have hlearn : s.keeping (·.learnDev (pathCode p) (notifyMsg h i j v x).src) = s :=
    (s.keeping_eq (congrArg State.hearth hl)).trans hl
  have hop : (notifyMsg h i j v x).op = 10 := rfl
  simp only [State.messageIn, hbody, hlearn, hop, Bool.not_true, Bool.false_eq_true, if_false, if_true, Nat.reduceLeDiff]

theorem notifyReceive_ignored {p : Path} {h : FalriHdr} {i : BitVec 16} {j : BitVec 8} {v : BitVec 32} {x : BitVec 64}
    (hh : s.held = false) (hl : s.learnDev (pathCode p) h.src.toNat = s)
    (hn : s.headRemoves (pathCode p) h.src.toNat = true ∨ (s.ownDst (pathCode p) h.dst.toNat = true ∧ s.falri.mbNotify = false)) :
    exec (.notifyReceive p h i j v x) s = .next s := by
  have hin : s.notifyIn (pathCode p) h (notifyMsg h i j v x) = s := by
    have hsrc : (notifyMsg h i j v x).src = h.src.toNat := rfl
    have hdst : (notifyMsg h i j v x).dst = h.dst.toNat := rfl
    unfold State.notifyIn
    rw [hsrc, hdst]
    obtain hr | ⟨hd, hn⟩ := hn
    · exact if_pos hr
    · simp only [hd, hn, if_true, Bool.false_eq_true, if_false, ite_self]
  have hmsg : exec (.notifyReceive p h i j v x) s = run s (·.messageIn p h (notifyMsg h i j v x)) := rfl
  rw [hmsg, run_next _ _ hh, State.messageIn_notify hl, s.keeping_eq (congrArg State.hearth hin), hin]

theorem notifyReceive_held {p : Path} {h : FalriHdr} {i : BitVec 16} {j : BitVec 8} {v : BitVec 32} {x : BitVec 64}
    (hh : s.held = false) (hl : s.learnDev (pathCode p) h.src.toNat = s) (hr : s.headRemoves (pathCode p) h.src.toNat = false)
    (hd : s.ownDst (pathCode p) h.dst.toNat = true) (hn : s.falri.mbNotify = true) (hm : s.falri.mbHeld = none) :
    ∃ t, exec (.notifyReceive p h i j v x) s = .next t ∧ t.falri.mbHeld = some ((notifyMsg h i j v x).bytes, true) ∧
      t.only s falriParts wakeKeys := by
  have hin : s.notifyIn (pathCode p) h (notifyMsg h i j v x) = s.mbHold (notifyMsg h i j v x).bytes true := by
    have hsrc : (notifyMsg h i j v x).src = h.src.toNat := rfl
    have hdst : (notifyMsg h i j v x).dst = h.dst.toNat := rfl
    rw [← State.mbDeliver_free hm, State.notifyIn, hsrc, hdst, hr, hd, hn, if_neg (by decide), if_pos rfl, if_pos rfl]
  have ho := s.mbHold_only (notifyMsg h i j v x).bytes true
  have hmsg : exec (.notifyReceive p h i j v x) s = run s (·.messageIn p h (notifyMsg h i j v x)) := rfl
  refine ⟨s.mbHold (notifyMsg h i j v x).bytes true, ?_, s.mbHold_mbHeld _ _, State.only_mono ho (by decide) fun _ hk => hk⟩
  rw [hmsg, run_next _ _ hh, State.messageIn_notify hl, s.keeping_eq, hin]
  rw [hin]
  exact ho.1 .hearth (by decide)

theorem State.notifySend_none {i j : Nat}
    (h : s.notifyWay = none ∨ Tab.get s.falri.notify 0 (i * 256 + j) = 0 ∨ s.obj O.NOTIFY_RATE ≤ s.notifyRecent.length) :
    s.notifySend i j = s := by
  unfold State.notifySend
  cases hw : s.notifyWay with
  | none => rfl
  | some w => exact if_pos (h.resolve_left (by simp [hw]))

/-- The service behind a NOTIFY that has left: its bits are taken, its number and its time are kept (R379). -/
def Falri.notified (f : Falri) (key now : Nat) (recent : List Nat) : Falri :=
  { f with notifySeq := (f.notifySeq + 1) % 65536, notify := Tab.set f.notify 0 key 0, notifyAt := now :: recent }

/-- A NOTIFY to the house port leaves in a frame. -/
theorem State.notifySend_house {i j : Nat} (hp : s.obj O.NOTIFY_PATH = 2) (hb : Tab.get s.falri.notify 0 (i * 256 + j) ≠ 0)
    (hr : s.notifyRecent.length < s.obj O.NOTIFY_RATE) :
    ∃ f, s.notifySend i j = (s.modFalri (·.notified (i * 256 + j) s.hearth.cycles s.notifyRecent)).fresh.emit (.frame 48 f false) := by
  have hway : s.notifyWay = some .house := by simp only [State.notifyWay, hp]
  have hgo : ¬ (Tab.get s.falri.notify 0 (i * 256 + j) = 0 ∨ s.obj O.NOTIFY_RATE ≤ s.notifyRecent.length) := by omega
  apply Exists.intro
  simp only [State.notifySend, hway, hgo, if_false]
  rfl

theorem notifySend_house {i : BitVec 16} {j : BitVec 8} (hh : s.held = false) (hp : s.obj O.NOTIFY_PATH = 2)
    (hb : Tab.get s.falri.notify 0 (i.toNat * 256 + j.toNat) ≠ 0) (hr : s.notifyRecent.length < s.obj O.NOTIFY_RATE) :
    ∃ t f, exec (.notifySend i j) s = .next t ∧ Tab.get t.falri.notify 0 (i.toNat * 256 + j.toNat) = 0 ∧
      t.falri.notifySeq = (s.falri.notifySeq + 1) % 65536 ∧ t.falri.notifyAt = s.hearth.cycles :: s.notifyRecent ∧
      t.out = .frame 48 f false :: s.out ∧ t.only s [.falri, .notify, .out, .free] [] := by
  obtain ⟨f, hsend⟩ := State.notifySend_house hp hb hr
  have ho := State.only_emit (.frame 48 f false) (State.only_fresh (State.only_modFalri
    (·.notified (i.toNat * 256 + j.toNat) s.hearth.cycles s.notifyRecent)
    (s.only_refl [.falri, .notify, .out, .free] []) (by decide) (by decide)) (by decide)) (by decide)
  exact ⟨_, f, runKeep_eq hh hsend ho (by decide), Tab.get_set_same s.falri.notify 0 (i.toNat * 256 + j.toNat) 0, rfl, rfl, rfl, ho⟩

/-! What lapses (R375, R376, R383). -/

/-- A timer whose whole effect is a change of the service. -/
theorem runKeep_modFalri {f : State → State} {g : Falri → Falri} (hh : s.held = false) (hf : f s = s.modFalri g)
    (hn : (g s.falri).notify = s.falri.notify) : ∃ t, runKeep s f = .next t ∧ t.falri = g s.falri ∧ t.only s [.falri] [] :=
  have ho := State.only_modFalri' g (s.only_refl [.falri] []) (by decide) hn
  ⟨_, runKeep_eq hh hf ho (by decide), rfl, ho⟩

theorem proxyExpire_lapses (hh : s.held = false) :
    ∃ t, exec .proxyExpire s = .next t ∧
      t.falri = { s.falri with proxies := s.falri.proxies.filter fun q => !s.elapsed q.at_ 1000000000 } ∧ t.only s [.falri] [] :=
  runKeep_modFalri hh (g := fun f => { f with proxies := f.proxies.filter fun q => !s.elapsed q.at_ 1000000000 }) rfl rfl

theorem readBufferLapse_lapses {k : Fin 4} {b : ReadBuf} (hh : s.held = false) (hb : s.falri.bufs[k.val]? = some b)
    (he : s.elapsed b.at_ 10000000000 = true) :
    ∃ t, exec (.readBufferLapse k) s = .next t ∧ t.falri = { s.falri with bufs := s.falri.bufs.eraseIdx k } ∧ t.only s [.falri] [] :=
  runKeep_modFalri hh (g := fun f => { f with bufs := f.bufs.eraseIdx k }) (by simp only [hb, he, if_true]) rfl

theorem readBufferLapse_stays {k : Fin 4} (hh : s.held = false)
    (hb : ∀ b, s.falri.bufs[k.val]? = some b → s.elapsed b.at_ 10000000000 = false) : exec (.readBufferLapse k) s = .next s := by
  refine runKeep_same hh ?_
  split
  · next b hk => rw [hb b hk, if_neg (by decide)]
  · rfl

/-- The service after its staging buffer has lapsed: the requester's next segment finds it gone (R376). -/
def Falri.stagingLost (f : Falri) (g : Staging) : Falri :=
  { f with staging := none, lostFrom := (g.path, g.src) :: f.lostFrom.filter (· != (g.path, g.src)) }

theorem stagingLapse_lapses {g : Staging} (hh : s.held = false) (hg : s.falri.staging = some g) (he : s.elapsed g.at_ 10000000000 = true) :
    ∃ t, exec .stagingLapse s = .next t ∧ t.falri.staging = none ∧ t.falri.lostFrom.contains (g.path, g.src) = true ∧
      t.only s [.falri] [] := by
  have hlapse : ∃ t, exec .stagingLapse s = .next t ∧ t.falri = s.falri.stagingLost g ∧ t.only s [.falri] [] :=
    runKeep_modFalri hh (g := (·.stagingLost g)) (by simp only [hg, he, Bool.not_true, Bool.false_eq_true, if_false, Falri.stagingLost]) rfl
  obtain ⟨t, hrun, hfalri, ho⟩ := hlapse
  exact ⟨t, hrun, by rw [hfalri, Falri.stagingLost], by simp [hfalri, Falri.stagingLost], ho⟩

/-! The mailbox (R386). -/

/-- The service with a request of the host's in the mailbox. -/
def Falri.submitted (f : Falri) (b : Bytes) (n : Bool) : Falri :=
  { f with mbReq := Tab.setRun f.mbReq 0 0 (b.take 2048), mbLen := b.length % 2048, mbNotify := n }

/-- The host's request stands in the mailbox. -/
def State.submitted (s : State) (b : Bytes) (n : Bool) : State := s.modFalri (·.submitted b n)

theorem State.submitted_only (s : State) (b : Bytes) (n : Bool) : (s.submitted b n).only s [.falri] [] :=
  State.only_modFalri' _ (s.only_refl _ _) (by decide) rfl

theorem State.submitted_keeping (s : State) (b : Bytes) (n : Bool) : s.keeping (·.submitted b n) = s.submitted b n :=
  State.keeping_of_only (s.submitted_only b n) (by decide)

/-- A request that fails R368, or has no place in the mailbox, is discarded. -/
theorem State.mailboxGo_discards {b : Bytes} (n : Bool) (hb : b.length < 18 ∨ 1042 < b.length ∨ parseMsg b = none) :
    s.mailboxGo b n = (s.submitted b n).discardMsg hbusPath := by
  have hdiscard := State.keeping_of_only (f := (·.discardMsg hbusPath)) ((s.submitted b n).discardMsg_only hbusPath) (by decide)
  rw [← hdiscard, ← s.submitted_keeping]
  by_cases hlen : b.length < 18 ∨ 1042 < b.length
  · exact if_pos hlen
  · have hnone : parseMsg b = none := by
      obtain h | h | h := hb
      · exact absurd (.inl h) hlen
      · exact absurd (.inr h) hlen
      · exact h
    simp only [State.mailboxGo, hlen, hnone, if_false]
    rfl

/-- Any other is taken as a message from HBUS. -/
theorem State.mailboxGo_message {b : Bytes} {m : Msg} (n : Bool) (h18 : 18 ≤ b.length) (h1042 : b.length ≤ 1042)
    (hb : parseMsg b = some m) : s.mailboxGo b n = (s.submitted b n).messageIn .hbus (hdrOf m) m := by
  have hlen : ¬ (b.length < 18 ∨ 1042 < b.length) := by omega
  rw [← s.submitted_keeping]
  simp only [State.mailboxGo, hlen, hb, if_false]
  rfl

theorem mailboxGo_bad {b : Bytes} {n : Bool} (hh : s.held = false) (hb : b.length < 18 ∨ 1042 < b.length ∨ parseMsg b = none) :
    ∃ t, exec (.mailboxGo b n) s = .next t ∧ t.falri.mbErr = true ∧ t.falri.mbNotify = n ∧
      t.obj O.FALRI_ERR = (s.count O.FALRI_ERR).obj O.FALRI_ERR ∧ t.only s [.falri] [keyOf O.FALRI_ERR] := by
  have hfalri := (s.submitted b n).discardMsg_falri hbusPath
  refine ⟨_, (run_next s (·.mailboxGo b n) hh).trans (congrArg _ (State.mailboxGo_discards n hb)), ?_, ?_, rfl,
    State.only_trans (State.discardMsg_only _ _) (State.only_mono (s.submitted_only b n) (by decide) (by decide))⟩
  · rw [hfalri]
    exact Bool.or_true _
  · rw [hfalri]
    rfl

/-- HBUS teaches no port (R407). -/
theorem State.learnDev_hbus (s : State) (src : Nat) : s.learnDev hbusPath src = s := if_neg fun h => absurd h.1 (by decide)

theorem State.submitted_takes {b : Bytes} {n : Bool} {m : Msg} (ht : s.takes .hbus m) : (s.submitted b n).takes .hbus m := by
  obtain ⟨hh, hb, hd, hk, hr, -, hdup⟩ := ht
  exact ⟨hh, hb, hd, hk, hr, State.learnDev_hbus _ _, hdup⟩

theorem State.serveRequest_discoverMsg {p : Path} {h : FalriHdr} {m : Msg} (hop : m.op = 8) (hc : m.count = 0) (hk : addrKind m.dst ≠ 2) :
    s.serveRequest p h m = (some ⟨0, 0, s.discoverPayload⟩, s) := by
  simp [State.serveRequest, hop, hc, countOk, hk]

theorem mailboxGo_discover {b : Bytes} {n : Bool} {m : Msg} (h18 : 18 ≤ b.length) (h1042 : b.length ≤ 1042) (hb : parseMsg b = some m)
    (hop : m.op = 8) (hc : m.count = 0) (ht : s.takes .hbus m) :
    ∃ t, exec (.mailboxGo b n) s = .next t ∧ t.falri.mbNotify = n ∧ t.answered s .hbus m ⟨0, 0, s.discoverPayload⟩ ∧
      t.only s falriParts (keyOf O.FALRI_RX :: wakeKeys) := by
  have hserve := State.serveRequest_discoverMsg (s := (s.submitted b n).heard) (p := .hbus) (h := hdrOf m) hop hc ht.2.2.2.1
  have hpayload : (s.submitted b n).heard.discoverPayload = s.discoverPayload := (s.submitted b n).heard_discoverPayload
  rw [hpayload] at hserve
  have hin := State.messageIn_answered (hdrOf m) (State.submitted_takes ht) (by omega) (by omega) hserve
  have hgo := (State.mailboxGo_message n h18 h1042 hb).trans hin
  refine ⟨_, (run_next s (·.mailboxGo b n) ht.1).trans (congrArg _ hgo), ?_, State.answer_answered _ _ _ _ ?_,
    State.only_trans (State.only_servedWithin (State.answer_only _ _ _ _ _) (State.only_refl _ _ _))
      (State.only_mono (s.submitted_only b n) (by decide) (by decide))⟩
  · rw [Falri.eq_of_work (State.answer_work _ _ _ _ _), State.heard_falri]
    rfl
  · rw [State.heard_falri]
    rfl

theorem State.mbHold_falri (s : State) (m : Bytes) (note : Bool) :
    (s.mbHold m note).falri = { s.falri with mbHeld := some (m, note), notify := (s.mbHold m note).falri.notify } :=
  State.only_falri (s := s.modFalri fun f => { f with mbHeld := some (m, note) }) (State.sharedEvent_only _ 140) (by decide)

/-- The service after the host has written RESP_READY, before the release. -/
def Falri.released (f : Falri) (c : Bool) : Falri := { f with mbErr := f.mbErr && !c }

theorem State.mbRelease_none (h : s.falri.mbHeld = none) : s.mbRelease = s := by simp only [State.mbRelease, h]

theorem State.mbRelease_last (h : s.falri.mbHeld ≠ none) (hw : s.falri.mbWait = []) (hn : s.falri.mbNotes = []) :
    s.mbRelease = s.modFalri fun f => { f with mbHeld := none } := by
  obtain ⟨x, hx⟩ := Option.ne_none_iff_exists'.mp h
  simp only [State.mbRelease, hx, State.modFalri_falri, hw, hn]

/-- The service while the next response goes to the host. -/
def Falri.handing (f : Falri) (r : List Bytes) : Falri := { f with mbHeld := none, mbWait := r }

theorem State.mbRelease_next {m : Bytes} {r : List Bytes} (h : s.falri.mbHeld ≠ none) (hw : s.falri.mbWait = m :: r) :
    s.mbRelease = (s.modFalri (·.handing r)).mbHold m false := by
  obtain ⟨x, hx⟩ := Option.ne_none_iff_exists'.mp h
  simp only [State.mbRelease, hx, State.modFalri_falri, hw]
  rfl

theorem mailboxRelease_none {c : Bool} (hh : s.held = false) (hm : s.falri.mbHeld = none) :
    ∃ t, exec (.mailboxRelease c) s = .next t ∧ t.falri = { s.falri with mbErr := s.falri.mbErr && !c } ∧ t.only s [.falri] [] :=
  runKeep_modFalri hh (g := (·.released c)) (State.mbRelease_none (s := s.modFalri (·.released c)) hm) rfl

theorem mailboxRelease_last {c : Bool} (hh : s.held = false) (hm : s.falri.mbHeld ≠ none) (hw : s.falri.mbWait = [])
    (hn : s.falri.mbNotes = []) :
    ∃ t, exec (.mailboxRelease c) s = .next t ∧ t.falri = { s.falri with mbErr := s.falri.mbErr && !c, mbHeld := none } ∧
      t.only s [.falri] [] :=
  runKeep_modFalri hh (g := fun f => { f with mbErr := f.mbErr && !c, mbHeld := none })
    (State.mbRelease_last (s := s.modFalri (·.released c)) hm hw hn) rfl

theorem mailboxRelease_next {c : Bool} {m : Bytes} {r : List Bytes} (hh : s.held = false) (hm : s.falri.mbHeld ≠ none)
    (hw : s.falri.mbWait = m :: r) :
    ∃ t, exec (.mailboxRelease c) s = .next t ∧ t.falri.mbErr = (s.falri.mbErr && !c) ∧ t.falri.mbHeld = some (m, false) ∧
      t.falri.mbWait = r ∧ t.only s falriParts wakeKeys := by
  have hnext := State.mbRelease_next (s := s.modFalri (·.released c)) hm hw
  have hhand : ((s.modFalri (·.released c)).modFalri (·.handing r)).only s falriParts wakeKeys :=
    State.only_modFalri' _ (State.only_modFalri' _ (s.only_refl _ _) (by decide) rfl) (by decide) rfl
  have ho := State.only_trans (State.only_mono (State.mbHold_only _ m false) (by decide) fun _ hk => hk) hhand
  refine ⟨_, runKeep_eq hh hnext ho (by decide), ?_, State.mbHold_mbHeld _ m false, ?_, ho⟩
  · rw [State.mbHold_falri]
    rfl
  · rw [State.mbHold_falri]
    rfl

/-! The chain (R384, R385). -/

theorem chainEnumerate_head (hh : s.held = false) (hc : s.chainHead = true) :
    ∃ t, exec .chainEnumerate s = .next t ∧ t.falri = { s.falri with enumOut := true } ∧
      t.obj O.CHAIN_ADDR_ACT = (if s.obj O.CHAIN_ADDR = 0 then 1 else s.obj O.CHAIN_ADDR) % 256 ∧
      t.out = .chainFrame (beBytes 1 ((if s.obj O.CHAIN_ADDR = 0 then 1 else s.obj O.CHAIN_ADDR) + 1)) :: s.out ∧
      t.only s [.falri, .out] [keyOf O.CHAIN_ADDR_ACT] := by
  generalize ha : (if s.obj O.CHAIN_ADDR = 0 then 1 else s.obj O.CHAIN_ADDR) = a
  have hsteps : s.enumerate = ((s.setObj O.CHAIN_ADDR_ACT a).modFalri fun f => { f with enumOut := true }).emit
      (.chainFrame (beBytes 1 (a + 1))) := by
    simp only [State.enumerate, hc, Bool.not_true, Bool.false_eq_true, if_false, ha]
  have ho := State.only_emit (.chainFrame (beBytes 1 (a + 1))) (State.only_modFalri' (fun f => { f with enumOut := true })
    (State.only_setObj (o := O.CHAIN_ADDR_ACT) (sub := O.CHAIN_ADDR_ACT.lo) a (s.only_refl [.falri, .out] [keyOf O.CHAIN_ADDR_ACT])
      (by decide)) (by decide) rfl) (by decide)
  refine ⟨_, runKeep_eq hh hsteps ho (by decide), rfl, ?_, rfl, ho⟩
  rw [State.emit_obj, State.modFalri_obj]
  exact State.obj_setObj_same _ _ _ _

theorem State.enumFrame_head (hc : s.chainHead = true) (v : Nat) :
    s.enumFrame v = (s.setObj O.CHAIN_LEN (v + 255)).modFalri fun f => { f with enumOut := false } := by
  simp only [State.enumFrame, hc, if_true]

theorem chainEnumFrame_head {v : Byte} (hh : s.held = false) (hc : s.chainHead = true) :
    ∃ t, exec (.chainEnumFrame v) s = .next t ∧ t.falri = { s.falri with enumOut := false } ∧
      t.obj O.CHAIN_LEN = (v.toNat + 255) % 256 ∧ t.only s [.falri] [keyOf O.CHAIN_LEN] := by
  have hset : (s.setObj O.CHAIN_LEN (v.toNat + 255)).only s [.falri] [keyOf O.CHAIN_LEN] :=
    State.only_setObj _ (s.only_refl _ _) (by decide)
  have ho := State.only_modFalri' (fun f => { f with enumOut := false }) hset (by decide) rfl
  refine ⟨_, runKeep_eq hh (State.enumFrame_head hc v.toNat) ho (by decide), rfl, ?_, ho⟩
  rw [State.modFalri_obj]
  exact State.obj_setObj_same _ _ _ _

/-- An enumeration frame gives an address and goes on; one beyond the greatest address gives none, and is flagged (R385). -/
theorem State.enumFrame_given (hc : s.chainHead = false) (hf : s.obj O.CHAIN_ADDR = 0) (v : Nat) :
    s.enumFrame v = if 64 ≤ v then (((s.raise O.DICT_FLAGS 2).setObj O.CHAIN_ADDR_ACT 0).emit (.chainFrame (beBytes 1 1)))
      else (s.setObj O.CHAIN_ADDR_ACT v).emit (.chainFrame (beBytes 1 (v + 1))) := by
  by_cases h : 64 ≤ v
  · simp only [State.enumFrame, hc, hf, h, Bool.false_eq_true, if_false, if_true, ne_eq, not_true_eq_false, and_self]
  · simp only [State.enumFrame, hc, hf, h, Bool.false_eq_true, if_false, ne_eq, not_true_eq_false, and_false]

theorem chainEnumFrame_given {v : Byte} (hh : s.held = false) (hc : s.chainHead = false) (hf : s.obj O.CHAIN_ADDR = 0)
    (hv : v.toNat < 64) :
    ∃ t, exec (.chainEnumFrame v) s = .next t ∧ t.obj O.CHAIN_ADDR_ACT = v.toNat ∧
      t.out = .chainFrame (beBytes 1 (v.toNat + 1)) :: s.out ∧ t.only s [.out] [keyOf O.CHAIN_ADDR_ACT] := by
  have ho := State.only_emit (.chainFrame (beBytes 1 (v.toNat + 1)))
    (State.only_setObj (o := O.CHAIN_ADDR_ACT) (sub := O.CHAIN_ADDR_ACT.lo) v.toNat (s.only_refl [.out] [keyOf O.CHAIN_ADDR_ACT])
      (by decide))
    (by decide)
  refine ⟨_, runKeep_eq hh ((State.enumFrame_given hc hf v.toNat).trans (if_neg (by omega))) ho (by decide), ?_, rfl, ho⟩
  rw [State.emit_obj, State.obj_setObj_same]
  exact Nat.mod_eq_of_lt (show v.toNat < 256 by omega)

theorem chainEnumFrame_full {v : Byte} (hh : s.held = false) (hc : s.chainHead = false) (hf : s.obj O.CHAIN_ADDR = 0)
    (hv : 64 ≤ v.toNat) :
    ∃ t, exec (.chainEnumFrame v) s = .next t ∧ t.obj O.CHAIN_ADDR_ACT = 0 ∧
      t.obj O.DICT_FLAGS = (s.obj O.DICT_FLAGS ||| 4) % 2 ^ 32 ∧
      t.only s (.out :: flagParts) (keyOf O.CHAIN_ADDR_ACT :: flagKeys O.DICT_FLAGS) := by
  have ho := State.only_emit (.chainFrame (beBytes 1 1)) (State.only_setObj (o := O.CHAIN_ADDR_ACT) (sub := O.CHAIN_ADDR_ACT.lo) 0
    (State.only_mono (s.raise_only O.DICT_FLAGS 2 O.DICT_FLAGS.lo) (l' := .out :: flagParts)
      (ks' := keyOf O.CHAIN_ADDR_ACT :: flagKeys O.DICT_FLAGS) (by decide) (by decide)) (by decide)) (by decide)
  refine ⟨_, runKeep_eq hh ((State.enumFrame_given hc hf v.toNat).trans (if_pos hv)) ho (by decide), ?_, ?_, ho⟩
  · rw [State.emit_obj, State.obj_setObj_same]
    rfl
  · rw [State.emit_obj, State.obj_setObj_ne _ _ (by decide), State.raise_dictFlags]
    rfl

theorem chainBreak_raised (hh : s.held = false) (hc : s.chainHead = true) (he : s.falri.enumOut = true) :
    ∃ t, exec .chainBreak s = .next t ∧ t.falri.enumOut = false ∧ t.obj O.DICT_FLAGS = (s.obj O.DICT_FLAGS ||| 8) % 2 ^ 32 ∧
      t.only s (.falri :: flagParts) (flagKeys O.DICT_FLAGS) := by
  have ho := State.only_raise (o := O.DICT_FLAGS) 3 O.DICT_FLAGS.lo (State.only_modFalri' (fun f => { f with enumOut := false })
    (s.only_refl (.falri :: flagParts) (flagKeys O.DICT_FLAGS)) (by decide) rfl) (by decide) (by decide)
  refine ⟨_, runKeep_eq hh (if_pos ⟨hc, he⟩) ho (by decide), ?_, ?_, ho⟩
  · rw [State.only_falri (State.raise_only _ _ _ _) (by decide)]
    rfl
  · rw [State.raise_dictFlags]
    rfl

end Sys2Proof.Machine

open Sys2Proof Sys2Proof.Machine

/-- Settles O37, part by part of the service: each command's effect is named, and its frame is that effect's. -/
theorem falriServicesRun : Obligations.FalriServicesRun := by
  unfold Obligations.FalriServicesRun
  exact ⟨fun s p b hh hb => falriErr_discards hh hb,
    fun s p b m hb ht hop hm => falriErr_answered hb ht hop hm,
    fun s p b m hh hb hop => falriResponse_request hh hb hop,
    fun s p b m q hh hb hop hl hr hq hc => falriResponse_chain hh hb hop hl hr hq hc,
    fun s p h i j v x hh hl hn => notifyReceive_ignored hh hl hn,
    fun s p h i j v x hh hl hr hd hn hm => notifyReceive_held hh hl hr hd hn hm,
    fun s i j hh hn => runKeep_same hh (State.notifySend_none hn),
    fun s i j hh hp hb hr => notifySend_house hh hp hb hr,
    fun s hh => proxyExpire_lapses hh,
    fun s k b hh hb he => readBufferLapse_lapses hh hb he,
    fun s k hh hb => readBufferLapse_stays hh hb,
    fun s hh hg => runKeep_same hh (by simp only [hg]),
    fun s g hh hg he => runKeep_same hh (by simp only [hg, he, Bool.not_false, if_true]),
    fun s g hh hg he => stagingLapse_lapses hh hg he,
    fun s b n hh hb => mailboxGo_bad hh hb,
    fun s b n m h18 h1042 hb hop hc ht => mailboxGo_discover h18 h1042 hb hop hc ht,
    fun s c hh hm => mailboxRelease_none hh hm,
    fun s c hh hm hw hn => mailboxRelease_last hh hm hw hn,
    fun s c m r hh hm hw => mailboxRelease_next hh hm hw,
    fun s hh hc => chainEnumerate_head hh hc,
    fun s hh hc => runKeep_same hh (if_pos (by simp [hc])),
    fun s v hh hc => chainEnumFrame_head hh hc,
    fun s v hh hc hf hv => chainEnumFrame_given hh hc hf hv,
    fun s v hh hc hf hv => chainEnumFrame_full hh hc hf hv,
    fun s hh hc he => chainBreak_raised hh hc he,
    fun s hh hc => runKeep_same hh (if_neg (by simpa [-not_and, Decidable.not_and_iff_or_not] using hc))⟩
end
